-- ==== Sys2Proof/Word.lean ====
section
/-! DEFINITION. The word types of the register fabric and of the device's arithmetic (spec/00_scope.md R9, R11). -/

namespace Sys2Proof

/-- A byte is 8 bits (R9). -/
abbrev Byte := BitVec 8

/-- A word is 32 bits, the width of every register (R9, R604). -/
abbrev Word := BitVec 32

/-- A double word is 64 bits (R9). -/
abbrev DWord := BitVec 64

end Sys2Proof
end

