-- ==== Sys2Proof/Syntax.lean ====
section
/-! DEFINITION. The commands of the AU5120: one constructor of Instr per row of spec/opcode_table.json.
The operands of a command are what the device does not hold itself: which element the event befalls, what a host or a
pin presents, and what an analogue part measures. Everything else a command needs stands in State. -/

namespace Sys2Proof

/-- The two physical functions of the PCI Express endpoint (R352, R357). -/
inductive Func where
  | pf0 | pf1
  deriving DecidableEq, Repr

/-- A requester of the register fabric (R400, R441, R446). -/
inductive Src where
  | pf0 | pf1 | spi
  deriving DecidableEq, Repr

/-- Crate c = 0 to 31 (R4). -/
abbrev CrateId := Fin 32
/-- Channel k = 0 to 15 of a crate (R4). -/
abbrev ChanId := Fin 16
/-- Slice 0 to 16 of a crate, 16 the spare at reset (R6). -/
abbrev SliceId := Fin 17
/-- Emitter e = 0 to 31, and its charge controller (R5). -/
abbrev EmitId := Fin 32
/-- Window monitor m = 0 to 15 (R185). -/
abbrev MonId := Fin 16
/-- Housekeeping sequencer entry j = 0 to 31 (R464). -/
abbrev HkId := Fin 32
/-- Safety input pair i = 0 to 7 (R492). -/
abbrev PairId := Fin 8
/-- Safety output o = 0 to 3 (R501). -/
abbrev OutId := Fin 4
/-- Test-pulse source s = 0 to 3 (R494). -/
abbrev StoId := Fin 4
/-- A ring number (R357). -/
abbrev RingId := BitVec 16

/-- What the capture register of a slice holds for an edge: coarse count k and tap code d (R84). -/
structure Capture where
  k : Nat
  d : Nat
  deriving DecidableEq, Repr

/-- The two ring samples N1 and N2 of one calibration (R87). -/
structure RingCal where
  n1 : Nat
  n2 : Nat
  deriving DecidableEq, Repr

/-- One charge calibration's means z and r, in 1/16 code (R104). -/
structure ChargeCal where
  z : Int
  r : Int
  deriving DecidableEq, Repr

/-- What a crate's self-test measures on one slice (R554): none where a ring gave no sample or a conversion did not end. -/
structure SelfTest where
  tableOk : Bool
  cals : List (Option RingCal)
  charge : Option ChargeCal
  deriving DecidableEq, Repr

/-- What a read of a SECDED-protected memory finds, an uncorrectable error with its word in the buffer (R254, R285, R571). -/
inductive Ecc where
  | clean | corrected | uncorrectable (word : BitVec 8)
  deriving DecidableEq, Repr

/-- What one ambient converter delivers for a frame: the mean current in pA (R54). -/
abbrev AmbientMean := Int

/-- What one channel's test tone measures (R62). -/
structure ToneMeas where
  cap : Nat
  cond : Nat
  deriving DecidableEq, Repr

/-- The block whose two comparators a self-test slot checks (R182, R184). -/
inductive CmpBlock where
  | chg (e : EmitId)
  | wmn (m : MonId)
  deriving DecidableEq, Repr

/-- The sampled outputs of one comparator in a self-test slot, and its live samples around the slot (R183). -/
structure CmpSlot where
  step0 : Bool
  step1 : Bool
  swapped : Bool
  liveBefore : Bool
  liveAfter : Bool
  deriving DecidableEq, Repr

/-- The level that a window monitor's two comparators show (R185). -/
inductive MonLevel where
  | low | high | inside
  deriving DecidableEq, Repr

/-- Why a read of host memory fails when a completion arrives (R392). -/
inductive ReadFail where
  | unsupportedRequest | completerAbort | poisoned
  deriving DecidableEq, Repr

/-- The completion of a read of host memory (R392), its data as bytes in ascending address order (R10). -/
inductive ReadReply where
  | data (bytes : List Byte)
  | failed (r : ReadFail)
  deriving DecidableEq, Repr

/-- An accepted command: its CMD ring, its descriptor's index in that ring, and the ring's generation at that time, so that
a command outlives a ring that is enabled anew (R371, R388). -/
structure CmdRef where
  ring : RingId
  idx : Word
  gen : BitVec 16
  deriving DecidableEq, Repr

/-- What the converters meet in a housekeeping conversion, in picovolts as its filter averages them (R447 to R454): the voltages
of HKA0 to HKA15 against AGND, the on-die sensor's, the voltage across the selected reference resistor in the direction from its
source to its pin, and what HC0 and HC2 add at their own inputs. -/
structure HkConv where
  pins : List Int
  die : Int
  vref : Int
  off0 : Int
  off2 : Int
  deriving DecidableEq, Repr

/-- The sampled levels of the safety pins (R488, R629). -/
structure SafPins where
  sinA : BitVec 8
  sinB : BitVec 8
  srb : BitVec 4
  lenRb : Bool
  srst : Bool
  deriving DecidableEq, Repr

/-- The internal diagnostics of the safety block (R518). -/
inductive Diagnostic where
  | configCrc | rcWindow | tickWatchdog | vectors | parity | supply
  deriving DecidableEq, Repr

/-- Where a supply falls to (R518, R601, R633): below the safety monitor's trip level, and below a retention limit. -/
structure SupplyDip where
  belowSafety : Bool
  belowRetention : Bool
  deriving DecidableEq, Repr

/-- What the host writes to the registers of Advanced Error Reporting (R352): status bits to clear, masks, severity. -/
structure AerWrite where
  uncClear : Word
  uncMask : Word
  uncSeverity : Word
  corClear : Word
  corMask : Word
  deriving DecidableEq, Repr

/-- The fields of configuration space that the host writes (R352, R353, R355, R356, R379, R393, R406). -/
structure CfgSpace where
  bme : Bool
  mse : Bool
  msixEn : Bool
  msixMask : Bool
  cplTmoMs : Nat
  maxPayload : Nat
  maxRead : Nat
  bar0 : DWord
  bar2 : DWord
  bar4 : DWord
  aer : AerWrite
  deriving DecidableEq, Repr

/-- One entry of an MSI-X table (R356, R379). -/
structure MsixEntry where
  addr : DWord
  data : Word
  masked : Bool
  deriving DecidableEq, Repr

/-- What the two slices of a tie-break measure: 256 calibrations of slice j and of the spare (R111). -/
structure TieMeas where
  slice : List (Option RingCal)
  spare : List (Option RingCal)
  deriving DecidableEq, Repr

/-- The retest measurements of one crate (R566): calibrations of each retested slice, and errors of each bank area. -/
structure RetestMeas where
  slices : List (SliceId × List (Option RingCal))
  areas : List (ChanId × Ecc)
  deriving DecidableEq, Repr

/-- A scan of the boundary register (R631): the levels that the board gives the balls that the device does not drive, and what is
shifted in. -/
structure BoundaryScan where
  pins : List Bool
  load : List Bool
  deriving DecidableEq, Repr

/-- A read access to the register map (R358): byte address, size of the request in bytes, and what SECDED finds where it reads a
word of the diagnostic window (R285). -/
structure ReadAccess where
  addr : BitVec 20
  size : Nat
  ecc : Ecc
  deriving DecidableEq, Repr

/-- How the register fabric answers an SPI read (R398): in time for the turnaround or not, and what SECDED finds where it reads a
word of the diagnostic window (R285). -/
structure FabricAnswer where
  inTime : Bool
  ecc : Ecc
  deriving DecidableEq, Repr

/-- The drain of a crate's raw capture (R294), with the words of the bank in which SECDED finds an error (R285). -/
structure RawReads where
  crate : CrateId
  ecc : List (BitVec 13 × Ecc)
  deriving DecidableEq, Repr

/-- The commands and events of the AU5120, in the order of spec/opcode_table.json. -/
inductive Instr where
  -- clocks, resets, power, test access port
  | powerOn
  | resetNAssert (lowNs : Nat)
  | resetNRelease
  | fabricPllLock
  | registerFabricReady
  | safetyBlockReady
  | churnReady
  | housekeepingReady
  | refclkGateEnd (edges : Nat)
  | refclkLost
  | earlyDwellClose
  | timingPllLock
  | xtalLost
  | deviceTimeSync
  | cratePowerRequest (src : Src) (value : Word)
  | cratePowerUpStart (c : CrateId)
  | crateStartingDone (c : CrateId) (tests : List SelfTest)
  | crateStoppingDone (c : CrateId)
  | tapReset
  | jtagExtest (scan : Option BoundaryScan)
  | jtagSamplePreload (pins : List Bool) (preload : List Bool)
  | jtagIdcode
  | jtagBypass
  -- detector channels, time measurement
  | feModeWrite (src : Src) (c : CrateId) (value : Word)
  | crateSettleEnd (c : CrateId)
  | channelSettleEnd (c : CrateId) (k : ChanId)
  | preWindowOpen (c : CrateId) (cals : List (Option RingCal))
  | startEdge (c : CrateId) (lsb : Nat) (caps : List Capture)
  | startTimeout (c : CrateId)
  | blankingEnd (c : CrateId) (above : BitVec 16)
  | discriminatorCrossing (c : CrateId) (k : ChanId) (lsb : Nat) (cap : Capture) (spareCap : Option Capture)
  | rangeSelect (c : CrateId) (k : ChanId) (levelAc : Nat)
  | chargeGateEnd (c : CrateId) (k : ChanId) (heldAc : Int)
  | chargeConversionDone (c : CrateId) (k : ChanId)
  | chargePathReady (c : CrateId) (k : ChanId)
  | mainWindowClose
  | dwellClose (c : CrateId) (retest : RetestMeas)
  | chargeCalDue (c : CrateId)
  | chargeCalDone (c : CrateId) (s : SliceId) (meas : Option ChargeCal)
  | cdBatchEnd (c : CrateId) (s : SliceId)
  | tieBreakEnd (c : CrateId) (meas : TieMeas)
  | ambientFrameEnd (means : List AmbientMean)
  | skimmerFrameProcess
  | toneStart (src : Src) (c : CrateId) (value : Word)
  | toneCheckEnd (c : CrateId) (meas : List ToneMeas)
  -- shot engine, emission
  | loadShotTable (cmd : CmdRef)
  | start (cmd : CmdRef)
  | stop (cmd : CmdRef)
  | angleTrigger
  | delayTrigger
  | shotCommit (binEcc : Ecc)
  | emitterFire (e : EmitId)
  | creditRefill (e : Option EmitId)
  | chargeCycleStart (e : EmitId)
  | currentLimitTrip (e : EmitId)
  | cycleEndSwitchOff (e : EmitId)
  | chargeDone (e : EmitId)
  | topUp (e : EmitId)
  | restEnd (e : EmitId)
  | comparatorSettleEnd (b : CmpBlock) (first second : CmpSlot)
  | comparatorSelfTest (b : CmpBlock) (first second : CmpSlot)
  | chargeTimeout (e : EmitId)
  | windowMonitorChange (m : MonId) (level : MonLevel) (held : Nat) (mv : BitVec 16)
  | dacReadbackDue
  | dacReadbackDone (code : Int)
  | accountantBinRoll (long : Bool)
  | laserPermitChange
  | eyeLockKey (src : Src) (value : Word)
  | eyeLockKeyTimeout
  | eyeLockBurnDone
  -- motor
  | hallCodeChange (code : BitVec 3) (held : Nat)
  | indexEdge (level : Bool) (held : Nat)
  | frameSyncEdge (level : Bool) (held : Nat)
  | indexMissing
  | standstillTimeout
  | roundBoundary
  | sweepBoundary
  | serrPwmPeriod
  | motCfgWrite (src : Src) (value : Word)
  | motStatusRead (src : Src)
  -- Churn
  | descriptorRead (c : CrateId)
  | eventAccumulate (c : CrateId) (ecc : List Ecc)
  | windowCloseRead (c : CrateId)
  | churnDwellBoundary (c : CrateId)
  | channelExtractionDone (c : CrateId) (k : ChanId) (ecc : List Ecc)
  | scrub (c : CrateId) (word : BitVec 13) (ecc : Ecc)
  | histDump (cmd : CmdRef)
  | dumpChannel (c : CrateId) (k : ChanId) (ecc : List Ecc)
  | rawCapture (cmd : CmdRef)
  | rawDrain (drain : RawReads)
  | diagWindowRead (src : Src) (access : ReadAccess)
  | glbDiagPageWrite (src : Src) (value : Word)
  -- host link
  | hostLinkUp (width speed : BitVec 4)
  | perstN
  | functionLevelReset (f : Func)
  | doorbellEnable (f : Func) (ring : RingId) (index : Word) (arm : Bool)
  | doorbellDisable (f : Func) (ring : RingId) (index : Word) (arm : Bool)
  | doorbellReload (f : Func) (ring : RingId) (index : Word) (arm : Bool)
  | doorbellArm (f : Func) (ring : RingId) (index : Word)
  | doorbellIndex (f : Func) (ring : RingId) (index : Word)
  | bar2BadWrite (f : Func)
  | contextFetchDone (ring : RingId)
  | ringDrainDone (ring : RingId)
  | recordWrite
  | ringLoss (ring : RingId)
  | writeBack (ring : RingId)
  | interruptSend (ring : RingId)
  | descriptorFetch
  | completionWrite
  | hostReadCompletion (reply : ReadReply)
  | completionTimeout
  | nop (cmd : CmdRef)
  | fence (cmd : CmdRef)
  | cfgTxn (cmd : CmdRef)
  | snapshot (cmd : CmdRef)
  | hkConvert (cmd : CmdRef)
  | spiWriteFrame (bytes : List Byte)
  | spiReadFrame (bytes : List Byte) (answer : FabricAnswer)
  | spiFrameAbort
  | spiTxnGo (src : Src) (value : Word)
  | eventQueueRead (src : Src)
  | registerWrite (src : Src) (addr : BitVec 20) (size : Nat) (value : Word)
  | loRegisterRead (src : Src) (access : ReadAccess)
  | rcFieldRead (src : Src) (access : ReadAccess)
  | applyInstant
  | snapshotStrobe
  -- housekeeping
  | hkConversionEnd (conv : HkConv)
  | hkLeadEnd
  | hkToneCheckEnd (z : Nat)
  | itempConversionEnd (temp : Int)
  | hkCnowGo (src : Src) (value : Word)
  | hkRestart (src : Src)
  | hkSyncEdge (falling : Bool)
  | hkReset (src : Src)
  | hkResetDone
  | hkResultRead (src : Src) (j : HkId)
  -- safety block
  | safetySample (pins : SafPins)
  | testPulse (s : StoId) (begins : Bool)
  | safetyTick
  | pairStartupDone (i : PairId)
  | discrepancyTimeout (i : PairId)
  | curtainIgnoreEnd (i : PairId) (chanB : Bool)
  | curtainPulseTimeout (i : PairId) (chanB : Bool)
  | srstRelease
  | outputReadbackTimeout (o : OutId)
  | offPulseStart (o : OutId)
  | offPulseEnd (o : OutId)
  | lenReadbackTimeout
  | lenProof
  | estopGateOpen (i : PairId) (chanB : Bool)
  | zoneSummaryClose
  | zoneSummaryArrival (crcOk : Bool)
  | sweepTimeout
  | safetyDiagnostic (d : Diagnostic) (passed : Bool)
  | safUnlockKey (src : Src) (value : Word)
  | safUnlockKeyTimeout
  | safUnlockAbort (src : Src)
  | configTimeout
  | safCommit (src : Src) (crc : Word)
  | safOtpKey (src : Src) (key : Byte)
  | safOtpKeyTimeout
  | safOtpBurnDone
  | safPairReset (src : Src) (pairs : BitVec 8)
  | clrOut (src : Src) (outs : BitVec 4)
  | clrZone (src : Src)
  | clrLen (src : Src)
  | safetyReport
  -- fault manager
  | strike
  | fltLogClear (src : Src) (value : Word)
  | fltLogSelect (src : Src) (value : Word)
  | fltLogRead (src : Src)
  | discriminatorFall (c : CrateId) (k : ChanId)
  | linkDown
  | configSpaceWrite (f : Func) (cfg : CfgSpace)
  | msixTableWrite (f : Func) (vector : BitVec 11) (entry : MsixEntry)
  | estopGateClose (i : PairId) (chanB : Bool)
  | supplyFall (dip : SupplyDip)
  deriving DecidableEq, Repr

end Sys2Proof
end

