-- ==== Sys2Proof/Decode.lean ====
section
/-! DEFINITION. Commands spelled by the table's bits. -/

namespace Sys2Proof

/-- The command that a word spells by the bits of spec/opcode_table.json. The table gives no row any bits (the device is
a block that takes commands, and every row's list of fields is empty), so no word spells a command. -/
def decodeTableWord (_nbits _w : Nat) : Option Instr := none

end Sys2Proof
end

