-- ==== Sys2Proof/Config.lean ====
section
/-! DEFINITION. What one part's factory fixes, and the free values: constants without a body, so that no statement can
rest on a value of theirs. Each is named in a row of notes/assumptions. -/

namespace Sys2Proof.Config

/-- The 64-bit number unique to the device (R613). -/
opaque uid : DWord
/-- The factory value of HK_RREF0 and HK_RREF1, 0.01 Ω per LSB (R474). -/
opaque rref : Nat → BitVec 24
/-- The device's own dither seed (R139). -/
opaque ditherSeed : Word
/-- Entry i of the factory tap table of slice s of crate c (R92). -/
opaque factoryTap : Nat → Nat → Nat → BitVec 16
/-- The factory taps per period, unsigned 8.8, of slice s of crate c (R92, R119). -/
opaque factoryP : Nat → Nat → BitVec 16
/-- The factory insertion delay in taps, unsigned 8.8, of slice s of crate c (R92, R119). -/
opaque factoryIns : Nat → Nat → BitVec 16
/-- The factory route-skew correction of crate c's spare for channel k, in 1/16 LSB (R96). -/
opaque routeSkew : Nat → Nat → Int
/-- Subsystem Vendor ID and Subsystem ID (R354). -/
opaque subsystem : Word
/-- Free: whether a RESET_N low of 1 µs to 10 µs is taken as a reset (R596), for the n-th such low. -/
opaque shortResetTaken : Nat → Bool
/-- Free: whether a standard deviation of n calibrations with n² times the variance v, which is no whole number of 1/16 tap,
is shown as the code above it (R125 gives no rounding). -/
opaque tbSdUp : Nat → Nat → Bool
/-- Free: whether a deviation of d parts of f, which is no whole number of per cent, is shown as the percentage above it (R125
gives no rounding). -/
opaque tbCdUp : Nat → Nat → Bool
/-- The factory-calibrated code of mode ITEMP for the on-die sensor's voltage in pV (R449). -/
opaque itempCode : Int → Int
/-- Free: the code of a resistance mode where the voltage across the reference resistor is 0, for a sense voltage in pV (R449
gives the quotient no value there). -/
opaque hkNoRef : Int → Int
/-- The factory calibration of mode ITEMP: the value in 0.001 °C for a code D (R449, R458). -/
opaque itempCurve : Int → Int
/-- Free: the value to which a curve is rounded at 0.001 °C (R458: "to the value's resolution") where the manual's worked example
leaves the choice: whether the n-th such value takes the upper of its two neighbours. -/
opaque curveRoundsUp : Nat → Bool
/-- Free: where no rule states an order or a value, the n-th choice (R644, R54 and others named in the log). -/
opaque freeBit : Nat → Bool
/-- Free: a value that the manual states for no register, the n-th of them. -/
opaque freeWord : Nat → Word

end Sys2Proof.Config
end

