-- ==== Sys2Proof/Machine/Sparse.lean ====
section
/-! DEFINITION. Tables of many like things (registers, bytes of memory, channels, slices, rings), held as a list of
(index, value) pairs with strictly rising indices and no pair equal to what an unlisted index holds. -/

namespace Sys2Proof.Machine

/-- A table with an index for every natural number: what is unlisted holds a value of its own (`dflt`). -/
abbrev Sparse (α : Type) := List (Nat × α)

/-- The value at index i; an unlisted index holds dflt i. -/
def sparseGet {α : Type} (dflt : Nat → α) : Sparse α → Nat → α
  | [], i => dflt i
  | (j, v) :: t, i => if j = i then v else sparseGet dflt t i

/-- Put (i, v) at its place among rising indices. -/
def sparseInsert {α : Type} (i : Nat) (v : α) : Sparse α → Sparse α
  | [] => [(i, v)]
  | (j, w) :: t => if i < j then (i, v) :: (j, w) :: t else (j, w) :: sparseInsert i v t

/-- Remove what is listed for i. -/
def sparseErase {α : Type} (i : Nat) (m : Sparse α) : Sparse α :=
  m.filter (fun p => p.1 != i)

/-- Write v at index i; writing what an unlisted index holds removes the pair. -/
def sparseSet {α : Type} [DecidableEq α] (dflt : Nat → α) (m : Sparse α) (i : Nat) (v : α) : Sparse α :=
  if v = dflt i then sparseErase i m else sparseInsert i v (sparseErase i m)

/-- The indices rise strictly and lie above the bound. -/
def sparseRising {α : Type} : Option Nat → Sparse α → Bool
  | _, [] => true
  | b, (j, _) :: t => (match b with | none => true | some n => decide (n < j)) && sparseRising (some j) t

/-- The canonical form: indices rise strictly, and no pair repeats what an unlisted index holds. -/
def sparseWf {α : Type} [DecidableEq α] (dflt : Nat → α) (m : Sparse α) : Bool :=
  sparseRising none m && m.all (fun p => decide (p.2 ≠ dflt p.1))

end Sys2Proof.Machine
end

