-- ==== Sys2Proof/Machine/RegMap.lean ====
section
/-! DEFINITION. The register map: where every register and every field lies (spec/15_register_map.md R604, R605 and the
register tables of the block chapters). 204 register families, 15,405 registers (R626). -/

namespace Sys2Proof.Machine

/-- A field of a register: the register's byte address, its lowest bit, its width (R9, R604). -/
structure FRef where
  addr : Nat
  lsb : Nat
  width : Nat
  deriving DecidableEq, Repr

/-- CRT_FE (R67). -/
def CRT_FE (c : Nat) : Nat := 0x10010 + 0x1000 * c
def CRT_FE_fe_mode (c : Nat) : FRef := ⟨CRT_FE c, 0, 1⟩

/-- CRT_BIAS_TRK (R68). -/
def CRT_BIAS_TRK (c : Nat) : Nat := 0x10014 + 0x1000 * c
def CRT_BIAS_TRK_trk_en (c : Nat) : FRef := ⟨CRT_BIAS_TRK c, 24, 1⟩
def CRT_BIAS_TRK_trk_src (c : Nat) : FRef := ⟨CRT_BIAS_TRK c, 16, 5⟩
def CRT_BIAS_TRK_trk_coeff (c : Nat) : FRef := ⟨CRT_BIAS_TRK c, 0, 16⟩

/-- CRT_BIAS_TREF (R69). -/
def CRT_BIAS_TREF (c : Nat) : Nat := 0x10018 + 0x1000 * c
def CRT_BIAS_TREF_tref (c : Nat) : FRef := ⟨CRT_BIAS_TREF c, 0, 16⟩

/-- CRT_FE_STAT (R70). -/
def CRT_FE_STAT (c : Nat) : Nat := 0x1001c + 0x1000 * c
def CRT_FE_STAT_trk_offset (c : Nat) : FRef := ⟨CRT_FE_STAT c, 8, 8⟩
def CRT_FE_STAT_trk_hold (c : Nat) : FRef := ⟨CRT_FE_STAT c, 2, 1⟩
def CRT_FE_STAT_settling (c : Nat) : FRef := ⟨CRT_FE_STAT c, 1, 1⟩
def CRT_FE_STAT_quiet (c : Nat) : FRef := ⟨CRT_FE_STAT c, 0, 1⟩

/-- CRT_TONE_CAP (R71). -/
def CRT_TONE_CAP (c : Nat) : Nat := 0x10020 + 0x1000 * c
def CRT_TONE_CAP_cap_max (c : Nat) : FRef := ⟨CRT_TONE_CAP c, 16, 12⟩
def CRT_TONE_CAP_cap_min (c : Nat) : FRef := ⟨CRT_TONE_CAP c, 0, 12⟩

/-- CRT_TONE_CTL (R72). -/
def CRT_TONE_CTL (c : Nat) : Nat := 0x10024 + 0x1000 * c
def CRT_TONE_CTL_g_max (c : Nat) : FRef := ⟨CRT_TONE_CTL c, 8, 8⟩
def CRT_TONE_CTL_done (c : Nat) : FRef := ⟨CRT_TONE_CTL c, 2, 1⟩
def CRT_TONE_CTL_busy (c : Nat) : FRef := ⟨CRT_TONE_CTL c, 1, 1⟩
def CRT_TONE_CTL_start (c : Nat) : FRef := ⟨CRT_TONE_CTL c, 0, 1⟩

/-- CHN_FE_CFG (R73). -/
def CHN_FE_CFG (c : Nat) (k : Nat) : Nat := 0x10400 + 0x1000 * c + 0x40 * k
def CHN_FE_CFG_fe_en (c : Nat) (k : Nat) : FRef := ⟨CHN_FE_CFG c k, 0, 1⟩

/-- CHN_THR (R74). -/
def CHN_THR (c : Nat) (k : Nat) : Nat := 0x10404 + 0x1000 * c + 0x40 * k
def CHN_THR_thr_eff (c : Nat) (k : Nat) : FRef := ⟨CHN_THR c k, 16, 8⟩
def CHN_THR_thr (c : Nat) (k : Nat) : FRef := ⟨CHN_THR c k, 0, 8⟩

/-- CHN_BIAS (R75). -/
def CHN_BIAS (c : Nat) (k : Nat) : Nat := 0x10408 + 0x1000 * c + 0x40 * k
def CHN_BIAS_clamped (c : Nat) (k : Nat) : FRef := ⟨CHN_BIAS c k, 24, 1⟩
def CHN_BIAS_trim_eff (c : Nat) (k : Nat) : FRef := ⟨CHN_BIAS c k, 16, 8⟩
def CHN_BIAS_trim (c : Nat) (k : Nat) : FRef := ⟨CHN_BIAS c k, 0, 8⟩

/-- CHN_AMB (R76). -/
def CHN_AMB (c : Nat) (k : Nat) : Nat := 0x1040c + 0x1000 * c + 0x40 * k
def CHN_AMB_valid (c : Nat) (k : Nat) : FRef := ⟨CHN_AMB c k, 31, 1⟩
def CHN_AMB_under (c : Nat) (k : Nat) : FRef := ⟨CHN_AMB c k, 29, 1⟩
def CHN_AMB_over (c : Nat) (k : Nat) : FRef := ⟨CHN_AMB c k, 28, 1⟩
def CHN_AMB_amb (c : Nat) (k : Nat) : FRef := ⟨CHN_AMB c k, 0, 20⟩

/-- CHN_FE_STAT (R77). -/
def CHN_FE_STAT (c : Nat) (k : Nat) : Nat := 0x10410 + 0x1000 * c + 0x40 * k
def CHN_FE_STAT_blank_held (c : Nat) (k : Nat) : FRef := ⟨CHN_FE_STAT c k, 16, 8⟩
def CHN_FE_STAT_ar_count (c : Nat) (k : Nat) : FRef := ⟨CHN_FE_STAT c k, 3, 5⟩
def CHN_FE_STAT_ar_range (c : Nat) (k : Nat) : FRef := ⟨CHN_FE_STAT c k, 0, 2⟩

/-- CHN_TONE (R78). -/
def CHN_TONE (c : Nat) (k : Nat) : Nat := 0x10414 + 0x1000 * c + 0x40 * k
def CHN_TONE_valid (c : Nat) (k : Nat) : FRef := ⟨CHN_TONE c k, 31, 1⟩
def CHN_TONE_verdict (c : Nat) (k : Nat) : FRef := ⟨CHN_TONE c k, 20, 2⟩
def CHN_TONE_cond (c : Nat) (k : Nat) : FRef := ⟨CHN_TONE c k, 12, 8⟩
def CHN_TONE_cap (c : Nat) (k : Nat) : FRef := ⟨CHN_TONE c k, 0, 12⟩

/-- CRT_TDC_CFG (R114). -/
def CRT_TDC_CFG (c : Nat) : Nat := 0x10040 + 0x1000 * c
def CRT_TDC_CFG_emon_tmo (c : Nat) : FRef := ⟨CRT_TDC_CFG c, 24, 8⟩
def CRT_TDC_CFG_cal_avg (c : Nat) : FRef := ⟨CRT_TDC_CFG c, 16, 3⟩
def CRT_TDC_CFG_cd_batch (c : Nat) : FRef := ⟨CRT_TDC_CFG c, 8, 5⟩
def CRT_TDC_CFG_cd_src (c : Nat) : FRef := ⟨CRT_TDC_CFG c, 4, 1⟩
def CRT_TDC_CFG_pre_max (c : Nat) : FRef := ⟨CRT_TDC_CFG c, 0, 4⟩

/-- CRT_EVF_STAT (R115). -/
def CRT_EVF_STAT (c : Nat) : Nat := 0x10044 + 0x1000 * c
def CRT_EVF_STAT_drop_ct (c : Nat) : FRef := ⟨CRT_EVF_STAT c, 16, 16⟩
def CRT_EVF_STAT_hwm (c : Nat) : FRef := ⟨CRT_EVF_STAT c, 0, 9⟩

/-- CRT_SPR_CFG (R116). -/
def CRT_SPR_CFG (c : Nat) : Nat := 0x10048 + 0x1000 * c
def CRT_SPR_CFG_ccal_s (c : Nat) : FRef := ⟨CRT_SPR_CFG c, 24, 8⟩
def CRT_SPR_CFG_slack (c : Nat) : FRef := ⟨CRT_SPR_CFG c, 16, 4⟩
def CRT_SPR_CFG_tol (c : Nat) : FRef := ⟨CRT_SPR_CFG c, 8, 8⟩
def CRT_SPR_CFG_ccal_en (c : Nat) : FRef := ⟨CRT_SPR_CFG c, 1, 1⟩
def CRT_SPR_CFG_shadow_en (c : Nat) : FRef := ⟨CRT_SPR_CFG c, 0, 1⟩

/-- CRT_SPR_STAT (R117). -/
def CRT_SPR_STAT (c : Nat) : Nat := 0x1004c + 0x1000 * c
def CRT_SPR_STAT_mm_ct (c : Nat) : FRef := ⟨CRT_SPR_STAT c, 24, 8⟩
def CRT_SPR_STAT_target (c : Nat) : FRef := ⟨CRT_SPR_STAT c, 16, 4⟩
def CRT_SPR_STAT_ccal_next (c : Nat) : FRef := ⟨CRT_SPR_STAT c, 12, 4⟩
def CRT_SPR_STAT_role (c : Nat) : FRef := ⟨CRT_SPR_STAT c, 0, 3⟩

/-- CRT_SPR_CTL (R118). -/
def CRT_SPR_CTL (c : Nat) : Nat := 0x10050 + 0x1000 * c
def CRT_SPR_CTL_clr_suspect (c : Nat) : FRef := ⟨CRT_SPR_CTL c, 0, 1⟩

/-- TDC_CAL (R119). -/
def TDC_CAL (c : Nat) (s : Nat) : Nat := 0x10100 + 0x1000 * c + 0x20 * s
def TDC_CAL_ins_est (c : Nat) (s : Nat) : FRef := ⟨TDC_CAL c s, 16, 16⟩
def TDC_CAL_p_est (c : Nat) (s : Nat) : FRef := ⟨TDC_CAL c s, 0, 16⟩

/-- TDC_CAL_STAT (R120). -/
def TDC_CAL_STAT (c : Nat) (s : Nat) : Nat := 0x10104 + 0x1000 * c + 0x20 * s
def TDC_CAL_STAT_skip_ct (c : Nat) (s : Nat) : FRef := ⟨TDC_CAL_STAT c s, 16, 16⟩
def TDC_CAL_STAT_rej_ct (c : Nat) (s : Nat) : FRef := ⟨TDC_CAL_STAT c s, 8, 8⟩
def TDC_CAL_STAT_bad_run (c : Nat) (s : Nat) : FRef := ⟨TDC_CAL_STAT c s, 0, 4⟩

/-- TDC_QCAL (R121). -/
def TDC_QCAL (c : Nat) (s : Nat) : Nat := 0x10108 + 0x1000 * c + 0x20 * s
def TDC_QCAL_q_gain (c : Nat) (s : Nat) : FRef := ⟨TDC_QCAL c s, 16, 16⟩
def TDC_QCAL_q_off (c : Nat) (s : Nat) : FRef := ⟨TDC_QCAL c s, 0, 16⟩

/-- TDC_EV_STAT (R122). -/
def TDC_EV_STAT (c : Nat) (s : Nat) : Nat := 0x1010c + 0x1000 * c + 0x20 * s
def TDC_EV_STAT_coarse_ovf (c : Nat) (s : Nat) : FRef := ⟨TDC_EV_STAT c s, 24, 8⟩
def TDC_EV_STAT_early_drop (c : Nat) (s : Nat) : FRef := ⟨TDC_EV_STAT c s, 16, 8⟩
def TDC_EV_STAT_excess (c : Nat) (s : Nat) : FRef := ⟨TDC_EV_STAT c s, 8, 8⟩
def TDC_EV_STAT_dt_merged (c : Nat) (s : Nat) : FRef := ⟨TDC_EV_STAT c s, 0, 8⟩

/-- TDC_STATE (R123). -/
def TDC_STATE (c : Nat) (s : Nat) : Nat := 0x10110 + 0x1000 * c + 0x20 * s
def TDC_STATE_tb_cd_fail (c : Nat) (s : Nat) : FRef := ⟨TDC_STATE c s, 17, 1⟩
def TDC_STATE_tb_cal_fail (c : Nat) (s : Nat) : FRef := ⟨TDC_STATE c s, 16, 1⟩
def TDC_STATE_chan (c : Nat) (s : Nat) : FRef := ⟨TDC_STATE c s, 8, 4⟩
def TDC_STATE_role (c : Nat) (s : Nat) : FRef := ⟨TDC_STATE c s, 0, 3⟩

/-- TDC_CD_STAT (R124). -/
def TDC_CD_STAT (c : Nat) (s : Nat) : Nat := 0x10114 + 0x1000 * c + 0x20 * s
def TDC_CD_STAT_batches (c : Nat) (s : Nat) : FRef := ⟨TDC_CD_STAT c s, 16, 16⟩
def TDC_CD_STAT_cd_rej (c : Nat) (s : Nat) : FRef := ⟨TDC_CD_STAT c s, 8, 8⟩

/-- TDC_TB (R125). -/
def TDC_TB (c : Nat) (s : Nat) : Nat := 0x10118 + 0x1000 * c + 0x20 * s
def TDC_TB_tb_p_mean (c : Nat) (s : Nat) : FRef := ⟨TDC_TB c s, 16, 16⟩
def TDC_TB_tb_p_sd (c : Nat) (s : Nat) : FRef := ⟨TDC_TB c s, 8, 8⟩
def TDC_TB_tb_cd_dev (c : Nat) (s : Nat) : FRef := ⟨TDC_TB c s, 0, 8⟩

/-- SHT_CFG (R156). -/
def SHT_CFG : Nat := 0x5000
def SHT_CFG_fct : FRef := ⟨SHT_CFG, 0, 2⟩

/-- SHT_STATUS (R157). -/
def SHT_STATUS : Nat := 0x5004
def SHT_STATUS_entry : FRef := ⟨SHT_STATUS, 16, 13⟩
def SHT_STATUS_swap_at_rnd : FRef := ⟨SHT_STATUS, 6, 1⟩
def SHT_STATUS_swap_pend : FRef := ⟨SHT_STATUS, 5, 1⟩
def SHT_STATUS_act_bank : FRef := ⟨SHT_STATUS, 4, 1⟩
def SHT_STATUS_state : FRef := ⟨SHT_STATUS, 0, 3⟩

/-- SHT_BANK_LEN (R158). -/
def SHT_BANK_LEN : Nat := 0x5008
def SHT_BANK_LEN_stg_len : FRef := ⟨SHT_BANK_LEN, 16, 14⟩
def SHT_BANK_LEN_act_len : FRef := ⟨SHT_BANK_LEN, 0, 14⟩

/-- SHT_SWAP_RND (R159). -/
def SHT_SWAP_RND : Nat := 0x500c
def SHT_SWAP_RND_round : FRef := ⟨SHT_SWAP_RND, 0, 16⟩

/-- SHT_DITHER (R160). -/
def SHT_DITHER : Nat := 0x5010
def SHT_DITHER_amp : FRef := ⟨SHT_DITHER, 0, 15⟩

/-- SHT_DITHER_SEED (R161). -/
def SHT_DITHER_SEED : Nat := 0x5014
def SHT_DITHER_SEED_seed : FRef := ⟨SHT_DITHER_SEED, 0, 32⟩

/-- SHT_DITHER_HOP (R162). -/
def SHT_DITHER_HOP : Nat := 0x5018
def SHT_DITHER_HOP_key : FRef := ⟨SHT_DITHER_HOP, 0, 32⟩

/-- SHT_DITHER_CTL (R163). -/
def SHT_DITHER_CTL : Nat := 0x501c
def SHT_DITHER_CTL_hops : FRef := ⟨SHT_DITHER_CTL, 16, 16⟩
def SHT_DITHER_CTL_hop : FRef := ⟨SHT_DITHER_CTL, 0, 1⟩

/-- SHT_SKIP (R164). -/
def SHT_SKIP : Nat := 0x5020
def SHT_SKIP_skip : FRef := ⟨SHT_SKIP, 0, 32⟩

/-- SHT_HOLD (R165). -/
def SHT_HOLD : Nat := 0x5024
def SHT_HOLD_missed : FRef := ⟨SHT_HOLD, 16, 16⟩
def SHT_HOLD_holds : FRef := ⟨SHT_HOLD, 0, 16⟩

/-- SHT_SYNC (R166). -/
def SHT_SYNC : Nat := 0x5028
def SHT_SYNC_pw : FRef := ⟨SHT_SYNC, 8, 8⟩
def SHT_SYNC_mode : FRef := ⟨SHT_SYNC, 0, 2⟩

/-- SHT_SHOTS_LO (R167). -/
def SHT_SHOTS_LO : Nat := 0x5030
def SHT_SHOTS_LO_shots : FRef := ⟨SHT_SHOTS_LO, 0, 32⟩

/-- SHT_SHOTS_HI (R167). -/
def SHT_SHOTS_HI : Nat := 0x5034
def SHT_SHOTS_HI_shots : FRef := ⟨SHT_SHOTS_HI, 0, 32⟩

/-- SHT_WPROF_A (R168). -/
def SHT_WPROF_A (p : Nat) : Nat := 0x5100 + 0x8 * p
def SHT_WPROF_A_blank (p : Nat) : FRef := ⟨SHT_WPROF_A p, 16, 6⟩
def SHT_WPROF_A_main_len (p : Nat) : FRef := ⟨SHT_WPROF_A p, 0, 11⟩

/-- SHT_WPROF_B (R169). -/
def SHT_WPROF_B (p : Nat) : Nat := 0x5104 + 0x8 * p
def SHT_WPROF_B_split_n (p : Nat) : FRef := ⟨SHT_WPROF_B p, 16, 12⟩
def SHT_WPROF_B_fmode (p : Nat) : FRef := ⟨SHT_WPROF_B p, 8, 2⟩
def SHT_WPROF_B_fbin (p : Nat) : FRef := ⟨SHT_WPROF_B p, 4, 3⟩
def SHT_WPROF_B_cbin (p : Nat) : FRef := ⟨SHT_WPROF_B p, 0, 3⟩

/-- EMT_CFG (R170). -/
def EMT_CFG (e : Nat) : Nat := 0x6000 + 0x40 * e
def EMT_CFG_pw (e : Nat) : FRef := ⟨EMT_CFG e, 8, 5⟩
def EMT_CFG_en (e : Nat) : FRef := ⟨EMT_CFG e, 0, 1⟩

/-- EMT_SKEW (R171). -/
def EMT_SKEW (e : Nat) : Nat := 0x6004 + 0x40 * e
def EMT_SKEW_skew (e : Nat) : FRef := ⟨EMT_SKEW e, 0, 10⟩

/-- EMT_CRATE_MAP (R172). -/
def EMT_CRATE_MAP (e : Nat) : Nat := 0x6008 + 0x40 * e
def EMT_CRATE_MAP_none (e : Nat) : FRef := ⟨EMT_CRATE_MAP e, 8, 1⟩
def EMT_CRATE_MAP_crate (e : Nat) : FRef := ⟨EMT_CRATE_MAP e, 0, 5⟩

/-- EMT_STAT (R173). -/
def EMT_STAT (e : Nat) : Nat := 0x600c + 0x40 * e
def EMT_STAT_veto (e : Nat) : FRef := ⟨EMT_STAT e, 24, 8⟩
def EMT_STAT_rate (e : Nat) : FRef := ⟨EMT_STAT e, 16, 8⟩
def EMT_STAT_late (e : Nat) : FRef := ⟨EMT_STAT e, 8, 8⟩
def EMT_STAT_off (e : Nat) : FRef := ⟨EMT_STAT e, 0, 8⟩

/-- EMT_FIRED (R174). -/
def EMT_FIRED (e : Nat) : Nat := 0x6010 + 0x40 * e
def EMT_FIRED_fired (e : Nat) : FRef := ⟨EMT_FIRED e, 0, 32⟩

/-- CHG_CFG (R196). -/
def CHG_CFG (e : Nat) : Nat := 0x6020 + 0x40 * e
def CHG_CFG_en (e : Nat) : FRef := ⟨CHG_CFG e, 31, 1⟩
def CHG_CFG_st_every (e : Nat) : FRef := ⟨CHG_CFG e, 20, 8⟩
def CHG_CFG_rest (e : Nat) : FRef := ⟨CHG_CFG e, 16, 4⟩
def CHG_CFG_leb (e : Nat) : FRef := ⟨CHG_CFG e, 10, 6⟩
def CHG_CFG_period (e : Nat) : FRef := ⟨CHG_CFG e, 0, 10⟩

/-- CHG_LIM (R197). -/
def CHG_LIM (e : Nat) : Nat := 0x6024 + 0x40 * e
def CHG_LIM_tmo (e : Nat) : FRef := ⟨CHG_LIM e, 16, 12⟩
def CHG_LIM_slope (e : Nat) : FRef := ⟨CHG_LIM e, 8, 4⟩
def CHG_LIM_ilim (e : Nat) : FRef := ⟨CHG_LIM e, 0, 8⟩

/-- CHG_LVL_A (R198). -/
def CHG_LVL_A (e : Nat) : Nat := 0x6028 + 0x40 * e
def CHG_LVL_A_lvl_hi (e : Nat) : FRef := ⟨CHG_LVL_A e, 20, 10⟩
def CHG_LVL_A_lvl_mid (e : Nat) : FRef := ⟨CHG_LVL_A e, 10, 10⟩
def CHG_LVL_A_lvl_lo (e : Nat) : FRef := ⟨CHG_LVL_A e, 0, 10⟩

/-- CHG_LVL_B (R198). -/
def CHG_LVL_B (e : Nat) : Nat := 0x602c + 0x40 * e
def CHG_LVL_B_lvl_hi (e : Nat) : FRef := ⟨CHG_LVL_B e, 20, 10⟩
def CHG_LVL_B_lvl_mid (e : Nat) : FRef := ⟨CHG_LVL_B e, 10, 10⟩
def CHG_LVL_B_lvl_lo (e : Nat) : FRef := ⟨CHG_LVL_B e, 0, 10⟩

/-- CHG_LVL_C (R198). -/
def CHG_LVL_C (e : Nat) : Nat := 0x6030 + 0x40 * e
def CHG_LVL_C_lvl_mid (e : Nat) : FRef := ⟨CHG_LVL_C e, 10, 10⟩
def CHG_LVL_C_lvl_lo (e : Nat) : FRef := ⟨CHG_LVL_C e, 0, 10⟩

/-- CHG_STAT (R199). -/
def CHG_STAT (e : Nat) : Nat := 0x6034 + 0x40 * e
def CHG_STAT_topup (e : Nat) : FRef := ⟨CHG_STAT e, 24, 8⟩
def CHG_STAT_tmo_ct (e : Nat) : FRef := ⟨CHG_STAT e, 16, 8⟩
def CHG_STAT_done (e : Nat) : FRef := ⟨CHG_STAT e, 3, 1⟩
def CHG_STAT_state (e : Nat) : FRef := ⟨CHG_STAT e, 0, 3⟩

/-- CHG_RB (R200). -/
def CHG_RB (e : Nat) : Nat := 0x6038 + 0x40 * e
def CHG_RB_valid (e : Nat) : FRef := ⟨CHG_RB e, 31, 1⟩
def CHG_RB_mism (e : Nat) : FRef := ⟨CHG_RB e, 30, 1⟩
def CHG_RB_code (e : Nat) : FRef := ⟨CHG_RB e, 16, 10⟩
def CHG_RB_meas (e : Nat) : FRef := ⟨CHG_RB e, 0, 12⟩

/-- CHG_ST (R201). -/
def CHG_ST (e : Nat) : Nat := 0x603c + 0x40 * e
def CHG_ST_st_fail (e : Nat) : FRef := ⟨CHG_ST e, 16, 8⟩
def CHG_ST_st_pass (e : Nat) : FRef := ⟨CHG_ST e, 0, 16⟩

/-- CHG_RB_CFG (R202). -/
def CHG_RB_CFG : Nat := 0x6900
def CHG_RB_CFG_rb_en : FRef := ⟨CHG_RB_CFG, 31, 1⟩
def CHG_RB_CFG_interval : FRef := ⟨CHG_RB_CFG, 0, 8⟩

/-- WMN_CFG (R203). -/
def WMN_CFG (m : Nat) : Nat := 0x6800 + 0x10 * m
def WMN_CFG_st_ms (m : Nat) : FRef := ⟨WMN_CFG m, 16, 8⟩
def WMN_CFG_filt (m : Nat) : FRef := ⟨WMN_CFG m, 8, 8⟩
def WMN_CFG_permit (m : Nat) : FRef := ⟨WMN_CFG m, 1, 1⟩
def WMN_CFG_en (m : Nat) : FRef := ⟨WMN_CFG m, 0, 1⟩

/-- WMN_LIM (R204). -/
def WMN_LIM (m : Nat) : Nat := 0x6804 + 0x10 * m
def WMN_LIM_hi (m : Nat) : FRef := ⟨WMN_LIM m, 16, 10⟩
def WMN_LIM_lo (m : Nat) : FRef := ⟨WMN_LIM m, 0, 10⟩

/-- WMN_STAT (R205). -/
def WMN_STAT (m : Nat) : Nat := 0x6808 + 0x10 * m
def WMN_STAT_rb_mism (m : Nat) : FRef := ⟨WMN_STAT m, 31, 1⟩
def WMN_STAT_st_fail (m : Nat) : FRef := ⟨WMN_STAT m, 16, 8⟩
def WMN_STAT_exits (m : Nat) : FRef := ⟨WMN_STAT m, 8, 8⟩
def WMN_STAT_state (m : Nat) : FRef := ⟨WMN_STAT m, 0, 3⟩

/-- EYE_CAP (R206). -/
def EYE_CAP (e : Nat) : Nat := 0x7800 + 0x4 * e
def EYE_CAP_ratio (e : Nat) : FRef := ⟨EYE_CAP e, 16, 16⟩
def EYE_CAP_cap (e : Nat) : FRef := ⟨EYE_CAP e, 0, 16⟩

/-- EYE_LIM_1MS (R207). -/
def EYE_LIM_1MS : Nat := 0x7880
def EYE_LIM_1MS_lim : FRef := ⟨EYE_LIM_1MS, 0, 32⟩

/-- EYE_LIM_100MS (R207). -/
def EYE_LIM_100MS : Nat := 0x7884
def EYE_LIM_100MS_lim : FRef := ⟨EYE_LIM_100MS, 0, 32⟩

/-- EYE_LIM_SEC (R207). -/
def EYE_LIM_SEC : Nat := 0x7888
def EYE_LIM_SEC_lim : FRef := ⟨EYE_LIM_SEC, 0, 32⟩

/-- EYE_SPD (R208). -/
def EYE_SPD : Nat := 0x788c
def EYE_SPD_max : FRef := ⟨EYE_SPD, 16, 16⟩
def EYE_SPD_min : FRef := ⟨EYE_SPD, 0, 16⟩

/-- EYE_SPD_CFG (R209). -/
def EYE_SPD_CFG : Nat := 0x7890
def EYE_SPD_CFG_code_max : FRef := ⟨EYE_SPD_CFG, 16, 10⟩
def EYE_SPD_CFG_dir : FRef := ⟨EYE_SPD_CFG, 0, 1⟩

/-- EYE_LOCK (R210). -/
def EYE_LOCK : Nat := 0x7894
def EYE_LOCK_crc : FRef := ⟨EYE_LOCK, 16, 16⟩
def EYE_LOCK_key : FRef := ⟨EYE_LOCK, 8, 8⟩
def EYE_LOCK_state : FRef := ⟨EYE_LOCK, 0, 2⟩

/-- EYE_STAT (R211). -/
def EYE_STAT : Nat := 0x7898
def EYE_STAT_wd_ct : FRef := ⟨EYE_STAT, 16, 16⟩
def EYE_STAT_cause : FRef := ⟨EYE_STAT, 1, 7⟩
def EYE_STAT_permit : FRef := ⟨EYE_STAT, 0, 1⟩

/-- EYE_VETO (R212). -/
def EYE_VETO : Nat := 0x789c
def EYE_VETO_sec : FRef := ⟨EYE_VETO, 16, 8⟩
def EYE_VETO_w100 : FRef := ⟨EYE_VETO, 8, 8⟩
def EYE_VETO_w1 : FRef := ⟨EYE_VETO, 0, 8⟩

/-- EYE_PEAK (R213). -/
def EYE_PEAK : Nat := 0x78a0
def EYE_PEAK_sec : FRef := ⟨EYE_PEAK, 16, 8⟩
def EYE_PEAK_w100 : FRef := ⟨EYE_PEAK, 8, 8⟩
def EYE_PEAK_w1 : FRef := ⟨EYE_PEAK, 0, 8⟩

/-- MOT_CFG (R240). -/
def MOT_CFG : Nat := 0x7000
def MOT_CFG_rev : FRef := ⟨MOT_CFG, 4, 1⟩
def MOT_CFG_pp : FRef := ⟨MOT_CFG, 0, 4⟩

/-- MOT_FILT (R241). -/
def MOT_FILT : Nat := 0x7004
def MOT_FILT_n_idx : FRef := ⟨MOT_FILT, 16, 10⟩
def MOT_FILT_n_hall : FRef := ⟨MOT_FILT, 0, 10⟩

/-- MOT_TMO (R242). -/
def MOT_TMO : Nat := 0x7008
def MOT_TMO_jump : FRef := ⟨MOT_TMO, 16, 8⟩
def MOT_TMO_stand_ms : FRef := ⟨MOT_TMO, 0, 10⟩

/-- MOT_IDX_CFG (R243). -/
def MOT_IDX_CFG : Nat := 0x700c
def MOT_IDX_CFG_idx_en : FRef := ⟨MOT_IDX_CFG, 31, 1⟩
def MOT_IDX_CFG_pol : FRef := ⟨MOT_IDX_CFG, 30, 1⟩
def MOT_IDX_CFG_tol : FRef := ⟨MOT_IDX_CFG, 16, 8⟩
def MOT_IDX_CFG_ofs : FRef := ⟨MOT_IDX_CFG, 0, 16⟩

/-- MOT_FSYNC (R244). -/
def MOT_FSYNC : Nat := 0x7010
def MOT_FSYNC_en : FRef := ⟨MOT_FSYNC, 31, 1⟩
def MOT_FSYNC_ofs : FRef := ⟨MOT_FSYNC, 0, 16⟩

/-- MOT_SERR_CFG (R245). -/
def MOT_SERR_CFG : Nat := 0x7014
def MOT_SERR_CFG_out_en : FRef := ⟨MOT_SERR_CFG, 31, 1⟩
def MOT_SERR_CFG_gain : FRef := ⟨MOT_SERR_CFG, 16, 8⟩
def MOT_SERR_CFG_set : FRef := ⟨MOT_SERR_CFG, 0, 16⟩

/-- MOT_STATUS (R246). -/
def MOT_STATUS : Nat := 0x7020
def MOT_STATUS_seg : FRef := ⟨MOT_STATUS, 16, 7⟩
def MOT_STATUS_code : FRef := ⟨MOT_STATUS, 8, 3⟩
def MOT_STATUS_permit : FRef := ⟨MOT_STATUS, 7, 1⟩
def MOT_STATUS_ang_valid : FRef := ⟨MOT_STATUS, 6, 1⟩
def MOT_STATUS_aligned : FRef := ⟨MOT_STATUS, 5, 1⟩
def MOT_STATUS_dir_chg : FRef := ⟨MOT_STATUS, 4, 1⟩
def MOT_STATUS_dir : FRef := ⟨MOT_STATUS, 3, 1⟩
def MOT_STATUS_state : FRef := ⟨MOT_STATUS, 0, 3⟩

/-- MOT_SPEED (R247). -/
def MOT_SPEED : Nat := 0x7024
def MOT_SPEED_spd : FRef := ⟨MOT_SPEED, 0, 32⟩

/-- MOT_PERIOD (R248). -/
def MOT_PERIOD : Nat := 0x7028
def MOT_PERIOD_period : FRef := ⟨MOT_PERIOD, 0, 32⟩

/-- MOT_ANGLE (R249). -/
def MOT_ANGLE : Nat := 0x702c
def MOT_ANGLE_valid : FRef := ⟨MOT_ANGLE, 31, 1⟩
def MOT_ANGLE_angle : FRef := ⟨MOT_ANGLE, 0, 24⟩

/-- MOT_ROUND (R250). -/
def MOT_ROUND : Nat := 0x7030
def MOT_ROUND_round : FRef := ⟨MOT_ROUND, 0, 16⟩

/-- MOT_SERR (R251). -/
def MOT_SERR : Nat := 0x7034
def MOT_SERR_high : FRef := ⟨MOT_SERR, 16, 11⟩
def MOT_SERR_err : FRef := ⟨MOT_SERR, 0, 16⟩

/-- MOT_ERR_A (R252). -/
def MOT_ERR_A : Nat := 0x7038
def MOT_ERR_A_illegal : FRef := ⟨MOT_ERR_A, 24, 8⟩
def MOT_ERR_A_inv_code : FRef := ⟨MOT_ERR_A, 16, 8⟩
def MOT_ERR_A_slip : FRef := ⟨MOT_ERR_A, 8, 8⟩
def MOT_ERR_A_idx_miss : FRef := ⟨MOT_ERR_A, 0, 8⟩

/-- MOT_ERR_B (R253). -/
def MOT_ERR_B : Nat := 0x703c
def MOT_ERR_B_stand_ct : FRef := ⟨MOT_ERR_B, 16, 16⟩
def MOT_ERR_B_rev_ct : FRef := ⟨MOT_ERR_B, 8, 8⟩
def MOT_ERR_B_jump_ct : FRef := ⟨MOT_ERR_B, 0, 8⟩

/-- CHU_PEAK_CFG (R296). -/
def CHU_PEAK_CFG (c : Nat) : Nat := 0x10800 + 0x1000 * c
def CHU_PEAK_CFG_min_net (c : Nat) : FRef := ⟨CHU_PEAK_CFG c, 24, 8⟩
def CHU_PEAK_CFG_conf_min (c : Nat) : FRef := ⟨CHU_PEAK_CFG c, 16, 8⟩
def CHU_PEAK_CFG_cand_min (c : Nat) : FRef := ⟨CHU_PEAK_CFG c, 8, 8⟩
def CHU_PEAK_CFG_fhw (c : Nat) : FRef := ⟨CHU_PEAK_CFG c, 4, 4⟩
def CHU_PEAK_CFG_sep (c : Nat) : FRef := ⟨CHU_PEAK_CFG c, 0, 3⟩

/-- CHU_STAT (R297). -/
def CHU_STAT (c : Nat) : Nat := 0x10804 + 0x1000 * c
def CHU_STAT_late_ct (c : Nat) : FRef := ⟨CHU_STAT c, 24, 8⟩
def CHU_STAT_zoom_miss (c : Nat) : FRef := ⟨CHU_STAT c, 16, 8⟩
def CHU_STAT_beyond (c : Nat) : FRef := ⟨CHU_STAT c, 0, 16⟩

/-- CHU_ECC (R298). -/
def CHU_ECC (c : Nat) : Nat := 0x10808 + 0x1000 * c
def CHU_ECC_ce_ct (c : Nat) : FRef := ⟨CHU_ECC c, 16, 16⟩
def CHU_ECC_ue_ct (c : Nat) : FRef := ⟨CHU_ECC c, 8, 8⟩
def CHU_ECC_ue_seen (c : Nat) : FRef := ⟨CHU_ECC c, 4, 1⟩
def CHU_ECC_ue_chan (c : Nat) : FRef := ⟨CHU_ECC c, 0, 4⟩

/-- CHU_XTIME (R299). -/
def CHU_XTIME (c : Nat) : Nat := 0x1080c + 0x1000 * c
def CHU_XTIME_max (c : Nat) : FRef := ⟨CHU_XTIME c, 16, 16⟩
def CHU_XTIME_last (c : Nat) : FRef := ⟨CHU_XTIME c, 0, 16⟩

/-- CHU_DUMP_STAT (R300). -/
def CHU_DUMP_STAT (c : Nat) : Nat := 0x10810 + 0x1000 * c
def CHU_DUMP_STAT_dumped (c : Nat) : FRef := ⟨CHU_DUMP_STAT c, 16, 16⟩
def CHU_DUMP_STAT_raw_active (c : Nat) : FRef := ⟨CHU_DUMP_STAT c, 1, 1⟩
def CHU_DUMP_STAT_dump_active (c : Nat) : FRef := ⟨CHU_DUMP_STAT c, 0, 1⟩

/-- CHU_DESC_STAT (R301). -/
def CHU_DESC_STAT (c : Nat) : Nat := 0x10814 + 0x1000 * c
def CHU_DESC_STAT_full_ct (c : Nat) : FRef := ⟨CHU_DESC_STAT c, 16, 16⟩
def CHU_DESC_STAT_fill (c : Nat) : FRef := ⟨CHU_DESC_STAT c, 0, 4⟩

/-- CHU_OFS (R302). -/
def CHU_OFS (c : Nat) (k : Nat) : Nat := 0x10840 + 0x1000 * c + 0x4 * k
def CHU_OFS_ofs (c : Nat) (k : Nat) : FRef := ⟨CHU_OFS c k, 0, 20⟩

/-- CHU_FWIN (R303). -/
def CHU_FWIN (c : Nat) (k : Nat) (n : Nat) : Nat := 0x10880 + 0x1000 * c + 0x10 * k + 0x4 * n
def CHU_FWIN_en (c : Nat) (k : Nat) (n : Nat) : FRef := ⟨CHU_FWIN c k n, 31, 1⟩
def CHU_FWIN_start (c : Nat) (k : Nat) (n : Nat) : FRef := ⟨CHU_FWIN c k n, 0, 17⟩

/-- CHU_FPOS (R304). -/
def CHU_FPOS (c : Nat) (k : Nat) (n : Nat) : Nat := 0x10980 + 0x1000 * c + 0x10 * k + 0x4 * n
def CHU_FPOS_placed (c : Nat) (k : Nat) (n : Nat) : FRef := ⟨CHU_FPOS c k n, 31, 1⟩
def CHU_FPOS_start (c : Nat) (k : Nat) (n : Nat) : FRef := ⟨CHU_FPOS c k n, 0, 17⟩

/-- SKM_CFG (R331). -/
def SKM_CFG : Nat := 0x9000
def SKM_CFG_sun_en : FRef := ⟨SKM_CFG, 5, 1⟩
def SKM_CFG_bias_en : FRef := ⟨SKM_CFG, 4, 1⟩
def SKM_CFG_thr_en : FRef := ⟨SKM_CFG, 3, 1⟩
def SKM_CFG_tint : FRef := ⟨SKM_CFG, 0, 2⟩

/-- SKM_TINT_USER (R332). -/
def SKM_TINT_USER : Nat := 0x9004
def SKM_TINT_USER_len : FRef := ⟨SKM_TINT_USER, 0, 16⟩

/-- SKM_THR_LAW (R333). -/
def SKM_THR_LAW : Nat := 0x9008
def SKM_THR_LAW_gain : FRef := ⟨SKM_THR_LAW, 20, 8⟩
def SKM_THR_LAW_knee : FRef := ⟨SKM_THR_LAW, 0, 20⟩

/-- SKM_RATE (R334). -/
def SKM_RATE : Nat := 0x900c
def SKM_RATE_dmax : FRef := ⟨SKM_RATE, 16, 8⟩
def SKM_RATE_thr_dn : FRef := ⟨SKM_RATE, 8, 8⟩
def SKM_RATE_thr_up : FRef := ⟨SKM_RATE, 0, 8⟩

/-- SKM_BIAS_LAW (R335). -/
def SKM_BIAS_LAW : Nat := 0x9010
def SKM_BIAS_LAW_bgain : FRef := ⟨SKM_BIAS_LAW, 20, 8⟩
def SKM_BIAS_LAW_bknee : FRef := ⟨SKM_BIAS_LAW, 0, 20⟩

/-- SKM_SUN_ON (R336). -/
def SKM_SUN_ON : Nat := 0x9014
def SKM_SUN_ON_sun_step : FRef := ⟨SKM_SUN_ON, 20, 8⟩
def SKM_SUN_ON_sun_on : FRef := ⟨SKM_SUN_ON, 0, 20⟩

/-- SKM_SUN_OFF (R337). -/
def SKM_SUN_OFF : Nat := 0x9018
def SKM_SUN_OFF_sun_hold : FRef := ⟨SKM_SUN_OFF, 20, 8⟩
def SKM_SUN_OFF_sun_off : FRef := ⟨SKM_SUN_OFF, 0, 20⟩

/-- SKM_LIM (R338). -/
def SKM_LIM : Nat := 0x901c
def SKM_LIM_bmax : FRef := ⟨SKM_LIM, 8, 8⟩
def SKM_LIM_excl : FRef := ⟨SKM_LIM, 0, 4⟩

/-- STR_CFG (R339). -/
def STR_CFG : Nat := 0x9400
def STR_CFG_wx_cut : FRef := ⟨STR_CFG, 24, 8⟩
def STR_CFG_spread : FRef := ⟨STR_CFG, 16, 5⟩
def STR_CFG_a_min : FRef := ⟨STR_CFG, 8, 8⟩
def STR_CFG_bs_en : FRef := ⟨STR_CFG, 0, 1⟩

/-- STR_WX (R340). -/
def STR_WX : Nat := 0x9404
def STR_WX_off : FRef := ⟨STR_WX, 24, 5⟩
def STR_WX_on : FRef := ⟨STR_WX, 16, 5⟩
def STR_WX_near : FRef := ⟨STR_WX, 8, 8⟩
def STR_WX_frac : FRef := ⟨STR_WX, 0, 8⟩

/-- STR_WIN (R341). -/
def STR_WIN : Nat := 0x9408
def STR_WIN_zone_end : FRef := ⟨STR_WIN, 8, 10⟩
def STR_WIN_every : FRef := ⟨STR_WIN, 0, 8⟩

/-- STR_WIN_LVL (R342). -/
def STR_WIN_LVL : Nat := 0x940c
def STR_WIN_LVL_dirty : FRef := ⟨STR_WIN_LVL, 8, 8⟩
def STR_WIN_LVL_clean : FRef := ⟨STR_WIN_LVL, 0, 8⟩

/-- STR_SHAPE (R343). -/
def STR_SHAPE (i : Nat) : Nat := 0x9420 + 0x4 * i
def STR_SHAPE_s3 (i : Nat) : FRef := ⟨STR_SHAPE i, 24, 8⟩
def STR_SHAPE_s2 (i : Nat) : FRef := ⟨STR_SHAPE i, 16, 8⟩
def STR_SHAPE_s1 (i : Nat) : FRef := ⟨STR_SHAPE i, 8, 8⟩
def STR_SHAPE_s0 (i : Nat) : FRef := ⟨STR_SHAPE i, 0, 8⟩

/-- SEP_CFG (R344). -/
def SEP_CFG : Nat := 0x9800
def SEP_CFG_cut : FRef := ⟨SEP_CFG, 16, 8⟩
def SEP_CFG_frac : FRef := ⟨SEP_CFG, 8, 8⟩
def SEP_CFG_hop_en : FRef := ⟨SEP_CFG, 4, 1⟩
def SEP_CFG_k : FRef := ⟨SEP_CFG, 0, 4⟩

/-- SEP_RATE (R345). -/
def SEP_RATE : Nat := 0x9804
def SEP_RATE_slope : FRef := ⟨SEP_RATE, 16, 16⟩
def SEP_RATE_base : FRef := ⟨SEP_RATE, 0, 16⟩

/-- SEP_LIM (R346). -/
def SEP_LIM : Nat := 0x9808
def SEP_LIM_gap : FRef := ⟨SEP_LIM, 24, 8⟩
def SEP_LIM_hop : FRef := ⟨SEP_LIM, 16, 8⟩
def SEP_LIM_flag_off : FRef := ⟨SEP_LIM, 8, 8⟩
def SEP_LIM_flag_on : FRef := ⟨SEP_LIM, 0, 8⟩

/-- SEP_STAT (R347). -/
def SEP_STAT : Nat := 0x980c
def SEP_STAT_chan : FRef := ⟨SEP_STAT, 16, 9⟩
def SEP_STAT_req : FRef := ⟨SEP_STAT, 0, 16⟩

/-- SKM_CH (R348). -/
def SKM_CH (c : Nat) (k : Nat) : Nat := 0x10c00 + 0x1000 * c + 0x4 * k
def SKM_CH_sun (c : Nat) (k : Nat) : FRef := ⟨SKM_CH c k, 24, 1⟩
def SKM_CH_sun_ct (c : Nat) (k : Nat) : FRef := ⟨SKM_CH c k, 16, 8⟩
def SKM_CH_skm_ofs (c : Nat) (k : Nat) : FRef := ⟨SKM_CH c k, 8, 8⟩
def SKM_CH_skm_thr (c : Nat) (k : Nat) : FRef := ⟨SKM_CH c k, 0, 8⟩

/-- STR_CH (R349). -/
def STR_CH (c : Nat) (k : Nat) : Nat := 0x10c40 + 0x1000 * c + 0x4 * k
def STR_CH_fit (c : Nat) (k : Nat) : FRef := ⟨STR_CH c k, 17, 1⟩
def STR_CH_dirty (c : Nat) (k : Nat) : FRef := ⟨STR_CH c k, 16, 1⟩
def STR_CH_wl (c : Nat) (k : Nat) : FRef := ⟨STR_CH c k, 0, 16⟩

/-- SEP_CH (R350). -/
def SEP_CH (c : Nat) (k : Nat) : Nat := 0x10c80 + 0x1000 * c + 0x4 * k
def SEP_CH_foreign (c : Nat) (k : Nat) : FRef := ⟨SEP_CH c k, 16, 1⟩
def SEP_CH_fr (c : Nat) (k : Nat) : FRef := ⟨SEP_CH c k, 0, 16⟩

/-- STR_CRT (R351). -/
def STR_CRT (c : Nat) : Nat := 0x10cc0 + 0x1000 * c
def STR_CRT_probes (c : Nat) : FRef := ⟨STR_CRT c, 24, 8⟩
def STR_CRT_weather (c : Nat) : FRef := ⟨STR_CRT c, 16, 1⟩
def STR_CRT_dens (c : Nat) : FRef := ⟨STR_CRT c, 0, 9⟩

/-- HIF_FN_CFG (R404). -/
def HIF_FN_CFG (f : Nat) : Nat := 0x2000 + 0x100 * f
def HIF_FN_CFG_evt_ring (f : Nat) : FRef := ⟨HIF_FN_CFG f, 0, 16⟩

/-- HIF_CTX_BASE_LO (R405). -/
def HIF_CTX_BASE_LO (f : Nat) : Nat := 0x2004 + 0x100 * f
def HIF_CTX_BASE_LO_base_lo (f : Nat) : FRef := ⟨HIF_CTX_BASE_LO f, 6, 26⟩

/-- HIF_CTX_BASE_HI (R405). -/
def HIF_CTX_BASE_HI (f : Nat) : Nat := 0x2008 + 0x100 * f
def HIF_CTX_BASE_HI_base_hi (f : Nat) : FRef := ⟨HIF_CTX_BASE_HI f, 0, 32⟩

/-- HIF_FN_STAT (R406). -/
def HIF_FN_STAT (f : Nat) : Nat := 0x200c + 0x100 * f
def HIF_FN_STAT_flr_ct (f : Nat) : FRef := ⟨HIF_FN_STAT f, 24, 8⟩
def HIF_FN_STAT_bme (f : Nat) : FRef := ⟨HIF_FN_STAT f, 2, 1⟩
def HIF_FN_STAT_msix_en (f : Nat) : FRef := ⟨HIF_FN_STAT f, 1, 1⟩
def HIF_FN_STAT_ready (f : Nat) : FRef := ⟨HIF_FN_STAT f, 0, 1⟩

/-- HIF_FN_ERR (R407). -/
def HIF_FN_ERR (f : Nat) : Nat := 0x2010 + 0x100 * f
def HIF_FN_ERR_db_bad (f : Nat) : FRef := ⟨HIF_FN_ERR f, 24, 8⟩
def HIF_FN_ERR_dma_err (f : Nat) : FRef := ⟨HIF_FN_ERR f, 16, 8⟩
def HIF_FN_ERR_cpl_tmo (f : Nat) : FRef := ⟨HIF_FN_ERR f, 8, 8⟩
def HIF_FN_ERR_evt_drop (f : Nat) : FRef := ⟨HIF_FN_ERR f, 0, 8⟩

/-- HIF_LINK (R408). -/
def HIF_LINK : Nat := 0x2200
def HIF_LINK_up : FRef := ⟨HIF_LINK, 8, 1⟩
def HIF_LINK_width : FRef := ⟨HIF_LINK, 4, 4⟩
def HIF_LINK_speed : FRef := ⟨HIF_LINK, 0, 4⟩

/-- RNG_CACHE (R409). -/
def RNG_CACHE : Nat := 0x2204
def RNG_CACHE_miss_ct : FRef := ⟨RNG_CACHE, 16, 16⟩
def RNG_CACHE_evict_ct : FRef := ⟨RNG_CACHE, 0, 16⟩

/-- RNG_MISROUTE (R410). -/
def RNG_MISROUTE : Nat := 0x2208
def RNG_MISROUTE_last_ring : FRef := ⟨RNG_MISROUTE, 16, 16⟩
def RNG_MISROUTE_ct : FRef := ⟨RNG_MISROUTE, 0, 16⟩

/-- HIF_SPI_CFG (R411). -/
def HIF_SPI_CFG : Nat := 0x2300
def HIF_SPI_CFG_evq_en : FRef := ⟨HIF_SPI_CFG, 7, 1⟩
def HIF_SPI_CFG_ta : FRef := ⟨HIF_SPI_CFG, 0, 2⟩

/-- HIF_SPI_STAT (R412). -/
def HIF_SPI_STAT : Nat := 0x2304
def HIF_SPI_STAT_crc_err : FRef := ⟨HIF_SPI_STAT, 24, 8⟩
def HIF_SPI_STAT_abort : FRef := ⟨HIF_SPI_STAT, 16, 8⟩
def HIF_SPI_STAT_refused : FRef := ⟨HIF_SPI_STAT, 8, 8⟩
def HIF_SPI_STAT_retry : FRef := ⟨HIF_SPI_STAT, 0, 8⟩

/-- HIF_IRQ_EN (R413). -/
def HIF_IRQ_EN : Nat := 0x2308
def HIF_IRQ_EN_safety : FRef := ⟨HIF_IRQ_EN, 5, 1⟩
def HIF_IRQ_EN_hk : FRef := ⟨HIF_IRQ_EN, 4, 1⟩
def HIF_IRQ_EN_stxn : FRef := ⟨HIF_IRQ_EN, 3, 1⟩
def HIF_IRQ_EN_fault : FRef := ⟨HIF_IRQ_EN, 2, 1⟩
def HIF_IRQ_EN_ready : FRef := ⟨HIF_IRQ_EN, 1, 1⟩
def HIF_IRQ_EN_evq : FRef := ⟨HIF_IRQ_EN, 0, 1⟩

/-- HIF_IRQ_STAT (R413). -/
def HIF_IRQ_STAT : Nat := 0x230c
def HIF_IRQ_STAT_safety : FRef := ⟨HIF_IRQ_STAT, 5, 1⟩
def HIF_IRQ_STAT_hk : FRef := ⟨HIF_IRQ_STAT, 4, 1⟩
def HIF_IRQ_STAT_stxn : FRef := ⟨HIF_IRQ_STAT, 3, 1⟩
def HIF_IRQ_STAT_fault : FRef := ⟨HIF_IRQ_STAT, 2, 1⟩
def HIF_IRQ_STAT_ready : FRef := ⟨HIF_IRQ_STAT, 1, 1⟩
def HIF_IRQ_STAT_evq : FRef := ⟨HIF_IRQ_STAT, 0, 1⟩

/-- HIF_EVQ_DATA (R414). -/
def HIF_EVQ_DATA : Nat := 0x2310
def HIF_EVQ_DATA_data : FRef := ⟨HIF_EVQ_DATA, 0, 32⟩

/-- HIF_EVQ_STAT (R414). -/
def HIF_EVQ_STAT : Nat := 0x2314
def HIF_EVQ_STAT_lost : FRef := ⟨HIF_EVQ_STAT, 8, 8⟩
def HIF_EVQ_STAT_fill : FRef := ⟨HIF_EVQ_STAT, 0, 6⟩

/-- HIF_STXN_CTL (R415). -/
def HIF_STXN_CTL : Nat := 0x2320
def HIF_STXN_CTL_round : FRef := ⟨HIF_STXN_CTL, 16, 16⟩
def HIF_STXN_CTL_apply : FRef := ⟨HIF_STXN_CTL, 14, 2⟩
def HIF_STXN_CTL_count : FRef := ⟨HIF_STXN_CTL, 0, 9⟩

/-- HIF_STXN_STAT (R416). -/
def HIF_STXN_STAT : Nat := 0x2324
def HIF_STXN_STAT_epoch : FRef := ⟨HIF_STXN_STAT, 16, 16⟩
def HIF_STXN_STAT_busy : FRef := ⟨HIF_STXN_STAT, 8, 1⟩
def HIF_STXN_STAT_status : FRef := ⟨HIF_STXN_STAT, 0, 8⟩

/-- HIF_STXN_GO (R417). -/
def HIF_STXN_GO : Nat := 0x2328
def HIF_STXN_GO_go : FRef := ⟨HIF_STXN_GO, 31, 1⟩

/-- HIF_STXN_ADDR (R418). -/
def HIF_STXN_ADDR (i : Nat) : Nat := 0x2400 + 0x10 * i
def HIF_STXN_ADDR_addr (i : Nat) : FRef := ⟨HIF_STXN_ADDR i, 2, 18⟩

/-- HIF_STXN_MASK (R418). -/
def HIF_STXN_MASK (i : Nat) : Nat := 0x2404 + 0x10 * i
def HIF_STXN_MASK_mask (i : Nat) : FRef := ⟨HIF_STXN_MASK i, 0, 32⟩

/-- HIF_STXN_VAL (R418). -/
def HIF_STXN_VAL (i : Nat) : Nat := 0x2408 + 0x10 * i
def HIF_STXN_VAL_val (i : Nat) : FRef := ⟨HIF_STXN_VAL i, 0, 32⟩

/-- GLB_EPOCH (R444). -/
def GLB_EPOCH : Nat := 0x100
def GLB_EPOCH_epoch : FRef := ⟨GLB_EPOCH, 0, 32⟩

/-- GLB_TXN_STAT (R445). -/
def GLB_TXN_STAT : Nat := 0x104
def GLB_TXN_STAT_last_status : FRef := ⟨GLB_TXN_STAT, 24, 8⟩
def GLB_TXN_STAT_rej_ct : FRef := ⟨GLB_TXN_STAT, 16, 8⟩
def GLB_TXN_STAT_pending : FRef := ⟨GLB_TXN_STAT, 0, 8⟩

/-- GLB_WR_REFUSE (R446). -/
def GLB_WR_REFUSE : Nat := 0x108
def GLB_WR_REFUSE_src : FRef := ⟨GLB_WR_REFUSE, 30, 2⟩
def GLB_WR_REFUSE_ct : FRef := ⟨GLB_WR_REFUSE, 20, 10⟩
def GLB_WR_REFUSE_addr : FRef := ⟨GLB_WR_REFUSE, 2, 18⟩

/-- HK_CFG (R473). -/
def HK_CFG : Nat := 0x8000
def HK_CFG_tone_every : FRef := ⟨HK_CFG, 24, 8⟩
def HK_CFG_cjo : FRef := ⟨HK_CFG, 16, 8⟩
def HK_CFG_sync_pol : FRef := ⟨HK_CFG, 3, 1⟩
def HK_CFG_sync_en : FRef := ⟨HK_CFG, 2, 1⟩

/-- HK_RREF0 (R474). -/
def HK_RREF0 : Nat := 0x8004
def HK_RREF0_rref : FRef := ⟨HK_RREF0, 0, 24⟩

/-- HK_RREF1 (R474). -/
def HK_RREF1 : Nat := 0x8008
def HK_RREF1_rref : FRef := ⟨HK_RREF1, 0, 24⟩

/-- HK_NTC (R475). -/
def HK_NTC : Nat := 0x800c
def HK_NTC_beta : FRef := ⟨HK_NTC, 0, 16⟩

/-- HK_CHK (R476). -/
def HK_CHK : Nat := 0x8010
def HK_CHK_tol : FRef := ⟨HK_CHK, 0, 24⟩

/-- HK_TONE (R477). -/
def HK_TONE : Nat := 0x8014
def HK_TONE_zo : FRef := ⟨HK_TONE, 20, 12⟩
def HK_TONE_zh : FRef := ⟨HK_TONE, 8, 12⟩
def HK_TONE_zs : FRef := ⟨HK_TONE, 0, 8⟩

/-- HK_CTL (R478). -/
def HK_CTL : Nat := 0x8018
def HK_CTL_reset : FRef := ⟨HK_CTL, 1, 1⟩
def HK_CTL_restart : FRef := ⟨HK_CTL, 0, 1⟩

/-- HK_CNOW (R479). -/
def HK_CNOW : Nat := 0x801c
def HK_CNOW_go : FRef := ⟨HK_CNOW, 31, 1⟩
def HK_CNOW_busy : FRef := ⟨HK_CNOW, 30, 1⟩
def HK_CNOW_done : FRef := ⟨HK_CNOW, 29, 1⟩
def HK_CNOW_aborted : FRef := ⟨HK_CNOW, 28, 1⟩
def HK_CNOW_entry : FRef := ⟨HK_CNOW, 0, 5⟩

/-- HK_STAT (R480). -/
def HK_STAT : Nat := 0x8020
def HK_STAT_pass : FRef := ⟨HK_STAT, 16, 16⟩
def HK_STAT_entry : FRef := ⟨HK_STAT, 8, 5⟩
def HK_STAT_state : FRef := ⟨HK_STAT, 0, 3⟩

/-- HK_ITEMP (R481). -/
def HK_ITEMP : Nat := 0x8024
def HK_ITEMP_valid : FRef := ⟨HK_ITEMP, 31, 1⟩
def HK_ITEMP_temp : FRef := ⟨HK_ITEMP, 0, 24⟩

/-- HK_URG (R482). -/
def HK_URG : Nat := 0x8028
def HK_URG_rb_ct : FRef := ⟨HK_URG, 16, 16⟩
def HK_URG_cnv_ct : FRef := ⟨HK_URG, 8, 8⟩
def HK_URG_fill : FRef := ⟨HK_URG, 0, 3⟩

/-- HK_ERR (R483). -/
def HK_ERR : Nat := 0x802c
def HK_ERR_chk_mm : FRef := ⟨HK_ERR, 24, 8⟩
def HK_ERR_exc_err : FRef := ⟨HK_ERR, 16, 8⟩
def HK_ERR_sync_merge : FRef := ⟨HK_ERR, 8, 8⟩
def HK_ERR_abort : FRef := ⟨HK_ERR, 0, 8⟩

/-- HK_ENT (R484). -/
def HK_ENT (j : Nat) : Nat := 0x8100 + 0x4 * j
def HK_ENT_wall (j : Nat) : FRef := ⟨HK_ENT j, 31, 1⟩
def HK_ENT_tone (j : Nat) : FRef := ⟨HK_ENT j, 30, 1⟩
def HK_ENT_chk (j : Nat) : FRef := ⟨HK_ENT j, 29, 1⟩
def HK_ENT_curve (j : Nat) : FRef := ⟨HK_ENT j, 26, 3⟩
def HK_ENT_delay (j : Nat) : FRef := ⟨HK_ENT j, 22, 4⟩
def HK_ENT_ref (j : Nat) : FRef := ⟨HK_ENT j, 21, 1⟩
def HK_ENT_rep (j : Nat) : FRef := ⟨HK_ENT j, 18, 3⟩
def HK_ENT_filt (j : Nat) : FRef := ⟨HK_ENT j, 17, 1⟩
def HK_ENT_per (j : Nat) : FRef := ⟨HK_ENT j, 15, 2⟩
def HK_ENT_swap (j : Nat) : FRef := ⟨HK_ENT j, 14, 1⟩
def HK_ENT_exc (j : Nat) : FRef := ⟨HK_ENT j, 11, 3⟩
def HK_ENT_mode (j : Nat) : FRef := ⟨HK_ENT j, 8, 3⟩
def HK_ENT_n (j : Nat) : FRef := ⟨HK_ENT j, 4, 4⟩
def HK_ENT_p (j : Nat) : FRef := ⟨HK_ENT j, 0, 4⟩

/-- HK_UTAB (R485). -/
def HK_UTAB (i : Nat) : Nat := 0x8200 + 0x4 * i
def HK_UTAB_y (i : Nat) : FRef := ⟨HK_UTAB i, 16, 16⟩
def HK_UTAB_x (i : Nat) : FRef := ⟨HK_UTAB i, 0, 16⟩

/-- HK_RES_V (R486). -/
def HK_RES_V (j : Nat) : Nat := 0x8300 + 0x8 * j
def HK_RES_V_value (j : Nat) : FRef := ⟨HK_RES_V j, 0, 32⟩

/-- HK_RES_S (R487). -/
def HK_RES_S (j : Nat) : Nat := 0x8304 + 0x8 * j
def HK_RES_S_valid (j : Nat) : FRef := ⟨HK_RES_S j, 31, 1⟩
def HK_RES_S_over (j : Nat) : FRef := ⟨HK_RES_S j, 30, 1⟩
def HK_RES_S_under (j : Nat) : FRef := ⟨HK_RES_S j, 29, 1⟩
def HK_RES_S_urg (j : Nat) : FRef := ⟨HK_RES_S j, 28, 1⟩
def HK_RES_S_chk_mm (j : Nat) : FRef := ⟨HK_RES_S j, 27, 1⟩
def HK_RES_S_exc_err (j : Nat) : FRef := ⟨HK_RES_S j, 26, 1⟩
def HK_RES_S_verdict (j : Nat) : FRef := ⟨HK_RES_S j, 24, 2⟩
def HK_RES_S_settle (j : Nat) : FRef := ⟨HK_RES_S j, 22, 2⟩
def HK_RES_S_pass (j : Nat) : FRef := ⟨HK_RES_S j, 0, 16⟩

/-- SAF_STAT (R527). -/
def SAF_STAT : Nat := 0xa000
def SAF_STAT_ifault : FRef := ⟨SAF_STAT, 24, 8⟩
def SAF_STAT_state : FRef := ⟨SAF_STAT, 16, 3⟩
def SAF_STAT_spd : FRef := ⟨SAF_STAT, 9, 1⟩
def SAF_STAT_len_fault : FRef := ⟨SAF_STAT, 8, 1⟩
def SAF_STAT_len_rb : FRef := ⟨SAF_STAT, 7, 1⟩
def SAF_STAT_len_drv : FRef := ⟨SAF_STAT, 6, 1⟩
def SAF_STAT_len_gate : FRef := ⟨SAF_STAT, 5, 1⟩
def SAF_STAT_len_dem : FRef := ⟨SAF_STAT, 4, 1⟩
def SAF_STAT_cfg_src : FRef := ⟨SAF_STAT, 1, 1⟩
def SAF_STAT_cfg_valid : FRef := ⟨SAF_STAT, 0, 1⟩

/-- SAF_UNLOCK (R528). -/
def SAF_UNLOCK : Nat := 0xa004
def SAF_UNLOCK_abort : FRef := ⟨SAF_UNLOCK, 24, 1⟩
def SAF_UNLOCK_cstat : FRef := ⟨SAF_UNLOCK, 20, 4⟩
def SAF_UNLOCK_owner : FRef := ⟨SAF_UNLOCK, 16, 2⟩
def SAF_UNLOCK_key : FRef := ⟨SAF_UNLOCK, 0, 16⟩

/-- SAF_COMMIT (R529). -/
def SAF_COMMIT : Nat := 0xa008
def SAF_COMMIT_crc : FRef := ⟨SAF_COMMIT, 0, 32⟩

/-- SAF_CTL (R530). -/
def SAF_CTL : Nat := 0xa00c
def SAF_CTL_otp_state : FRef := ⟨SAF_CTL, 16, 2⟩
def SAF_CTL_otp_key : FRef := ⟨SAF_CTL, 8, 8⟩

/-- SAF_CRC (R531). -/
def SAF_CRC : Nat := 0xa010
def SAF_CRC_crc : FRef := ⟨SAF_CRC, 0, 32⟩

/-- SAF_TICK (R531). -/
def SAF_TICK : Nat := 0xa014
def SAF_TICK_tick : FRef := ⟨SAF_TICK, 0, 32⟩

/-- SAF_CMD (R532). -/
def SAF_CMD : Nat := 0xa018
def SAF_CMD_clr_len : FRef := ⟨SAF_CMD, 14, 1⟩
def SAF_CMD_clr_zone : FRef := ⟨SAF_CMD, 12, 1⟩
def SAF_CMD_clr_out : FRef := ⟨SAF_CMD, 8, 4⟩
def SAF_CMD_rst : FRef := ⟨SAF_CMD, 0, 8⟩

/-- SAF_GLB (R533). -/
def SAF_GLB : Nat := 0xa020
def SAF_GLB_startup : FRef := ⟨SAF_GLB, 24, 8⟩
def SAF_GLB_rep : FRef := ⟨SAF_GLB, 16, 8⟩
def SAF_GLB_seal : FRef := ⟨SAF_GLB, 13, 1⟩
def SAF_GLB_rep_en : FRef := ⟨SAF_GLB, 12, 1⟩
def SAF_GLB_ring : FRef := ⟨SAF_GLB, 0, 12⟩

/-- SAF_ZN_GLB (R534). -/
def SAF_ZN_GLB : Nat := 0xa024
def SAF_ZN_GLB_sweep_tmo : FRef := ⟨SAF_ZN_GLB, 0, 16⟩

/-- SAF_LEN_CFG (R535). -/
def SAF_LEN_CFG : Nat := 0xa028
def SAF_LEN_CFG_rb_t : FRef := ⟨SAF_LEN_CFG, 24, 8⟩
def SAF_LEN_CFG_proof_h : FRef := ⟨SAF_LEN_CFG, 16, 8⟩
def SAF_LEN_CFG_len_map : FRef := ⟨SAF_LEN_CFG, 8, 8⟩
def SAF_LEN_CFG_gate : FRef := ⟨SAF_LEN_CFG, 0, 8⟩

/-- SAF_SRST (R536). -/
def SAF_SRST : Nat := 0xa02c
def SAF_SRST_max : FRef := ⟨SAF_SRST, 8, 8⟩
def SAF_SRST_min : FRef := ⟨SAF_SRST, 0, 8⟩

/-- SAF_STO_CFG (R537). -/
def SAF_STO_CFG : Nat := 0xa030
def SAF_STO_CFG_per : FRef := ⟨SAF_STO_CFG, 16, 16⟩
def SAF_STO_CFG_pw : FRef := ⟨SAF_STO_CFG, 8, 8⟩
def SAF_STO_CFG_en : FRef := ⟨SAF_STO_CFG, 0, 4⟩

/-- SAF_IN_CFG (R538). -/
def SAF_IN_CFG (i : Nat) : Nat := 0xa040 + 0x8 * i
def SAF_IN_CFG_tp_max (i : Nat) : FRef := ⟨SAF_IN_CFG i, 16, 8⟩
def SAF_IN_CFG_tp_chk (i : Nat) : FRef := ⟨SAF_IN_CFG i, 15, 1⟩
def SAF_IN_CFG_src_b (i : Nat) : FRef := ⟨SAF_IN_CFG i, 12, 3⟩
def SAF_IN_CFG_src_a (i : Nat) : FRef := ⟨SAF_IN_CFG i, 8, 3⟩
def SAF_IN_CFG_rst (i : Nat) : FRef := ⟨SAF_IN_CFG i, 4, 2⟩
def SAF_IN_CFG_anti (i : Nat) : FRef := ⟨SAF_IN_CFG i, 2, 1⟩
def SAF_IN_CFG_type (i : Nat) : FRef := ⟨SAF_IN_CFG i, 0, 2⟩

/-- SAF_IN_TIM (R539). -/
def SAF_IN_TIM (i : Nat) : Nat := 0xa044 + 0x8 * i
def SAF_IN_TIM_ign (i : Nat) : FRef := ⟨SAF_IN_TIM i, 24, 8⟩
def SAF_IN_TIM_filt (i : Nat) : FRef := ⟨SAF_IN_TIM i, 16, 8⟩
def SAF_IN_TIM_disc (i : Nat) : FRef := ⟨SAF_IN_TIM i, 0, 11⟩

/-- SAF_OUT_CFG (R540). -/
def SAF_OUT_CFG (o : Nat) : Nat := 0xa080 + 0x8 * o
def SAF_OUT_CFG_rb_t (o : Nat) : FRef := ⟨SAF_OUT_CFG o, 24, 8⟩
def SAF_OUT_CFG_per (o : Nat) : FRef := ⟨SAF_OUT_CFG o, 16, 6⟩
def SAF_OUT_CFG_pw (o : Nat) : FRef := ⟨SAF_OUT_CFG o, 8, 7⟩
def SAF_OUT_CFG_partner (o : Nat) : FRef := ⟨SAF_OUT_CFG o, 2, 2⟩
def SAF_OUT_CFG_prt_en (o : Nat) : FRef := ⟨SAF_OUT_CFG o, 1, 1⟩
def SAF_OUT_CFG_en (o : Nat) : FRef := ⟨SAF_OUT_CFG o, 0, 1⟩

/-- SAF_OUT_MAP (R541). -/
def SAF_OUT_MAP (o : Nat) : Nat := 0xa084 + 0x8 * o
def SAF_OUT_MAP_spd (o : Nat) : FRef := ⟨SAF_OUT_MAP o, 24, 1⟩
def SAF_OUT_MAP_zones (o : Nat) : FRef := ⟨SAF_OUT_MAP o, 8, 16⟩
def SAF_OUT_MAP_pairs (o : Nat) : FRef := ⟨SAF_OUT_MAP o, 0, 8⟩

/-- SAF_PAIR_STAT (R542). -/
def SAF_PAIR_STAT (i : Nat) : Nat := 0xa100 + 0x4 * i
def SAF_PAIR_STAT_disc_ct (i : Nat) : FRef := ⟨SAF_PAIR_STAT i, 16, 16⟩
def SAF_PAIR_STAT_tp_ok (i : Nat) : FRef := ⟨SAF_PAIR_STAT i, 10, 1⟩
def SAF_PAIR_STAT_b (i : Nat) : FRef := ⟨SAF_PAIR_STAT i, 9, 1⟩
def SAF_PAIR_STAT_a (i : Nat) : FRef := ⟨SAF_PAIR_STAT i, 8, 1⟩
def SAF_PAIR_STAT_cause (i : Nat) : FRef := ⟨SAF_PAIR_STAT i, 4, 2⟩
def SAF_PAIR_STAT_state (i : Nat) : FRef := ⟨SAF_PAIR_STAT i, 0, 3⟩

/-- SAF_OUT_STAT (R543). -/
def SAF_OUT_STAT (o : Nat) : Nat := 0xa120 + 0x4 * o
def SAF_OUT_STAT_pulses (o : Nat) : FRef := ⟨SAF_OUT_STAT o, 16, 16⟩
def SAF_OUT_STAT_refused (o : Nat) : FRef := ⟨SAF_OUT_STAT o, 8, 8⟩
def SAF_OUT_STAT_cause (o : Nat) : FRef := ⟨SAF_OUT_STAT o, 4, 3⟩
def SAF_OUT_STAT_fault (o : Nat) : FRef := ⟨SAF_OUT_STAT o, 3, 1⟩
def SAF_OUT_STAT_rb (o : Nat) : FRef := ⟨SAF_OUT_STAT o, 2, 1⟩
def SAF_OUT_STAT_drv (o : Nat) : FRef := ⟨SAF_OUT_STAT o, 1, 1⟩
def SAF_OUT_STAT_dem (o : Nat) : FRef := ⟨SAF_OUT_STAT o, 0, 1⟩

/-- SAF_ZN_SUM (R544). -/
def SAF_ZN_SUM : Nat := 0xa130
def SAF_ZN_SUM_failed : FRef := ⟨SAF_ZN_SUM, 16, 16⟩
def SAF_ZN_SUM_free : FRef := ⟨SAF_ZN_SUM, 0, 16⟩

/-- SAF_DATA_STAT (R544). -/
def SAF_DATA_STAT : Nat := 0xa134
def SAF_DATA_STAT_tmo_ct : FRef := ⟨SAF_DATA_STAT, 24, 8⟩
def SAF_DATA_STAT_crc_ct : FRef := ⟨SAF_DATA_STAT, 16, 8⟩
def SAF_DATA_STAT_seq_ct : FRef := ⟨SAF_DATA_STAT, 8, 8⟩
def SAF_DATA_STAT_chk_ct : FRef := ⟨SAF_DATA_STAT, 0, 8⟩

/-- SAF_ZN_CRT (R545). -/
def SAF_ZN_CRT (z : Nat) : Nat := 0xa200 + 0x20 * z
def SAF_ZN_CRT_crates (z : Nat) : FRef := ⟨SAF_ZN_CRT z, 0, 32⟩

/-- SAF_ZN_CH (R546). -/
def SAF_ZN_CH (z : Nat) : Nat := 0xa204 + 0x20 * z
def SAF_ZN_CH_conf_min (z : Nat) : FRef := ⟨SAF_ZN_CH z, 24, 8⟩
def SAF_ZN_CH_ign_fr (z : Nat) : FRef := ⟨SAF_ZN_CH z, 18, 1⟩
def SAF_ZN_CH_ign_wx (z : Nat) : FRef := ⟨SAF_ZN_CH z, 17, 1⟩
def SAF_ZN_CH_en (z : Nat) : FRef := ⟨SAF_ZN_CH z, 16, 1⟩
def SAF_ZN_CH_chan (z : Nat) : FRef := ⟨SAF_ZN_CH z, 0, 16⟩

/-- SAF_ZN_ANG (R547). -/
def SAF_ZN_ANG (z : Nat) : Nat := 0xa208 + 0x20 * z
def SAF_ZN_ANG_end (z : Nat) : FRef := ⟨SAF_ZN_ANG z, 16, 16⟩
def SAF_ZN_ANG_start (z : Nat) : FRef := ⟨SAF_ZN_ANG z, 0, 16⟩

/-- SAF_ZN_RNG (R547). -/
def SAF_ZN_RNG (z : Nat) : Nat := 0xa20c + 0x20 * z
def SAF_ZN_RNG_far (z : Nat) : FRef := ⟨SAF_ZN_RNG z, 16, 16⟩
def SAF_ZN_RNG_near (z : Nat) : FRef := ⟨SAF_ZN_RNG z, 0, 16⟩

/-- SAF_ZN_CRIT (R548). -/
def SAF_ZN_CRIT (z : Nat) : Nat := 0xa210 + 0x20 * z
def SAF_ZN_CRIT_miss_max (z : Nat) : FRef := ⟨SAF_ZN_CRIT z, 20, 12⟩
def SAF_ZN_CRIT_unk_max (z : Nat) : FRef := ⟨SAF_ZN_CRIT z, 16, 4⟩
def SAF_ZN_CRIT_clear_n (z : Nat) : FRef := ⟨SAF_ZN_CRIT z, 12, 4⟩
def SAF_ZN_CRIT_m (z : Nat) : FRef := ⟨SAF_ZN_CRIT z, 8, 4⟩
def SAF_ZN_CRIT_k (z : Nat) : FRef := ⟨SAF_ZN_CRIT z, 0, 8⟩

/-- SAF_ZN_RSP (R549). -/
def SAF_ZN_RSP (z : Nat) : Nat := 0xa214 + 0x20 * z
def SAF_ZN_RSP_react (z : Nat) : FRef := ⟨SAF_ZN_RSP z, 31, 1⟩
def SAF_ZN_RSP_ch_min (z : Nat) : FRef := ⟨SAF_ZN_RSP z, 16, 10⟩
def SAF_ZN_RSP_dw_min (z : Nat) : FRef := ⟨SAF_ZN_RSP z, 0, 16⟩

/-- SAF_ZN_STAT (R550). -/
def SAF_ZN_STAT (z : Nat) : Nat := 0xa218 + 0x20 * z
def SAF_ZN_STAT_hits (z : Nat) : FRef := ⟨SAF_ZN_STAT z, 16, 16⟩
def SAF_ZN_STAT_run (z : Nat) : FRef := ⟨SAF_ZN_STAT z, 8, 8⟩
def SAF_ZN_STAT_cause (z : Nat) : FRef := ⟨SAF_ZN_STAT z, 5, 3⟩
def SAF_ZN_STAT_latched (z : Nat) : FRef := ⟨SAF_ZN_STAT z, 4, 1⟩
def SAF_ZN_STAT_degr (z : Nat) : FRef := ⟨SAF_ZN_STAT z, 3, 1⟩
def SAF_ZN_STAT_state (z : Nat) : FRef := ⟨SAF_ZN_STAT z, 0, 3⟩

/-- FLT_CFG (R576). -/
def FLT_CFG : Nat := 0x4000
def FLT_CFG_prob : FRef := ⟨FLT_CFG, 8, 8⟩
def FLT_CFG_win_s : FRef := ⟨FLT_CFG, 0, 8⟩

/-- FLT_STAT (R577). -/
def FLT_STAT : Nat := 0x4004
def FLT_STAT_perm_ct : FRef := ⟨FLT_STAT, 16, 16⟩
def FLT_STAT_strike_ct : FRef := ⟨FLT_STAT, 8, 8⟩
def FLT_STAT_pend : FRef := ⟨FLT_STAT, 0, 8⟩

/-- FLT_LOG_STAT (R578). -/
def FLT_LOG_STAT : Nat := 0x4008
def FLT_LOG_STAT_boot : FRef := ⟨FLT_LOG_STAT, 24, 8⟩
def FLT_LOG_STAT_fresh : FRef := ⟨FLT_LOG_STAT, 23, 1⟩
def FLT_LOG_STAT_count : FRef := ⟨FLT_LOG_STAT, 0, 9⟩

/-- FLT_LOG_TOTAL (R579). -/
def FLT_LOG_TOTAL : Nat := 0x400c
def FLT_LOG_TOTAL_total : FRef := ⟨FLT_LOG_TOTAL, 0, 32⟩

/-- FLT_LOG_SEL (R580). -/
def FLT_LOG_SEL : Nat := 0x4010
def FLT_LOG_SEL_idx : FRef := ⟨FLT_LOG_SEL, 0, 8⟩

/-- FLT_LOG_DATA0 (R581). -/
def FLT_LOG_DATA0 : Nat := 0x4014
def FLT_LOG_DATA0_data : FRef := ⟨FLT_LOG_DATA0, 0, 32⟩

/-- FLT_LOG_DATA1 (R581). -/
def FLT_LOG_DATA1 : Nat := 0x4018
def FLT_LOG_DATA1_data : FRef := ⟨FLT_LOG_DATA1, 0, 32⟩

/-- FLT_LOG_DATA2 (R581). -/
def FLT_LOG_DATA2 : Nat := 0x401c
def FLT_LOG_DATA2_data : FRef := ⟨FLT_LOG_DATA2, 0, 32⟩

/-- FLT_LOG_DATA3 (R581). -/
def FLT_LOG_DATA3 : Nat := 0x4020
def FLT_LOG_DATA3_data : FRef := ⟨FLT_LOG_DATA3, 0, 32⟩

/-- FLT_CTL (R582). -/
def FLT_CTL : Nat := 0x4024
def FLT_CTL_clear : FRef := ⟨FLT_CTL, 0, 1⟩

/-- CRT_SVC (R583). -/
def CRT_SVC (c : Nat) : Nat := 0x10060 + 0x1000 * c
def CRT_SVC_removed (c : Nat) : FRef := ⟨CRT_SVC c, 16, 16⟩
def CRT_SVC_amb_fail (c : Nat) : FRef := ⟨CRT_SVC c, 2, 1⟩
def CRT_SVC_retest (c : Nat) : FRef := ⟨CRT_SVC c, 1, 1⟩
def CRT_SVC_degraded (c : Nat) : FRef := ⟨CRT_SVC c, 0, 1⟩

/-- CRT_RESTORE (R584). -/
def CRT_RESTORE (c : Nat) : Nat := 0x10064 + 0x1000 * c
def CRT_RESTORE_spare (c : Nat) : FRef := ⟨CRT_RESTORE c, 16, 1⟩
def CRT_RESTORE_chan (c : Nat) : FRef := ⟨CRT_RESTORE c, 0, 16⟩

/-- GLB_ID (R612). -/
def GLB_ID : Nat := 0x0
def GLB_ID_part : FRef := ⟨GLB_ID, 16, 16⟩
def GLB_ID_grade : FRef := ⟨GLB_ID, 8, 8⟩
def GLB_ID_rev_major : FRef := ⟨GLB_ID, 4, 4⟩
def GLB_ID_rev_minor : FRef := ⟨GLB_ID, 0, 4⟩

/-- GLB_UID_LO (R613). -/
def GLB_UID_LO : Nat := 0x4
def GLB_UID_LO_uid : FRef := ⟨GLB_UID_LO, 0, 32⟩

/-- GLB_UID_HI (R613). -/
def GLB_UID_HI : Nat := 0x8
def GLB_UID_HI_uid : FRef := ⟨GLB_UID_HI, 0, 32⟩

/-- GLB_READY (R614). -/
def GLB_READY : Nat := 0x10
def GLB_READY_crate_all : FRef := ⟨GLB_READY, 9, 1⟩
def GLB_READY_crate_any : FRef := ⟨GLB_READY, 8, 1⟩
def GLB_READY_motor : FRef := ⟨GLB_READY, 6, 1⟩
def GLB_READY_link : FRef := ⟨GLB_READY, 5, 1⟩
def GLB_READY_tpll : FRef := ⟨GLB_READY, 4, 1⟩
def GLB_READY_hk : FRef := ⟨GLB_READY, 3, 1⟩
def GLB_READY_churn : FRef := ⟨GLB_READY, 2, 1⟩
def GLB_READY_safety : FRef := ⟨GLB_READY, 1, 1⟩
def GLB_READY_fabric : FRef := ⟨GLB_READY, 0, 1⟩

/-- GLB_READY_CRT (R615). -/
def GLB_READY_CRT : Nat := 0x14
def GLB_READY_CRT_crate : FRef := ⟨GLB_READY_CRT, 0, 32⟩

/-- GLB_PIN (R616). -/
def GLB_PIN : Nat := 0x20
def GLB_PIN_hk_sync : FRef := ⟨GLB_PIN, 5, 1⟩
def GLB_PIN_serr : FRef := ⟨GLB_PIN, 4, 1⟩
def GLB_PIN_trg31 : FRef := ⟨GLB_PIN, 2, 2⟩
def GLB_PIN_idx : FRef := ⟨GLB_PIN, 0, 2⟩

/-- GLB_DIAG_PAGE (R617). -/
def GLB_DIAG_PAGE : Nat := 0x30
def GLB_DIAG_PAGE_page : FRef := ⟨GLB_DIAG_PAGE, 0, 2⟩

/-- GLB_SCRATCH (R619). -/
def GLB_SCRATCH : Nat := 0x40
def GLB_SCRATCH_scratch : FRef := ⟨GLB_SCRATCH, 0, 32⟩

/-- CRT_CTRL (R620). -/
def CRT_CTRL (c : Nat) : Nat := 0x10000 + 0x1000 * c
def CRT_CTRL_arm_en (c : Nat) : FRef := ⟨CRT_CTRL c, 0, 1⟩

/-- CLK_STAT (R621). -/
def CLK_STAT : Nat := 0x1000
def CLK_STAT_ref_loss : FRef := ⟨CLK_STAT, 8, 8⟩
def CLK_STAT_holdover : FRef := ⟨CLK_STAT, 4, 1⟩
def CLK_STAT_xtal : FRef := ⟨CLK_STAT, 3, 1⟩
def CLK_STAT_fpll : FRef := ⟨CLK_STAT, 2, 1⟩
def CLK_STAT_tpll : FRef := ⟨CLK_STAT, 1, 1⟩
def CLK_STAT_refclk : FRef := ⟨CLK_STAT, 0, 1⟩

/-- CLK_RST_CAUSE (R622). -/
def CLK_RST_CAUSE : Nat := 0x1004
def CLK_RST_CAUSE_supply : FRef := ⟨CLK_RST_CAUSE, 3, 1⟩
def CLK_RST_CAUSE_xtal_lost : FRef := ⟨CLK_RST_CAUSE, 2, 1⟩
def CLK_RST_CAUSE_reset_n : FRef := ⟨CLK_RST_CAUSE, 1, 1⟩
def CLK_RST_CAUSE_por : FRef := ⟨CLK_RST_CAUSE, 0, 1⟩

/-- CLK_DTIME_LO (R623). -/
def CLK_DTIME_LO : Nat := 0x1008
def CLK_DTIME_LO_dtime : FRef := ⟨CLK_DTIME_LO, 0, 32⟩

/-- CLK_DTIME_HI (R623). -/
def CLK_DTIME_HI : Nat := 0x100c
def CLK_DTIME_HI_dtime : FRef := ⟨CLK_DTIME_HI, 0, 32⟩

/-- CLK_CRT_PWR (R624). -/
def CLK_CRT_PWR : Nat := 0x1010
def CLK_CRT_PWR_req : FRef := ⟨CLK_CRT_PWR, 0, 32⟩

/-- CLK_CRT_PWR_LO (R625). -/
def CLK_CRT_PWR_LO : Nat := 0x1014
def CLK_CRT_PWR_LO_state : FRef := ⟨CLK_CRT_PWR_LO, 0, 32⟩

/-- CLK_CRT_PWR_HI (R625). -/
def CLK_CRT_PWR_HI : Nat := 0x1018
def CLK_CRT_PWR_HI_state : FRef := ⟨CLK_CRT_PWR_HI, 0, 32⟩

end Sys2Proof.Machine
end

