-- ==== Sys2Proof/Machine/RegTable.lean ====
section
/-! DEFINITION. The register tables: of every register its class (R608), who may write it (R610), and of every field its
access type (R606), its reset value (R611) and its stated range. -/

namespace Sys2Proof.Machine

/-- The access types of R606; a bit that no field names is RSVD. -/
inductive Access where
  | ro | rw | rw1c | wo | rc
  deriving DecidableEq, Repr

/-- The register classes of R608. -/
inductive RegClass where
  | status | setup | runTime | command | locked
  deriving DecidableEq, Repr

/-- Who may write a register directly (R610). -/
inductive Writers where
  | any | pf1Spi | owner | spiOnly
  deriving DecidableEq, Repr

/-- One field: lowest bit, width, access type, reset value, least and largest value allowed. -/
structure FieldDesc where
  lsb : Nat
  width : Nat
  access : Access
  reset : Nat
  lo : Nat
  hi : Nat
  deriving DecidableEq, Repr

/-- One register family: base address, index counts and strides (outermost first), class, writers, fields. -/
structure RegDesc where
  base : Nat
  dims : List (Nat × Nat)
  cls : RegClass
  writers : Writers
  fields : List FieldDesc
  deriving DecidableEq, Repr

/-- Rows of spec/02_receiver_front_end.md. -/
def regTable02_0 : List RegDesc := [
  ⟨CRT_FE 0, [(32, 0x1000)], .setup, .any,
    [⟨0, 1, .rw, 0, 0, 1⟩]⟩,
  ⟨CRT_BIAS_TRK 0, [(32, 0x1000)], .runTime, .any,
    [⟨24, 1, .rw, 0, 0, 1⟩,
     ⟨16, 5, .rw, 0, 0, 31⟩,
     ⟨0, 16, .rw, 0, 0, 65535⟩]⟩,
  ⟨CRT_BIAS_TREF 0, [(32, 0x1000)], .runTime, .any,
    [⟨0, 16, .rw, 0x9c4, 0, 65535⟩]⟩,
  ⟨CRT_FE_STAT 0, [(32, 0x1000)], .status, .any,
    [⟨8, 8, .ro, 0, 0, 255⟩,
     ⟨2, 1, .ro, 0, 0, 1⟩,
     ⟨1, 1, .ro, 0, 0, 1⟩,
     ⟨0, 1, .ro, 1, 0, 1⟩]⟩,
  ⟨CRT_TONE_CAP 0, [(32, 0x1000)], .runTime, .any,
    [⟨16, 12, .rw, 0xfff, 0, 4095⟩,
     ⟨0, 12, .rw, 0, 0, 4095⟩]⟩,
  ⟨CRT_TONE_CTL 0, [(32, 0x1000)], .command, .any,
    [⟨8, 8, .rw, 0xff, 0, 255⟩,
     ⟨2, 1, .rw1c, 0, 0, 1⟩,
     ⟨1, 1, .ro, 0, 0, 1⟩,
     ⟨0, 1, .wo, 0, 0, 1⟩]⟩,
  ⟨CHN_FE_CFG 0 0, [(32, 0x1000), (16, 0x40)], .runTime, .any,
    [⟨0, 1, .rw, 0, 0, 1⟩]⟩,
  ⟨CHN_THR 0 0, [(32, 0x1000), (16, 0x40)], .runTime, .any,
    [⟨16, 8, .ro, 0xff, 0, 255⟩,
     ⟨0, 8, .rw, 0xff, 0, 255⟩]⟩,
  ⟨CHN_BIAS 0 0, [(32, 0x1000), (16, 0x40)], .runTime, .any,
    [⟨24, 1, .ro, 0, 0, 1⟩,
     ⟨16, 8, .ro, 0xff, 0, 255⟩,
     ⟨0, 8, .rw, 0xff, 0, 255⟩]⟩,
  ⟨CHN_AMB 0 0, [(32, 0x1000), (16, 0x40)], .status, .any,
    [⟨31, 1, .ro, 0, 0, 1⟩,
     ⟨29, 1, .ro, 0, 0, 1⟩,
     ⟨28, 1, .ro, 0, 0, 1⟩,
     ⟨0, 20, .ro, 0, 0, 1048575⟩]⟩,
  ⟨CHN_FE_STAT 0 0, [(32, 0x1000), (16, 0x40)], .status, .any,
    [⟨16, 8, .rc, 0, 0, 255⟩,
     ⟨3, 5, .ro, 0, 0, 31⟩,
     ⟨0, 2, .ro, 3, 0, 3⟩]⟩,
  ⟨CHN_TONE 0 0, [(32, 0x1000), (16, 0x40)], .status, .any,
    [⟨31, 1, .ro, 0, 0, 1⟩,
     ⟨20, 2, .ro, 0, 0, 3⟩,
     ⟨12, 8, .ro, 0, 0, 255⟩,
     ⟨0, 12, .ro, 0, 0, 4095⟩]⟩]

/-- Rows of spec/03_time_measurement.md. -/
def regTable03_0 : List RegDesc := [
  ⟨CRT_TDC_CFG 0, [(32, 0x1000)], .runTime, .any,
    [⟨24, 8, .rw, 0x50, 8, 255⟩,
     ⟨16, 3, .rw, 3, 0, 4⟩,
     ⟨8, 5, .rw, 0x10, 12, 20⟩,
     ⟨4, 1, .rw, 0, 0, 1⟩,
     ⟨0, 4, .rw, 2, 0, 8⟩]⟩,
  ⟨CRT_EVF_STAT 0, [(32, 0x1000)], .status, .any,
    [⟨16, 16, .rc, 0, 0, 65535⟩,
     ⟨0, 9, .rc, 0, 0, 511⟩]⟩,
  ⟨CRT_SPR_CFG 0, [(32, 0x1000)], .runTime, .pf1Spi,
    [⟨24, 8, .rw, 0xa, 1, 255⟩,
     ⟨16, 4, .rw, 1, 0, 15⟩,
     ⟨8, 8, .rw, 8, 1, 255⟩,
     ⟨1, 1, .rw, 1, 0, 1⟩,
     ⟨0, 1, .rw, 1, 0, 1⟩]⟩,
  ⟨CRT_SPR_STAT 0, [(32, 0x1000)], .status, .any,
    [⟨24, 8, .rc, 0, 0, 255⟩,
     ⟨16, 4, .ro, 0, 0, 15⟩,
     ⟨12, 4, .ro, 0, 0, 15⟩,
     ⟨0, 3, .ro, 1, 0, 7⟩]⟩,
  ⟨CRT_SPR_CTL 0, [(32, 0x1000)], .runTime, .pf1Spi,
    [⟨0, 1, .wo, 0, 0, 1⟩]⟩,
  ⟨TDC_CAL 0 0, [(32, 0x1000), (17, 0x20)], .status, .any,
    [⟨16, 16, .ro, 0, 0, 65535⟩,
     ⟨0, 16, .ro, 0, 0, 65535⟩]⟩,
  ⟨TDC_CAL_STAT 0 0, [(32, 0x1000), (17, 0x20)], .status, .any,
    [⟨16, 16, .rc, 0, 0, 65535⟩,
     ⟨8, 8, .rc, 0, 0, 255⟩,
     ⟨0, 4, .ro, 0, 0, 15⟩]⟩,
  ⟨TDC_QCAL 0 0, [(32, 0x1000), (17, 0x20)], .status, .any,
    [⟨16, 16, .ro, 0x4000, 0, 65535⟩,
     ⟨0, 16, .ro, 0, 0, 65535⟩]⟩,
  ⟨TDC_EV_STAT 0 0, [(32, 0x1000), (17, 0x20)], .status, .any,
    [⟨24, 8, .rc, 0, 0, 255⟩,
     ⟨16, 8, .rc, 0, 0, 255⟩,
     ⟨8, 8, .rc, 0, 0, 255⟩,
     ⟨0, 8, .rc, 0, 0, 255⟩]⟩,
  ⟨TDC_STATE 0 0, [(32, 0x1000), (17, 0x20)], .status, .any,
    [⟨17, 1, .ro, 0, 0, 1⟩,
     ⟨16, 1, .ro, 0, 0, 1⟩,
     ⟨8, 4, .ro, 0, 0, 15⟩,
     ⟨0, 3, .ro, 0, 0, 7⟩]⟩,
  ⟨TDC_CD_STAT 0 0, [(32, 0x1000), (17, 0x20)], .status, .any,
    [⟨16, 16, .rc, 0, 0, 65535⟩,
     ⟨8, 8, .rc, 0, 0, 255⟩]⟩,
  ⟨TDC_TB 0 0, [(32, 0x1000), (17, 0x20)], .status, .any,
    [⟨16, 16, .ro, 0, 0, 65535⟩,
     ⟨8, 8, .ro, 0, 0, 255⟩,
     ⟨0, 8, .ro, 0, 0, 255⟩]⟩]

/-- Rows of spec/04_shot_engine.md. -/
def regTable04_0 : List RegDesc := [
  ⟨SHT_CFG, [], .setup, .any,
    [⟨0, 2, .rw, 0, 0, 3⟩]⟩,
  ⟨SHT_STATUS, [], .status, .any,
    [⟨16, 13, .ro, 0, 0, 8191⟩,
     ⟨6, 1, .ro, 0, 0, 1⟩,
     ⟨5, 1, .ro, 0, 0, 1⟩,
     ⟨4, 1, .ro, 0, 0, 1⟩,
     ⟨0, 3, .ro, 0, 0, 7⟩]⟩,
  ⟨SHT_BANK_LEN, [], .status, .any,
    [⟨16, 14, .ro, 0, 0, 16383⟩,
     ⟨0, 14, .ro, 0, 0, 16383⟩]⟩,
  ⟨SHT_SWAP_RND, [], .status, .any,
    [⟨0, 16, .ro, 0, 0, 65535⟩]⟩,
  ⟨SHT_DITHER, [], .runTime, .any,
    [⟨0, 15, .rw, 0, 0, 25600⟩]⟩,
  ⟨SHT_DITHER_SEED, [], .runTime, .any,
    [⟨0, 32, .rw, 0, 0, 4294967295⟩]⟩,
  ⟨SHT_DITHER_HOP, [], .runTime, .any,
    [⟨0, 32, .rw, 0x6b2de1f5, 1, 4294967295⟩]⟩,
  ⟨SHT_DITHER_CTL, [], .runTime, .any,
    [⟨16, 16, .rc, 0, 0, 65535⟩,
     ⟨0, 1, .wo, 0, 0, 1⟩]⟩,
  ⟨SHT_SKIP, [], .status, .any,
    [⟨0, 32, .rc, 0, 0, 4294967295⟩]⟩,
  ⟨SHT_HOLD, [], .status, .any,
    [⟨16, 16, .rc, 0, 0, 65535⟩,
     ⟨0, 16, .rc, 0, 0, 65535⟩]⟩,
  ⟨SHT_SYNC, [], .runTime, .any,
    [⟨8, 8, .rw, 0x20, 8, 255⟩,
     ⟨0, 2, .rw, 0, 0, 2⟩]⟩,
  ⟨SHT_SHOTS_LO, [], .status, .any,
    [⟨0, 32, .ro, 0, 0, 4294967295⟩]⟩,
  ⟨SHT_SHOTS_HI, [], .status, .any,
    [⟨0, 32, .ro, 0, 0, 4294967295⟩]⟩,
  ⟨SHT_WPROF_A 0, [(16, 0x8)], .runTime, .any,
    [⟨16, 6, .rw, 8, 0, 63⟩,
     ⟨0, 11, .rw, 0x140, 16, 1587⟩]⟩,
  ⟨SHT_WPROF_B 0, [(16, 0x8)], .runTime, .any,
    [⟨16, 12, .rw, 1, 1, 4095⟩,
     ⟨8, 2, .rw, 0, 0, 3⟩,
     ⟨4, 3, .rw, 1, 0, 4⟩,
     ⟨0, 3, .rw, 2, 0, 4⟩]⟩,
  ⟨EMT_CFG 0, [(32, 0x40)], .runTime, .any,
    [⟨8, 5, .rw, 4, 1, 31⟩,
     ⟨0, 1, .rw, 0, 0, 1⟩]⟩,
  ⟨EMT_SKEW 0, [(32, 0x40)], .runTime, .any,
    [⟨0, 10, .rw, 0, 0, 1023⟩]⟩,
  ⟨EMT_CRATE_MAP 0, [(32, 0x40)], .runTime, .any,
    [⟨8, 1, .rw, 0, 0, 1⟩,
     ⟨0, 5, .rw, 0, 0, 31⟩]⟩,
  ⟨EMT_STAT 0, [(32, 0x40)], .status, .any,
    [⟨24, 8, .rc, 0, 0, 255⟩,
     ⟨16, 8, .rc, 0, 0, 255⟩,
     ⟨8, 8, .rc, 0, 0, 255⟩,
     ⟨0, 8, .rc, 0, 0, 255⟩]⟩,
  ⟨EMT_FIRED 0, [(32, 0x40)], .status, .any,
    [⟨0, 32, .ro, 0, 0, 4294967295⟩]⟩]

/-- Rows of spec/05_laser_charge_and_emission_budget.md. -/
def regTable05_0 : List RegDesc := [
  ⟨CHG_CFG 0, [(32, 0x40)], .runTime, .any,
    [⟨31, 1, .rw, 0, 0, 1⟩,
     ⟨20, 8, .rw, 0x40, 1, 255⟩,
     ⟨16, 4, .rw, 4, 0, 15⟩,
     ⟨10, 6, .rw, 6, 4, 32⟩,
     ⟨0, 10, .rw, 0x32, 50, 1000⟩]⟩,
  ⟨CHG_LIM 0, [(32, 0x40)], .runTime, .any,
    [⟨16, 12, .rw, 0, 0, 4095⟩,
     ⟨8, 4, .rw, 0, 0, 15⟩,
     ⟨0, 8, .rw, 0, 0, 255⟩]⟩,
  ⟨CHG_LVL_A 0, [(32, 0x40)], .runTime, .any,
    [⟨20, 10, .rw, 0, 0, 1023⟩,
     ⟨10, 10, .rw, 0, 0, 1023⟩,
     ⟨0, 10, .rw, 0, 0, 1023⟩]⟩,
  ⟨CHG_LVL_B 0, [(32, 0x40)], .runTime, .any,
    [⟨20, 10, .rw, 0, 0, 1023⟩,
     ⟨10, 10, .rw, 0, 0, 1023⟩,
     ⟨0, 10, .rw, 0, 0, 1023⟩]⟩,
  ⟨CHG_LVL_C 0, [(32, 0x40)], .runTime, .any,
    [⟨10, 10, .rw, 0, 0, 1023⟩,
     ⟨0, 10, .rw, 0, 0, 1023⟩]⟩,
  ⟨CHG_STAT 0, [(32, 0x40)], .status, .any,
    [⟨24, 8, .rc, 0, 0, 255⟩,
     ⟨16, 8, .rc, 0, 0, 255⟩,
     ⟨3, 1, .ro, 0, 0, 1⟩,
     ⟨0, 3, .ro, 0, 0, 7⟩]⟩,
  ⟨CHG_RB 0, [(32, 0x40)], .status, .any,
    [⟨31, 1, .ro, 0, 0, 1⟩,
     ⟨30, 1, .ro, 0, 0, 1⟩,
     ⟨16, 10, .ro, 0, 0, 1023⟩,
     ⟨0, 12, .ro, 0, 0, 4095⟩]⟩,
  ⟨CHG_ST 0, [(32, 0x40)], .status, .any,
    [⟨16, 8, .rc, 0, 0, 255⟩,
     ⟨0, 16, .rc, 0, 0, 65535⟩]⟩,
  ⟨CHG_RB_CFG, [], .runTime, .any,
    [⟨31, 1, .rw, 1, 0, 1⟩,
     ⟨0, 8, .rw, 0x19, 1, 255⟩]⟩,
  ⟨WMN_CFG 0, [(16, 0x10)], .runTime, .any,
    [⟨16, 8, .rw, 1, 1, 255⟩,
     ⟨8, 8, .rw, 4, 1, 255⟩,
     ⟨1, 1, .rw, 0, 0, 1⟩,
     ⟨0, 1, .rw, 0, 0, 1⟩]⟩,
  ⟨WMN_LIM 0, [(16, 0x10)], .runTime, .any,
    [⟨16, 10, .rw, 0x3ff, 0, 1023⟩,
     ⟨0, 10, .rw, 0, 0, 1023⟩]⟩,
  ⟨WMN_STAT 0, [(16, 0x10)], .status, .any,
    [⟨31, 1, .ro, 0, 0, 1⟩,
     ⟨16, 8, .rc, 0, 0, 255⟩,
     ⟨8, 8, .rc, 0, 0, 255⟩,
     ⟨0, 3, .ro, 4, 0, 7⟩]⟩,
  ⟨EYE_CAP 0, [(32, 0x4)], .locked, .pf1Spi,
    [⟨16, 16, .rw, 0, 0, 65535⟩,
     ⟨0, 16, .rw, 0, 0, 65535⟩]⟩,
  ⟨EYE_LIM_1MS, [], .locked, .pf1Spi,
    [⟨0, 32, .rw, 0, 0, 4294967295⟩]⟩,
  ⟨EYE_LIM_100MS, [], .locked, .pf1Spi,
    [⟨0, 32, .rw, 0, 0, 4294967295⟩]⟩,
  ⟨EYE_LIM_SEC, [], .locked, .pf1Spi,
    [⟨0, 32, .rw, 0, 0, 4294967295⟩]⟩,
  ⟨EYE_SPD, [], .locked, .pf1Spi,
    [⟨16, 16, .rw, 0, 0, 65535⟩,
     ⟨0, 16, .rw, 0, 0, 65535⟩]⟩,
  ⟨EYE_SPD_CFG, [], .locked, .pf1Spi,
    [⟨16, 10, .rw, 0, 0, 1023⟩,
     ⟨0, 1, .rw, 0, 0, 1⟩]⟩,
  ⟨EYE_LOCK, [], .locked, .pf1Spi,
    [⟨16, 16, .ro, 0, 0, 65535⟩,
     ⟨8, 8, .wo, 0, 0, 255⟩,
     ⟨0, 2, .ro, 0, 0, 3⟩]⟩,
  ⟨EYE_STAT, [], .status, .any,
    [⟨16, 16, .rc, 0, 0, 65535⟩,
     ⟨1, 7, .ro, 0x7f, 0, 127⟩,
     ⟨0, 1, .ro, 0, 0, 1⟩]⟩]

/-- Rows of spec/05_laser_charge_and_emission_budget.md. -/
def regTable05_1 : List RegDesc := [
  ⟨EYE_VETO, [], .status, .any,
    [⟨16, 8, .rc, 0, 0, 255⟩,
     ⟨8, 8, .rc, 0, 0, 255⟩,
     ⟨0, 8, .rc, 0, 0, 255⟩]⟩,
  ⟨EYE_PEAK, [], .status, .any,
    [⟨16, 8, .rc, 0, 0, 255⟩,
     ⟨8, 8, .rc, 0, 0, 255⟩,
     ⟨0, 8, .rc, 0, 0, 255⟩]⟩]

/-- Rows of spec/06_scan_motor_feedback.md. -/
def regTable06_0 : List RegDesc := [
  ⟨MOT_CFG, [], .setup, .any,
    [⟨4, 1, .rw, 0, 0, 1⟩,
     ⟨0, 4, .rw, 1, 0, 15⟩]⟩,
  ⟨MOT_FILT, [], .runTime, .any,
    [⟨16, 10, .rw, 0x10, 1, 1023⟩,
     ⟨0, 10, .rw, 0x10, 1, 1023⟩]⟩,
  ⟨MOT_TMO, [], .runTime, .any,
    [⟨16, 8, .rw, 0x32, 1, 255⟩,
     ⟨0, 10, .rw, 0x32, 1, 1000⟩]⟩,
  ⟨MOT_IDX_CFG, [], .runTime, .any,
    [⟨31, 1, .rw, 0, 0, 1⟩,
     ⟨30, 1, .rw, 0, 0, 1⟩,
     ⟨16, 8, .rw, 0x40, 1, 255⟩,
     ⟨0, 16, .rw, 0, 0, 65535⟩]⟩,
  ⟨MOT_FSYNC, [], .runTime, .any,
    [⟨31, 1, .rw, 0, 0, 1⟩,
     ⟨0, 16, .rw, 0, 0, 65535⟩]⟩,
  ⟨MOT_SERR_CFG, [], .runTime, .any,
    [⟨31, 1, .rw, 0, 0, 1⟩,
     ⟨16, 8, .rw, 0x10, 0, 255⟩,
     ⟨0, 16, .rw, 0, 0, 65535⟩]⟩,
  ⟨MOT_STATUS, [], .status, .any,
    [⟨16, 7, .ro, 0, 0, 127⟩,
     ⟨8, 3, .ro, 0, 0, 7⟩,
     ⟨7, 1, .ro, 0, 0, 1⟩,
     ⟨6, 1, .ro, 0, 0, 1⟩,
     ⟨5, 1, .ro, 0, 0, 1⟩,
     ⟨4, 1, .rw1c, 0, 0, 1⟩,
     ⟨3, 1, .ro, 0, 0, 1⟩,
     ⟨0, 3, .ro, 0, 0, 7⟩]⟩,
  ⟨MOT_SPEED, [], .status, .any,
    [⟨0, 32, .ro, 0, 0, 4294967295⟩]⟩,
  ⟨MOT_PERIOD, [], .status, .any,
    [⟨0, 32, .ro, 0, 0, 4294967295⟩]⟩,
  ⟨MOT_ANGLE, [], .status, .any,
    [⟨31, 1, .ro, 0, 0, 1⟩,
     ⟨0, 24, .ro, 0, 0, 16777215⟩]⟩,
  ⟨MOT_ROUND, [], .status, .any,
    [⟨0, 16, .ro, 0, 0, 65535⟩]⟩,
  ⟨MOT_SERR, [], .status, .any,
    [⟨16, 11, .ro, 0x400, 0, 2047⟩,
     ⟨0, 16, .ro, 0, 0, 65535⟩]⟩,
  ⟨MOT_ERR_A, [], .status, .any,
    [⟨24, 8, .rc, 0, 0, 255⟩,
     ⟨16, 8, .rc, 0, 0, 255⟩,
     ⟨8, 8, .rc, 0, 0, 255⟩,
     ⟨0, 8, .rc, 0, 0, 255⟩]⟩,
  ⟨MOT_ERR_B, [], .status, .any,
    [⟨16, 16, .rc, 0, 0, 65535⟩,
     ⟨8, 8, .rc, 0, 0, 255⟩,
     ⟨0, 8, .rc, 0, 0, 255⟩]⟩]

/-- Rows of spec/07_histogram_engine.md. -/
def regTable07_0 : List RegDesc := [
  ⟨CHU_PEAK_CFG 0, [(32, 0x1000)], .runTime, .any,
    [⟨24, 8, .rw, 3, 0, 255⟩,
     ⟨16, 8, .rw, 0x10, 0, 255⟩,
     ⟨8, 8, .rw, 8, 0, 255⟩,
     ⟨4, 4, .rw, 8, 1, 15⟩,
     ⟨0, 3, .rw, 2, 1, 7⟩]⟩,
  ⟨CHU_STAT 0, [(32, 0x1000)], .status, .any,
    [⟨24, 8, .rc, 0, 0, 255⟩,
     ⟨16, 8, .rc, 0, 0, 255⟩,
     ⟨0, 16, .rc, 0, 0, 65535⟩]⟩,
  ⟨CHU_ECC 0, [(32, 0x1000)], .status, .any,
    [⟨16, 16, .rc, 0, 0, 65535⟩,
     ⟨8, 8, .rc, 0, 0, 255⟩,
     ⟨4, 1, .rc, 0, 0, 1⟩,
     ⟨0, 4, .ro, 0, 0, 15⟩]⟩,
  ⟨CHU_XTIME 0, [(32, 0x1000)], .status, .any,
    [⟨16, 16, .rc, 0, 0, 65535⟩,
     ⟨0, 16, .ro, 0, 0, 65535⟩]⟩,
  ⟨CHU_DUMP_STAT 0, [(32, 0x1000)], .status, .any,
    [⟨16, 16, .rc, 0, 0, 65535⟩,
     ⟨1, 1, .ro, 0, 0, 1⟩,
     ⟨0, 1, .ro, 0, 0, 1⟩]⟩,
  ⟨CHU_DESC_STAT 0, [(32, 0x1000)], .status, .any,
    [⟨16, 16, .rc, 0, 0, 65535⟩,
     ⟨0, 4, .ro, 0, 0, 15⟩]⟩,
  ⟨CHU_OFS 0 0, [(32, 0x1000), (16, 0x4)], .runTime, .any,
    [⟨0, 20, .rw, 0, 0, 1048575⟩]⟩,
  ⟨CHU_FWIN 0 0 0, [(32, 0x1000), (16, 0x10), (4, 0x4)], .runTime, .any,
    [⟨31, 1, .rw, 0, 0, 1⟩,
     ⟨0, 17, .rw, 0, 0, 126975⟩]⟩,
  ⟨CHU_FPOS 0 0 0, [(32, 0x1000), (16, 0x10), (4, 0x4)], .status, .any,
    [⟨31, 1, .ro, 0, 0, 1⟩,
     ⟨0, 17, .ro, 0, 0, 131071⟩]⟩]

/-- Rows of spec/08_background_and_interference.md. -/
def regTable08_0 : List RegDesc := [
  ⟨SKM_CFG, [], .runTime, .any,
    [⟨5, 1, .rw, 1, 0, 1⟩,
     ⟨4, 1, .rw, 0, 0, 1⟩,
     ⟨3, 1, .rw, 0, 0, 1⟩,
     ⟨0, 2, .rw, 0, 0, 3⟩]⟩,
  ⟨SKM_TINT_USER, [], .runTime, .any,
    [⟨0, 16, .rw, 0xf00, 768, 65535⟩]⟩,
  ⟨SKM_THR_LAW, [], .runTime, .any,
    [⟨20, 8, .rw, 4, 0, 255⟩,
     ⟨0, 20, .rw, 0x1f4, 0, 1048575⟩]⟩,
  ⟨SKM_RATE, [], .runTime, .any,
    [⟨16, 8, .rw, 0x60, 0, 255⟩,
     ⟨8, 8, .rw, 1, 1, 255⟩,
     ⟨0, 8, .rw, 4, 1, 255⟩]⟩,
  ⟨SKM_BIAS_LAW, [], .runTime, .any,
    [⟨20, 8, .rw, 2, 0, 255⟩,
     ⟨0, 20, .rw, 0x493e0, 0, 1048575⟩]⟩,
  ⟨SKM_SUN_ON, [], .runTime, .any,
    [⟨20, 8, .rw, 0x28, 0, 255⟩,
     ⟨0, 20, .rw, 0x927c0, 0, 1048575⟩]⟩,
  ⟨SKM_SUN_OFF, [], .runTime, .any,
    [⟨20, 8, .rw, 5, 1, 255⟩,
     ⟨0, 20, .rw, 0x249f0, 0, 1048575⟩]⟩,
  ⟨SKM_LIM, [], .runTime, .any,
    [⟨8, 8, .rw, 0x18, 0, 255⟩,
     ⟨0, 4, .rw, 4, 0, 8⟩]⟩,
  ⟨STR_CFG, [], .runTime, .any,
    [⟨24, 8, .rw, 0, 0, 255⟩,
     ⟨16, 5, .rw, 8, 1, 31⟩,
     ⟨8, 8, .rw, 2, 1, 255⟩,
     ⟨0, 1, .rw, 0, 0, 1⟩]⟩,
  ⟨STR_WX, [], .runTime, .any,
    [⟨24, 5, .rw, 2, 0, 16⟩,
     ⟨16, 5, .rw, 4, 0, 16⟩,
     ⟨8, 8, .rw, 0x40, 1, 255⟩,
     ⟨0, 8, .rw, 0x60, 0, 255⟩]⟩,
  ⟨STR_WIN, [], .runTime, .any,
    [⟨8, 10, .rw, 0x80, 16, 1023⟩,
     ⟨0, 8, .rw, 0, 0, 255⟩]⟩,
  ⟨STR_WIN_LVL, [], .runTime, .any,
    [⟨8, 8, .rw, 0xff, 0, 255⟩,
     ⟨0, 8, .rw, 0xfe, 0, 255⟩]⟩,
  ⟨STR_SHAPE 0, [(8, 0x4)], .runTime, .any,
    [⟨24, 8, .rw, 0, 0, 255⟩,
     ⟨16, 8, .rw, 0, 0, 255⟩,
     ⟨8, 8, .rw, 0, 0, 255⟩,
     ⟨0, 8, .rw, 0, 0, 255⟩]⟩,
  ⟨SEP_CFG, [], .runTime, .any,
    [⟨16, 8, .rw, 0, 0, 255⟩,
     ⟨8, 8, .rw, 0x60, 0, 255⟩,
     ⟨4, 1, .rw, 0, 0, 1⟩,
     ⟨0, 4, .rw, 6, 0, 10⟩]⟩,
  ⟨SEP_RATE, [], .runTime, .any,
    [⟨16, 16, .rw, 0, 0, 65535⟩,
     ⟨0, 16, .rw, 0, 0, 65535⟩]⟩,
  ⟨SEP_LIM, [], .runTime, .any,
    [⟨24, 8, .rw, 0x64, 1, 255⟩,
     ⟨16, 8, .rw, 0x30, 0, 255⟩,
     ⟨8, 8, .rw, 0xc, 0, 255⟩,
     ⟨0, 8, .rw, 0x10, 0, 255⟩]⟩,
  ⟨SEP_STAT, [], .status, .any,
    [⟨16, 9, .ro, 0, 0, 511⟩,
     ⟨0, 16, .rc, 0, 0, 65535⟩]⟩,
  ⟨SKM_CH 0 0, [(32, 0x1000), (16, 0x4)], .status, .any,
    [⟨24, 1, .ro, 0, 0, 1⟩,
     ⟨16, 8, .ro, 0, 0, 255⟩,
     ⟨8, 8, .ro, 0, 0, 255⟩,
     ⟨0, 8, .ro, 0, 0, 255⟩]⟩,
  ⟨STR_CH 0 0, [(32, 0x1000), (16, 0x4)], .status, .any,
    [⟨17, 1, .ro, 0, 0, 1⟩,
     ⟨16, 1, .ro, 0, 0, 1⟩,
     ⟨0, 16, .ro, 0, 0, 65535⟩]⟩,
  ⟨SEP_CH 0 0, [(32, 0x1000), (16, 0x4)], .status, .any,
    [⟨16, 1, .ro, 0, 0, 1⟩,
     ⟨0, 16, .ro, 0, 0, 65535⟩]⟩]

/-- Rows of spec/08_background_and_interference.md. -/
def regTable08_1 : List RegDesc := [
  ⟨STR_CRT 0, [(32, 0x1000)], .status, .any,
    [⟨24, 8, .rc, 0, 0, 255⟩,
     ⟨16, 1, .ro, 0, 0, 1⟩,
     ⟨0, 9, .ro, 0, 0, 511⟩]⟩]

/-- Rows of spec/09_host_interface.md. -/
def regTable09_0 : List RegDesc := [
  ⟨HIF_FN_CFG 0, [(2, 0x100)], .setup, .owner,
    [⟨0, 16, .rw, 0, 0, 65535⟩]⟩,
  ⟨HIF_CTX_BASE_LO 0, [(2, 0x100)], .setup, .owner,
    [⟨6, 26, .rw, 0, 0, 67108863⟩]⟩,
  ⟨HIF_CTX_BASE_HI 0, [(2, 0x100)], .setup, .owner,
    [⟨0, 32, .rw, 0, 0, 4294967295⟩]⟩,
  ⟨HIF_FN_STAT 0, [(2, 0x100)], .status, .owner,
    [⟨24, 8, .rc, 0, 0, 255⟩,
     ⟨2, 1, .ro, 0, 0, 1⟩,
     ⟨1, 1, .ro, 0, 0, 1⟩,
     ⟨0, 1, .ro, 0, 0, 1⟩]⟩,
  ⟨HIF_FN_ERR 0, [(2, 0x100)], .status, .owner,
    [⟨24, 8, .rc, 0, 0, 255⟩,
     ⟨16, 8, .rc, 0, 0, 255⟩,
     ⟨8, 8, .rc, 0, 0, 255⟩,
     ⟨0, 8, .rc, 0, 0, 255⟩]⟩,
  ⟨HIF_LINK, [], .status, .any,
    [⟨8, 1, .ro, 0, 0, 1⟩,
     ⟨4, 4, .ro, 0, 0, 15⟩,
     ⟨0, 4, .ro, 0, 0, 15⟩]⟩,
  ⟨RNG_CACHE, [], .status, .any,
    [⟨16, 16, .rc, 0, 0, 65535⟩,
     ⟨0, 16, .rc, 0, 0, 65535⟩]⟩,
  ⟨RNG_MISROUTE, [], .status, .any,
    [⟨16, 16, .ro, 0, 0, 65535⟩,
     ⟨0, 16, .rc, 0, 0, 65535⟩]⟩,
  ⟨HIF_SPI_CFG, [], .setup, .any,
    [⟨7, 1, .rw, 0, 0, 1⟩,
     ⟨0, 2, .rw, 1, 0, 3⟩]⟩,
  ⟨HIF_SPI_STAT, [], .status, .any,
    [⟨24, 8, .rc, 0, 0, 255⟩,
     ⟨16, 8, .rc, 0, 0, 255⟩,
     ⟨8, 8, .rc, 0, 0, 255⟩,
     ⟨0, 8, .rc, 0, 0, 255⟩]⟩,
  ⟨HIF_IRQ_EN, [], .command, .spiOnly,
    [⟨5, 1, .rw, 0, 0, 1⟩,
     ⟨4, 1, .rw, 0, 0, 1⟩,
     ⟨3, 1, .rw, 0, 0, 1⟩,
     ⟨2, 1, .rw, 0, 0, 1⟩,
     ⟨1, 1, .rw, 0, 0, 1⟩,
     ⟨0, 1, .rw, 0, 0, 1⟩]⟩,
  ⟨HIF_IRQ_STAT, [], .status, .any,
    [⟨5, 1, .rw1c, 0, 0, 1⟩,
     ⟨4, 1, .rw1c, 0, 0, 1⟩,
     ⟨3, 1, .rw1c, 0, 0, 1⟩,
     ⟨2, 1, .rw1c, 0, 0, 1⟩,
     ⟨1, 1, .rw1c, 0, 0, 1⟩,
     ⟨0, 1, .ro, 0, 0, 1⟩]⟩,
  ⟨HIF_EVQ_DATA, [], .status, .any,
    [⟨0, 32, .rc, 0, 0, 4294967295⟩]⟩,
  ⟨HIF_EVQ_STAT, [], .status, .any,
    [⟨8, 8, .rc, 0, 0, 255⟩,
     ⟨0, 6, .ro, 0, 0, 63⟩]⟩,
  ⟨HIF_STXN_CTL, [], .command, .spiOnly,
    [⟨16, 16, .rw, 0, 0, 65535⟩,
     ⟨14, 2, .rw, 0, 0, 3⟩,
     ⟨0, 9, .rw, 0, 1, 256⟩]⟩,
  ⟨HIF_STXN_STAT, [], .status, .spiOnly,
    [⟨16, 16, .ro, 0, 0, 65535⟩,
     ⟨8, 1, .ro, 0, 0, 1⟩,
     ⟨0, 8, .ro, 0, 0, 255⟩]⟩,
  ⟨HIF_STXN_GO, [], .command, .spiOnly,
    [⟨31, 1, .wo, 0, 0, 1⟩]⟩,
  ⟨HIF_STXN_ADDR 0, [(256, 0x10)], .command, .spiOnly,
    [⟨2, 18, .rw, 0, 0, 262143⟩]⟩,
  ⟨HIF_STXN_MASK 0, [(256, 0x10)], .command, .spiOnly,
    [⟨0, 32, .rw, 0, 0, 4294967295⟩]⟩,
  ⟨HIF_STXN_VAL 0, [(256, 0x10)], .command, .spiOnly,
    [⟨0, 32, .rw, 0, 0, 4294967295⟩]⟩]

/-- Rows of spec/10_records_and_coherent_state.md. -/
def regTable10_0 : List RegDesc := [
  ⟨GLB_EPOCH, [], .status, .any,
    [⟨0, 32, .ro, 0, 0, 4294967295⟩]⟩,
  ⟨GLB_TXN_STAT, [], .status, .any,
    [⟨24, 8, .ro, 0, 0, 255⟩,
     ⟨16, 8, .rc, 0, 0, 255⟩,
     ⟨0, 8, .ro, 0, 0, 255⟩]⟩,
  ⟨GLB_WR_REFUSE, [], .status, .any,
    [⟨30, 2, .ro, 0, 0, 3⟩,
     ⟨20, 10, .rc, 0, 0, 1023⟩,
     ⟨2, 18, .ro, 0, 0, 262143⟩]⟩]

/-- Rows of spec/11_housekeeping_converters.md. -/
def regTable11_0 : List RegDesc := [
  ⟨HK_CFG, [], .runTime, .any,
    [⟨24, 8, .rw, 0x32, 1, 255⟩,
     ⟨16, 8, .rw, 0, 0, 255⟩,
     ⟨3, 1, .rw, 0, 0, 1⟩,
     ⟨2, 1, .rw, 0, 0, 1⟩]⟩,
  ⟨HK_RREF0, [], .status, .any,
    [⟨0, 24, .ro, 0, 0, 16777215⟩]⟩,
  ⟨HK_RREF1, [], .status, .any,
    [⟨0, 24, .ro, 0, 0, 16777215⟩]⟩,
  ⟨HK_NTC, [], .runTime, .any,
    [⟨0, 16, .rw, 0xd6b, 1, 65535⟩]⟩,
  ⟨HK_CHK, [], .runTime, .any,
    [⟨0, 24, .rw, 0x100, 1, 16777215⟩]⟩,
  ⟨HK_TONE, [], .runTime, .any,
    [⟨20, 12, .rw, 0x400, 0, 4095⟩,
     ⟨8, 12, .rw, 0x100, 0, 4095⟩,
     ⟨0, 8, .rw, 2, 0, 255⟩]⟩,
  ⟨HK_CTL, [], .command, .any,
    [⟨1, 1, .wo, 0, 0, 1⟩,
     ⟨0, 1, .wo, 0, 0, 1⟩]⟩,
  ⟨HK_CNOW, [], .command, .any,
    [⟨31, 1, .wo, 0, 0, 1⟩,
     ⟨30, 1, .ro, 0, 0, 1⟩,
     ⟨29, 1, .rw1c, 0, 0, 1⟩,
     ⟨28, 1, .rw1c, 0, 0, 1⟩,
     ⟨0, 5, .rw, 0, 0, 31⟩]⟩,
  ⟨HK_STAT, [], .status, .any,
    [⟨16, 16, .ro, 0, 0, 65535⟩,
     ⟨8, 5, .ro, 0, 0, 31⟩,
     ⟨0, 3, .ro, 0, 0, 7⟩]⟩,
  ⟨HK_ITEMP, [], .status, .any,
    [⟨31, 1, .ro, 0, 0, 1⟩,
     ⟨0, 24, .ro, 0, 0, 16777215⟩]⟩,
  ⟨HK_URG, [], .status, .any,
    [⟨16, 16, .rc, 0, 0, 65535⟩,
     ⟨8, 8, .rc, 0, 0, 255⟩,
     ⟨0, 3, .ro, 0, 0, 7⟩]⟩,
  ⟨HK_ERR, [], .status, .any,
    [⟨24, 8, .rc, 0, 0, 255⟩,
     ⟨16, 8, .rc, 0, 0, 255⟩,
     ⟨8, 8, .rc, 0, 0, 255⟩,
     ⟨0, 8, .rc, 0, 0, 255⟩]⟩,
  ⟨HK_ENT 0, [(32, 0x4)], .runTime, .any,
    [⟨31, 1, .rw, 0, 0, 1⟩,
     ⟨30, 1, .rw, 0, 0, 1⟩,
     ⟨29, 1, .rw, 0, 0, 1⟩,
     ⟨26, 3, .rw, 0, 0, 7⟩,
     ⟨22, 4, .rw, 0, 0, 15⟩,
     ⟨21, 1, .rw, 0, 0, 1⟩,
     ⟨18, 3, .rw, 0, 0, 7⟩,
     ⟨17, 1, .rw, 0, 0, 1⟩,
     ⟨15, 2, .rw, 0, 0, 3⟩,
     ⟨14, 1, .rw, 0, 0, 1⟩,
     ⟨11, 3, .rw, 0, 0, 7⟩,
     ⟨8, 3, .rw, 0, 0, 7⟩,
     ⟨4, 4, .rw, 0, 0, 15⟩,
     ⟨0, 4, .rw, 0, 0, 15⟩]⟩,
  ⟨HK_UTAB 0, [(32, 0x4)], .runTime, .any,
    [⟨16, 16, .rw, 0, 0, 65535⟩,
     ⟨0, 16, .rw, 0, 0, 65535⟩]⟩,
  ⟨HK_RES_V 0, [(32, 0x8)], .status, .any,
    [⟨0, 32, .ro, 0, 0, 4294967295⟩]⟩,
  ⟨HK_RES_S 0, [(32, 0x8)], .status, .any,
    [⟨31, 1, .ro, 0, 0, 1⟩,
     ⟨30, 1, .ro, 0, 0, 1⟩,
     ⟨29, 1, .ro, 0, 0, 1⟩,
     ⟨28, 1, .ro, 0, 0, 1⟩,
     ⟨27, 1, .ro, 0, 0, 1⟩,
     ⟨26, 1, .ro, 0, 0, 1⟩,
     ⟨24, 2, .ro, 0, 0, 3⟩,
     ⟨22, 2, .ro, 0, 0, 3⟩,
     ⟨0, 16, .ro, 0, 0, 65535⟩]⟩]

/-- Rows of spec/12_safety_block.md. -/
def regTable12_0 : List RegDesc := [
  ⟨SAF_STAT, [], .status, .pf1Spi,
    [⟨24, 8, .ro, 0, 0, 255⟩,
     ⟨16, 3, .ro, 0, 0, 7⟩,
     ⟨9, 1, .ro, 0, 0, 1⟩,
     ⟨8, 1, .ro, 0, 0, 1⟩,
     ⟨7, 1, .ro, 0, 0, 1⟩,
     ⟨6, 1, .ro, 0, 0, 1⟩,
     ⟨5, 1, .ro, 0, 0, 1⟩,
     ⟨4, 1, .ro, 0, 0, 1⟩,
     ⟨1, 1, .ro, 0, 0, 1⟩,
     ⟨0, 1, .ro, 0, 0, 1⟩]⟩,
  ⟨SAF_UNLOCK, [], .command, .pf1Spi,
    [⟨24, 1, .wo, 0, 0, 1⟩,
     ⟨20, 4, .ro, 0, 0, 15⟩,
     ⟨16, 2, .ro, 0, 0, 3⟩,
     ⟨0, 16, .wo, 0, 0, 65535⟩]⟩,
  ⟨SAF_COMMIT, [], .command, .pf1Spi,
    [⟨0, 32, .wo, 0, 0, 4294967295⟩]⟩,
  ⟨SAF_CTL, [], .command, .pf1Spi,
    [⟨16, 2, .ro, 0, 0, 3⟩,
     ⟨8, 8, .wo, 0, 0, 255⟩]⟩,
  ⟨SAF_CRC, [], .status, .pf1Spi,
    [⟨0, 32, .ro, 0, 0, 4294967295⟩]⟩,
  ⟨SAF_TICK, [], .status, .pf1Spi,
    [⟨0, 32, .ro, 0, 0, 4294967295⟩]⟩,
  ⟨SAF_CMD, [], .command, .pf1Spi,
    [⟨14, 1, .wo, 0, 0, 1⟩,
     ⟨12, 1, .wo, 0, 0, 1⟩,
     ⟨8, 4, .wo, 0, 0, 15⟩,
     ⟨0, 8, .wo, 0, 0, 255⟩]⟩,
  ⟨SAF_GLB, [], .setup, .pf1Spi,
    [⟨24, 8, .rw, 5, 1, 255⟩,
     ⟨16, 8, .rw, 0xa, 1, 255⟩,
     ⟨13, 1, .rw, 0, 0, 1⟩,
     ⟨12, 1, .rw, 0, 0, 1⟩,
     ⟨0, 12, .rw, 0, 0, 4095⟩]⟩,
  ⟨SAF_ZN_GLB, [], .setup, .pf1Spi,
    [⟨0, 16, .rw, 0x82, 1, 65535⟩]⟩,
  ⟨SAF_LEN_CFG, [], .setup, .pf1Spi,
    [⟨24, 8, .rw, 0xa, 1, 255⟩,
     ⟨16, 8, .rw, 0x18, 0, 255⟩,
     ⟨8, 8, .rw, 0, 0, 255⟩,
     ⟨0, 8, .rw, 0, 0, 255⟩]⟩,
  ⟨SAF_SRST, [], .setup, .pf1Spi,
    [⟨8, 8, .rw, 0x32, 1, 255⟩,
     ⟨0, 8, .rw, 5, 1, 255⟩]⟩,
  ⟨SAF_STO_CFG, [], .setup, .pf1Spi,
    [⟨16, 16, .rw, 0x64, 10, 1000⟩,
     ⟨8, 8, .rw, 0x14, 10, 100⟩,
     ⟨0, 4, .rw, 0, 0, 15⟩]⟩,
  ⟨SAF_IN_CFG 0, [(8, 0x8)], .setup, .pf1Spi,
    [⟨16, 8, .rw, 0xa, 1, 255⟩,
     ⟨15, 1, .rw, 0, 0, 1⟩,
     ⟨12, 3, .rw, 7, 0, 7⟩,
     ⟨8, 3, .rw, 7, 0, 7⟩,
     ⟨4, 2, .rw, 0, 0, 2⟩,
     ⟨2, 1, .rw, 0, 0, 1⟩,
     ⟨0, 2, .rw, 0, 0, 3⟩]⟩,
  ⟨SAF_IN_TIM 0, [(8, 0x8)], .setup, .pf1Spi,
    [⟨24, 8, .rw, 0x1e, 10, 200⟩,
     ⟨16, 8, .rw, 5, 1, 255⟩,
     ⟨0, 11, .rw, 0x64, 4, 2000⟩]⟩,
  ⟨SAF_OUT_CFG 0, [(4, 0x8)], .setup, .pf1Spi,
    [⟨24, 8, .rw, 0xa, 1, 255⟩,
     ⟨16, 6, .rw, 0xa, 1, 60⟩,
     ⟨8, 7, .rw, 0x1e, 10, 100⟩,
     ⟨2, 2, .rw, 0, 0, 3⟩,
     ⟨1, 1, .rw, 0, 0, 1⟩,
     ⟨0, 1, .rw, 0, 0, 1⟩]⟩,
  ⟨SAF_OUT_MAP 0, [(4, 0x8)], .setup, .pf1Spi,
    [⟨24, 1, .rw, 0, 0, 1⟩,
     ⟨8, 16, .rw, 0, 0, 65535⟩,
     ⟨0, 8, .rw, 0, 0, 255⟩]⟩,
  ⟨SAF_PAIR_STAT 0, [(8, 0x4)], .status, .pf1Spi,
    [⟨16, 16, .rc, 0, 0, 65535⟩,
     ⟨10, 1, .ro, 0, 0, 1⟩,
     ⟨9, 1, .ro, 0, 0, 1⟩,
     ⟨8, 1, .ro, 0, 0, 1⟩,
     ⟨4, 2, .ro, 0, 0, 3⟩,
     ⟨0, 3, .ro, 0, 0, 7⟩]⟩,
  ⟨SAF_OUT_STAT 0, [(4, 0x4)], .status, .pf1Spi,
    [⟨16, 16, .rc, 0, 0, 65535⟩,
     ⟨8, 8, .rc, 0, 0, 255⟩,
     ⟨4, 3, .ro, 0, 0, 7⟩,
     ⟨3, 1, .ro, 0, 0, 1⟩,
     ⟨2, 1, .ro, 0, 0, 1⟩,
     ⟨1, 1, .ro, 0, 0, 1⟩,
     ⟨0, 1, .ro, 0, 0, 1⟩]⟩,
  ⟨SAF_ZN_SUM, [], .status, .pf1Spi,
    [⟨16, 16, .ro, 0, 0, 65535⟩,
     ⟨0, 16, .ro, 0, 0, 65535⟩]⟩,
  ⟨SAF_DATA_STAT, [], .status, .pf1Spi,
    [⟨24, 8, .rc, 0, 0, 255⟩,
     ⟨16, 8, .rc, 0, 0, 255⟩,
     ⟨8, 8, .rc, 0, 0, 255⟩,
     ⟨0, 8, .rc, 0, 0, 255⟩]⟩]

/-- Rows of spec/12_safety_block.md. -/
def regTable12_1 : List RegDesc := [
  ⟨SAF_ZN_CRT 0, [(16, 0x20)], .setup, .pf1Spi,
    [⟨0, 32, .rw, 0, 0, 4294967295⟩]⟩,
  ⟨SAF_ZN_CH 0, [(16, 0x20)], .setup, .pf1Spi,
    [⟨24, 8, .rw, 0, 0, 255⟩,
     ⟨18, 1, .rw, 0, 0, 1⟩,
     ⟨17, 1, .rw, 0, 0, 1⟩,
     ⟨16, 1, .rw, 0, 0, 1⟩,
     ⟨0, 16, .rw, 0, 0, 65535⟩]⟩,
  ⟨SAF_ZN_ANG 0, [(16, 0x20)], .setup, .pf1Spi,
    [⟨16, 16, .rw, 0, 0, 65535⟩,
     ⟨0, 16, .rw, 0, 0, 65535⟩]⟩,
  ⟨SAF_ZN_RNG 0, [(16, 0x20)], .setup, .pf1Spi,
    [⟨16, 16, .rw, 0, 0, 65535⟩,
     ⟨0, 16, .rw, 0, 0, 65535⟩]⟩,
  ⟨SAF_ZN_CRIT 0, [(16, 0x20)], .setup, .pf1Spi,
    [⟨20, 12, .rw, 8, 0, 4095⟩,
     ⟨16, 4, .rw, 3, 0, 15⟩,
     ⟨12, 4, .rw, 2, 0, 15⟩,
     ⟨8, 4, .rw, 1, 0, 15⟩,
     ⟨0, 8, .rw, 3, 1, 255⟩]⟩,
  ⟨SAF_ZN_RSP 0, [(16, 0x20)], .setup, .pf1Spi,
    [⟨31, 1, .rw, 0, 0, 1⟩,
     ⟨16, 10, .rw, 0, 0, 512⟩,
     ⟨0, 16, .rw, 0, 0, 65535⟩]⟩,
  ⟨SAF_ZN_STAT 0, [(16, 0x20)], .status, .pf1Spi,
    [⟨16, 16, .ro, 0, 0, 65535⟩,
     ⟨8, 8, .ro, 0, 0, 255⟩,
     ⟨5, 3, .ro, 0, 0, 7⟩,
     ⟨4, 1, .ro, 0, 0, 1⟩,
     ⟨3, 1, .ro, 0, 0, 1⟩,
     ⟨0, 3, .ro, 0, 0, 7⟩]⟩]

/-- Rows of spec/13_faults_and_service_continuity.md. -/
def regTable13_0 : List RegDesc := [
  ⟨FLT_CFG, [], .runTime, .pf1Spi,
    [⟨8, 8, .rw, 0x3c, 0, 255⟩,
     ⟨0, 8, .rw, 0xa, 1, 255⟩]⟩,
  ⟨FLT_STAT, [], .status, .any,
    [⟨16, 16, .rc, 0, 0, 65535⟩,
     ⟨8, 8, .rc, 0, 0, 255⟩,
     ⟨0, 8, .ro, 0, 0, 255⟩]⟩,
  ⟨FLT_LOG_STAT, [], .status, .any,
    [⟨24, 8, .ro, 0, 0, 255⟩,
     ⟨23, 1, .ro, 0, 0, 1⟩,
     ⟨0, 9, .ro, 0, 0, 511⟩]⟩,
  ⟨FLT_LOG_TOTAL, [], .status, .any,
    [⟨0, 32, .ro, 0, 0, 4294967295⟩]⟩,
  ⟨FLT_LOG_SEL, [], .command, .any,
    [⟨0, 8, .rw, 0, 0, 255⟩]⟩,
  ⟨FLT_LOG_DATA0, [], .status, .any,
    [⟨0, 32, .ro, 0, 0, 4294967295⟩]⟩,
  ⟨FLT_LOG_DATA1, [], .status, .any,
    [⟨0, 32, .ro, 0, 0, 4294967295⟩]⟩,
  ⟨FLT_LOG_DATA2, [], .status, .any,
    [⟨0, 32, .ro, 0, 0, 4294967295⟩]⟩,
  ⟨FLT_LOG_DATA3, [], .status, .any,
    [⟨0, 32, .ro, 0, 0, 4294967295⟩]⟩,
  ⟨FLT_CTL, [], .command, .pf1Spi,
    [⟨0, 1, .wo, 0, 0, 1⟩]⟩,
  ⟨CRT_SVC 0, [(32, 0x1000)], .status, .any,
    [⟨16, 16, .ro, 0, 0, 65535⟩,
     ⟨2, 1, .ro, 0, 0, 1⟩,
     ⟨1, 1, .ro, 0, 0, 1⟩,
     ⟨0, 1, .ro, 0, 0, 1⟩]⟩,
  ⟨CRT_RESTORE 0, [(32, 0x1000)], .runTime, .pf1Spi,
    [⟨16, 1, .wo, 0, 0, 1⟩,
     ⟨0, 16, .wo, 0, 0, 65535⟩]⟩]

/-- Rows of spec/15_register_map.md. -/
def regTable15_0 : List RegDesc := [
  ⟨GLB_ID, [], .status, .any,
    [⟨16, 16, .ro, 0x5120, 0, 65535⟩,
     ⟨8, 8, .ro, 2, 0, 255⟩,
     ⟨4, 4, .ro, 2, 0, 15⟩,
     ⟨0, 4, .ro, 0, 0, 15⟩]⟩,
  ⟨GLB_UID_LO, [], .status, .any,
    [⟨0, 32, .ro, 0, 0, 4294967295⟩]⟩,
  ⟨GLB_UID_HI, [], .status, .any,
    [⟨0, 32, .ro, 0, 0, 4294967295⟩]⟩,
  ⟨GLB_READY, [], .status, .any,
    [⟨9, 1, .ro, 0, 0, 1⟩,
     ⟨8, 1, .ro, 0, 0, 1⟩,
     ⟨6, 1, .ro, 0, 0, 1⟩,
     ⟨5, 1, .ro, 0, 0, 1⟩,
     ⟨4, 1, .ro, 0, 0, 1⟩,
     ⟨3, 1, .ro, 0, 0, 1⟩,
     ⟨2, 1, .ro, 0, 0, 1⟩,
     ⟨1, 1, .ro, 0, 0, 1⟩,
     ⟨0, 1, .ro, 0, 0, 1⟩]⟩,
  ⟨GLB_READY_CRT, [], .status, .any,
    [⟨0, 32, .ro, 0, 0, 4294967295⟩]⟩,
  ⟨GLB_PIN, [], .status, .any,
    [⟨5, 1, .ro, 0, 0, 1⟩,
     ⟨4, 1, .ro, 0, 0, 1⟩,
     ⟨2, 2, .ro, 0, 0, 3⟩,
     ⟨0, 2, .ro, 0, 0, 3⟩]⟩,
  ⟨GLB_DIAG_PAGE, [], .command, .any,
    [⟨0, 2, .rw, 0, 0, 3⟩]⟩,
  ⟨GLB_SCRATCH, [], .setup, .any,
    [⟨0, 32, .rw, 0, 0, 4294967295⟩]⟩,
  ⟨CRT_CTRL 0, [(32, 0x1000)], .runTime, .any,
    [⟨0, 1, .rw, 0, 0, 1⟩]⟩,
  ⟨CLK_STAT, [], .status, .any,
    [⟨8, 8, .rc, 0, 0, 255⟩,
     ⟨4, 1, .ro, 0, 0, 1⟩,
     ⟨3, 1, .ro, 0, 0, 1⟩,
     ⟨2, 1, .ro, 0, 0, 1⟩,
     ⟨1, 1, .ro, 0, 0, 1⟩,
     ⟨0, 1, .ro, 0, 0, 1⟩]⟩,
  ⟨CLK_RST_CAUSE, [], .status, .any,
    [⟨3, 1, .rw1c, 0, 0, 1⟩,
     ⟨2, 1, .rw1c, 0, 0, 1⟩,
     ⟨1, 1, .rw1c, 0, 0, 1⟩,
     ⟨0, 1, .rw1c, 0, 0, 1⟩]⟩,
  ⟨CLK_DTIME_LO, [], .status, .any,
    [⟨0, 32, .ro, 0, 0, 4294967295⟩]⟩,
  ⟨CLK_DTIME_HI, [], .status, .any,
    [⟨0, 32, .ro, 0, 0, 4294967295⟩]⟩,
  ⟨CLK_CRT_PWR, [], .command, .any,
    [⟨0, 32, .rw, 0xffffffff, 0, 4294967295⟩]⟩,
  ⟨CLK_CRT_PWR_LO, [], .status, .any,
    [⟨0, 32, .ro, 0, 0, 4294967295⟩]⟩,
  ⟨CLK_CRT_PWR_HI, [], .status, .any,
    [⟨0, 32, .ro, 0, 0, 4294967295⟩]⟩]

/-- Every register family of the map (R604, R626). -/
def regTable : List RegDesc :=
  regTable02_0 ++
  regTable03_0 ++
  regTable04_0 ++
  regTable05_0 ++
  regTable05_1 ++
  regTable06_0 ++
  regTable07_0 ++
  regTable08_0 ++
  regTable08_1 ++
  regTable09_0 ++
  regTable10_0 ++
  regTable11_0 ++
  regTable12_0 ++
  regTable12_1 ++
  regTable13_0 ++
  regTable15_0

end Sys2Proof.Machine
end

