-- ==== Sys2Proof/Machine/RegReset.lean ====
section
/-! DEFINITION. The row of the register map that an address belongs to, and every register's value after the release of
RESET_N (R604, R611). -/

namespace Sys2Proof.Machine

/-- The byte offset o lies on an element of the given counts and strides (outermost first). -/
def onStride : List (Nat × Nat) → Nat → Bool
  | [], o => o == 0
  | (n, st) :: t, o => decide (o / st < n) && onStride t (o % st)

/-- The address a is a register of this family. -/
def RegDesc.covers (d : RegDesc) (a : Nat) : Bool :=
  decide (d.base ≤ a) && onStride d.dims (a - d.base)

/-- The row of the register map that maps address a; none where a is RSVD (R604). -/
def regDescAt (a : Nat) : Option RegDesc := regTable.find? (fun d => d.covers a)

/-- The reset values of a row's fields, joined. -/
def RegDesc.resetNat (d : RegDesc) : Nat :=
  d.fields.foldl (fun n f => n + f.reset * 2 ^ f.lsb) 0

/-- The place of a crate register within its crate, and the crate (R605). -/
def crateOf (a : Nat) : Nat := (a - 0x10000) / 0x1000
/-- See `crateOf`. -/
def crateOff (a : Nat) : Nat := (a - 0x10000) % 0x1000

/-- What the reset value of an instance adds to its row's: TDC_STATE.chan and role (R123), EMT_CRATE_MAP.crate (R172),
PF1's HIF_FN_CFG (R404), HK_ENT[0] (R479), values from OTP (R474, R613), and what the retention SRAM holds after a
power-on (R570, R622). -/
def resetExtra (a : Nat) : Nat :=
  if 0x10000 ≤ a then
    if 0x110 ≤ crateOff a ∧ crateOff a < 0x320 ∧ (crateOff a - 0x110) % 0x20 = 0 then
      if (crateOff a - 0x110) / 0x20 < 16 then 256 * ((crateOff a - 0x110) / 0x20) else 1
    else 0
  else if 0x6000 ≤ a ∧ a < 0x6800 ∧ (a - 0x6000) % 0x40 = 8 then (a - 0x6000) / 0x40
  else if a = HIF_FN_CFG 1 then 0xF000
  else if a = HK_ENT 0 then 0x700
  else if a = HK_RREF0 then (Config.rref 0).toNat
  else if a = HK_RREF1 then (Config.rref 1).toNat
  else if a = GLB_UID_LO then Config.uid.toNat % 2 ^ 32
  else if a = GLB_UID_HI then Config.uid.toNat / 2 ^ 32
  else if a = CLK_RST_CAUSE then 1
  else if a = FLT_LOG_STAT then 2 ^ 23
  else 0

/-- The value of the register at address a after the release of RESET_N; an RSVD address holds 0 (R606, R611). -/
def resetWord (a : Nat) : Word :=
  match regDescAt a with
  | none => 0
  | some d => BitVec.ofNat 32 (d.resetNat + resetExtra a)

end Sys2Proof.Machine
end

