-- ==== Sys2Proof/Machine/State.lean ====
section
/-! DEFINITION. The state of the AU5120 as plain data: the register file, the internal state of every block, host memory
as the device has written it, and the queue of waiting commands; and the state after reset. -/

namespace Sys2Proof.Machine

/-- Why the block would stop with a fault. No meaning raises one: the manual stops this block nowhere. Safe. -/
inductive Fault where
  /-- Raised by no command: it stands for a stop that the manual does not describe. Safe: it never occurs. -/
  | none
  deriving DecidableEq, Repr

/-- Why a command would be refused. -/
inductive Refusal where
  /-- Raised by a row of the table whose meaning is not written yet. Safe: the run ends there. -/
  | notModelled (mnemonic : String)
  deriving DecidableEq, Repr

/-! ## Clocks, resets, supplies, test access port -/

/-- Where the device stands in its supply and reset sequence (R596, R598). -/
inductive Phase where
  | unpowered | inReset | running
  deriving DecidableEq, Repr

/-- Clock sources, their monitors and device time (R80 to R83, R586 to R594, R603, R645). -/
structure Clk where
  phase : Phase
  goodRun : Nat
  badRun : Nat
  everPresent : Bool
  everLocked : Bool
  xtalLost : Bool
  tick : Nat
  ftick : Nat
  devTime : DWord
  devCopy : DWord
  copyHold : Option DWord
  lastLeft : Option (Nat × Nat)
  earlyClose : Bool
  motorWas : Bool
  deriving DecidableEq, Repr

/-- The IEEE 1149.1 test access port: instruction register, bypass bit, the boundary register's cells as captured and as they
drive, in the order of `boundaryBalls`, TDO word (R631). -/
structure Tap where
  ir : BitVec 4
  bypass : Bool
  boundary : List Bool
  driven : List Bool
  dr : Word
  deriving DecidableEq, Repr

/-! ## Detector channels and slices -/

/-- The arming states of a channel (R58). -/
inductive ChanState where
  | off | settling | idle | pre | blank | main | drain
  deriving DecidableEq, Repr

/-- One captured event on its way to Churn (R50 table, R102, R424). -/
structure Evt where
  chan : Nat
  interval : Int
  code : Nat
  overRange : Bool
  range : Nat
  settle : Bool
  merged : Bool
  nearBlank : Bool
  atRes : Bool
  subst : Bool
  rep : Nat
  deriving DecidableEq, Repr

/-- A pre-window stop that waits for its start (R100): stamp in 1/16 LSB, instant, the shadowing spare's stamp, the tap
codes of both (R93, R108), the base range at its crossing (R40), whether it merged with an event on the charge path (R48). -/
structure PreStop where
  stamp : Int
  lsb : Nat
  spare : Option Int
  d : Nat
  spareD : Nat
  range : Nat
  merged : Bool
  deriving DecidableEq, Repr

/-- An event that waits for its charge code (R36, R46, R48): the slice that captured it; the held charge in aC once its
gate has ended; whether it opened the gate, whether its code stands, whether its range is chosen, whether its slice has
discarded it (R97); the coefficients of its dwell (R22, R105); how many windows of its crate have closed since its capture. -/
structure Pend where
  evt : Evt
  qGain : Nat
  qOff : Int
  held : Option Int
  owner : Bool
  ready : Bool
  sel : Bool
  drop : Bool
  age : Nat
  deriving DecidableEq, Repr

/-- The hold of the charge path: its gate has ended, the opening crossing has fallen (R37). -/
structure Hold where
  gateEnded : Bool
  fallen : Bool
  deriving DecidableEq, Repr

/-- The charge sums of one coarse block or fine window (R269). -/
structure Acc where
  sum : Nat
  usable : Nat
  overs : Nat
  settle : Nat
  deriving DecidableEq, Repr

/-- A dwell descriptor (R259), with what the crate fixes at the commit of repeat 0: the channels that take part, those
served by the spare, the sweep, the entry's number in its START, the dwell's
number in its crate (R320), and the registers that Churn reads for the dwell (R22). -/
structure Descr where
  cbin : Nat
  fbin : Nat
  fmode : Nat
  splitN : Nat
  mainLen : Nat
  blank : Nat
  reps : Nat
  safety : Bool
  ring : RingId
  tag : BitVec 16
  angle : BitVec 16
  round : BitVec 16
  epoch : Word
  part : BitVec 16
  subst : BitVec 16
  degraded : Bool
  sweep : Nat
  start : Option CmdRef
  entry : Nat
  number : Nat
  cfg : Sparse Word
  deriving DecidableEq, Repr

/-- Why a dwell closes early: REFCLK is lost (R82), its crate is powered down (R564). -/
inductive EarlyWhy where
  | refclk | power
  deriving DecidableEq, Repr

/-- What a dwell-close marker carries (R145, R260, R325): shots fired, windows without a start, the reason of an early close,
crossings not captured, the counting time, and the lost mask where no window-close marker took it before (R103). -/
structure CloseMark where
  fired : Nat
  noStart : Nat
  early : Option EarlyWhy
  crossings : List Nat
  accepting : Nat
  lost : BitVec 16
  deriving DecidableEq, Repr

/-- One entry of the TDC-to-Churn FIFO (R102). -/
inductive FifoItem where
  | event (e : Evt)
  | windowClose (lost : BitVec 16) (noStart : Bool)
  | dwellClose (m : CloseMark)
  deriving DecidableEq, Repr

/-- The states of one histogram buffer (R272). -/
inductive BufState where
  | free | accum | full | extract | dump
  deriving DecidableEq, Repr

/-- One entry of a split list: coarse bin, its count, and its age (R267). -/
structure SplitBin where
  bin : Nat
  count : Nat
  deriving DecidableEq, Repr

/-- What a channel keeps beside one buffer: state, dwell, fine windows, charge sums, near-blank interval, window-probe
sum, pre-window count (R265 to R272, R322, R325). -/
structure Buf where
  st : BufState
  dwell : Option Descr
  mark : Option CloseMark
  fmode : Nat
  fine : List (Option Nat)
  accs : Sparse Acc
  nearBlank : Option Int
  split : List SplitBin
  corrupt : Bool
  events : Nat
  probe : Bool
  probeSum : Nat
  probeOver : Bool
  preCount : Nat
  sunAt : Bool
  dirtyAt : Bool
  foreignAt : Bool
  ambientAt : Nat
  weatherAt : Bool
  lost : Bool
  dumpDue : Bool
  dwellId : Nat
  deriving DecidableEq, Repr

/-- A detector channel: arming state, charge path, event buffer, whether its next and its present window mark every event with
settle (R53), whether a frame has delivered an ambient result that the Skimmer has not taken (R54), Skimmer targets, service
causes and its two buffers (R37 to R64, R307 to R311, R562, R272). -/
structure Chan where
  st : ChanState
  prevRange : Option Nat
  pend : List Pend
  hold : Option Hold
  resetting : Bool
  active : Bool
  blankHeld : Bool
  converterOn : Bool
  stops : Nat
  preStops : List PreStop
  lastStop : Option Nat
  winCross : Nat
  markSettle : Bool
  winSettle : Bool
  ambInvalid : Bool
  ambDelivered : Bool
  lastA : Option (Nat × Bool)
  pubThr : Nat
  pubBias : Nat
  pubSun : Bool
  ambFailed : Bool
  remNoSpare : Bool
  remTie : Bool
  remEcc : Bool
  remTone : Bool
  toneOk : Bool
  buf0 : Buf
  buf1 : Buf
  accBuf : Bool
  refs : List (Nat × Option (List Int))
  deriving DecidableEq, Repr

/-- A slice: width table, the table and the coefficients before the last change, for a dwell that was open at it (R22),
code-density counters, and calibration results that wait for a dwell boundary (R92 to R94, R83, R105). -/
structure Slice where
  width : List Nat
  oldWidth : List Nat
  oldGain : Nat
  oldOff : Int
  newWidth : Option (List Nat)
  hits : Sparse Nat
  batchStops : Nat
  firstCal : Bool
  newQ : Option (Nat × Int)
  start : Option Int
  deriving DecidableEq, Repr

/-- One window of a crate, fixed at the commit of its repeat (R85, R136, R143): trigger instant, closes, calibration
edges and start, in LSB of the timing domain. -/
structure Win where
  group : Nat
  trig : Nat
  rep : Nat
  blank : Nat
  close : Nat
  e0 : Nat
  accept : Nat
  start : Option Nat
  blankEnd : Option Nat
  closed : Bool
  deriving DecidableEq, Repr

/-- A window-close marker that a closed window owes: whether it had no start, and whether it belongs to the dwell behind the one
that still closes (R85, R102). -/
structure Owed where
  noStart : Bool
  ofNext : Bool
  deriving DecidableEq, Repr

/-- A crate's open dwell in the timing domain (R31, R58, R145, R325): the slice that serves each channel, the channel that
the spare shadows, for each channel the crossings not captured (R325), the lost mask where no window-close marker is left to take
it (R103), the registers that the crate reads for the dwell (R22), whether a retest runs in it (R566), whether a
window of it has opened, whether it goes on under tables that a dwell boundary has replaced since (R22, R94), the intervals of a
shadowed channel from both slices (R108). -/
structure Dwell where
  reps : Nat
  safety : Bool
  fired : Nat
  noStart : Nat
  accepting : Nat
  cross : List Nat
  lost : BitVec 16
  part : BitVec 16
  serve : List (Option Nat)
  shadow : Option Nat
  cfg : Sparse Word
  tests : Bool
  ended : Bool
  opened : Bool
  oldTab : Bool
  shadowMain : List Int
  shadowSpare : List Int
  deriving DecidableEq, Repr

/-- A HIST_DUMP that runs on a crate: its command, none once abandoned (R394); its dwells with channels still to dump
(R290 to R292). -/
structure Dump where
  cmd : Option CmdRef
  fine : Bool
  mask : BitVec 16
  dwells : Nat
  ring : RingId
  started : Bool
  seen : Nat
  channels : Nat
  full : Nat
  due : List (Nat × BitVec 16)
  deriving DecidableEq, Repr

/-- The stages of a RAW_CAPTURE (R293, R294). -/
inductive RawStage where
  | waiting | armed | capturing | draining
  deriving DecidableEq, Repr

/-- A RAW_CAPTURE that runs on a crate, with its command, none once abandoned (R293 to R295, R394). `count` units stand in the
bank's fine-window memory (R256), `extra` holds the markers past its end. -/
structure Raw where
  cmd : Option CmdRef
  pre : Bool
  mask : BitVec 16
  limit : Nat
  ring : RingId
  stage : RawStage
  count : Nat
  extra : List (Word × Word)
  written : Nat
  beyond : Nat
  stopWith : Option Nat
  deriving DecidableEq, Repr

/-- The extraction of one dwell that both extractors have still to end: the channels left, the wet channels, and the
clocks since the boundary that each extractor has spent, and whether one of them has waited besides, for the dwell before or for
space in the record FIFO (R275, R299, R318). -/
structure XWait where
  id : Nat
  left : BitVec 16
  wet : Nat
  clk0 : Nat
  clk1 : Nat
  held : Bool
  deriving DecidableEq, Repr

/-- What a crate's spare decides between two slices (R112): which of the two fail. -/
structure TieRes where
  chan : Nat
  sliceFails : Bool
  spareFails : Bool
  deriving DecidableEq, Repr

/-- A requested restoration and its outcome (R565 to R567): whether its dwell is open, whether the dwell planned last is that
dwell, the slices and the areas that its dwell tests and whether it tests the spare, what passed; the requests that came since its
dwell opened. -/
structure Retest where
  chans : BitVec 16
  spare : Bool
  running : Bool
  planned : Bool
  sliceOut : BitVec 16
  areaOut : BitVec 16
  spareOut : Bool
  passSlices : List Nat
  passAreas : BitVec 16
  passSpare : Bool
  finished : Bool
  nextChans : BitVec 16
  nextSpare : Bool
  deriving DecidableEq, Repr

/-- A crate: windows, open dwell, FIFO, descriptor queue, spare scheduling, tie-break, retest, Churn dwell, dumps,
captures, extraction (R31, R85, R102 to R113, R259, R290 to R295, R566, R603); a change of front-end mode that has not
reached the timing domain (R32, R590); the latched target of the tracking loop, none where its sensor gives none (R52, R591);
whether a powered-down crate still has its open dwell to close (R564, R603); mismatching dwells that mm_ct has still to count
(R108, R437). -/
structure Crate where
  win : Option Win
  armNext : Option Win
  closing : List Owed
  lastClose : Option Nat
  dwell : Option Dwell
  dwellNext : Option Dwell
  fifo : List FifoItem
  lost : BitVec 16
  descQ : List Descr
  commitNo : Nat
  lastShadow : Option Nat
  visitDue : Bool
  spareDue : Bool
  calSlice : Option Nat
  calPending : Bool
  tieReq : List Nat
  tieRun : Option Nat
  tieRes : Option TieRes
  retest : Option Retest
  cur : Option Descr
  curProbe : Bool
  curWindows : Nat
  curLost : BitVec 16
  late : BitVec 16
  xq : List XWait
  nextId : Nat
  dump : Option Dump
  raw : Option Raw
  rawBlocksFine : Bool
  tone : Option Nat
  modeDue : Bool
  trkTarget : Option Int
  stopDue : Bool
  mmOwed : Nat
  deriving DecidableEq, Repr

/-! ## Shot engine and emission -/

/-- A shot-table entry, its four words as loaded (R128). -/
structure Entry where
  w0 : Word
  w1 : Word
  w2 : Word
  w3 : Word
  deriving DecidableEq, Repr

/-- The entry that runs (R136, R142, R143): start S in LSB, the profile and dither amplitude in force at its start, the
repeats committed and the main windows closed, the dither drawn for the next repeat, the close of the last committed
window, the crates that it arms with their emitters, and whether it ends with its last committed window. -/
structure Run where
  idx : Nat
  entry : Entry
  startLsb : Nat
  profA : Word
  profB : Word
  ditherAmp : Nat
  committed : Nat
  closed : Nat
  nextDither : Int
  close : Nat
  crates : List (Nat × Nat)
  ending : Bool
  deriving DecidableEq, Repr

/-- A requested bank swap (R153, R154). -/
structure Swap where
  cmd : Option CmdRef
  atRound : Option (BitVec 16)
  due : Bool
  written : Nat
  deriving DecidableEq, Repr

/-- The shot engine beside its registers (R126 to R155): the last sync pulse, from and to, in LSB (R149); where the search for
the entry that follows a hold begins (R151). -/
structure Shot where
  bank0 : List Entry
  bank1 : List Entry
  run : Option Run
  next : Nat
  prevStart : Nat
  delayDue : Bool
  lfsr : Word
  seedPending : Bool
  hopPending : Bool
  swap : Option Swap
  startCmd : Option CmdRef
  dwells : Nat
  stopCmds : List CmdRef
  aggregate : Nat
  syncPulses : Nat
  syncPulse : Option (Nat × Nat)
  resumeAt : Option Nat
  hopReq : Option Nat
  deriving DecidableEq, Repr

/-- One emitter: its rate credits, its committed firing and the instant of its trigger, its last pulse, from and to, in LSB
(R136, R146, R147), and its accountant bins: the current and the 16 preceding energies of both lengths, in nJ (R191). -/
structure Emit where
  credits : Nat
  committed : Bool
  trig : Nat
  pulse : Option (Int × Int)
  bins1 : List Nat
  bins100 : List Nat
  deriving DecidableEq, Repr

/-- One charge controller beside its registers (R175 to R184, R190). -/
structure Chg where
  gate : Bool
  target : Nat
  nextTarget : Option Nat
  reached : Nat
  highest : Nat
  cmpValid : Bool
  firings : Nat
  stDue : Bool
  timedOut : Bool
  cycleAt : Option Nat
  offAt : Option Nat
  deriving DecidableEq, Repr

/-- One window monitor beside its registers (R182, R185, R186). -/
structure Mon where
  cmpValid : Bool
  deriving DecidableEq, Repr

/-- The lock of the eye-safety set: key sequence, burn and the set that is being burned (R195). The accountant: whether its bins have
an uncorrectable error (R194), and the ticks in which its 62.5 µs and its 6.25 ms bins began (R191). -/
structure EyeLock where
  armed : Bool
  burning : Bool
  burnSet : List Word
  binEccBad : Bool
  roll1 : Nat
  roll100 : Nat
  deriving DecidableEq, Repr

/-! ## Motor feedback -/

/-- The motor interface beside its registers (R214 to R239); times in ticks of 10 ns: the filtered code, the accept tick from
which the standstill timeout counts, the angle of the previous tick where it was valid, the ticks of the last pass through 0
and of the last sweep boundary, the first tick of the running PWM period. -/
structure Motor where
  code : Option (BitVec 3)
  everCode : Bool
  edgeTime : Nat
  edgeAccept : Nat
  edgeN : Nat
  hasEdge : Bool
  sEdge : Nat
  rawBase : Nat
  offset : Nat
  hold : Option Nat
  prevAngle : Option Nat
  fwdCount : Nat
  idxLevel : Option Bool
  lines : Option (BitVec 3)
  standFrom : Nat
  passTick : Option Nat
  sweepTick : Option Nat
  serrFrom : Nat
  deriving DecidableEq, Repr

/-! ## Host link -/

/-- The states of a ring (R371). -/
inductive RingState where
  | disabled | enabling | enabled | draining | error
  deriving DecidableEq, Repr

/-- A doorbell that waits for a context fetch to end (R363, R370). -/
structure HeldBell where
  index : Word
  disable : Bool
  reload : Bool
  arm : Bool
  deriving DecidableEq, Repr

/-- A ring: its state, its context words 0 to 7, indices, sequence, drops, write-back and interrupt state
(R361, R365, R366, R371 to R379). -/
structure Ring where
  st : RingState
  ctx : List Word
  hostIdx : Word
  devIdx : Word
  seq : Word
  drops : Word
  sinceLoss : Nat
  lossPending : Bool
  gen : BitVec 16
  armed : Bool
  irqCount : Nat
  irqSince : Nat
  wbDue : Bool
  wbBytes : Nat
  fetched : Option (List Word)
  fetchFailed : Bool
  held : List HeldBell
  descrHeld : Option (List Word)
  deriving DecidableEq, Repr

/-- What a read of host memory is for (R363, R382, R392): the context of a ring that is being enabled, that is reloaded under
a generation, or that the cache has evicted; a descriptor of a ring under a generation, with the completion ring that holds
its unit (R389); a command's list. -/
inductive ReadFor where
  | context (ring : RingId)
  | reload (ring : RingId) (gen : BitVec 16)
  | again (ring : RingId) (gen : BitVec 16)
  | descriptor (ring : RingId) (gen : BitVec 16) (cplRing : RingId)
  | list (cmd : CmdRef)
  deriving DecidableEq, Repr

/-- A read of host memory that has not completed (R353, R392). -/
structure HostRead where
  func : Func
  addr : DWord
  bytes : Nat
  purpose : ReadFor
  deriving DecidableEq, Repr

/-- How far an accepted command is (R383 to R387). -/
inductive CmdStage where
  | reading | readyList | open
  deriving DecidableEq, Repr

/-- The sequence numbers of the last records written for a command: of the highest entry of a START that has given any, and of
the entry before it (R390). Other commands have entry 0. -/
structure SeqTrack where
  seq : Word
  entry : Nat
  before : Word
  beforeEntry : Nat
  deriving DecidableEq, Repr

/-- An accepted command (R380, R383): the completion ring that its CMD ring named at its acceptance (R388, R389), its
descriptor, once read its list, and the sequence numbers of its records. -/
structure Cmd where
  ref : CmdRef
  cplRing : RingId
  func : Func
  words : List Word
  list : List Word
  stage : CmdStage
  readFailed : Bool
  seqs : SeqTrack
  deriving DecidableEq, Repr

/-- A completion that waits to be written, with its command's descriptor (R388, R390). -/
structure Cpl where
  cplRing : RingId
  status : Nat
  words : List Word
  cmd : CmdRef
  shots : DWord
  dwells : Word
  seqs : SeqTrack
  epoch : Word
  deriving DecidableEq, Repr

/-- A record that waits in the record FIFO (R373, R590): the function that names its ring, the class that it needs, its
words, the command and the entry of a START that it comes from, and whether its ring's disable found it waiting. -/
structure Rec where
  func : Func
  ring : RingId
  cls : Nat
  words : List Word
  forCmd : Option CmdRef
  entry : Nat
  kept : Bool
  deriving DecidableEq, Repr

/-- The registers of Advanced Error Reporting: status, mask and severity of uncorrectable errors, status and mask of correctable
ones (R352; PRESUMED, notes/assumptions/99.md). -/
structure Aer where
  uncStatus : Word
  uncMask : Word
  uncSeverity : Word
  corStatus : Word
  corMask : Word
  deriving DecidableEq, Repr

/-- One function of the endpoint: configuration space with its three 64-bit BARs and Advanced Error Reporting, MSI-X table and
pending bits (R352 to R357, R379, R393). -/
structure Fn where
  bme : Bool
  mse : Bool
  msixEn : Bool
  msixMask : Bool
  cplTmoMs : Nat
  maxPayload : Nat
  maxRead : Nat
  bar0 : DWord
  bar2 : DWord
  bar4 : DWord
  aer : Aer
  msix : Sparse MsixEntry
  pba : List Nat
  deriving DecidableEq, Repr

/-- The holding registers of one requester (R441, R471, R573, R617, R618, and the shadow strobe of MOT_STATUS), the
data of its last read, and whether that read ended with Unsupported Request (R358). -/
structure Req where
  hi : Word
  diagHi : Word
  hkS : List Word
  mot : Option (List Word)
  log : List Word
  page : Nat
  logSel : Nat
  rdata : Word
  ur : Bool
  deriving DecidableEq, Repr

/-- Writes of one transaction: address, mask, value (R381, R430). -/
structure TxnWrite where
  addr : Nat
  mask : Word
  val : Word
  addrOk : Bool
  w3 : Word
  deriving DecidableEq, Repr

/-- An accepted configuration transaction that waits for its apply instant (R430 to R436). -/
structure Txn where
  src : Src
  cmd : Option CmdRef
  tag : BitVec 16
  atPoint : Nat
  round : BitVec 16
  due : Bool
  writes : List TxnWrite
  deriving DecidableEq, Repr

/-- A snapshot whose list has been validated (R442, R443). -/
structure Snap where
  cmd : CmdRef
  ring : RingId
  addrs : List Nat
  deriving DecidableEq, Repr

/-- The host interface beside its registers (R352 to R403, R429 to R443): `reads` are the reads of host memory that are
outstanding, `readQ` those that wait for their turn (R353, R393), `recWait` the records that their sources hold while the record
FIFO is full (R590). -/
structure HostIf where
  pf0 : Fn
  pf1 : Fn
  reads : List HostRead
  readQ : List HostRead
  lru : List Nat
  rrLast : Nat
  cmds : List Cmd
  cpls : List Cpl
  recs : List Rec
  recWait : List Rec
  evq : List (List Word)
  evqRead : Nat
  miso : List Byte
  irqs : List (Func × Nat)
  txns : List Txn
  snaps : List Snap
  deriving DecidableEq, Repr

/-! ## Housekeeping -/

/-- What the stream of conversions is set to (R455). -/
structure HkSetup where
  pins : Nat
  mode : Nat
  ref : Nat
  per : Nat
  filt : Nat
  exc : Nat
  swapped : Bool
  deriving DecidableEq, Repr

/-- An urgent request (R467): a readback of a DAC, or a convert request with the command that asked, none for HK_CNOW. -/
inductive Urgent where
  | readback (dac : Nat)
  | convert (entry : Nat) (cmd : Option CmdRef)
  deriving DecidableEq, Repr

/-- Where the sequencer goes after its urgent requests (R464): IDLE, the table's next entry, the current entry from SELECT,
its lead time, its next conversion. -/
inductive HkResume where
  | idle | next | select | lead | conv
  deriving DecidableEq, Repr

/-- The housekeeping bank beside its registers (R447 to R472): the table's current entry; the entry word of the running
pass; the level that the sources drive; the stream's setup and settle count; conversions, sums and errors of the running
pass; verdicts by entry; urgent requests held and running; a held restart; whether the running pass converts; whether its
entry has changed; HK_CFG and HK_TONE as they are in force (R466). -/
structure Hk where
  cur : Nat
  entry : Word
  exc : Nat
  setup : Option HkSetup
  settle : Nat
  valid : Nat
  second : Bool
  sum1 : Int
  sum2 : Int
  excErr : Bool
  chkMm : Bool
  chkPerm : Bool
  verdicts : Sparse Nat
  urgQ : List Urgent
  urgNow : Option Urgent
  urgConverted : Bool
  resume : HkResume
  restart : Bool
  inConv : Bool
  dirty : Bool
  cfg : Word
  limits : Word
  itempRun : Nat
  rbNext : Nat
  rbCode : Nat
  rbChanged : Bool
  resetting : Bool
  deriving DecidableEq, Repr

/-! ## Safety block -/

/-- One test-pulse source (R494, R495): in the low phase of a pulse; the samples taken since that phase began or ended. -/
structure Sto where
  low : Bool
  n : Nat
  deriving DecidableEq, Repr

/-- One channel of an input pair (R493, R495, R496): its filtered level and last sample, closed or open; the samples of a
new level; the samples of a low on this channel alone; whether it has shown the test pulse of R499; the samples since its
last curtain pulse; the source at the end of whose pulse it read low; its TP_MISS and CROSS since the previous tick. -/
structure SafCh where
  level : Bool
  raw : Bool
  run : Nat
  lowRun : Nat
  sawTest : Bool
  sinceTp : Nat
  lowAt : Option Nat
  missed : Bool
  crossed : Bool
  deriving DecidableEq, Repr

/-- One input pair beside its register (R497 to R499): ticks since both channels closed, ticks since they disagree, and how
far the sequence out of FAULT is (0 none, 1 both were open, 2 both were closed afterwards). -/
structure Pair where
  a : SafCh
  b : SafCh
  closedTicks : Option Nat
  dis : Option Nat
  recover : Nat
  deriving DecidableEq, Repr

/-- What the readback of a safety output is checked for (R502, R503): a low that must last, a low before the deadline, a
high before the deadline, nothing, the low phase of an off-pulse, the return after it. -/
inductive OutPhase where
  | off | offChk | onChk | on | pulse | ret
  deriving DecidableEq, Repr

/-- One safety output beside its register (R502 to R505): phase, samples in it, a low seen in an off-pulse and a low seen
before its last sample, a stuck-on fault that holds the partner, an off-pulse that waits its turn. -/
structure Out where
  phase : OutPhase
  n : Nat
  low : Bool
  okLow : Bool
  stuck : Bool
  pulseDue : Bool
  deriving DecidableEq, Repr

/-- What a summary carries for one zone (R511). -/
structure ZoneSum where
  hits : Nat
  delivered : Nat
  missing : Nat
  inService : Nat
  shadow : Bool
  chkHits : Nat
  deriving DecidableEq, Repr

/-- A zone summary (R511): sequence number, check channel (none while no zone has a channel), whether a return of path B was
lost (R590), zones; the returns on path B before its own, left by summaries that found their FIFO full, and its own (R516). -/
structure Summary where
  seq : Nat
  chk : Option Nat
  lostB : Bool
  zones : List ZoneSum
  skip : Nat
  own : Nat
  deriving DecidableEq, Repr

/-- One return on its way to zone evaluation (R287, R510, R516). -/
structure ZRet where
  chan : Nat
  angle : BitVec 16
  range : Nat
  conf : Nat
  flags : BitVec 13
  sweep : Nat
  deriving DecidableEq, Repr

/-- One result of R287: the channel, its position and sweep, and its returns, or none where the dwell is missing. -/
structure ZRes where
  chan : Nat
  angle : BitVec 16
  sweep : Nat
  returns : Option (List ZRet)
  deriving DecidableEq, Repr

/-- A dwell of one sweep whose result zone evaluation awaits (R511). -/
structure ZWait where
  chan : Nat
  angle : BitVec 16
  sweep : Nat
  inService : Bool
  deriving DecidableEq, Repr

/-- One zone in the safety domain beside its register (R513 to R515): its runs, the last summary's part for it, a latched
data fault. -/
structure Zone where
  hitRun : Nat
  clearRun : Nat
  unkRun : Nat
  last : Option ZoneSum
  dataFault : Bool
  deriving DecidableEq, Repr

/-- An item of the FIFO of 16 from the safety block to the fabric domain (R524, R525, R590): a report; an event, its source and its
words 4 to 7. -/
inductive SafItem where
  | report (words : List Word)
  | event (typ index : Nat) (data : List Word)
  deriving DecidableEq, Repr

/-- The safety block beside its status registers (R488 to R525): active and shadow sets by address; who has written the
first unlock key and the first one-time-programmable key; the set that is being burned; test-pulse sources; pins as last sampled; the pins
that the hardware gate sees high; pairs, outputs, zones; samples since LEN_DRV changed and whether its readback is awaited;
hours for which it has been high; SRST_IN; resets written; the report counter, the reports and events that cannot leave and the states
that the last tick showed; the last summary's sequence, the ticks since it, whether one has arrived since the previous
tick, a timeout; the results and the dwells that the zone filter holds, the sweep that runs and those that have ended;
summaries and check-channel returns on their way, those of them that belong to no summary in the FIFO; the samples since the
start of the test-pulse periods (R494); the check channels of both sides. -/
structure Saf where
  active : Sparse Word
  shadow : Sparse Word
  keyBy : Option Src
  otpBy : Option Src
  burn : Option (List (Nat × Word) × Word)
  stos : Sparse Sto
  pins : SafPins
  gateA : BitVec 8
  gateB : BitVec 8
  pairs : Sparse Pair
  outs : Sparse Out
  zones : Sparse Zone
  lenSince : Nat
  lenAwait : Bool
  lenHours : Nat
  srstHigh : Nat
  srstArmed : Bool
  srstHit : Bool
  cmdReset : BitVec 8
  repCount : BitVec 16
  reps : List SafItem
  shown : List Nat
  lastSeq : Option Nat
  sinceSum : Nat
  arrived : Bool
  timeout : Bool
  zoneRes : List ZRes
  zoneWait : List ZWait
  sweepSeq : Nat
  closing : List Nat
  sumFifo : List Summary
  pathB : List ZRet
  pathSkip : Nat
  frame : Nat
  chkFab : Option Nat
  chkLast : Option Nat
  deriving DecidableEq, Repr

/-! ## Fault manager and one-time-programmable memory -/

/-- One entry of the fault log (R571). -/
structure LogEntry where
  w0 : Word
  w1 : Word
  w2 : Word
  w3 : Word
  deriving DecidableEq, Repr

/-- A detection that waits for the fault manager (R555): log code, the kind and index of the log entry, sub-element,
value, and the element it counts against. -/
structure Detect where
  code : Nat
  kind : Nat
  index : Nat
  sub : Nat
  value : Nat
  elem : Nat
  deriving DecidableEq, Repr

/-- A fault-manager change that waits for the apply instant (R560, R567). -/
inductive FmChange where
  | retire (crate slice : Nat) (why : Nat)
  | remove (crate chan : Nat) (why : Nat)
  | ambient (chan : Nat)
  | tie (crate : Nat) (res : TieRes)
  | restore (crate : Nat)
  deriving DecidableEq, Repr

/-- The fault manager beside its registers (R555 to R573). -/
structure Flt where
  log : List LogEntry
  logIntact : Bool
  detq : List Detect
  strikes : Sparse (List Nat)
  probation : Sparse Nat
  changes : List FmChange
  deriving DecidableEq, Repr

/-- One-time-programmable memory that the user burns: the eye-safety set with its CRC (R195), and the safety set with
its CRC-32 (R523). -/
structure Otp where
  eye : Option (List Word × BitVec 16)
  saf : Option (List (Nat × Word) × Word)
  deriving DecidableEq, Repr

/-! ## The whole device -/

/-- The state of the AU5120. `regs` holds the 15,405 registers by byte address; `bank` the 2 MiB of Churn memory;
`hostMem` what the device has written to host memory; `free` is the model's own counter for free values; `pending` the
commands that wait, first in, first out. -/
structure State where
  regs : Sparse Word
  bank : Sparse Byte
  hostMem : Sparse Byte
  clk : Clk
  tap : Tap
  crates : Sparse Crate
  chans : Sparse Chan
  slices : Sparse Slice
  shot : Shot
  emits : Sparse Emit
  classes : Sparse (List Nat)
  chgs : Sparse Chg
  mons : Sparse Mon
  eye : EyeLock
  motor : Motor
  host : HostIf
  reqs : Sparse Req
  rings : Sparse Ring
  hk : Hk
  saf : Saf
  flt : Flt
  otp : Otp
  free : Nat
  pending : List Instr
  deriving DecidableEq, Repr

/-! ## Reset values: what the manual gives, else the value that notes/assumptions names -/

/-- Clocks at the release of RESET_N (R592, R598). -/
def Clk.reset : Clk :=
  { phase := .running, goodRun := 0, badRun := 0, everPresent := false, everLocked := false, xtalLost := false,
    tick := 0, ftick := 0, devTime := 0, devCopy := 0, copyHold := none, lastLeft := none, earlyClose := false,
    motorWas := false }

/-- The IDCODE of the test access port (R631). -/
def idcode : Word := 0x25120B67

/-- The cells of the boundary register: one for each CMOS and LVDS signal ball of R629 (R631). -/
def boundaryCells : Nat := 150

/-- The test access port after a power-on: IDCODE is selected (R631). DESIGN CHOICE (log 113): the cells begin at 0. -/
def Tap.reset : Tap :=
  { ir := 0b0010, bypass := false, boundary := List.replicate boundaryCells false
    driven := List.replicate boundaryCells false, dr := idcode }

/-- A buffer without a dwell (R272). -/
def Buf.reset : Buf :=
  { st := .free, dwell := none, mark := none, fmode := 0, fine := [none, none, none, none],
    accs := [], nearBlank := none, split := [], corrupt := false, events := 0, probe := false,
    probeSum := 0, probeOver := false, preCount := 0, sunAt := false, dirtyAt := false, foreignAt := false,
    ambientAt := 0, weatherAt := false, lost := false, dumpDue := false, dwellId := 0 }

/-- A channel after reset: OFF, its converter without power (R58, R65). -/
def Chan.reset : Chan :=
  { st := .off, prevRange := none, pend := [], hold := none, resetting := false, active := false,
    blankHeld := false, converterOn := false, stops := 0, preStops := [], lastStop := none, winCross := 0,
    markSettle := false, winSettle := false, ambInvalid := false, ambDelivered := false, lastA := none, pubThr := 0, pubBias := 0,
    pubSun := false, ambFailed := false, remNoSpare := false, remTie := false, remEcc := false, remTone := false,
    toneOk := false, buf0 := Buf.reset, buf1 := Buf.reset, accBuf := false, refs := [] }

/-- A slice before its crate's self-test has loaded its factory table (R554). -/
def Slice.reset : Slice :=
  { width := [], oldWidth := [], oldGain := 0, oldOff := 0, newWidth := none, hits := [], batchStops := 0, firstCal := false, newQ := none, start := none }

/-- A crate after reset (R65, R106, R598). -/
def Crate.reset : Crate :=
  { win := none, armNext := none, closing := [], lastClose := none, dwell := none, dwellNext := none, fifo := [],
    lost := 0, descQ := [], commitNo := 0, lastShadow := none, visitDue := false, spareDue := false,
    calSlice := none, calPending := false, tieReq := [], tieRun := none,
    tieRes := none, retest := none, cur := none, curProbe := false, curWindows := 0, curLost := 0, late := 0,
    xq := [], nextId := 0, dump := none, raw := none, rawBlocksFine := false, tone := none, modeDue := false
    trkTarget := none, stopDue := false, mmOwed := 0 }

/-- The shot engine after reset: IDLE, both banks empty (R126, R151). -/
def Shot.reset : Shot :=
  { bank0 := [], bank1 := [], run := none, next := 0, prevStart := 0, delayDue := false, lfsr := 0,
    seedPending := false, hopPending := false, swap := none, startCmd := none, dwells := 0,
    stopCmds := [], aggregate := 0, syncPulses := 0, syncPulse := none, resumeAt := none,
    hopReq := none }

/-- An emitter after reset: no credit, all energy bins 0 (R146, R191). -/
def Emit.reset : Emit :=
  { credits := 0, committed := false, trig := 0, pulse := none, bins1 := List.replicate 17 0, bins100 := List.replicate 17 0 }

/-- A charge controller after reset: OFF, switch off (R176, R179). -/
def Chg.reset : Chg :=
  { gate := false, target := 0, nextTarget := none, reached := 0, highest := 0,
    cmpValid := false, firings := 0, stDue := false, timedOut := false, cycleAt := none, offAt := none }

/-- A window monitor after reset: off (R185). -/
def Mon.reset : Mon :=
  { cmpValid := false }

/-- The lock of the eye-safety set and the accountant after reset (R191, R195). -/
def EyeLock.reset : EyeLock :=
  { armed := false, burning := false, burnSet := [], binEccBad := false, roll1 := 0, roll100 := 0 }

/-- The motor interface in reset (R214). -/
def Motor.reset : Motor :=
  { code := none, everCode := false, edgeTime := 0, edgeAccept := 0, edgeN := 0, hasEdge := false,
    sEdge := 0, rawBase := 0, offset := 0, hold := none, prevAngle := none, fwdCount := 0,
    idxLevel := none, lines := none, standFrom := 0, passTick := none, sweepTick := none, serrFrom := 0 }

/-- A ring without a context: DISABLED (R371). -/
def Ring.reset : Ring :=
  { st := .disabled, ctx := List.replicate 8 0, hostIdx := 0, devIdx := 0, seq := 0, drops := 0, sinceLoss := 0,
    lossPending := false, gen := 0, armed := false, irqCount := 0, irqSince := 0, wbDue := false, wbBytes := 0,
    fetched := none, fetchFailed := false, held := [], descrHeld := none }

/-- A function after reset: nothing enabled, the PCI Express defaults of its control fields and of Advanced Error Reporting
(PRESUMED, notes/assumptions/99.md). -/
def Fn.reset : Fn :=
  { bme := false, mse := false, msixEn := false, msixMask := false, cplTmoMs := 50, maxPayload := 128, maxRead := 512,
    bar0 := 4, bar2 := 4, bar4 := 4, aer := ⟨0, 0x00400000, 0x00462030, 0, 0x0000E000⟩, msix := [], pba := [] }

/-- A requester's holding registers after reset (R441). -/
def Req.reset : Req :=
  { hi := 0, diagHi := 0, hkS := List.replicate 32 0, mot := none, log := [0, 0, 0, 0], page := 0, logSel := 0, rdata := 0
    ur := false }

/-- An MSI-X table entry after reset: masked. -/
def MsixEntry.reset : MsixEntry := ⟨0, 0, true⟩

/-- The host interface after reset: no link, nothing outstanding. -/
def HostIf.reset : HostIf :=
  { pf0 := Fn.reset, pf1 := Fn.reset, reads := [], readQ := [], lru := [], rrLast := 0, cmds := [], cpls := [], recs := [], recWait := [],
    evq := [], evqRead := 0, miso := [], irqs := [], txns := [], snaps := [] }

/-- The housekeeping bank before its ready bit (R472). -/
def Hk.reset : Hk :=
  { cur := 0, entry := 0, exc := 0, setup := none, settle := 0, valid := 0, second := false, sum1 := 0, sum2 := 0,
    excErr := false, chkMm := false, chkPerm := false, verdicts := [], urgQ := [], urgNow := none, urgConverted := false,
    resume := .idle, restart := false, inConv := false, dirty := false, cfg := 0, limits := 0, itempRun := 0, rbNext := 0, rbCode := 0,
    rbChanged := false, resetting := false }

/-- The safety pins, all low. -/
def SafPins.reset : SafPins := ⟨0, 0, 0, false, false⟩

/-- A source that drives high (R494). -/
def Sto.reset : Sto := ⟨false, 10⟩

/-- One channel of a pair before its first sample: open (R491, R493). -/
def SafCh.reset : SafCh :=
  { level := false, raw := false, run := 0, lowRun := 0, sawTest := false, sinceTp := 0, lowAt := none, missed := false
    crossed := false }

/-- A pair after reset: START (R497). -/
def Pair.reset : Pair := { a := SafCh.reset, b := SafCh.reset, closedTicks := none, dis := none, recover := 0 }

/-- An output after reset: off, its readback to go low within its deadline (R501, R502). -/
def Out.reset : Out := { phase := .offChk, n := 0, low := false, okLow := false, stuck := false, pulseDue := false }

/-- A zone after reset: UNKNOWN, no runs (R513). -/
def Zone.reset : Zone := { hitRun := 0, clearRun := 0, unkRun := 0, last := none, dataFault := false }

/-- The safety block before its ready bit. -/
def Saf.reset : Saf :=
  { active := [], shadow := [], keyBy := none, otpBy := none, burn := none, stos := [], pins := SafPins.reset, gateA := 0
    gateB := 0, pairs := [], outs := [], zones := [], lenSince := 0, lenAwait := true, lenHours := 0, srstHigh := 0
    srstArmed := false, srstHit := false, cmdReset := 0, repCount := 0, reps := [], shown := [], lastSeq := none
    sinceSum := 0, arrived := false, timeout := false, zoneRes := [], zoneWait := [], sweepSeq := 0, closing := []
    sumFifo := [], pathB := [], pathSkip := 0, frame := 0, chkFab := none, chkLast := none }

/-- The fault manager after a power-on (R570). -/
def Flt.reset : Flt :=
  { log := [], logIntact := true, detq := [], strikes := [], probation := [], changes := [] }

/-- One-time-programmable memory that nobody has burned. -/
def Otp.blank : Otp :=
  { eye := none, saf := none }

/-- The state right after the first release of RESET_N that follows a power-on. -/
def State.reset : State :=
  { regs := [], bank := [], hostMem := [], clk := Clk.reset, tap := Tap.reset, crates := [], chans := [], slices := []
    shot := Shot.reset, emits := [], classes := [], chgs := [], mons := [], eye := EyeLock.reset, motor := Motor.reset
    host := HostIf.reset, reqs := [], rings := [], hk := Hk.reset, saf := Saf.reset, flt := Flt.reset, otp := Otp.blank
    free := 0, pending := [] }

end Sys2Proof.Machine
end

