-- ==== Sys2Proof/Machine/Ops.lean ====
section
/-! DEFINITION. The named operations over State: fields of registers, elements of the internal tables, bytes and words of
host memory and of the Churn banks, saturating counts, free values, requesters and functions. -/

namespace Sys2Proof.Machine

/-- An effect that happens only where its condition holds; elsewhere nothing changes. -/
def doIf (c : Bool) (f : State → State) (s : State) : State := if c then f s else s

/-- Apply f for every i of a list, in order. -/
def forAll {α : Type} (l : List α) (f : State → α → State) (s : State) : State := l.foldl f s

/-! ## Fields of registers -/

/-- The mask of a field at bit 0. -/
def FRef.mask (f : FRef) : Word := BitVec.ofNat 32 (2 ^ f.width - 1)

/-- The value of a field within its register's word (R9). -/
def FRef.get (f : FRef) (w : Word) : Nat := ((w >>> f.lsb) &&& f.mask).toNat

/-- The register's word with one field replaced. -/
def FRef.set (f : FRef) (v : Nat) (w : Word) : Word :=
  (w &&& ~~~ (f.mask <<< f.lsb)) ||| ((BitVec.ofNat 32 v &&& f.mask) <<< f.lsb)

/-- The word that the register at address a holds. -/
def State.reg (s : State) (a : Nat) : Word := sparseGet resetWord s.regs a

/-- The state with the word of one register replaced. -/
def State.setReg (s : State) (a : Nat) (w : Word) : State := { s with regs := sparseSet resetWord s.regs a w }

/-- The value of a register field. -/
def State.rd (s : State) (f : FRef) : Nat := f.get (s.reg f.addr)

/-- A field read as a condition: not 0. -/
def State.flag (s : State) (f : FRef) : Bool := s.rd f != 0

/-- A field read as two's complement. -/
def State.rdInt (s : State) (f : FRef) : Int :=
  if s.rd f < 2 ^ (f.width - 1) then (s.rd f : Int) else (s.rd f : Int) - 2 ^ f.width

/-- Replace a field. -/
def State.put (s : State) (f : FRef) (v : Nat) : State := s.setReg f.addr (f.set v (s.reg f.addr))

/-- Replace a one-bit field. -/
def State.putB (s : State) (f : FRef) (b : Bool) : State := s.put f b.toNat

/-- Replace a two's complement field. -/
def State.putInt (s : State) (f : FRef) (i : Int) : State := s.put f (i % 2 ^ f.width).toNat

/-- Add n to a counter that holds its largest value (R607, "saturating"). -/
def State.bump (s : State) (f : FRef) (n : Nat) : State := s.put f (min (s.rd f + n) (2 ^ f.width - 1))

/-- Add 1 to a counter that continues from 0 (R607, "wrapping"). -/
def State.wrapInc (s : State) (f : FRef) : State := s.put f ((s.rd f + 1) % 2 ^ f.width)

/-- Raise a field to a value if it is below. -/
def State.raise (s : State) (f : FRef) (v : Nat) : State := s.put f (max (s.rd f) v)

/-! ## Requesters, functions, rings -/

/-- The index of a function (R404). -/
def fnIdx : Func → Nat
  | .pf0 => 0
  | .pf1 => 1

/-- The index of a requester: PF0, PF1, SPI (R446). -/
def srcIdx : Src → Nat
  | .pf0 => 0
  | .pf1 => 1
  | .spi => 2

/-- The function that owns a ring (R357). -/
def ringOwner (r : RingId) : Func := if r.toNat < 0xF000 then .pf0 else .pf1

/-- Configuration space of a function. -/
def State.fn (s : State) (f : Func) : Fn :=
  match f with
  | .pf0 => s.host.pf0
  | .pf1 => s.host.pf1

/-- Replace configuration space of a function. -/
def State.setFn (s : State) (f : Func) (v : Fn) : State :=
  match f with
  | .pf0 => { s with host := { s.host with pf0 := v } }
  | .pf1 => { s with host := { s.host with pf1 := v } }

/-! ## Elements of the internal tables -/

/-- Crate c. -/
def State.crate (s : State) (c : Nat) : Crate := sparseGet (fun _ => Crate.reset) s.crates c
/-- Replace crate c. -/
def State.setCrate (s : State) (c : Nat) (v : Crate) : State :=
  { s with crates := sparseSet (fun _ => Crate.reset) s.crates c v }
/-- Change crate c. -/
def State.modCrate (s : State) (c : Nat) (f : Crate → Crate) : State := s.setCrate c (f (s.crate c))

/-- Channel k of crate c (R4). -/
def State.chan (s : State) (c k : Nat) : Chan := sparseGet (fun _ => Chan.reset) s.chans (16 * c + k)
/-- Replace channel k of crate c. -/
def State.setChan (s : State) (c k : Nat) (v : Chan) : State :=
  { s with chans := sparseSet (fun _ => Chan.reset) s.chans (16 * c + k) v }
/-- Change channel k of crate c. -/
def State.modChan (s : State) (c k : Nat) (f : Chan → Chan) : State := s.setChan c k (f (s.chan c k))

/-- Slice i of crate c (R6). -/
def State.slice (s : State) (c i : Nat) : Slice := sparseGet (fun _ => Slice.reset) s.slices (17 * c + i)
/-- Replace slice i of crate c. -/
def State.setSlice (s : State) (c i : Nat) (v : Slice) : State :=
  { s with slices := sparseSet (fun _ => Slice.reset) s.slices (17 * c + i) v }
/-- Change slice i of crate c. -/
def State.modSlice (s : State) (c i : Nat) (f : Slice → Slice) : State := s.setSlice c i (f (s.slice c i))

/-- Emitter e. -/
def State.emit (s : State) (e : Nat) : Emit := sparseGet (fun _ => Emit.reset) s.emits e
/-- Change emitter e. -/
def State.modEmit (s : State) (e : Nat) (f : Emit → Emit) : State :=
  { s with emits := sparseSet (fun _ => Emit.reset) s.emits e (f (s.emit e)) }

/-- Charge controller e. -/
def State.chg (s : State) (e : Nat) : Chg := sparseGet (fun _ => Chg.reset) s.chgs e
/-- Change charge controller e. -/
def State.modChg (s : State) (e : Nat) (f : Chg → Chg) : State :=
  { s with chgs := sparseSet (fun _ => Chg.reset) s.chgs e (f (s.chg e)) }

/-- Window monitor m. -/
def State.mon (s : State) (m : Nat) : Mon := sparseGet (fun _ => Mon.reset) s.mons m
/-- Change window monitor m. -/
def State.modMon (s : State) (m : Nat) (f : Mon → Mon) : State :=
  { s with mons := sparseSet (fun _ => Mon.reset) s.mons m (f (s.mon m)) }

/-- Ring r. -/
def State.ring (s : State) (r : RingId) : Ring := sparseGet (fun _ => Ring.reset) s.rings r.toNat
/-- Replace ring r. -/
def State.setRing (s : State) (r : RingId) (v : Ring) : State :=
  { s with rings := sparseSet (fun _ => Ring.reset) s.rings r.toNat v }
/-- Change ring r. -/
def State.modRing (s : State) (r : RingId) (f : Ring → Ring) : State := s.setRing r (f (s.ring r))

/-- A requester's holding registers. -/
def State.req (s : State) (q : Src) : Req := sparseGet (fun _ => Req.reset) s.reqs (srcIdx q)
/-- Change a requester's holding registers. -/
def State.modReq (s : State) (q : Src) (f : Req → Req) : State :=
  { s with reqs := sparseSet (fun _ => Req.reset) s.reqs (srcIdx q) (f (s.req q)) }

/-- The requester's last read has answered with a word. -/
def Req.got (r : Req) (w : Word) : Req := { r with rdata := w, ur := false }

/-- Safety pair i. -/
def State.pair (s : State) (i : Nat) : Pair := sparseGet (fun _ => Pair.reset) s.saf.pairs i
/-- Change safety pair i. -/
def State.modPair (s : State) (i : Nat) (f : Pair → Pair) : State :=
  { s with saf := { s.saf with pairs := sparseSet (fun _ => Pair.reset) s.saf.pairs i (f (s.pair i)) } }

/-- Safety output o. -/
def State.out (s : State) (o : Nat) : Out := sparseGet (fun _ => Out.reset) s.saf.outs o
/-- Change safety output o. -/
def State.modOut (s : State) (o : Nat) (f : Out → Out) : State :=
  { s with saf := { s.saf with outs := sparseSet (fun _ => Out.reset) s.saf.outs o (f (s.out o)) } }

/-- Test-pulse source n. -/
def State.sto (s : State) (n : Nat) : Sto := sparseGet (fun _ => Sto.reset) s.saf.stos n
/-- Change test-pulse source n. -/
def State.modSto (s : State) (n : Nat) (f : Sto → Sto) : State :=
  { s with saf := { s.saf with stos := sparseSet (fun _ => Sto.reset) s.saf.stos n (f (s.sto n)) } }

/-- Safety zone z. -/
def State.zone (s : State) (z : Nat) : Zone := sparseGet (fun _ => Zone.reset) s.saf.zones z
/-- Change safety zone z. -/
def State.modZone (s : State) (z : Nat) (f : Zone → Zone) : State :=
  { s with saf := { s.saf with zones := sparseSet (fun _ => Zone.reset) s.saf.zones z (f (s.zone z)) } }

/-- Change the clocks. -/
def State.modClk (s : State) (f : Clk → Clk) : State := { s with clk := f s.clk }
/-- Change the shot engine. -/
def State.modShot (s : State) (f : Shot → Shot) : State := { s with shot := f s.shot }
/-- Change the motor interface. -/
def State.modMotor (s : State) (f : Motor → Motor) : State := { s with motor := f s.motor }
/-- Change the host interface. -/
def State.modHost (s : State) (f : HostIf → HostIf) : State := { s with host := f s.host }
/-- Change the housekeeping bank. -/
def State.modHk (s : State) (f : Hk → Hk) : State := { s with hk := f s.hk }
/-- Change the safety block. -/
def State.modSaf (s : State) (f : Saf → Saf) : State := { s with saf := f s.saf }
/-- Change the fault manager. -/
def State.modFlt (s : State) (f : Flt → Flt) : State := { s with flt := f s.flt }
/-- Change the key and accountant record of the eye-safety lock. -/
def State.modEye (s : State) (f : EyeLock → EyeLock) : State := { s with eye := f s.eye }
/-- Change the one-time-programmable cells. -/
def State.modOtp (s : State) (f : Otp → Otp) : State := { s with otp := f s.otp }
/-- Change the test access port. -/
def State.modTap (s : State) (f : Tap → Tap) : State := { s with tap := f s.tap }
/-- Put the listed registers back to their reset values. -/
def State.dropRegs (s : State) (p : Nat → Bool) : State := { s with regs := s.regs.filter (fun q => !p q.1) }
/-- Clear every Churn bank. -/
def State.clearBanks (s : State) : State := { s with bank := [] }
/-- Write the bins of one pulse class of the accountant. -/
def State.setClass (s : State) (q : Nat) (bins : List Nat) : State :=
  { s with classes := sparseSet (fun _ => List.replicate 17 0) s.classes q bins }

/-- The crates, channels of a crate, emitters, and so on, as lists of numbers (R3). -/
def crateNos : List Nat := List.range 32
/-- Channels of a crate. -/
def chanNos : List Nat := List.range 16
/-- Slices of a crate. -/
def sliceNos : List Nat := List.range 17
/-- Emitters. -/
def emitterNos : List Nat := List.range 32

/-! ## Bytes and words -/

/-- The bits of a number, lowest first: bit i is set. -/
def bitOf (n i : Nat) : Bool := n.testBit i

/-- Bits [lo + w − 1 : lo] of a word. -/
def bitsOf (w : Word) (lo width : Nat) : Nat := w.toNat / 2 ^ lo % 2 ^ width

/-- A word as its four bytes, lowest first (R10). -/
def wordBytes (w : Word) : List Byte :=
  [w.extractLsb' 0 8, w.extractLsb' 8 8, w.extractLsb' 16 8, w.extractLsb' 24 8]

/-- The bytes of several words in order, each little-endian (R10). -/
def wordsBytes (ws : List Word) : List Byte := ws.flatMap wordBytes

/-- The low and the high word of a double word. -/
def loWord (d : DWord) : Word := d.extractLsb' 0 32
/-- See `loWord`. -/
def hiWord (d : DWord) : Word := d.extractLsb' 32 32

/-- A double word from its low and high words. -/
def joinWords (lo hi : Word) : DWord := hi ++ lo

/-- The i-th word of a list, 0 beyond its end. -/
def wordAt (ws : List Word) (i : Nat) : Word := ws.getD i 0

/-- A list of words cut or padded with 0 to n words. -/
def padWords (n : Nat) (ws : List Word) : List Word := (ws ++ List.replicate (n - ws.length) 0).take n

/-- The byte of host memory at an address, as the device last wrote it. -/
def State.hostByte (s : State) (a : Nat) : Byte := sparseGet (fun _ => 0) s.hostMem a

/-- Write bytes into host memory from an address up; addresses wrap at 2⁶⁴. -/
def State.writeHost (s : State) (a : Nat) (bs : List Byte) : State :=
  { s with hostMem := (bs.zipIdx.foldl (fun m p => sparseSet (fun _ => 0) m ((a + p.2) % 2 ^ 64) p.1) s.hostMem) }

/-- The byte of a Churn bank: crate c, byte b of its 64 KiB (R252). -/
def State.bankByte (s : State) (c b : Nat) : Byte := sparseGet (fun _ => 0) s.bank (65536 * c + b % 65536)

/-- Write one byte of a Churn bank. -/
def State.setBankByte (s : State) (c b : Nat) (v : Byte) : State :=
  { s with bank := sparseSet (fun _ => 0) s.bank (65536 * c + b % 65536) v }

/-- The 16-bit value at byte b of a bank, little-endian. -/
def State.bankHalf (s : State) (c b : Nat) : Nat := (s.bankByte c b).toNat + 256 * (s.bankByte c (b + 1)).toNat

/-- Write a 16-bit value at byte b of a bank. -/
def State.setBankHalf (s : State) (c b v : Nat) : State :=
  (s.setBankByte c b (BitVec.ofNat 8 v)).setBankByte c (b + 1) (BitVec.ofNat 8 (v / 256))

/-- The 32-bit value at byte b of a bank. -/
def State.bankWord (s : State) (c b : Nat) : Word := BitVec.ofNat 32 (s.bankHalf c b + 65536 * s.bankHalf c (b + 2))

/-- Write a 32-bit value at byte b of a bank. -/
def State.setBankWord (s : State) (c b : Nat) (w : Word) : State :=
  (s.setBankHalf c b w.toNat).setBankHalf c (b + 2) (w.toNat / 65536)

/-- Write 0 to n bytes of a bank from byte b up. -/
def State.clearBank (s : State) (c b n : Nat) : State :=
  { s with bank := s.bank.filter (fun p => !(decide (65536 * c + b ≤ p.1) && decide (p.1 < 65536 * c + b + n))) }

/-- The canonical form of a memory that reads 0 where nothing is listed. -/
abbrev memoryWf (m : Sparse Byte) : Bool := sparseWf (fun _ => 0) m

/-! ## Free values -/

/-- Take the next free bit (see Config.freeBit). -/
def State.takeFree (s : State) : Bool × State := (Config.freeBit s.free, { s with free := s.free + 1 })

/-- Take the next free word. -/
def State.takeFreeWord (s : State) : Word × State := (Config.freeWord s.free, { s with free := s.free + 1 })
/-- Pass over free values already read through Config.freeBit or Config.freeWord at the counter. -/
def State.skipFree (s : State) (n : Nat) : State := { s with free := s.free + n }

/-! ## Which parts run -/

/-- The device is powered and out of reset (R596). -/
def State.running (s : State) : Bool := decide (s.clk.phase = .running)

/-- The fabric domain runs: its PLL has locked and XTAL has not been lost (R586, R588). -/
def State.fabricLive (s : State) : Bool := s.running && s.flag CLK_STAT_fpll && !s.clk.xtalLost

/-- The register fabric serves accesses (R551). -/
def State.fabricReady (s : State) : Bool := s.fabricLive && s.flag GLB_READY_fabric

/-- The register fabric serves accesses of a requester: a function needs its link and Memory Space Enable (R355, R356). -/
def State.serves (s : State) (q : Src) : Bool :=
  match q with
  | .pf0 => s.fabricReady && s.flag HIF_LINK_up && s.host.pf0.mse
  | .pf1 => s.fabricReady && s.flag HIF_LINK_up && s.host.pf1.mse
  | .spi => s.fabricReady

/-- The timing domain has its clock (R79, R551). -/
def State.timingLive (s : State) : Bool := s.running && s.flag GLB_READY_tpll

/-- The epoch in force (R438). -/
def State.epoch (s : State) : Word := s.reg GLB_EPOCH

/-- The state of crate c in R603: 0 OFF, 1 STARTING, 2 ON, 3 STOPPING (R625). -/
def cratePwrField (c : Nat) : FRef :=
  if c < 16 then ⟨CLK_CRT_PWR_LO, 2 * c, 2⟩ else ⟨CLK_CRT_PWR_HI, 2 * (c - 16), 2⟩

/-- Bit c of CLK_CRT_PWR (R602). -/
def crateReqField (c : Nat) : FRef := ⟨CLK_CRT_PWR, c, 1⟩

/-- Bit c of GLB_READY_CRT (R615). -/
def crateReadyField (c : Nat) : FRef := ⟨GLB_READY_CRT, c, 1⟩

/-- Bit k of CRT_SVC.removed (R583). -/
def removedField (c k : Nat) : FRef := ⟨CRT_SVC c, 16 + k, 1⟩

/-- Crate c is ready (R551). -/
def State.crateReady (s : State) (c : Nat) : Bool := s.flag (crateReadyField c)

/-- Channel k of crate c takes part in no dwell because it is removed from service (R562). -/
def State.removed (s : State) (c k : Nat) : Bool := s.flag (removedField c k)

end Sys2Proof.Machine
end

