-- ==== Sys2Proof/Machine/Flags.lean ====
section
/-! DEFINITION. What every block reports through: records on their way to rings, events and the event queue (R402, R427,
R428), ready bits (R551 to R553), the fault log (R570 to R572), detections (R555), completions (R388 to R391). -/

namespace Sys2Proof.Machine

/-! ## Records and events -/

/-- Records that the record FIFO holds (R590). -/
def recFifoSize : Nat := 1024

/-- The records that are on their way: those in the record FIFO and those that their sources hold (R590). -/
def HostIf.allRecs (h : HostIf) : List Rec := h.recs ++ h.recWait

/-- Records on their way, in order: the first of them in the FIFO. -/
def HostIf.setRecs (h : HostIf) (l : List Rec) : HostIf := { h with recs := l.take recFifoSize, recWait := l.drop recFifoSize }

/-- Put a record into the record FIFO (R373, R590). DESIGN CHOICE (log 111): while the FIFO is full the record's source holds it,
behind those that wait already; only the peak extractors stall (R275). -/
def State.pushRec (s : State) (r : Rec) : State :=
  s.modHost (fun h => if h.recs.length < recFifoSize then { h with recs := h.recs ++ [r] }
    else { h with recWait := h.recWait ++ [r] })

/-- HIF_IRQ_STAT.evq and HIF_EVQ_STAT.fill show the event queue (R413, R414). -/
def State.showEvq (s : State) : State :=
  (s.put HIF_EVQ_STAT_fill s.host.evq.length).putB HIF_IRQ_STAT_evq (!s.host.evq.isEmpty)

/-- Place an event in the SPI event queue (R402). -/
def State.queueEvent (s : State) (ws : List Word) : State :=
  if s.flag HIF_SPI_CFG_evq_en then
    if s.host.evq.length < 32 then (s.modHost (fun h => { h with evq := h.evq ++ [ws] })).showEvq
    else s.bump HIF_EVQ_STAT_lost 1
  else s

/-- The event ring of a function (R404). -/
def State.evtRing (s : State) (f : Func) : RingId := BitVec.ofNat 16 (s.rd (HIF_FN_CFG_evt_ring (fnIdx f)))

/-- Send an event to the event ring of one function; while that ring is not ENABLED the event counts in evt_drop
(R404, R428). -/
def State.eventTo (s : State) (f : Func) (ws : List Word) : State :=
  if (s.ring (s.evtRing f)).st = .enabled then s.pushRec ⟨f, s.evtRing f, 3, ws, none, 0, false⟩
  else s.bump (HIF_FN_ERR_evt_drop (fnIdx f)) 1

/-- The eight words of an event record (R427). -/
def State.eventWords (s : State) (typ kind index : Nat) (data : List Word) : List Word :=
  padWords 8 ([BitVec.ofNat 32 (typ + 65536 * (4096 * kind + index)), loWord s.clk.devCopy, hiWord s.clk.devCopy, s.epoch]
    ++ data)

/-- An event goes to the event ring of every function, and to the event queue (R402, R428). -/
def State.postWords (s : State) (ws : List Word) : State := ((s.eventTo .pf0 ws).eventTo .pf1 ws).queueEvent ws

/-- Post an event. After an XTAL loss nothing is posted (R402, R428, R588). -/
def State.post (s : State) (typ kind index : Nat) (data : List Word) : State :=
  if s.fabricLive then s.postWords (s.eventWords typ kind index data) else s

/-- Post an event of a ring: only to the function that owns the ring (R428). -/
def State.postRing (s : State) (typ : Nat) (r : RingId) (data : List Word) : State :=
  if s.fabricLive then
    (s.eventTo (ringOwner r) (s.eventWords typ 6 (fnIdx (ringOwner r)) (BitVec.ofNat 32 r.toNat :: data))).queueEvent
      (s.eventWords typ 6 (fnIdx (ringOwner r)) (BitVec.ofNat 32 r.toNat :: data))
  else s

/-- A Nat as a word. -/
abbrev w32 (n : Nat) : Word := BitVec.ofNat 32 n

/-! ## Ready bits -/

/-- GLB_READY.crate_any and crate_all follow the crates' ready bits and the power requests (R614). -/
def State.showCrateReady (s : State) : State :=
  (s.putB GLB_READY_crate_any (s.reg GLB_READY_CRT != 0)).putB GLB_READY_crate_all
    (s.reg CLK_CRT_PWR != 0 && (s.reg CLK_CRT_PWR &&& ~~~ s.reg GLB_READY_CRT) == 0)

/-- How many of the 32 bits of two words differ. -/
def bitsDiffer (v w : Word) : Nat := (List.range 32).countP (fun i => v.getLsbD i != w.getLsbD i)

/-- The ready bits that differ between two states (R551, R615). -/
def readyDiffers (s t : State) : Nat :=
  bitsDiffer (s.reg GLB_READY) (t.reg GLB_READY) + bitsDiffer (s.reg GLB_READY_CRT) (t.reg GLB_READY_CRT)

/-- READY is posted once for each bit that changed, with the register as it is now, and HIF_IRQ_STAT.ready is set
(R553, R615). -/
def State.postReady (s : State) (n : Nat) : State :=
  forAll (List.range n) (fun t _ => t.post 0x15 0 0 [t.reg GLB_READY]) (s.putB HIF_IRQ_STAT_ready true)

/-- Change ready bits; each bit that differs afterwards posts READY (R553, R615). -/
def State.changeReady (s : State) (f : State → State) : State :=
  if readyDiffers s (f s).showCrateReady = 0 then (f s).showCrateReady
  else doIf (f s).showCrateReady.fabricLive (fun t => t.postReady (readyDiffers s t)) (f s).showCrateReady

/-- Set or clear one bit of GLB_READY. -/
def State.setReady (s : State) (f : FRef) (v : Bool) : State := s.changeReady (fun t => t.putB f v)

/-- Set or clear the ready bits of several crates at once. -/
def State.setCratesReady (s : State) (cs : List Nat) (v : Bool) : State :=
  s.changeReady (forAll cs (fun t c => t.putB (crateReadyField c) v))

/-! ## Fault log -/

/-- The words of a log entry (R571). -/
def State.logWords (s : State) (code cls kind index sub strikes value : Nat) : LogEntry :=
  { w0 := w32 (code + 2 ^ 8 * cls + 2 ^ 12 * kind + 2 ^ 16 * (index % 4096) + 2 ^ 28 * (s.rd FLT_LOG_STAT_boot % 16))
    w1 := s.clk.devCopy.extractLsb' 16 32
    w2 := w32 (strikes % 16 + 2 ^ 4 * (sub % 32) + 2 ^ 9 * (value % 2 ^ 23))
    w3 := s.epoch }

/-- The class of a log entry (R571). -/
def LogEntry.cls (e : LogEntry) : Nat := bitsOf e.w0 8 3

/-- Remove the first element that satisfies p. -/
def eraseFirst {α : Type} (p : α → Bool) : List α → List α
  | [] => []
  | x :: t => if p x then t else x :: eraseFirst p t

/-- Make room in a full log: the oldest entry of class 0, 3 or 4 goes, else the oldest entry (R572). -/
def logRoom (l : List LogEntry) : List LogEntry :=
  if l.length < 256 then l
  else if l.any (fun e => e.cls == 0 || e.cls == 3 || e.cls == 4) then
    eraseFirst (fun e => e.cls == 0 || e.cls == 3 || e.cls == 4) l
  else l.tail

/-- Write an entry into the fault log, post FAULT and set HIF_IRQ_STAT.fault (R572). -/
def State.putLog (s : State) (e : LogEntry) : State :=
  let s1 := s.modFlt (fun f => { f with log := logRoom f.log ++ [e] })
  ((((s1.put FLT_LOG_STAT_count s1.flt.log.length).wrapInc FLT_LOG_TOTAL_total).putB HIF_IRQ_STAT_fault true).post
    0x60 8 0 [e.w0, e.w1, e.w2, e.w3])

/-- Write a fault-log entry; after an XTAL loss none is written (R571, R572, R588). -/
def State.log (s : State) (code cls kind index sub strikes value : Nat) : State :=
  if s.fabricLive then s.putLog (s.logWords code cls kind index sub strikes value) else s

/-- The elements that detections count against, numbered in the order of R557 (R555). Slice i of crate c. -/
def elemSlice (c i : Nat) : Nat := 0x10000 + 17 * c + i
/-- Slice j of crate c and its spare, as a pair (R555). -/
def elemPair (c j : Nat) : Nat := 0x20000 + 16 * c + j
/-- An emitter group (R555). -/
def elemGroup (g : Nat) : Nat := 0x30000 + g
/-- A charge controller (R555). -/
def elemChg (e : Nat) : Nat := 0x40000 + e
/-- A window monitor (R555). -/
def elemMon (m : Nat) : Nat := 0x50000 + m
/-- The housekeeping check path (R555). -/
def elemCheck : Nat := 0x60000
/-- The zone filter (R555). -/
def elemZones : Nat := 0x70000
/-- The bank area of channel g (R555). -/
def elemArea (g : Nat) : Nat := 0x80000 + g
/-- The ambient converter of channel g (R555). -/
def elemAmbient (g : Nat) : Nat := 0x90000 + g
/-- A host function (R555). -/
def elemFn (f : Nat) : Nat := 0xA0000 + f

/-- A detection goes to the fault manager (R555, R590). -/
def State.detect (s : State) (code kind index sub value elem : Nat) : State :=
  s.modFlt (fun f => { f with detq := f.detq ++ [⟨code, kind, index, sub, value, elem⟩] })

/-- The read found an uncorrectable error. -/
def eccBad (e : Ecc) : Bool :=
  match e with
  | .clean => false
  | .corrected => false
  | .uncorrectable _ => true

/-! ## Refused writes -/

/-- A direct write is refused: it changes nothing, GLB_WR_REFUSE records it, SPI counts it, the fault log holds its
address (R357, R358, R399, R440, R446, code 0x30). -/
def State.refuseWrite (s : State) (q : Src) (a : Nat) : State :=
  (doIf (q = .spi) (fun t => t.bump HIF_SPI_STAT_refused 1)
    (((s.put GLB_WR_REFUSE_src (srcIdx q)).bump GLB_WR_REFUSE_ct 1).put GLB_WR_REFUSE_addr (a / 4))).log 0x30 3 6 (srcIdx q)
      0 0 (a / 4)

/-! ## Completions -/

/-- The status codes of R391. -/
def stOK : Nat := 0x00
/-- R391. -/
def stBUSY : Nat := 0x01
/-- R391. -/
def stNOT_READY : Nat := 0x02
/-- R391. -/
def stNO_TABLE : Nat := 0x03
/-- R391. -/
def stNO_PERMIT : Nat := 0x04
/-- R391. -/
def stREFCLK_LOST : Nat := 0x05
/-- R391. -/
def stSTOPPED : Nat := 0x06
/-- R391. -/
def stCRATE_OFF : Nat := 0x07
/-- R391. -/
def stBAD_ENTRY : Nat := 0x08
/-- R391. -/
def stMAP_CONFLICT : Nat := 0x09
/-- R391. -/
def stSWAP_PENDING : Nat := 0x0A
/-- R391. -/
def stBAD_VALUE : Nat := 0x0B
/-- R391. -/
def stACCESS_DENIED : Nat := 0x0C
/-- R391. -/
def stPIN_CONFLICT : Nat := 0x0D
/-- R391. -/
def stSPACING_CONFLICT : Nat := 0x0E
/-- R391. -/
def stCRATE_BUSY : Nat := 0x0F
/-- R391. -/
def stBAD_OPCODE : Nat := 0x10
/-- R391. -/
def stBAD_RING : Nat := 0x11
/-- R391. -/
def stDMA_ERROR : Nat := 0x12
/-- R391. -/
def stABORTED : Nat := 0x13
/-- R391. -/
def stBAD_ADDRESS : Nat := 0x14

/-- last_seq where no record was produced (R390). -/
def noSeq : Word := 0xFFFFFFFF

/-- No record has been written for a command. -/
def SeqTrack.none : SeqTrack := ⟨noSeq, 0, noSeq, 0⟩

/-- A record of an entry has been written under a sequence number (R390). -/
def SeqTrack.note (t : SeqTrack) (entry : Nat) (seq : Word) : SeqTrack :=
  if entry = t.entry then { t with seq := seq }
  else if t.entry < entry then ⟨seq, entry, t.seq, t.entry⟩
  else if t.beforeEntry ≤ entry then { t with before := seq, beforeEntry := entry }
  else t

/-- The last sequence number of the entry numbered n (R390). -/
def SeqTrack.ofEntry (t : SeqTrack) (n : Word) : Word :=
  if w32 t.entry = n then t.seq else if w32 t.beforeEntry = n then t.before else noSeq

/-- The accepted command that a reference names. -/
def State.cmd? (s : State) (ref : CmdRef) : Option Cmd := s.host.cmds.find? (fun c => decide (c.ref = ref))

/-- The opcode of a descriptor (R380). -/
def opcodeOf (ws : List Word) : Nat := bitsOf (wordAt ws 0) 0 8

/-- A FENCE that waits for the commands before it is read, and not yet accepted (R385). -/
def Cmd.accepted (c : Cmd) : Bool := !(opcodeOf c.words == 0x09 && decide (c.stage = .readyList))

/-- The completion ring that a CMD ring's context names (R361). -/
def Ring.cplRing (r : Ring) : RingId := (wordAt r.ctx 1).extractLsb' 0 16

/-- Complete a command: it leaves the accepted commands, and its completion waits to be written (R388, R390, R426). -/
def State.complete (s : State) (ref : CmdRef) (status : Nat) (shots : DWord) (dwells : Word) : State :=
  match s.cmd? ref with
  | none => s
  | some c => s.modHost (fun h => { h with
      cmds := h.cmds.filter (fun d => decide (d.ref ≠ ref))
      cpls := h.cpls ++ [⟨c.cplRing, status, c.words, ref, shots, dwells, c.seqs, s.epoch⟩] })

/-- Complete a command that made no progress (R384): a CFG_TXN still gives the epoch (R390). -/
def State.fail (s : State) (ref : CmdRef) (status : Nat) : State :=
  s.complete ref status 0 (if (s.cmd? ref).any (fun c => opcodeOf c.words == 0x04) then s.epoch else 0)

/-- Complete a command, unless a function-level reset has abandoned it (R394). -/
def State.completeOpt (s : State) (ref : Option CmdRef) (status : Nat) (shots : DWord) (dwells : Word) : State :=
  match ref with
  | none => s
  | some r => s.complete r status shots dwells

/-- An accepted command with the given opcode that its block has not taken yet (R383). -/
def State.waits (s : State) (ref : CmdRef) (opcode : Nat) : Option Cmd :=
  (s.cmd? ref).filter (fun c => decide (c.stage = .readyList) && opcodeOf c.words == opcode)

/-- Its block takes a command: it stays open until its completion. -/
def State.openCmd (s : State) (ref : CmdRef) : State :=
  s.modHost (fun h => { h with cmds := h.cmds.map (fun c => if c.ref = ref then { c with stage := .open } else c) })

/-! ## The epoch (R435, R438) -/

/-- The epoch increments and EPOCH is posted: cause, tag, CMD ring, writes applied (R428, R435). -/
def State.bumpEpoch (s : State) (cause tag ring writes : Nat) : State :=
  (s.wrapInc GLB_EPOCH_epoch).post 0x10 0 0
    [w32 (s.rd MOT_ROUND_round + 65536 * cause), w32 (tag + 65536 * ring), w32 writes]

end Sys2Proof.Machine
end

