-- ==== Sys2Proof/Machine/Operands.lean ====
section
/-! DEFINITION. The forms in which the manual gives numbers: rounding, integer roots, instants on clock edges, the fields of
shot-table entries (R128) and of descriptors (R380), bins of a histogram bank (R257), check codes. -/

namespace Sys2Proof.Machine

/-! ## Rounding -/

/-- Round n/d to the nearest integer, halves up. -/
def roundDiv (n : Int) (d : Nat) : Int := (2 * n + d) / (2 * d)

/-- The quotient rounded up. -/
def ceilDiv (n d : Nat) : Nat := (n + d - 1) / d

/-- Clamp to a range. -/
def clampInt (lo hi i : Int) : Int := max lo (min hi i)

/-- The integer square root, rounded down, of a number below 2⁸⁰ (R308). -/
def isqrt (n : Nat) : Nat :=
  (List.range 40).foldr (fun i r => if (r + 2 ^ i) * (r + 2 ^ i) ≤ n then r + 2 ^ i else r) 0

/-- v moved towards target by at most up or down. -/
def stepTowards (v target up down : Nat) : Nat :=
  if v ≤ target then v + min up (target - v) else v - min down (v - target)

/-! ## Instants: LSB of 15.625 ps (R11); one coarse period is 80 LSB, one 100 MHz tick 640 LSB -/

/-- LSB in one coarse period (R11). -/
def lsbCoarse : Nat := 80
/-- LSB in one tick of 100 MHz (R79). -/
def lsbTick : Nat := 640
/-- LSB in the 64 ns of the pre-window (R136). -/
def lsbPre : Nat := 4096

/-- The first coarse-clock edge at or after an instant. -/
def coarseEdge (t : Nat) : Nat := ceilDiv t lsbCoarse * lsbCoarse

/-- The last tick of 100 MHz at or before an instant. -/
def tickAtOrBefore (t : Nat) : Nat := t / lsbTick

/-- The present instant of the timing domain, in LSB. -/
def State.nowLsb (s : State) : Nat := s.clk.tick * lsbTick

/-! ## Shot-table entries (R128) -/

/-- Trigger kind: 0 ANGLE, 1 DELAY, 2 CHAIN. -/
def Entry.trig (e : Entry) : Nat := bitsOf e.w0 0 2
/-- Trigger value. -/
def Entry.trigVal (e : Entry) : Nat := bitsOf e.w0 8 24
/-- Repeats minus 1. -/
def Entry.reps (e : Entry) : Nat := bitsOf e.w1 16 12
/-- Window profile. -/
def Entry.profile (e : Entry) : Nat := bitsOf e.w1 28 4
/-- Spacing in coarse periods. -/
def Entry.spacing (e : Entry) : Nat := bitsOf e.w2 0 16
/-- Charge level index. -/
def Entry.level (e : Entry) : Nat := bitsOf e.w2 16 3
/-- Safety class. -/
def Entry.safety (e : Entry) : Bool := bitsOf e.w2 19 1 == 1
/-- Output ring. -/
def Entry.ring (e : Entry) : RingId := e.w3.extractLsb' 0 16
/-- Dwell tag. -/
def Entry.tag (e : Entry) : BitVec 16 := e.w3.extractLsb' 16 16
/-- The emitters that the entry names, in group order (R128). -/
def Entry.emitterList (e : Entry) : List Nat :=
  (List.range 4).filterMap (fun n =>
    if bitsOf e.w1 (4 * n + 3) 1 = 1 then some (8 * n + bitsOf e.w1 (4 * n) 3) else none)

/-- The crate that an emitter arms, or none (R148). -/
def State.crateOfEmitter (s : State) (e : Nat) : Option Nat :=
  if s.flag (EMT_CRATE_MAP_none e) then none else some (s.rd (EMT_CRATE_MAP_crate e))

/-- The active bank (R126). -/
def State.activeBank (s : State) : List Entry := if s.flag SHT_STATUS_act_bank then s.shot.bank1 else s.shot.bank0
/-- The staged bank (R126). -/
def State.stagedBank (s : State) : List Entry := if s.flag SHT_STATUS_act_bank then s.shot.bank0 else s.shot.bank1

/-! ## Registers as a dwell keeps them (R22) -/

/-- A field as it was when the dwell's repeat 0 was committed. -/
def Descr.rd (d : Descr) (f : FRef) : Nat := f.get (sparseGet resetWord d.cfg f.addr)

/-- See `Descr.rd`: the registers that the crate itself reads for its open dwell. -/
def Dwell.rd (d : Dwell) (f : FRef) : Nat := f.get (sparseGet resetWord d.cfg f.addr)

/-- The registers that Churn, Skimmer, Strainer and Separator read for a dwell of crate c: the rejection globals and the
crate's own area. -/
def State.dwellCfg (s : State) (c : Nat) : Sparse Word :=
  s.regs.filter (fun p => (decide (0x9000 ≤ p.1) && decide (p.1 < 0xA000))
    || (decide (0x10000 + 0x1000 * c ≤ p.1) && decide (p.1 < 0x11000 + 0x1000 * c)))

/-! ## Check codes -/

/-- One step of CRC-8, polynomial x⁸ + x² + x + 1 (R397). -/
def crc8Byte (crc b : Byte) : Byte :=
  (List.range 8).foldl (fun c _ => if c.msb then (c <<< 1) ^^^ 0x07 else c <<< 1) (crc ^^^ b)

/-- CRC-8 of a list of bytes, initial value 0 (R397). -/
def crc8 (bs : List Byte) : Byte := bs.foldl crc8Byte 0

/-- One step of the reflected CRC-32, polynomial 0x04C1_1DB7 (R521). -/
def crc32Byte (crc : Word) (b : Byte) : Word :=
  (List.range 8).foldl (fun c _ => if c.getLsbD 0 then (c >>> 1) ^^^ 0xEDB88320 else c >>> 1) (crc ^^^ b.setWidth 32)

/-- CRC-32: initial value 0xFFFF_FFFF, reflected, final XOR 0xFFFF_FFFF (R521). -/
def crc32 (bs : List Byte) : Word := bs.foldl crc32Byte 0xFFFFFFFF ^^^ 0xFFFFFFFF

/-- One step of CRC-16, polynomial 0x1021, most significant bit first (R646). -/
def crc16Byte (crc : BitVec 16) (b : Byte) : BitVec 16 :=
  (List.range 8).foldl (fun c _ => if c.msb then (c <<< 1) ^^^ 0x1021 else c <<< 1) (crc ^^^ (b.setWidth 16 <<< 8))

/-- CRC-16 with initial value 0xFFFF (R646). -/
def crc16 (bs : List Byte) : BitVec 16 := bs.foldl crc16Byte 0xFFFF

end Sys2Proof.Machine
end

