-- ==== Sys2Proof/Machine/FrontEnd.lean ====
section
/-! DEFINITION. Detector channels (spec/02_receiver_front_end.md): settings in force, arming states, front-end mode, charge
path, autoranging, ambient converters, test tone. -/

namespace Sys2Proof.Machine

/-! ## Quiescence and front-end mode (R31, R32, R39) -/

/-- Crate c is quiesced: arm_en is 0 and its last dwell has closed (R31, R620). -/
def State.quiesced (s : State) (c : Nat) : Bool :=
  !s.flag (CRT_CTRL_arm_en c) && (s.crate c).dwell.isNone

/-- The crate is powered: it is not OFF (R603). -/
def State.cratePowered (s : State) (c : Nat) : Bool := s.rd (cratePwrField c) != 0

/-- CRT_FE_STAT.quiet shows quiescence (R31); a crate that is OFF holds its status (R611), and a timing domain without its clock
what it shows (R437). -/
def State.showQuiet (s : State) (c : Nat) : State :=
  doIf (s.cratePowered c && s.timingLive) (fun t => t.putB (CRT_FE_STAT_quiet c) (s.quiesced c)) s

/-- Crate c is in autoranging mode (R30). -/
def State.autoranging (s : State) (c : Nat) : Bool := s.flag (CRT_FE_fe_mode c)

/-- Range 3, no quiet events, no previous main-window event (R39, R66). -/
def State.resetRange (s : State) (c k : Nat) : State :=
  ((s.put (CHN_FE_STAT_ar_range c k) 3).put (CHN_FE_STAT_ar_count c k) 0).modChan c k
    (fun h => { h with prevRange := none })

/-- A change of front-end mode reaches the timing domain: settling starts, every channel begins the new mode at range 3, which
charge-amplifier mode goes on showing, and the running ambient frame is not valid (R32, R39, R56, R77). DEDUCED (log 76): n is 0 in
charge-amplifier mode too. A crate that is OFF holds its status (R611); its channels begin anew with its power (R58, R603). -/
def State.modeChange (s : State) (c : Nat) : State :=
  doIf (s.cratePowered c)
    (fun t => forAll chanNos (fun u k => (u.resetRange c k).modChan c k (fun h => { h with ambInvalid := true }))
      (t.putB (CRT_FE_STAT_settling c) true))
    (s.modCrate c (fun g => { g with modeDue := false }))

/-- A direct write of a setup register crosses into the timing domain on its clock (R590): a change of front-end mode waits
while that clock is absent (R32). -/
def State.carryMode (s : State) (c : Nat) : State :=
  doIf ((s.crate c).modeDue && s.timingLive) (fun t => t.modeChange c) s

/-- FE_MODE_WRITE (R31, R32, R609): accepted while the crate is quiesced, else refused and logged. -/
def State.feModeWrite (s : State) (q : Src) (c : Nat) (value : Word) : State :=
  if s.quiesced c then
    (doIf ((CRT_FE_fe_mode c).get value != s.rd (CRT_FE_fe_mode c))
      (fun t => t.modCrate c (fun g => { g with modeDue := true }))
      (s.put (CRT_FE_fe_mode c) ((CRT_FE_fe_mode c).get value))).carryMode c
  else s.refuseWrite q (CRT_FE c)

/-- FE_MODE_WRITE (R31, R32). -/
def execFeModeWrite (q : Src) (c : CrateId) (value : Word) (s : State) : Host.Outcome State Fault Refusal :=
  .next (doIf (s.serves q) (fun t => t.feModeWrite q c value) s)

/-- CRATE_SETTLE_END (R32). -/
def execCrateSettleEnd (c : CrateId) (s : State) : Host.Outcome State Fault Refusal :=
  .next (doIf (s.timingLive && s.cratePowered c) (fun t => t.putB (CRT_FE_STAT_settling c) false) s)

/-! ## Threshold and bias in force (R42, R43, R51 to R53, R309 to R311) -/

/-- thr_eff = min(255, thr + skm_thr), 0 where thr is 0 (R42, R309). -/
def State.showThr (s : State) (c k : Nat) : State :=
  s.put (CHN_THR_thr_eff c k)
    (if s.rd (CHN_THR_thr c k) = 0 then 0 else min 255 (s.rd (CHN_THR_thr c k) + s.rd (SKM_CH_skm_thr c k)))

/-- The sum of R51 before its clamp. -/
def State.trimSum (s : State) (c k : Nat) : Int :=
  s.rd (CHN_BIAS_trim c k) + s.rdInt (CRT_FE_STAT_trk_offset c) + s.rd (SKM_CH_skm_ofs c k)

/-- trim_eff, and CHN_BIAS.clamped; a change of more than 8 steps marks the channel's first window with settle and the
running ambient frame as not valid (R51, R53, R56), whatever the channel's state is (log 100). -/
def State.showBias (s : State) (c k : Nat) : State :=
  let new := (clampInt 0 255 (s.trimSum c k)).toNat
  let old := s.rd (CHN_BIAS_trim_eff c k)
  doIf (decide (8 < new - old) || decide (8 < old - new))
    (fun t => t.modChan c k (fun h => { h with
      markSettle := true, ambInvalid := true }))
    ((s.put (CHN_BIAS_trim_eff c k) new).putB (CHN_BIAS_clamped c k) (decide (s.trimSum c k ≠ (new : Int))))

/-- The channel's threshold offset moves towards its published target within its rates (R309). -/
def State.stepThr (s : State) (c k : Nat) : State :=
  s.put (SKM_CH_skm_thr c k) (stepTowards (s.rd (SKM_CH_skm_thr c k)) (s.chan c k).pubThr (s.rd SKM_RATE_thr_up)
    (s.rd SKM_RATE_thr_dn))

/-- The channel's bias offset: the sun step in one move, else one step towards its published target (R310, R311). -/
def State.stepBias (s : State) (c k : Nat) : State :=
  if (s.chan c k).pubSun then
    (s.put (SKM_CH_skm_ofs c k) (max (s.rd (SKM_CH_skm_ofs c k)) (s.rd SKM_SUN_ON_sun_step))).modChan c k
      (fun h => { h with pubSun := false })
  else s.put (SKM_CH_skm_ofs c k) (stepTowards (s.rd (SKM_CH_skm_ofs c k)) (s.chan c k).pubBias 1 1)

/-- The temperature of the tracking loop's sensor in 0.001 °C, where its result is valid and its sensor is not reported
faulty (R52, R457, R481). -/
def State.trackTemp (s : State) (c : Nat) : Option Int :=
  if s.flag (HK_RES_S_valid (s.rd (CRT_BIAS_TRK_trk_src c))) && s.rd (HK_RES_S_verdict (s.rd (CRT_BIAS_TRK_trk_src c))) == 0
  then some (s.rdInt (HK_RES_V_value (s.rd (CRT_BIAS_TRK_trk_src c)))) else none

/-- The target of the tracking loop (R52): T in 0.001 °C, tref in 0.01 °C, trk_coeff in 0.01 mV/K. DESIGN CHOICE (log 101): the
divisor is R51's step of 3 V/255, of which R52 prints 11.765 mV; R52 has no rule for an exact half, and halves go up before the
negation. -/
def State.trackTarget (s : State) (c : Nat) (temp : Int) : Int :=
  -(roundDiv ((temp - 10 * s.rdInt (CRT_BIAS_TREF_tref c)) * s.rdInt (CRT_BIAS_TRK_trk_coeff c) * 255) 300000000)

/-- The settings strobe (R590, R591): the timing domain's shadow latches take the tracking targets of every crate; none is the
target of a sensor without a valid result. -/
def State.settingsStrobe (s : State) : State :=
  forAll crateNos (fun t c => t.modCrate c (fun g => { g with trkTarget := (s.trackTemp c).map (s.trackTarget c) })) s

/-- A result register of sequencer entry j has been written: the strobe follows where a crate tracks it (R591). -/
def State.resultWritten (s : State) (j : Nat) : State :=
  doIf (crateNos.any (fun c => s.rd (CRT_BIAS_TRK_trk_src c) == j)) (fun t => t.settingsStrobe) s

/-- TRACKING_STEP (R52): trk_offset moves one step towards its latched target, or holds. DESIGN CHOICE (log 101): it stops at
-128 and 127, the ends of its field (R70), where the target lies beyond; R52 gives no limit. DESIGN CHOICE (log 119): trk_hold
follows the validity of the result here, at the crate's dwell boundary; R52 and R70 name no instant. -/
def State.trackStep (s : State) (c : Nat) : State :=
  if s.flag (CRT_BIAS_TRK_trk_en c) then
    match (s.crate c).trkTarget with
    | none => s.putB (CRT_FE_STAT_trk_hold c) true
    | some target =>
      (s.putB (CRT_FE_STAT_trk_hold c) false).putInt (CRT_FE_STAT_trk_offset c)
        (clampInt (-128) 127 (s.rdInt (CRT_FE_STAT_trk_offset c)
          + clampInt (-1) 1 (target - s.rdInt (CRT_FE_STAT_trk_offset c))))
  else s.putB (CRT_FE_STAT_trk_hold c) false

/-! ## Enabling, disabling, dwell boundaries (R56, R58, R64, R307) -/

/-- A channel leaves OFF for SETTLING: range 3, no quiet events, the Skimmer's state reset, the running ambient frame not
valid (R56, R58, R307); what the Skimmer holds for a failed ambient converter stays (R563). -/
def State.startChan (s : State) (c k : Nat) : State :=
  doIf (!(s.chan c k).ambFailed) (fun t => (t.setReg (SKM_CH c k) 0).modChan c k (fun h => { h with
      lastA := none, pubThr := 0, pubBias := 0, pubSun := false }))
    ((s.resetRange c k).modChan c k (fun h => { h with
      st := .settling, active := false, blankHeld := false, ambInvalid := true }))

/-- A channel goes OFF (R58); conversions of its last dwell that still run are finished (R50, R57). -/
def State.stopChan (s : State) (c k : Nat) : State :=
  s.modChan c k (fun h => { h with
    st := .off, active := false, blankHeld := false, hold := none, resetting := false
    converterOn := h.pend.any (fun p => !p.ready), preStops := [] })

/-- A channel takes its settings at a dwell boundary: enable, threshold, bias (R43, R53, R58). A channel of a crate that
is not ready stays OFF (R65). -/
def State.applyChan (s : State) (c k : Nat) : State :=
  let on := s.flag (CHN_FE_CFG_fe_en c k) && s.crateReady c
  let s1 := if on then (if (s.chan c k).st = .off then s.startChan c k else s)
    else (if (s.chan c k).st = .off then s else s.stopChan c k)
  (s1.showThr c k).showBias c k

/-- CRT_SVC.degraded follows the removed channels (R562, R583). -/
def State.showDegraded (s : State) (c : Nat) : State := s.putB (CRT_SVC_degraded c) (s.rd (CRT_SVC_removed c) != 0)

/-- CRT_SVC shows whether a channel is removed for any of the causes of R562. -/
def State.showRemoved (s : State) (c k : Nat) : State :=
  let h := s.chan c k
  (s.putB (removedField c k) (h.remNoSpare || h.remTie || h.remEcc || h.remTone)).showDegraded c

/-- A verdict of OK returns a channel at the first dwell boundary with the crate armed again (R64). -/
def State.toneReturn (s : State) (c k : Nat) : State :=
  doIf ((s.chan c k).toneOk && s.flag (CRT_CTRL_arm_en c))
    (fun t => (t.modChan c k (fun h => { h with remTone := false, toneOk := false })).showRemoved c k) s

/-- A tracking loop that does not run holds nothing (R52, R70). -/
def State.trackOff (s : State) (c : Nat) : State :=
  doIf (!s.flag (CRT_BIAS_TRK_trk_en c)) (fun t => t.putB (CRT_FE_STAT_trk_hold c) false) s

/-- What a dwell boundary does to a crate's channels; the apply tick counts as one (R22, R434). A crate without power holds
its status (R611). -/
def State.applyCrate (s : State) (c : Nat) : State :=
  (doIf (s.cratePowered c)
    (fun t => (forAll chanNos (fun u k => (u.applyChan c k).toneReturn c k) t).trackOff c) s).showQuiet c

/-- The steps of the tracking loop and of the Skimmer, at the close of the last main window of a dwell (R43, R51 to R53,
R309 to R311). -/
def State.stepSettings (s : State) (c : Nat) : State :=
  forAll chanNos (fun t k => (((t.stepThr c k).stepBias c k).showThr c k).showBias c k) (s.trackStep c)

/-- CHANNEL_SETTLE_END (R58). -/
def execChannelSettleEnd (c : CrateId) (k : ChanId) (s : State) : Host.Outcome State Fault Refusal :=
  .next (doIf (s.timingLive && decide ((s.chan c k).st = .settling))
    (fun t => t.modChan c k (fun h => { h with st := .idle })) s)

/-! ## Ambient converters (R54 to R56) -/

/-- One channel's ambient result: code, over, under (R54, R55). The mean is in pA, a code step is 2 nA. -/
def ambientCode (mean : Int) : Nat × Bool × Bool :=
  if mean ≥ 2000 * 2 ^ 20 then (0xFFFFF, true, false)
  else if mean < -2000 then (0, false, true)
  else ((mean / 2000).toNat, false, false)

/-- The frame ends for channel k of crate c (R54 to R56): an OFF channel delivers no result. -/
def State.ambientResult (s : State) (c k : Nat) (mean : Int) : State :=
  let h := s.chan c k
  let r := ambientCode mean
  if !s.cratePowered c then s.modChan c k (fun g => { g with ambDelivered := false })
  else if h.st = .off then (s.putB (CHN_AMB_valid c k) false).modChan c k (fun g => { g with ambDelivered := false })
  else
    let s1 := ((((s.put (CHN_AMB_amb c k) r.1).putB (CHN_AMB_over c k) r.2.1).putB (CHN_AMB_under c k) r.2.2).putB
      (CHN_AMB_valid c k) (!h.ambInvalid)).modChan c k (fun g => { g with ambInvalid := (s.crate c).tone.isSome, ambDelivered := true })
    doIf (r.2.1 || r.2.2) (fun t => t.detect 0x0B 2 (16 * c + k) 0 (if r.2.1 then 1 else 2) (elemAmbient (16 * c + k))) s1

/-- AMBIENT_FRAME_END (R306, R54). -/
def execAmbientFrameEnd (means : List AmbientMean) (s : State) : Host.Outcome State Fault Refusal :=
  .next (doIf s.fabricLive (fun t =>
    forAll crateNos (fun u c => forAll chanNos (fun v k => v.ambientResult c k (means.getD (16 * c + k) 0)) u) t) s)

/-! ## Test tone (R61 to R64) -/

/-- A direct write of CRT_TONE_CTL (R61, R606): done is cleared by 1, g_max is written, start begins a check. A start of a
crate that is busy or not quiesced is refused. DEDUCED (log 120): a crate that is OFF has no ambient converters (R603) and holds its
status (R611), so a start begins no check. -/
def State.toneWrite (s : State) (q : Src) (c : Nat) (value : Word) : State :=
  let go := (CRT_TONE_CTL_start c).get value == 1
  if go && (s.flag (CRT_TONE_CTL_busy c) || !s.quiesced c) then s.refuseWrite q (CRT_TONE_CTL c)
  else
    let s1 := (doIf ((CRT_TONE_CTL_done c).get value == 1) (fun t => t.putB (CRT_TONE_CTL_done c) false) s).put
      (CRT_TONE_CTL_g_max c) ((CRT_TONE_CTL_g_max c).get value)
    doIf (go && s.cratePowered c) (fun t => forAll chanNos (fun u k => u.modChan c k (fun h => { h with ambInvalid := true }))
      ((t.putB (CRT_TONE_CTL_busy c) true).modCrate c (fun h => { h with tone := some (t.rd (CRT_TONE_CTL_g_max c)) }))) s1

/-- TONE_START (R61). -/
def execToneStart (q : Src) (c : CrateId) (value : Word) (s : State) : Host.Outcome State Fault Refusal :=
  .next (doIf (s.serves q) (fun t => t.toneWrite q c value) s)

/-- The verdict of R63: 0 OK, 1 OPEN, 2 SHORT, 3 LEAKY. -/
def State.toneVerdict (s : State) (c k gMax : Nat) (m : ToneMeas) : Nat :=
  if m.cap < s.rd (CRT_TONE_CAP_cap_min c) then 1
  else if s.rd (CRT_TONE_CAP_cap_max c) < m.cap || s.flag (CHN_AMB_over c k) then 2
  else if gMax < m.cond then 3
  else 0

/-- A verdict of the test tone waits to remove the channel (R64, R560). -/
def State.toneRemovalDue (s : State) (c k : Nat) : Bool := s.flt.changes.any (fun x => decide (x = .remove c k 4))

/-- The check ends for one channel (R62 to R64). -/
def State.toneResult (s : State) (c k gMax : Nat) (m : ToneMeas) : State :=
  if (s.chan c k).st = .off then s
  else
    let v := s.toneVerdict c k gMax m
    let s1 := (((s.put (CHN_TONE_cap c k) m.cap).put (CHN_TONE_cond c k) m.cond).put (CHN_TONE_verdict c k) v).putB
      (CHN_TONE_valid c k) true
    if v = 0 then s1.modChan c k (fun h => { h with toneOk := h.remTone || s.toneRemovalDue c k })
    else
      doIf (v != 3) (fun t => (t.modChan c k (fun h => { h with toneOk := false })).modFlt (fun f => { f with
          changes := f.changes ++ [.remove c k 4] })) (s1.post 0x20 2 (16 * c + k) [s1.reg (CHN_TONE c k)])

/-- FLT_STAT.pend counts the fault-manager changes that wait (R560). -/
def State.showPend (s : State) : State := s.put FLT_STAT_pend (min 255 s.flt.changes.length)

/-- A crate goes to OFF (R603, R647). DEDUCED (log 120): a test tone that runs ends there, without verdicts and without done. -/
def State.crateTurnsOff (s : State) (c : Nat) : State :=
  ((s.put (cratePwrField c) 0).putB (CRT_TONE_CTL_busy c) false).modCrate c (fun h => { h with tone := none })

/-- TONE_CHECK_END (R62 to R64). -/
def execToneCheckEnd (c : CrateId) (meas : List ToneMeas) (s : State) : Host.Outcome State Fault Refusal :=
  .next (match (s.crate c).tone with
  | none => s
  | some gMax => doIf s.fabricLive (fun t =>
      ((forAll chanNos (fun u k => u.toneResult c k gMax (meas.getD k ⟨0, 0⟩))
        ((t.putB (CRT_TONE_CTL_busy c) false).modCrate c (fun h => { h with tone := none }))).putB
          (CRT_TONE_CTL_done c) true).showPend) s)

end Sys2Proof.Machine
end

