-- ==== Sys2Proof/Machine/Reject.lean ====
section
/-! DEFINITION. Skimmer, Strainer and Separator (spec/08_background_and_interference.md R305 to R330): ambient laws and sun
states, background and backscatter, weather, window level, foreign rate. -/

namespace Sys2Proof.Machine

/-! ## Skimmer (R307 to R311, R314, R563) -/

/-- The sun step is taken on entry to SUN (R311). -/
def State.sunSteps (s : State) : Bool := s.flag SKM_CFG_sun_en && s.flag SKM_CFG_bias_en

/-- The threshold target of R308. -/
def State.thrTarget (s : State) (a : Nat) : Nat :=
  if s.flag SKM_CFG_thr_en ∧ s.rd SKM_THR_LAW_knee < a then
    min (s.rd SKM_RATE_dmax) (s.rd SKM_THR_LAW_gain * (isqrt a - isqrt (s.rd SKM_THR_LAW_knee)) / 16)
  else 0

/-- The bias target of R310 before the sun step. -/
def State.biasTarget (s : State) (a : Nat) : Nat :=
  if s.flag SKM_CFG_bias_en ∧ s.rd SKM_BIAS_LAW_bknee < a then
    min (s.rd SKM_LIM_bmax) ((a - s.rd SKM_BIAS_LAW_bknee) * s.rd SKM_BIAS_LAW_bgain / 65536)
  else 0

/-- A channel enters or leaves SUN (R311): count 0, and the event. -/
def State.setSun (s : State) (c k : Nat) (on : Bool) (a : Nat) : State :=
  ((s.putB (SKM_CH_sun c k) on).put (SKM_CH_sun_ct c k) 0).post 0x21 2 (16 * c + k) [w32 on.toNat, w32 a]

/-- The state table of R311 for one used result. -/
def State.sunStep (s : State) (c k a : Nat) (beyond : Bool) : State :=
  if !s.flag (SKM_CH_sun c k) then
    if s.rd SKM_SUN_ON_sun_on ≤ a ∨ beyond then
      (s.setSun c k true a).modChan c k (fun h => { h with pubSun := h.pubSun || s.sunSteps })
    else s
  else if a ≤ s.rd SKM_SUN_OFF_sun_off then
    if s.rd (SKM_CH_sun_ct c k) + 1 < s.rd SKM_SUN_OFF_sun_hold then
      s.put (SKM_CH_sun_ct c k) (s.rd (SKM_CH_sun_ct c k) + 1)
    else (s.setSun c k false a).modChan c k (fun h => { h with pubSun := false })
  else s.put (SKM_CH_sun_ct c k) 0

/-- The targets that hold while an ambient converter has failed (R563). A crate that is OFF keeps what its channel shows (R611). The
channel's entry into SUN takes R311's sun step; DESIGN CHOICE (log 123): an offset that stands elsewhere then moves to sun_step as
R310 moves it, 1 step a boundary. -/
def State.holdSun (s : State) (c k : Nat) : State :=
  let enters := !s.flag (SKM_CH_sun c k) && s.cratePowered c
  let s1 := doIf enters (fun t => t.setSun c k true (match (s.chan c k).lastA with
    | none => 0
    | some p => p.1)) s
  s1.modChan c k (fun h => { h with
    pubThr := s.rd SKM_RATE_dmax
    pubBias := if s.sunSteps then s.rd SKM_SUN_ON_sun_step else h.pubBias
    pubSun := h.pubSun || (enters && s.sunSteps) })

/-- The Skimmer takes the results of a frame. -/
def State.takeAmbient (s : State) (c k : Nat) : State := s.modChan c k (fun h => { h with ambDelivered := false })

/-- The Skimmer processes one channel's result (R307): only one that the frame's end has delivered (R54); one that is not valid changes
nothing, nor does one of a crate that is OFF (R611). -/
def State.skimChannel (s : State) (c k : Nat) : State :=
  if !s.cratePowered c then s
  else if (s.chan c k).ambFailed then s.holdSun c k
  else if (s.chan c k).ambDelivered && s.flag (CHN_AMB_valid c k) then
    let o := s.flag (CHN_AMB_over c k)
    let a := if o then 1048575 else s.rd (CHN_AMB_amb c k)
    let s1 := s.sunStep c k a o
    s1.modChan c k (fun h => { h with
      lastA := some (a, o)
      pubThr := s1.thrTarget a
      pubBias := if s1.flag (SKM_CH_sun c k) && s1.sunSteps then max (s1.biasTarget a) (s1.rd SKM_SUN_ON_sun_step)
        else s1.biasTarget a })
  else s

/-- SKIMMER_FRAME_PROCESS (R307): channels in ascending global order; the targets are published on one strobe (R591). -/
def execSkimmerFrameProcess (s : State) : Host.Outcome State Fault Refusal :=
  .next (doIf s.fabricReady (fun t => (forAll crateNos (fun u c => forAll chanNos (fun v k =>
    (v.skimChannel c k).takeAmbient c k) u) t).settingsStrobe) s)

/-- A permanent fault of an ambient converter takes effect (R563). -/
def State.failAmbient (s : State) (c k : Nat) : State :=
  ((s.modChan c k (fun h => { h with ambFailed := true })).putB (CRT_SVC_amb_fail c) true).holdSun c k

/-- 1 + ⌊12 log₂ a⌋: the number of bits of a¹² (R314). -/
def logAmbient (a : Nat) : Nat := Nat.log2 (a ^ 12) + 1

/-- The record ambient value of R314. -/
def Chan.ambientValue (h : Chan) : Nat :=
  if h.ambFailed then 0
  else match h.lastA with
  | none => 0
  | some (a, o) => if o then 255 else if a ≤ 1 then 1 else logAmbient a

/-! ## Background and backscatter (R313, R315, R316) -/

/-- The first main-window bin (R262). -/
def binLo (wc : Nat) : Nat := 4096 / wc
/-- The last main-window bin (R313). -/
def binHi (wc mainLen : Nat) : Nat := min 511 (ceilDiv (4096 + 80 * mainLen) wc - 1)

/-- One segment of the main window: its number, its counts, its bins. -/
structure Seg where
  idx : Nat
  sum : Nat
  bins : Nat
  deriving DecidableEq, Repr

/-- The segments of R313. -/
def segments (h : List Nat) (lo hi : Nat) : List Seg :=
  let nb := hi + 1 - lo
  let g := min 16 nb
  (List.range g).map (fun i =>
    let a := lo + i * nb / g
    let b := lo + (i + 1) * nb / g
    ⟨i, ((h.drop a).take (b - a)).sum, b - a⟩)

/-- Segment x is excluded before segment y: more counts per bin, or as many and the higher number. -/
def Seg.above (x y : Seg) : Bool :=
  decide (y.sum * x.bins < x.sum * y.bins) || (x.sum * y.bins == y.sum * x.bins && decide (y.idx < x.idx))

/-- Exclude the segments with the most counts, n of them. -/
def dropTop : Nat → List Seg → List Seg
  | 0, l => l
  | n + 1, l => dropTop n (l.filter (fun x => l.any (fun y => y.above x)))

/-- The flat background in 1/16 count (R313). -/
def flatBackground (h : List Nat) (lo hi excl : Nat) : Nat :=
  let l := segments h lo hi
  let kept := dropTop (min excl (l.length - 1)) l
  (roundDiv (16 * (kept.map (fun x => x.sum)).sum) (kept.map (fun x => x.bins)).sum).toNat

/-- The host's backscatter shape s₀ to s₃₁ (R315). -/
def Descr.shape (d : Descr) : List Nat :=
  (List.range 8).flatMap (fun i => [d.rd (STR_SHAPE_s0 i), d.rd (STR_SHAPE_s1 i), d.rd (STR_SHAPE_s2 i), d.rd (STR_SHAPE_s3 i)])

/-- The first bin of the fit region (R315). -/
def Descr.fitStart (d : Descr) : Nat := ceilDiv (4096 + 80 * d.blank) (2 ^ (d.cbin + 4))

/-- The fit of R315: the bins' F in 1/16 count, and whether R316 accepts it; none where no fit is made. -/
def Descr.fit (d : Descr) (h : List Nat) (bf hi : Nat) : Option (List Nat × Bool) :=
  let region := (List.range (min 32 (hi + 1 - d.fitStart))).map (fun j =>
    (max 0 (16 * (h.getD (d.fitStart + j) 0 : Int) - bf), d.shape.getD j 0))
  let den := (region.map (fun p => p.2 * p.2)).sum
  if !d.rd STR_CFG_bs_en == 0 && den ≠ 0 then
    let num := (region.map (fun p => p.1.toNat * p.2)).sum
    let f := region.map (fun p => (roundDiv (num * p.2) den).toNat)
    some (f, decide (16 * d.rd STR_CFG_a_min ≤ f.foldl max 0)
      && decide (d.rd STR_CFG_spread ≤ region.countP (fun p => decide (0 < p.1))))
  else none

/-! ## Weather, window level (R318, R322) -/

/-- The crate's weather density and state after a dwell with a number of wet channels (R318). -/
def State.weather (s : State) (c wet : Nat) (d : Descr) : State :=
  let old : Int := s.rd (STR_CRT_dens c)
  let dens := (clampInt 0 256 (old + roundDiv (16 * wet - old) 8)).toNat
  let s1 := s.put (STR_CRT_dens c) dens
  let change := fun (on : Bool) => (s1.putB (STR_CRT_weather c) on).post 0x25 1 c [w32 on.toNat, w32 dens]
  if !s.flag (STR_CRT_weather c) ∧ 16 * d.rd STR_WX_on ≤ dens then change true
  else if s.flag (STR_CRT_weather c) ∧ dens < 16 * d.rd STR_WX_off then change false
  else s1

/-- A probe dwell's window level and state of a channel (R322). -/
def State.windowLevel (s : State) (c k w : Nat) (d : Descr) : State :=
  let old : Int := s.rd (STR_CH_wl c k)
  let wl := (old + roundDiv (w - old) 16).toNat
  let s1 := s.put (STR_CH_wl c k) wl
  let change := fun (on : Bool) => (s1.putB (STR_CH_dirty c k) on).post 0x22 2 (16 * c + k) [w32 on.toNat, w32 wl]
  if !s.flag (STR_CH_dirty c k) ∧ 256 * d.rd STR_WIN_LVL_dirty ≤ wl then change true
  else if s.flag (STR_CH_dirty c k) ∧ wl ≤ 256 * d.rd STR_WIN_LVL_clean then change false
  else s1

/-! ## Separator (R325 to R328) -/

/-- The foreign rate after a count in a time of LSB (R326). -/
def State.foreignRate (s : State) (c k count time : Nat) (d : Descr) : Nat :=
  let a := match (s.chan c k).lastA with
    | none => 0
    | some p => p.1
  let fr : Int := s.rd (SEP_CH_fr c k)
  let x : Int := (count * 16384000 / time : Nat) - (d.rd SEP_RATE_base + d.rd SEP_RATE_slope * a / 65536 : Nat) - fr
  (clampInt 0 65535 (fr + roundDiv x (2 ^ d.rd SEP_CFG_k))).toNat

/-- HOP_REQUEST (R328). -/
def State.hopRequest (s : State) (c k : Nat) (d : Descr) : State :=
  if d.rd SEP_CFG_hop_en = 1 ∧ 16 * d.rd SEP_LIM_hop ≤ s.rd (SEP_CH_fr c k)
      ∧ s.shot.hopReq.all (fun t => decide (t + 100000 * d.rd SEP_LIM_gap ≤ s.clk.ftick)) then
    let s1 := ((s.bump SEP_STAT_req 1).put SEP_STAT_chan (16 * c + k)).modShot (fun h => { h with
      hopReq := some s.clk.ftick, hopPending := true })
    s1.post 0x24 2 (16 * c + k) [w32 (s1.rd SEP_STAT_req)]
  else s

/-- SEPARATOR_UPDATE of one channel (R326 to R328). -/
def State.separate (s : State) (c k count time : Nat) (d : Descr) : State :=
  if time = 0 then s
  else
    let fr := s.foreignRate c k count time d
    let s1 := s.put (SEP_CH_fr c k) fr
    let change := fun (on : Bool) => (s1.putB (SEP_CH_foreign c k) on).post 0x23 2 (16 * c + k) [w32 on.toNat, w32 fr]
    (if !s.flag (SEP_CH_foreign c k) ∧ 16 * d.rd SEP_LIM_flag_on ≤ fr then change true
      else if s.flag (SEP_CH_foreign c k) ∧ fr < 16 * d.rd SEP_LIM_flag_off then change false
      else s1).hopRequest c k d

end Sys2Proof.Machine
end

