-- ==== Sys2Proof/Machine/Dumps.lean ====
section
/-! DEFINITION. The buffers of a Churn bank (R256) and the ends of histogram dumps and raw captures (R292, R295). -/

namespace Sys2Proof.Machine

/-! ## Buffers (R256, R272) -/

/-- Buffer x of a channel. -/
def Chan.buf (h : Chan) (x : Bool) : Buf := if x then h.buf1 else h.buf0

/-- Replace buffer x of a channel. -/
def Chan.setBuf (h : Chan) (x : Bool) (b : Buf) : Chan := if x then { h with buf1 := b } else { h with buf0 := b }

/-- Change buffer x of channel k. -/
def State.modBuf (s : State) (c k : Nat) (x : Bool) (f : Buf → Buf) : State :=
  s.modChan c k (fun h => h.setBuf x (f (h.buf x)))

/-- The byte at which buffer x of channel k begins in its bank (R256). -/
def bufBase (k : Nat) (x : Bool) : Nat := 4096 * k + 2048 * x.toNat

/-- The byte of coarse bin b of a buffer. -/
def coarseAt (k : Nat) (x : Bool) (b : Nat) : Nat := bufBase k x + 2 * b

/-- The byte of fine bin f of window n of a buffer. -/
def fineAt (k : Nat) (x : Bool) (n f : Nat) : Nat := bufBase k x + 1024 + 256 * n + 2 * f

/-- The buffers of a channel, the one that accumulated longer ago first. -/
def Chan.bufOrder (h : Chan) : List Bool := if h.buf1.dwellId < h.buf0.dwellId then [true, false] else [false, true]

/-- The buffer of a channel in a state, the older dwell first. -/
def Chan.bufIn (h : Chan) (st : BufState) : Option Bool := h.bufOrder.find? (fun x => decide ((h.buf x).st = st))

/-- The words of the fine windows placed in a buffer are read and cleared (R272). -/
def State.clearFine (s : State) (c k : Nat) (x : Bool) : State :=
  forAll ((List.range 4).filter (fun n => (((s.chan c k).buf x).fine.getD n none).isSome)) (fun t n =>
    t.clearBank c (fineAt k x n 0) 256) s

/-- A buffer is read and cleared, and becomes FREE (R272, R290): its coarse words and its placed windows; a raw capture keeps what
it holds in the other words (R293). -/
def State.freeBuf (s : State) (c k : Nat) (x : Bool) : State :=
  ((s.clearBank c (bufBase k x) 1024).clearFine c k x).modBuf c k x (fun b => { Buf.reset with dwellId := b.dwellId })

/-! ## The fine-window memory of a capture (R256, R293) -/

/-- The units that the fine-window memory holds: 32 KiB of 8 bytes each (R256). -/
def rawRoom : Nat := 4096

/-- The byte of the n-th word of the fine-window memory of a bank. DESIGN CHOICE (log 121): a capture fills it in the order of the
word addresses (R256). -/
def rawAt (n : Nat) : Nat := bufBase (n / 256) (n / 128 % 2 == 1) + 1024 + 8 * (n % 128)

/-- A capture writes a unit, an event or a marker (R293, R425). DESIGN CHOICE (log 121): a marker past the memory's end is kept
beside it. -/
def State.putUnit (s : State) (c : Nat) (u : Word × Word) : State :=
  match (s.crate c).raw with
  | none => s
  | some r =>
    if r.count < rawRoom then ((s.setBankWord c (rawAt r.count) u.1).setBankWord c (rawAt r.count + 4) u.2).modCrate c (fun g =>
      { g with raw := some { r with count := r.count + 1 } })
    else s.modCrate c (fun g => { g with raw := some { r with extra := r.extra ++ [u] } })

/-- The units of a capture in the order they were written, as the bank holds them. -/
def State.rawUnits (s : State) (c : Nat) (r : Raw) : List (Word × Word) :=
  (List.range r.count).map (fun n => (s.bankWord c (rawAt n), s.bankWord c (rawAt n + 4))) ++ r.extra

/-- The capture's words are cleared for the fine windows to come. -/
def State.clearRaw (s : State) (c : Nat) (r : Raw) : State :=
  forAll (List.range r.count) (fun t n => t.clearBank c (rawAt n) 8) s

/-- The fine-window memory of both buffers of every channel is free: no window is placed in it (R293). -/
def State.fineFree (s : State) (c : Nat) : Bool :=
  chanNos.all (fun k => (s.chan c k).buf0.fine.all Option.isNone && (s.chan c k).buf1.fine.all Option.isNone)

/-! ## Dumps and captures end (R292, R295) -/

/-- A HIST_DUMP of crate c completes; buffers that waited for it are cleared. -/
def State.endDump (s : State) (c status : Nat) : State :=
  match (s.crate c).dump with
  | none => s
  | some d =>
    let s1 := ((s.modCrate c (fun g => { g with dump := none })).putB (CHU_DUMP_STAT_dump_active c) false).completeOpt d.cmd status
      (BitVec.ofNat 64 d.channels) (w32 d.full)
    forAll chanNos (fun t k => forAll [false, true] (fun u x =>
      if ((u.chan c k).buf x).st = .dump then u.freeBuf c k x else u.modBuf c k x (fun b => { b with dumpDue := false })) t) s1

/-- A RAW_CAPTURE of crate c captures no more: it drains, then completes with a status. -/
def State.stopRaw (s : State) (c status : Nat) : State :=
  s.modCrate c (fun g => { g with raw := g.raw.map (fun r => { r with
    stage := .draining, stopWith := if r.stage = .draining then r.stopWith else some status }) })

/-- The dumps and captures of a crate end: it powers down, or the shot engine has reached IDLE. -/
def State.endCaptures (s : State) (c status : Nat) : State := (s.endDump c status).stopRaw c status

end Sys2Proof.Machine
end

