-- ==== Sys2Proof/Machine/Motor.lean ====
section
/-! DEFINITION. Scan motor feedback (spec/06_scan_motor_feedback.md R214 to R239): Hall codes, states, speed, angle, index
and frame sync. Round and sweep boundaries stand with the shot engine. -/

namespace Sys2Proof.Machine

/-! ## Speed and angle (R222 to R229) -/

/-- A whole round in units of the angle (R226). -/
def fullAngle : Nat := 16777216

/-- Half a round. -/
def halfAngle : Nat := 8388608

/-- Segments of a round: E = 6·p (R218). -/
def State.segments (s : State) : Nat := 6 * (s.rd MOT_CFG_pp + 1)

/-- The raw angle at which segment j begins (R226). -/
def State.theta (s : State) (j : Nat) : Nat := j * fullAngle / s.segments

/-- The interface is in state VALID: the speed is valid (R219). -/
def State.speedValid (s : State) : Bool := s.rd MOT_STATUS_state == 3

/-- The share of segment j that has passed since the last edge, held short of the next edge (R227). -/
def State.advance (s : State) (j : Nat) : Nat :=
  min ((s.theta (j + 1) - s.theta j) * (s.clk.tick - s.motor.edgeTime) / max 1 (s.rd MOT_PERIOD_period))
    (s.theta (j + 1) - s.theta j - 1)

/-- The raw angle (R227). -/
def State.rawAngle (s : State) : Nat :=
  let j := s.rd MOT_STATUS_seg
  if s.speedValid then
    if s.flag MOT_STATUS_dir then s.theta (j + 1) - 1 - s.advance j else s.theta j + s.advance j
  else s.motor.rawBase

/-- The aligned angle (R228). -/
def State.alignedAngle (s : State) : Nat := (s.rawAngle + s.motor.offset) % fullAngle

/-- How far x lies ahead of y, modulo a round. -/
def ahead (x y : Nat) : Nat := (x + fullAngle - y % fullAngle) % fullAngle

/-- The reported angle: the aligned angle, or a value held until the aligned angle reaches it (R229). -/
def State.reportedAngle (s : State) : Nat :=
  match s.motor.hold with
  | none => s.alignedAngle
  | some h => if 1 ≤ ahead h s.alignedAngle ∧ ahead h s.alignedAngle < halfAngle then h else s.alignedAngle

/-- The reported angle is valid (R228). -/
def State.angleValid (s : State) : Bool :=
  s.speedValid && (s.flag MOT_STATUS_aligned || !(s.flag MOT_IDX_CFG_idx_en || s.flag MOT_FSYNC_en))

/-- The reported speed magnitude in 0.1 rpm (R223). -/
def State.speed (s : State) : Nat :=
  if s.speedValid then
    if s.clk.tick ≤ s.motor.edgeTime then s.motor.sEdge
    else min s.motor.sEdge (60000000000 / (s.segments * (s.clk.tick - s.motor.edgeTime)))
  else 0

/-- The speed permit (R225). -/
def State.speedPermit (s : State) : Bool :=
  s.speedValid && s.rd MOT_STATUS_dir == s.rd EYE_SPD_CFG_dir && decide (s.rd EYE_SPD_min ≤ s.speed)
  && decide (s.speed ≤ s.rd EYE_SPD_max)

/-- The speed error (R239): held in ESTIMATING and RESYNC. -/
def State.speedError (s : State) : Int :=
  if s.rd MOT_STATUS_state = 2 ∨ s.rd MOT_STATUS_state = 4 then s.rdInt MOT_SERR_err
  else clampInt (-32768) 32767 ((s.rd MOT_SERR_CFG_set : Int) - s.speed)

/-- A reverse pass through 0 between two valid angles takes the round number back, once in its tick (R235). -/
def State.reversePass (s : State) : State :=
  match s.motor.prevAngle with
  | none => s
  | some p => doIf (s.angleValid && s.flag MOT_STATUS_dir && decide (p < halfAngle) && decide (halfAngle ≤ s.reportedAngle)
        && decide (s.motor.passTick ≠ some s.clk.tick))
      (fun t => (t.put MOT_ROUND_round ((t.rd MOT_ROUND_round + 65535) % 65536)).modMotor (fun m => { m with
        passTick := some s.clk.tick }))
      s

/-- The registers follow the angle, the speed and the permit of the present tick (R223, R225, R228, R239). -/
def State.showMotor (s : State) : State :=
  let v : Int := if s.flag MOT_STATUS_dir then -(s.speed : Int) else s.speed
  ((((((s.put MOT_ANGLE_angle s.reportedAngle).putB MOT_ANGLE_valid s.angleValid).putB MOT_STATUS_ang_valid
    s.angleValid).putInt MOT_SPEED_spd (clampInt (-2147483648) 2147483647 v)).putB MOT_STATUS_permit
      s.speedPermit).putInt MOT_SERR_err s.speedError).modMotor (fun m => { m with
        hold := if s.speedValid && decide (s.reportedAngle ≠ s.alignedAngle) then m.hold else none })

/-- The angle of the tick that ends is kept for the comparisons of the next one (R133, R235). -/
def State.keepAngle (s : State) : State :=
  s.modMotor (fun m => { m with
    prevAngle := if s.flag MOT_ANGLE_valid then some (s.rd MOT_ANGLE_angle) else none })

/-- What a tick does to the interface while the timing domain runs. -/
def State.refreshMotor (s : State) : State := s.reversePass.showMotor

/-! ## Hall codes (R216 to R221, R224) -/

/-- The position of a Hall code, none where it is invalid (R216). -/
def hallPos (code : BitVec 3) : Option Nat := [none, some 0, some 2, some 1, some 4, some 5, some 3, none].getD code.toNat none

/-- Lines in which two codes differ. -/
def linesChanged (a b : BitVec 3) : Nat := ((List.range 3).filter (fun i => (a ^^^ b).getLsbD i)).length

/-- Post MOTOR with each of the kinds (R428): its MOT_STATUS is that of the tick, so it stands after refreshMotor. -/
def State.motorEvents (s : State) (kinds : List Nat) : State :=
  forAll kinds (fun t k => t.post 0x40 5 0 [w32 k, t.reg MOT_STATUS, t.reg MOT_PERIOD]) s

/-- Take a code while none is held (R217 to R219): the first since reset or since a write of MOT_CFG sets the segment
counter to its position, gives STANDSTILL and the ready bit; a later one gives RESYNC. -/
def State.takeCode (s : State) (code : BitVec 3) (pos : Nat) : State :=
  if s.motor.everCode then
    (s.put MOT_STATUS_state 4).modMotor (fun m => { m with
      code := some code, rawBase := s.theta (s.rd MOT_STATUS_seg), standFrom := s.clk.tick })
  else
    (((s.put MOT_STATUS_seg pos).put MOT_STATUS_state 1).modMotor (fun m => { m with
      code := some code, everCode := true, rawBase := s.theta pos, standFrom := s.clk.tick })).setReady GLB_READY_motor true

/-- The state falls to NO_CODE or RESYNC: speed 0, aligned 0 (R219). A code that is taken gives the raw angle of the segment
that it keeps (R227). -/
def State.loseCount (s : State) (code : Option (BitVec 3)) : State :=
  ((s.put MOT_STATUS_state (if code.isSome then 4 else 0)).putB MOT_STATUS_aligned false).modMotor (fun m => { m with
    code := code, hold := none, sEdge := 0, standFrom := s.clk.tick
    rawBase := if code.isSome then s.theta (s.rd MOT_STATUS_seg) else m.rawBase })

/-- The period that a valid edge gives (R222): between edge times, or between accept ticks where n_hall has changed. -/
def State.periodOf (s : State) (n : Nat) : Nat :=
  min (2 ^ 32 - 1) (max 1 (if s.motor.edgeN = n then s.clk.tick + 1 - n - s.motor.edgeTime
    else s.clk.tick - s.motor.edgeAccept))

/-- A jump of the period (R224). -/
def isJump (p prev dev : Nat) : Bool := decide (prev * (100 + dev) < p * 100) || decide (p * (100 + dev) < prev * 100)

/-- The state after a valid edge (R219): 3 VALID for the second edge in one direction, else 2 ESTIMATING. -/
def edgeState (st : Nat) (same : Bool) : Nat := if (st == 2 || st == 3) && same then 3 else 2

/-- A valid edge after the period p is a jump of it (R224): both of the edges lie in state VALID. -/
def State.jumps (s : State) (n : Nat) : Bool :=
  s.speedValid && s.motor.hasEdge && isJump (s.periodOf n) (s.rd MOT_PERIOD_period) (s.rd MOT_TMO_jump)

/-- An edge turns the direction (R221). -/
def State.turns (s : State) (reverse : Bool) : Bool := s.flag MOT_STATUS_dir != reverse

/-- A valid edge (R217 to R224): count, period, direction, state, speed. DESIGN CHOICE (log 123): the first one of an acquisition has no
edge before it, and MOT_PERIOD stays. -/
def State.hallEdge (s : State) (n : Nat) (code : BitVec 3) (reverse : Bool) : State :=
  let e := s.segments
  let j := s.rd MOT_STATUS_seg
  let j' := if reverse then (j + e - 1) % e else (j + 1) % e
  let p := s.periodOf n
  let st' := edgeState (s.rd MOT_STATUS_state) (!s.turns reverse)
  let s1 := (((s.put MOT_STATUS_seg j').putB MOT_STATUS_dir reverse).put MOT_STATUS_state st').modMotor (fun m => { m with
    code := some code, edgeTime := s.clk.tick + 1 - n, edgeAccept := s.clk.tick, edgeN := n, hasEdge := true, standFrom := s.clk.tick
    sEdge := if st' = 3 then 60000000000 / (e * p) else 0
    rawBase := if reverse then s.theta (j' + 1) else s.theta j'
    hold := if st' = 3 then m.hold else none
    fwdCount := if reverse then m.fwdCount else m.fwdCount + 1 })
  let s2 := doIf s.motor.hasEdge (fun t => t.put MOT_PERIOD_period p) s1
  let s3 := doIf (s.turns reverse) (fun t => (t.putB MOT_STATUS_dir_chg true).bump MOT_ERR_B_rev_ct 1) s2
  doIf (s.jumps n) (fun t => t.bump MOT_ERR_B_jump_ct 1) s3

/-- What a change of the filtered lines is while the code old is held (R217). -/
inductive HallStep where
  | none
  | illegal
  | invalid
  | edge (reverse : Bool)
  deriving DecidableEq, Repr

/-- The rows of R217's table. -/
def State.hallStep (s : State) (old code : BitVec 3) : HallStep :=
  if linesChanged old code = 0 then .none
  else if 1 < linesChanged old code then .illegal
  else match hallPos old, hallPos code with
  | some a, some b => .edge (((a + 1) % 6 != b) != s.flag MOT_CFG_rev)
  | _, _ => .invalid

/-- While no code is held there is no edge: a filtered code is taken, and a change against the code that the filter held counts
as it does else (R217). -/
def State.hallStepFree (s : State) (code : BitVec 3) : HallStep :=
  match s.motor.lines with
  | none => .none
  | some o =>
    if 1 < linesChanged o code then .illegal
    else if linesChanged o code = 1 ∧ hallPos code = none then .invalid
    else .none

/-- What the accepted code is to the interface. -/
def State.hallStepNow (s : State) (code : BitVec 3) : HallStep :=
  match s.motor.code with
  | some old => s.hallStep old code
  | none => s.hallStepFree code

/-- The counters of a change that is no edge (R217). -/
def State.countStep (s : State) (k : HallStep) : State :=
  match k with
  | .illegal => s.bump MOT_ERR_A_illegal 1
  | .invalid => s.bump MOT_ERR_A_inv_code 1
  | .none | .edge _ => s

/-- A code change while a code is held (R217). -/
def State.hallChange (s : State) (n : Nat) (k : HallStep) (code : BitVec 3) : State :=
  match k with
  | .none => s
  | .illegal | .invalid => (s.loseCount (if (hallPos code).isSome then some code else none)).countStep k
  | .edge reverse => s.hallEdge n code reverse

/-- Take the code where it is valid. -/
def State.takeValid (s : State) (code : BitVec 3) : State :=
  match hallPos code with
  | some p => s.takeCode code p
  | none => s

/-- The filter accepts a Hall code (R217); the first that it accepts is no change (R215). -/
def State.hallAccept (s : State) (code : BitVec 3) : State :=
  let s1 := (s.put MOT_STATUS_code code.toNat).modMotor (fun m => { m with lines := some code })
  if s.motor.code.isSome then s1.hallChange (s.rd MOT_FILT_n_hall) (s.hallStepNow code) code
  else (s1.countStep (s.hallStepNow code)).takeValid code

/-- The kinds of MOTOR that an accepted code gives (R428): 0 invalid code, 1 illegal transition, 3 reversal, 4 jump. -/
def State.hallKinds (s : State) (code : BitVec 3) : List Nat :=
  match s.hallStepNow code with
  | .none => []
  | .illegal => [1]
  | .invalid => [0]
  | .edge reverse => (if s.turns reverse then [3] else []) ++ (if s.jumps (s.rd MOT_FILT_n_hall) then [4] else [])

/-- HALL_CODE_CHANGE (R215, R217): the lines have shown the code for at least n_hall samples. -/
def execHallCodeChange (code : BitVec 3) (held : Nat) (s : State) : Host.Outcome State Fault Refusal :=
  .next (doIf (s.timingLive && decide (s.rd MOT_FILT_n_hall ≤ held)) (fun t =>
    ((t.hallAccept code).refreshMotor).motorEvents (s.hallKinds code)) s)

/-! ## Index and frame sync (R230 to R234) -/

/-- Set the alignment offset so that the reported angle becomes target (R229): a change that would move it back holds the
reported value; before the first alignment there is no valid angle to hold. -/
def State.alignTo (s : State) (target : Nat) : State :=
  let r := s.reportedAngle
  (s.putB MOT_STATUS_aligned true).modMotor (fun m => { m with
    offset := ahead target s.rawAngle
    hold := if s.flag MOT_STATUS_aligned && decide (1 ≤ ahead r target) && decide (ahead r target < halfAngle) then some r
      else none
    fwdCount := 0 })

/-- The distance of two angles modulo m. -/
def circDist (m x y : Nat) : Nat := min ((x + m - y % m) % m) ((y + m - x % m) % m)

/-- An aligned angle that is off by dist slips (R231). -/
def State.slips (s : State) (dist : Nat) : Bool :=
  s.flag MOT_STATUS_aligned && decide (s.rd MOT_IDX_CFG_tol * 256 < dist)

/-- A slip is counted (R231). -/
def State.slip (s : State) (dist : Nat) : State := doIf (s.slips dist) (fun t => t.bump MOT_ERR_A_slip 1) s

/-- The kinds of MOTOR that an alignment gives (R428). -/
def State.slipKinds (s : State) (dist : Nat) : List Nat := if s.slips dist then [5] else []

/-- The filter of HALL_IDX accepts a level: an edge is a change from inactive to active (R230). -/
def State.idxAccept (s : State) (level : Bool) : Bool × State :=
  (s.motor.idxLevel == some (!level) && level == !s.flag MOT_IDX_CFG_pol, s.modMotor (fun m => { m with idxLevel := some level }))

/-- An index or frame-sync edge acts: state VALID, direction forward (R230, R233). -/
def State.idxActs (s : State) : Bool := s.speedValid && !s.flag MOT_STATUS_dir

/-- How far an index edge finds the angle off (R231). -/
def State.indexOff (s : State) : Nat := circDist fullAngle s.reportedAngle (s.rd MOT_IDX_CFG_ofs * 256)

/-- An index edge aligns the angle to ofs (R230, R231). -/
def State.indexAlign (s : State) : State := (s.slip s.indexOff).alignTo (s.rd MOT_IDX_CFG_ofs * 256)

/-- The facet in units of the angle (R233). -/
def State.facet (s : State) : Nat := 2 ^ (24 - s.rd SHT_CFG_fct)

/-- The position within the facet that a frame-sync edge marks (R233). -/
def State.fsyncTarget (s : State) : Nat := s.rd MOT_FSYNC_ofs * 256 % s.facet

/-- How far a frame-sync edge finds the position off (R233). -/
def State.fsyncOff (s : State) : Nat := circDist s.facet s.reportedAngle s.fsyncTarget

/-- A frame-sync edge aligns the position within the facet by the smaller correction (R233). DESIGN CHOICE (log 123): of two equal ones,
half a facet each, the forward one. -/
def State.fsyncAlign (s : State) : State :=
  let d := (s.fsyncTarget + s.facet - s.reportedAngle % s.facet) % s.facet
  if s.flag MOT_STATUS_aligned then
    (s.slip s.fsyncOff).alignTo ((s.reportedAngle + (if 2 * d ≤ s.facet then d else d + fullAngle - s.facet)) % fullAngle)
  else s.alignTo s.fsyncTarget

/-- INDEX_EDGE (R230, R231). -/
def execIndexEdge (level : Bool) (held : Nat) (s : State) : Host.Outcome State Fault Refusal :=
  let acts := (s.idxAccept level).1 && s.flag MOT_IDX_CFG_idx_en && s.idxActs
  .next (doIf (s.timingLive && decide (s.rd MOT_FILT_n_idx ≤ held)) (fun t =>
    ((doIf acts (fun u => u.indexAlign) (t.idxAccept level).2).refreshMotor).motorEvents
      (if acts then s.slipKinds s.indexOff else [])) s)

/-- FRAME_SYNC_EDGE (R233). -/
def execFrameSyncEdge (level : Bool) (held : Nat) (s : State) : Host.Outcome State Fault Refusal :=
  let acts := (s.idxAccept level).1 && s.flag MOT_FSYNC_en && s.idxActs
  .next (doIf (s.timingLive && decide (s.rd MOT_FILT_n_idx ≤ held)) (fun t =>
    ((doIf acts (fun u => u.fsyncAlign) (t.idxAccept level).2).refreshMotor).motorEvents
      (if acts then s.slipKinds s.fsyncOff else [])) s)

/-- INDEX_MISSING (R232). -/
def execIndexMissing (s : State) : Host.Outcome State Fault Refusal :=
  .next (doIf (s.timingLive && decide (2 * s.segments ≤ s.motor.fwdCount)) (fun t =>
    doIf (t.flag MOT_STATUS_aligned) (fun u => (u.bump MOT_ERR_A_idx_miss 1).motorEvents [6])
      (t.modMotor (fun m => { m with fwdCount := 0 }))) s)

/-- The standstill timeout has expired (R220): stand_ms has passed since the accept tick of the last valid edge, or since the
code was taken. A valid edge accepted in the tick of the expiry has started the time anew. -/
def State.standstillDue (s : State) : Bool :=
  decide (100000 * s.rd MOT_TMO_stand_ms ≤ s.clk.tick - s.motor.standFrom)

/-- STANDSTILL_TIMEOUT (R219, R220). -/
def execStandstillTimeout (s : State) : Host.Outcome State Fault Refusal :=
  let st := s.rd MOT_STATUS_state
  .next (doIf (s.timingLive && (st == 2 || st == 3 || st == 4) && s.standstillDue) (fun t =>
    ((((t.put MOT_STATUS_state 1).modMotor (fun m => { m with hold := none, sEdge := 0 })).bump MOT_ERR_B_stand_ct
      1).refreshMotor).motorEvents [2]) s)

/-! ## Speed-error export, registers, reset (R214, R237, R239, R246) -/

/-- Ticks of the running period of MOT_SERR that have passed (R239): a period has 2,048 ticks. DESIGN CHOICE (log 118): the first
period begins where the interface leaves reset. -/
def State.serrPhase (s : State) : Nat := (s.clk.tick - s.motor.serrFrom) % 2048

/-- The high time that the error gives (R239). -/
def State.serrHigh (s : State) : Nat :=
  (clampInt 0 2047 (1024 + s.rdInt MOT_SERR_err * s.rd MOT_SERR_CFG_gain / 16)).toNat

/-- SERR_PWM_PERIOD (R239): acts in the tick that begins a period. -/
def execSerrPwmPeriod (s : State) : Host.Outcome State Fault Refusal :=
  .next (doIf (s.timingLive && decide (s.serrPhase = 0)) (fun t => t.put MOT_SERR_high t.serrHigh) s)

/-- The shot engine is IDLE (R151). -/
def State.engineIdle (s : State) : Bool := s.rd SHT_STATUS_state == 0

/-- Acquisition is lost (R214, R237): NO_CODE, not aligned, the ready bit cleared. DESIGN CHOICE (log 123): the alignment offset stays,
and goes on counting until the next alignment replaces it (R235). -/
def State.dropMotor (s : State) : State :=
  (((s.put MOT_STATUS_state 0).putB MOT_STATUS_aligned false).modMotor (fun m => { m with
    code := none, everCode := false, hasEdge := false, sEdge := 0, hold := none, prevAngle := none, fwdCount := 0 })
      ).setReady GLB_READY_motor false

/-- Acquisition starts again after a write of MOT_CFG (R237). -/
def State.restartMotor (s : State) : State := s.dropMotor.showMotor

/-- The interface goes into reset with the timing PLL (R214): no speed, no valid angle, no permit, its filters without levels; the
angle that it showed and the speed error stay (R437). -/
def State.resetMotor (s : State) : State :=
  (((((s.dropMotor.put MOT_STATUS_code 0).putB MOT_ANGLE_valid false).putB MOT_STATUS_ang_valid false).putInt MOT_SPEED_spd
    0).putB MOT_STATUS_permit false).modMotor (fun m => { m with idxLevel := none, lines := none, serrFrom := s.clk.tick })

/-- Between ticks a valid filtered code is taken while none is held (R217). -/
def State.takeHeldCode (s : State) : State :=
  match s.motor.code, hallPos (BitVec.ofNat 3 (s.rd MOT_STATUS_code)) with
  | none, some p => s.takeCode (BitVec.ofNat 3 (s.rd MOT_STATUS_code)) p
  | _, _ => s

/-- A direct write of MOT_CFG (R237). While the timing domain has no clock the interface is in reset and holds what it shows
(R437, R590): the register alone takes the value. -/
def State.motCfgWrite (s : State) (q : Src) (value : Word) : State :=
  if s.engineIdle then
    doIf s.timingLive (fun t => t.restartMotor)
      ((s.put MOT_CFG_rev (MOT_CFG_rev.get value)).put MOT_CFG_pp (MOT_CFG_pp.get value))
  else s.refuseWrite q MOT_CFG

/-- MOT_CFG_WRITE (R237). -/
def execMotCfgWrite (q : Src) (value : Word) (s : State) : Host.Outcome State Fault Refusal :=
  .next (doIf (s.serves q) (fun t => t.motCfgWrite q value) s)

/-- MOT_STATUS_READ (R246): status, speed, period, angle and round are taken together for the requester. -/
def State.motStatusRead (s : State) (q : Src) : State :=
  s.modReq q (fun r => { r.got (s.reg MOT_STATUS) with
    mot := some [s.reg MOT_STATUS, s.reg MOT_SPEED, s.reg MOT_PERIOD, s.reg MOT_ANGLE, s.reg MOT_ROUND] })

/-- MOT_STATUS_READ (R246). -/
def execMotStatusRead (q : Src) (s : State) : Host.Outcome State Fault Refusal :=
  .next (doIf (s.serves q) (fun t => t.motStatusRead q) s)

end Sys2Proof.Machine
end

