-- ==== Sys2Proof/Machine/Emission.lean ====
section
/-! DEFINITION. Laser charge control and emission budget (spec/05_laser_charge_and_emission_budget.md R175 to R195):
charge controllers, comparators, window monitors, the eye-safety accountant, the laser permit, the lock of the eye-safety
set. -/

namespace Sys2Proof.Machine

/-! ## Charge controllers (R175 to R180) -/

/-- The state of controller e (R199): 0 OFF, 1 WAIT_CMP, 2 CHARGING, 3 DONE, 4 REST, 5 FAILED. -/
def State.chgState (s : State) (e : Nat) : Nat := s.rd (CHG_STAT_state e)

/-- Put controller e into a state; charge_done is 1 in DONE alone (R179). -/
def State.setChgState (s : State) (e st : Nat) : State :=
  (s.put (CHG_STAT_state e) st).putB (CHG_STAT_done e) (st == 3)

/-- CHARGING is entered: the deadline starts (R179, R180). -/
def State.startCharging (s : State) (e : Nat) : State :=
  (s.setChgState e 2).modChg e (fun g => { g with timedOut := false })

/-- The target code of level l (R178, R198). -/
def State.levelCode (s : State) (e l : Nat) : Nat :=
  [s.rd (CHG_LVL_A_lvl_lo e), s.rd (CHG_LVL_A_lvl_mid e), s.rd (CHG_LVL_A_lvl_hi e), s.rd (CHG_LVL_B_lvl_lo e),
    s.rd (CHG_LVL_B_lvl_mid e), s.rd (CHG_LVL_B_lvl_hi e), s.rd (CHG_LVL_C_lvl_lo e), s.rd (CHG_LVL_C_lvl_mid e)].getD l 0

/-- The code of DAC d changes while the housekeeping bank reads that DAC back (R188). -/
def State.dacChanges (s : State) (d : Nat) (changed : Bool) : State :=
  doIf (changed && decide (s.hk.urgNow = some (.readback d))) (fun t => t.modHk (fun h => { h with rbChanged := true })) s

/-- CHARGE_TARGET_LOAD (R178, R179, R190): a code higher than the one reached takes a controller from DONE to CHARGING. -/
def State.loadTarget (s : State) (e code : Nat) : State :=
  doIf (s.chgState e == 3 && decide ((s.chg e).reached < code)) (fun t => t.startCharging e)
    ((s.dacChanges e (decide ((s.chg e).target ≠ code))).modChg e (fun g => { g with
      target := code, highest := max g.highest code, nextTarget := none }))

/-- The engine comes to hold a shot of emitter e: its target is loaded now, or at the firing where the shot committed in
this tick fires e (R178). -/
def State.holdShot (s : State) (e level : Nat) : State :=
  if (s.emit e).committed then s.modChg e (fun g => { g with nextTarget := some (s.levelCode e level) })
  else s.loadTarget e (s.levelCode e level)

/-- The pulse of a firing (R147): from the trigger instant plus the emitter's skew on, pw coarse periods long. The edge lies on
the coarse-clock edge at or before that instant plus a fine delay of 0 to 79 LSB. -/
def State.emitPulse (s : State) (e : Nat) : Int × Int :=
  let t := ((s.emit e).trig : Int) + s.rdInt (EMT_SKEW_skew e)
  (t, t + lsbCoarse * s.rd (EMT_CFG_pw e))

/-- The switch of a controller turns off in a tick. -/
def Chg.off (g : Chg) (now : Nat) : Chg := { g with gate := false, offAt := if g.gate then some now else g.offAt }

/-- A committed emitter fires: its pulse is placed, its controller enters REST and takes a target that waited (R147, R174, R178,
R179, R184, R188, R190). DESIGN CHOICE (log 122): a shot counts as a firing whatever the output buffers' gates are, and every st_every
firings are counted from reset. -/
def State.fire (s : State) (e : Nat) : State :=
  let g := s.chg e
  let target := g.nextTarget.getD g.target
  let s1 := ((s.dacChanges e (decide (g.target ≠ target))).modEmit e (fun m => { m with
    committed := false, pulse := some (s.emitPulse e) })).wrapInc (EMT_FIRED_fired e)
  if s.chgState e = 2 ∨ s.chgState e = 3 then
    (s1.setChgState e 4).modChg e (fun h => { h.off s.clk.tick with
      target := target, nextTarget := none, highest := target, firings := h.firings + 1
      stDue := (h.firings + 1) % max 1 (s.rd (CHG_CFG_st_every e)) == 0 })
  else s1.modChg e (fun h => { h with target := target, nextTarget := none, highest := target })

/-- EMITTER_FIRE (R147). -/
def execEmitterFire (e : EmitId) (s : State) : Host.Outcome State Fault Refusal :=
  .next (doIf (s.timingLive && (s.emit e).committed) (fun t => t.fire e) s)

/-- A switching cycle of controller e in ticks (R175). -/
def State.cycleTicks (s : State) (e : Nat) : Nat := max 50 (s.rd (CHG_CFG_period e))

/-- A switching cycle may begin (R175): the one before began a cycle ago, and the switch has been off for 50 ns. -/
def State.cycleFree (s : State) (e : Nat) : Bool :=
  !(s.chg e).gate && (s.chg e).cycleAt.all (fun t => decide (t + s.cycleTicks e ≤ s.clk.tick))
  && (s.chg e).offAt.all (fun t => decide (t + 5 ≤ s.clk.tick))

/-- A switching cycle begins. -/
def State.startCycle (s : State) (e : Nat) : State :=
  s.modChg e (fun g => { g with gate := true, cycleAt := some s.clk.tick })

/-- CHARGE_CYCLE_START (R175): in CHARGING, with both comparators valid, the switch turns on. -/
def execChargeCycleStart (e : EmitId) (s : State) : Host.Outcome State Fault Refusal :=
  .next (doIf (s.timingLive && s.chgState e == 2 && (s.chg e).cmpValid && s.cycleFree e) (fun t => t.startCycle e) s)

/-- The switch of controller e turns off. -/
def State.gateOff (s : State) (e : Nat) : State := s.modChg e (fun g => g.off s.clk.tick)

/-- Ticks since the running cycle of controller e began. -/
def State.cycleAge (s : State) (e : Nat) : Nat := s.clk.tick - (s.chg e).cycleAt.getD 0

/-- CURRENT_LIMIT_TRIP (R176): after the blanking. -/
def execCurrentLimitTrip (e : EmitId) (s : State) : Host.Outcome State Fault Refusal :=
  .next (doIf (s.timingLive && (s.chg e).gate && decide (s.rd (CHG_CFG_leb e) ≤ s.cycleAge e)) (fun t => t.gateOff e) s)

/-- CYCLE_END_SWITCH_OFF (R176): at the end of the cycle less 50 ns. -/
def execCycleEndSwitchOff (e : EmitId) (s : State) : Host.Outcome State Fault Refusal :=
  .next (doIf (s.timingLive && (s.chg e).gate && decide (s.cycleTicks e ≤ s.cycleAge e + 5)) (fun t => t.gateOff e) s)

/-- CHARGE_DONE (R179). -/
def execChargeDone (e : EmitId) (s : State) : Host.Outcome State Fault Refusal :=
  .next (doIf (s.timingLive && s.chgState e == 2)
    (fun t => (t.setChgState e 3).modChg e (fun g => { g.off t.clk.tick with reached := g.target })) s)

/-- TOP_UP (R175, R179): one switching cycle in DONE. -/
def execTopUp (e : EmitId) (s : State) : Host.Outcome State Fault Refusal :=
  .next (doIf (s.timingLive && s.chgState e == 3 && s.cycleFree e)
    (fun t => (t.bump (CHG_STAT_topup e) 1).startCycle e) s)

/-- REST_END (R179): after the self-test slot, when one is due. -/
def execRestEnd (e : EmitId) (s : State) : Host.Outcome State Fault Refusal :=
  .next (doIf (s.timingLive && s.chgState e == 4 && !(s.chg e).stDue) (fun t => t.startCharging e) s)

/-- CHARGE_TIMEOUT (R180). -/
def execChargeTimeout (e : EmitId) (s : State) : Host.Outcome State Fault Refusal :=
  .next (doIf (s.timingLive && s.chgState e == 2 && s.flag (CHG_LIM_tmo e) && !(s.chg e).timedOut) (fun t =>
    let t1 := (t.bump (CHG_STAT_tmo_ct e) 1).modChg e (fun g => { g with timedOut := true })
    (t1.post 0x30 3 e [t1.reg (CHG_STAT e)]).detect 0x05 3 e 0 0 (elemChg e)) s)

/-- Controller e fails (R179): it stays there until device reset. -/
def State.failChg (s : State) (e : Nat) : State := (s.setChgState e 5).gateOff e

/-- Monitor m changes its state (R185): each change out of IN counts and posts WMN_EXIT with the filtered input in mV. -/
def State.monState (s : State) (m st mv : Nat) : State :=
  doIf (s.rd (WMN_STAT_state m) == 0 && st != 0)
    (fun t => (t.bump (WMN_STAT_exits m) 1).post 0x31 4 m [w32 st, w32 mv]) (s.put (WMN_STAT_state m) st)

/-- Monitor m changes its state without a new level: WMN_EXIT gives the filtered input of the instant, a free value (log 109). -/
def State.monLeaves (s : State) (m st : Nat) : State :=
  let w := s.takeFreeWord
  w.2.monState m st (bitsOf w.1 0 16)

/-- Monitor m fails (R186). -/
def State.failMon (s : State) (m : Nat) : State := s.monLeaves m 3

/-- CHG_CFG.en as applied (R179): OFF to WAIT_CMP, or to OFF; FAILED stays. -/
def State.applyChg (s : State) (e : Nat) : State :=
  if s.chgState e = 5 then s
  else if s.flag (CHG_CFG_en e) then
    if s.chgState e = 0 then (s.setChgState e 1).modChg e (fun g => { g with cmpValid := false, stDue := false }) else s
  else if s.chgState e = 0 then s
  else (s.setChgState e 0).modChg e (fun g => { g.off s.clk.tick with cmpValid := false })

/-- WMN_CFG.en as applied (R182, R185): a monitor that is off is UNKNOWN; FAILED stays. -/
def State.applyMon (s : State) (m : Nat) : State :=
  if s.flag (WMN_CFG_en m) || s.rd (WMN_STAT_state m) == 3 then s
  else (s.monLeaves m 4).modMon m (fun g => { g with cmpValid := false })

/-! ## Comparators (R181 to R184) -/

/-- The first step of a slot that fails, or none (R183). -/
def CmpSlotFails (c : CmpSlot) : Option Nat :=
  if !c.step0 then some 0
  else if c.step1 then some 1
  else if c.liveBefore == c.liveAfter && c.swapped == c.liveBefore then some 2
  else none

/-- A failed slot counts once; each comparator that failed gives a detection (R183, R555). -/
def State.slotFailed (s : State) (b : CmpBlock) (x y : CmpSlot) : State :=
  let steps := (CmpSlotFails x).toList ++ (CmpSlotFails y).toList
  match b with
  | .chg e => forAll steps (fun t n => t.detect 0x0C 3 e 0 n (elemChg e)) (s.bump (CHG_ST_st_fail e) 1)
  | .wmn m => forAll steps (fun t n => t.detect 0x0C 4 m 0 n (elemMon m)) (s.bump (WMN_STAT_st_fail m) 1)

/-- Both comparators passed the slot. -/
def slotPasses (x y : CmpSlot) : Bool := (CmpSlotFails x).isNone && (CmpSlotFails y).isNone

/-- The block waits for its comparators to become valid (R182). -/
def State.awaitsCmp (s : State) : CmpBlock → Bool
  | .chg e => s.chgState e == 1
  | .wmn m => s.flag (WMN_CFG_en m) && !(s.mon m).cmpValid && s.rd (WMN_STAT_state m) != 3

/-- COMPARATOR_SETTLE_END (R182): a slot that passes makes both comparators valid, and a controller starts to charge. -/
def execComparatorSettleEnd (b : CmpBlock) (first second : CmpSlot) (s : State) : Host.Outcome State Fault Refusal :=
  .next (doIf (s.timingLive && s.awaitsCmp b) (fun t =>
    if slotPasses first second then
      match b with
      | .chg e => ((t.bump (CHG_ST_st_pass e) 1).modChg e (fun g => { g with cmpValid := true })).startCharging e
      | .wmn m => t.modMon m (fun g => { g with cmpValid := true })
    else t.slotFailed b first second) s)

/-- A periodic slot of the block may run (R184): in REST after every st_every-th firing, or on a valid monitor. -/
def State.slotDue (s : State) : CmpBlock → Bool
  | .chg e => s.chgState e == 4 && (s.chg e).stDue
  | .wmn m => s.flag (WMN_CFG_en m) && (s.mon m).cmpValid && s.rd (WMN_STAT_state m) != 3

/-- COMPARATOR_SELF_TEST (R183, R184). -/
def execComparatorSelfTest (b : CmpBlock) (first second : CmpSlot) (s : State) : Host.Outcome State Fault Refusal :=
  .next (doIf (s.timingLive && s.slotDue b) (fun t =>
    let t1 := match b with
      | .chg e => t.modChg e (fun g => { g with stDue := false })
      | .wmn _ => t
    if slotPasses first second then
      match b with
      | .chg e => t1.bump (CHG_ST_st_pass e) 1
      | .wmn _ => t1
    else t1.slotFailed b first second) s)

/-! ## Window monitors (R185) -/

/-- The state code of a level (R205). -/
def MonLevelCode : MonLevel → Nat
  | .inside => 0
  | .low => 1
  | .high => 2

/-- WINDOW_MONITOR_CHANGE (R185): the level has held for at least filt ticks. -/
def execWindowMonitorChange (m : MonId) (level : MonLevel) (held : Nat) (mv : BitVec 16) (s : State) :
    Host.Outcome State Fault Refusal :=
  let old := s.rd (WMN_STAT_state m)
  .next (doIf (s.timingLive && s.flag (WMN_CFG_en m) && (s.mon m).cmpValid && old != 3 && old != MonLevelCode level
      && decide (s.rd (WMN_CFG_filt m) ≤ held)) (fun t =>
    t.monState m (MonLevelCode level) mv.toNat) s)

/-! ## Eye-safety accountant (R189 to R193, R213) -/

/-- The energy of a firing at code v in nJ (R189). -/
def State.shotEnergy (s : State) (e v : Nat) : Nat :=
  ceilDiv (s.rd (EYE_CAP_cap e) * (v * s.rd (EYE_CAP_ratio e)) * (v * s.rd (EYE_CAP_ratio e))) 20000000000

/-- The energy of the next firing of emitter e: at the highest target that it has held since it last fired (R190). -/
def State.nextEnergy (s : State) (e : Nat) : Nat := s.shotEnergy e (max (s.chg e).highest (s.chg e).target)

/-- The direction class of the present angle (R192). -/
def State.direction (s : State) : Nat := s.rd MOT_ANGLE_angle / 256 / 512 % (128 / 2 ^ s.rd SHT_CFG_fct)

/-- The energy bins of a direction class. -/
def State.classBins (s : State) (q : Nat) : List Nat := sparseGet (fun _ => List.replicate 17 0) s.classes q

/-- Add energy to the current bin. -/
def addBin (bins : List Nat) (n : Nat) : List Nat := bins.set 0 (bins.getD 0 0 + n)

/-- A bin ends and a new one begins; the window keeps the 16 preceding bins (R191). -/
def rollBins (bins : List Nat) : List Nat := 0 :: bins.take 16

/-- The first limit that the next firing of emitter e would break (R193). -/
def State.vetoOf (s : State) (e : Nat) : Option FRef :=
  let n := s.nextEnergy e
  if s.rd EYE_LIM_1MS_lim < (s.emit e).bins1.sum + n then some EYE_VETO_w1
  else if s.rd EYE_LIM_100MS_lim < (s.emit e).bins100.sum + n then some EYE_VETO_w100
  else if s.rd EYE_LIM_SEC_lim < (s.classBins s.direction).sum + n then some EYE_VETO_sec
  else none

/-- A window sum as a percentage of its limit (R213). -/
def peakPercent (sum lim : Nat) : Nat := if lim = 0 then (if sum = 0 then 0 else 255) else min 255 (100 * sum / lim)

/-- EYE_PEAK keeps the highest window sums (R213). -/
def State.showPeaks (s : State) : State :=
  let top := fun (l : List Nat) => l.foldl max 0
  ((s.raise EYE_PEAK_w1 (peakPercent (top (emitterNos.map (fun e => (s.emit e).bins1.sum))) (s.rd EYE_LIM_1MS_lim))).raise
    EYE_PEAK_w100 (peakPercent (top (emitterNos.map (fun e => (s.emit e).bins100.sum))) (s.rd EYE_LIM_100MS_lim))).raise
      EYE_PEAK_sec (peakPercent (top (s.classes.map (fun p => p.2.sum))) (s.rd EYE_LIM_SEC_lim))

/-- An approval charges the three current bins at once (R144, R193). -/
def State.charge (s : State) (e : Nat) : State :=
  let n := s.nextEnergy e
  let q := s.direction
  ((s.modEmit e (fun m => { m with bins1 := addBin m.bins1 n, bins100 := addBin m.bins100 n })).setClass q
    (addBin (s.classBins q) n)).showPeaks

/-- The running bins, which began in the tick last, end in this tick: the count of ticks since the first lock is a multiple of their
length (R191). -/
def State.binEnds (s : State) (length last : Nat) : Bool :=
  s.timingLive && decide (s.clk.tick % length = 0) && decide (last < s.clk.tick)

/-- The 6.25 ms bins of emitters and classes roll, where they end in this tick and have not rolled (R191). -/
def State.rollLong (s : State) : State :=
  doIf (s.binEnds 625000 s.eye.roll100) (fun t =>
    forAll (t.classes.map (·.1)) (fun u q => u.setClass q (rollBins (u.classBins q)))
      (forAll emitterNos (fun u e => u.modEmit e (fun m => { m with bins100 := rollBins m.bins100 }))
        (t.modEye (fun y => { y with roll100 := t.clk.tick })))) s

/-- The 62.5 µs bins roll, where they end in this tick and have not rolled (R191). -/
def State.rollShort (s : State) : State :=
  doIf (s.binEnds 6250 s.eye.roll1) (fun t =>
    forAll emitterNos (fun u e => u.modEmit e (fun m => { m with bins1 := rollBins m.bins1 }))
      (t.modEye (fun y => { y with roll1 := t.clk.tick }))) s

/-- ACCOUNTANT_BIN_ROLL (R191): the 62.5 µs bins, or the 6.25 ms bins of emitters and classes. -/
def execAccountantBinRoll (long : Bool) (s : State) : Host.Outcome State Fault Refusal :=
  .next (if long then s.rollLong else s.rollShort)

/-- An uncorrectable error in the accountant's bin memory withdraws the permit until device reset (R193). -/
def State.accountantEcc (s : State) (ecc : Ecc) : State :=
  doIf (eccBad ecc) (fun t =>
    (t.modEye (fun x => { x with binEccBad := true })).log 0x0A 5 0 0 0 0 0) s

/-! ## The laser permit (R194) -/

/-- The conditions of the permit, in the order of their bits (R194). -/
def State.permitConditions (s : State) : List Bool :=
  [s.flag CLK_STAT_refclk,
   s.rd EYE_LOCK_state == 1,
   s.speedPermit,
   s.flag SAF_STAT_len_drv && s.flag SAF_STAT_len_rb,
   (List.range 4).all (fun m => !s.flag (WMN_CFG_permit m) || s.rd (WMN_STAT_state m) == 0),
   !s.eye.binEccBad,
   s.flag GLB_READY_tpll]

/-- The laser permit is present (R194). -/
def State.permitNow (s : State) : Bool := s.permitConditions.all id

/-- The cause field: bit n is 1 while condition n fails (R194, R211). -/
def State.permitCause (s : State) : Nat := (s.permitConditions.zipIdx.map (fun p => if p.1 then 0 else 2 ^ p.2)).sum

/-- EYE_STAT follows the permit; each change posts PERMIT, each withdrawal is counted (R194, R428). -/
def State.showPermit (s : State) : State :=
  let was := s.flag EYE_STAT_permit
  let now := s.permitNow
  let s1 := (s.put EYE_STAT_cause s.permitCause).putB EYE_STAT_permit now
  doIf (was != now) (fun t => (doIf was (fun u => u.bump EYE_STAT_wd_ct 1) t).post 0x14 0 0
    [w32 (now.toNat + 2 * s.permitCause)]) s1

/-! ## The lock of the eye-safety set (R195, R646) -/

/-- The 37 registers of the locked set in ascending address order (R646). -/
def State.eyeWords (s : State) : List Word := (List.range 37).map (fun i => s.reg (0x7800 + 4 * i))

/-- The CRC-16 of the locked set (R646). -/
def eyeCrc (ws : List Word) : BitVec 16 := crc16 (wordsBytes ws)

/-- Writes of the locked set are accepted: BLANK, from PF1 or SPI, the shot engine IDLE (R195). -/
def State.eyeWritable (s : State) (q : Src) : Bool :=
  s.rd EYE_LOCK_state == 0 && decide (q ≠ .pf0) && s.engineIdle

/-- A key write (R195): 0x4B starts the sequence, 0xB4 completes it, any other key breaks it; none is accepted during a burn.
DESIGN CHOICE (log 110): the set as it stands when the sequence completes is the one that is burned. -/
def State.eyeKey (s : State) (q : Src) (value : Word) : State :=
  let key := EYE_LOCK_key.get value
  if s.eyeWritable q && !s.eye.burning then
    if key = 0x4B then s.modEye (fun x => { x with armed := true })
    else if key = 0xB4 ∧ s.eye.armed then s.modEye (fun x => { x with armed := false, burning := true, burnSet := s.eyeWords })
    else s.modEye (fun x => { x with armed := false })
  else s.refuseWrite q EYE_LOCK

/-- EYE_LOCK_KEY (R195). -/
def execEyeLockKey (q : Src) (value : Word) (s : State) : Host.Outcome State Fault Refusal :=
  .next (doIf (s.serves q) (fun t => t.eyeKey q value) s)

/-- EYE_LOCK_KEY_TIMEOUT (R195). -/
def execEyeLockKeyTimeout (s : State) : Host.Outcome State Fault Refusal :=
  .next (doIf s.fabricLive (fun t => t.modEye (fun x => { x with armed := false })) s)

/-- EYE_LOCK_BURN_DONE (R195). -/
def execEyeLockBurnDone (s : State) : Host.Outcome State Fault Refusal :=
  .next (doIf (s.fabricLive && s.eye.burning) (fun t =>
    (((t.modEye (fun x => { x with burning := false })).modOtp (fun x =>
      { x with eye := some (t.eye.burnSet, eyeCrc t.eye.burnSet) })).put EYE_LOCK_crc (eyeCrc t.eye.burnSet).toNat).put
        EYE_LOCK_state 1) s)

/-- EYE_LOCK_LOAD at power-up (R195): the burned set and its CRC; a mismatch gives CRC_BAD. -/
def State.loadEye (s : State) : State :=
  match s.otp.eye with
  | none => s
  | some (ws, crc) =>
    ((forAll ws.zipIdx (fun t p => t.setReg (0x7800 + 4 * p.2) p.1) s).put EYE_LOCK_crc crc.toNat).put EYE_LOCK_state
      (if eyeCrc ws = crc then 1 else 2)

end Sys2Proof.Machine
end

