-- ==== Sys2Proof/Machine/Window.lean ====
section
/-! DEFINITION. One window of a crate (spec/03_time_measurement.md R84 to R103, spec/02_receiver_front_end.md R33 to R50):
calibration, start, blanking, crossings, the charge path, the TDC-to-Churn FIFO. -/

namespace Sys2Proof.Machine

/-! ## Slices (R84 to R96, R107) -/

/-- The role of slice i of crate c (R123): 0 SERVE, 1 FREE, 2 SHADOW, 3 STANDIN, 4 SUBSTITUTE, 5 SUSPECT, 6 RETIRED,
7 CALIB. -/
def State.role (s : State) (c i : Nat) : Nat := s.rd (TDC_STATE_role c i)

/-- The crate's dwell that was committed last. -/
def Crate.lastDwell (k : Crate) : Option Dwell := k.dwellNext <|> k.dwell

/-- Change the dwell that was committed last. -/
def Crate.modLast (k : Crate) (f : Dwell → Dwell) : Crate :=
  match k.dwellNext with
  | some d => { k with dwellNext := some (f d) }
  | none => { k with dwell := k.dwell.map f }

/-- The dwell behind the one that still closes has had its first pre-window. -/
def Crate.nextOpened (k : Crate) : Bool := k.dwellNext.any (fun d => d.opened)

/-- The dwell that the crate's present window belongs to: a dwell takes over with its first pre-window, so a last window that
still waits for its start keeps its own (R22, R85). -/
def Crate.openDwell (k : Crate) : Option Dwell := if k.nextOpened then k.dwellNext else k.dwell

/-- Change the dwell that the crate's present window belongs to. -/
def Crate.modOpen (k : Crate) (f : Dwell → Dwell) : Crate :=
  if k.nextOpened then { k with dwellNext := k.dwellNext.map f } else { k with dwell := k.dwell.map f }

/-- A field that the crate reads for its open dwell (R22). -/
def State.cfgRd (s : State) (c : Nat) (f : FRef) : Nat :=
  match (s.crate c).openDwell with
  | some d => d.rd f
  | none => s.rd f

/-- The open dwell goes on under the tables of its first shot, which a boundary has replaced since (R22, R94, R105). -/
def Crate.oldTables (k : Crate) : Bool := k.openDwell.any (fun d => d.oldTab)

/-- The width table that slice i uses in the open dwell (R22, R94). -/
def State.widths (s : State) (c i : Nat) : List Nat :=
  if (s.crate c).oldTables then (s.slice c i).oldWidth else (s.slice c i).width

/-- The charge coefficients that slice i uses in the open dwell (R22, R105). -/
def State.coeffs (s : State) (c i : Nat) : Nat × Int :=
  if (s.crate c).oldTables then ((s.slice c i).oldGain, (s.slice c i).oldOff)
  else (s.rd (TDC_QCAL_q_gain c i), s.rdInt (TDC_QCAL_q_off c i))

/-- Twice the corrected position of code d under a width table, in 1/8192 tap (R92). -/
def pos2 (u : List Nat) (d : Nat) : Nat := 2 * (u.take d).sum + u.getD d 0

/-- The time from an edge to its capture, in 1/16 LSB, halves up (R95). -/
def State.edgeToCapture (s : State) (c i d : Nat) : Nat :=
  (80 * (32 * s.rd (TDC_CAL_ins_est c i) + pos2 (s.widths c i) d) + s.rd (TDC_CAL_p_est c i)) / (2 * s.rd (TDC_CAL_p_est c i))

/-- The stamp of a captured edge from E0, in 1/16 LSB (R95). -/
def State.stamp (s : State) (c i : Nat) (cap : Capture) : Int := 1280 * cap.k - s.edgeToCapture c i cap.d

/-- The route-skew correction of a slice for a channel, in 1/16 LSB: the spare's only (R96). -/
def skewOf (c i k : Nat) : Int := if i = 16 then Config.routeSkew c k else 0

/-- A calibration is accepted (R89). -/
def calAccepted (m : RingCal) : Bool :=
  decide (96 + m.n1 ≤ m.n2) && decide (m.n2 ≤ 156 + m.n1) && decide (2 * m.n1 ≤ m.n2) && decide (m.n2 ≤ 40 + 2 * m.n1)

/-- An estimate in 1/256 tap moved by an accepted measurement in taps (R89). -/
def calStep (est meas avg : Nat) : Nat := (roundDiv ((est : Int) * 2 ^ avg + (256 * meas - est)) (2 ^ avg)).toNat

/-- An accepted calibration updates the estimates; the first after a relock replaces them (R83, R89). A run of rejected
ones that it ends is one detection (R90). -/
def State.calAccept (s : State) (c i : Nat) (m : RingCal) : State :=
  let avg := if (s.slice c i).firstCal then 0 else s.cfgRd c (CRT_TDC_CFG_cal_avg c)
  let run := s.rd (TDC_CAL_STAT_bad_run c i)
  let s1 := (((s.put (TDC_CAL_p_est c i) (calStep (s.rd (TDC_CAL_p_est c i)) (m.n2 - m.n1) avg)).put (TDC_CAL_ins_est c i)
    (calStep (s.rd (TDC_CAL_ins_est c i)) (m.n2 - 2 * m.n1) avg)).put (TDC_CAL_STAT_bad_run c i) 0).modSlice c i
      (fun v => { v with firstCal := false })
  doIf (decide (1 ≤ run) && decide (run ≤ 7)) (fun t => t.detect 0x01 1 c i 1 (elemSlice c i)) s1

/-- A calibration that is not accepted, or gives no measurement (R90). -/
def State.calReject (s : State) (c i : Nat) : State :=
  let run := s.rd (TDC_CAL_STAT_bad_run c i)
  let s1 := (s.bump (TDC_CAL_STAT_rej_ct c i) 1).put (TDC_CAL_STAT_bad_run c i) (min 8 (run + 1))
  doIf (run == 7) (fun t => t.detect 0x02 1 c i 0 (elemSlice c i)) s1

/-- One calibration of one slice (R87 to R90). -/
def State.calibrate (s : State) (c i : Nat) (m : Option RingCal) : State :=
  match m with
  | none => s.calReject c i
  | some m => if calAccepted m then s.calAccept c i m else s.calReject c i

/-- The slice calibrates in the pre-window: it is not retired, and no tie-break took its channel out (R87, R112). -/
def State.calibrates (s : State) (c i : Nat) : Bool :=
  s.role c i != 6 && !(decide (i < 16) && (s.chan c i).remTie)

/-- The calibrations of a pre-window, or their skip (R87, R91). -/
def State.calibrateAll (s : State) (c : Nat) (skip : Bool) (cals : List (Option RingCal)) : State :=
  forAll (sliceNos.filter (fun i => s.calibrates c i)) (fun t i =>
    if skip then t.bump (TDC_CAL_STAT_skip_ct c i) 1 else t.calibrate c i (cals.getD i none)) s

/-! ## Pre-window and start -/

/-- PRE_WINDOW_OPEN (R58, R87, R91): the channels of the dwell go to PRE, the converters start up, the slices calibrate; the
first window after a large step of a channel's bias marks its events (R53). -/
def State.openWindow (s : State) (c : Nat) (w : Win) (cals : List (Option RingCal)) : State :=
  let skip := match (s.crate c).lastClose with
    | none => false
    | some t => decide (w.trig - lsbPre < t + 160)
  let e0 := coarseEdge (w.trig - lsbPre)
  let part := match (s.crate c).lastDwell with
    | none => 0
    | some d => d.part
  (forAll chanNos (fun t k => t.modChan c k (fun h => if part.getLsbD k then { h with
      st := .pre, converterOn := true, stops := 0, preStops := [], winCross := 0
      winSettle := h.markSettle, markSettle := false } else { h with markSettle := false }))
    (forAll sliceNos (fun t i => t.modSlice c i (fun v => { v with start := none }))
      (s.modCrate c (fun k => { k.modLast (fun d => { d with opened := true }) with
        armNext := none
        win := some { w with e0 := e0, accept := if skip then e0 else e0 + 800 } })))).calibrateAll c skip cals

/-- PRE_WINDOW_OPEN (R58). DESIGN CHOICE (log 102): while the crate's window before it still waits for its start, the pre-window
does not open and its repeat has no window; R85 does not say what two windows at once do. -/
def execPreWindowOpen (c : CrateId) (cals : List (Option RingCal)) (s : State) : Host.Outcome State Fault Refusal :=
  .next (match (s.crate c).armNext, (s.crate c).win with
  | some w, none => doIf s.timingLive (fun t => t.openWindow c w cals) s
  | _, _ => s)

/-! ## Events into the FIFO (R102, R103) -/

/-- Write an entry into the crate's FIFO and keep its highest occupancy, 0 to 256 (R102, R103, R115). DESIGN CHOICE (log 103):
a marker is never refused, so where more than two wait the FIFO holds more than its 256 entries. The mark holds while the timing domain
has no clock and while the crate is OFF (R437, R611). -/
def State.fifoPut (s : State) (c : Nat) (x : FifoItem) : State :=
  let s1 := s.modCrate c (fun k => { k with fifo := k.fifo ++ [x] })
  doIf (s.timingLive && s.cratePowered c) (fun t => t.raise (CRT_EVF_STAT_hwm c) (min 256 (t.crate c).fifo.length)) s1

/-- Event entries that the FIFO takes beside its two reserved ones (R102). -/
def fifoEvents : Nat := 254

/-- An entry of the FIFO is an event. -/
def FifoItem.isEvent (x : FifoItem) : Bool :=
  match x with
  | .event _ => true
  | .windowClose _ _ => false
  | .dwellClose _ => false

/-- The FIFO takes a further event: the 254 event entries are not full (R102, R103). DESIGN CHOICE (log 103): a marker beyond the
two reserved entries takes an event entry. -/
def Crate.takesEvent (k : Crate) : Bool :=
  decide (k.fifo.countP FifoItem.isEvent < fifoEvents) && decide (k.fifo.length < 256)

/-- An event goes into the FIFO, or is dropped and marked in the lost mask (R103). -/
def State.pushEvent (s : State) (c : Nat) (e : Evt) : State :=
  if (s.crate c).takesEvent then s.fifoPut c (.event e)
  else (s.bump (CRT_EVF_STAT_drop_ct c) 1).modCrate c (fun k => { k with lost := k.lost ||| (1#16 <<< e.chan) })

/-- The position of the event that opened the last gate (R46). -/
def lastOwner (l : List Pend) : Option Nat := (l.zipIdx.filter (fun p => p.1.owner)).getLast?.map (·.2)

/-- The window whose events go next belongs to the dwell behind the one that still closes: they wait for that one's marker
(R102, R260). -/
def Crate.nextsTurn (k : Crate) : Bool :=
  match k.closing with
  | m :: _ => m.ofNext
  | [] => k.nextOpened

/-- An event that its window's close has left age windows behind may go: the markers of the windows before its own are written, and
so is the marker of the dwell before its own (R102). -/
def Crate.mayPass (k : Crate) (age : Nat) : Bool := decide (k.closing.length ≤ age) && !k.nextsTurn

/-- A later crossing can still merge with the channel's first event: it holds the path, and its dwell has not ended (R48). DEDUCED
(log 48): once its dwell's last main window has closed and its conversion is done the dwell closes (R31), so it waits no longer. -/
def Chan.heldBack (h : Chan) (k : Crate) : Bool :=
  decide (lastOwner h.pend = some 0) && (h.hold.isSome || h.resetting) && !k.dwell.any (fun d => d.ended)

/-- The channel's first waiting event may be written: its code stands, it is its turn, and no later crossing can merge with it
(R48, R102). -/
def Chan.mayRelease (h : Chan) (k : Crate) : Bool :=
  match h.pend with
  | [] => false
  | p :: _ => p.ready && k.mayPass p.age && !h.heldBack k

/-- Write the first waiting event of a channel, where it may be (R102). -/
def State.releaseOne (s : State) (c k : Nat) : State :=
  match (s.chan c k).pend with
  | [] => s
  | p :: t =>
    if (s.chan c k).mayRelease (s.crate c) then
      doIf (!p.drop) (fun u => u.pushEvent c p.evt) (s.modChan c k (fun h => { h with pend := t }))
    else s

/-- The events of the window that owes the oldest marker are written. -/
def State.windowWritten (s : State) (c : Nat) : Bool :=
  chanNos.all (fun k => (s.chan c k).pend.all (fun p => decide (p.age < (s.crate c).closing.length)))

/-- The oldest marker that a closed window owes, once its events are written (R102, R103). -/
def State.tryMarker (s : State) (c : Nat) : State :=
  match (s.crate c).closing with
  | [] => s
  | m :: rest =>
    if !m.ofNext && s.windowWritten c then
      (s.fifoPut c (.windowClose (s.crate c).lost m.noStart)).modCrate c (fun k => { k with lost := 0, closing := rest })
    else s

/-- A channel in DRAIN whose last conversion is done goes to IDLE, and its converter powers down, as that of a channel that
has gone OFF (R50, R58). -/
def State.tryIdle (s : State) (c k : Nat) : State :=
  doIf ((decide ((s.chan c k).st = .drain) || decide ((s.chan c k).st = .off)) && (s.chan c k).pend.all (fun p => p.ready))
    (fun t => t.modChan c k (fun h => { h with
      st := if h.st = .drain then .idle else h.st, converterOn := false })) s

/-- Write every event of a channel that may be written. -/
def State.drainChan (s : State) (c k : Nat) : State :=
  (forAll (List.range (s.chan c k).pend.length) (fun t _ => t.releaseOne c k) s).tryIdle c k

/-- Write every event of a crate that may be written, and the marker behind them. -/
def State.drainCrate (s : State) (c : Nat) : State := (forAll chanNos (fun t k => t.drainChan c k) s).tryMarker c

/-- Write what may be written after a change of a crate: a marker lets the events of the next window pass. -/
def State.drainAll (s : State) (c : Nat) : State :=
  forAll (List.range ((s.crate c).closing.length + 1)) (fun t _ => t.drainCrate c) s

/-- Write what may be written after a change of a channel. -/
def State.release (s : State) (c k : Nat) : State :=
  forAll (List.range (s.crate c).closing.length) (fun t _ => t.drainCrate c) ((s.drainChan c k).tryMarker c)

/-! ## Stops (R95 to R100) -/

/-- One hit of a slice's tap (R93): a batch counts 2^cd_batch stops and no more before its end. DESIGN CHOICE (log 122): a batch
that runs ends by the cd_batch in force. -/
def State.tapHit (s : State) (c i d : Nat) : State :=
  doIf (decide ((s.slice c i).batchStops < 2 ^ s.cfgRd c (CRT_TDC_CFG_cd_batch c))) (fun t => t.modSlice c i (fun v => { v with
    batchStops := v.batchStops + 1
    hits := sparseSet (fun _ => 0) v.hits d (min 65535 (sparseGet (fun _ => 0) v.hits d + 1)) })) s

/-- The spare shadows channel k in the open dwell (R108). -/
def State.shadows (s : State) (c k : Nat) : Bool :=
  match (s.crate c).openDwell with
  | none => false
  | some d => decide (d.shadow = some k)

/-- The spare's own hit for a stop that it captures while it shadows the channel (R93, R108). -/
def State.spareHit (s : State) (c k : Nat) (d : Option Nat) : State :=
  match d with
  | none => s
  | some d => doIf (s.shadows c k) (fun t => t.tapHit c 16 d) s

/-- Count a stop that a slice does not keep (R122). -/
def State.stopCount (s : State) (f : FRef) : State := s.bump f 1

/-- The slice that serves channel k in the crate's open dwell (R29, R107). -/
def State.server (s : State) (c k : Nat) : Option Nat :=
  match (s.crate c).openDwell with
  | none => none
  | some d => if d.part.getLsbD k then d.serve.getD k none else none

/-- Keep the intervals of one stop for the comparison of a shadowed channel: the slice's and the spare's, where it has one
(R108). -/
def State.shadowNote (s : State) (c k : Nat) (iv spare : Option Int) : State :=
  doIf (s.shadows c k) (fun t => t.modCrate c (fun g => g.modOpen (fun d => { d with
    shadowMain := d.shadowMain ++ iv.toList, shadowSpare := d.shadowSpare ++ spare.toList }))) s

/-- The interval of a difference in 1/16 LSB, and at_res (R96, R99). -/
def intervalOf (d16 : Int) : Int × Bool := if -16 < d16 ∧ d16 < 16 then (0, true) else (roundDiv d16 16, false)

/-- The spare's difference to its start for a stop stamped sp, in 1/16 LSB, once its start is known (R96, R108). -/
def State.spareDiff (s : State) (c k : Nat) (sp : Option Int) : Option Int :=
  match sp, (s.slice c 16).start with
  | some p, some st => some (p + Config.routeSkew c k - st)
  | _, _ => none

/-- Change the event that holds the charge path. -/
def modOwner (l : List Pend) (f : Pend → Pend) : List Pend :=
  match lastOwner l with
  | none => l
  | some n => l.zipIdx.map (fun p => if p.2 = n then f p.1 else p.1)

/-- The charge path is busy with an earlier event (R37, R48). -/
def Chan.pathBusy (h : Chan) : Bool := h.hold.isSome || h.resetting

/-- The event that holds the charge path is merged with a later crossing (R48); one that has left the channel keeps what it
carried. -/
def Chan.mergeOwner (h : Chan) : Chan :=
  { h with pend := modOwner h.pend (fun p => { p with evt := { p.evt with merged := true } }) }

/-- The base range that an event's crossing finds; 0 in charge-amplifier mode (R40, R46). -/
def State.baseRange (s : State) (c k : Nat) : Nat := if s.autoranging c then s.rd (CHN_FE_STAT_ar_range c k) else 0

/-- An event without a charge conversion: one that crossed before the start; in autoranging mode never settle
(R40, R46, R53). -/
def State.plainEvt (s : State) (c k i : Nat) (iv : Int) (atRes merged : Bool) (range rep : Nat) : Evt :=
  { chan := k, interval := iv, code := 0, overRange := false, range := range
    settle := (s.chan c k).winSettle && !s.autoranging c
    merged := merged, nearBlank := false, atRes := atRes, subst := i == 16, rep := rep }

/-- An event of slice i joins the channel's events with the coefficients of its dwell. -/
def State.addPend (s : State) (c k i : Nat) (e : Evt) (owner ready sel drop : Bool) : State :=
  s.modChan c k (fun h => { h with
    pend := h.pend ++ [⟨e, (s.coeffs c i).1, (s.coeffs c i).2, none, owner, ready, sel, drop, 0⟩] })

/-- A captured stop without conversion joins the channel's events. -/
def State.plainStop (s : State) (c k i : Nat) (e : Evt) : State := s.addPend c k i e false true true false

/-- The crossing lies within 1.5 ns of the channel's previous captured stop (R98). -/
def Chan.deadAt (h : Chan) (lsb : Nat) : Bool :=
  match h.lastStop with
  | none => false
  | some t => decide (lsb < t + 96)

/-- A waiting stop that lies after its start, or less than 1 LSB before it, is an event of the main window (R93, R99, R100). One
that crossed after the trigger instant is captured now, under R97 and R98. -/
def State.atStart (s : State) (c k i : Nat) (w : Win) (p : PreStop) (d16 : Int) (spare : Option Int) : State :=
  let h := s.chan c k
  let keep := fun (t : State) =>
    (doIf (t.cfgRd c (CRT_TDC_CFG_cd_src c) == 1) (fun u => (u.tapHit c i p.d).spareHit c k (spare.map (fun _ => p.spareD)))
      (t.plainStop c k i (t.plainEvt c k i (intervalOf d16).1 (intervalOf d16).2 p.merged p.range w.rep))).shadowNote c k
        (some (intervalOf d16).1) spare
  if p.lsb < w.trig then keep s
  else if h.deadAt p.lsb then
    doIf spare.isSome (fun t => t.stopCount (TDC_EV_STAT_dt_merged c 16)) (s.stopCount (TDC_EV_STAT_dt_merged c i))
  else if 8 ≤ h.stops then
    doIf spare.isSome (fun t => t.stopCount (TDC_EV_STAT_excess c 16)) (s.stopCount (TDC_EV_STAT_excess c i))
  else keep (s.modChan c k (fun g => { g with stops := g.stops + 1, lastStop := some p.lsb }))

/-- The shadowing spare's own stop where its slice drops the crossing: R98 and R97 apply to it alone (R108, R122). -/
def State.spareAlone (s : State) (c k lsb : Nat) (sp : Option Int) : State × Option Int :=
  if sp.isNone then (s, none)
  else if (s.chan c k).deadAt lsb then (s.stopCount (TDC_EV_STAT_dt_merged c 16), none)
  else if 8 ≤ (s.chan c k).stops then (s.stopCount (TDC_EV_STAT_excess c 16), none)
  else (s, sp)

/-- A stop that waited for its start gets its interval (R93, R96, R99, R100): an event of the main window where it does not lie
1 LSB or more before its start, an early event inside the counting interval, else it is dropped and counted; so is the
shadowing spare's own (R108, R122). -/
def State.settleStop (s : State) (c k i : Nat) (w : Win) (p : PreStop) : State :=
  match (s.slice c i).start with
  | none => s
  | some st =>
    let d16 := p.stamp + skewOf c i k - st
    let inside := decide (w.accept ≤ p.lsb) && decide (p.lsb < w.trig)
    let own := s.spareDiff c k p.spare
    let sp := (own.filter (fun x => inside || decide (-16 < x))).map (fun x => (intervalOf x).1)
    let s1 := doIf (own.isSome && sp.isNone) (fun t => t.stopCount (TDC_EV_STAT_early_drop c 16)) s
    if -16 < d16 then s1.atStart c k i w p d16 sp
    else if inside then
      (((s1.plainStop c k i (s.plainEvt c k i (intervalOf d16).1 false p.merged p.range w.rep)).tapHit c i p.d).spareHit c k
        (sp.map (fun _ => p.spareD))).shadowNote c k (some (intervalOf d16).1) sp
    else
      let q := s1.spareAlone c k p.lsb sp
      (q.1.stopCount (TDC_EV_STAT_early_drop c i)).shadowNote c k none q.2

/-- The hold ends when its gate has ended and its crossing has fallen; the path is ready 10 ns later (R37). -/
def Chan.tryEndHold (h : Chan) : Chan :=
  match h.hold with
  | none => h
  | some x => if x.gateEnded && x.fallen then { h with hold := none, resetting := true } else h

/-- START_EDGE for one channel: its waiting stops, then BLANK or MAIN (R44, R58, R100). During blanking the output is held
inactive. -/
def State.startChannel (s : State) (c k : Nat) (w : Win) : State :=
  match s.server c k with
  | none => s
  | some i =>
    ((forAll (s.chan c k).preStops (fun t p => t.settleStop c k i w p) s).modChan c k (fun h => ({ h with
      preStops := []
      st := if h.st = .pre then (if w.blank = 0 then .main else .blank) else h.st
      hold := if w.blank ≠ 0 ∧ h.active then h.hold.map (fun x => { x with fallen := true }) else h.hold
      active := h.active && w.blank == 0 } : Chan).tryEndHold)).release c k

/-- The slices' captures of the start (R85). -/
def State.startStamps (s : State) (c : Nat) (caps : List Capture) : State :=
  forAll sliceNos (fun t i => t.modSlice c i (fun v => { v with start := some (t.stamp c i (caps.getD i ⟨0, 0⟩)) })) s

/-- The start arrives in time (R85). DESIGN CHOICE (log 122): an edge in the window before the trigger instant counts too. -/
def State.startInTime (s : State) (c lsb : Nat) (w : Win) : Bool :=
  decide (coarseEdge lsb ≤ coarseEdge w.trig + 80 * s.cfgRd c (CRT_TDC_CFG_emon_tmo c))

/-! ## The end of a window -/

/-- What the channels of a set have not captured in the window counts for the dwell (R325). -/
def State.countCross (s : State) (c : Nat) (d : Dwell) : List Nat :=
  chanNos.map (fun k => d.cross.getD k 0 + (if d.part.getLsbD k then (s.chan c k).winCross else 0))

/-- A window's counts for its dwell: without a start it is one more without, else its accepting interval and its crossings that
were not captured count (R85, R325). -/
def Dwell.countWindow (d : Dwell) (w : Win) (noStart : Bool) (cross : List Nat) : Dwell :=
  if noStart then { d with noStart := d.noStart + 1 }
  else { d with accepting := d.accepting + (w.trig - w.accept), cross := cross }

/-- The crate counts a window that ends for the dwell that it belongs to. -/
def State.countWindow (s : State) (c : Nat) (w : Win) (noStart : Bool) : State :=
  s.modCrate c (fun k => k.modOpen (fun d => d.countWindow w noStart (s.countCross c d)))

/-- The window of a crate ends: no new crossings, its marker follows when its events are written (R58, R102). With a
start, the crossings that were not captured and the length of the counting interval count for the Separator (R325). -/
def State.closeWindow (s : State) (c : Nat) (w : Win) (noStart : Bool) (at_ : Nat) : State :=
  let part := match (s.crate c).openDwell with
    | none => 0
    | some d => d.part
  let s1 := (s.countWindow c w noStart).modCrate c (fun k => { k with
    win := none, closing := k.closing ++ [⟨noStart, k.nextOpened⟩], lastClose := some at_ })
  (forAll chanNos (fun t k => t.modChan c k (fun h => { h with
      pend := h.pend.map (fun p => { p with age := p.age + 1 })
      st := if !part.getLsbD k ∨ h.st = .off ∨ h.st = .settling then h.st else .drain
      preStops := [], winCross := 0 })) s1).drainAll c

/-- START_EDGE (R85): the start is stamped by every slice, waiting stops get their intervals, blanking begins. A window
whose main window has already closed ends here. -/
def State.startEdge (s : State) (c lsb : Nat) (caps : List Capture) (w : Win) : State :=
  let s1 := (s.startStamps c caps).modCrate c (fun k => { k with win := some { w with
    start := some lsb
    blankEnd := if w.blank = 0 then none else some (coarseEdge lsb + 80 * w.blank) } })
  let s2 := forAll chanNos (fun t k => t.startChannel c k w) s1
  if w.closed then s2.closeWindow c w false w.close else s2

/-- START_EDGE (R85). -/
def execStartEdge (c : CrateId) (lsb : Nat) (caps : List Capture) (s : State) : Host.Outcome State Fault Refusal :=
  .next (match (s.crate c).win with
  | none => s
  | some w => doIf (s.timingLive && w.start.isNone && s.startInTime c lsb w) (fun t => t.startEdge c lsb caps w) s)

/-- START_TIMEOUT (R85): the crate closes the window at the expiry and discards its stops; the emitter group has a
detection. -/
def execStartTimeout (c : CrateId) (s : State) : Host.Outcome State Fault Refusal :=
  .next (match (s.crate c).win with
  | none => s
  | some w => doIf (s.timingLive && w.start.isNone) (fun t =>
      (t.closeWindow c w true (coarseEdge w.trig + 80 * t.cfgRd c (CRT_TDC_CFG_emon_tmo c))).detect 0x04 1 c 0 w.group
        (elemGroup w.group)) s)

/-- BLANKING_END (R44, R45): a channel still above threshold is held until its first sample below it. -/
def execBlankingEnd (c : CrateId) (above : BitVec 16) (s : State) : Host.Outcome State Fault Refusal :=
  .next (doIf (s.timingLive && (s.crate c).win.isSome) (fun t => forAll chanNos (fun u k =>
    doIf (decide ((u.chan c k).st = .blank)) (fun v =>
      doIf (above.getLsbD k) (fun x => (x.bump (CHN_FE_STAT_blank_held c k) 1).modChan c k (fun h => { h with
        blankHeld := true })) (v.modChan c k (fun h => { h with st := .main }))) u) t) s)

/-! ## Crossings (R41, R45 to R48, R86, R97, R98) -/

/-- The shadowing spare's capture of a crossing (R108); none where it shadows another channel or none. -/
def State.spareCapture (s : State) (c k : Nat) (spare : Option Capture) : Option Capture :=
  spare.filter (fun _ => s.shadows c k)

/-- Count a stop that neither the slice nor the shadowing spare keeps (R108, R122). -/
def State.bothCount (s : State) (i : Nat) (spare : Option Capture) (f : Nat → FRef) : State :=
  doIf spare.isSome (fun t => t.stopCount (f 16)) (s.stopCount (f i))

/-- A crossing before the start (R97, R98, R100): none before stops are accepted; within the counting interval at most
pre_max are captured and the others counted for the Separator; a crossing after the trigger instant waits for the start. The
shadowing spare captures it too (R108). -/
def State.preCrossing (s : State) (c k i lsb : Nat) (w : Win) (cap : Capture) (spare : Option Capture) : State :=
  let h := s.chan c k
  let sp := (s.spareCapture c k spare).filter (fun x => x.k ≤ 65535)
  let s1 := doIf ((s.spareCapture c k spare).any (fun x => decide (65535 < x.k)))
    (fun t => t.stopCount (TDC_EV_STAT_coarse_ovf c 16)) s
  let p : PreStop := ⟨s.stamp c i cap, lsb, sp.map (fun x => s.stamp c 16 x), cap.d, (sp.map (fun x => x.d)).getD 0,
    s.baseRange c k, h.pathBusy⟩
  let wait := fun (g : Chan) => { (if h.pathBusy then g.mergeOwner else g) with preStops := g.preStops ++ [p] }
  if lsb < w.accept then s
  else if 65535 < cap.k then s1.stopCount (TDC_EV_STAT_coarse_ovf c i)
  else if h.deadAt lsb then s1.bothCount i sp (fun n => TDC_EV_STAT_dt_merged c n)
  else if w.trig ≤ lsb then s1.modChan c k wait
  else if s.cfgRd c (CRT_TDC_CFG_pre_max c) ≤ h.stops then s1.modChan c k (fun g => { g with winCross := g.winCross + 1 })
  else if 8 ≤ h.stops then s1.bothCount i sp (fun n => TDC_EV_STAT_excess c n)
  else s1.modChan c k (fun g => { wait g with stops := g.stops + 1, lastStop := some lsb })

/-- The event that holds the charge path. -/
def Chan.owner? (h : Chan) : Option Pend := (h.pend.filter (fun p => p.owner)).getLast?

/-- The crossing lies within 2 coarse periods after the end of blanking (R45). -/
def Win.nearBlank (w : Win) (lsb : Nat) : Bool :=
  match w.blankEnd with
  | none => false
  | some b => decide (lsb < b + 160)

/-- A main-window crossing on the charge path (R36, R46, R48): it opens a gate, or merges with the event that holds the
path. drop marks an event that its slice discards. The first main-window event of an autoranging channel carries no settle (R66). DESIGN CHOICE (log
123): a later event of a merged group opens no gate of its own and takes the range of the event that holds the path, for its tag and for
its settle (R40). -/
def State.frontEvent (s : State) (c k i lsb : Nat) (w : Win) (iv : Int) (atRes drop : Bool) : State :=
  let h := s.chan c k
  let e : Evt := { s.plainEvt c k i iv atRes false (s.baseRange c k) w.rep with
    settle := h.winSettle && !(s.autoranging c && h.prevRange.isNone), nearBlank := w.nearBlank lsb }
  if h.pathBusy then
    let r := match h.owner? with
      | none => e.range
      | some o => o.evt.range
    (s.modChan c k Chan.mergeOwner).addPend c k i { e with
      merged := true, range := r, settle := h.winSettle || (s.autoranging c && h.prevRange.any (· != r)) } false true true drop
  else
    (s.modChan c k (fun g => { g with hold := some ⟨false, false⟩ })).addPend c k i e true false (!s.autoranging c) drop

/-- A stop that its slice captures in the main window (R93, R95 to R99); sp is the shadowing spare's interval for it. -/
def State.mainStop (s : State) (c k i lsb : Nat) (w : Win) (cap : Capture) (spare : Option Capture) (sp : Option Int)
    (iv : Int) (atRes : Bool) : State :=
  (doIf (s.cfgRd c (CRT_TDC_CFG_cd_src c) == 1)
    (fun t => (t.tapHit c i cap.d).spareHit c k (spare.map (fun x => x.d)))
    ((s.frontEvent c k i lsb w iv atRes false).modChan c k (fun g => { g with
      stops := g.stops + 1, lastStop := some lsb }))).shadowNote c k (some iv) sp

/-- Why the shadowing spare does not keep a stop of the main window that it captures: the counter (R86, R97, R98, R100,
R108, R122). -/
def State.spareLoses (s : State) (c k lsb : Nat) (x : Capture) : Option FRef :=
  if 65535 < x.k then some (TDC_EV_STAT_coarse_ovf c 16)
  else if (s.chan c k).deadAt lsb then some (TDC_EV_STAT_dt_merged c 16)
  else if (s.spareDiff c k (some (s.stamp c 16 x))).any (fun d => decide (d ≤ -16)) then some (TDC_EV_STAT_early_drop c 16)
  else if 8 ≤ (s.chan c k).stops then some (TDC_EV_STAT_excess c 16)
  else none

/-- The shadowing spare's part of a crossing of the main window: what it keeps, or its count (R108, R122). -/
def State.spareMain (s : State) (c k lsb : Nat) (spare : Option Capture) : State × Option Capture :=
  match s.spareCapture c k spare with
  | none => (s, none)
  | some x => match s.spareLoses c k lsb x with
    | none => (s, some x)
    | some f => (s.stopCount f, none)

/-- A crossing after the start (R86, R96 to R100). DEDUCED (log 119): one that its slice discards opens a gate, or merges, all the
same, and moves the base range and the previous range (R36, R38, R46). DESIGN CHOICE (log 119): the coarse count is tested before
the dead time of R98. -/
def State.mainCrossing (s : State) (c k i lsb : Nat) (w : Win) (cap : Capture) (spare : Option Capture) : State :=
  let h := s.chan c k
  match (s.slice c i).start with
  | none => s
  | some st =>
    let d16 := s.stamp c i cap + skewOf c i k - st
    let q := s.spareMain c k lsb spare
    let sp := (s.spareDiff c k (q.2.map (fun x => s.stamp c 16 x))).map (fun x => (intervalOf x).1)
    if 65535 < cap.k then
      ((q.1.stopCount (TDC_EV_STAT_coarse_ovf c i)).shadowNote c k none sp).frontEvent c k i lsb w 0 false true
    else if h.deadAt lsb then q.1.stopCount (TDC_EV_STAT_dt_merged c i)
    else if d16 ≤ -16 then
      ((q.1.stopCount (TDC_EV_STAT_early_drop c i)).shadowNote c k none sp).frontEvent c k i lsb w 0 false true
    else if 8 ≤ h.stops then (q.1.stopCount (TDC_EV_STAT_excess c i)).frontEvent c k i lsb w 0 false true
    else q.1.mainStop c k i lsb w cap q.2 sp (intervalOf d16).1 (intervalOf d16).2

/-- The discriminator of a channel can give a crossing: its threshold is not 0, its output is inactive and not held after
blanking (R41, R45). -/
def State.canCross (s : State) (c k : Nat) : Bool :=
  s.rd (CHN_THR_thr_eff c k) != 0 && !(s.chan c k).active && !(s.chan c k).blankHeld

/-- A crossing of one channel in a window. -/
def State.crossing (s : State) (c k lsb : Nat) (w : Win) (cap : Capture) (spare : Option Capture) : State :=
  match s.server c k with
  | none => s
  | some i =>
    let s1 := s.modChan c k (fun h => { h with active := true })
    match (s.chan c k).st with
    | .pre => s1.preCrossing c k i lsb w cap spare
    | .main => (s1.mainCrossing c k i lsb w cap spare).release c k
    | .off | .settling | .idle | .blank | .drain => s

/-- DISCRIMINATOR_CROSSING (R41). -/
def execDiscriminatorCrossing (c : CrateId) (k : ChanId) (lsb : Nat) (cap : Capture) (spareCap : Option Capture)
    (s : State) : Host.Outcome State Fault Refusal :=
  .next (match (s.crate c).win with
  | none => s
  | some w => doIf (s.timingLive && s.canCross c k) (fun t => t.crossing c k lsb w cap spareCap) s)

/-! ## The charge path (R33 to R38, R46 to R50, R104) -/

/-- DISCRIMINATOR_FALL (R37, R41, R45): the output goes inactive, or falls below threshold after blanking. -/
def execDiscriminatorFall (c : CrateId) (k : ChanId) (s : State) : Host.Outcome State Fault Refusal :=
  .next (doIf s.timingLive (fun t => t.modChan c k (fun h => ({ h with
    active := false, blankHeld := false
    hold := if h.active then h.hold.map (fun x => { x with fallen := true }) else h.hold } : Chan).tryEndHold)) s)

/-- The pre-peak limit of a range in aC (R35). -/
def prePeak (r : Nat) : Nat := [255700, 1023000, 4092000, 16368000].getD r 0

/-- RANGE_SELECT (R36, R40): the event's range, and settle where it differs from the previous main-window event's. DESIGN CHOICE
(log 119): B is that of the compare, 1.25 ns after the crossing, where a conversion has changed it in between. -/
def execRangeSelect (c : CrateId) (k : ChanId) (levelAc : Nat) (s : State) : Host.Outcome State Fault Refusal :=
  let b := s.rd (CHN_FE_STAT_ar_range c k)
  let r := if prePeak b < levelAc ∧ b < 3 then b + 1 else b
  .next (doIf (s.timingLive && s.autoranging c && (s.chan c k).owner?.any (fun p => !p.sel)) (fun t =>
    t.modChan c k (fun h => { h with
      pend := modOwner h.pend (fun p => { p with
        sel := true
        evt := { p.evt with range := r, settle := p.evt.settle || h.prevRange.any (· != r) } })
      prevRange := some r })) s)

/-- CHARGE_GATE_END (R46): the charge is held and conversion starts. -/
def execChargeGateEnd (c : CrateId) (k : ChanId) (heldAc : Int) (s : State) : Host.Outcome State Fault Refusal :=
  .next (doIf (s.timingLive && (s.chan c k).owner?.any (fun p => p.sel && p.held.isNone)) (fun t =>
    t.modChan c k (fun h => ({ h with
      pend := modOwner h.pend (fun p => { p with held := some heldAc })
      hold := h.hold.map (fun x => { x with gateEnded := true }) } : Chan).tryEndHold)) s)

/-- The code step in aC: 20 fC, or 0.5 fC × 4^r (R34, R35). -/
def State.codeStep (s : State) (c r : Nat) : Nat := if s.autoranging c then 500 * 4 ^ r else 20000

/-- The raw code of a held charge (R46), halves up. -/
def rawCode (q : Int) (step : Nat) : Nat := if q ≤ 0 then 0 else (min 1023 (roundDiv q step)).toNat

/-- over_range: beyond full scale by more than half a step (R47). -/
def overRange (q : Int) (step : Nat) : Bool := decide (2 * q > 2047 * step)

/-- The corrected code under a gain and an offset (R104). -/
def correctCode (gain : Nat) (off : Int) (code : Nat) : Nat :=
  (clampInt 0 1023 (roundDiv ((16 * (code : Int) - off) * gain) 262144)).toNat

/-- AUTORANGE_UPDATE (R38), from the raw code: base range and quiet count after an event of range r. -/
def autorange (b n r code : Nat) (beyond : Bool) : Nat × Nat :=
  if beyond then (min (r + 1) 3, 0)
  else if r = b ∧ code < 128 then (if n + 1 = 16 ∧ 0 < b then (b - 1, 0) else (b, min 16 (n + 1)))
  else (b, 0)

/-- The first event whose charge is held and whose code does not stand. -/
def Chan.converting (h : Chan) : Option Nat :=
  (h.pend.zipIdx.find? (fun p => p.1.held.isSome && !p.1.ready)).map (·.2)

/-- The conversion of the n-th waiting event of a channel ends (R46, R47, R104). -/
def State.convert (s : State) (c k n : Nat) (p : Pend) (q : Int) : State :=
  let step := s.codeStep c p.evt.range
  let raw := rawCode q step
  let beyond := overRange q step
  let a := autorange (s.rd (CHN_FE_STAT_ar_range c k)) (s.rd (CHN_FE_STAT_ar_count c k)) p.evt.range raw beyond
  let s1 := s.modChan c k (fun h => { h with pend := h.pend.set n { p with
    ready := true, evt := { p.evt with code := correctCode p.qGain p.qOff raw, overRange := beyond } } })
  (doIf (s.autoranging c) (fun t => (t.put (CHN_FE_STAT_ar_range c k) a.1).put (CHN_FE_STAT_ar_count c k) a.2) s1).release c k

/-- CHARGE_PATH_READY (R37). -/
def execChargePathReady (c : CrateId) (k : ChanId) (s : State) : Host.Outcome State Fault Refusal :=
  .next (doIf (s.timingLive && (s.chan c k).resetting)
    (fun t => (t.modChan c k (fun h => { h with resetting := false })).release c k) s)

end Sys2Proof.Machine
end

