-- ==== Sys2Proof/Machine/Spare.lean ====
section
/-! DEFINITION. The spare slice and the dwell boundary (spec/03_time_measurement.md R92 to R94, R104 to R113, R643;
spec/13_faults_and_service_continuity.md R560 to R567): roles, retirement, removal, calibration visits, tie-break, retest. -/

namespace Sys2Proof.Machine

/-! ## Roles (R107, R117, R123) -/

/-- Give slice i of crate c a role and the channel that it serves or shadows. DESIGN CHOICE (log 108): a spare that does neither
shows channel 0 while FREE or SUSPECT, and its last channel once RETIRED; R117 and R123 give only the reset value. A slice 0 to 15
shows its own number in every role, RETIRED and CALIB among them. -/
def State.setRole (s : State) (c i role k : Nat) : State :=
  doIf (i == 16) (fun t => (t.put (CRT_SPR_STAT_role c) role).put (CRT_SPR_STAT_target c) k)
    ((s.put (TDC_STATE_role c i) role).put (TDC_STATE_chan c i) k)

/-- The channel that the spare serves or shadows. -/
def State.spareChan (s : State) (c : Nat) : Nat := s.rd (TDC_STATE_chan c 16)

/-- A service change goes into the fault log (R571). -/
def State.logService (s : State) (code kind index sub value : Nat) : State := s.log code 2 kind index sub 0 value

/-- A charge calibration is over: its slice serves again, and a spare that stood in is FREE (R107). -/
def State.endCal (s : State) (c : Nat) : State :=
  match (s.crate c).calSlice with
  | none => s
  | some i =>
    (doIf (s.role c 16 == 3) (fun t => t.setRole c 16 1 0)
      (doIf (decide (i < 16) && s.role c i == 7) (fun t => t.setRole c i 0 i) s)).modCrate c (fun g => { g with
        calSlice := none, calPending := false })

/-- The charge calibration that runs is abandoned (R106). -/
def State.dropCal (s : State) (c : Nat) : State := s.endCal c

/-- Remove channel k from service (R562): cause 1 no spare, 2 tie-break, 3 ECC, 4 tone. -/
def State.removeChan (s : State) (c k why : Nat) : State :=
  let s1 := (s.modChan c k (fun h => { h with
    remNoSpare := h.remNoSpare || why == 1
    remTie := h.remTie || why == 2
    remEcc := h.remEcc || why == 3
    remTone := h.remTone || why == 4 })).showRemoved c k
  doIf (!s.removed c k) (fun t => t.logService 0x22 2 (16 * c + k) 0 why) s1

/-- Retire a slice (R107): why 0 strikes, 1 self-test, 2 tie-break. The spare substitutes for a slice while it is FREE,
SHADOW or STANDIN; what it was doing is abandoned (R106). -/
def State.retire (s : State) (c i why : Nat) : State :=
  if s.role c i = 6 then s
  else if i = 16 then
    let s1 := (doIf (decide ((s.crate c).calSlice = some 16)) (fun t => t.dropCal c) s).logService 0x20 1 c 16 why
    doIf (s.role c 16 == 4) (fun t => t.removeChan c (s.spareChan c) 1) (s1.setRole c 16 6 (s.spareChan c))
  else
    let s1 := (doIf (decide ((s.crate c).calSlice = some i) && s.role c 16 != 4) (fun t => t.dropCal c) s).logService
      0x20 1 c i why
    let s2 := s1.setRole c i 6 i
    if s.role c 16 = 1 ∨ s.role c 16 = 2 ∨ s.role c 16 = 3 then
      ((s2.dropCal c).setRole c 16 4 i).logService 0x21 1 c i 0
    else s2.removeChan c i 1

/-- A calibration that has ended gives its slice back to service (R107). -/
def State.settleRoles (s : State) (c : Nat) : State :=
  doIf (!(s.crate c).calPending) (fun t => t.endCal c) s

/-- At a dwell boundary of the crate's own, coefficients and width tables that wait for it take effect; those before stay for a
dwell that is open already (R22, R94, R105). -/
def State.newTables (s : State) (c : Nat) : State :=
  forAll sliceNos (fun t i =>
    let gain := t.rd (TDC_QCAL_q_gain c i)
    let off := t.rdInt (TDC_QCAL_q_off c i)
    let t1 := match (t.slice c i).newQ with
      | none => t
      | some (g, o) => (t.put (TDC_QCAL_q_gain c i) g).putInt (TDC_QCAL_q_off c i) o
    t1.modSlice c i (fun v => { v with
      oldWidth := v.width, oldGain := gain, oldOff := off
      width := v.newWidth.getD v.width, newWidth := none, newQ := none })) s

/-! ## Planning a dwell: at the commit of its repeat 0 (R104, R106, R107, R111, R643) -/

/-- A requested tie-break of slice j can run: j serves its channel, and the spare is FREE or SHADOW (R111). -/
def State.tieRuns (s : State) (c j : Nat) : Bool := s.role c j == 0 && (s.role c 16 == 1 || s.role c 16 == 2)

/-- The tie-breaks requested for a boundary (R111): one that cannot run is logged as not run; the first that can takes the spare.
DESIGN CHOICE (log 104): a further one that could run too waits for the next boundary. DESIGN CHOICE (log 108): the spare shows
FREE and channel 0 during the tie-break dwell, whatever its class. -/
def State.planTies : List Nat → State → Nat → State
  | [], s, _ => s
  | j :: l, s, c =>
    if s.tieRuns c j then
      (s.setRole c 16 1 0).modCrate c (fun g => { g with tieReq := l, tieRun := some j })
    else State.planTies l ((s.modCrate c (fun g => { g with tieReq := l })).logService 0x23 1 c j 0) c

/-- A requested tie-break runs in the dwell, once none runs or waits for its outcome (R111, R112). -/
def State.planTie (s : State) (c : Nat) : State :=
  doIf ((s.crate c).tieRun.isNone && (s.crate c).tieRes.isNone) (fun t => State.planTies (t.crate c).tieReq t c) s

/-- The channel after j, ascending and wrapping at 15, that is in service with its own slice serving it (R107). DESIGN CHOICE
(log 119): a channel that the host has disabled is in service; only a removed one is not (R562). -/
def State.nextShadow (s : State) (c : Nat) : Option Nat :=
  let start := match (s.crate c).lastShadow with
    | none => 0
    | some j => j + 1
  ((List.range 16).map (fun n => (start + n) % 16)).find? (fun k => !s.removed c k && s.role c k == 0)

/-- The spare may take up work in the dwell. -/
def State.spareOpen (s : State) (c : Nat) : Bool :=
  (s.role c 16 == 1 || s.role c 16 == 2) && (s.crate c).tieRun.isNone

/-- Shadowing comes before standing in for a calibration, which it interrupts (R106, R107). -/
def State.planShadow (s : State) (c : Nat) (safety : Bool) : State :=
  if safety && s.flag (CRT_SPR_CFG_shadow_en c) && (s.spareOpen c || s.role c 16 == 3) then
    let s1 := doIf (s.role c 16 == 3 || decide ((s.crate c).calSlice = some 16)) (fun t => t.dropCal c) s
    match s1.nextShadow c with
    | none => s1.setRole c 16 1 0
    | some j => (s1.setRole c 16 2 j).modCrate c (fun g => { g with lastShadow := some j })
  else doIf (s.role c 16 == 2) (fun t => t.setRole c 16 1 0) s

/-- A due visit of slice k is taken: with the spare standing in, or in-gap; with the spare SUBSTITUTE(k) it calibrates the
spare (R104, R107). A retired slice without a substitute, or one whose channel a tie-break removed, has nothing to
calibrate. DESIGN CHOICE (log 122): a visit of the spare that was due when it became SUBSTITUTE waits until it is FREE again. -/
def State.visit (s : State) (c k : Nat) : State :=
  let s1 := (s.modCrate c (fun g => { g with
    visitDue := false, spareDue := g.spareDue || (k == 15 && s.role c 16 != 4) })).put (CRT_SPR_STAT_ccal_next c) ((k + 1) % 16)
  if s.role c 16 = 4 ∧ s.spareChan c = k then s1.modCrate c (fun g => { g with calSlice := some 16, calPending := true })
  else if s.role c k = 0 ∧ !(s.chan c k).remTie then
    (doIf (s.role c 16 == 1 && (s.crate c).tieRun.isNone) (fun t => t.setRole c 16 3 k)
      (s1.setRole c k 7 k)).modCrate c (fun g => { g with calSlice := some k, calPending := true })
  else s1

/-- The visits of the dwell: the next slice's where it is due, else the spare's own where it is FREE (R104). -/
def State.planVisit (s : State) (c : Nat) : State :=
  let k := s.rd (CRT_SPR_STAT_ccal_next c)
  if (s.crate c).calSlice.isSome || !s.flag (CRT_SPR_CFG_ccal_en c) then s
  else if (s.crate c).visitDue && decide ((s.crate c).tieRun ≠ some k) then s.visit c k
  else if (s.crate c).spareDue && s.role c 16 == 1 && (s.crate c).tieRun.isNone then
    s.modCrate c (fun g => { g with spareDue := false, calSlice := some 16, calPending := true })
  else s

/-- A set of channels as a mask. -/
def maskOf (p : Nat → Bool) : BitVec 16 := BitVec.ofNat 16 ((chanNos.filter p).map (fun k => 2 ^ k)).sum

/-- Slice k is out of service, so that a retest of channel k tests it (R566): it is retired, or a tie-break removed its channel. -/
def State.sliceWasOut (s : State) (c k : Nat) : Bool := s.role c k == 6 || (s.chan c k).remTie

/-- A requested retest that has not run yet runs in the dwell (R566): of the elements that are out of service then. -/
def State.planRetest (s : State) (c : Nat) : State :=
  s.modCrate c (fun g => { g with retest := g.retest.map (fun r =>
    if r.running || r.finished then { r with planned := false } else { r with
      running := true, planned := true, sliceOut := r.chans &&& maskOf (fun k => s.sliceWasOut c k)
      areaOut := r.chans &&& maskOf (fun k => (s.chan c k).remEcc), spareOut := r.spare && s.role c 16 == 6 }) })

/-- Slice and spare roles for the crate's next dwell. -/
def State.planDwell (s : State) (c : Nat) (safety : Bool) : State :=
  ((((s.settleRoles c).planTie c).planShadow c safety).planVisit c).planRetest c

/-- The slice that serves channel k in the dwell that is planned; none during a tie-break of it, until its outcome is
applied, and during an in-gap calibration (R104, R110 to R112). -/
def State.serverFor (s : State) (c k : Nat) : Option Nat :=
  if (s.crate c).tieRun = some k ∨ (s.crate c).tieRes.any (fun r => r.chan == k) then none
  else if (s.role c 16 = 3 ∨ s.role c 16 = 4) ∧ s.spareChan c = k then
    if s.role c 16 = 4 ∧ (s.crate c).calSlice = some 16 then none else some 16
  else if s.role c k = 0 then some k
  else none

/-- The channels under retest in the dwell that is planned (R566). -/
def State.retested (s : State) (c : Nat) : BitVec 16 :=
  match (s.crate c).retest with
  | none => 0
  | some r => if r.planned then r.chans else 0

/-- Channel k takes part in the dwell that is planned: it is neither OFF nor SETTLING (R59), not removed (R562), not under
retest, and a slice serves it (R274). -/
def State.takesPart (s : State) (c k : Nat) : Bool :=
  decide ((s.chan c k).st ≠ .off) && decide ((s.chan c k).st ≠ .settling) && !s.removed c k && !(s.retested c).getLsbD k
  && (s.serverFor c k).isSome

/-! ## The close of a dwell (R31, R94, R105, R108, R566) -/

/-- Insert into an ascending list. -/
def insertInt (x : Int) : List Int → List Int
  | [] => [x]
  | y :: t => if x ≤ y then x :: y :: t else y :: insertInt x t

/-- Events of two ascending lists that find no partner within tol (R108). -/
def unpaired (tol : Nat) : Nat → List Int → List Int → Nat
  | 0, a, b => a.length + b.length
  | _, [], b => b.length
  | _, a, [] => a.length
  | n + 1, x :: a, y :: b =>
    if x - y ≤ tol ∧ y - x ≤ tol then unpaired tol n a b
    else if x < y then 1 + unpaired tol n a (y :: b)
    else 1 + unpaired tol n (x :: a) b

/-- SHADOW_COMPARE (R108). A timing domain without its clock, and a crate that is OFF, hold the count and add the dwell when they have
their clock again (R437, R611). -/
def State.shadowCompare (s : State) (c : Nat) (d : Dwell) : State :=
  let a := d.shadowMain.foldr insertInt []
  let b := d.shadowSpare.foldr insertInt []
  match d.shadow with
  | none => s
  | some j => doIf (decide (d.rd (CRT_SPR_CFG_slack c) < unpaired (d.rd (CRT_SPR_CFG_tol c)) (a.length + b.length) a b))
      (fun t => let t1 := if t.timingLive && t.cratePowered c then t.bump (CRT_SPR_STAT_mm_ct c) 1
          else t.modCrate c (fun g => { g with mmOwed := g.mmOwed + 1 })
        t1.detect 0x03 1 c j (t1.rd (CRT_SPR_STAT_mm_ct c) + (t1.crate c).mmOwed) (elemPair c j)) s

/-- The taps that the code-density test looks at: i < ⌊p_est⌋ (R94, R111). -/
def State.checkedTaps (s : State) (c i : Nat) : List Nat := List.range (min 160 (s.rd (TDC_CAL_p_est c i) / 256))

/-- The slice fails the code-density test: an entry differs from its factory entry by more than 50 % (R112). -/
def State.cdFails (s : State) (c i : Nat) : Bool :=
  (s.checkedTaps c i).any (fun n =>
    let f := (Config.factoryTap c i n).toNat
    let u := (s.slice c i).width.getD n 0
    decide (f < 2 * (u - f)) || decide (f < 2 * (f - u)))

/-- Sum of a function of the calibrations that gave a measurement. -/
def calSum (l : List (Option RingCal)) (f : RingCal → Int) : Int := (l.filterMap id).foldl (fun n m => n + f m) 0

/-- P_meas (R88). -/
def calP (m : RingCal) : Int := (m.n2 : Int) - m.n1
/-- δ′_meas (R88). -/
def calIns (m : RingCal) : Int := (m.n2 : Int) - 2 * m.n1

/-- n times the sum of squares less the square of the sum: n² times the variance of P_meas. DESIGN CHOICE (log 105): R112 names no
divisor; the deviation is that of the n calibrations themselves, with divisor n. -/
def calSpread (l : List (Option RingCal)) : Int :=
  l.length * calSum l (fun m => calP m * calP m) - calSum l calP * calSum l calP

/-- The slice fails the calibration test (R112); a calibration without a measurement fails it. -/
def calFails (l : List (Option RingCal)) : Bool :=
  l.any (fun m => m.isNone) || l.isEmpty
  || decide (calSum l calP < 96 * l.length) || decide (156 * l.length < calSum l calP)
  || decide ((l.length : Int) * l.length < calSpread l)
  || decide (calSum l calIns < 0) || decide (40 * l.length < calSum l calIns)

/-- The channels and the spare under retest: what passed (R566, R567), of what the dwell tested. -/
def State.retestOutcome (s : State) (c : Nat) (r : Retest) (m : RetestMeas) : Retest :=
  let passes := fun i => m.slices.any (fun x => x.1.val == i && !calFails x.2) && !s.cdFails c i
  { r with
    running := false
    finished := true
    passSlices := chanNos.filter (fun k => r.sliceOut.getLsbD k && passes k)
    passAreas := maskOf (fun k => r.areaOut.getLsbD k && m.areas.any (fun x => x.1.val == k && decide (x.2 = .clean)))
    passSpare := r.spareOut && passes 16 }

/-- The bank areas under retest are written and read back with both patterns; the reads of the second, through the extraction
port, clear the words (R255, R566). DEDUCED (log 106): so the buffers are left clear for the channel's return. -/
def State.testAreas (s : State) (c : Nat) (r : Retest) : State :=
  forAll chanNos (fun t k => doIf (r.areaOut.getLsbD k) (fun u => u.clearBank c (4096 * k) 4096) t) s

/-- RETEST (R566): the outcome waits for the apply instant. -/
def State.endRetest (s : State) (c : Nat) (m : RetestMeas) : State :=
  match (s.crate c).retest with
  | none => s
  | some r =>
    if r.running then
      ((((s.testAreas c r).modCrate c (fun g => { g with retest := some (s.retestOutcome c r m) })).modFlt (fun f => { f with
        changes := f.changes ++ [.restore c] }))).showPend
    else s

/-- The dwell-close marker of a dwell (R31, R145, R260, R325). -/
def State.closeMarker (s : State) (c : Nat) (d : Dwell) (early : Option EarlyWhy) (lost : BitVec 16) : State :=
  s.fifoPut c (.dwellClose ⟨d.fired, d.noStart, early, d.cross, d.accepting, lost⟩)

/-- The dwell behind the one that has closed takes its place. -/
def Crate.dwellGone (g : Crate) : Crate :=
  { g with dwell := g.dwellNext, dwellNext := none, closing := g.closing.map (fun x => { x with ofNext := false }) }

/-- The oldest open dwell of a crate closes: its marker, then the dwell boundary. A dwell behind it that has had its first
pre-window goes on under the tables before the boundary (R22, R94). -/
def State.closeDwell (s : State) (c : Nat) (d : Dwell) (m : RetestMeas) : State :=
  let s1 := (((s.closeMarker c d none 0).shadowCompare c d).newTables c).modCrate c (fun g => { g.dwellGone with
    dwell := g.dwellGone.dwell.map (fun x => { x with oldTab := x.opened }) })
  let s2 := doIf d.tests (fun t => t.endRetest c m) (doIf (s1.crate c).dwell.isNone (fun t => t.settleRoles c) s1)
  (s2.applyCrate c).drainAll c

/-- The oldest open dwell of a crate is over: no window of it runs or waits, and its markers and its events are written. -/
def State.dwellOver (s : State) (c : Nat) (d : Dwell) : Bool :=
  let g := s.crate c
  g.closing.all (fun m => m.ofNext)
  && (g.nextOpened || (g.win.isNone && (g.dwellNext.isSome || (d.ended && g.armNext.isNone))))

/-- DWELL_CLOSE (R31). -/
def execDwellClose (c : CrateId) (retest : RetestMeas) (s : State) : Host.Outcome State Fault Refusal :=
  .next (match (s.crate c).dwell with
  | none => s
  | some d => doIf (s.timingLive && s.dwellOver c d && !(s.crate c).stopDue) (fun t => t.closeDwell c d retest) s)

/-! ## Early closes (R82, R564, R603) -/

/-- What the FIFO has dropped without a window-close marker to tell it stays with the dwell that it belongs to (R103). -/
def Crate.keepLost (g : Crate) : Crate :=
  let keep := fun (d : Dwell) => { d with lost := d.lost ||| g.lost }
  if g.nextsTurn then { g with dwellNext := g.dwellNext.map keep, lost := 0 }
  else { g with dwell := g.dwell.map keep, lost := 0 }

/-- The oldest open dwell of a crate closes early (R82, R108, R564): what ran in it ends; a retest and a tie-break wait for the
next dwell. -/
def State.closeEarly (s : State) (c : Nat) (why : EarlyWhy) : State :=
  let s1 := (s.drainAll c).modCrate c (fun g => g.keepLost)
  match (s1.crate c).dwell with
  | none => s1
  | some d => ((s1.closeMarker c d (some why) d.lost).shadowCompare c d).modCrate c (fun g => { g.dwellGone with
      tieReq := g.tieRun.toList ++ g.tieReq, tieRun := none
      retest := if d.tests then g.retest.map (fun r => { r with running := false, planned := false }) else g.retest })

/-- Every open dwell of a crate closes early; a calibration in progress is abandoned (R31, R106), which a timing domain without its
clock and a crate that is OFF show when they have it again (R437, R611). DESIGN CHOICE (log 122): the early close at a REFCLK loss is no dwell boundary at which new
tables and coefficients take effect. -/
def State.closeAllEarly (s : State) (c : Nat) (why : EarlyWhy) : State :=
  (doIf (s.timingLive && s.cratePowered c) (fun t => t.dropCal c)
    (((s.closeEarly c why).closeEarly c why).modCrate c (fun g => { g with stopDue := false }))).showQuiet c

/-- A crate that is powered down closes its open dwell once its open conversions are done and their events written: the crate's
last dwell boundary (R31, R564, R603). A dwell that has had its last main window has had its steps (R43, R53). -/
def State.stopDwell (s : State) (c : Nat) : State :=
  doIf ((s.crate c).stopDue && chanNos.all (fun k => (s.chan c k).pend.all (fun p => p.ready))) (fun t =>
    ((doIf ((t.crate c).lastDwell.any (fun d => !d.ended)) (fun u => u.stepSettings c)
      ((t.closeAllEarly c .power).newTables c))).applyCrate c) s

/-! ## Conversions (R46) -/

/-- CHARGE_CONVERSION_DONE (R46). -/
def execChargeConversionDone (c : CrateId) (k : ChanId) (s : State) : Host.Outcome State Fault Refusal :=
  .next (match (s.chan c k).converting with
  | none => s
  | some n => match (s.chan c k).pend[n]? with
    | none => s
    | some p => match p.held with
      | none => s
      | some q => doIf s.timingLive (fun t => (t.convert c k n p q).stopDwell c) s)

/-! ## Calibration visits (R104, R105) -/

/-- CHARGE_CAL_DUE (R104): a visit that falls due while the previous one still waits is not queued. -/
def execChargeCalDue (c : CrateId) (s : State) : Host.Outcome State Fault Refusal :=
  .next (doIf (s.timingLive && s.crateReady c && s.flag (CRT_SPR_CFG_ccal_en c))
    (fun t => t.modCrate c (fun g => { g with visitDue := true })) s)

/-- A charge calibration is accepted (R105): |q_off| ≤ 16 codes, 0.9 ≤ q_gain ≤ 1.1; z and r are in 1/16 code. -/
def chargeAccepted (m : ChargeCal) : Bool :=
  decide (m.z < m.r) && decide (-256 ≤ m.z) && decide (m.z ≤ 256)
  && decide (9 * (m.r - m.z) ≤ 81920) && decide (81920 ≤ 11 * (m.r - m.z))

/-- The gain of R104 in units of 2⁻¹⁴. DESIGN CHOICE (log 119): the manual gives the field of R121 no rounding; the nearest is
taken, halves up. -/
def chargeGain (m : ChargeCal) : Nat := (roundDiv 134217728 (m.r - m.z).toNat).toNat

/-- A charge calibration of slice i ends (R105). -/
def State.chargeCalDone (s : State) (c i : Nat) (meas : Option ChargeCal) : State :=
  let s1 := s.modCrate c (fun g => { g with calPending := false })
  match meas.filter chargeAccepted with
  | some m => s1.modSlice c i (fun v => { v with newQ := some (chargeGain m, m.z) })
  | none => s1.detect 0x01 1 c i 3 (elemSlice c i)

/-- CHARGE_CAL_DONE (R105). -/
def execChargeCalDone (c : CrateId) (i : SliceId) (meas : Option ChargeCal) (s : State) :
    Host.Outcome State Fault Refusal :=
  .next (doIf (s.timingLive && decide ((s.crate c).calSlice = some i.val) && (s.crate c).calPending)
    (fun t => t.chargeCalDone c i meas) s)

/-! ## Code density (R92 to R94) -/

/-- The width table that a batch gives (R94). -/
def State.batchWidths (s : State) (c i : Nat) : List Nat :=
  (List.range 160).map (fun n => (roundDiv (16 * sparseGet (fun _ => 0) (s.slice c i).hits n * s.rd (TDC_CAL_p_est c i))
    (2 ^ s.cfgRd c (CRT_TDC_CFG_cd_batch c))).toNat)

/-- The batch is accepted (R94). -/
def State.batchAccepted (s : State) (c i : Nat) : Bool :=
  (s.slice c i).hits.all (fun p => decide (p.2 < 65535))
  && (s.checkedTaps c i).all (fun n =>
    decide (1024 ≤ (s.batchWidths c i).getD n 0) && decide ((s.batchWidths c i).getD n 0 ≤ 16384))

/-- CD_BATCH_END (R94); a crate that is OFF holds its status (R611). -/
def execCdBatchEnd (c : CrateId) (i : SliceId) (s : State) : Host.Outcome State Fault Refusal :=
  .next (doIf (s.timingLive && s.cratePowered c
      && decide (2 ^ s.cfgRd c (CRT_TDC_CFG_cd_batch c) ≤ (s.slice c i).batchStops)) (fun t =>
    let ok := t.batchAccepted c i
    let w := t.batchWidths c i
    let t1 := t.modSlice c i (fun v => { v with
      hits := [], batchStops := 0, newWidth := if ok then some w else v.newWidth })
    if ok then t1.bump (TDC_CD_STAT_batches c i) 1
    else (t1.bump (TDC_CD_STAT_cd_rej c i) 1).detect 0x01 1 c i 2 (elemSlice c i)) s)

/-! ## Tie-break (R111 to R113, R125) -/

/-- The largest deviation of a width table from the factory's, as parts of the factory entry. -/
def State.cdDeviation (s : State) (c i : Nat) : Nat × Nat :=
  (s.checkedTaps c i).foldl (fun best n =>
    let f := (Config.factoryTap c i n).toNat
    let u := (s.slice c i).width.getD n 0
    let d := max (u - f) (f - u)
    if best.1 * f < d * best.2 then (d, f) else best) (0, 1)

/-- The 4.4 code of the standard deviation of n calibrations with n² times the variance v (R125): 16√v/n; a value between two
codes takes either, one beyond the field its largest code (log 105). -/
def sdCode (v n : Nat) : Nat :=
  let q := isqrt (256 * v) / max 1 n
  min 255 (if q * n * (q * n) = 256 * v then q else q + (Config.tbSdUp v n).toNat)

/-- A deviation of d parts of f in per cent, saturating at 255 (R125); a value between two whole numbers takes either. -/
def devPercent (d f : Nat) : Nat :=
  if d = 0 then 0
  else if f = 0 then 255
  else min 255 (if 100 * d % f = 0 then 100 * d / f else 100 * d / f + (Config.tbCdUp d f).toNat)

/-- The measurements of a tie-break on one slice are kept (R112, R123, R125). DESIGN CHOICE (log 105): a calibration without a
measurement adds nothing to the sum and counts in the divisor; a mean outside unsigned 8.8 shows the end of the field. -/
def State.tieMeasure (s : State) (c i : Nat) (l : List (Option RingCal)) : State :=
  let dev := s.cdDeviation c i
  ((((s.put (TDC_TB_tb_p_mean c i) (clampInt 0 65535 (roundDiv (256 * calSum l calP) (max 1 l.length))).toNat).put
    (TDC_TB_tb_p_sd c i) (sdCode (calSpread l).toNat l.length)).put (TDC_TB_tb_cd_dev c i)
      (devPercent dev.1 dev.2)).putB (TDC_STATE_tb_cal_fail c i) (calFails l)).putB (TDC_STATE_tb_cd_fail c i)
        (s.cdFails c i)

/-- TIE_BREAK_END (R112): the results are kept, and the outcome waits for the apply instant. -/
def execTieBreakEnd (c : CrateId) (meas : TieMeas) (s : State) : Host.Outcome State Fault Refusal :=
  .next (match (s.crate c).tieRun with
  | none => s
  | some j => doIf (s.timingLive && s.cratePowered c) (fun t =>
      let res : TieRes := ⟨j, calFails meas.slice || t.cdFails c j, calFails meas.spare || t.cdFails c 16⟩
      ((((t.tieMeasure c j meas.slice).tieMeasure c 16 meas.spare).modCrate c (fun g => { g with
        tieRun := none, tieRes := some res })).modFlt (fun f => { f with changes := f.changes ++ [.tie c res] })).showPend) s)

/-- The outcome of a tie-break is applied (R112): the rows of its table in order. DESIGN CHOICE (log 122): a channel for which the
spare substitutes since the same apply instant has no server once the spare is SUSPECT, and is not removed. -/
def State.applyTie (s : State) (c : Nat) (r : TieRes) : State :=
  let row := if r.sliceFails then (if r.spareFails then 3 else 1) else (if r.spareFails then 2 else 4)
  let s1 := (s.modCrate c (fun g => { g with tieRes := none })).logService 0x23 1 c r.chan row
  match row with
  | 1 => s1.retire c r.chan 2
  | 2 => s1.retire c 16 2
  | 3 => (((s1.retire c 16 2).setRole c r.chan 6 r.chan).logService 0x20 1 c r.chan 2).removeChan c r.chan 2
  | _ => doIf (s1.role c 16 != 6) (fun t => (t.dropCal c).setRole c 16 5 0) (s1.removeChan c r.chan 2)

/-- CRT_SPR_CTL.clr_suspect returns a SUSPECT spare to FREE (R113, R118). -/
def State.clearSuspect (s : State) (c : Nat) : State :=
  if s.role c 16 = 5 then (s.setRole c 16 1 0).logService 0x26 1 c 0 0 else s

/-! ## Restoration (R565 to R567) -/

/-- Elements ask for their retest in the crate's next dwell (R566); those that ask while a retest runs, or waits for its outcome,
follow it with one of their own. -/
def Crate.askRetest (g : Crate) (m : BitVec 16) (sp : Bool) : Crate :=
  { g with retest := some (match g.retest with
    | none => ⟨m, sp, false, false, 0, 0, false, [], 0, false, false, 0, false⟩
    | some r =>
      if r.running || r.finished then { r with nextChans := r.nextChans ||| m, nextSpare := r.nextSpare || sp }
      else { r with chans := r.chans ||| m, spare := r.spare || sp }) }

/-- A request of CRT_RESTORE takes effect (R565, R584): for elements that are retired or removed by a cause that a retest
can lift. -/
def State.requestRestore (s : State) (c : Nat) (chans : BitVec 16) (spare : Bool) : State :=
  let m := maskOf (fun k => chans.getLsbD k && (s.role c k == 6 || (s.chan c k).remTie || (s.chan c k).remEcc))
  let sp := spare && s.role c 16 == 6
  doIf (m != 0 || sp) (fun t => (t.modCrate c (fun g => g.askRetest m sp)).putB (CRT_SVC_retest c) true) s

/-- Give an element its probation, and clear the strikes held against it (R558, R567). -/
def State.probation (s : State) (elem : Nat) : State :=
  s.modFlt (fun f => { f with
    probation := sparseSet (fun _ => 0) f.probation elem (s.clk.ftick + 1)
    strikes := f.strikes.filter (fun p => p.1 % 2 ^ 20 != elem) })

/-- One slice passed its retest: it serves again; a spare that substituted for it is FREE (R567). DEDUCED (log 107): its accepted
calibrations end the run of rejected ones that retired it (R90). -/
def State.restoreSlice (s : State) (c k : Nat) : State :=
  (((doIf (s.role c 16 == 4 && s.spareChan c == k) (fun t => (t.dropCal c).setRole c 16 1 0) ((s.setRole c k 0 k).put
    (TDC_CAL_STAT_bad_run c k) 0)).modChan c k (fun h => { h with remNoSpare := false, remTie := false })).showRemoved c k).probation (elemSlice c k)

/-- The outcome of a retest is applied (R567): of the elements that its dwell tested, those that pass are restored, the others are
logged. -/
def State.applyRestore (s : State) (c : Nat) : State :=
  match (s.crate c).retest with
  | none => s
  | some r =>
    let s1 := forAll chanNos (fun t k => doIf (r.sliceOut.getLsbD k) (fun u =>
      if r.passSlices.contains k then (u.restoreSlice c k).logService 0x24 1 c k 0 else u.logService 0x25 1 c k 0) t) s
    let s2 := forAll chanNos (fun t k => doIf (r.areaOut.getLsbD k) (fun u =>
      if r.passAreas.getLsbD k then
        (((u.modChan c k (fun h => { h with remEcc := false })).showRemoved c k).probation (elemArea (16 * c + k))).logService
          0x24 2 (16 * c + k) 0 0
      else u.logService 0x25 2 (16 * c + k) 0 0) t) s1
    let s3 := doIf r.spareOut (fun t =>
      if r.passSpare then (((t.setRole c 16 1 0).put (TDC_CAL_STAT_bad_run c 16) 0).probation (elemSlice c 16)).logService 0x24 1 c 16 0
      else t.logService 0x25 1 c 16 0) s2
    let s4 := (s3.modCrate c (fun g => { g with retest := none })).putB (CRT_SVC_retest c) false
    doIf (r.nextChans != 0 || r.nextSpare) (fun t =>
      (t.modCrate c (fun g => g.askRetest r.nextChans r.nextSpare)).putB (CRT_SVC_retest c) true) s4

end Sys2Proof.Machine
end

