-- ==== Sys2Proof/Machine/ZoneFeed.lean ====
section
/-! DEFINITION. The results of R287 on their way to zone evaluation: what a sweep awaits and what Churn delivers. -/

namespace Sys2Proof.Machine

/-- Channel k of crate c is in service for the zones: enabled, its crate ready, not removed (R60, R515, R562). -/
def State.inService (s : State) (c k : Nat) : Bool :=
  s.crateReady c && s.flag (CHN_FE_CFG_fe_en c k) && !s.removed c k

/-- A safety-class dwell of crate c begins at an angle: the present sweep awaits one result of each of its channels
(R287, R511). -/
def State.zoneExpect (s : State) (c : Nat) (angle : BitVec 16) : State :=
  s.modSaf (fun z => { z with
    zoneWait := z.zoneWait ++ chanNos.map (fun k => ⟨16 * c + k, angle, z.sweepSeq, s.inService c k⟩) })

/-- A result is the one that a sweep awaits. -/
def ZWait.is (w : ZWait) (chan : Nat) (angle : BitVec 16) (sweep : Nat) : Bool :=
  decide (w.chan = chan) && decide (w.angle = angle) && decide (w.sweep = sweep)

/-- ZONE_RESULT_DELIVERY (R287, R511): returns, or none where the dwell is missing. A result that comes after the summary
of its sweep has closed has counted as missing there. -/
def State.zoneDeliver (s : State) (c k : Nat) (angle : BitVec 16) (sweep : Nat) (r : Option (List ZRet)) : State :=
  match s.saf.zoneWait.find? (fun w => w.is (16 * c + k) angle sweep) with
  | none => s
  | some w => s.modSaf (fun z => { z with
      zoneWait := eraseFirst (fun x => x.is (16 * c + k) angle sweep) z.zoneWait
      zoneRes := if w.inService then z.zoneRes ++ [⟨16 * c + k, angle, sweep, r⟩] else z.zoneRes })

/-- The dwell is missing for every channel of crate c (R134, R259, R287). -/
def State.zoneMissing (s : State) (c : Nat) (angle : BitVec 16) (sweep : Nat) : State :=
  forAll chanNos (fun t k => t.zoneDeliver c k angle sweep none) s

end Sys2Proof.Machine
end

