-- ==== Sys2Proof/Machine/Shot.lean ====
section
/-! DEFINITION. The shot engine (spec/04_shot_engine.md R126 to R155): tables and banks, triggers, commits, hold and stop,
round and sweep boundaries. -/

namespace Sys2Proof.Machine

/-! ## The engine's registers (R151, R157 to R159, R167) -/

/-- The engine's state: 0 IDLE, 1 WAIT, 2 RUN, 3 HOLD, 4 STOPPING (R157). -/
def State.engine (s : State) : Nat := s.rd SHT_STATUS_state

/-- The bank of the next entry: the staged one while a swap waits only for the running entry's end (R154). -/
def State.nextBank (s : State) : List Entry := if s.shot.swap.any (fun w => w.due) then s.stagedBank else s.activeBank

/-- The next entry (R127, R132). -/
def State.nextEntry (s : State) : Option Entry := s.nextBank[s.shot.next]?

/-- SHT_STATUS shows the running entry, or the next one, and the pending swap; SHT_BANK_LEN the banks; SHT_SWAP_RND the round of a
swap that waits for one (R157 to R159). DESIGN CHOICE (log 123): with no entry running the next one is shown in IDLE, HOLD and STOPPING
too, and the round stays shown behind its swap. While the timing domain has no clock they hold what they show (R437). -/
def State.showShot (s : State) : State :=
  doIf s.timingLive (fun t =>
    let t1 := ((((t.put SHT_STATUS_entry (match t.shot.run with
      | some r => r.idx
      | none => t.shot.next)).putB SHT_STATUS_swap_pend t.shot.swap.isSome).putB SHT_STATUS_swap_at_rnd
        (t.shot.swap.any (fun w => w.atRound.isSome))).put SHT_BANK_LEN_act_len t.activeBank.length).put SHT_BANK_LEN_stg_len
          t.stagedBank.length
    match t.shot.swap.bind (fun w => w.atRound) with
    | none => t1
    | some r => t1.put SHT_SWAP_RND_round r.toNat) s

/-- Put the engine into a state. -/
def State.setEngine (s : State) (n : Nat) : State := (s.put SHT_STATUS_state n).showShot

/-- The committed shots since the last START (R167). -/
def State.shotCount (s : State) : DWord := joinWords (s.reg SHT_SHOTS_LO) (s.reg SHT_SHOTS_HI)

/-- Show a count of committed shots. -/
def State.setShotCount (s : State) (n : DWord) : State := (s.setReg SHT_SHOTS_LO (loWord n)).setReg SHT_SHOTS_HI (hiWord n)

/-! ## Loading and checking tables (R23, R131, R137, R153 to R155) -/

/-- The facet modulus M (R133). -/
def State.facetModulus (s : State) : Nat := 2 ^ (24 - s.rd SHT_CFG_fct)

/-- A field of the entry is not as R131 demands. -/
def State.entryBad (s : State) (e : Entry) : Bool :=
  e.trig == 3 || bitsOf e.w0 2 6 != 0 || bitsOf e.w2 20 12 != 0
  || (e.trig == 2 && e.trigVal != 0) || (e.trig == 1 && e.trigVal == 0) || (e.trig == 0 && decide (s.facetModulus ≤ e.trigVal))

/-- The repeats of the entry are too close (R131, R137). -/
def State.spacingBad (s : State) (e : Entry) : Bool :=
  decide (1 ≤ e.reps) && decide (e.spacing * lsbCoarse
    < lsbPre + s.rd (SHT_WPROF_A_main_len e.profile) * lsbCoarse + 2 * s.rd SHT_DITHER_amp)

/-- Two emitters of the entry arm one crate (R23). -/
def State.mapConflict (s : State) (e : Entry) : Bool :=
  !decide ((e.emitterList.filterMap (fun x => s.crateOfEmitter x)).Nodup)

/-- Four words of a table as an entry, from a list of words (R128). -/
def decodeEntries : Nat → List Word → List Entry
  | 0, _ => []
  | n + 1, ws => ⟨wordAt ws 0, wordAt ws 1, wordAt ws 2, wordAt ws 3⟩ :: decodeEntries n (ws.drop 4)

/-- The status with which a load is refused (R131, R153). -/
def State.loadStatus (s : State) (es : List Entry) : Option Nat :=
  if es.isEmpty && s.stagedBank.isEmpty then some stNO_TABLE
  else if es.any (fun e => s.entryBad e || s.spacingBad e) then some stBAD_ENTRY
  else if es.any (fun e => s.mapConflict e) then some stMAP_CONFLICT
  else if s.shot.swap.isSome then some stSWAP_PENDING
  else none

/-- Write the staged bank; a count of 0 writes nothing (R126, R153). -/
def State.writeStaged (s : State) (es : List Entry) : State :=
  if es.isEmpty then s
  else (s.modShot (fun h => if s.flag SHT_STATUS_act_bank then { h with bank0 := es } else { h with bank1 := es })).showShot

/-- BANK_SWAP (R154, R155): the banks exchange, the epoch increments, the load completes. -/
def State.doSwap (s : State) : State :=
  match s.shot.swap with
  | none => s
  | some w =>
    let s1 := (((s.putB SHT_STATUS_act_bank (!s.flag SHT_STATUS_act_bank)).modShot (fun h => { h with swap := none })).showShot
      ).bumpEpoch 3 0 0 0
    match w.cmd with
    | none => s1
    | some ref => s1.complete ref stOK (BitVec.ofNat 64 w.written) 1

/-! ## The entry that runs and the shot that the engine holds (R127, R132, R178) -/

/-- The entry whose shot the engine holds: the running one while a repeat is left, else the next; none for an engine that
stops. -/
def State.heldEntry (s : State) : Option Entry :=
  match s.shot.run with
  | some r => if r.committed ≤ r.entry.reps ∧ !r.ending then some r.entry
      else if s.engine = 4 then none else s.nextEntry
  | none => s.nextEntry

/-- The targets of the shot that the engine holds are loaded (R178). -/
def State.holdNext (s : State) : State :=
  match s.heldEntry with
  | none => s
  | some e => forAll e.emitterList (fun t x => t.holdShot x e.level) s

/-- The next entry starts at an instant; the one after it becomes next (R127, R132). -/
def State.startEntry (s : State) (start : Nat) : State :=
  match s.nextEntry with
  | none => s
  | some e => (s.modShot (fun h => { h with
      run := some ⟨h.next, e, start, 0, 0, 0, 0, 0, 0, start, [], false⟩,
      next := (h.next + 1) % max 1 s.nextBank.length,
      prevStart := start,
      delayDue := false })).setEngine 2

/-- The start instant that a DELAY trigger of the next entry gives (R132). -/
def State.delayStart (s : State) : Nat :=
  s.shot.prevStart + lsbTick * (match s.nextEntry with
    | none => 0
    | some e => e.trigVal)

/-- A CHAIN entry with no entry before it starts at once (R132). -/
def State.chainNow (s : State) : State :=
  doIf (s.shot.run.isNone && s.nextEntry.any (fun e => e.trig == 2)) (fun t => t.startEntry t.nowLsb) s

/-! ## Loading tables (R153, R154) -/

/-- No entry runs in this tick (R434): an entry runs from the commit of its repeat 0. -/
def State.noEntry (s : State) : Bool :=
  match s.shot.run with
  | none => true
  | some r => r.committed == 0

/-- A swap that fell due takes place where no entry runs and no snapshot waits for its strobe (R434, R435, R442; log 45); an engine in
WAIT starts a CHAIN entry 0 at once (R132, R154). -/
def State.dueSwap (s : State) : State :=
  doIf (s.timingLive && s.host.snaps.isEmpty && s.noEntry && s.shot.swap.any (fun w => w.due))
    (fun t => doIf (t.engine == 1) (fun u => u.chainNow) t.doSwap) s

/-- LOAD_SHOT_TABLE: validate, write the staged bank, request the swap (R131, R153, R154). -/
def State.loadTable (s : State) (c : Cmd) : State :=
  let n := bitsOf (wordAt c.words 1) 0 14
  let mode := bitsOf (wordAt c.words 1) 16 2
  let rnd := (wordAt c.words 2).extractLsb' 0 16
  let es := decodeEntries n c.list
  match s.loadStatus es with
  | some st => s.fail c.ref st
  | none =>
    let s1 := s.writeStaged es
    if mode = 0 then s1.complete c.ref stOK (BitVec.ofNat 64 n) 0
    else
      ((s1.openCmd c.ref).modShot (fun h => { h with
        swap := some ⟨some c.ref, if mode = 2 then some rnd else none, s.engineIdle, n⟩ })).showShot.dueSwap

/-- LOAD_SHOT_TABLE (R153). -/
def execLoadShotTable (ref : CmdRef) (s : State) : Host.Outcome State Fault Refusal :=
  .next (match s.waits ref 0x01 with
  | none => s
  | some c => doIf s.fabricReady (fun t => t.loadTable c) s)

/-! ## IDLE, START and STOP (R150 to R152, R385, R386) -/

/-- A pending swap is cancelled (R386). -/
def State.cancelSwap (s : State) : State :=
  match s.shot.swap with
  | none => s
  | some w =>
    let s1 := (s.modShot (fun h => { h with swap := none })).showShot
    match w.cmd with
    | none => s1
    | some ref => s1.complete ref stSTOPPED (BitVec.ofNat 64 w.written) 0

/-- The engine returns to IDLE: a pending swap is cancelled, STOPs complete, START completes with its progress, dumps and
captures end (R292, R295, R385, R386). -/
def State.toIdle (s : State) (status : Nat) : State :=
  let s1 := ((s.modShot (fun h => { h with run := none, delayDue := false })).setEngine 0).cancelSwap
  let s2 := forAll s1.shot.stopCmds (fun t ref => t.complete ref stOK 0 0) s1
  let s3 := match s2.shot.startCmd with
    | none => s2
    | some ref => s2.complete ref status s2.shotCount (w32 s2.shot.dwells)
  forAll crateNos (fun t c => t.endCaptures c stSTOPPED) (s3.modShot (fun h => { h with stopCmds := [], startCmd := none }))

/-- The status with which START is refused (R150). -/
def State.startStatus (s : State) : Option Nat :=
  if !s.engineIdle then some stBUSY
  else if !s.flag GLB_READY_tpll || !s.flag GLB_READY_crate_any then some stNOT_READY
  else if s.activeBank.isEmpty then some stNO_TABLE
  else if !s.permitNow then some stNO_PERMIT
  else none

/-- START accepted: WAIT, entry 0 next, full buckets, its targets loaded (R146, R150, R151, R178). DESIGN CHOICE (log 122): a DELAY
entry 0 counts its delay from the START. -/
def State.startEngine (s : State) (ref : CmdRef) : State :=
  let s1 := ((s.openCmd ref).setShotCount 0).modShot (fun h => { h with
    run := none, next := 0, prevStart := s.nowLsb, delayDue := false, startCmd := some ref, dwells := 0, aggregate := 256 })
  (((forAll emitterNos (fun t e => t.modEmit e (fun m => { m with credits := 32 })) s1).setEngine 1).holdNext).chainNow

/-- START (R150). -/
def execStart (ref : CmdRef) (s : State) : Host.Outcome State Fault Refusal :=
  .next (match s.waits ref 0x02 with
  | none => s
  | some _ => doIf s.fabricReady (fun t => match t.startStatus with
      | some st => t.fail ref st
      | none => t.startEngine ref) s)

/-- The engine goes to STOPPING; with no repeat committed no entry runs, and it is IDLE at once (R151, R152). -/
def State.stopEngine (s : State) : State :=
  let s1 := (s.modShot (fun h => { h with delayDue := false })).setEngine 4
  if s.shot.run.any (fun r => decide (0 < r.committed)) then s1 else s1.toIdle stOK

/-- STOP (R152, R385). -/
def execStop (ref : CmdRef) (s : State) : Host.Outcome State Fault Refusal :=
  .next (match s.waits ref 0x03 with
  | none => s
  | some _ => doIf s.fabricReady (fun t =>
      if t.engineIdle then t.complete ref stOK 0 0
      else
        let t1 := (t.openCmd ref).modShot (fun h => { h with stopCmds := h.stopCmds ++ [ref] })
        if t.engine = 4 then t1 else t1.stopEngine) s)

/-! ## The end of an entry (R132, R136, R151, R152) -/

/-- What follows an entry's end at the instant E: IDLE, HOLD, a CHAIN entry or a DELAY entry whose instant has passed, or
WAIT. -/
def State.afterEntry (s : State) (e : Nat) : State :=
  if s.engine = 4 then s.toIdle stOK
  else if s.engine = 3 then s.showShot
  else if s.shot.delayDue then s.startEntry (max e s.delayStart)
  else if s.nextEntry.any (fun x => x.trig == 2) then s.startEntry e
  else s.setEngine 1

/-- Crate c's dwell has had its last main window: the steps of the tracking loop and of the Skimmer (R43, R53). -/
def State.lastWindow (s : State) (c : Nat) : State :=
  (doIf (s.crate c).lastDwell.isSome (fun t => t.stepSettings c)
    (s.modCrate c (fun g => g.modLast (fun d => { d with ended := true })))).drainAll c

/-- ENTRY_END (R132, R150): the dwells of the entry have had their last windows; a swap that waited takes place. DESIGN CHOICE
(log 119): an entry that HOLD cuts short counts as a completed one. -/
def State.endEntry (s : State) (r : Run) : State :=
  let s1 := forAll r.crates (fun t p => t.lastWindow p.1) s
  ((s1.modShot (fun h => { h with run := none, dwells := h.dwells + 1 })).dueSwap).afterEntry r.close

/-- The main window of a crate closes (R58): a window without a start stays open for it. A window that has not opened has no start
(log 102). -/
def State.closeCrateWindow (s : State) (c rep : Nat) : State :=
  match (s.crate c).win.filter (fun w => w.rep == rep && !w.closed) with
  | some w =>
    if w.start.isSome then s.closeWindow c w false w.close
    else s.modCrate c (fun g => { g with win := some { w with closed := true } })
  | none => s.modCrate c (fun g => { g.modLast (fun d => { d with noStart := d.noStart + g.armNext.isSome.toNat }) with
      armNext := none })

/-- The main window of the oldest committed repeat closes (R58, R136). -/
def State.closeRepeat (s : State) (r : Run) : State :=
  let s1 := forAll r.crates (fun t p => t.closeCrateWindow p.1 r.closed) s
  let r1 := { r with closed := r.closed + 1 }
  if r1.closed = r1.committed ∧ (r1.ending ∨ r.entry.reps < r1.closed) then s1.endEntry r1
  else s1.modShot (fun h => { h with run := some r1 })

/-- MAIN_WINDOW_CLOSE (R58). -/
def execMainWindowClose (s : State) : Host.Outcome State Fault Refusal :=
  .next (match s.shot.run with
  | none => s
  | some r => doIf (s.timingLive && decide (r.closed < r.committed)) (fun t => t.closeRepeat r) s)

/-! ## Dither (R138 to R140) -/

/-- One shift of the Galois register (R138). -/
def lfsrShift (x : Word) : Word := if x.getLsbD 0 then (x >>> 1) ^^^ 0x80200003 else x >>> 1

/-- The state after the 16 shifts of a draw (R138). -/
def lfsrDraw (x : Word) : Word := (List.range 16).foldl (fun y _ => lfsrShift y) x

/-- The dither value of a state, −D to +D (R138). -/
def ditherValue (x : Word) (amp : Nat) : Int := ((x.toNat / 65536 * (2 * amp + 1) / 65536 : Nat) : Int) - amp

/-- The seed in force (R139). -/
def State.ditherSeed (s : State) : Word :=
  if s.reg SHT_DITHER_SEED = 0 then Config.ditherSeed else s.reg SHT_DITHER_SEED

/-- A hop (R140): the state XOR the key, or the key where that is 0. -/
def hopTo (x key : Word) : Word := if x ^^^ key = 0 then key else x ^^^ key

/-- SEED_RELOAD and DITHER_HOP at the start of an entry (R139, R140). -/
def State.seedAndHop (s : State) : State :=
  let s1 := doIf s.shot.seedPending (fun t => t.modShot (fun h => { h with lfsr := t.ditherSeed, seedPending := false })) s
  doIf s1.shot.hopPending (fun t => (t.bump SHT_DITHER_CTL_hops 1).modShot (fun h => { h with
    lfsr := hopTo h.lfsr (t.reg SHT_DITHER_HOP), hopPending := false })) s1

/-! ## Committing a repeat (R136, R142 to R148, R259, R320, R321) -/

/-- Shots may arm crate c: it is ready, arm_en is 1, it does not settle (R32, R148, R620). -/
def State.armable (s : State) (c : Nat) : Bool :=
  s.crateReady c && s.flag (CRT_CTRL_arm_en c) && !s.flag (CRT_FE_STAT_settling c)

/-- The upper 16 bits of the reported angle (R259). -/
def State.angle16 (s : State) : BitVec 16 := BitVec.ofNat 16 (s.rd MOT_ANGLE_angle / 256)

/-- The descriptor queue of a crate (R259). -/
def descQueueSize : Nat := 8

/-- CHU_DESC_STAT shows the queue's fill (R301). -/
def State.showDescQ (s : State) (c : Nat) : State := s.put (CHU_DESC_STAT_fill c) (s.crate c).descQ.length

/-- The descriptor of crate c's dwell (R259). -/
def State.descrOf (s : State) (r : Run) (d : Dwell) (c : Nat) : Descr :=
  { cbin := SHT_WPROF_B_cbin 0 |>.get r.profB, fbin := SHT_WPROF_B_fbin 0 |>.get r.profB
    fmode := SHT_WPROF_B_fmode 0 |>.get r.profB, splitN := SHT_WPROF_B_split_n 0 |>.get r.profB
    mainLen := SHT_WPROF_A_main_len 0 |>.get r.profA, blank := SHT_WPROF_A_blank 0 |>.get r.profA
    reps := r.entry.reps + 1, safety := r.entry.safety, ring := r.entry.ring, tag := r.entry.tag
    angle := s.angle16, round := BitVec.ofNat 16 (s.rd MOT_ROUND_round), epoch := s.epoch
    part := d.part, subst := maskOf (fun k => d.serve.getD k none == some 16), degraded := s.rd (CRT_SVC_removed c) != 0
    sweep := s.saf.sweepSeq, start := s.shot.startCmd, entry := s.shot.dwells + 1, number := (s.crate c).commitNo, cfg := d.cfg }

/-- The dwell that crate c opens, its roles planned (R22, R58, R107). -/
def State.dwellOf (s : State) (r : Run) (c : Nat) : Dwell :=
  { reps := r.entry.reps + 1, safety := r.entry.safety, fired := 0, noStart := 0, accepting := 0, cross := chanNos.map (fun _ => 0), lost := 0
    part := maskOf (fun k => s.takesPart c k), serve := chanNos.map (fun k => s.serverFor c k)
    shadow := if s.role c 16 = 2 then some (s.spareChan c) else none
    cfg := s.dwellCfg c, tests := (s.crate c).retest.any (fun x => x.planned), ended := false
    opened := false, oldTab := false, shadowMain := [], shadowSpare := [] }

/-- Crate c opens its dwell behind one that still closes. -/
def Crate.openBehind (g : Crate) (d : Dwell) : Crate :=
  match g.dwell with
  | none => { g with dwell := some d }
  | some _ => { g with dwellNext := some d }

/-- DWELL_DESCRIPTOR_WRITE (R259, R320, R643): crate c opens its dwell, or stays without one where it is not armed or its queue is
full; a safety dwell without one is missing (R287). -/
def State.openDwell (s : State) (r : Run) (c : Nat) : State × Bool :=
  if !s.armable c then
    (doIf r.entry.safety (fun t => (t.zoneExpect c t.angle16).zoneMissing c t.angle16 t.saf.sweepSeq) s, false)
  else if descQueueSize ≤ (s.crate c).descQ.length then
    (doIf r.entry.safety (fun t => (t.zoneExpect c t.angle16).zoneMissing c t.angle16 t.saf.sweepSeq)
      (s.bump (CHU_DESC_STAT_full_ct c) 1), false)
  else
    let s1 := doIf r.entry.safety (fun t => t.zoneExpect c t.angle16) (s.planDwell c r.entry.safety)
    let d := s1.dwellOf r c
    ((s1.modCrate c (fun g => { g.openBehind d with
      descQ := g.descQ ++ [s1.descrOf r d c]
      commitNo := if r.entry.safety then g.commitNo else g.commitNo + 1 })).showDescQ c |>.showQuiet c, true)

/-- Repeat 0: what is in force at the entry's start is kept, and the crates open their dwells (R142, R148, R259). -/
def State.firstRepeat (s : State) (r : Run) : State × Run :=
  let s1 := s.seedAndHop
  let r1 := { r with
    profA := s.reg (SHT_WPROF_A r.entry.profile), profB := s.reg (SHT_WPROF_B r.entry.profile)
    ditherAmp := s.rd SHT_DITHER_amp }
  r.entry.emitterList.foldl (fun p e => match p.1.crateOfEmitter e with
    | none => p
    | some c =>
      let q := p.1.openDwell p.2 c
      (q.1, if q.2 then { p.2 with crates := p.2.crates ++ [(c, e)] } else p.2)) (s1, r1)

/-- The trigger instant of the repeat to commit (R136). -/
def Run.trigger (r : Run) : Nat :=
  if r.committed = 0 then r.startLsb + lsbPre
  else ((r.startLsb + lsbPre + r.committed * r.entry.spacing * lsbCoarse : Nat) + r.nextDither).toNat

/-- The close of the main window of a repeat (R136). -/
def Run.mainClose (r : Run) : Nat := coarseEdge (r.trigger + (SHT_WPROF_A_main_len 0).get r.profA * lsbCoarse)

/-- The open dwell is a probe dwell (R320). -/
def Crate.probeDwell (g : Crate) (d : Dwell) : Bool :=
  !d.safety && d.rd STR_WIN_every != 0 && (g.commitNo - 1) % d.rd STR_WIN_every == 0

/-- Arm crate c for a repeat (R136, R144, R145, R321): the first armed window of a probe dwell runs without blanking. -/
def Crate.arm (g : Crate) (r : Run) (e : Nat) : Crate :=
  match g.lastDwell with
  | none => g
  | some d =>
    { g.modLast (fun x => { x with fired := x.fired + 1 }) with
      armNext := some { group := e / 8, trig := r.trigger, rep := r.committed
                        blank := if g.probeDwell d && d.fired == 0 then 0 else (SHT_WPROF_A_blank 0).get r.profA
                        close := r.mainClose, e0 := 0, accept := 0, start := none, blankEnd := none, closed := false } }

/-- Checks 2 to 5 for one emitter (R143, R144, R146, R193); one that passes is committed and arms its crate. -/
def State.tryEmitter (s : State) (r : Run) (e : Nat) : State :=
  if !s.flag (EMT_CFG_en e) then s.bump (EMT_STAT_off e) 1
  else if s.chgState e ≠ 3 then s.bump (EMT_STAT_late e) 1
  else if (s.emit e).credits = 0 ∨ s.shot.aggregate = 0 then s.bump (EMT_STAT_rate e) 1
  else match s.vetoOf e with
  | some f => (s.bump f 1).bump (EMT_STAT_veto e) 1
  | none =>
    let s1 := ((s.charge e).modEmit e (fun m => { m with
      credits := m.credits - 1, committed := true, trig := r.trigger })).modShot
      (fun h => { h with aggregate := h.aggregate - 1 })
    match r.crates.find? (fun p => p.2 == e) with
    | none => s1
    | some p => doIf (s1.crateReady p.1) (fun t => t.modCrate p.1 (fun g => g.arm r e)) s1

/-- DITHER_DRAW (R138): the next repeat's value, drawn in the commit tick of the repeat before it. -/
def State.drawDither (s : State) (r : Run) : State × Run :=
  if r.committed < r.entry.reps then
    (s.modShot (fun h => { h with lfsr := lfsrDraw h.lfsr }),
      { r with nextDither := ditherValue (lfsrDraw s.shot.lfsr) r.ditherAmp })
  else (s, r)

/-- A repeat is committed (R136, R143 to R148, R178). DESIGN CHOICE (log 119): it counts as a committed shot also where it fires
no emitter (R129, R167). -/
def State.commitRepeat (s : State) (r : Run) : State :=
  let p := if r.committed = 0 then s.firstRepeat r else (s, r)
  let s1 := (forAll p.2.entry.emitterList (fun t e => t.tryEmitter p.2 e) p.1).setShotCount (s.shotCount + 1)
  let q := s1.drawDither p.2
  (q.1.modShot (fun h => { h with run := some { q.2 with committed := r.committed + 1, close := p.2.mainClose } })).holdNext

/-- The permit is absent at a commit tick (R143, R151): nothing further is committed; an engine that stops goes on
stopping. Behind a swap that waits for the entry's end, entry 0 of the new bank follows (R154). DESIGN CHOICE (log 122): an entry
refused at its first commit is the one that was running, so the resumption begins behind it and does not count it as missed. -/
def State.holdEngine (s : State) (r : Run) : State :=
  let s1 := if s.engine = 4 then s else ((s.bump SHT_HOLD_holds 1).modShot (fun h => { h with
    resumeAt := some (if h.swap.any (fun w => w.due) then 0 else r.idx + 1) })).setEngine 3
  if r.committed = 0 then
    if s1.engine = 4 then s1.toIdle stOK else (s1.modShot (fun h => { h with run := none })).dueSwap.showShot
  else if r.closed = r.committed then s1.endEntry r
  else s1.modShot (fun h => { h with run := some { r with ending := true } })

/-- The repeat may be committed: one is left, and the crates of the entry have room for its window. -/
def State.commitDue (s : State) (r : Run) : Bool :=
  !r.ending && decide (r.committed ≤ r.entry.reps) && decide (r.committed ≤ r.closed + 1)
  && (r.entry.emitterList.filterMap (fun e => s.crateOfEmitter e)).all (fun c =>
      (s.crate c).armNext.isNone && (decide (0 < r.committed) || (s.crate c).dwellNext.isNone))

/-- SHOT_COMMIT (R143): bins that end in the tick roll first (R191). -/
def execShotCommit (binEcc : Ecc) (s : State) : Host.Outcome State Fault Refusal :=
  .next (match s.shot.run with
  | none => s
  | some r => doIf (s.timingLive && s.commitDue r) (fun t =>
      let t1 := t.rollShort.rollLong.accountantEcc binEcc
      if t1.permitNow then t1.commitRepeat r else t1.holdEngine r) s)

/-! ## Triggers (R132 to R135) -/

/-- The engine watches the trigger of its next entry: WAIT or RUN (R132, R151). -/
def State.watches (s : State) (trig : Nat) : Bool :=
  s.timingLive && (s.engine == 1 || s.engine == 2) && s.nextEntry.any (fun e => e.trig == trig)

/-- How far x lies beyond a, modulo m (R133). -/
def beyond (m x a : Nat) : Nat := (x % m + m - a % m) % m

/-- The angle has passed a in this tick, modulo m (R133): both samples valid, the rotation forward. -/
def State.passes (s : State) (m a : Nat) : Bool :=
  match s.motor.prevAngle with
  | none => false
  | some p => s.flag MOT_ANGLE_valid && !s.flag MOT_STATUS_dir
    && decide (2 * beyond m (s.rd MOT_ANGLE_angle) a < m) && decide (m ≤ 2 * beyond m p a)

/-- The angle of the next entry matches (R133). -/
def State.angleMatches (s : State) : Bool := s.nextEntry.any (fun e => s.passes s.facetModulus e.trigVal)

/-! ## Round and sweep boundaries (R149, R154, R235, R433, R511) -/

/-- A round boundary of this tick that has not taken place yet (R235). -/
def State.roundDue (s : State) : Bool :=
  s.timingLive && s.passes fullAngle 0 && decide (s.motor.passTick ≠ some s.clk.tick)

/-- A sweep boundary of this tick that has not taken place yet (R149). -/
def State.sweepDue (s : State) : Bool :=
  s.timingLive && s.passes s.facetModulus 0 && decide (s.motor.sweepTick ≠ some s.clk.tick)

/-- SYNC_PULSE (R149): a pulse of SHT_SYNC.pw coarse periods from the present tick on. -/
def State.syncPulse (s : State) (mode : Nat) : State :=
  doIf (s.rd SHT_SYNC_mode == mode) (fun t => t.modShot (fun h => { h with
    syncPulses := h.syncPulses + 1, syncPulse := some (t.nowLsb, t.nowLsb + lsbCoarse * t.rd SHT_SYNC_pw) })) s

/-- An entry that has started and committed no repeat does not run (R434): at a swap's boundary the entry 0 of the new bank takes its
place. DESIGN CHOICE (log 123). -/
def State.dropStarted (s : State) : State :=
  doIf (s.shot.run.any (fun r => r.committed == 0)) (fun t => (t.modShot (fun h => { h with run := none })).setEngine 1) s

/-- A requested swap falls due at a round boundary (R153, R154): entry 0 of the staged bank becomes next. -/
def State.swapAtRound (s : State) : State :=
  let rnd := BitVec.ofNat 16 (s.rd MOT_ROUND_round)
  doIf (!s.engineIdle && s.shot.swap.any (fun w => !w.due && (match w.atRound with
      | none => true
      | some r => decide (r = rnd))))
    (fun t => (t.dropStarted.modShot (fun h => { h with
      swap := h.swap.map (fun w => { w with due := true }), next := 0, resumeAt := none
      delayDue := false })).dueSwap.showShot.holdNext) s

/-- Transactions that wait for this round fall due (R433). -/
def State.txnsAtRound (s : State) : State :=
  let rnd := BitVec.ofNat 16 (s.rd MOT_ROUND_round)
  s.modHost (fun h => { h with txns := h.txns.map (fun x =>
    if x.atPoint = 1 ∨ (x.atPoint = 2 ∧ x.round = rnd) then { x with due := true } else x) })

/-- A sweep boundary (R149, R511): a zone sweep ends and the next one begins. -/
def State.sweepBoundary (s : State) : State :=
  ((s.modMotor (fun m => { m with sweepTick := some s.clk.tick })).syncPulse 2).modSaf (fun z => { z with
    closing := z.closing ++ [z.sweepSeq], sweepSeq := (z.sweepSeq + 1) % 256 })

/-- A round boundary (R154, R235, R433), which is a sweep boundary too (R149). -/
def State.roundBoundary (s : State) : State :=
  doIf (decide (s.motor.sweepTick ≠ some s.clk.tick)) (fun t => t.sweepBoundary)
    ((((s.wrapInc MOT_ROUND_round).modMotor (fun m => { m with passTick := some s.clk.tick })).syncPulse 1
      ).swapAtRound.txnsAtRound)

/-- ROUND_BOUNDARY (R235). -/
def execRoundBoundary (s : State) : Host.Outcome State Fault Refusal :=
  .next (doIf s.roundDue (fun t => t.roundBoundary) s)

/-- SWEEP_BOUNDARY (R149, R511). -/
def execSweepBoundary (s : State) : Host.Outcome State Fault Refusal :=
  .next (doIf s.sweepDue (fun t => t.sweepBoundary) s)

/-! ## Entries at their triggers (R132 to R135) -/

/-- ENTRY_SKIP (R134): the next entry is skipped; the one after it becomes next. The crates of a safety-class entry miss a
dwell. -/
def State.skipEntry (s : State) (e : Entry) : State :=
  let s1 := s.bump SHT_SKIP_skip 1
  let s2 := doIf e.safety (fun t => forAll (e.emitterList.filterMap (fun x => t.crateOfEmitter x)) (fun u c =>
    (u.zoneExpect c u.angle16).zoneMissing c u.angle16 u.saf.sweepSeq) t) s1
  let s3 := (s2.modShot (fun h => { h with
    prevStart := s.nowLsb, next := (h.next + 1) % max 1 s.nextBank.length, delayDue := false })).showShot
  doIf (s3.shot.run.all (fun r => r.ending || decide (r.entry.reps < r.committed))) (fun t => t.holdNext) s3

/-- The match of an ANGLE entry (R132 to R134): it starts, or is skipped while an entry runs. -/
def State.angleTrigger (s : State) : State :=
  if s.shot.run.isNone then s.startEntry s.nowLsb
  else match s.nextEntry with
  | none => s
  | some e => s.skipEntry e

/-- ANGLE_TRIGGER (R132 to R135): a round boundary of the same tick comes first. -/
def execAngleTrigger (s : State) : Host.Outcome State Fault Refusal :=
  let s1 := doIf s.roundDue (fun t => t.roundBoundary) s
  .next (doIf (s1.watches 0 && s1.angleMatches) (fun t => t.angleTrigger) s1)

/-- DELAY_TRIGGER (R132): while an entry runs, the next one starts at its end, or at its own instant where that lies later. -/
def execDelayTrigger (s : State) : Host.Outcome State Fault Refusal :=
  .next (doIf (s.watches 1) (fun t =>
    if t.shot.run.isSome then t.modShot (fun h => { h with delayDue := true })
    else t.startEntry (max t.nowLsb t.delayStart)) s)

/-- CREDIT_REFILL (R146). -/
def execCreditRefill (e : Option EmitId) (s : State) : Host.Outcome State Fault Refusal :=
  .next (doIf s.timingLive (fun t => match e with
    | some i => t.modEmit i (fun m => { m with credits := min 32 (m.credits + 1) })
    | none => t.modShot (fun h => { h with aggregate := min 256 (h.aggregate + 1) })) s)

/-! ## The permit's return (R151, R194) -/

/-- HOLD_RESUME (R151): the next entry is the first ANGLE entry at or after the one that follows the entry that was running, or
that one itself in a bank without ANGLE entries; the entries passed over are counted. -/
def State.resumeEngine (s : State) : State :=
  let n := max 1 s.nextBank.length
  let i := s.shot.resumeAt.getD s.shot.next
  let j := ((List.range n).find? (fun x => (s.nextBank[(i + x) % n]?).any (fun e => e.trig == 0))).getD 0
  (((s.bump SHT_HOLD_missed j).modShot (fun h => { h with
    next := (i + j) % n, resumeAt := none, delayDue := false })).setEngine 1).holdNext.chainNow

/-- LASER_PERMIT_CHANGE (R151, R194), in a tick of the timing domain (R437). -/
def execLaserPermitChange (s : State) : Host.Outcome State Fault Refusal :=
  .next (doIf s.timingLive (fun t =>
    let t1 := t.showPermit
    doIf (t1.engine == 3 && t1.permitNow) (fun u => u.resumeEngine) t1) s)

/-! ## Losses (R82, R151) -/

/-- The engine stops at once: it fires no further shot, and START completes with a status. -/
def State.abortEngine (s : State) (status : Nat) : State :=
  let s1 := forAll emitterNos (fun t e => t.modEmit e (fun m => { m with committed := false })) s
  if s.engineIdle then s1 else s1.toIdle status

end Sys2Proof.Machine
end

