-- ==== Sys2Proof/Machine/Churn.lean ====
section
/-! DEFINITION. Churn (spec/07_histogram_engine.md R254 to R274, R285, R286, R289 to R295): descriptors, accumulation, window and
dwell markers, scrubbing, dump and capture commands. -/

namespace Sys2Proof.Machine

/-- Churn works: the fabric runs and its ready bit is set (R551). -/
def State.churnLive (s : State) : Bool := s.fabricReady && s.flag GLB_READY_churn

/-- A field of the descriptor's configuration as two's complement. -/
def Descr.rdInt (d : Descr) (f : FRef) : Int :=
  if d.rd f < 2 ^ (f.width - 1) then (d.rd f : Int) else (d.rd f : Int) - 2 ^ f.width

/-- The coarse bin width in LSB (R262). -/
def Descr.wc (d : Descr) : Nat := 2 ^ (d.cbin + 4)
/-- The fine bin width in LSB (R263). -/
def Descr.wf (d : Descr) : Nat := 2 ^ d.fbin
/-- The coverage L (R262). -/
def Descr.coverage (d : Descr) : Nat := 512 * d.wc - 4096

/-! ## Memory errors (R285) -/

/-- CHU_ECC counts an error; an uncorrectable one of channel k is a detection against its area (R285, R298). -/
def State.eccNote (s : State) (c k : Nat) (ecc : Ecc) : State :=
  match ecc with
  | .clean => s
  | .corrected => s.bump (CHU_ECC_ce_ct c) 1
  | .uncorrectable word =>
    (((s.bump (CHU_ECC_ue_ct c) 1).putB (CHU_ECC_ue_seen c) true).put (CHU_ECC_ue_chan c) k).detect 0x09 2 (16 * c + k) 0
      word.toNat (elemArea (16 * c + k))

/-- A read of buffer x of channel k: an uncorrectable error makes its dwell corrupt (R285). -/
def State.eccRead (s : State) (c k : Nat) (x : Bool) (ecc : Ecc) : State :=
  doIf (eccBad ecc) (fun t => t.modBuf c k x (fun b => { b with corrupt := true })) (s.eccNote c k ecc)

/-- The reads of one pass over buffer x of channel k: each error counts (R285). -/
def State.eccReads (s : State) (c k : Nat) (x : Bool) (l : List Ecc) : State := forAll l (fun t e => t.eccRead c k x e) s

/-- SCRUB (R286): a word of channel ⌊word/512⌋, of its buffer 1 where bit 8 is set; the bank of a crate that is OFF has no clock
(R603). -/
def execScrub (c : CrateId) (word : BitVec 13) (ecc : Ecc) (s : State) : Host.Outcome State Fault Refusal :=
  .next (doIf (s.churnLive && s.cratePowered c) (fun t => t.eccRead c (word.toNat / 512) (word.getLsbD 8) ecc) s)

/-! ## Fine windows (R263 to R268) -/

/-- The start for a candidate time τ before the limits of R266. -/
def startOf (tau : Int) (wf : Nat) : Int := (tau / 16 - 64 * wf) / wf * wf

/-- Placement in ascending order of the starts (R266); the argument is the end of the window placed before. -/
def placeAfter (wf cover : Nat) : Nat → List Int → List Nat
  | _, [] => []
  | lo, x :: t =>
    let f := max (min (max (x / wf * wf) 0) ((cover : Int) - 128 * wf)) lo
    if 0 ≤ f ∧ f + 128 * wf ≤ cover then f.toNat :: placeAfter wf cover (f.toNat + 128 * wf) t
    else placeAfter wf cover lo t

/-- The fine windows of a set of starts, 0 to 3 (R266). -/
def Descr.place (d : Descr) (starts : List Int) : List (Option Nat) :=
  let l := (placeAfter d.wf d.coverage 0 (starts.foldr insertInt [])).take 4
  (List.range 4).map (fun n => l[n]?)

/-- The candidate times of the reference dwell, where it has any (R265): the channel's most recent extracted dwell, one of
its two preceding ones. -/
def Chan.reference (h : Chan) : Option (List Int) :=
  ((h.refs.take 2).findSome? (fun p => p.2)).filter (fun l => !l.isEmpty)

/-- The host's starts for fmode 2, as they are when the descriptor is read (R264, R268). -/
def State.hostStarts (s : State) (c k : Nat) : List Int :=
  ((List.range 4).filter (fun n => s.flag (CHU_FWIN_en c k n))).map (fun n => (s.rd (CHU_FWIN_start c k n) : Int))

/-- CHU_FPOS shows a placement (R304). -/
def State.showFine (s : State) (c k : Nat) (l : List (Option Nat)) : State :=
  forAll (List.range 4) (fun t n => (t.putB (CHU_FPOS_placed c k n) (l.getD n none).isSome).put (CHU_FPOS_start c k n)
    ((l.getD n none).getD 0)) s

/-- Replace the fine windows of a buffer. -/
def State.setFine (s : State) (c k : Nat) (x : Bool) (l : List (Option Nat)) : State :=
  (s.modBuf c k x (fun b => { b with fine := l })).showFine c k l

/-- No window placed. -/
def noFine : List (Option Nat) := [none, none, none, none]

/-- FINE_WINDOW_PLACE when the descriptor is read (R264 to R266). -/
def State.placeFine (s : State) (c k : Nat) (x : Bool) (fmode : Nat) (d : Descr) : State :=
  if fmode = 1 then
    match (s.chan c k).reference with
    | none => (s.bump (CHU_STAT_zoom_miss c) 1).setFine c k x noFine
    | some l => s.setFine c k x (d.place (l.map (fun t => startOf t d.wf)))
  else if fmode = 2 then s.setFine c k x (d.place (s.hostStarts c k))
  else s.setFine c k x noFine

/-! ## Descriptors (R259, R260, R272, R273, R320) -/

/-- A channel of the dwell takes its accumulating buffer, or its dwell is late (R272, R273). DESIGN CHOICE (log 123): a late dwell, which
places no window, leaves CHU_FPOS as the dwell before it placed them (R266, R304). -/
def State.takeBuf (s : State) (c k id fmode : Nat) (probe : Bool) (d : Descr) : State :=
  let x := (s.chan c k).accBuf
  let refs := s.modChan c k (fun h => { h with refs := ((id, none) :: h.refs).take 3 })
  if ((s.chan c k).buf x).st = .free then
    ((s.placeFine c k x fmode d).modChan c k (fun h => { h with refs := ((id, none) :: h.refs).take 3 })).modBuf c k x
      (fun b => { b with st := .accum, dwell := some d, fmode := fmode, probe := probe, dwellId := id })
  else (refs.bump (CHU_STAT_late_ct c) 1).modCrate c (fun g => { g with late := g.late ||| (1#16 <<< k) })

/-- Churn reads the next descriptor of a crate. DESIGN CHOICE (log 123): under a RAW_CAPTURE the dwells that open from the first boundary
on lack FINE (R294); the one that closes there had its windows before. -/
def State.readDescr (s : State) (c : Nat) (d : Descr) : State :=
  let g := s.crate c
  let every := d.rd STR_WIN_every
  let probe := !d.safety && every != 0 && d.number % every == 0
  let s1 := (s.modCrate c (fun g => { g with
    descQ := g.descQ.tail, cur := some d, curProbe := probe, curWindows := 0, curLost := 0, late := 0, nextId := g.nextId + 1 })).showDescQ c
  let s2 := forAll chanNos (fun t k => doIf (d.part.getLsbD k)
    (fun u => u.takeBuf c k (g.nextId + 1) (if g.rawBlocksFine then 0 else d.fmode) probe d) t)
      (doIf probe (fun t => t.bump (STR_CRT_probes c) 1) s1)
  doIf ((s2.crate c).late != 0) (fun t => t.post 0x26 1 c [w32 (t.crate c).late.toNat]) s2

/-- DESCRIPTOR_READ (R260). -/
def execDescriptorRead (c : CrateId) (s : State) : Host.Outcome State Fault Refusal :=
  .next (match (s.crate c).cur, (s.crate c).descQ with
  | none, d :: _ => doIf s.churnLive (fun t => t.readDescr c d) s
  | _, _ => s)

/-! ## Accumulation (R261 to R271, R293, R424) -/

/-- The normalised charge Q (R49). -/
def Evt.charge (e : Evt) (auto : Bool) : Nat := if auto then e.code * 4 ^ e.range else 40 * e.code

/-- What an event does to one accumulator (R270). -/
def Acc.take (a : Acc) (e : Evt) (q : Nat) : Acc :=
  if e.overRange then { a with overs := min 65535 (a.overs + 1) }
  else if e.settle then { a with settle := min 65535 (a.settle + 1) }
  else if e.merged then a
  else { a with sum := a.sum + q, usable := min 65535 (a.usable + 1) }

/-- An accumulator that holds nothing. -/
def Acc.zero : Acc := ⟨0, 0, 0, 0⟩

/-- The accumulators of a buffer, one for each coarse block and, from 16 up, one for each fine window (R269). -/
def Buf.acc (b : Buf) (i : Nat) : Acc := sparseGet (fun _ => Acc.zero) b.accs i

/-- An event updates one accumulator (R270). -/
def Buf.charge (b : Buf) (i : Nat) (e : Evt) (q : Nat) : Buf :=
  { b with accs := sparseSet (fun _ => Acc.zero) b.accs i ((b.acc i).take e q) }

/-- The fine window and bin of an interval (R263). -/
def fineOf (l : List (Option Nat)) (wf i : Nat) : Option (Nat × Nat) :=
  (List.range 4).findSome? (fun n => match l.getD n none with
    | none => none
    | some f => if f ≤ i ∧ i < f + 128 * wf then some (n, (i - f) / wf) else none)

/-- Add 1 to a bin of the bank; a bin saturates (R258). -/
def State.binInc (s : State) (c b : Nat) : State := s.setBankHalf c b (min 65535 (s.bankHalf c b + 1))

/-- The distance of two numbers. -/
def natDist (a b : Nat) : Nat := max (a - b) (b - a)

/-- The nearest listed bin within sep bins, the lower on a tie (R267). -/
def nearestSplit (l : List SplitBin) (b sep : Nat) : Option SplitBin :=
  (l.filter (fun x => decide (natDist x.bin b ≤ sep))).foldl (fun best x => match best with
    | none => some x
    | some y => if natDist x.bin b < natDist y.bin b ∨ (natDist x.bin b = natDist y.bin b ∧ x.bin < y.bin) then some x
      else some y) none

/-- The listed bin of lowest count, the older on a tie (R267). -/
def lowestSplit (l : List SplitBin) : Option SplitBin :=
  l.foldl (fun best x => match best with
    | none => some x
    | some y => if x.count < y.count then some x else some y) none

/-- Replace a listed bin by a new one, the youngest. -/
def swapSplit (l : List SplitBin) (old : SplitBin) (b h : Nat) : List SplitBin :=
  l.filter (fun x => x.bin != old.bin) ++ [⟨b, h⟩]

/-- The split list after coarse bin b reaches count h (R267); the list holds its oldest bin first. -/
def splitUpdate (l : List SplitBin) (b h sep : Nat) : List SplitBin :=
  if l.any (fun x => x.bin == b) then l.map (fun x => if x.bin = b then ⟨b, h⟩ else x)
  else match nearestSplit l b sep with
  | some y => if y.count < h then swapSplit l y b h else l
  | none =>
    if l.length < 4 then l ++ [⟨b, h⟩]
    else match lowestSplit l with
    | none => l
    | some y => if y.count < h then swapSplit l y b h else l

/-- An event enters the coarse histogram, the fine windows and the charge sums of its buffer (R262, R263, R267, R270, R322). -/
def State.histEvent (s : State) (c k : Nat) (x : Bool) (d : Descr) (e : Evt) (i b : Nat) : State :=
  let q := e.charge (d.rd (CRT_FE_fe_mode c) == 1)
  let s1 := s.binInc c (coarseAt k x b)
  let fine := fineOf ((s.chan c k).buf x).fine d.wf i
  let s2 := match fine with
    | none => s1
    | some p => s1.binInc c (fineAt k x p.1 p.2)
  let first := (s.crate c).curWindows
  s2.modBuf c k x (fun u =>
    let v := match fine with
      | none => u.charge (b / 32) e q
      | some p => (u.charge (b / 32) e q).charge (16 + p.1) e q
    let near := v.probe && first == 0 && decide (i < d.rd STR_WIN_zone_end)
    { v with
      events := v.events + 1
      split := if v.fmode = 3 ∧ first < d.splitN then
        splitUpdate v.split b (s1.bankHalf c (coarseAt k x b)) (d.rd (CHU_PEAK_CFG_sep c)) else v.split
      probeSum := if near && !e.overRange && !e.settle && !e.merged then min 65535 (v.probeSum + q) else v.probeSum
      probeOver := v.probeOver || (near && e.overRange) })

/-- An event of a channel that accumulates (R261, R262, R271). -/
def State.bufEvent (s : State) (c k : Nat) (x : Bool) (d : Descr) (e : Evt) : State :=
  if e.interval < 0 then s.modBuf c k x (fun b => { b with preCount := b.preCount + 1 })
  else
    let i := e.interval.toNat
    let s1 := doIf e.nearBlank (fun t => t.modBuf c k x (fun b => { b with
      nearBlank := some (max i (b.nearBlank.getD 0)) })) s
    if 512 ≤ (i + 4096) / d.wc then s1.bump (CHU_STAT_beyond c) 1
    else s1.histEvent c k x d e i ((i + 4096) / d.wc)

/-- A raw event (R424). -/
def Evt.rawWords (e : Evt) (c : Nat) : Word × Word :=
  (w32 ((e.interval % 2 ^ 24).toNat + 2 ^ 24 * e.chan + 2 ^ 28 * e.overRange.toNat + 2 ^ 29 * e.settle.toNat
      + 2 ^ 30 * e.merged.toNat + 2 ^ 31 * e.nearBlank.toNat),
    w32 (e.code + 2 ^ 10 * e.range + 2 ^ 12 * e.atRes.toNat + 2 ^ 13 * e.subst.toNat + 2 ^ 15 * (e.rep % 4096) + 2 ^ 27 * c))

/-- RAW_EVENT_WRITE (R293, R294): an event of a masked channel during capture, up to the limit. -/
def State.rawEvent (s : State) (c : Nat) (e : Evt) : State :=
  match (s.crate c).raw with
  | none => s
  | some r =>
    if r.stage = .capturing ∧ r.mask.getLsbD e.chan ∧ (r.pre ∨ 0 ≤ e.interval) then
      if r.written < r.limit then
        (s.modCrate c (fun g => { g with raw := some { r with written := r.written + 1 } })).putUnit c (e.rawWords c)
      else s.modCrate c (fun g => { g with raw := some { r with beyond := r.beyond + 1 } })
    else s

/-- The channel accumulates in the dwell that Churn reads: it takes part, and its dwell is not late (R273, R274). -/
def State.accumulates (s : State) (c k : Nat) (d : Descr) : Bool := d.part.getLsbD k && !(s.crate c).late.getLsbD k

/-- EVENT_ACCUMULATE (R261). -/
def State.takeEvent (s : State) (c : Nat) (d : Descr) (e : Evt) (ecc : List Ecc) : State :=
  let s1 := (s.modCrate c (fun g => { g with fifo := g.fifo.tail })).rawEvent c e
  doIf (s1.accumulates c e.chan d)
    (fun t => (t.eccReads c e.chan (t.chan c e.chan).accBuf ecc).bufEvent c e.chan (t.chan c e.chan).accBuf d e) s1

/-- EVENT_ACCUMULATE (R261). -/
def execEventAccumulate (c : CrateId) (ecc : List Ecc) (s : State) : Host.Outcome State Fault Refusal :=
  .next (match (s.crate c).fifo, (s.crate c).cur with
  | .event e :: _, some d => doIf s.churnLive (fun t => t.takeEvent c d e ecc) s
  | _, _ => s)

/-! ## Window-close markers (R260, R267) -/

/-- The starts of a split list (R267). -/
def Descr.splitStarts (d : Descr) (c : Nat) (l : List SplitBin) : List Int :=
  (l.filter (fun x => decide (d.rd (CHU_PEAK_CFG_min_net c) ≤ x.count))).map (fun x =>
    startOf (8 * (2 * (x.bin : Int) + 1) * d.wc - 65536) d.wf)

/-- Churn reads a window-close marker: at the split_n-th the split windows are placed. -/
def State.readWindowClose (s : State) (c : Nat) (d : Descr) (lost : BitVec 16) : State :=
  let s1 := s.modCrate c (fun g => { g with
    fifo := g.fifo.tail, curWindows := g.curWindows + 1, curLost := g.curLost ||| lost })
  doIf ((s1.crate c).curWindows == d.splitN) (fun t => forAll chanNos (fun u k =>
    let x := (u.chan c k).accBuf
    doIf (u.accumulates c k d && ((u.chan c k).buf x).fmode == 3)
      (fun v => v.setFine c k x (d.place (d.splitStarts c ((u.chan c k).buf x).split))) u) t) s1

/-- WINDOW_CLOSE_READ (R260). -/
def execWindowCloseRead (c : CrateId) (s : State) : Host.Outcome State Fault Refusal :=
  .next (match (s.crate c).fifo, (s.crate c).cur with
  | .windowClose lost _ :: _, some d => doIf s.churnLive (fun t => t.readWindowClose c d lost) s
  | _, _ => s)

/-! ## The dwell boundary (R272, R275, R287, R290 to R294, R325) -/

/-- Buffers that an extractor may take, as (dwell, channel, buffer) (R275). -/
def State.fullBufs (s : State) (c e : Nat) : List (Nat × Nat × Bool) :=
  ((List.range 8).map (fun i => 8 * e + i)).flatMap (fun k =>
    ([false, true].filter (fun x => decide (((s.chan c k).buf x).st = .full))).map (fun x =>
      (((s.chan c k).buf x).dwellId, k, x)))

/-- Extractor e works on a channel. -/
def State.extracting (s : State) (c e : Nat) : Bool :=
  ((List.range 8).map (fun i => 8 * e + i)).any (fun k => decide ((s.chan c k).buf0.st = .extract)
    || decide ((s.chan c k).buf1.st = .extract))

/-- The oldest dwell first, then the lowest channel. -/
def firstFull (l : List (Nat × Nat × Bool)) : Option (Nat × Nat × Bool) :=
  l.foldl (fun best p => match best with
    | none => some p
    | some q => if p.1 < q.1 ∨ (p.1 = q.1 ∧ p.2.1 < q.2.1) then some p else some q) none

/-- Each extractor that is idle takes its next channel (R272, R275). -/
def State.nextExtract (s : State) (c : Nat) : State :=
  forAll [0, 1] (fun t e => if t.extracting c e then t else match firstFull (t.fullBufs c e) with
    | none => t
    | some p => t.modBuf c p.2.1 p.2.2 (fun b => { b with st := .extract })) s

/-- HIST_DUMP completes when its count is reached (R292). -/
def State.finishDump (s : State) (c : Nat) : State :=
  match (s.crate c).dump with
  | none => s
  | some d => if d.started ∧ d.dwells ≤ d.seen ∧ d.due.isEmpty then s.endDump c stOK else s

/-- A dwell boundary for a HIST_DUMP (R290): the first one starts it; each dwell that follows gives its masked channels. A
dump whose command a function-level reset has abandoned ends here (R394). -/
def State.dumpBoundary (s : State) (c id : Nat) (used : BitVec 16) : State :=
  match (s.crate c).dump with
  | none => s
  | some d =>
    if d.cmd.isNone then s.endDump c stABORTED
    else if !d.started then s.modCrate c (fun g => { g with dump := some { d with started := true } })
    else if d.dwells ≤ d.seen then s
    else
      let m := used &&& d.mask
      let d1 := if m = 0 then { d with seen := d.seen + 1, full := d.full + 1 }
        else { d with seen := d.seen + 1, due := d.due ++ [(id, m)] }
      (forAll chanNos (fun t k => doIf (m.getLsbD k) (fun u => u.modBuf c k (!(u.chan c k).accBuf) (fun b => { b with
        dumpDue := true })) t) (s.modCrate c (fun g => { g with dump := some d1 }))).finishDump c

/-- A raw marker unit (R425). -/
def rawMarker (c : Nat) (d : Descr) (fired : Nat) : Word × Word :=
  (w32 (d.tag.toNat + 65536 * d.round.toNat),
    w32 (fired % 8192 + 2 ^ 14 + 2 ^ 15 * (d.epoch.toNat % 16) + 2 ^ 27 * c))

/-- A capture leaves the crate: its words are cleared, and fine windows are placed again (R294). -/
def State.leaveRaw (s : State) (c : Nat) (r : Raw) : State :=
  ((s.clearRaw c r).modCrate c (fun g => { g with raw := none, rawBlocksFine := false })).putB (CHU_DUMP_STAT_raw_active c) false

/-- A dwell boundary for a RAW_CAPTURE (R293, R294, R425): the first one stops the placing of windows; capture starts at the next
one at which the fine-window memory is free. A capture whose command a function-level reset has abandoned ends (R394). -/
def State.rawBoundary (s : State) (c : Nat) (d : Descr) (fired : Nat) : State :=
  match (s.crate c).raw with
  | none => s
  | some r => if r.cmd.isNone then s.leaveRaw c r else match r.stage with
    | .waiting => (s.modCrate c (fun g => { g with raw := some { r with stage := .armed }, rawBlocksFine := true })).putB
        (CHU_DUMP_STAT_raw_active c) true
    | .armed => doIf (s.fineFree c) (fun t => t.modCrate c (fun g => { g with raw := some { r with stage := .capturing } })) s
    | .capturing => (s.modCrate c (fun g => { g with raw := some { r with
        stage := if r.limit ≤ r.written then .draining else .capturing } })).putUnit c (rawMarker c d fired)
    | .draining => s

/-- A channel's buffers exchange, with the channel states in force (R272, R312, R314, R318, R322, R327). -/
def State.exchange (s : State) (c k : Nat) (m : CloseMark) : State :=
  let x := (s.chan c k).accBuf
  (s.modBuf c k x (fun b => { b with
    st := .full, mark := some m, lost := ((s.crate c).curLost ||| m.lost).getLsbD k
    sunAt := s.flag (SKM_CH_sun c k), dirtyAt := s.flag (STR_CH_dirty c k), foreignAt := s.flag (SEP_CH_foreign c k)
    ambientAt := (s.chan c k).ambientValue, weatherAt := s.flag (STR_CRT_weather c) })).modChan c k (fun h => { h with
      accBuf := !x })

/-- The pre-window events of a channel that Churn has counted. -/
def State.preCounted (s : State) (c k : Nat) (d : Descr) : Nat :=
  if s.accumulates c k d then ((s.chan c k).buf (s.chan c k).accBuf).preCount else 0

/-- An extractor that works for the dwell has channels of these to extract too. -/
def XWait.shares (w : XWait) (used : BitVec 16) : Bool :=
  (w.left &&& 0xFF#16 != 0 && used &&& 0xFF#16 != 0) || (w.left &&& 0xFF00#16 != 0 && used &&& 0xFF00#16 != 0)

/-- Churn reads the dwell-close marker of a crate (R272); with every channel of the dwell late the extractors have ended it
(R273, R318). -/
def State.dwellBoundary (s : State) (c : Nat) (d : Descr) (m : CloseMark) : State :=
  let id := (s.crate c).nextId
  let used := maskOf (fun k => s.accumulates c k d)
  let s1 := forAll chanNos (fun t k => doIf (d.part.getLsbD k)
    (fun u => u.separate c k (u.preCounted c k d + m.crossings.getD k 0) m.accepting d) t)
      (s.modCrate c (fun g => { g with fifo := g.fifo.tail }))
  let s2 := forAll chanNos (fun t k => if used.getLsbD k then t.exchange c k m
    else doIf d.safety (fun u => u.zoneDeliver c k d.angle d.sweep none) t) s1
  let s3 := doIf (used == 0 && d.part != 0) (fun t => t.weather c 0 d) (s2.modCrate c (fun g => { g with
    cur := none, xq := if used = 0 then g.xq else g.xq ++ [⟨id, used, 0, 4, 4, g.xq.any (fun w => w.shares used)⟩] }))
  ((s3.dumpBoundary c id used).rawBoundary c d m.fired).nextExtract c

/-- CHURN_DWELL_BOUNDARY (R272). -/
def execChurnDwellBoundary (c : CrateId) (s : State) : Host.Outcome State Fault Refusal :=
  .next (match (s.crate c).fifo, (s.crate c).cur with
  | .dwellClose m :: _, some d => doIf s.churnLive (fun t => t.dwellBoundary c d m) s
  | _, _ => s)

/-! ## Commands for dumps and captures (R290 to R295, R552) -/

/-- The status with which a crate refuses a dump or a capture (R292, R295, R552). -/
def State.captureStatus (s : State) (c : Nat) (busy : Bool) : Option Nat :=
  if s.rd (cratePwrField c) = 0 ∨ s.rd (cratePwrField c) = 3 then some stCRATE_OFF
  else if !s.crateReady c then some stNOT_READY
  else if busy then some stBUSY
  else none

/-- HIST_DUMP (R290, R292). -/
def State.histDump (s : State) (m : Cmd) : State :=
  let c := bitsOf (wordAt m.words 1) 0 5
  match s.captureStatus c (s.crate c).dump.isSome with
  | some st => s.fail m.ref st
  | none => ((s.openCmd m.ref).modCrate c (fun g => { g with
      dump := some ⟨some m.ref, bitsOf (wordAt m.words 1) 8 1 == 1, (wordAt m.words 1).extractLsb' 16 16,
        bitsOf (wordAt m.words 2) 0 16, (wordAt m.words 2).extractLsb' 16 16, false, 0, 0, 0, []⟩ })).putB
          (CHU_DUMP_STAT_dump_active c) true

/-- HIST_DUMP (R290). -/
def execHistDump (ref : CmdRef) (s : State) : Host.Outcome State Fault Refusal :=
  .next (match s.waits ref 0x06 with
  | none => s
  | some m => doIf s.fabricReady (fun t => t.histDump m) s)

/-- RAW_CAPTURE (R293, R295). -/
def State.rawCapture (s : State) (m : Cmd) : State :=
  let c := bitsOf (wordAt m.words 1) 0 5
  match s.captureStatus c (s.crate c).raw.isSome with
  | some st => s.fail m.ref st
  | none => (s.openCmd m.ref).modCrate c (fun g => { g with
      raw := some ⟨some m.ref, bitsOf (wordAt m.words 1) 8 1 == 1, (wordAt m.words 1).extractLsb' 16 16,
        bitsOf (wordAt m.words 2) 0 13, (wordAt m.words 2).extractLsb' 16 16, .waiting, 0, [], 0, 0, none⟩ })

/-- RAW_CAPTURE (R293). -/
def execRawCapture (ref : CmdRef) (s : State) : Host.Outcome State Fault Refusal :=
  .next (match s.waits ref 0x07 with
  | none => s
  | some m => doIf s.fabricReady (fun t => t.rawCapture m) s)

/-- The captured units go to the RAW ring, then RAW_CAPTURE completes and fine windows are placed again (R294, R295). -/
def State.rawDrain (s : State) (c : Nat) (r : Raw) : State :=
  let s1 := forAll (s.rawUnits c r) (fun t u => t.pushRec ⟨ringOwner r.ring, r.ring, 4, [u.1, u.2], r.cmd, 0, false⟩) s
  (s1.leaveRaw c r).completeOpt r.cmd (r.stopWith.getD stOK) (BitVec.ofNat 64 r.written) (w32 r.beyond)

/-- The reads of a drain over words of the bank (R285). -/
def State.drainReads (s : State) (c : Nat) (l : List (BitVec 13 × Ecc)) : State :=
  forAll l (fun t p => t.eccRead c (p.1.toNat / 512) (p.1.getLsbD 8) p.2) s

/-- RAW_DRAIN (R285, R294). -/
def execRawDrain (d : RawReads) (s : State) : Host.Outcome State Fault Refusal :=
  .next (match (s.crate d.crate).raw with
  | none => s
  | some r => doIf (s.churnLive && decide (r.stage = .draining)) (fun t => (t.drainReads d.crate d.ecc).rawDrain d.crate r) s)

end Sys2Proof.Machine
end

