-- ==== Sys2Proof/Machine/Reads.lean ====
section
/-! DEFINITION. What a register shows (spec/15 R606, R617; spec/12 R520; spec/13 R573, R581; spec/09 R402): the value that a
read returns, without the read's own effects. -/

namespace Sys2Proof.Machine

/-- The 125 configuration registers of the safety block (R521), by their offset in it. -/
def safCfgOffset (o : Nat) : Bool :=
  o % 4 == 0 && ((decide (0x20 ≤ o) && decide (o ≤ 0x30)) || (decide (0x40 ≤ o) && decide (o ≤ 0x9C))
    || (decide (0x200 ≤ o) && decide (o < 0x400) && decide (o % 0x20 ≤ 0x14)))

/-- A configuration register of the safety block. -/
def isSafCfg (a : Nat) : Bool := decide (0xA000 ≤ a) && safCfgOffset (a - 0xA000)

/-- The addresses of the 125 registers, ascending (R521). -/
def safCfgAddrs : List Nat := ((List.range 256).map (fun i => 0xA000 + 4 * i)).filter isSafCfg

/-- A word of the active set (R520). -/
def State.safWord (s : State) (a : Nat) : Word := sparseGet resetWord s.saf.active a
/-- A field of the active set. -/
def State.safRd (s : State) (f : FRef) : Nat := f.get (s.safWord f.addr)
/-- A one-bit field of the active set. -/
def State.safFlag (s : State) (f : FRef) : Bool := s.safRd f != 0

/-- The safety block is in CONFIG (R520, R527). -/
def State.inConfig (s : State) : Bool := s.rd SAF_STAT_state == 3

/-- The entry of the fault log that a requester has selected; zeros beyond its end (R573, R581). -/
def State.selectedLog (s : State) (q : Src) : List Word :=
  match s.flt.log[(s.req q).logSel]? with
  | none => [0, 0, 0, 0]
  | some e => [e.w0, e.w1, e.w2, e.w3]

/-- The next word of the oldest event in the event queue (R402). -/
def State.evqWord (s : State) : Word :=
  match s.host.evq with
  | [] => 0
  | e :: _ => wordAt e s.host.evqRead

/-- What the register at address a holds, for a requester: the requester's own copy where each has one (R573, R617); the
shadow set of the safety block in CONFIG (R520); the permit and its failing conditions as they are (R194, R211); device time from the
fabric copy (R595). -/
def State.live (s : State) (q : Src) (a : Nat) : Word :=
  if isSafCfg a then (if s.inConfig then sparseGet resetWord s.saf.shadow a else s.safWord a)
  else if a = HIF_EVQ_DATA then s.evqWord
  else if a = GLB_DIAG_PAGE then w32 (s.req q).page
  else if a = FLT_LOG_SEL then w32 (s.req q).logSel
  else if a = FLT_LOG_DATA0 then wordAt (s.selectedLog q) 0
  else if a = FLT_LOG_DATA1 then wordAt (s.selectedLog q) 1
  else if a = FLT_LOG_DATA2 then wordAt (s.selectedLog q) 2
  else if a = FLT_LOG_DATA3 then wordAt (s.selectedLog q) 3
  else if a = EYE_STAT then
    (if s.timingLive then EYE_STAT_permit.set s.permitNow.toNat (EYE_STAT_cause.set s.permitCause (s.reg EYE_STAT)) else s.reg EYE_STAT)
  else if a = CLK_DTIME_LO then loWord s.clk.devCopy
  else if a = CLK_DTIME_HI then hiWord s.clk.devCopy
  else s.reg a

/-- A register of the crates that the timing domain keeps. DEDUCED (log 45): all of a crate's front end, slices and events but for
the test tone and the ambient converter (R54, R62, the converter domain) and the fault manager's CRT_SVC and CRT_RESTORE
(R583, R584, the fabric domain), where the background processing of R348 to R351 is too. -/
def timingReg (a : Nat) : Bool :=
  let o := crateOff a
  decide (o < 0x800) && !(o == 0x20 || o == 0x24 || o == 0x60 || o == 0x64)
  && !(decide (0x400 ≤ o) && (o % 64 == 0x0C || o % 64 == 0x14))

/-- The function that a register belongs to is ready (R551, R552): the crate, Churn, the motor interface, the housekeeping
bank, the safety block. While the timing PLL is not ready, the registers of the timing domain show what they held when its clock
stopped (R437, R442): those of a crate that is ON (R603) and of a motor interface that was ready. -/
def State.ownerReady (s : State) (a : Nat) : Bool :=
  if 0x10000 ≤ a then
    if 0x800 ≤ crateOff a ∧ crateOff a < 0xC00 then s.flag GLB_READY_churn
    else s.crateReady (crateOf a) || (!s.flag GLB_READY_tpll && s.rd (cratePwrField (crateOf a)) == 2 && timingReg a)
  else if 0x7000 ≤ a ∧ a < 0x7800 then s.flag GLB_READY_motor || (!s.flag GLB_READY_tpll && s.clk.motorWas)
  else if 0x8000 ≤ a ∧ a < 0x9000 then s.flag GLB_READY_hk
  else if 0xA000 ≤ a ∧ a < 0xB000 then s.flag GLB_READY_safety
  else true

/-- What a snapshot's shadow of a register holds (R443, R552). -/
def State.shadowOf (s : State) (q : Src) (a : Nat) : Word := if s.ownerReady a then s.live q a else resetWord a

end Sys2Proof.Machine
end

