-- ==== Sys2Proof/Machine/SafOut.lean ====
section
/-! DEFINITION. The safety outputs and the laser enable (spec/12_safety_block.md R501 to R508), and the safety block's
events (R525). -/

namespace Sys2Proof.Machine

/-- The safety block's clock runs: it is out of reset and its ready bit is set (R488, R551). -/
def State.safetyLive (s : State) : Bool := s.running && s.flag GLB_READY_safety

/-- The block is in RUN with a valid configuration (R501, R506). -/
def State.safRun (s : State) : Bool := s.rd SAF_STAT_state == 2 && s.flag SAF_STAT_cfg_valid

/-- The numbers of the pairs (R492), outputs (R501) and zones (R510). -/
def pairNos : List Nat := List.range 8
/-- Outputs. -/
def outNos : List Nat := List.range 4
/-- Zones. -/
def zoneNos : List Nat := List.range 16

/-! ## The FIFO to the fabric domain (R524, R525, R590) -/

/-- The ring of safety reports (R524). -/
def State.safRing (s : State) : RingId := BitVec.ofNat 16 (0xF000 + s.safRd SAF_GLB_ring)

/-- A report or an event reaches the fabric domain, where an event takes its device time (R524, R525). -/
def State.sendItem (s : State) (i : SafItem) : State :=
  match i with
  | .report ws => s.pushRec ⟨.pf1, s.safRing, 6, ws, none, 0, false⟩
  | .event typ index data => s.postWords (s.eventWords typ 7 index data)

/-- What waits leaves for the fabric domain while its clock runs (R524, R590). -/
def State.flushItems (s : State) : State :=
  doIf s.fabricLive (fun t => (forAll t.saf.reps (fun u i => u.sendItem i) t).modSaf (fun x => { x with reps := [] })) s

/-- Put a report or an event into the FIFO of 16; a full FIFO drops a report (R524). DESIGN CHOICE (log 34): an event too. -/
def State.sendFabric (s : State) (i : SafItem) : State :=
  (s.modSaf (fun x => { x with reps := if x.reps.length < 16 then x.reps ++ [i] else x.reps })).flushItems

/-- Post a safety event: element, its number, words 4 to 6; word 7 is SAF_TICK (R525). -/
def State.safEvent (s : State) (typ elem num : Nat) (w4 w5 : Word) : State :=
  s.sendFabric (.event typ (256 * elem + num) [w4, w5, 0, s.reg SAF_TICK])

/-- Pair i grants (R497). -/
def State.pairRuns (s : State) (i : Nat) : Bool := s.rd (SAF_PAIR_STAT_state i) == 3

/-- Every pair that a mask names grants. -/
def State.pairsRun (s : State) (mask : Nat) : Bool := pairNos.all (fun i => !bitOf mask i || s.pairRuns i)

/-! ## Outputs (R501 to R505) -/

/-- HIF_IRQ_STAT.safety is set when a safety output changes state (R413). DEDUCED (log 114): when SOUT changes, and when OUTPUT is
posted. -/
def State.safetyIrq (s : State) : State := doIf s.fabricLive (fun t => t.putB HIF_IRQ_STAT_safety true) s

/-- Drive SOUT o and begin a phase of its readback (R502, R503). -/
def State.driveOut (s : State) (o : Nat) (high : Bool) (ph : OutPhase) : State :=
  ((doIf (s.flag (SAF_OUT_STAT_drv o) != high) (fun t => t.safetyIrq) s).putB (SAF_OUT_STAT_drv o) high).modOut o (fun x => { x with phase := ph, n := 0, low := false, okLow := false })

/-- An off-pulse or its return check runs (R503). -/
def Out.pulsing (x : Out) : Bool := decide (x.phase = .pulse) || decide (x.phase = .ret)

/-- The off-pulse of output o starts (R503). -/
def State.beginPulse (s : State) (o : Nat) : State :=
  (s.driveOut o false .pulse).modOut o (fun x => { x with pulseDue := false })

/-- An output that is on, demanded on and not awaiting a readback may pulse (R503, R504). -/
def State.mayPulse (s : State) (o : Nat) : Bool :=
  decide ((s.out o).phase = .on) && s.flag (SAF_OUT_STAT_dem o)

/-- A pulse that waits starts once no other output pulses, the lower number first (R503). -/
def State.nextPulse (s : State) : State :=
  if outNos.any (fun o => (s.out o).pulsing) then s
  else match outNos.find? (fun o => (s.out o).pulseDue && s.mayPulse o) with
    | none => s
    | some o => s.beginPulse o

/-- Drive output o off; the readback must follow (R502). A return check is dropped (R504). An output that is off stays in
its phase. -/
def State.outOff (s : State) (o : Nat) : State :=
  (doIf (s.flag (SAF_OUT_STAT_drv o)) (fun t => t.driveOut o false .offChk) s).modOut o (fun x => { x with pulseDue := false })

/-- Post OUTPUT for output o (R525). -/
def State.outEvent (s : State) (o : Nat) : State := (s.safEvent 0x71 2 o (s.reg (SAF_OUT_STAT o)) 0).safetyIrq

/-- A fault of the safety block goes into the fault log (R559), with its source of R525. The manual gives the entry no code and no
value: both are free (log 17). -/
def State.safLog (s : State) (elem num : Nat) : State :=
  let (w, t) := s.takeFreeWord
  t.log (w.toNat % 256) 5 7 (256 * elem + num) 0 0 (w.toNat / 256)

/-- An output fault (R502, R503, R505, R559): latched with its first cause; the output is off. -/
def State.outFault (s : State) (o cause : Nat) : State :=
  let s1 := doIf (cause = 3) (fun t => t.modOut o (fun x => { x with stuck := true })) s
  let s2 := doIf (!s.flag (SAF_OUT_STAT_fault o)) (fun t =>
    ((((t.put (SAF_OUT_STAT_cause o) cause).putB (SAF_OUT_STAT_fault o) true).putB (SAF_OUT_STAT_dem o) false).outEvent o).safLog 2 o) s1
  s2.outOff o

/-- The readback deadline of output o passes (R502, R503); a return check that it ends lets the next pulse begin. -/
def State.outExpire (s : State) (o : Nat) : State :=
  match (s.out o).phase with
  | .onChk => s.outFault o 1
  | .offChk => (s.outFault o 2).modOut o (fun x => { x with phase := .off })
  | .ret => s.outFault o 4
  | .off => s
  | .on => s
  | .pulse => s

/-- The off-pulse of output o ends (R503, R504): a low must have been seen before its last sample. -/
def State.endPulse (s : State) (o : Nat) : State :=
  if !(s.out o).okLow then
    (s.outFault o 4).modOut o (fun x => { x with phase := .offChk, n := 0 })
  else if s.flag (SAF_OUT_STAT_dem o) then s.driveOut o true .ret
  else s.driveOut o false .offChk

/-- One sample of SRB o (R502, R503, R490). A pulse that waits for the end of this output's begins behind the samples of every output
(`execSafetySample`), so that it takes its first sample in the next period. -/
def State.sampleOut (s : State) (o : Nat) (high : Bool) : State :=
  let x := s.out o
  let n := x.n + 1
  let late := decide (s.safRd (SAF_OUT_CFG_rb_t o) ≤ n)
  let s1 := (s.putB (SAF_OUT_STAT_rb o) high).modOut o (fun y => { y with n := n })
  match x.phase with
  | .off => doIf high (fun t => t.outFault o 3) s1
  | .offChk => if late then s1.outExpire o else doIf (!high) (fun t => t.modOut o (fun y => { y with phase := .off })) s1
  | .onChk => if late then s1.outExpire o else doIf high (fun t => t.modOut o (fun y => { y with phase := .on })) s1
  | .on => s1
  | .pulse =>
    let s2 := s1.modOut o (fun y => { y with okLow := x.low, low := x.low || !high })
    doIf (decide (s.safRd (SAF_OUT_CFG_pw o) ≤ n)) (fun t => t.endPulse o) s2
  | .ret =>
    if late then s1.outExpire o
    else doIf high (fun t =>
      (t.modOut o (fun y => { y with phase := .on })).bump (SAF_OUT_STAT_pulses o) 1) s1

/-- Output o is held off as a partner (R505). -/
def State.heldByPartner (s : State) (o : Nat) : Bool :=
  outNos.any (fun p => s.flag (SAF_OUT_STAT_fault p) && (s.out p).stuck && s.safFlag (SAF_OUT_CFG_prt_en p)
    && s.safRd (SAF_OUT_CFG_partner p) == o)

/-- Zone z is FREE (R514). -/
def State.zoneFree (s : State) (z : Nat) : Bool := s.rd (SAF_ZN_STAT_state z) == 1

/-- The demand of output o (R501). -/
def State.outDemand (s : State) (o : Nat) : Bool :=
  s.safRun && s.safFlag (SAF_OUT_CFG_en o) && s.pairsRun (s.safRd (SAF_OUT_MAP_pairs o))
  && zoneNos.all (fun z => !bitOf (s.safRd (SAF_OUT_MAP_zones o)) z || s.zoneFree z)
  && (!s.safFlag (SAF_OUT_MAP_spd o) || s.flag SAF_STAT_spd)
  && !s.flag (SAF_OUT_STAT_fault o) && !s.heldByPartner o

/-- Drive output o by its demand (R489, R504); a pulse that waited for it begins by the demands of this tick. -/
def State.driveDemand (s : State) (o : Nat) : State :=
  if s.flag (SAF_OUT_STAT_dem o) then
    doIf (!s.flag (SAF_OUT_STAT_drv o) && decide ((s.out o).phase ≠ .pulse)) (fun t => t.driveOut o true .onChk) s
  else (s.outOff o).nextPulse

/-! ## Laser enable (R506 to R508) -/

/-- The source that feeds a channel of a dry-contact pair, none where it has none (R495). -/
def State.srcOf (s : State) (i : Nat) (chB : Bool) : Option Nat :=
  let v := if chB then s.safRd (SAF_IN_CFG_src_b i) else s.safRd (SAF_IN_CFG_src_a i)
  if (s.safRd (SAF_IN_CFG_type i) = 1 ∨ s.safRd (SAF_IN_CFG_type i) = 2) ∧ v < 4 then some v else none

/-- The channel's own source is in the low phase of a pulse (R506). -/
def State.ownLow (s : State) (i : Nat) (chB : Bool) : Bool := (s.srcOf i chB).any (fun n => (s.sto n).low)

/-- The hardware gate (R506): for each of its pairs, each channel's pin is high or its own source is low. -/
def State.gateOn (s : State) : Bool :=
  pairNos.all (fun i => !bitOf (s.safRd SAF_LEN_CFG_gate) i
    || ((s.saf.gateA.getLsbD i || s.ownLow i false) && (s.saf.gateB.getLsbD i || s.ownLow i true)))

/-- Post LEN (R525). -/
def State.lenEvent (s : State) : State := s.safEvent 0x73 4 0 (s.reg SAF_STAT) 0

/-- LEN_DRV follows the logic demand and the hardware gate, without a clock (R506). -/
def State.showLen (s : State) : State :=
  let g := s.gateOn
  let v := s.flag SAF_STAT_len_dem && g
  doIf (s.flag SAF_STAT_len_drv != v)
    (fun t => ((t.putB SAF_STAT_len_drv v).modSaf (fun x => { x with
      lenSince := 0, lenAwait := true, lenHours := 0 })).lenEvent) (s.putB SAF_STAT_len_gate g)

/-- A LEN fault (R508, R559) removes the logic demand. -/
def State.lenFault (s : State) : State :=
  doIf (!s.flag SAF_STAT_len_fault)
    (fun t => ((((t.putB SAF_STAT_len_fault true).putB SAF_STAT_len_dem false).lenEvent).safLog 4 0).showLen)
    (s.modSaf (fun x => { x with lenAwait := false }))

/-- One sample of LEN_RB (R508, R490). -/
def State.sampleLen (s : State) (high : Bool) : State :=
  let n := s.saf.lenSince + 1
  let drv := s.flag SAF_STAT_len_drv
  let s1 := (s.putB SAF_STAT_len_rb high).modSaf (fun x => { x with lenSince := n })
  if s.saf.lenAwait then
    if s.safRd SAF_LEN_CFG_rb_t ≤ n then s1.lenFault
    else doIf (high == drv) (fun t => t.modSaf (fun x => { x with lenAwait := false })) s1
  else doIf (high && !drv) (fun t => t.lenFault) s1

/-- The logic demand of LEN_DRV (R506). -/
def State.lenDemand (s : State) : Bool :=
  s.safRun && s.pairsRun (s.safRd SAF_LEN_CFG_len_map) && !s.flag SAF_STAT_len_fault

/-- Step 6 of a tick (R489): the demands of every output and of LEN_DRV. -/
def State.formDemands (s : State) : State :=
  (forAll outNos (fun t o => t.putB (SAF_OUT_STAT_dem o) (s.outDemand o)) s).putB SAF_STAT_len_dem s.lenDemand

/-- Step 7 of a tick (R489, R504, R506): every output is driven, then LEN_DRV; an output whose demand was another before posts
OUTPUT. -/
def State.driveDemands (s : State) (before : Nat → Bool) : State :=
  (forAll outNos (fun t o => doIf (before o != s.flag (SAF_OUT_STAT_dem o)) (fun u => u.outEvent o) (t.driveDemand o)) s).showLen

/-- Every output and LEN_DRV is driven off (R518, R520). -/
def State.allOff (s : State) : State :=
  ((forAll outNos (fun t o => (t.putB (SAF_OUT_STAT_dem o) false).outOff o) s).putB SAF_STAT_len_dem false).showLen

/-! ## Commands -/

/-- OUTPUT_READBACK_TIMEOUT (R502, R503). -/
def execOutputReadbackTimeout (o : OutId) (s : State) : Host.Outcome State Fault Refusal :=
  .next (doIf s.safetyLive (fun t => doIf (decide ((t.out o).phase = .ret)) (fun u => u.nextPulse) (t.outExpire o)) s)

/-- OFF_PULSE_START (R503, R504): where another output pulses, the pulse waits its turn. -/
def execOffPulseStart (o : OutId) (s : State) : Host.Outcome State Fault Refusal :=
  .next (doIf (s.safetyLive && s.mayPulse o)
    (fun t => (t.modOut o (fun x => { x with pulseDue := true })).nextPulse) s)

/-- OFF_PULSE_END (R503, R504). -/
def execOffPulseEnd (o : OutId) (s : State) : Host.Outcome State Fault Refusal :=
  .next (doIf (s.safetyLive && decide ((s.out o).phase = .pulse)) (fun t => (t.endPulse o).nextPulse) s)

/-- LEN_READBACK_TIMEOUT (R508). -/
def execLenReadbackTimeout (s : State) : Host.Outcome State Fault Refusal :=
  .next (doIf (s.safetyLive && s.saf.lenAwait) (fun t => t.lenFault) s)

/-- LEN_PROOF (R508). -/
def execLenProof (s : State) : Host.Outcome State Fault Refusal :=
  .next (doIf (s.safetyLive && s.flag SAF_STAT_len_drv && s.safFlag SAF_LEN_CFG_proof_h) (fun t =>
    let h := t.saf.lenHours + t.safRd SAF_LEN_CFG_proof_h
    (t.modSaf (fun x => { x with lenHours := h })).safEvent 0x77 4 0 (w32 h) 0) s)

/-- The gate's view of a pin (R506). -/
def State.setGate (s : State) (i : Nat) (chB high : Bool) : State :=
  let bit : BitVec 8 := BitVec.ofNat 8 (2 ^ i)
  let f (v : BitVec 8) := if high then v ||| bit else v &&& ~~~ bit
  s.modSaf (fun x => if chB then { x with gateB := f x.gateB } else { x with gateA := f x.gateA })

/-- ESTOP_GATE_OPEN (R506): a gated channel's pin falls; outside its own pulse the gate opens without a clock, and for a pin that
fell within it at the pulse's end. -/
def execEstopGateOpen (i : PairId) (chB : Bool) (s : State) : Host.Outcome State Fault Refusal :=
  .next (doIf s.running (fun t => (t.setGate i chB false).showLen) s)

/-- ESTOP_GATE_CLOSE (R506): the pin reads high again. -/
def execEstopGateClose (i : PairId) (chB : Bool) (s : State) : Host.Outcome State Fault Refusal :=
  .next (doIf s.running (fun t => (t.setGate i chB true).showLen) s)

/-- CLR_OUT (R505): a clear while SRB reads high is refused and counted. -/
def State.clearOut (s : State) (o : Nat) : State :=
  if s.flag (SAF_OUT_STAT_fault o) then
    if s.flag (SAF_OUT_STAT_rb o) then s.bump (SAF_OUT_STAT_refused o) 1
    else ((s.putB (SAF_OUT_STAT_fault o) false).modOut o (fun x => { x with stuck := false })).outEvent o
  else s

/-- CLR_OUT's bits (R505, R532). -/
def State.clearOuts (s : State) (outs : Nat) : State := forAll (outNos.filter (bitOf outs)) (fun t o => t.clearOut o) s

/-- CLR_LEN (R508): only while LEN_RB reads low. -/
def State.clearLen (s : State) : State :=
  doIf (s.flag SAF_STAT_len_fault && !s.flag SAF_STAT_len_rb) (fun t => (t.putB SAF_STAT_len_fault false).lenEvent) s

/-- A direct write of a safety command register: by PF1 or SPI it acts, by PF0 it is refused (R357, R610). -/
def State.safWrite (s : State) (q : Src) (a : Nat) (f : State → State) : State :=
  doIf (s.serves q) (fun t => if q = .pf0 then t.refuseWrite q a else doIf t.safetyLive f t) s

/-- CLR_OUT (R505). -/
def execClrOut (q : Src) (outs : BitVec 4) (s : State) : Host.Outcome State Fault Refusal :=
  .next (s.safWrite q SAF_CMD (fun t => t.clearOuts outs.toNat))

/-- CLR_LEN (R508). -/
def execClrLen (q : Src) (s : State) : Host.Outcome State Fault Refusal :=
  .next (s.safWrite q SAF_CMD (fun t => t.clearLen))

end Sys2Proof.Machine
end

