-- ==== Sys2Proof/Machine/Pairs.lean ====
section
/-! DEFINITION. Input pairs of the safety block: samples, test pulses, filters, pair states, resets
(spec/12_safety_block.md R488, R492 to R500). -/

namespace Sys2Proof.Machine

/-! ## Channels -/

/-- The type of pair i (R492). -/
def State.pairType (s : State) (i : Nat) : Nat := s.safRd (SAF_IN_CFG_type i)

/-- A pin reads closed; channel B of an antivalent GUARD pair is inverted first (R492). -/
def State.closedPin (s : State) (i : Nat) (chB high : Bool) : Bool :=
  if chB && s.pairType i == 2 && s.safFlag (SAF_IN_CFG_anti i) then !high else high

/-- A CURTAIN pair that must show test pulses (R496). -/
def State.expectsTp (s : State) (i : Nat) : Bool := s.pairType i == 3 && s.safFlag (SAF_IN_CFG_tp_chk i)

/-- What a channel must show before the test-pulse cycle of R499 is met. -/
def State.needsTest (s : State) (i : Nat) (chB : Bool) : Bool := (s.srcOf i chB).isSome || s.expectsTp i

/-- The test-pulse cycle of pair i is met (R499). -/
def State.cycleMet (s : State) (i : Nat) : Bool :=
  (!s.needsTest i false || (s.pair i).a.sawTest) && (!s.needsTest i true || (s.pair i).b.sawTest)

/-- The sample falls in the mask of the channel's own source: from the start of its pulse to 10 samples after its end
(R495). -/
def State.masked (s : State) (i : Nat) (chB : Bool) : Bool :=
  (s.srcOf i chB).any (fun n => (s.sto n).low || decide ((s.sto n).n < 10))

/-- The CROSS check after another source's pulse (R495). -/
def State.crossCheck (s : State) (closed : Bool) (x : SafCh) : SafCh :=
  match x.lowAt with
  | none => x
  | some n =>
    if (s.sto n).low || decide (10 ≤ (s.sto n).n) then { x with lowAt := none }
    else if closed && x.level then { x with lowAt := none, crossed := true }
    else x

/-- The stability filter (R493). -/
def SafCh.filter (x : SafCh) (filt : Nat) (closed : Bool) : SafCh :=
  if closed == x.level then { x with run := 0 }
  else if filt ≤ x.run + 1 then { x with level := closed, run := 0 }
  else { x with run := x.run + 1 }

/-- The sample ends a low that was too short for a level: a test pulse of a curtain (R496). -/
def SafCh.curtainPulse (x : SafCh) (ign : Nat) (closed : Bool) : Bool := closed && decide (0 < x.lowRun) && decide (x.lowRun < ign)

/-- The filter of a CURTAIN channel (R496): a low on it alone is a level only after ign samples; a shorter one is a test
pulse. Its samples count in the run of lows that R493 filters once both channels are low. -/
def SafCh.curtain (x : SafCh) (filt ign : Nat) (closed other : Bool) : SafCh :=
  if !closed && other then
    if ign ≤ x.lowRun + 1 then { x with level := false, run := 0, lowRun := x.lowRun + 1 }
    else { x with run := if x.level then x.run + 1 else 0, lowRun := x.lowRun + 1 }
  else ({ x with lowRun := 0, sawTest := x.sawTest || x.curtainPulse ign closed }).filter filt closed

/-- The interval within which a curtain must show a pulse while closed (R496), counted from the sample in which it closed or
showed one: a pulse in the sample of the deadline comes too late (R490). -/
def SafCh.tpWatch (x : SafCh) (limit : Nat) (old : SafCh) (pulse : Bool) : SafCh :=
  if !x.level || !old.level then { x with sinceTp := 0 }
  else if limit ≤ old.sinceTp + 1 then { x with missed := true, sinceTp := 0 }
  else { x with sinceTp := if pulse then 0 else old.sinceTp + 1 }

/-- One sample of one channel (R493, R495, R496). -/
def State.sampleCh (s : State) (i : Nat) (chB closed other : Bool) (x : SafCh) : SafCh :=
  let y := s.crossCheck closed { x with raw := closed }
  let filt := s.safRd (SAF_IN_TIM_filt i)
  let z :=
    if s.masked i chB then y
    else if s.pairType i = 3 then y.curtain filt (s.safRd (SAF_IN_TIM_ign i)) closed other
    else y.filter filt closed
  if s.expectsTp i then z.tpWatch (s.safRd (SAF_IN_CFG_tp_max i) * 1000) x (x.curtainPulse (s.safRd (SAF_IN_TIM_ign i)) closed) else z

/-- One sample of pair i. -/
def State.samplePair (s : State) (p : SafPins) (i : Nat) : State :=
  let a := s.closedPin i false (p.sinA.getLsbD i)
  let b := s.closedPin i true (p.sinB.getLsbD i)
  s.modPair i (fun x => { x with a := s.sampleCh i false a b x.a, b := s.sampleCh i true b a x.b })

/-- The hardware gate sees the pins of this sample (R506). DEDUCED (log 87): a low that a channel's own pulse explains leaves the
level that the gate saw before. -/
def State.sampleGate (s : State) (p : SafPins) : State :=
  forAll pairNos (fun t i =>
    let t1 := doIf (p.sinA.getLsbD i || !t.ownLow i false) (fun u => u.setGate i false (p.sinA.getLsbD i)) t
    doIf (p.sinB.getLsbD i || !t1.ownLow i true) (fun u => u.setGate i true (p.sinB.getLsbD i)) t1) s

/-- SRST_IN (R500): a press of min to max that began after start-up. -/
def State.sampleSrst (s : State) (high : Bool) : State :=
  let n := s.saf.srstHigh
  if high then s.modSaf (fun x => { x with srstHigh := n + 1 })
  else s.modSaf (fun x => { x with
    srstHigh := 0, srstArmed := true
    srstHit := x.srstHit || (x.srstArmed && decide (s.safRd SAF_SRST_min * 1000 ≤ n) && decide (n ≤ s.safRd SAF_SRST_max * 10000)
      && decide (0 < n)) })

/-- SAFETY_SAMPLE (R488): every safety pin is sampled and filtered; the readback checks follow (R502, R503, R508), then
a pulse that waited for another's end begins (R503). -/
def execSafetySample (pins : SafPins) (s : State) : Host.Outcome State Fault Refusal :=
  .next (doIf s.safetyLive (fun t =>
    let t1 := forAll pairNos (fun u i => u.samplePair pins i) t
    let t2 := (t1.sampleGate pins).sampleSrst pins.srst
    let t3 := (forAll outNos (fun u o => u.sampleOut o (pins.srb.getLsbD o)) t2).nextPulse
    let t4 := (t3.sampleLen pins.lenRb).showLen
    forAll outNos (fun u n => u.modSto n (fun x => { x with n := min (x.n + 1) 255 })) (t4.modSaf (fun x => { x with pins := pins, frame := x.frame + 1 }))) s)

/-! ## Test pulses (R494, R495) -/

/-- The checks of one channel at the last sample of source n's pulse (R495). -/
def SafCh.pulseCheck (x : SafCh) (own : Option Nat) (n : Nat) : SafCh :=
  match own with
  | none => x
  | some m =>
    if !x.level then x
    else if m = n then (if x.raw then { x with missed := true } else { x with sawTest := true })
    else if x.raw then x else { x with lowAt := some n }

/-- The samples of a test-pulse period (R494). -/
def State.stoPeriod (s : State) : Nat := 100 * s.safRd SAF_STO_CFG_per

/-- Source n begins its pulse now: it is enabled, its quarter of the period begins, and no source is low (R494). -/
def State.pulseBegins (s : State) (n : Nat) : Bool :=
  bitOf (s.safRd SAF_STO_CFG_en) n && decide (0 < s.stoPeriod) && decide (s.saf.frame % s.stoPeriod = n * (s.stoPeriod / 4))
  && outNos.all (fun m => !(s.sto m).low)

/-- Source n ends its pulse now: its low has lasted the pulse width (R494). -/
def State.pulseEnds (s : State) (n : Nat) : Bool := (s.sto n).low && decide (s.safRd SAF_STO_CFG_pw ≤ (s.sto n).n)

/-- The end of a pulse of source n, with the checks of R495 on its last sample. -/
def State.endTestPulse (s : State) (n : Nat) : State :=
  ((forAll pairNos (fun u i => u.modPair i (fun x => { x with
      a := x.a.pulseCheck (u.srcOf i false) n, b := x.b.pulseCheck (u.srcOf i true) n })) s).modSto n (fun _ => ⟨false, 0⟩)).showLen

/-- TEST_PULSE (R494): the source begins its pulse, or ends it, in its slot of the period. -/
def execTestPulse (n : StoId) (begins : Bool) (s : State) : Host.Outcome State Fault Refusal :=
  .next (
    if begins then doIf (s.safetyLive && s.pulseBegins n) (fun t => (t.modSto n (fun _ => ⟨true, 0⟩)).showLen) s
    else doIf (s.safetyLive && s.pulseEnds n) (fun t => t.endTestPulse n) s)

/-- CURTAIN_IGNORE_END (R496): the low of one channel alone is taken as a filtered level. -/
def execCurtainIgnoreEnd (i : PairId) (chB : Bool) (s : State) : Host.Outcome State Fault Refusal :=
  let p := s.pair i
  let open' (x : SafCh) : SafCh := { x with level := false, run := 0, lowRun := max x.lowRun (s.safRd (SAF_IN_TIM_ign i)) }
  .next (doIf (s.safetyLive && s.pairType i == 3
      && (if chB then !p.b.raw && p.a.raw else !p.a.raw && p.b.raw))
    (fun t => t.modPair i (fun x => if chB then { x with b := open' x.b } else { x with a := open' x.a })) s)

/-- CURTAIN_PULSE_TIMEOUT (R496): a TP_MISS fault, which the next tick takes (R489). -/
def execCurtainPulseTimeout (i : PairId) (chB : Bool) (s : State) : Host.Outcome State Fault Refusal :=
  let p := s.pair i
  .next (doIf (s.safetyLive && s.expectsTp i && (if chB then p.b.level else p.a.level))
    (fun t => t.modPair i (fun x =>
      if chB then { x with b := { x.b with missed := true, sinceTp := 0 } }
      else { x with a := { x.a with missed := true, sinceTp := 0 } })) s)

/-! ## Pair states (R497 to R500) -/

/-- Both filtered channels are closed. -/
def Pair.both (p : Pair) : Bool := p.a.level && p.b.level

/-- Forget the test pulses shown: a new cycle of R499 begins. -/
def Pair.newCycle (p : Pair) : Pair := { p with a := { p.a with sawTest := false }, b := { p.b with sawTest := false } }

/-- SAF_PAIR_STAT shows the filtered channels and the cycle (R542). -/
def State.showPair (s : State) (i : Nat) : State :=
  ((s.putB (SAF_PAIR_STAT_a i) (s.pair i).a.level).putB (SAF_PAIR_STAT_b i) (s.pair i).b.level).putB
    (SAF_PAIR_STAT_tp_ok i) (s.cycleMet i)

/-- Pair i goes to FAULT (R497): event and fault log. -/
def State.pairFault (s : State) (i cause : Nat) : State :=
  let s1 := ((s.put (SAF_PAIR_STAT_cause i) cause).put (SAF_PAIR_STAT_state i) 4).modPair i (fun p => { p with recover := 0 })
  (s1.safEvent 0x70 1 i (s1.reg (SAF_PAIR_STAT i)) 0).safLog 1 i

/-- Pair i leaves START or SAFE (R497). -/
def State.letIn (s : State) (i : Nat) : State :=
  s.put (SAF_PAIR_STAT_state i) (if s.safRd (SAF_IN_CFG_rst i) = 0 then 3 else 2)

/-- A reset of pair i is accepted in this tick (R500). -/
def State.resetAccepted (s : State) (i : Nat) : Bool :=
  (s.safRd (SAF_IN_CFG_rst i) == 1 && s.saf.srstHit) || (s.safRd (SAF_IN_CFG_rst i) == 2 && s.saf.cmdReset.getLsbD i)

/-- One step out of FAULT (R497): both open in one tick, both closed in a later one, then one test-pulse cycle. -/
def State.recoverPair (s : State) (i : Nat) : State :=
  let p := s.pair i
  if p.recover = 0 then
    doIf (!p.a.level && !p.b.level) (fun t => t.modPair i (fun x => { x with recover := 1 })) s
  else
    let s1 := doIf (p.recover == 1 && p.both) (fun t => t.modPair i (fun x => { x.newCycle with recover := 2 })) s
    doIf ((s1.pair i).recover == 2 && s1.cycleMet i) (fun t => t.put (SAF_PAIR_STAT_state i) 1) s1

/-- The states of R497 but for the faults. -/
def State.pairStep (s : State) (i : Nat) : State :=
  let p := s.pair i
  let both := p.both
  let st := s.rd (SAF_PAIR_STAT_state i)
  if st = 0 then
    let n := if both then some (match p.closedTicks with | none => 0 | some m => m + 1) else none
    let s1 := s.modPair i (fun x => { x with closedTicks := n })
    doIf (n.any (fun m => decide (100 * s.safRd SAF_GLB_startup ≤ m)) && s1.cycleMet i) (fun t => t.letIn i) s1
  else if st = 1 then doIf both (fun t => t.letIn i) s
  else if st = 2 then
    if !both then s.put (SAF_PAIR_STAT_state i) 1
    else doIf (s.resetAccepted i) (fun t => t.put (SAF_PAIR_STAT_state i) 3) s
  else if st = 3 then doIf (!both) (fun t => t.put (SAF_PAIR_STAT_state i) 1) s
  else s.recoverPair i

/-- The discrepancy deadline of pair i expires in this tick (R498). -/
def State.discExpires (s : State) (i : Nat) : Bool :=
  s.pairType i != 0 && (s.pair i).dis.any (fun n => n + 1 == 10 * s.safRd (SAF_IN_TIM_disc i))

/-- The tick evaluates pair i (R489, R497, R498). -/
def State.evalPair (s : State) (i : Nat) : State :=
  let p := s.pair i
  let agree := p.a.level == p.b.level
  let missed := p.a.missed || p.b.missed
  let crossed := p.a.crossed || p.b.crossed
  let s1 := doIf (p.dis.isNone && !agree) (fun t => t.bump (SAF_PAIR_STAT_disc_ct i) 1)
    (s.modPair i (fun x => { x with
      a := { x.a with missed := false, crossed := false }, b := { x.b with missed := false, crossed := false }
      dis := if agree then none else some (match x.dis with | none => 0 | some n => n + 1) }))
  let s2 := if missed || crossed then s1 else s1.pairStep i
  let s3 := doIf missed (fun t => t.pairFault i 2) (s2.showPair i)
  doIf crossed (fun t => t.pairFault i 3) s3

/-- The tick evaluates every pair in use, in every state of the block; the resets of the tick are spent (R489, R492, R500). -/
def State.tickPairs (s : State) : State :=
  (forAll (pairNos.filter (fun i => s.pairType i != 0)) (fun u i => u.evalPair i) s).modSaf
    (fun x => { x with srstHit := false, cmdReset := 0 })

/-- Start-up of every pair (R499). DESIGN CHOICE (log 115): the periods of the test-pulse sources begin with it. -/
def State.startPairs (s : State) : State :=
  forAll pairNos (fun t i =>
    ((t.put (SAF_PAIR_STAT_state i) 0).modPair i (fun p =>
      { a := { p.a with sawTest := false, missed := false, crossed := false, lowAt := none, sinceTp := 0 }
        b := { p.b with sawTest := false, missed := false, crossed := false, lowAt := none, sinceTp := 0 }
        closedTicks := none, dis := none, recover := 0 })).showPair i)
    (s.modSaf (fun x => { x with srstArmed := false, srstHit := false, srstHigh := 0, cmdReset := 0, stos := [], frame := 0 }))

/-! ## Commands -/

/-- PAIR_STARTUP_DONE (R499): the start-up time of pair i has passed with both channels closed and the cycle met. -/
def execPairStartupDone (i : PairId) (s : State) : Host.Outcome State Fault Refusal :=
  .next (doIf (s.safetyLive && s.pairType i != 0 && s.rd (SAF_PAIR_STAT_state i) == 0 && (s.pair i).both
    && s.cycleMet i) (fun t => t.letIn i) s)

/-- DISCREPANCY_TIMEOUT (R498): a disagreement that has not expired yet does so. -/
def execDiscrepancyTimeout (i : PairId) (s : State) : Host.Outcome State Fault Refusal :=
  .next (doIf (s.safetyLive && s.pairType i != 0
      && (s.pair i).dis.any (fun n => decide (n < 10 * s.safRd (SAF_IN_TIM_disc i)))) (fun t =>
    (t.modPair i (fun x => { x with dis := some (10 * t.safRd (SAF_IN_TIM_disc i)) })).pairFault i 1) s)

/-- SRST_RELEASE (R500): the press was accepted; a pair outside WAIT_RESET does not react. -/
def execSrstRelease (s : State) : Host.Outcome State Fault Refusal :=
  .next (doIf s.safetyLive (fun t =>
    forAll (pairNos.filter (fun i => t.pairType i != 0 && t.safRd (SAF_IN_CFG_rst i) == 1
      && t.rd (SAF_PAIR_STAT_state i) == 2 && (t.pair i).both)) (fun u i => u.put (SAF_PAIR_STAT_state i) 3) t) s)

/-- SAF_PAIR_RESET (R500): a write of SAF_CMD.rst, accepted in the next tick. -/
def State.askReset (s : State) (pairs : BitVec 8) : State := s.modSaf (fun x => { x with cmdReset := x.cmdReset ||| pairs })

/-- SAF_PAIR_RESET (R500). -/
def execSafPairReset (q : Src) (pairs : BitVec 8) (s : State) : Host.Outcome State Fault Refusal :=
  .next (s.safWrite q SAF_CMD (fun t => t.askReset pairs))

end Sys2Proof.Machine
end

