-- ==== Sys2Proof/Machine/Zones.lean ====
section
/-! DEFINITION. Zone curtains (spec/12_safety_block.md R509 to R516): the zone filter of the fabric domain, summaries,
verdicts, zone states. -/

namespace Sys2Proof.Machine

/-! ## Zones and returns (R510) -/

/-- Zone z is enabled. -/
def State.zoneEn (s : State) (z : Nat) : Bool := s.safFlag (SAF_ZN_CH_en z)

/-- The enabled zones. -/
def State.enabledZones (s : State) : List Nat := zoneNos.filter (fun z => s.zoneEn z)

/-- Channel g is a channel of zone z. -/
def State.inZone (s : State) (z g : Nat) : Bool :=
  bitOf (s.safRd (SAF_ZN_CRT_crates z)) (g / 16) && bitOf (s.safRd (SAF_ZN_CH_chan z)) (g % 16)

/-- The position of an angle. -/
def State.zonePos (s : State) (angle : BitVec 16) : Nat := angle.toNat % 2 ^ (16 - s.rd SHT_CFG_fct)

/-- A dwell's position lies in the arc of zone z. -/
def State.inArc (s : State) (z : Nat) (angle : BitVec 16) : Bool :=
  decide (s.safRd (SAF_ZN_ANG_start z) ≤ s.zonePos angle) && decide (s.zonePos angle ≤ s.safRd (SAF_ZN_ANG_end z))

/-- A return of a zone channel qualifies for zone z. -/
def State.qualifies (s : State) (z : Nat) (r : ZRet) : Bool :=
  s.inArc z r.angle && decide (100 * s.safRd (SAF_ZN_RNG_near z) ≤ r.range)
  && decide (r.range < 100 * s.safRd (SAF_ZN_RNG_far z)) && decide (s.safRd (SAF_ZN_CH_conf_min z) ≤ r.conf)
  && !(s.safFlag (SAF_ZN_CH_ign_wx z) && r.flags.getLsbD 6) && !(s.safFlag (SAF_ZN_CH_ign_fr z) && r.flags.getLsbD 5)

/-- The qualifying returns of a list. -/
def State.qualifying (s : State) (z : Nat) (rs : List ZRet) : Nat := (rs.filter (fun r => s.qualifies z r)).length

/-! ## The zone filter in the fabric domain (R511, R516) -/

/-- The channels of the device, ascending. -/
def allChans : List Nat := List.range 512

/-- Channel g belongs to an enabled zone. -/
def State.zoneChan (s : State) (g : Nat) : Bool := s.enabledZones.any (fun z => s.inZone z g)

/-- The zone channel after one given, ascending and wrapping (R516). -/
def State.nextCheck (s : State) (last : Option Nat) : Option Nat :=
  match last with
  | none => allChans.find? (fun g => s.zoneChan g)
  | some l => match allChans.find? (fun g => decide (l < g) && s.zoneChan g) with
    | some g => some g
    | none => allChans.find? (fun g => s.zoneChan g)

/-- The shadow bit of zone z: the spare of each of its crates shadows, or is free and allowed to (R511). -/
def State.zoneShadow (s : State) (z : Nat) : Bool :=
  crateNos.all (fun c => !bitOf (s.safRd (SAF_ZN_CRT_crates z)) c || s.role c 16 == 2
    || (s.role c 16 == 1 && s.flag (CRT_SPR_CFG_shadow_en c)))

/-- What the summary of sweep q says of zone z (R511). -/
def State.zoneSum (s : State) (q : Nat) (chk : Option Nat) (z : Nat) : ZoneSum :=
  let res := s.saf.zoneRes.filter (fun r => r.sweep == q && s.inZone z r.chan && s.inArc z r.angle)
  let late := s.saf.zoneWait.filter (fun w => w.sweep == q && w.inService && s.inZone z w.chan && s.inArc z w.angle)
  let rets := res.flatMap (fun r => r.returns.getD [])
  { hits := s.qualifying z rets
    delivered := (res.filter (fun r => r.returns.isSome)).length
    missing := (res.filter (fun r => r.returns.isNone)).length + late.length
    inService := (allChans.filter (fun g => s.inZone z g && s.inService (g / 16) (g % 16))).length
    shadow := s.zoneShadow z
    chkHits := s.qualifying z (rets.filter (fun r => chk == some r.chan)) }

/-- The check channel's returns of sweep q, as path B sends them (R516). -/
def State.pathBOf (s : State) (q : Nat) (chk : Option Nat) : List ZRet :=
  ((s.saf.zoneRes.filter (fun r => r.sweep == q && chk == some r.chan)).flatMap (fun r => r.returns.getD []))

/-- ZONE_SUMMARY_CLOSE (R511, R516): the summary of the oldest sweep that has ended; a full FIFO of 4 drops it, a full FIFO of
2,048 drops returns of the check channel (R590). -/
def State.closeSummary (s : State) : State :=
  match s.saf.closing with
  | [] => s
  | q :: rest =>
    let chk := s.nextCheck s.saf.chkFab
    let b := s.pathBOf q chk
    let own := min b.length (2048 - s.saf.pathB.length)
    let m : Summary := ⟨q, chk, decide (own < b.length), zoneNos.map (fun z => s.zoneSum q chk z), s.saf.pathSkip, own⟩
    s.modSaf (fun x => { x with
      closing := rest
      chkFab := chk
      sumFifo := if x.sumFifo.length < 4 then x.sumFifo ++ [m] else x.sumFifo
      pathSkip := if x.sumFifo.length < 4 then 0 else x.pathSkip + own
      pathB := (x.pathB ++ b).take 2048
      zoneRes := x.zoneRes.filter (fun r => r.sweep != q)
      zoneWait := x.zoneWait.filter (fun w => w.sweep != q) })

/-- ZONE_SUMMARY_CLOSE (R511). -/
def execZoneSummaryClose (s : State) : Host.Outcome State Fault Refusal :=
  .next (doIf s.fabricReady (fun t => t.closeSummary) s)

/-! ## Data faults (R512, R516) -/

/-- A data fault (R512, R525, R559): counted, posted, logged. -/
def State.dataNote (s : State) (kind chk : Nat) (ct : FRef) : State :=
  ((s.bump ct 1).safEvent 0x76 0 0 (w32 kind) (w32 (chk % 512))).safLog 0 0

/-- A data fault that latches (R512, R514): every enabled zone is to be FAILED. -/
def State.dataFault (s : State) (kind chk : Nat) (ct : FRef) : State :=
  forAll s.enabledZones (fun t z => t.modZone z (fun x => { x with dataFault := true })) (s.dataNote kind chk ct)

/-- The sweep verdict of a zone (R513): 0 UNKNOWN, 1 HIT, 2 CLEAR. -/
def State.verdict (s : State) (z : Nat) (m : ZoneSum) : Nat :=
  if s.safRd (SAF_ZN_CRIT_miss_max z) < m.missing ∨ m.delivered < s.safRd (SAF_ZN_RSP_dw_min z) then 0
  else if s.safRd (SAF_ZN_CRIT_k z) ≤ m.hits then 1
  else 2

/-- The runs after a verdict (R513, R514, R515): a FAILED zone keeps its hit and clear runs at 0. -/
def Zone.count (x : Zone) (v : Nat) (failed : Bool) : Zone :=
  { x with
    unkRun := if v = 0 then x.unkRun + 1 else 0
    hitRun := if failed then 0 else if v = 1 then x.hitRun + 1 else if v = 2 then 0 else x.hitRun
    clearRun := if failed then 0 else if v = 2 then x.clearRun + 1 else 0 }

/-- An enabled zone takes its part of a summary (R513). -/
def State.takeZone (s : State) (m : Summary) (z : Nat) : State :=
  match m.zones[z]? with
  | none => s
  | some x => (s.modZone z (fun y => { y.count (s.verdict z x) (s.rd (SAF_ZN_STAT_state z) == 3) with last := some x })).put
      (SAF_ZN_STAT_hits z) (min x.hits 65535)

/-- The check channel's count differs on the two paths, a return of path B was lost, or the channel is not the next in the
order (R516, R590). -/
def State.checkBad (s : State) (m : Summary) (b : List ZRet) : Bool :=
  m.lostB || (s.saf.chkLast.isSome && m.chk != s.nextCheck s.saf.chkLast)
  || s.enabledZones.any (fun z => m.chk.any (fun g => s.inZone z g)
    && (m.zones[z]?).any (fun x => x.chkHits != s.qualifying z b))

/-- A summary arrives (R512, R516). -/
def State.checkSummary (s : State) (m : Summary) (b : List ZRet) (crcOk : Bool) : State :=
  let chk := m.chk.getD 0
  let seqBad := s.saf.lastSeq.any (fun l => m.seq != (l + 1) % 256)
  let s1 := s.modSaf (fun x => { x with lastSeq := some m.seq, arrived := true, chkLast := m.chk })
  if !crcOk then s1.dataFault 1 chk SAF_DATA_STAT_crc_ct
  else
    let s2 := doIf seqBad (fun t => t.dataFault 2 chk SAF_DATA_STAT_seq_ct) s1
    let s3 := doIf (s.checkBad m b) (fun t =>
      (t.dataFault 3 chk SAF_DATA_STAT_chk_ct).detect 0x08 7 0 0 chk elemZones) s2
    forAll s.enabledZones (fun t z => t.takeZone m z) s3

/-- The oldest summary leaves its FIFO, with its check channel's returns; what summaries that were dropped before it left on path
B leaves too (R511, R516). -/
def State.popSummary (s : State) (m : Summary) : State :=
  s.modSaf (fun x => { x with sumFifo := x.sumFifo.tail, pathB := x.pathB.drop (m.skip + m.own) })

/-- The returns that path B brings for a summary (R516). -/
def State.pathBFor (s : State) (m : Summary) : List ZRet := (s.saf.pathB.drop m.skip).take m.own

/-- ZONE_SUMMARY_ARRIVAL (R512): the oldest summary on its way, with its check channel's returns. -/
def execZoneSummaryArrival (crcOk : Bool) (s : State) : Host.Outcome State Fault Refusal :=
  .next (match s.saf.sumFifo with
  | [] => s
  | m :: _ => doIf s.safetyLive (fun t => (t.popSummary m).checkSummary m (t.pathBFor m) crcOk) s)

/-! ## Zone states (R514, R515) -/

/-- The channels of zone z. -/
def State.zoneSize (s : State) (z : Nat) : Nat := (allChans.filter (fun g => s.inZone z g)).length

/-- The UNKNOWN run lasts (R515). -/
def State.unkLasts (s : State) (z : Nat) : Bool := decide (s.safRd (SAF_ZN_CRIT_unk_max z) < (s.zone z).unkRun)

/-- The last summary shows zone z degraded (R515). -/
def State.zoneDegraded (s : State) (z : Nat) : Bool :=
  (s.zone z).last.any (fun m => decide (m.inService < s.zoneSize z) || !m.shadow) || s.unkLasts z

/-- Why zone z is FAILED (R512, R514, R515, R550): 1 data, 2 speed permit, 3 degradation, 4 channels; 0 not. -/
def State.zoneCause (s : State) (z : Nat) : Nat :=
  if (s.zone z).dataFault || s.saf.timeout then 1
  else if !s.flag SAF_STAT_spd then 2
  else if s.safFlag (SAF_ZN_RSP_react z) then
    if (s.zone z).last.any (fun m => decide (m.inService < s.safRd (SAF_ZN_RSP_ch_min z))) then 4
    else if s.unkLasts z then 3 else 0
  else if s.zoneDegraded z then 3 else 0

/-- Post ZONE (R525). -/
def State.zoneEvent (s : State) (z : Nat) : State := s.safEvent 0x72 3 z (s.reg (SAF_ZN_STAT z)) 0

/-- Zone z enters a state, with its event (R514). -/
def State.zoneTo (s : State) (z st : Nat) : State := (s.put (SAF_ZN_STAT_state z) st).zoneEvent z

/-- SAF_ZN_STAT shows the run, the latched cause and the degradation; the end of a degradation posts an event (R515, R550). -/
def State.showZone (s : State) (z : Nat) : State :=
  let d := s.zoneDegraded z
  doIf (s.flag (SAF_ZN_STAT_degr z) && !d) (fun t => t.zoneEvent z)
    (((s.put (SAF_ZN_STAT_run z) (min (s.zone z).hitRun 255)).putB (SAF_ZN_STAT_latched z) (s.zone z).dataFault).putB
      (SAF_ZN_STAT_degr z) d)

/-- Zone z follows its causes and its runs (R514). -/
def State.evalZone (s : State) (z : Nat) : State :=
  let cause := s.zoneCause z
  let st := s.rd (SAF_ZN_STAT_state z)
  if cause ≠ 0 then
    let s1 := ((s.modZone z (fun x => { x with hitRun := 0, clearRun := 0 })).put (SAF_ZN_STAT_cause z) cause).showZone z
    doIf (st != 3) (fun t => t.zoneTo z 3) s1
  else
    let s1 := (s.put (SAF_ZN_STAT_cause z) 0).showZone z
    if st = 3 then s1.put (SAF_ZN_STAT_state z) 0
    else if st ≠ 2 ∧ s.safRd (SAF_ZN_CRIT_m z) < (s.zone z).hitRun then s1.zoneTo z 2
    else if st ≠ 1 ∧ s.safRd (SAF_ZN_CRIT_clear_n z) < (s.zone z).clearRun then s1.zoneTo z 1
    else s1

/-- SAF_ZN_SUM follows the zones (R544). -/
def State.showZones (s : State) : State :=
  let mask (st : Nat) := (s.enabledZones.map (fun z => if s.rd (SAF_ZN_STAT_state z) = st then 2 ^ z else 0)).sum
  (s.put SAF_ZN_SUM_free (mask 1)).put SAF_ZN_SUM_failed (mask 3)

/-- Every enabled zone is evaluated. -/
def State.evalZones (s : State) : State := (forAll s.enabledZones (fun t z => t.evalZone z) s).showZones

/-- A timeout is declared (R512). -/
def State.declareTimeout (s : State) : State :=
  (s.dataNote 0 (s.saf.chkLast.getD 0) SAF_DATA_STAT_tmo_ct).modSaf (fun x => { x with timeout := true })

/-- sweep_tmo ticks have passed, this tick counted, since the last summary that arrived before it (R490, R512). -/
def State.sweepLate (s : State) : Bool := s.flag SAF_STAT_cfg_valid && decide (s.safRd SAF_ZN_GLB_sweep_tmo ≤ s.saf.sinceSum + 1)

/-- Steps 3 and 4 of a tick (R489, R509, R512, R514): the speed permit and the summaries that have arrived, then the zones; a
timeout that an arrival has ended is over. -/
def State.tickZones (s : State) : State :=
  ((s.putB SAF_STAT_spd (s.timingLive && s.speedPermit)).modSaf (fun x => { x with
    timeout := x.timeout && s.sweepLate })).evalZones

/-- The timeout's part of step 5 of a tick (R489, R490, R512): the ticks of a timeout count from the last summary that arrived
before this tick. -/
def State.tickTimeout (s : State) : State :=
  (doIf (s.sweepLate && !s.saf.timeout) (fun t => t.declareTimeout.evalZones) s).modSaf (fun x => { x with
    sinceSum := if x.arrived then 0 else x.sinceSum + 1, arrived := false })

/-- SWEEP_TIMEOUT (R512): no summary has arrived within sweep_tmo ticks. -/
def execSweepTimeout (s : State) : Host.Outcome State Fault Refusal :=
  .next (doIf (s.safetyLive && s.flag SAF_STAT_cfg_valid && !s.saf.timeout) (fun t =>
    (t.declareTimeout.modSaf (fun x => { x with
      sinceSum := max x.sinceSum (t.safRd SAF_ZN_GLB_sweep_tmo) })).evalZones) s)

/-- CLR_ZONE (R514): latched causes are cleared; a zone whose cause is gone leaves FAILED. -/
def State.clearZones (s : State) : State :=
  (forAll zoneNos (fun t z => t.modZone z (fun x => { x with dataFault := false })) s).evalZones

/-- CLR_ZONE (R514). -/
def execClrZone (q : Src) (s : State) : Host.Outcome State Fault Refusal :=
  .next (s.safWrite q SAF_CMD (fun t => t.clearZones))

/-- Start-up of every zone: UNKNOWN; the first summary sets the sequence (R512, R514). -/
def State.startZones (s : State) : State :=
  (forAll zoneNos (fun t z => ((t.setReg (SAF_ZN_STAT z) 0).modZone z (fun _ => Zone.reset)))
    (s.modSaf (fun x => { x with lastSeq := none, chkLast := none, sinceSum := 0, arrived := false, timeout := false }))).showZones

end Sys2Proof.Machine
end

