-- ==== Sys2Proof/Machine/SafetyBlock.lean ====
section
/-! DEFINITION. The safety block as a whole: tick, internal faults, reports, configuration sets, lock, burn
(spec/12_safety_block.md R488 to R491, R518, R520 to R525). -/

namespace Sys2Proof.Machine

/-! ## Reports (R524) -/

/-- A mask of the indices that satisfy a condition. -/
def pickMask (l : List Nat) (p : Nat → Bool) : Nat := (l.map (fun i => if p i then 2 ^ i else 0)).sum

/-- A safety report of type 1 periodic or 2 change, with its counter (R524). -/
def State.reportWords (s : State) (typ : Nat) : List Word :=
  let pst (n i : Nat) := s.rd (SAF_PAIR_STAT_state i) == n
  let zst (n z : Nat) := s.zoneEn z && s.rd (SAF_ZN_STAT_state z) == n
  let ws : List Word := [
    w32 (typ + 2 ^ 8 * s.rd SAF_STAT_state + 2 ^ 16 * s.saf.repCount.toNat),
    s.reg SAF_TICK,
    w32 (pickMask pairNos (pst 3) + 2 ^ 8 * pickMask pairNos (pst 4) + 2 ^ 16 * pickMask outNos (fun o => s.flag (SAF_OUT_STAT_drv o))
      + 2 ^ 20 * pickMask outNos (fun o => s.flag (SAF_OUT_STAT_rb o)) + 2 ^ 24 * pickMask outNos (fun o => s.flag (SAF_OUT_STAT_fault o))
      + 2 ^ 28 * s.rd SAF_STAT_len_drv + 2 ^ 29 * s.rd SAF_STAT_len_rb + 2 ^ 30 * s.rd SAF_STAT_spd
      + 2 ^ 31 * s.rd SAF_STAT_cfg_valid),
    w32 (pickMask zoneNos (zst 1) + 2 ^ 16 * pickMask zoneNos (zst 2)),
    w32 (pickMask zoneNos (zst 3) + 2 ^ 16 * pickMask zoneNos (fun z => s.flag (SAF_ZN_STAT_degr z))),
    s.reg SAF_CRC,
    w32 (s.saf.lastSeq.getD 0 + 2 ^ 8 * s.rd SAF_STAT_ifault)]
  ws ++ [crc32 (wordsBytes ws)]

/-- Send a report; one that a full FIFO drops shows in the counter (R524). -/
def State.report (s : State) (typ : Nat) : State :=
  doIf (s.safFlag SAF_GLB_rep_en) (fun t =>
    (t.modSaf (fun x => { x with repCount := x.repCount + 1 })).sendFabric (.report (t.reportWords typ))) s

/-- The states whose change a report announces (R524). -/
def State.safStates (s : State) : List Nat :=
  pairNos.map (fun i => s.rd (SAF_PAIR_STAT_state i)) ++ outNos.map (fun o => s.rd (SAF_OUT_STAT_drv o))
  ++ zoneNos.map (fun z => s.rd (SAF_ZN_STAT_state z)) ++ [s.rd SAF_STAT_len_drv]

/-- A change since the previous tick is reported (R524). -/
def State.tickReport (s : State) : State :=
  doIf (s.safStates != s.saf.shown) (fun t => (t.report 2).modSaf (fun x => { x with shown := t.safStates })) s

/-- SAFETY_REPORT (R524): the report period has passed. -/
def execSafetyReport (s : State) : Host.Outcome State Fault Refusal :=
  .next (doIf s.safetyLive (fun t => t.report 1) s)

/-! ## The tick (R489) -/

/-- Step 5 of a tick (R489, R498, R512): the discrepancy deadlines that expire, then the timeout of the zone data. -/
def State.tickDeadlines (s : State) (late : List Nat) : State := (forAll late (fun t i => t.pairFault i 1) s).tickTimeout

/-- The steps of a tick in the order of R489: inputs and pairs, arrivals, zones, deadlines, then every demand, then every drive. -/
def State.safetyTick (s : State) : State :=
  let t := (((s.wrapInc SAF_TICK_tick).tickPairs).tickZones).tickDeadlines (pairNos.filter (fun i => s.discExpires i))
  (t.formDemands.driveDemands (fun o => t.flag (SAF_OUT_STAT_dem o))).tickReport

/-- SAFETY_TICK (R488, R489). -/
def execSafetyTick (s : State) : Host.Outcome State Fault Refusal := .next (doIf s.safetyLive (fun t => t.safetyTick) s)

/-! ## Internal faults (R518) -/

/-- The code of a diagnostic (R518). -/
def Diagnostic.ifault (d : Diagnostic) : Nat :=
  match d with
  | .configCrc => 1
  | .rcWindow => 2
  | .tickWatchdog => 3
  | .vectors => 4
  | .parity => 5
  | .supply => 6

/-- SAFETY_INTERNAL_FAULT (R518): everything is forced off; latched until device reset; the first fault stands. -/
def State.internalFault (s : State) (code : Nat) : State :=
  doIf (s.rd SAF_STAT_state != 4) (fun t =>
    (((((t.put SAF_STAT_state 4).put SAF_STAT_ifault code).allOff).safEvent 0x75 0 0 (w32 code) 0).log 0x50 5 7 0 0 0 code)) s

/-- A diagnostic fails (R518); the supply monitor, which holds the outputs off, leaves its cause (R599). -/
def State.diagnosticFails (s : State) (d : Diagnostic) : State :=
  (doIf (decide (d = .supply)) (fun t => t.putB CLK_RST_CAUSE_supply true) s).internalFault (Diagnostic.ifault d)

/-- SAFETY_DIAGNOSTIC (R518). -/
def execSafetyDiagnostic (d : Diagnostic) (passed : Bool) (s : State) : Host.Outcome State Fault Refusal :=
  .next (doIf (s.running && !passed) (fun t => t.diagnosticFails d) s)

/-! ## Configuration sets (R520 to R522) -/

/-- The CRC-32 of a configuration set: its 125 registers in ascending order (R521). -/
def setCrc (m : Sparse Word) : Word := crc32 (wordsBytes (safCfgAddrs.map (sparseGet resetWord m)))

/-- Two named sources. -/
def bothNamed (a b : Nat) : Bool := decide (a < 4) && decide (b < 4)

/-- A pair of a configuration set is consistent (R507, R521, R538). -/
def State.pairConsistent (s : State) (i : Nat) : Bool :=
  let a := s.safRd (SAF_IN_CFG_src_a i)
  let b := s.safRd (SAF_IN_CFG_src_b i)
  let t := s.safRd (SAF_IN_CFG_type i)
  (!bitOf (s.safRd SAF_LEN_CFG_gate) i || (t == 1 && bothNamed a b && a != b))
  && (!(t == 1 || t == 2) || !(bothNamed a b) || a != b)
  && (decide (a < 4) || a == 7) && (decide (b < 4) || b == 7)

/-- A zone of a configuration set is consistent (R521). -/
def State.zoneConsistent (s : State) (z : Nat) : Bool :=
  !s.zoneEn z
  || (decide (s.safRd (SAF_ZN_ANG_start z) ≤ s.safRd (SAF_ZN_ANG_end z))
    && decide (s.safRd (SAF_ZN_ANG_end z) < 2 ^ (16 - s.rd SHT_CFG_fct))
    && decide (s.safRd (SAF_ZN_RNG_near z) < s.safRd (SAF_ZN_RNG_far z)) && decide (1 ≤ s.safRd (SAF_ZN_CRIT_k z)))

/-- Every field of a register lies within its stated range. -/
def fieldsInRangeAt (a : Nat) (w : Word) : Bool :=
  match regDescAt a with
  | none => true
  | some d => d.fields.all (fun f => decide (f.lo ≤ w.toNat / 2 ^ f.lsb % 2 ^ f.width) && decide (w.toNat / 2 ^ f.lsb % 2 ^ f.width ≤ f.hi))

/-- The consistency rules of R521, on the active set of a state. A partner counts where it is enabled. -/
def State.setConsistent (s : State) : Bool :=
  pairNos.all (fun i => s.pairConsistent i)
  && decide (10 * s.safRd SAF_STO_CFG_pw + 100 < 250 * s.safRd SAF_STO_CFG_per)
  && outNos.all (fun o => !s.safFlag (SAF_OUT_CFG_prt_en o) || s.safRd (SAF_OUT_CFG_partner o) != o)
  && zoneNos.all (fun z => s.zoneConsistent z)
  && safCfgAddrs.all (fun a => fieldsInRangeAt a (s.safWord a))

/-- Start-up of every pair and zone (R499). -/
def State.startUp (s : State) : State := s.startPairs.startZones

/-- Post CONFIG (R525). -/
def State.configEvent (s : State) (abandoned : Bool) : State :=
  s.safEvent 0x74 0 0 (w32 (s.rd SAF_UNLOCK_cstat + 16 * abandoned.toNat)) (s.reg SAF_CRC)

/-- The result of an unlock or of a commit (R521, R528). -/
def State.cstat (s : State) (v : Nat) : State := (s.put SAF_UNLOCK_cstat v).configEvent false

/-- The burned set refuses unlocks (R523), also where its CRC has failed. -/
def State.sealed (s : State) : Bool :=
  match s.otp.saf with
  | none => false
  | some p => SAF_GLB_seal.get (sparseGet resetWord p.1 SAF_GLB) != 0

/-- The unlock sequence completes (R520, R523): CONFIG, the shadow set loaded, everything off. -/
def State.enterConfig (s : State) (q : Src) : State :=
  if s.sealed then s.cstat 4
  else if s.rd SAF_STAT_state = 1 ∨ s.rd SAF_STAT_state = 2 then
    (((s.put SAF_STAT_state 3).put SAF_UNLOCK_owner (if q = .spi then 2 else 1)).put SAF_UNLOCK_cstat 0).allOff.modSaf
      (fun x => { x with shadow := x.active })
  else s

/-- A key write of SAF_UNLOCK (R520): 0x5AF1 begins the sequence, 0xF15A from the same requester completes it, any other value
breaks it. -/
def State.unlockKey (s : State) (q : Src) (key : Nat) : State :=
  let s1 := s.modSaf (fun x => { x with keyBy := if key = 0x5AF1 then some q else none })
  doIf (key == 0xF15A && decide (s.saf.keyBy = some q)) (fun t => t.enterConfig q) s1

/-- SAF_UNLOCK_KEY (R520). -/
def execSafUnlockKey (q : Src) (value : Word) (s : State) : Host.Outcome State Fault Refusal :=
  .next (s.safWrite q SAF_UNLOCK (fun t => t.unlockKey q (SAF_UNLOCK_key.get value)))

/-- SAF_UNLOCK_KEY_TIMEOUT (R520): 10 ms have passed since the first key. -/
def execSafUnlockKeyTimeout (s : State) : Host.Outcome State Fault Refusal :=
  .next (s.modSaf (fun x => { x with keyBy := none }))

/-- The block leaves CONFIG: RUN where an active set is valid, else INVALID; every pair and zone starts up (R521, R522). -/
def State.leaveConfig (s : State) : State :=
  ((s.put SAF_STAT_state (if s.flag SAF_STAT_cfg_valid then 2 else 1)).put SAF_UNLOCK_owner 0).startUp

/-- CONFIG is abandoned (R522). -/
def State.abandonConfig (s : State) : State :=
  doIf s.inConfig (fun t => t.leaveConfig.configEvent true) s

/-- SAF_UNLOCK_ABORT (R522). -/
def execSafUnlockAbort (q : Src) (s : State) : Host.Outcome State Fault Refusal :=
  .next (s.safWrite q SAF_UNLOCK (fun t => t.abandonConfig))

/-- CONFIG_TIMEOUT (R522). -/
def execConfigTimeout (s : State) : Host.Outcome State Fault Refusal :=
  .next (doIf s.safetyLive (fun t => t.abandonConfig) s)

/-- A set becomes the active set (R521, R523). -/
def State.activate (s : State) (m : Sparse Word) (crc : Word) (src : Bool) : State :=
  (((s.modSaf (fun x => { x with active := m })).setReg SAF_CRC crc).putB SAF_STAT_cfg_valid true).putB SAF_STAT_cfg_src src

/-- A write of SAF_COMMIT (R521): the CRC, then the consistency rules. -/
def State.commitSet (s : State) (crc : Word) : State :=
  let m := s.saf.shadow
  if !s.inConfig then s
  else if setCrc m ≠ crc then s.cstat 2
  else if !(s.modSaf (fun x => { x with active := m })).setConsistent then s.cstat 3
  else ((s.activate m crc true).leaveConfig).cstat 1

/-- SAF_COMMIT (R521). -/
def execSafCommit (q : Src) (crc : Word) (s : State) : Host.Outcome State Fault Refusal :=
  .next (s.safWrite q SAF_COMMIT (fun t => t.commitSet crc))

/-! ## One-time-programmable memory (R523) -/

/-- The 125 words of the active set. -/
def State.activeWords (s : State) : List (Nat × Word) := safCfgAddrs.map (fun a => (a, s.safWord a))

/-- A key write of SAF_CTL.otp_key (R523): 0x5C, then 0xC5 from the same requester, in RUN with a blank memory. -/
def State.otpKey (s : State) (q : Src) (key : Nat) : State :=
  if s.rd SAF_CTL_otp_state = 0 ∧ s.rd SAF_STAT_state = 2 ∧ s.saf.burn.isNone then
    s.modSaf (fun x => { x with
      otpBy := if key = 0x5C then some q else none
      burn := if key = 0xC5 ∧ x.otpBy = some q then some (s.activeWords, s.reg SAF_CRC) else none })
  else s

/-- SAF_OTP_KEY (R523). -/
def execSafOtpKey (q : Src) (key : Byte) (s : State) : Host.Outcome State Fault Refusal :=
  .next (s.safWrite q SAF_CTL (fun t => t.otpKey q key.toNat))

/-- SAF_OTP_KEY_TIMEOUT (R523). -/
def execSafOtpKeyTimeout (s : State) : Host.Outcome State Fault Refusal :=
  .next (s.modSaf (fun x => { x with otpBy := none }))

/-- SAF_OTP_BURN_DONE (R523). -/
def execSafOtpBurnDone (s : State) : Host.Outcome State Fault Refusal :=
  .next (match s.saf.burn with
  | none => s
  | some p => ((s.modOtp (fun x => { x with saf := some p })).modSaf (fun x => { x with burn := none })).put SAF_CTL_otp_state 1)

/-- A burned set as a table. -/
def setTable (ws : List (Nat × Word)) : Sparse Word := ws.foldl (fun m p => sparseSet resetWord m p.1 p.2) []

/-- The load at the ready bit (R523): RUN, or INVALID where the memory is blank or its CRC fails. -/
def State.loadSet (s : State) : State :=
  match s.otp.saf with
  | none => s.put SAF_STAT_state 1
  | some (ws, crc) =>
    if setCrc (setTable ws) = crc then
      (((s.activate (setTable ws) crc false).put SAF_CTL_otp_state 1).put SAF_STAT_state 2).startUp
    else ((s.put SAF_CTL_otp_state 2).put SAF_STAT_state 1).log 0x51 5 7 0 0 0 0

/-- SAFETY_BLOCK_READY (R523, R551): an internal fault found before keeps the block in FAULT. -/
def execSafetyBlockReady (s : State) : Host.Outcome State Fault Refusal :=
  .next (doIf (s.running && !s.flag GLB_READY_safety) (fun t =>
    let t1 := doIf (t.rd SAF_STAT_state == 0) (fun u => u.loadSet) t
    (t1.modSaf (fun x => { x with shown := t1.safStates })).setReady GLB_READY_safety true) s)

end Sys2Proof.Machine
end

