-- ==== Sys2Proof/Machine/Pins.lean ====
section
/-! DEFINITION. The levels of the digital output balls (spec/16_package_and_electrical.md R629, R631; R82, R147, R149, R239, R403,
R494, R501, R506, R597), as functions of the state. -/

namespace Sys2Proof.Machine

/-- What an output ball shows; an open-drain output or one of high impedance that does not drive is floating. -/
inductive Level where
  | low | high | floating
  deriving DecidableEq, Repr

/-- The CMOS and LVDS signal balls of R629; neg names the negative ball of an LVDS pair, line one of HALL_U to HALL_IDX or of
SPI_SCK, SPI_CS_N, SPI_MOSI, SPI_MISO. -/
inductive Ball where
  | chgGate (e : Nat)
  | emtTrg (e : Nat) (neg : Bool)
  | emon (n : Nat) (neg : Bool)
  | hall (line : Nat)
  | motSerr
  | hkSync
  | sin (i : Nat) (chB : Bool)
  | sto (n : Nat)
  | sout (o : Nat)
  | srb (o : Nat)
  | lenDrv
  | lenRb
  | srstIn
  | perstN
  | refclk (neg : Bool)
  | spi (line : Nat)
  | irqN
  | resetN
  deriving DecidableEq, Repr

/-- Both balls of each of n pairs. -/
def ballPairs (n : Nat) (f : Nat → Bool → Ball) : List Ball := (List.range n).flatMap (fun i => [f i false, f i true])

/-- The cells of the boundary register (R631). DESIGN CHOICE (log 113): the manual gives the register no order; the model's is
that of R629's table. The port's own balls have no cell. -/
def boundaryBalls : List Ball :=
  (List.range 32).map Ball.chgGate ++ ballPairs 32 Ball.emtTrg ++ ballPairs 4 Ball.emon ++ (List.range 4).map Ball.hall
  ++ [.motSerr, .hkSync] ++ ballPairs 8 Ball.sin ++ (List.range 4).map Ball.sto ++ (List.range 4).map Ball.sout
  ++ (List.range 4).map Ball.srb ++ [.lenDrv, .lenRb, .srstIn, .perstN, .refclk false, .refclk true]
  ++ (List.range 4).map Ball.spi ++ [.irqN, .resetN]

/-- A level of two. -/
def levelOf (b : Bool) : Level := if b then .high else .low

/-- The gates at the output buffers of EMT_TRG (R82, R506, R588): REFCLK is present and the hardware gate of LEN_DRV is on. They
need no clock. -/
def State.triggerGate (s : State) : Bool := s.running && s.flag CLK_STAT_refclk && !s.clk.xtalLost && s.gateOn

/-- The instant lies in a pulse. -/
def inPulse (x : Int) (p : Int × Int) : Bool := decide (p.1 ≤ x) && decide (x < p.2)

/-- EMT_TRG e is active at an instant in LSB (R147, R149): its emitter's pulse, or on EMT_TRG31 the sync pulse. -/
def State.triggerActive (s : State) (e : Nat) (x : Int) : Bool :=
  s.triggerGate && ((s.emit e).pulse.any (inPulse x)
    || (e == 31 && s.shot.syncPulse.any (fun p => inPulse x ((p.1 : Int), (p.2 : Int)))))

/-- The code of a channel's bias trim DAC (R51, R62): trim_eff, and during a test tone of an enabled channel 2 above or below it in
turns, at 384 kHz; half tells which half of a period runs. -/
def State.trimDac (s : State) (c k : Nat) (half : Bool) : Nat :=
  let code := s.rd (CHN_BIAS_trim_eff c k)
  if (s.crate c).tone.isSome ∧ (s.chan c k).st ≠ .off then (if half then code - 2 else min 255 (code + 2)) else code

/-- MOT_SERR (R239): high for the high time of the running period; low without out_en, and while the timing domain is in reset. -/
def State.serrLevel (s : State) : Level :=
  levelOf (s.timingLive && s.flag MOT_SERR_CFG_out_en && decide (s.serrPhase < s.rd MOT_SERR_high))

/-- IRQ_N (R403): an open-drain output, low while HIF_IRQ_STAT AND HIF_IRQ_EN is not 0. -/
def State.irqLevel (s : State) : Level := if s.reg HIF_IRQ_STAT &&& s.reg HIF_IRQ_EN = 0 then .floating else .low

/-- The level of an output ball in reset (R597); none for an input. -/
def Ball.resetLevel (b : Ball) : Option Level :=
  match b with
  | .chgGate _ | .sout _ | .lenDrv | .motSerr => some .low
  | .emtTrg _ neg => some (levelOf neg)
  | .sto _ | .irqN | .spi 3 => some .floating
  | .emon _ _ | .hall _ | .hkSync | .sin _ _ | .srb _ | .lenRb | .srstIn | .perstN | .refclk _ | .spi _ | .resetN => none

/-- The level that the running device gives an output ball at an instant in LSB; none for an input. SPI_MISO is not driven while
SPI_CS_N is high (R396), that is, outside a frame; a frame is one command (log 64). -/
def State.runLevel (s : State) (b : Ball) (x : Int) : Option Level :=
  match b with
  | .chgGate e => some (levelOf (s.chg e).gate)
  | .emtTrg e neg => some (levelOf (s.triggerActive e x != neg))
  | .motSerr => some s.serrLevel
  | .sto n => some (levelOf (!(s.sto n).low))
  | .sout o => some (levelOf (s.flag (SAF_OUT_STAT_drv o)))
  | .lenDrv => some (levelOf (s.flag SAF_STAT_len_drv))
  | .irqN => some s.irqLevel
  | .spi 3 => some .floating
  | .emon _ _ | .hall _ | .hkSync | .sin _ _ | .srb _ | .lenRb | .srstIn | .perstN | .refclk _ | .spi _ | .resetN => none

/-- The cell of a ball only observes (R631). -/
def Ball.observesOnly (b : Ball) : Bool :=
  match b with
  | .chgGate _ | .emtTrg _ _ | .sout _ | .lenDrv => true
  | .emon _ _ | .hall _ | .motSerr | .hkSync | .sin _ _ | .sto _ | .srb _ | .lenRb | .srstIn | .perstN | .refclk _ | .spi _
  | .irqN | .resetN => false

/-- The level that its cell gives a ball under EXTEST (R403, R631): IRQ_N is open-drain. -/
def Ball.cellLevel (b : Ball) (cell : Bool) : Level :=
  if b = .irqN then (if cell then .floating else .low) else levelOf cell

/-- The level of a ball that the device drives (R597, R631): under EXTEST its cell's, or its reset level where the cell only
observes. -/
def State.ballLevel (s : State) (b : Ball) (x : Int) : Option Level :=
  if s.tap.ir = 0b0000 then
    if b.observesOnly then b.resetLevel
    else b.resetLevel.map (fun _ => b.cellLevel (s.tap.driven.getD (boundaryBalls.idxOf b) false))
  else if s.running then s.runLevel b x
  else b.resetLevel

end Sys2Proof.Machine
end

