-- ==== Sys2Proof/Machine/Rings.lean ====
section
/-! DEFINITION. Rings (spec/09_host_interface.md R356 to R379): contexts and their cache, doorbells, ring states, records,
write-back blocks, interrupts. -/

namespace Sys2Proof.Machine

/-! ## Contexts (R360 to R363) -/

/-- The ring's class: 0 CMD, 1 PNT, 2 HST, 3 EVT, 4 RAW, 5 SNP, 6 SAF (R361). -/
def ctxClass (ws : List Word) : Nat := bitsOf (wordAt ws 0) 0 3
/-- The ring's size in units (R361). -/
def ctxSize (ws : List Word) : Nat := 2 ^ bitsOf (wordAt ws 0) 4 5
/-- MSI-X vector (R361). -/
def ctxVector (ws : List Word) : Nat := bitsOf (wordAt ws 0) 16 11
/-- Interrupt enable (R361). -/
def ctxIrqEn (ws : List Word) : Bool := bitsOf (wordAt ws 0) 27 1 == 1
/-- Records per interrupt (R361). -/
def ctxModCount (ws : List Word) : Nat := bitsOf (wordAt ws 1) 16 16
/-- Interrupt delay in µs (R361). -/
def ctxModTime (ws : List Word) : Nat := bitsOf (wordAt ws 2) 0 16
/-- Address of unit 0 (R361). -/
def ctxBase (ws : List Word) : Nat := (joinWords (wordAt ws 4) (wordAt ws 5)).toNat
/-- Address of the write-back block (R361). -/
def ctxWb (ws : List Word) : Nat := (joinWords (wordAt ws 6) (wordAt ws 7)).toNat

/-- MSI-X vectors of a function (R357). -/
def vectorCount : Func → Nat
  | .pf0 => 2048
  | .pf1 => 64

/-- The classes that a function owns (R357). -/
def ownsClass : Func → Nat → Bool
  | .pf0, k => decide (k ≤ 5)
  | .pf1, k => k == 0 || k == 3 || k == 5 || k == 6

/-- The ring is ENABLED and an event ring of function f (R362, R384). -/
def State.isEvtRing (s : State) (f : Func) (r : RingId) : Bool :=
  decide (ringOwner r = f) && decide ((s.ring r).st = .enabled) && ctxClass (s.ring r).ctx == 3

/-- A fetched context is valid (R362). -/
def State.ctxValid (s : State) (f : Func) (ws : List Word) : Bool :=
  bitsOf (wordAt ws 0) 3 1 == 0 && bitsOf (wordAt ws 0) 9 7 == 0 && bitsOf (wordAt ws 0) 28 4 == 0
  && bitsOf (wordAt ws 2) 16 16 == 0 && wordAt ws 3 == 0
  && ownsClass f (ctxClass ws)
  && decide (4 ≤ bitsOf (wordAt ws 0) 4 5) && decide (bitsOf (wordAt ws 0) 4 5 ≤ 20)
  && (decide (7 ≤ bitsOf (wordAt ws 0) 4 5) || !(ctxClass ws == 2 || ctxClass ws == 5))
  && ctxBase ws % 64 == 0 && ctxWb ws % 16 == 0
  && decide (ctxVector ws < vectorCount f)
  && (if ctxClass ws = 0 then s.isEvtRing f ((wordAt ws 1).extractLsb' 0 16) else bitsOf (wordAt ws 1) 0 16 == 0)

/-- The address of a ring's context (R360). -/
def State.ctxAddr (s : State) (r : RingId) : Nat :=
  (joinWords (s.reg (HIF_CTX_BASE_LO (fnIdx (ringOwner r)))) (s.reg (HIF_CTX_BASE_HI (fnIdx (ringOwner r))))).toNat
    + 64 * (if r.toNat < 0xF000 then r.toNat else r.toNat - 0xF000)

/-- The function may make requests: the link is up and Bus Master Enable is 1 (R393). -/
def State.master (s : State) (f : Func) : Bool := s.flag HIF_LINK_up && (s.fn f).bme

/-- The function accepts memory requests in its BARs (R355, R356). -/
def State.barLive (s : State) (f : Func) : Bool := s.fabricReady && s.flag HIF_LINK_up && (s.fn f).mse

/-- The ring that a read of host memory fetches for. -/
def ReadFor.ring? : ReadFor → Option RingId
  | .context r => some r
  | .reload r _ => some r
  | .again r _ => some r
  | .descriptor r _ _ => some r
  | .list _ => none

/-- The function's status of Advanced Error Reporting takes the bit of an uncorrectable error (R352; PRESUMED,
notes/assumptions/99.md). -/
def State.noteAer (s : State) (f : Func) (bit : Nat) : State :=
  s.setFn f { s.fn f with aer := { (s.fn f).aer with uncStatus := (s.fn f).aer.uncStatus ||| BitVec.ofNat 32 (2 ^ bit) } }

/-- A read that ended with Unsupported Request stands in the function's error status; where its severity is not fatal it is an
advisory error too, bit 13 of the correctable ones (PRESUMED, notes/assumptions/99.md). -/
def Aer.unsupported (x : Aer) : Aer :=
  { x with
    uncStatus := x.uncStatus ||| BitVec.ofNat 32 (2 ^ 20)
    corStatus := if x.uncSeverity.getLsbD 20 then x.corStatus else x.corStatus ||| BitVec.ofNat 32 (2 ^ 13) }

/-- See `Aer.unsupported`. -/
def State.noteUnsupported (s : State) (q : Src) : State :=
  match q with
  | .pf0 => s.setFn .pf0 { s.fn .pf0 with aer := (s.fn .pf0).aer.unsupported }
  | .pf1 => s.setFn .pf1 { s.fn .pf1 with aer := (s.fn .pf1).aer.unsupported }
  | .spi => s

/-- The host writes the registers of Advanced Error Reporting: a status bit written 1 is cleared. -/
def Aer.write (x : Aer) (w : AerWrite) : Aer :=
  ⟨x.uncStatus &&& ~~~ w.uncClear, w.uncMask, w.uncSeverity, x.corStatus &&& ~~~ w.corClear, w.corMask⟩

/-- A word of the capability, by its offset (PRESUMED, notes/assumptions/99.md). -/
def Aer.word (x : Aer) (offset : Nat) : Word :=
  if offset = 0x04 then x.uncStatus else if offset = 0x08 then x.uncMask else if offset = 0x0C then x.uncSeverity
  else if offset = 0x10 then x.corStatus else if offset = 0x14 then x.corMask else 0

/-- The reads that go out, oldest first, while there is room, and those that stay. -/
def splitReads (ok : HostRead → Bool) : Nat → List HostRead → List HostRead × List HostRead
  | _, [] => ([], [])
  | 0, l => ([], l)
  | n + 1, h :: t =>
    if ok h then (h :: (splitReads ok n t).1, (splitReads ok n t).2)
    else ((splitReads ok (n + 1) t).1, h :: (splitReads ok (n + 1) t).2)

/-- Reads that wait go out, while their function makes requests and fewer than 128 are outstanding (R353, R393). -/
def State.issueReads (s : State) : State :=
  let p := splitReads (fun h => s.master h.func) (128 - s.host.reads.length) s.host.readQ
  s.modHost (fun h => { h with reads := h.reads ++ p.1, readQ := p.2 })

/-- Ask for a read of host memory (R353, R393). -/
def State.askRead (s : State) (r : HostRead) : State :=
  (s.modHost (fun h => { h with readQ := h.readQ ++ [r] })).issueReads

/-- A fetch of the ring is in progress (R363). -/
def State.ringBusy (s : State) (n : Nat) : Bool :=
  (s.host.reads ++ s.host.readQ).any (fun h => h.purpose.ring?.any (fun r => r.toNat == n))

/-- Evict a context: words 8 to 15 go back to host memory. What the device writes into them is its own (R361, R363):
free values. -/
def State.evict (s : State) (n : Nat) : State :=
  let ws := (List.range 8).map (fun i => Config.freeWord (s.free + i))
  let s1 := s.modHost (fun h => { h with lru := h.lru.filter (fun m => m != n) })
  ((s1.skipFree 8).bump RNG_CACHE_evict_ct 1).writeHost (s.ctxAddr (BitVec.ofNat 16 n) + 32) (wordsBytes ws)

/-- The context that a full cache gives up: the least recently used one whose ring has no fetch or write in progress and
whose function can write its words back (R363, R393). A fetch is in progress until CONTEXT_FETCH_DONE takes what it gave, and
until the descriptor that it gave is accepted. -/
def State.victim (s : State) : Option Nat :=
  s.host.lru.find? (fun n =>
    let g := s.ring (BitVec.ofNat 16 n)
    !s.ringBusy n && g.fetched.isNone && !g.fetchFailed && g.descrHeld.isNone && !g.wbDue
      && s.master (ringOwner (BitVec.ofNat 16 n)))

/-- The context of ring r is in the cache (R363). -/
def State.cached (s : State) (r : RingId) : Bool := s.host.lru.contains r.toNat

/-- A place of the cache is, or can be made, free (R363). -/
def State.cacheRoom (s : State) : Bool := decide (s.host.lru.length < 512) || s.victim.isSome

/-- A use of a ring whose context is not in the cache is a miss (R363, R409), whatever its fetch gives. -/
def State.countMiss (s : State) (r : RingId) : State := doIf (!s.cached r) (fun t => t.bump RNG_CACHE_miss_ct 1) s

/-- A ring's context takes the cache's newest place; a full cache evicts for one that is not there (R363). -/
def State.touch (s : State) (r : RingId) : State :=
  if s.cached r then s.modHost (fun h => { h with lru := h.lru.filter (fun m => m != r.toNat) ++ [r.toNat] })
  else
    let s2 := if s.host.lru.length < 512 then s else
      match s.victim with
      | some n => s.evict n
      | none => s
    s2.modHost (fun h => { h with lru := if h.lru.length < 512 then h.lru ++ [r.toNat] else h.lru })

/-- An evicted context can be fetched: no fetch of its ring is in progress, and the cache has a place for it (R363). -/
def State.mayRefetch (s : State) (r : RingId) : Bool := !s.ringBusy r.toNat && s.cacheRoom

/-- A ring whose context the cache has evicted is used: that is a miss, its context is fetched again, and the use waits
(R363, R409). -/
def State.fetchAgain (s : State) (r : RingId) : State :=
  if !s.mayRefetch r then s
  else (s.countMiss r).askRead ⟨ringOwner r, BitVec.ofNat 64 (s.ctxAddr r), 64, .again r (s.ring r).gen⟩

/-- The ring is in use, ENABLED or DRAINING, and its context has been evicted: what uses it fetches it first (R363). -/
def State.lacksCtx (s : State) (r : RingId) : Bool :=
  (decide ((s.ring r).st = .enabled) || decide ((s.ring r).st = .draining)) && !s.cached r

/-- An ENABLED ring's context has been evicted: what asks for its class or its room fetches it first (R363). -/
def State.evicted (s : State) (r : RingId) : Bool := decide ((s.ring r).st = .enabled) && !s.cached r

/-- A use of a ring whose context is cached makes it the newest of the cache (R363). -/
def State.touchHit (s : State) (r : RingId) : State := doIf (s.cached r) (fun t => t.touch r) s

/-! ## Indices, room and reservations (R365, R389) -/

/-- Bytes of one unit of a class (R364). -/
def unitBytes (cls : Nat) : Nat := if cls = 1 then 16 else if cls = 4 then 8 else 32

/-- Units that a record takes (R364). -/
def unitsOf (cls : Nat) (ws : List Word) : Nat := (4 * ws.length + unitBytes cls - 1) / unitBytes cls

/-- Units in use: producer minus consumer (R365). -/
def Ring.occupancy (r : Ring) : Nat :=
  if ctxClass r.ctx = 0 then (r.hostIdx - r.devIdx).toNat else (r.devIdx - r.hostIdx).toNat

/-- The host's index is inconsistent (R372). -/
def Ring.inconsistent (r : Ring) : Bool := decide (ctxSize r.ctx < r.occupancy)

/-- Commands and completions that hold a unit of completion ring e (R389); a descriptor whose read is outstanding, or
that waits for a context, holds its unit too. -/
def State.reservedUnits (s : State) (e : RingId) : Nat :=
  s.host.cmds.countP (fun c => c.accepted && decide (c.cplRing = e))
  + s.host.cpls.countP (fun c => decide (c.cplRing = e))
  + (s.host.reads ++ s.host.readQ).countP (fun h => match h.purpose with
      | .descriptor _ _ x => decide (x = e)
      | _ => false)
  + s.rings.countP (fun p => p.2.descrHeld.isSome && decide (p.2.cplRing = e))

/-- Units into which a record of an output ring may be written (R373, R389). -/
def State.freeUnits (s : State) (r : RingId) : Nat :=
  ctxSize (s.ring r).ctx - (s.ring r).occupancy - (if ctxClass (s.ring r).ctx = 3 then s.reservedUnits r else 0)

/-! ## Write-back blocks (R375, R376) -/

/-- The state word of a write-back block (R375). -/
def Ring.stateWord (r : Ring) : Word :=
  w32 ((if r.st = .enabled ∨ r.st = .draining then 1 else 0) + (if r.st = .error then 2 else 0)
    + (if r.lossPending then 4 else 0) + 65536 * r.gen.toNat)

/-- The four words of a write-back block (R375). -/
def Ring.wbWords (r : Ring) : List Word :=
  if ctxClass r.ctx = 0 then [r.devIdx, r.devIdx - 1, 0, w32 (r.stateWord.toNat &&& 0xFFFFFFFB)]
  else [r.devIdx, r.seq - 1, r.drops, r.stateWord]

/-- Write a ring's write-back block; a function that may make no request leaves it due (R376, R393). -/
def State.writeBack (s : State) (r : RingId) : State :=
  if s.master (ringOwner r) then
    (s.writeHost (ctxWb (s.ring r).ctx) (wordsBytes (s.ring r).wbWords)).modRing r
      (fun g => { g with wbDue := false, wbBytes := 0 })
  else s.modRing r (fun g => { g with wbDue := true })

/-- A descriptor that the ring has read and not accepted, a FENCE among them, is dropped (R371: no new descriptor). -/
def State.dropFence (s : State) (r : RingId) : State :=
  (s.modHost (fun h => { h with cmds := h.cmds.filter (fun c => c.accepted || decide (c.ref.ring ≠ r)) })).modRing r
    (fun g => { g with descrHeld := none })

/-- The device has the ring's context: a fetch gave a valid one, and none that failed has taken its place (R362, R371, R392). -/
def Ring.hasCtx (g : Ring) : Bool := decide (wordAt g.ctx 0 ≠ 0)

/-- Put a ring into ERROR: it is used no more, and RING_ERROR is posted; an ENABLED ring whose context the device has writes its
block (R371, R376). -/
def State.ringError (s : State) (r : RingId) : State :=
  let s1 := (s.dropFence r).modRing r (fun g => { g with
    st := .error, held := [], fetched := none, fetchFailed := false })
  (if (s.ring r).st = .enabled ∧ (s.ring r).hasCtx then s1.writeBack r else s1).postRing 0x51 r []

/-- Put a ring into DISABLED with its last write-back and RING_DISABLED (R371, R376). -/
def State.ringDisabled (s : State) (r : RingId) : State :=
  let s1 := s.modRing r (fun g => { g with st := .disabled, armed := false, irqCount := 0, lossPending := false })
  (if (s.ring r).hasCtx then s1.writeBack r else s1).postRing 0x52 r []

/-! ## Interrupts (R378, R379) -/

/-- A vector of function f is masked: by its table entry, or with all others by the Function Mask of configuration space
(R379). -/
def State.vectorMasked (s : State) (f : Func) (v : Nat) : Bool :=
  (s.fn f).msixMask || (sparseGet (fun _ => MsixEntry.reset) (s.fn f).msix v).masked

/-- Send the MSI-X messages that are pending and no longer masked (R379). -/
def State.sendPending (s : State) (f : Func) : State :=
  if s.master f ∧ (s.fn f).msixEn then
    let go := (s.fn f).pba.filter (fun v => !s.vectorMasked f v)
    (s.setFn f { s.fn f with pba := (s.fn f).pba.filter (fun v => !go.contains v) }).modHost
      (fun h => { h with irqs := h.irqs ++ go.map (fun v => (f, v)) })
  else s

/-- Send one MSI-X message: a masked vector sets its pending bit (R379). -/
def State.sendVector (s : State) (f : Func) (v : Nat) : State :=
  if (s.fn f).msixEn then
    if s.vectorMasked f v then
      if (s.fn f).pba.contains v then s else s.setFn f { s.fn f with pba := (s.fn f).pba ++ [v] }
    else s.modHost (fun h => { h with irqs := h.irqs ++ [(f, v)] })
  else s

/-- The ring's interrupt is due (R378). -/
def State.irqDue (s : State) (r : RingId) : Bool :=
  let g := s.ring r
  (decide (g.st = .enabled) || decide (g.st = .draining)) && !(ctxClass g.ctx == 0) && ctxIrqEn g.ctx && g.armed
  && decide (0 < g.irqCount)
  && (decide (ctxModCount g.ctx ≤ g.irqCount) || decide (100 * ctxModTime g.ctx ≤ s.clk.ftick - g.irqSince))

/-- A ring's interrupt goes out: after the covering write-back, then the ring is disarmed and its count cleared (R378). -/
def State.irqGoes (s : State) (r : RingId) : State :=
  ((if (s.ring r).wbDue then s.writeBack r else s).sendVector (ringOwner r) (ctxVector (s.ring r).ctx)).modRing r
    (fun g => { g with armed := false, irqCount := 0 })

/-- Send a ring's interrupt where it is due (R378); one whose context has been evicted waits for its fetch (R363). -/
def State.sendIrq (s : State) (r : RingId) : State :=
  if s.irqDue r ∧ s.master (ringOwner r) then
    if s.lacksCtx r then s.fetchAgain r else (s.touchHit r).irqGoes r
  else s

/-! ## Doorbells (R359, R367 to R371) -/

/-- Count a discarded doorbell (R359, R370). -/
def State.badBell (s : State) (f : Func) : State := s.bump (HIF_FN_ERR_db_bad (fnIdx f)) 1

/-- The host's index arrives; an inconsistent one puts an ENABLED ring in ERROR (R371, R372). -/
def State.takeIndex (s : State) (r : RingId) (index : Word) : State :=
  let s1 := s.modRing r (fun g => { g with hostIdx := index })
  if (s1.ring r).st = .enabled ∧ (s1.ring r).inconsistent then s1.ringError r else s1

/-- Arm the ring's interrupt; if it is then due, it is sent at once (R379). -/
def State.arm (s : State) (r : RingId) : State := (s.modRing r (fun g => { g with armed := true })).sendIrq r

/-- Start to fetch a ring's context (R360, R371). -/
def State.fetchCtx (s : State) (r : RingId) (why : ReadFor) : State :=
  s.askRead ⟨ringOwner r, BitVec.ofNat 64 (s.ctxAddr r), 64, why⟩

/-- A doorbell with disable, in a state in which it acts (R371). -/
def State.bellDisable (s : State) (r : RingId) (index : Word) (arm : Bool) : State :=
  if (s.ring r).st = .error then s.ringDisabled r
  else if ((s.takeIndex r index).ring r).st = .error then s.takeIndex r index
  else
    let s1 := doIf arm (fun t => t.arm r) (((s.takeIndex r index).modRing r (fun g => { g with st := .draining })).dropFence r)
    (s1.modHost (fun h => h.setRecs (h.allRecs.map (fun c => if c.ring = r then { c with kept := true } else c)))).writeBack r

/-- A doorbell waits for a fetch of its ring's context, behind those that wait already (R363, R370). -/
def State.holdBell (s : State) (r : RingId) (h : HeldBell) : State := s.modRing r (fun g => { g with held := g.held ++ [h] })

/-- Process a doorbell of function f for ring r (R359, R370, R371). One that uses an evicted context waits for its fetch (R363). -/
def State.bell (s : State) (f : Func) (r : RingId) (index : Word) (enable disable reload arm : Bool) : State :=
  if ringOwner r ≠ f ∨ (enable ∧ disable) then s.badBell f
  else match (s.ring r).st with
  | .disabled =>
    if disable || reload then s.badBell f
    else if enable then
      (((s.modRing r (fun g =>
        { Ring.reset with gen := g.gen, hostIdx := index, armed := g.armed || arm, st := .enabling })).countMiss r).touch
          r).fetchCtx r (.context r)
    else if arm then s.modRing r (fun g => { g with armed := true })
    else s.badBell f
  | .enabling =>
    if enable || reload then s.badBell f
    else s.holdBell r ⟨index, disable, false, arm⟩
  | .enabled =>
    if enable then s.badBell f
    else if s.lacksCtx r then (s.holdBell r ⟨index, disable, reload, arm⟩).fetchAgain r
    else if disable then (s.touchHit r).bellDisable r index arm
    else
      let s1 := (s.touchHit r).takeIndex r index
      if (s1.ring r).st = .enabled then
        doIf arm (fun t => t.arm r) (doIf reload (fun t => t.fetchCtx r (.reload r (t.ring r).gen)) s1)
      else s1
  | .draining =>
    if enable || disable || reload then s.badBell f
    else if s.lacksCtx r then (s.holdBell r ⟨index, false, false, arm⟩).fetchAgain r
    else doIf arm (fun t => t.arm r) ((s.touchHit r).takeIndex r index)
  | .error =>
    if disable && !enable && !reload then
      if (s.ring r).hasCtx && !s.cached r then (s.holdBell r ⟨index, disable, false, arm⟩).fetchAgain r
      else (s.touchHit r).bellDisable r index arm
    else s.badBell f

/-- A held doorbell acts in the state that the fetch gave (R370). -/
def State.heldBell (s : State) (r : RingId) (h : HeldBell) : State :=
  s.bell (ringOwner r) r h.index false h.disable h.reload h.arm

/-- The doorbells that a fetch held act, in their order, in the state that the fetch gave: a failed one gives ERROR (R370, R371);
a ring that is in ERROR stays there. -/
def State.releaseBells (s : State) (r : RingId) (failed : Bool) : State :=
  forAll (s.ring r).held (fun t h => t.heldBell r h)
    (if failed ∧ (s.ring r).st ≠ .error then s.ringError r else s.modRing r (fun g => { g with held := [] }))

/-- A doorbell by its 64-bit word (R367, R370): one with reserved bits set is discarded. -/
def State.bellWord (s : State) (f : Func) (r : RingId) (w : DWord) : State :=
  if w >>> 36 ≠ 0 then s.badBell f
  else s.bell f r (loWord w) (w.getLsbD 32) (w.getLsbD 33) (w.getLsbD 34) (w.getLsbD 35)

/-- A write over BAR2 (R359, R367): an aligned double word, or an aligned word to the low half, is a doorbell for ring
⌊offset/8⌋; any other is discarded and counted. -/
def State.bar2Write (s : State) (f : Func) (offset : BitVec 19) (size : Nat) (value : DWord) : State :=
  if offset.toNat % 8 = 0 ∧ size = 8 then s.bellWord f (BitVec.ofNat 16 (offset.toNat / 8)) value
  else if offset.toNat % 8 = 0 ∧ size = 4 then
    s.bellWord f (BitVec.ofNat 16 (offset.toNat / 8)) ((loWord value).setWidth 64)
  else s.badBell f

/-- DOORBELL_ENABLE (R371). -/
def execDoorbellEnable (f : Func) (r : RingId) (index : Word) (arm : Bool) (s : State) :
    Host.Outcome State Fault Refusal :=
  .next (doIf (s.barLive f) (fun t => t.bell f r index true false false arm) s)

/-- DOORBELL_DISABLE (R371). -/
def execDoorbellDisable (f : Func) (r : RingId) (index : Word) (arm : Bool) (s : State) :
    Host.Outcome State Fault Refusal :=
  .next (doIf (s.barLive f) (fun t => t.bell f r index false true false arm) s)

/-- DOORBELL_RELOAD (R370). -/
def execDoorbellReload (f : Func) (r : RingId) (index : Word) (arm : Bool) (s : State) :
    Host.Outcome State Fault Refusal :=
  .next (doIf (s.barLive f) (fun t => t.bell f r index false false true arm) s)

/-- DOORBELL_ARM (R379). -/
def execDoorbellArm (f : Func) (r : RingId) (index : Word) (s : State) : Host.Outcome State Fault Refusal :=
  .next (doIf (s.barLive f) (fun t => t.bell f r index false false false true) s)

/-- DOORBELL_INDEX (R371, R372). -/
def execDoorbellIndex (f : Func) (r : RingId) (index : Word) (s : State) : Host.Outcome State Fault Refusal :=
  .next (doIf (s.barLive f) (fun t => t.bell f r index false false false false) s)

/-- BAR2_BAD_WRITE (R359). -/
def execBar2BadWrite (f : Func) (s : State) : Host.Outcome State Fault Refusal :=
  .next (doIf (s.barLive f) (fun t => t.badBell f) s)

/-- The fields that a reload may change: vector, irq_en, mod_count and mod_time, all other bits compared (R370). -/
def reloadSame (old new : List Word) : Bool :=
  (wordAt old 0 &&& 0xF000FFFF) == (wordAt new 0 &&& 0xF000FFFF)
  && (wordAt old 1 &&& 0x0000FFFF) == (wordAt new 1 &&& 0x0000FFFF)
  && (wordAt old 2 &&& 0xFFFF0000) == (wordAt new 2 &&& 0xFFFF0000)
  && (old.drop 3).take 5 == (new.drop 3).take 5

/-- A fetched context names a completion ring whose own context has been evicted: whether it is valid (R362) waits for that. -/
def State.ctxWaits (s : State) (f : Func) (ws : List Word) : Bool :=
  ctxClass ws == 0 && decide (ringOwner ((wordAt ws 1).extractLsb' 0 16) = f) && s.evicted ((wordAt ws 1).extractLsb' 0 16)

/-- The fetch of a ring's context is done (R370, R371, R392): the ring becomes ENABLED or ERROR, then the held doorbells act.
Doorbells that wait for an evicted context which found no room in the cache ask for it again (R363). -/
def State.ctxArrives (s : State) (r : RingId) : State :=
  let g := s.ring r
  match g.st with
  | .enabling =>
    if g.fetchFailed then s.releaseBells r true
    else match g.fetched with
    | none => s
    | some ws =>
      if s.ctxWaits (ringOwner r) ws then s.fetchAgain ((wordAt ws 1).extractLsb' 0 16)
      else if s.ctxValid (ringOwner r) ws then
        let s1 := (s.setRing r { g with
          st := .enabled, ctx := ws.take 8, gen := g.gen + 1, fetched := none, held := [] }).writeBack r
        forAll g.held (fun t h => t.heldBell r h) (s1.takeIndex r g.hostIdx)
      else s.releaseBells r true
  | .enabled =>
    if g.fetchFailed then s.releaseBells r true
    else match g.fetched with
    | none => if g.held.isEmpty then s else s.fetchAgain r
    | some ws =>
      if reloadSame g.ctx ws && decide (ctxVector ws < vectorCount (ringOwner r)) then
        s.setRing r { g with ctx := ws.take 8, fetched := none }
      else s.ringError r
  | .disabled => s
  | .draining => if g.held.isEmpty then s else s.fetchAgain r
  | .error => if g.held.isEmpty then s else s.fetchAgain r

/-- CONTEXT_FETCH_DONE (R371). -/
def execContextFetchDone (r : RingId) (s : State) : Host.Outcome State Fault Refusal :=
  .next (doIf s.fabricReady (fun t => t.ctxArrives r) s)

/-- The least units that a record of a class takes (R364). -/
def leastUnits (cls : Nat) : Nat := if cls = 2 then 33 else if cls = 5 then 2 else 1

/-- An output ring has room for a record (R364, R374). -/
def State.hasRoom (s : State) (r : RingId) : Bool := decide (leastUnits (ctxClass (s.ring r).ctx) ≤ s.freeUnits r)

/-- The ring's next record waits for RING_LOSS (R374). DEDUCED (log 41): a DRAINING ring owes it too; one that is its function's
event ring takes no new record (R371), so none waits for its own. -/
def State.owesLoss (s : State) (r : RingId) : Bool :=
  (s.ring r).lossPending && (decide ((s.ring r).st = .enabled)
    || (decide ((s.ring r).st = .draining) && decide (s.evtRing (ringOwner r) ≠ r)))

/-- A draining ring has nothing left (R371, R374): an output ring no record that it had accepted, no completion and no RING_LOSS
that can be written, a CMD ring no command that has not completed. DEDUCED (log 77): a command whose completion record waits has
not. -/
def State.drained (s : State) (r : RingId) : Bool :=
  !(s.owesLoss r && s.hasRoom r && (s.fn (ringOwner r)).bme)
  && !s.host.allRecs.any (fun c => decide (c.ring = r) && c.kept)
  && !s.host.cpls.any (fun c => decide (c.cplRing = r))
  && !(ctxClass (s.ring r).ctx == 0
    && (s.host.cmds.any (fun c => decide (c.ref.ring = r)) || s.host.cpls.any (fun c => decide (c.cmd.ring = r))))

/-- RING_DRAIN_DONE (R371). -/
def execRingDrainDone (r : RingId) (s : State) : Host.Outcome State Fault Refusal :=
  .next (doIf (s.fabricReady && decide ((s.ring r).st = .draining) && s.drained r) (fun t =>
    if t.lacksCtx r then t.fetchAgain r else (t.touchHit r).ringDisabled r) s)

/-! ## Writing records (R373, R374, R377) -/

/-- Write units of a record from the device's index up, each at its place in the ring (R364, R365). -/
def State.writeUnits (s : State) (r : RingId) (ws : List Word) : State :=
  let g := s.ring r
  let ub := unitBytes (ctxClass g.ctx)
  forAll (List.range (unitsOf (ctxClass g.ctx) ws)) (fun t i =>
    t.writeHost (ctxBase g.ctx + ub * ((g.devIdx.toNat + i) % ctxSize g.ctx))
      (wordsBytes (padWords (ub / 4) (ws.drop (ub / 4 * i))))) s

/-- A record stands in its ring: its units, the producer index, its sequence number; the record waits for its write-back
and counts towards the ring's interrupt (R366, R373, R376, R378). -/
def State.ringPut (s : State) (r : RingId) (ws : List Word) : State :=
  (s.writeUnits r ws).modRing r (fun g => { g with
    devIdx := g.devIdx + BitVec.ofNat 32 (unitsOf (ctxClass g.ctx) ws)
    seq := g.seq + 1
    wbDue := true
    wbBytes := g.wbBytes + unitBytes (ctxClass g.ctx) * unitsOf (ctxClass g.ctx) ws
    irqSince := if g.irqCount = 0 then s.clk.ftick else g.irqSince
    irqCount := g.irqCount + 1 })

/-- Write one record into its ring; where the records since the last write-back fill the payload limit of a write request,
the write-back block follows (R353, R376). -/
def State.ringWrite (s : State) (r : RingId) (ws : List Word) : State :=
  doIf (decide ((s.fn (ringOwner r)).maxPayload ≤ ((s.ringPut r ws).ring r).wbBytes)) (fun t => t.writeBack r) (s.ringPut r ws)

/-- Discard a record for which its ring has no room: drops counts it, and RING_LOSS will follow (R373, R374). An event
counts in evt_drop too (R407). -/
def State.ringDiscard (s : State) (f : Func) (r : RingId) : State :=
  doIf (ctxClass (s.ring r).ctx == 3) (fun t => t.bump (HIF_FN_ERR_evt_drop (fnIdx f)) 1)
    (s.modRing r (fun g => { g with
      drops := g.drops + 1, sinceLoss := g.sinceLoss + 1, lossPending := true, wbDue := true }))

/-- Count a misrouted record (R373); an event counts in evt_drop too (R407). -/
def State.misroute (s : State) (c : Rec) : State :=
  doIf (c.cls == 3) (fun t => t.bump (HIF_FN_ERR_evt_drop (fnIdx c.func)) 1)
    ((s.bump RNG_MISROUTE_ct 1).put RNG_MISROUTE_last_ring c.ring.toNat)

/-- A record may go to its ring: the ring is the named function's, of the class that the record needs, and ENABLED, or
DRAINING and the record was accepted before (R371, R373). -/
def State.routed (s : State) (c : Rec) : Bool :=
  decide (ringOwner c.ring = c.func) && ctxClass (s.ring c.ring).ctx == c.cls
  && (decide ((s.ring c.ring).st = .enabled) || (decide ((s.ring c.ring).st = .draining) && c.kept))

/-- A record written for a command tells the command, or its completion that waits, its sequence number (R390). -/
def State.noteSeq (s : State) (c : Rec) (seq : Word) : State :=
  match c.forCmd with
  | none => s
  | some ref => s.modHost (fun h => { h with
      cmds := h.cmds.map (fun d => if d.ref = ref then { d with seqs := d.seqs.note c.entry seq } else d)
      cpls := h.cpls.map (fun d => if d.cmd = ref then { d with seqs := d.seqs.note c.entry seq } else d) })

/-- The record FIFO without its head; a record that waits for space takes its place (R590). -/
def State.popRec (s : State) : State :=
  s.modHost (fun h => { h with recs := h.recs.tail ++ h.recWait.take 1, recWait := h.recWait.tail })

/-- A ring of function f that takes records has lost its context to the cache: whether a record may go there, its class and its
room, waits for the fetch (R363); a function that may make no request fetches none (R393). -/
def State.recWaits (s : State) (f : Func) (r : RingId) (kept : Bool) : Bool :=
  decide (ringOwner r = f) && (s.fn f).bme && (if kept then s.lacksCtx r else s.evicted r)

/-- The ring engine takes the head of the record FIFO (R363, R373, R374, R393): a record of a ring whose context is not cached
waits for its fetch, one of a ring that owes RING_LOSS and has room for that; while the link is down an ENABLED ring's record
waits. -/
def State.recordWrite (s : State) : State :=
  match s.host.recs with
  | [] => s
  | c :: _ =>
    if s.recWaits c.func c.ring c.kept then doIf (s.flag HIF_LINK_up) (fun t => t.fetchAgain c.ring) s
    else if !s.routed c then s.popRec.misroute c
    else if !(s.fn c.func).bme then s.popRec.ringDiscard c.func c.ring
    else if !s.flag HIF_LINK_up then s
    else if s.freeUnits c.ring < unitsOf c.cls c.words then (s.popRec.touch c.ring).ringDiscard c.func c.ring
    else if s.owesLoss c.ring then s
    else ((s.popRec.touch c.ring).ringWrite c.ring c.words).noteSeq c (s.ring c.ring).seq

/-- RECORD_WRITE (R373). -/
def execRecordWrite (s : State) : Host.Outcome State Fault Refusal :=
  .next (doIf s.fabricReady (fun t => t.recordWrite) s)

/-- A record for a ring that is ENABLED and of another function or class is counted as a misroute (R373). A RING_LOSS is an event:
one for an event ring that is not ENABLED counts in evt_drop alone (R404). -/
def State.lossNowhere (s : State) (f : Func) (e : RingId) (ws : List Word) : State :=
  if (s.ring e).st = .enabled then s.misroute ⟨f, e, 3, ws, none, 0, false⟩
  else s.bump (HIF_FN_ERR_evt_drop (fnIdx f)) 1

/-- RING_LOSS (R374, R377): once the ring again has room for a record, the event goes straight into the owner's event ring, so
that the ring's next record comes after it; an event ring with room that owes a RING_LOSS of its own takes that one first, one
without room discards and counts the event as any other record, and a DRAINING one takes none (R371, R373). A ring whose context
has been evicted has it fetched first (R363). -/
def execRingLoss (r : RingId) (s : State) : Host.Outcome State Fault Refusal :=
  let g := s.ring r
  let f := ringOwner r
  let e := s.evtRing f
  .next (doIf (s.fabricReady && s.master f && (decide (g.st = .enabled) || decide (g.st = .draining)) && g.lossPending
      && s.hasRoom r)
    (fun t => if t.lacksCtx r then t.fetchAgain r
      else if t.recWaits f e false then t.fetchAgain e
      else if decide (e ≠ r) && t.isEvtRing f e && t.owesLoss e && t.hasRoom e then t
      else
      let ws := t.eventWords 0x50 6 (fnIdx f) [w32 r.toNat, w32 g.sinceLoss, if e = r then g.seq + 1 else g.seq]
      let t1 := (((t.touchHit r).touchHit e).modRing r (fun h =>
        { h with lossPending := false, sinceLoss := 0, wbDue := true })).queueEvent ws
      if t1.isEvtRing f e then
        if 1 ≤ t1.freeUnits e then t1.ringWrite e ws else t1.ringDiscard f e
      else t1.lossNowhere f e ws) s)

/-- WRITE_BACK (R375, R376). -/
def execWriteBack (r : RingId) (s : State) : Host.Outcome State Fault Refusal :=
  .next (doIf (s.fabricReady && (s.ring r).wbDue && s.master (ringOwner r)
      && decide ((s.ring r).st ≠ .enabling)) (fun t => if t.lacksCtx r then t.fetchAgain r else (t.touchHit r).writeBack r) s)

/-- INTERRUPT_SEND (R378). -/
def execInterruptSend (r : RingId) (s : State) : Host.Outcome State Fault Refusal :=
  .next (doIf s.fabricReady (fun t => t.sendIrq r) s)

/-- MSIX_TABLE_WRITE (R379). -/
def execMsixTableWrite (f : Func) (v : BitVec 11) (entry : MsixEntry) (s : State) : Host.Outcome State Fault Refusal :=
  .next (doIf (s.barLive f && decide (v.toNat < vectorCount f))
    (fun t => (t.setFn f { t.fn f with
      msix := sparseSet (fun _ => MsixEntry.reset) (t.fn f).msix v.toNat entry }).sendPending f) s)

/-! ## Link and configuration space (R352 to R355, R393) -/

/-- HIF_FN_STAT follows configuration space (R355, R406). -/
def State.showFn (s : State) (f : Func) : State :=
  ((s.putB (HIF_FN_STAT_bme (fnIdx f)) (s.fn f).bme).putB (HIF_FN_STAT_msix_en (fnIdx f)) (s.fn f).msixEn).putB
    (HIF_FN_STAT_ready (fnIdx f)) (s.flag HIF_LINK_up && s.fabricReady && (s.fn f).mse && (s.fn f).bme)

/-- HOST_LINK_UP (R352, R355, R408). -/
def execHostLinkUp (width speed : BitVec 4) (s : State) : Host.Outcome State Fault Refusal :=
  .next (doIf (s.running && !s.clk.xtalLost && !s.flag HIF_LINK_up)
    (fun t =>
      let t1 := ((t.putB HIF_LINK_up true).put HIF_LINK_width width.toNat).put HIF_LINK_speed speed.toNat
      ((doIf t1.fabricReady (fun u => u.setReady GLB_READY_link true) t1 |>.showFn .pf0).showFn .pf1).issueReads) s)

/-- LINK_DOWN (R551): the ready bit is cleared; no configuration space answers until the link trains again. -/
def execLinkDown (s : State) : Host.Outcome State Fault Refusal :=
  .next (doIf (s.flag HIF_LINK_up && !s.clk.xtalLost)
    (fun t => ((((t.putB HIF_LINK_up false).put HIF_LINK_width 0).put HIF_LINK_speed 0).setReady GLB_READY_link false
      |>.showFn .pf0).showFn .pf1) s)

/-- What a 64-bit non-prefetchable BAR of 2^n bytes holds after a write: the bits within its size read as 0, and its type
(R356). -/
def barValue (n : Nat) (v : DWord) : DWord := (v >>> n <<< n) ||| 4

/-- Device ID of a function (R354). -/
def deviceId : Func → Nat
  | .pf0 => 0x5120
  | .pf1 => 0x5121

/-- Class code of both functions (R354). -/
def classCode : Nat := 0x118000

/-- The identity that configuration space gives for a function (R354, R612): Device ID, class code, Revision ID, Subsystem
Vendor ID and Subsystem ID. -/
structure Identity where
  deviceId : Nat
  classCode : Nat
  revisionId : Nat
  subsystem : Word
  deriving DecidableEq, Repr

/-- See `Identity`. -/
def State.identity (s : State) (f : Func) : Identity := ⟨deviceId f, classCode, s.rd ⟨GLB_ID, 0, 8⟩, Config.subsystem⟩

/-- A 32-bit word of BAR4 (R356): the MSI-X table, four words per vector, with the pending bit array at 0x8000. -/
def State.bar4Word (s : State) (f : Func) (o : Nat) : Word :=
  let e := sparseGet (fun _ => MsixEntry.reset) (s.fn f).msix (o / 16)
  if o < 0x8000 then
    if o / 16 < vectorCount f then
      (match o / 4 % 4 with
      | 0 => loWord e.addr
      | 1 => hiWord e.addr
      | 2 => e.data
      | _ => w32 e.masked.toNat)
    else 0
  else BitVec.ofNat 32 (((s.fn f).pba.filter (fun v => decide (v / 32 = (o - 0x8000) / 4))).foldl (fun n v => n + 2 ^ (v % 32)) 0)

/-- A read of BAR2 (R359). -/
def bar2Word (_offset : Nat) : Word := 0

/-- CONFIG_SPACE_WRITE (R352, R353, R355, R356, R379, R393). -/
def execConfigSpaceWrite (f : Func) (cfg : CfgSpace) (s : State) : Host.Outcome State Fault Refusal :=
  .next (doIf (s.fabricReady && s.flag HIF_LINK_up)
    (fun t => ((t.setFn f { t.fn f with
      bme := cfg.bme, mse := cfg.mse, msixEn := cfg.msixEn, cplTmoMs := cfg.cplTmoMs, maxPayload := min cfg.maxPayload 512
      maxRead := min cfg.maxRead 4096, msixMask := cfg.msixMask, bar0 := barValue 20 cfg.bar0, bar2 := barValue 19 cfg.bar2
      bar4 := barValue 16 cfg.bar4, aer := (t.fn f).aer.write cfg.aer }).showFn f).sendPending f |>.issueReads) s)

end Sys2Proof.Machine
end

