-- ==== Sys2Proof/Machine/Clocks.lean ====
section
/-! DEFINITION. Clocks, resets, supplies and crate power (spec/14_clocks_resets_power.md R585 to R603, R645, R647;
spec/03 R79 to R83; spec/13 R551 to R554, R564, R570). -/

namespace Sys2Proof.Machine

/-! ## Supplies and RESET_N (R570, R596 to R601) -/

/-- What stays in retention SRAM (R570, R598, R599). -/
def State.retained (s : State) : Sparse Word :=
  s.regs.filter (fun p => p.1 == CLK_RST_CAUSE || p.1 == FLT_LOG_STAT || p.1 == FLT_LOG_TOTAL)

/-- Every domain in reset: what stays is the retention SRAM, one-time-programmable memory, the test access port, and what
is not the device's (R596 to R598). -/
def State.deviceReset (s : State) : State :=
  { State.reset with
    regs := s.retained
    clk := { Clk.reset with phase := .inReset }
    flt := { Flt.reset with log := s.flt.log, logIntact := s.flt.logIntact }
    otp := s.otp, tap := s.tap, hostMem := s.hostMem, free := s.free, pending := s.pending }

/-- The retention SRAM has lost its content (R570, R622). -/
def State.loseRetention (s : State) : State :=
  (s.dropRegs (fun a => a == CLK_RST_CAUSE || a == FLT_LOG_STAT || a == FLT_LOG_TOTAL)).modFlt (fun x =>
    { x with log := [], logIntact := false })

/-- POWER_ON (R598, R600): the device holds itself in reset. The fault log is as a SUPPLY_FALL left it: lost where that took
VDD_CORE or VDDIO18 below its retention limit, kept otherwise, whatever the other rails did (R570, R633). CLK_RST_CAUSE.por is
set and its other fields are cleared (R622). -/
def execPowerOn (s : State) : Host.Outcome State Fault Refusal :=
  .next ((s.deviceReset.setReg CLK_RST_CAUSE 1).modTap (fun _ => Tap.reset))

/-- A low on RESET_N resets the device (R596): from 10 µs on; from 1 µs on it may or may not. -/
def execResetNAssert (lowNs : Nat) (s : State) : Host.Outcome State Fault Refusal :=
  .next (
    if s.clk.phase ≠ .running ∨ lowNs < 1000 then s
    else if 10000 ≤ lowNs then (s.putB CLK_RST_CAUSE_reset_n true).deviceReset
    else
      let s1 := s.skipFree 1
      doIf (Config.shortResetTaken s.free) (fun t => (t.putB CLK_RST_CAUSE_reset_n true).deviceReset) s1)

/-- FAULT_LOG_CHECK (R570). -/
def State.checkLog (s : State) : State :=
  if s.flt.logIntact then s.wrapInc FLT_LOG_STAT_boot
  else ((s.setReg FLT_LOG_STAT 0x800000).setReg FLT_LOG_TOTAL 0).modFlt (fun x => { x with log := [], logIntact := true })

/-- SAF_CTL.otp_state shows whether a set is burned (R530). -/
def State.showOtp (s : State) : State := s.put SAF_CTL_otp_state (if s.otp.saf.isSome then 1 else 0)

/-- RESET_N_RELEASE (R195, R570, R598). -/
def execResetNRelease (s : State) : Host.Outcome State Fault Refusal :=
  .next (doIf (decide (s.clk.phase = .inReset)) (fun t =>
    (((t.modClk (fun x => { x with phase := .running })).checkLog).loadEye).showOtp) s)

/-- SUPPLY_FALL (R518, R570, R599, R601): the safety supply monitor forces the outputs off; below a retention limit the
retention SRAM is lost with everything else. -/
def execSupplyFall (dip : SupplyDip) (s : State) : Host.Outcome State Fault Refusal :=
  let s1 := doIf (dip.belowSafety && s.running) (fun t => t.diagnosticFails .supply) s
  .next (doIf dip.belowRetention (fun t =>
    let u := t.loseRetention.deviceReset
    (u.modClk (fun x => { x with phase := .unpowered })).modTap (fun _ => Tap.reset)) s1)

/-! ## Fabric domain (R551, R586) -/

/-- Log entries of what was found before the fabric domain ran (R195, R518, R523, R571): an internal fault of the safety
block, a burned safety set and a burned eye-safety set whose CRC fails. -/
def State.owedLogs (s : State) : State :=
  doIf (s.rd EYE_LOCK_state == 2) (fun t => t.log 0x52 5 0 0 0 0 0)
    (doIf (s.rd SAF_CTL_otp_state == 2) (fun t => t.log 0x51 5 7 0 0 0 0)
      (doIf (s.rd SAF_STAT_ifault != 0) (fun t => t.log 0x50 5 7 0 0 0 (t.rd SAF_STAT_ifault)) s))

/-- FABRIC_PLL_LOCK (R586): the crystal runs and the PLL has locked; what waited in the safety FIFO leaves (R524, R525, R590). -/
def execFabricPllLock (s : State) : Host.Outcome State Fault Refusal :=
  .next (doIf (s.running && !s.clk.xtalLost) (fun t =>
    (doIf (!t.flag CLK_STAT_fpll) (fun u => u.owedLogs) ((t.putB CLK_STAT_fpll true).putB CLK_STAT_xtal true)).flushItems) s)

/-- A link that has trained is ready once the register fabric is (R355). -/
def State.linkReady (s : State) : State :=
  doIf (s.flag HIF_LINK_up) (fun t => ((t.setReady GLB_READY_link true).showFn .pf0).showFn .pf1) s

/-- REGISTER_FABRIC_READY (R355, R551). -/
def execRegisterFabricReady (s : State) : Host.Outcome State Fault Refusal :=
  .next (doIf s.fabricLive (fun t => (t.setReady GLB_READY_fabric true).linkReady) s)

/-- CHURN_READY (R551): all banks are cleared. -/
def execChurnReady (s : State) : Host.Outcome State Fault Refusal :=
  .next (doIf (s.fabricReady && !s.flag GLB_READY_churn)
    (fun t => t.clearBanks.setReady GLB_READY_churn true) s)

/-! ## The timing domain goes into reset (R82, R588, R598, R647) -/

/-- The windows of a crate end before their closes. One with its start counts as one that closes (R325); one without, and a
committed one that has not opened, count among the windows without start (R85, R287). -/
def State.endWindows (s : State) (c : Nat) : State :=
  let s1 := match (s.crate c).win with
    | none => s
    | some w => s.countWindow c w w.start.isNone
  s1.modCrate c (fun g => { g.modLast (fun d => { d with noStart := d.noStart + g.armNext.isSome.toNat }) with
    win := none, armNext := none })

/-- The windows of a crate end without a clock: no window runs, no event is on its way; what its FIFO has dropped stays marked
(R103). -/
def State.abortWindows (s : State) (c : Nat) : State :=
  forAll chanNos (fun t k => t.modChan c k (fun h => { h with
    st := match h.st with
      | .off => .off
      | .settling => .settling
      | .idle => .idle
      | .pre => .idle
      | .blank => .idle
      | .main => .idle
      | .drain => .idle
    pend := [], hold := none, resetting := false, converterOn := false, preStops := [], winCross := 0 }))
    ((s.endWindows c).modCrate c (fun g => { g.keepLost with closing := [] }))

/-- The charge controllers go to OFF with their switches off (R598); FAILED stays (R179). -/
def State.chargersOff (s : State) : State :=
  forAll emitterNos (fun t e => doIf (t.chgState e != 5)
    (fun u => (u.setChgState e 0).modChg e (fun g => { g.off u.clk.tick with cmpValid := false })) t) s

/-- A crate in STARTING or STOPPING goes to OFF; windows end (R647). -/
def State.crateLosesClock (s : State) (c : Nat) : State :=
  doIf (t1 s) (fun t => t.crateTurnsOff c) (s.abortWindows c)
where
  /-- The crate is in STARTING or STOPPING. -/
  t1 (s : State) : Bool := s.rd (cratePwrField c) == 1 || s.rd (cratePwrField c) == 3

/-- The ready bits of the timing PLL, the crates and the motor interface are cleared (R551). -/
def State.clearTimingReady (s : State) : State :=
  s.changeReady (fun t => ((t.putB GLB_READY_tpll false).setReg GLB_READY_CRT 0).putB GLB_READY_motor false)

/-- The pulses of the triggers and of the sync output end with the logic that forms them (R147, R149, R598). -/
def State.endPulses (s : State) : State :=
  (forAll emitterNos (fun t e => t.modEmit e (fun m => { m with pulse := none })) s).modShot (fun h => { h with syncPulse := none })

/-- The timing PLL is held in reset (R82, R588, R598). -/
def State.timingReset (s : State) : State :=
  ((forAll crateNos (fun t c => t.crateLosesClock c)
    ((s.putB CLK_STAT_tpll false).clearTimingReady.chargersOff.endPulses)).resetMotor).modClk (fun k => { k with
      lastLeft := none, motorWas := if s.flag GLB_READY_tpll then s.flag GLB_READY_motor else k.motorWas })

/-- REFCLK is declared lost (R82, R594): no further shot, permit withdrawn, timing PLL in reset, device time held over. -/
def State.refclkLoss (s : State) : State :=
  let s1 := (((s.putB CLK_STAT_refclk false).bump CLK_STAT_ref_loss 1).modClk (fun k => { k with
    goodRun := 0, badRun := 0, earlyClose := true })).abortEngine stREFCLK_LOST
  let s2 := (s1.putB CLK_STAT_holdover true).timingReset.showPermit
  (s2.post 0x12 0 0 []).log 0x60 6 0 0 0 0 0

/-- REFCLK_LOST (R80): 80 RC clocks without a toggle; while REFCLK is not present the gap restarts the recovery (R81). -/
def execRefclkLost (s : State) : Host.Outcome State Fault Refusal :=
  .next (doIf s.running (fun t =>
    if t.flag CLK_STAT_refclk then t.refclkLoss else t.modClk (fun k => { k with goodRun := 0 })) s)

/-- REFCLK is declared present (R81): the first time after RESET_N in silence, later as a recovery. -/
def State.refclkFound (s : State) : State :=
  let s1 := (s.putB CLK_STAT_refclk true).modClk (fun k => { k with goodRun := 0, badRun := 0, everPresent := true })
  doIf s.clk.everPresent (fun t => (t.post 0x13 0 0 []).log 0x61 6 0 0 0 0 0) s1

/-- REFCLK_GATE_END (R81): 245 to 255 edges are good; two bad gates lose REFCLK, 25 good ones find it. -/
def execRefclkGateEnd (edges : Nat) (s : State) : Host.Outcome State Fault Refusal :=
  let good := decide (245 ≤ edges) && decide (edges ≤ 255)
  .next (doIf s.fabricLive (fun t =>
    if t.flag CLK_STAT_refclk then
      if good then t.modClk (fun k => { k with badRun := 0 })
      else if 1 ≤ t.clk.badRun then t.refclkLoss
      else t.modClk (fun k => { k with badRun := 1 })
    else if !good then t.modClk (fun k => { k with goodRun := 0 })
    else if 24 ≤ t.clk.goodRun then t.refclkFound
    else t.modClk (fun k => { k with goodRun := k.goodRun + 1 })) s)

/-- EARLY_DWELL_CLOSE (R82): behind the events that are in the FIFOs every open dwell closes with PARTIAL. -/
def execEarlyDwellClose (s : State) : Host.Outcome State Fault Refusal :=
  .next (doIf (s.fabricLive && s.clk.earlyClose)
    (fun t => (forAll crateNos (fun u c => u.closeAllEarly c .refclk) t).modClk (fun k => { k with earlyClose := false })) s)

/-- XTAL_LOST (R588): the timing domain goes into reset as on a REFCLK loss; the fabric domain stops, so nothing is posted,
logged or completed. -/
def State.xtalLoss (s : State) : State :=
  let s1 := (((s.modClk (fun k => { k with xtalLost := true })).putB CLK_STAT_xtal false).putB CLK_RST_CAUSE_xtal_lost true)
  let s2 := forAll emitterNos (fun t e => t.modEmit e (fun m => { m with committed := false })) s1
  ((s2.modShot (fun h => { h with run := none, delayDue := false })).setEngine 0).timingReset.showPermit

/-- XTAL_LOST (R588). -/
def execXtalLost (s : State) : Host.Outcome State Fault Refusal :=
  .next (doIf (s.running && !s.clk.xtalLost) (fun t => t.xtalLoss) s)

/-! ## Crate power (R564, R602, R603, R645) -/

/-- The state of crate c: 0 OFF, 1 STARTING, 2 ON, 3 STOPPING (R625). -/
def State.cratePwr (s : State) (c : Nat) : Nat := s.rd (cratePwrField c)

/-- The abandonment of a retest is logged for each of its elements (R564, R571). -/
def State.logAbandoned (s : State) (c : Nat) (chans : BitVec 16) (spare : Bool) : State :=
  doIf spare (fun t => t.logService 0x25 1 c 16 1) (forAll (chanNos.filter (fun k => chans.getLsbD k)) (fun t k =>
    doIf (t.chan c k).remEcc (fun u => u.logService 0x25 2 (16 * c + k) 0 1)
      (doIf (t.sliceWasOut c k) (fun u => u.logService 0x25 1 c k 1) t)) s)

/-- What of a retest still waits or runs: the requests that follow it, and the retest itself before its end (R564, R566). -/
def Retest.left (r : Retest) : BitVec 16 × Bool :=
  if r.finished then (r.nextChans, r.nextSpare) else (r.chans ||| r.nextChans, r.spare || r.nextSpare)

/-- Retests that wait or run are abandoned and logged (R564); the outcome of one that has ended stays due. -/
def State.dropRetest (s : State) (c : Nat) : State :=
  match (s.crate c).retest with
  | none => s
  | some r =>
    let s1 := s.logAbandoned c r.left.1 r.left.2
    if r.finished then s1.modCrate c (fun g => { g with retest := some { r with nextChans := 0, nextSpare := false } })
    else (s1.modCrate c (fun g => { g with retest := none })).putB (CRT_SVC_retest c) false

/-- The channels of a crate that is powered down are disabled (R60, R564); conversions that run are finished, and the events
that wait are written (R46, R603). -/
def State.chansOff (s : State) (c : Nat) : State :=
  forAll chanNos (fun t k => (doIf (decide ((t.chan c k).st ≠ .off)) (fun u => u.stopChan c k) t).release c k) s

/-- An ON crate is powered down (R564, R603): not ready, its windows ended, its channels disabled, its dumps and captures ended
with CRATE_OFF, its retest abandoned. Its open dwell closes as soon as its open conversions are done. -/
def State.crateStop (s : State) (c : Nat) : State :=
  let s1 := ((s.put (cratePwrField c) 3).setCratesReady [c] false).endWindows c |>.modCrate c (fun g =>
    { g with stopDue := g.dwell.isSome })
  (((s1.dropRetest c).endCaptures c stCRATE_OFF).chansOff c).stopDwell c

/-- The power requests act on a crate (R603). -/
def State.powerStep (s : State) (c : Nat) : State :=
  if s.flag (crateReqField c) then s
  else if s.cratePwr c = 1 then s.crateTurnsOff c
  else if s.cratePwr c = 2 then s.crateStop c
  else s

/-- The power requests act on every crate while the timing domain has its clock (R603). -/
def State.powerAll (s : State) : State := doIf s.timingLive (fun t => forAll crateNos (fun u c => u.powerStep c) t) s

/-- CRATE_POWER_REQUEST (R602): a direct write by any requester in any state. -/
def State.cratePowerWrite (s : State) (value : Word) : State :=
  (s.changeReady (fun t => t.setReg CLK_CRT_PWR value)).powerAll

/-- CRATE_POWER_REQUEST (R602). -/
def execCratePowerRequest (q : Src) (value : Word) (s : State) : Host.Outcome State Fault Refusal :=
  .next (doIf (s.serves q) (fun t => t.cratePowerWrite value) s)

/-- The condition to leave OFF holds (R551, R603). -/
def State.mayLeave (s : State) (c : Nat) : Bool :=
  s.cratePwr c == 0 && s.flag (crateReqField c) && s.timingLive && s.flag GLB_READY_churn

/-- A channel of a crate that powers up: OFF, both buffers FREE; what removed it, and its converter's fault with what the Skimmer
holds for it, stay (R563, R598, R603). -/
def Chan.powerUp (h : Chan) : Chan :=
  { Chan.reset with
    ambFailed := h.ambFailed, remNoSpare := h.remNoSpare, remTie := h.remTie, remEcc := h.remEcc, remTone := h.remTone
    toneOk := h.toneOk, pubThr := if h.ambFailed then h.pubThr else 0, pubBias := if h.ambFailed then h.pubBias else 0
    pubSun := h.ambFailed && h.pubSun }

/-- No other crate has left OFF within the last 10,000 ticks (R645). -/
def State.leaveSpaced (s : State) (c : Nat) : Bool :=
  s.clk.lastLeft.all (fun p => p.1 == c || decide (p.2 + 10000 ≤ s.clk.tick))

/-- A crate shows what came about while the timing domain had no clock or the crate was OFF (R437, R611): an abandoned calibration has ended, mismatching dwells
are counted, and its quiescence. -/
def State.showHeld (s : State) (c : Nat) : State :=
  (((s.dropCal c).bump (CRT_SPR_STAT_mm_ct c) (s.crate c).mmOwed).modCrate c (fun g => { g with mmOwed := 0 })).showQuiet c

/-- CRATE_POWER_UP_START (R603, R645): the lowest-numbered crate that may leave OFF does, 0.1 ms after the one before, its channels at
range 3 (R39). DEDUCED (log 120): what its status held while it was OFF is shown anew, and settling has ended (R32, R611). -/
def execCratePowerUpStart (c : CrateId) (s : State) : Host.Outcome State Fault Refusal :=
  .next (doIf (s.mayLeave c && (List.range c).all (fun d => !s.mayLeave d) && s.leaveSpaced c) (fun t =>
    ((forAll chanNos (fun u k => (u.resetRange c k).modChan c k Chan.powerUp)
      (((t.put (cratePwrField c) 1).putB (CRT_FE_STAT_settling c) false).clearBank c 0 65536)).showHeld c).modClk (fun k =>
        { k with lastLeft := some ((c : Nat), t.clk.tick) })) s)

/-- A slice passes its self-test (R554). -/
def selfTestPasses (m : SelfTest) : Bool :=
  m.tableOk && m.cals.length == 16 && m.cals.all (fun x => x.any calAccepted) && m.charge.any chargeAccepted

/-- One slice of a crate's self-test (R92, R104, R554): the factory table is loaded; an accepted charge calibration gives the
coefficients; a slice that fails is retired at once. DEDUCED (log 107): accepted calibrations end a run of rejected ones (R90). -/
def State.testSlice (s : State) (c i : Nat) (m : SelfTest) : State :=
  let s1 := (((s.modSlice c i (fun v => { v with
    width := (List.range 160).map (fun n => (Config.factoryTap c i n).toNat), newWidth := none, hits := [], batchStops := 0
    firstCal := false, newQ := none, start := none })).put (TDC_CAL_p_est c i) (Config.factoryP c i).toNat).put
      (TDC_CAL_ins_est c i) (Config.factoryIns c i).toNat)
  let s2 := match m.charge.filter chargeAccepted with
    | some q => (s1.put (TDC_QCAL_q_gain c i) (chargeGain q)).putInt (TDC_QCAL_q_off c i) q.z
    | none => s1
  if selfTestPasses m then s2.put (TDC_CAL_STAT_bad_run c i) 0 else s2.retire c i 1

/-- The first crate becomes ready: the dither register takes the device's seed, or SHT_DITHER_SEED where that is not 0
(R139). -/
def State.seedAtReady (s : State) : State :=
  doIf (!s.flag GLB_READY_crate_any) (fun t => t.modShot (fun h => { h with lfsr := t.ditherSeed })) s

/-- CRATE_STARTING_DONE (R554, R603): self-test, ready bit, enabled channels to SETTLING; no channel counts as the last one
shadowed, no visit is due (R104, R139, R643). DESIGN CHOICE (log 119): ccal_next and a due visit of the spare stay as the power-down
found them. -/
def execCrateStartingDone (c : CrateId) (tests : List SelfTest) (s : State) : Host.Outcome State Fault Refusal :=
  .next (doIf (s.timingLive && s.cratePwr c == 1) (fun t =>
    let t1 := forAll sliceNos (fun u i => u.testSlice c i (tests.getD i ⟨false, [], none⟩)) t
    ((((t1.put (cratePwrField c) 2).modCrate c (fun g => { g with
      commitNo := 0, lastShadow := none, visitDue := false })).seedAtReady).setCratesReady [(c : Nat)] true).applyCrate c) s)

/-- Nothing of crate c is left: its conversions are done and its dwell closed, its markers are read and its extraction has
ended (R603). DEDUCED (log 120): a RAW_CAPTURE has drained too, which it does before it completes with CRATE_OFF (R295). -/
def State.churnDone (s : State) (c : Nat) : Bool :=
  chanNos.all (fun k => (s.chan c k).pend.isEmpty) && (s.crate c).dwell.isNone
  && (s.crate c).fifo.isEmpty && (s.crate c).cur.isNone && (s.crate c).descQ.isEmpty && (s.crate c).xq.isEmpty
  && (s.crate c).raw.isNone

/-- CRATE_STOPPING_DONE (R603). -/
def execCrateStoppingDone (c : CrateId) (s : State) : Host.Outcome State Fault Refusal :=
  .next (doIf (s.timingLive && s.cratePwr c == 3 && s.churnDone c) (fun t => t.crateTurnsOff c) s)

/-! ## The timing PLL locks; device time (R79, R83, R592 to R594) -/

/-- The first accepted calibration of each slice after a relock replaces the estimates (R83). -/
def State.relockSlices (s : State) : State :=
  forAll crateNos (fun t c => doIf (t.cratePwr c == 2) (fun u => forAll sliceNos (fun v i => v.modSlice c i (fun x => { x with
    firstCal := true })) u) t) s

/-- TIMING_PLL_LOCK (R79, R83, R551, R592, R594): the ready bit; crates that stayed ON are ready again; device time starts
at 0 or goes on from the fabric copy; the charge controllers wait for their comparators again; writes of CRT_FE that waited for
the domain's clock reach it (R20, R32). DESIGN CHOICE (log 119): the ready bit that comes back to a crate that stayed ON is no crate
ready in the sense of R104 and R643, so the channel shadowed last stays. -/
def State.timingLock (s : State) : State :=
  let on := crateNos.filter (fun c => s.cratePwr c == 2 && s.flag (crateReqField c))
  let s1 := (s.putB CLK_STAT_tpll true).changeReady (fun t =>
    forAll on (fun u c => u.putB (crateReadyField c) true) (t.putB GLB_READY_tpll true))
  let s2 := (doIf s.clk.everLocked (fun t => (t.modClk (fun k => { k with devTime := k.devCopy })).relockSlices) s1)
  let s3 := (s2.putB CLK_STAT_holdover false).modClk (fun k => { k with everLocked := true, copyHold := none })
  let s4 := forAll crateNos (fun t c => doIf (t.cratePowered c) (fun u => u.showHeld c) (t.carryMode c)) (forAll emitterNos (fun t e => t.applyChg e) s3.powerAll)
  s4.showShot

/-- TIMING_PLL_LOCK (R79): the register fabric is its prerequisite (R551). -/
def execTimingPllLock (s : State) : Host.Outcome State Fault Refusal :=
  .next (doIf (s.fabricReady && s.flag CLK_STAT_refclk && !s.flag GLB_READY_tpll) (fun t => t.timingLock) s)

/-- DEVICE_TIME_SYNC (R593): the copy is set forward to the latched time; a time below the copy is waited for. -/
def execDeviceTimeSync (s : State) : Host.Outcome State Fault Refusal :=
  .next (doIf (s.fabricLive && s.timingLive) (fun t => t.modClk (fun k =>
    if k.devCopy ≤ k.devTime then { k with devCopy := k.devTime, copyHold := none }
    else { k with copyHold := some k.devTime })) s)

/-! ## The test access port (R631) -/

/-- The port has its supply. -/
def State.powered (s : State) : Bool := decide (s.clk.phase ≠ .unpowered)

/-- Cell values as the boundary register holds them: one for each of its cells (R631). -/
def boundaryWord (l : List Bool) : List Bool := (List.range boundaryCells).map (fun i => l.getD i false)

/-- TAP_RESET (R596, R631): IDCODE is selected; the cells stay. -/
def execTapReset (s : State) : Host.Outcome State Fault Refusal :=
  .next (doIf s.powered (fun t => t.modTap (fun x => { x with ir := 0b0010, bypass := false, dr := idcode })) s)

/-- What the cells capture (R631): the level that the device gives a ball, or that of the board where it does not drive. -/
def State.captured (s : State) (pins : List Bool) : List Bool :=
  boundaryBalls.zipIdx.map (fun p => match s.ballLevel p.1 s.nowLsb with
    | some .high => true
    | some .low => false
    | some .floating | none => pins.getD p.2 false)

/-- A scan of the boundary register: it gives up what it captures and takes the cells' values (R631). -/
def State.scanCells (s : State) (x : BoundaryScan) : State :=
  s.modTap (fun p => { p with boundary := s.captured x.pins, driven := boundaryWord x.load })

/-- JTAG_EXTEST (R631): the cells drive their balls with what was preloaded, and after a scan with what it has loaded; those that
only observe keep their reset levels (`State.ballLevel`). -/
def execJtagExtest (scan : Option BoundaryScan) (s : State) : Host.Outcome State Fault Refusal :=
  .next (doIf s.powered (fun t =>
    let u := t.modTap (fun x => { x with ir := 0b0000 })
    match scan with
    | none => u
    | some x => u.scanCells x) s)

/-- JTAG_SAMPLE_PRELOAD (R631): the boundary register takes the balls' levels, the cells the values loaded. -/
def execJtagSamplePreload (pins preload : List Bool) (s : State) : Host.Outcome State Fault Refusal :=
  .next (doIf s.powered (fun t => (t.modTap (fun x => { x with ir := 0b0001 })).scanCells ⟨pins, preload⟩) s)

/-- JTAG_IDCODE (R631). -/
def execJtagIdcode (s : State) : Host.Outcome State Fault Refusal :=
  .next (doIf s.powered (fun t => t.modTap (fun x => { x with ir := 0b0010, dr := idcode })) s)

/-- JTAG_BYPASS (R631): the one-bit register lies between TDI and TDO. -/
def execJtagBypass (s : State) : Host.Outcome State Fault Refusal :=
  .next (doIf s.powered (fun t => t.modTap (fun x => { x with ir := 0b1111, bypass := false })) s)

end Sys2Proof.Machine
end

