-- ==== Sys2Proof/Machine/Commands.lean ====
section
/-! DEFINITION. Command descriptors (spec/09_host_interface.md R380 to R392): fetching and accepting them, reads of host
memory, the commands NOP and FENCE, and completions. -/

namespace Sys2Proof.Machine

/-! ## Acceptance (R357, R380, R384) -/

/-- The bits of a descriptor's words that its opcode uses (R380). -/
def usedBits (op : Nat) : List Word :=
  match op with
  | 0x01 => [0xFFFF00FF, 0x00033FFF, 0x0000FFFF, 0, 0xFFFFFFFF, 0xFFFFFFFF, 0, 0]
  | 0x04 => [0xFFFF00FF, 0x000301FF, 0x0000FFFF, 0, 0xFFFFFFFF, 0xFFFFFFFF, 0, 0]
  | 0x05 => [0xFFFF00FF, 0x000001FF, 0x0000FFFF, 0, 0xFFFFFFFF, 0xFFFFFFFF, 0, 0]
  | 0x06 => [0xFFFF00FF, 0xFFFF011F, 0xFFFFFFFF, 0, 0, 0, 0, 0]
  | 0x07 => [0xFFFF00FF, 0xFFFF011F, 0xFFFF1FFF, 0, 0, 0, 0, 0]
  | 0x08 => [0xFFFF00FF, 0x0000001F, 0, 0, 0, 0, 0, 0]
  | _ => [0xFFFF00FF, 0, 0, 0, 0, 0, 0, 0]

/-- The address of a descriptor's list or table (R380). -/
def listAddr (ws : List Word) : Nat := (joinWords (wordAt ws 4) (wordAt ws 5)).toNat

/-- Counts and fields within range, channel mask not 0, address aligned (R380, R384 check 3). -/
def fieldsInRange (ws : List Word) : Bool :=
  let n := bitsOf (wordAt ws 1) 0 9
  match opcodeOf ws with
  | 0x01 => decide (bitsOf (wordAt ws 1) 0 14 ≤ 8192) && decide (bitsOf (wordAt ws 1) 16 2 ≤ 2) && listAddr ws % 16 == 0
  | 0x04 => decide (1 ≤ n) && decide (n ≤ 256) && decide (bitsOf (wordAt ws 1) 16 2 ≤ 2) && listAddr ws % 16 == 0
  | 0x05 => decide (1 ≤ n) && decide (n ≤ 256) && listAddr ws % 4 == 0
  | 0x06 => bitsOf (wordAt ws 1) 16 16 != 0 && bitsOf (wordAt ws 2) 0 16 != 0
  | 0x07 => bitsOf (wordAt ws 1) 16 16 != 0 && decide (1 ≤ bitsOf (wordAt ws 2) 0 13) && decide (bitsOf (wordAt ws 2) 0 13 ≤ 4096)
  | _ => true

/-- The output ring that a descriptor names for its records, with the class it needs (R380). -/
def namedRing (ws : List Word) : Option (RingId × Nat) :=
  match opcodeOf ws with
  | 0x05 => some ((wordAt ws 2).extractLsb' 0 16, 5)
  | 0x06 => some ((wordAt ws 2).extractLsb' 16 16, 2)
  | 0x07 => some ((wordAt ws 2).extractLsb' 16 16, 4)
  | _ => none

/-- Opcodes of R380. -/
def opcodeKnown (op : Nat) : Bool := decide (op ≤ 9)

/-- Opcodes that a function may use (R357). -/
def opcodeAllowed : Func → Nat → Bool
  | .pf0, _ => true
  | .pf1, op => op == 0x00 || op == 0x09 || op == 0x03 || op == 0x04 || op == 0x05 || op == 0x08

/-- The first three checks of DESCRIPTOR_CHECK (R384), which ask for nothing but the descriptor. -/
def wordsStatus (f : Func) (ws : List Word) : Option Nat :=
  let op := opcodeOf ws
  if !opcodeKnown op then some stBAD_OPCODE
  else if !opcodeAllowed f op then some stACCESS_DENIED
  else if !((List.range 8).all (fun i => wordAt ws i &&& ~~~ wordAt (usedBits op) i == 0)) || !fieldsInRange ws then
    some stBAD_VALUE
  else none

/-- DESCRIPTOR_CHECK (R384): the status of the first check that fails. -/
def State.descrStatus (s : State) (f : Func) (ws : List Word) : Option Nat :=
  if (wordsStatus f ws).isSome then wordsStatus f ws
  else match namedRing ws with
  | none => none
  | some (r, cls) =>
    if ringOwner r = f ∧ (s.ring r).st = .enabled ∧ ctxClass (s.ring r).ctx = cls then none else some stBAD_RING

/-- The ring whose evicted context the fourth check needs (R363, R384). -/
def State.descrNeeds (s : State) (f : Func) (ws : List Word) : Option RingId :=
  if (wordsStatus f ws).isSome then none
  else ((namedRing ws).map (fun p => p.1)).filter (fun r =>
    decide (ringOwner r = f) && s.evicted r)

/-- Words of the list or table that a command names (R153, R381). -/
def listWords (ws : List Word) : Nat :=
  match opcodeOf ws with
  | 0x01 => 4 * bitsOf (wordAt ws 1) 0 14
  | 0x04 => 4 * bitsOf (wordAt ws 1) 0 9
  | 0x05 => bitsOf (wordAt ws 1) 0 9
  | _ => 0

/-- Read the next part of a command's list, or hand the command to its block once its list is read (R353, R382). -/
def State.readList (s : State) (c : Cmd) : State :=
  let left := listWords c.words - c.list.length
  if left = 0 then
    s.modHost (fun h => { h with cmds := h.cmds.map (fun d => if d.ref = c.ref then { d with stage := .readyList } else d) })
  else
    s.askRead ⟨c.func, BitVec.ofNat 64 (listAddr c.words + 4 * c.list.length), 4 * min left ((s.fn c.func).maxRead / 4),
      .list c.ref⟩

/-- The device has taken one more descriptor of a CMD ring (R365, R375). -/
def State.takeDescr (s : State) (r : RingId) : State := s.modRing r (fun g => { g with devIdx := g.devIdx + 1, wbDue := true })

/-- A descriptor has been read (R383, R384): it is accepted and checked. A FENCE waits to be accepted (R385). -/
def State.acceptDescr (s : State) (r : RingId) (ws : List Word) : State :=
  let f := ringOwner r
  let fence := opcodeOf ws == 0x09
  let c : Cmd := ⟨⟨r, (s.ring r).devIdx, (s.ring r).gen⟩, (s.ring r).cplRing, f, ws, [], if fence then .readyList else .reading, false, SeqTrack.none⟩
  let s1 := (forAll ((namedRing ws).toList.map (fun p => p.1)) (fun t n => t.touchHit n) s).modHost (fun h =>
    { h with cmds := h.cmds ++ [c] })
  if fence then s1
  else match s.descrStatus f ws with
  | some st => (s1.takeDescr r).fail c.ref st
  | none => (s1.takeDescr r).readList c

/-- A descriptor arrives (R383): one that names a ring whose context has been evicted waits for that context, unaccepted
(R363). -/
def State.descrArrives (s : State) (r : RingId) (ws : List Word) : State :=
  match s.descrNeeds (ringOwner r) ws with
  | some n => (s.modRing r (fun g => { g with descrHeld := some ws })).fetchAgain n
  | none => s.acceptDescr r ws

/-! ## Fetching descriptors (R383, R389, R393) -/

/-- Commands of a function accepted and not completed, with descriptors on their way (R383). DEDUCED (log 77): a command whose
completion record waits has not completed. -/
def State.openCmds (s : State) (f : Func) : Nat :=
  s.host.cmds.countP (fun c => c.accepted && decide (c.func = f))
    + s.host.cpls.countP (fun c => decide (ringOwner c.cmd.ring = f))
    + (s.host.reads ++ s.host.readQ).countP (fun h => match h.purpose with
      | .descriptor r _ _ => decide (ringOwner r = f)
      | _ => false)
    + s.rings.countP (fun p => p.2.descrHeld.isSome && decide (ringOwner (BitVec.ofNat 16 p.1) = f))

/-- A CMD ring has a descriptor to fetch: it is ENABLED with a descriptor announced, its function masters the bus and has fewer
than 64 open commands, and the descriptor before it has been accepted: its block has it, or it has completed. Behind a FENCE that
is its completion (R383, R385; DEDUCED, log 77). DESIGN CHOICE (log 39): that a ring is a CMD ring is known without its context. -/
def State.descrDue (s : State) (r : RingId) : Bool :=
  let g := s.ring r
  decide (g.st = .enabled) && ctxClass g.ctx == 0 && decide (g.hostIdx ≠ g.devIdx) && s.master (ringOwner r)
  && decide (s.openCmds (ringOwner r) < 64) && !s.ringBusy r.toNat
  && !s.host.cmds.any (fun c => decide (c.ref.ring = r) && decide (c.ref.gen = g.gen) && decide (c.stage ≠ .open))
  && !s.host.cpls.any (fun p => decide (p.cmd.ring = r) && decide (p.cmd.gen = g.gen) && opcodeOf p.words == 0x09)
  && decide (s.host.reads.length < 128)

/-- The evicted context that a CMD ring's turn has fetched first (R363): its own, its completion ring's, or the one that the
descriptor which waits asks for. -/
def State.turnNeeds (s : State) (r : RingId) : Option RingId :=
  if s.lacksCtx r then some r
  else match (s.ring r).descrHeld with
  | some ws => s.descrNeeds (ringOwner r) ws
  | none => if s.evicted (s.ring r).cplRing then some (s.ring r).cplRing else none

/-- A CMD ring takes its turn (R383): a context it needs can be fetched; or a descriptor waits that it can accept; or its next one
can be fetched, for which a unit of the completion ring is free (R389). -/
def State.fetchable (s : State) (n : Nat) : Bool :=
  let r : RingId := BitVec.ofNat 16 n
  match s.turnNeeds r with
  | some e => ((s.ring r).descrHeld.isSome || s.descrDue r) && s.mayRefetch e
  | none => (s.ring r).descrHeld.isSome
    || (s.descrDue r && s.isEvtRing (ringOwner r) (s.ring r).cplRing && decide (1 ≤ s.freeUnits (s.ring r).cplRing))

/-- The next CMD ring in round-robin order (R383). -/
def State.nextCmdRing (s : State) : Option Nat :=
  let l := (s.rings.map (fun p => p.1)).filter (fun n => s.fetchable n)
  match l.find? (fun n => decide (s.host.rrLast ≤ n)) with
  | some n => some n
  | none => l.head?

/-- DESCRIPTOR_FETCH (R383): the turn of the next CMD ring. -/
def execDescriptorFetch (s : State) : Host.Outcome State Fault Refusal :=
  .next (match s.nextCmdRing with
  | none => s
  | some n => doIf s.fabricReady (fun t =>
      let r : RingId := BitVec.ofNat 16 n
      let g := t.ring r
      match t.turnNeeds r with
      | some e => t.fetchAgain e
      | none => match g.descrHeld with
        | some ws => (t.modRing r (fun h => { h with descrHeld := none })).acceptDescr r ws
        | none => (((t.touchHit r).touchHit g.cplRing).modHost (fun h => { h with rrLast := n + 1 })).askRead
          ⟨ringOwner r, BitVec.ofNat 64 (ctxBase g.ctx + 32 * (g.devIdx.toNat % ctxSize g.ctx)), 32,
            .descriptor r g.gen g.cplRing⟩) s)

/-! ## Reads of host memory (R382, R392) -/

/-- The oldest read of host memory that is outstanding. -/
def State.oldestRead (s : State) : Option HostRead := s.host.reads.head?

/-- The oldest read is no longer outstanding; one that waits takes its place (R353). -/
def State.dropRead (s : State) : State := (s.modHost (fun h => { h with reads := h.reads.tail })).issueReads

/-- The word of four bytes, the first its lowest (R10). -/
def bytesWord (bs : List Byte) : Word := bs.getD 3 0 ++ bs.getD 2 0 ++ bs.getD 1 0 ++ bs.getD 0 0

/-- The words of a read's bytes, each little-endian (R10). -/
def bytesWords (bs : List Byte) : List Word := (List.range (bs.length / 4)).map (fun i => bytesWord (bs.drop (4 * i)))

/-- A fetch of an evicted context still speaks of the ring as it is: it is ENABLED, DRAINING or, for a doorbell that disables it, in
ERROR, under the fetch's generation (R371). -/
def State.ringStill (s : State) (r : RingId) (gen : BitVec 16) : Bool :=
  (decide ((s.ring r).st = .enabled) || decide ((s.ring r).st = .draining) || decide ((s.ring r).st = .error))
    && decide ((s.ring r).gen = gen)

/-- A part of a command's list has arrived. -/
def State.listArrives (s : State) (ref : CmdRef) (ws : List Word) : State :=
  match s.cmd? ref with
  | none => s
  | some c =>
    let c1 := { c with list := c.list ++ ws }
    (s.modHost (fun h => { h with cmds := h.cmds.map (fun d => if d.ref = ref then c1 else d) })).readList c1

/-- What the data of a read does. -/
def State.readData (s : State) (p : ReadFor) (ws : List Word) : State :=
  match p with
  | .context r => s.modRing r (fun g => { g with fetched := some ws })
  | .reload r gen => doIf (decide ((s.ring r).st = .enabled) && decide ((s.ring r).gen = gen))
      (fun t => t.modRing r (fun g => { g with fetched := some ws })) s
  | .again r gen => doIf (s.ringStill r gen) (fun t => ((t.touch r).modRing r (fun g => { g with ctx := ws.take 8 })).releaseBells r false) s
  | .descriptor r gen _ => doIf (decide ((s.ring r).st = .enabled) && decide ((s.ring r).gen = gen))
      (fun t => t.descrArrives r ws) s
  | .list ref => s.listArrives ref ws

/-- What a failed read does (R392); the device has the context of a ring no more whose evicted one it could not fetch. -/
def State.readFails (s : State) (h : HostRead) : State :=
  let s1 := s.bump (HIF_FN_ERR_dma_err (fnIdx h.func)) 1
  match h.purpose with
  | .context r => s1.modRing r (fun g => { g with fetchFailed := true })
  | .reload r gen => doIf (decide ((s1.ring r).st = .enabled) && decide ((s1.ring r).gen = gen))
      (fun t => t.modRing r (fun g => { g with fetchFailed := true })) s1
  | .again r gen => doIf (s1.ringStill r gen) (fun t =>
      (t.modRing r (fun g => { g with ctx := Ring.reset.ctx, wbDue := false })).releaseBells r true) s1
  | .descriptor r gen _ => doIf (decide ((s1.ring r).st = .enabled) && decide ((s1.ring r).gen = gen)) (fun t => t.ringError r) s1
  | .list ref => s1.fail ref stDMA_ERROR

/-- HOST_READ_COMPLETION (R392): the oldest read completes, with its data or with a failure. -/
def execHostReadCompletion (reply : ReadReply) (s : State) : Host.Outcome State Fault Refusal :=
  .next (match s.oldestRead with
  | none => s
  | some h => doIf (s.fabricReady && s.flag HIF_LINK_up) (fun t =>
      match reply with
      | .data bs => doIf (bs.length == h.bytes) (fun u => u.dropRead.readData h.purpose (bytesWords bs)) t
      | .failed why => (doIf (decide (why = .poisoned)) (fun u => u.noteAer h.func 12) t.dropRead).readFails h) s)

/-- COMPLETION_TIMEOUT (R392): the oldest read fails, counted and detected. -/
def execCompletionTimeout (s : State) : Host.Outcome State Fault Refusal :=
  .next (match s.oldestRead with
  | none => s
  | some h => doIf s.fabricReady (fun t =>
      (((t.dropRead.noteAer h.func 14).bump (HIF_FN_ERR_cpl_tmo (fnIdx h.func)) 1).readFails h).detect 0x0D 6 (fnIdx h.func) 0 0
        (elemFn (fnIdx h.func))) s)

/-! ## NOP and FENCE (R385) -/

/-- NOP (R380). -/
def execNop (ref : CmdRef) (s : State) : Host.Outcome State Fault Refusal :=
  .next (match s.waits ref 0x00 with
  | none => s
  | some _ => doIf s.fabricReady (fun t => t.complete ref stOK 0 0) s)

/-- Every earlier command of the ring other than START has completed: none is open, no completion waits to be written
(R385). -/
def State.fenceClear (s : State) (ref : CmdRef) : Bool :=
  !s.host.cmds.any (fun c => decide (c.ref.ring = ref.ring) && decide (c.ref ≠ ref) && opcodeOf c.words != 0x02)
  && !s.host.cpls.any (fun p => decide (p.cmd.ring = ref.ring) && opcodeOf p.words != 0x02)

/-- FENCE (R385): it is accepted once it may be, and completes at once. An evicted context of its ring or of its completion ring is
fetched first (R363). -/
def execFence (ref : CmdRef) (s : State) : Host.Outcome State Fault Refusal :=
  .next (match s.waits ref 0x09 with
  | none => s
  | some c => doIf (s.fabricReady && s.fenceClear ref && decide (s.openCmds c.func < 64)) (fun t =>
      if t.lacksCtx ref.ring then t.fetchAgain ref.ring
      else if t.evicted c.cplRing then t.fetchAgain c.cplRing
      else doIf (t.isEvtRing c.func c.cplRing && decide (1 ≤ t.freeUnits c.cplRing)) (fun u =>
        (((u.touchHit ref.ring).touchHit c.cplRing).takeDescr ref.ring).fail ref
          ((u.descrStatus c.func c.words).getD stOK)) t) s)

/-! ## Completions (R377, R388, R390, R426) -/

/-- A dwell of a START that has not been extracted yet (R390). -/
def State.dwellsLeft (s : State) (ref : CmdRef) : Bool :=
  crateNos.any (fun c =>
    (s.crate c).descQ.any (fun d => decide (d.start = some ref)) || (s.crate c).cur.any (fun d => decide (d.start = some ref))
    || chanNos.any (fun k => [(s.chan c k).buf0, (s.chan c k).buf1].any (fun b =>
        (decide (b.st = .full) || decide (b.st = .extract)) && b.dwell.any (fun d => decide (d.start = some ref)))))

/-- The rings that a command's records went to wait for no write-back (R377). -/
def State.covered (s : State) (p : Cpl) : Bool :=
  if opcodeOf p.words = 0x02 then !s.rings.any (fun g => ctxClass g.2.ctx == 1 && g.2.wbDue)
  else match namedRing p.words with
  | none => true
  | some (r, _) => !(s.ring r).wbDue

/-- A completion may be written: after its command's records and their write-backs, and after a RING_LOSS that its ring
owes (R374, R377). -/
def State.cplReady (s : State) (p : Cpl) : Bool :=
  !s.host.allRecs.any (fun c => decide (c.forCmd = some p.cmd)) && !(opcodeOf p.words == 0x02 && s.dwellsLeft p.cmd)
  && s.covered p && !s.owesLoss p.cplRing
  && (s.flag HIF_LINK_up || !(s.fn (ringOwner p.cplRing)).bme)

/-- The words of a completion record (R388, R390, R426). -/
def Cpl.record (p : Cpl) : List Word :=
  [w32 (0x01 + 2 ^ 8 * p.status + 2 ^ 16 * opcodeOf p.words), w32 (bitsOf (wordAt p.words 0) 16 16 + 2 ^ 16 * p.cmd.ring.toNat),
    p.cmd.idx, loWord p.shots, hiWord p.shots, p.dwells,
    if opcodeOf p.words = 0x02 then p.seqs.ofEntry p.dwells else p.seqs.seq, p.epoch]

/-- COMPLETION_WRITE (R388): the first completion that may be written. -/
def execCompletionWrite (s : State) : Host.Outcome State Fault Refusal :=
  .next (match s.host.cpls.find? (fun p => s.cplReady p) with
  | none => s
  | some p => doIf s.fabricReady (fun t =>
      let e := p.cplRing
      let f := ringOwner e
      let t1 := t.modHost (fun h => { h with cpls := eraseFirst (fun q => decide (q = p)) h.cpls })
      let r : Rec := ⟨f, e, 3, p.record, none, 0, true⟩
      if t.recWaits f e true then t.fetchAgain e
      else if !t1.routed r then (t1.bump RNG_MISROUTE_ct 1).put RNG_MISROUTE_last_ring e.toNat
      else if !(t1.fn f).bme then t1.modRing e (fun g => { g with
        drops := g.drops + 1, sinceLoss := g.sinceLoss + 1, lossPending := true, wbDue := true })
      else (t1.touchHit e).ringWrite e p.record) s)

end Sys2Proof.Machine
end

