-- ==== Sys2Proof/Machine/Extract.lean ====
section
/-! DEFINITION. Peak extraction (spec/07_histogram_engine.md R275 to R287, R291, spec/10_records_and_coherent_state.md R419 to
R423): candidates, their times, returns, records, dump records. -/

namespace Sys2Proof.Machine

/-! ## What the coarse scan gives (R276, R313, R315) -/

/-- The n 16-bit bins of a bank from byte b up. -/
def State.bins (s : State) (c b n : Nat) : List Nat := (List.range n).map (fun i => s.bankHalf c (b + 2 * i))

/-- One dwell of one channel as its extractor sees it: coarse counts, background in 1/16 count, fit region, whether a fit was
made and accepted. -/
structure Scan where
  h : List Nat
  bg : List Nat
  fitFrom : Nat
  fitLen : Nat
  made : Bool
  accepted : Bool
  deriving DecidableEq, Repr

/-- The coarse scan: B is the flat background, plus an accepted fit, over the main-window bins (R313, R316). -/
def Descr.scan (d : Descr) (h : List Nat) : Scan :=
  let lo := binLo d.wc
  let hi := binHi d.wc d.mainLen
  let bf := flatBackground h lo hi (d.rd SKM_LIM_excl)
  let f := d.fit h bf hi
  let fit := (f.filter (fun p => p.2)).map (fun p => p.1)
  { h := h
    bg := (List.range 512).map (fun b => if lo ≤ b ∧ b ≤ hi then
      bf + (match fit with
        | none => 0
        | some l => if d.fitStart ≤ b then l.getD (b - d.fitStart) 0 else 0) else 0)
    fitFrom := d.fitStart
    fitLen := (fit.map (fun l => l.length)).getD 0
    made := f.isSome
    accepted := fit.isSome }

/-- The net count of coarse bin b in 1/16 count (R276). -/
def Scan.net (v : Scan) (b : Nat) : Int := 16 * (v.h.getD b 0 : Int) - v.bg.getD b 0

/-! ## Candidates (R277) -/

/-- A candidate: coarse bin, net count and S in 1/16 count, confidence, coarse time as a fraction, τ, the window that refined
it, the flags that rejection sets, and whether the Strainer takes it out of the returns (R323). -/
structure Cand where
  b : Nat
  n : Int
  sum : Int
  conf : Nat
  tcNum : Int
  tcDen : Nat
  tau : Int
  win : Option Nat
  weather : Bool
  foreign : Bool
  probed : Bool
  deriving DecidableEq, Repr

/-- The confidence of R277 for S and N in 1/16 count. -/
def confOf (s n : Nat) : Nat := min 255 (isqrt (16 * s * s / (s + n + 16)))

/-- The coarse time of R278 as a fraction, for net counts a, m, e. -/
def coarseTime (wc b : Nat) (a m e : Int) : Int × Nat :=
  let q := 2 * (2 * m - a - e)
  ((((2 * b + 1 : Nat) : Int) * q + clampInt (-q) q (2 * (e - a))) * wc - 4096 * (2 * q), (2 * q).toNat)

/-- The candidate of coarse bin b, where the conditions of R277 hold. -/
def Scan.candAt (v : Scan) (wc lo minNet candMin b : Nat) : Option Cand :=
  let m := v.net b
  let l := if b ≤ lo then none else some (v.net (b - 1))
  let r := if b = 511 then none else some (v.net (b + 1))
  let a := max (l.getD 0) 0
  let e := max (r.getD 0) 0
  let n := (if b = 0 then 0 else v.bg.getD (b - 1) 0) + v.bg.getD b 0 + v.bg.getD (b + 1) 0
  let tc := coarseTime wc b a m e
  if 0 < m ∧ l.all (fun x => decide (x < m)) ∧ r.all (fun x => decide (x ≤ m)) ∧ 16 * (minNet : Int) ≤ a + m + e
      ∧ candMin ≤ confOf (a + m + e).toNat n then
    some { b := b, n := m, sum := a + m + e, conf := confOf (a + m + e).toNat n, tcNum := tc.1, tcDen := tc.2
           tau := roundDiv (16 * tc.1) tc.2, win := none, weather := false, foreign := false, probed := false }
  else none

/-- Insert a candidate into a list in descending order of its net count, behind its equals. -/
def insertCand (x : Cand) : List Cand → List Cand
  | [] => [x]
  | y :: t => if y.n < x.n then x :: y :: t else y :: insertCand x t

/-- The candidates kept: in rank order, none within sep bins of one kept before, at most 4 (R277). -/
def keepCands (sep : Nat) (l : List Cand) : List Cand :=
  l.foldl (fun kept x => if kept.length < 4 ∧ kept.all (fun y => decide (sep < natDist x.b y.b)) then kept ++ [x] else kept) []

/-- The kept candidates of a scan. -/
def Descr.candidates (d : Descr) (c : Nat) (v : Scan) : List Cand :=
  let lo := binLo d.wc
  keepCands (d.rd (CHU_PEAK_CFG_sep c)) (((List.range (512 - lo)).filterMap (fun i =>
    v.candAt d.wc lo (d.rd (CHU_PEAK_CFG_min_net c)) (d.rd (CHU_PEAK_CFG_cand_min c)) (lo + i))).foldl
      (fun l x => insertCand x l) [])

/-! ## Refinement (R279) -/

/-- The net count of fine bin f of a window that starts at f0, in 1/16 count (R279). -/
def fineNet (d : Descr) (v : Scan) (fineShots fired f0 f count : Nat) : Int :=
  16 * (count : Int) - roundDiv (v.bg.getD ((f0 + f * d.wf + 4096) / d.wc) 0 * d.wf * fineShots) (d.wc * max 1 fired)

/-- The first fine bin of highest positive net count among those whose centre lies within ±w_c of t_c (R279). -/
def peakFine (d : Descr) (x : Cand) (f0 : Nat) (nets : List Int) : Option Nat :=
  (List.range 128).foldl (fun best f =>
    let off : Int := ((2 * f0 + (2 * f + 1) * d.wf : Nat) : Int) * x.tcDen - 2 * x.tcNum
    if 0 < nets.getD f 0 ∧ off ≤ 2 * d.wc * x.tcDen ∧ -(2 * d.wc * x.tcDen : Int) ≤ off then
      match best with
      | none => some f
      | some g => if nets.getD g 0 < nets.getD f 0 then some f else some g
    else best) none

/-- Sum over the bins f − h to f + h with positive net count (R279). -/
def fineSum (nets : List Int) (f h : Nat) (weight : Nat → Int) : Int :=
  ((List.range (2 * h + 1)).map (fun i => max 0 (nets.getD (f - h + i) 0) * weight (f - h + i))).foldl (· + ·) 0

/-- The window in whose middle a coarse time lies (R279). -/
def windowFor (d : Descr) (x : Cand) (fine : List (Option Nat)) : Option (Nat × Nat) :=
  (List.range 4).findSome? (fun n => match fine.getD n none with
    | none => none
    | some f => if ((f + d.wc : Nat) : Int) * x.tcDen ≤ x.tcNum
        ∧ x.tcNum < ((f + 128 * d.wf : Nat) - (d.wc : Int)) * x.tcDen then some (n, f) else none)

/-- A candidate refined in its fine window, or as it was (R279). -/
def Cand.refine (x : Cand) (d : Descr) (v : Scan) (fine : List (Option Nat)) (bins : Nat → List Nat)
    (fineShots fired fhw : Nat) : Cand :=
  match windowFor d x fine with
  | none => x
  | some (n, f0) =>
    let nets := (List.range 128).map (fun f => fineNet d v fineShots fired f0 f ((bins n).getD f 0))
    match peakFine d x f0 nets with
    | none => x
    | some f =>
      if fhw ≤ f ∧ f + fhw ≤ 127 then
        let den := fineSum nets f fhw (fun _ => 1)
        let num := fineSum nets f fhw (fun i => 2 * i + 1)
        { x with tau := roundDiv (16 * (2 * den * f0 + d.wf * num)) (2 * den).toNat, win := some n }
      else x

/-- Shots that filled fine windows (R264, R267). -/
def fineShotsOf (d : Descr) (fmode fired : Nat) : Nat :=
  if fmode = 1 ∨ fmode = 2 then fired else if fmode = 3 then fired - d.splitN else 0

/-- The windows that count in the dwell: none in a split dwell that fired split_n shots or fewer (R267). -/
def Buf.windows (b : Buf) (fineShots : Nat) : List (Option Nat) := if fineShots = 0 then noFine else b.fine

/-! ## Rejection (R305, R312, R317, R319, R323, R327) -/

/-- A candidate is weather-like (R317). -/
def Cand.weatherLike (x : Cand) (d : Descr) (fired : Nat) : Bool :=
  decide (x.b < d.fitStart + d.rd STR_WX_near) && decide (16 * x.sum < fired * d.rd STR_WX_frac)

/-- The Strainer's flag and confidence (R305, R319, R323). -/
def Cand.strain (x : Cand) (d : Descr) (v : Scan) (b : Buf) (fired : Nat) : Cand :=
  let like := x.weatherLike d fired && b.weatherAt
  let cut := if like && !d.safety then d.rd STR_CFG_wx_cut else 0
  let near := b.probe && decide (x.tcNum < d.rd STR_WIN_zone_end * x.tcDen)
  { x with
    probed := near
    weather := like || (decide (v.fitFrom ≤ x.b) && decide (x.b < v.fitFrom + v.fitLen))
    conf := if near then 0 else x.conf - cut }

/-- The Separator's flag and confidence (R327). -/
def Cand.separate (x : Cand) (d : Descr) (b : Buf) (fired : Nat) : Cand :=
  { x with
    foreign := b.foreignAt
    conf := if b.foreignAt && !d.safety && decide (16 * x.sum < fired * d.rd SEP_CFG_frac) then x.conf - d.rd SEP_CFG_cut
      else x.conf }

/-! ## Returns and records (R280 to R284, R419, R420) -/

/-- Insert into a list in ascending order of τ (R280). DESIGN CHOICE (log 123): of two returns with one τ, the one of the
lower rank (R277) stands first. -/
def insertTau (x : Cand) : List Cand → List Cand
  | [] => [x]
  | y :: t => if x.tau < y.tau then x :: y :: t else y :: insertTau x t

/-- The range of R281 in 0.1 mm. -/
def rangeOf (tau ofs : Int) : Nat := (roundDiv ((tau - ofs) * 1534937) 1048576).toNat

/-- The intensity of R282. -/
def Acc.intensity (a : Acc) : Nat :=
  if 0 < a.overs then 4095 else if a.usable = 0 then 0
  else (clampInt 1 4095 (roundDiv a.sum (16 * a.usable))).toNat

/-- Bits as a number, the first in bit 0. -/
def bitsNat (l : List Bool) : Nat := (l.zipIdx.map (fun p => p.1.toNat * 2 ^ p.2)).sum

/-- The dwell is marked PARTIAL (R283). -/
def partialDwell (d : Descr) (m : CloseMark) : Bool := decide (m.fired < d.reps) || decide (0 < m.noStart) || m.early.isSome

/-- The flags that every return of a channel's dwell carries, in the order of R420 (R283, R312, R322, R327, R423). -/
def Buf.flags (b : Buf) (d : Descr) (m : CloseMark) (k : Nat) : List Bool :=
  [partialDwell d m, b.lost, false, d.subst.getLsbD k, false, b.foreignAt, false, b.dirtyAt, false, b.sunAt, d.degraded,
    d.safety, false]

/-- The flags of one return (R283, R319, R420). -/
def Cand.flags (x : Cand) (b : Buf) (d : Descr) (m : CloseMark) (k : Nat) (a : Acc) : List Bool :=
  [partialDwell d m, b.lost, decide (0 < a.overs), d.subst.getLsbD k, decide (0 < a.settle), x.foreign, x.weather, b.dirtyAt,
    x.win.isSome, b.sunAt, d.degraded, d.safety,
    b.nearBlank.any (fun i => decide (((x.b : Int) - 1) * d.wc - 4096 ≤ i))]

/-- The accumulator of a return (R282). -/
def Cand.acc (x : Cand) (b : Buf) : Acc :=
  match x.win with
  | some n => b.acc (16 + n)
  | none => b.acc (x.b / 32)

/-- The four words of a point record (R419). -/
def pointWords (range ambient g ret flags conf angle tag round intensity epoch : Nat) : List Word :=
  [w32 (range % 2 ^ 24 + 2 ^ 24 * ambient), w32 (g + 2 ^ 9 * ret + 2 ^ 11 * flags + 2 ^ 24 * conf),
    w32 (angle + 2 ^ 16 * tag), w32 (round + 2 ^ 16 * intensity + 2 ^ 28 * (epoch % 16))]

/-- What an extractor makes of one channel's dwell: the candidates with τ, the returns, the clocks (R275, R280). -/
structure Extraction where
  scan : Scan
  cands : List Cand
  returns : List Cand
  clocks : Nat
  deriving DecidableEq, Repr

/-- Extraction of buffer x of channel k (R275 to R280); a corrupt dwell has no candidates (R285). -/
def State.extract (s : State) (c k : Nat) (x : Bool) (b : Buf) (d : Descr) (m : CloseMark) : Extraction :=
  let v := d.scan (s.bins c (bufBase k x) 512)
  let fs := fineShotsOf d b.fmode m.fired
  let wins := b.windows fs
  let cs := (if b.corrupt then [] else d.candidates c v).map (fun y =>
    ((y.refine d v wins (fun n => s.bins c (fineAt k x n 0) 128) fs m.fired (d.rd (CHU_PEAK_CFG_fhw c))).strain d v b
      m.fired).separate d b m.fired)
  { scan := v, cands := cs
    returns := ((cs.filter (fun y => !y.probed && decide (d.rd (CHU_PEAK_CFG_conf_min c) ≤ y.conf))).foldr insertTau []).take 4
    clocks := if b.events = 0 ∧ cs.isEmpty then 8 else 128 + 32 * (wins.countP (fun w => w.isSome)) + 24 * cs.length }

/-- The dwell gave no start at all: no repeat fired, or every window without start (R145, R287). -/
def missedDwell (m : CloseMark) : Bool := m.fired == 0 || decide (m.fired ≤ m.noStart)

/-- A return's record (R284, R419). -/
def Cand.record (y : Cand) (b : Buf) (d : Descr) (m : CloseMark) (c k i : Nat) : Rec :=
  let a := y.acc b
  ⟨.pf0, d.ring, 1, pointWords (rangeOf y.tau (d.rdInt (CHU_OFS_ofs c k))) b.ambientAt (16 * c + k) i
    (bitsNat (y.flags b d m k a)) y.conf d.angle.toNat d.tag.toNat d.round.toNat a.intensity d.epoch.toNat, d.start, d.entry,
    false⟩

/-- A return for zone evaluation (R287, R510). -/
def Cand.zoneRet (y : Cand) (b : Buf) (d : Descr) (m : CloseMark) (c k : Nat) : ZRet :=
  ⟨16 * c + k, d.angle, rangeOf y.tau (d.rdInt (CHU_OFS_ofs c k)), y.conf, BitVec.ofNat 13 (bitsNat (y.flags b d m k (y.acc b))),
    d.sweep⟩

/-- The extraction time of R299: what the channels took, and more where an extractor has waited besides: then by how much is a free
value (log 112). -/
def State.extractTime (s : State) (w : XWait) : Nat :=
  min 65535 (max w.clk0 w.clk1 + (if w.held then bitsOf (Config.freeWord s.free) 0 16 else 0))

/-- The extractors have one channel less to do; after the last the crate's weather and extraction time follow (R299, R318). -/
def State.xDone (s : State) (c k id : Nat) (wet : Bool) (clocks : Nat) (d : Descr) : State :=
  match (s.crate c).xq.find? (fun w => w.id == id) with
  | none => s
  | some w =>
    let w1 := { w with
      left := w.left &&& ~~~(1#16 <<< k), wet := w.wet + wet.toNat
      clk0 := if k < 8 then w.clk0 + clocks else w.clk0, clk1 := if k < 8 then w.clk1 else w.clk1 + clocks }
    if w1.left = 0 then
      let t := s.extractTime w1
      ((((s.skipFree w.held.toNat).modCrate c (fun g => { g with xq := g.xq.filter (fun y => y.id != id) })).weather c w1.wet
        d).put (CHU_XTIME_last c) t).raise (CHU_XTIME_max c) t
    else s.modCrate c (fun g => { g with xq := g.xq.map (fun y => if y.id = id then w1 else y) })

/-- A dump no longer waits for a channel of a dwell (R290, R292). -/
def State.dumpLess (s : State) (c k id : Nat) : State :=
  (s.modCrate c (fun g => { g with dump := g.dump.map (fun u =>
    let due := u.due.map (fun p => if p.1 = id then (p.1, p.2 &&& ~~~(1#16 <<< k)) else p)
    { u with full := u.full + due.countP (fun p => decide (p.2 = 0)), due := due.filter (fun p => decide (p.2 ≠ 0)) }) })
      ).finishDump c

/-- Which words a dump that is due still needs: the coarse words, and the fine words where it includes them (R272). -/
def State.keepForDump (s : State) (c k : Nat) (x : Bool) : State :=
  let s1 := s.modBuf c k x (fun u => { u with st := .dump })
  if (s.crate c).dump.any (fun u => u.fine) then s1
  else s1.clearFine c k x

/-- The buffer after its extraction (R272). -/
def State.leaveBuf (s : State) (c k : Nat) (x : Bool) (b : Buf) : State :=
  if b.dumpDue then
    if b.corrupt then (s.freeBuf c k x).dumpLess c k b.dwellId else s.keepForDump c k x
  else s.freeBuf c k x

/-- An extractor ends a channel (R275, R280, R284, R285, R287, R322). -/
def State.endExtraction (s : State) (c k : Nat) (x : Bool) (b : Buf) (d : Descr) (m : CloseMark) : State :=
  let r := s.extract c k x b d m
  let rets := r.returns
  let s1 := doIf r.scan.made (fun t => t.putB (STR_CH_fit c k) r.scan.accepted) s
  let s2 := doIf (b.probe && decide (0 < m.fired)) (fun t => t.windowLevel c k (if b.probeOver then 65535 else b.probeSum) d) s1
  let s3 := forAll rets.zipIdx (fun t p => t.pushRec (p.1.record b d m c k p.2)) s2
  let s4 := doIf d.safety (fun t => t.zoneDeliver c k d.angle d.sweep
    (if b.corrupt || missedDwell m then none else some (rets.map (fun y => y.zoneRet b d m c k)))) s3
  let s5 := s4.modChan c k (fun h => { h with refs := h.refs.map (fun p =>
    if p.1 = b.dwellId then (p.1, some (r.cands.map (fun y => y.tau))) else p) })
  let wet := r.scan.accepted || r.cands.any (fun y => y.weatherLike d m.fired)
  ((s5.xDone c k b.dwellId wet r.clocks d).leaveBuf c k x b).nextExtract c

/-- The extractor of the dwell stalls (R275, R299). -/
def State.stallExtractor (s : State) (c id : Nat) : State :=
  s.modCrate c (fun g => { g with xq := g.xq.map (fun w => if w.id = id then { w with held := true } else w) })

/-- CHANNEL_EXTRACTION_DONE (R275): the extractor stalls while the record FIFO has no space for the channel's records. -/
def execChannelExtractionDone (c : CrateId) (k : ChanId) (ecc : List Ecc) (s : State) : Host.Outcome State Fault Refusal :=
  .next (match (s.chan c k).bufIn .extract with
  | none => s
  | some x =>
    let t := s.eccReads c k x ecc
    let b := (t.chan c k).buf x
    match b.dwell, b.mark with
    | some d, some m =>
      let n := (t.extract c k x b d m).returns.length
      doIf s.churnLive (fun u => if n = 0 ∨ s.host.recs.length + n ≤ recFifoSize then t.endExtraction c k x b d m
        else u.stallExtractor c b.dwellId) s
    | _, _ => s)

/-! ## Dump records (R290, R291, R422, R423) -/

/-- The windows of a dump header as one 96-bit number (R422). -/
def finePlaces (l : List (Option Nat)) : Nat :=
  (l.zipIdx.map (fun p => match p.1 with
    | none => 0
    | some f => (f + 2 ^ 17) * 2 ^ (18 * p.2))).sum

/-- Pairs of 16-bit bins as words. -/
def binWords : List Nat → List Word
  | a :: b :: t => w32 (a + 65536 * b) :: binWords t
  | [a] => [w32 a]
  | [] => []

/-- The words of a dump record (R422, R423). -/
def State.dumpWords (s : State) (c k : Nat) (x fine : Bool) (b : Buf) (d : Descr) (m : CloseMark) : List Word :=
  let h := s.bins c (bufBase k x) 512
  let fs := fineShotsOf d b.fmode m.fired
  let wins := finePlaces (b.windows fs)
  let mean := min 65535 (roundDiv (d.scan h).bg.sum 512).toNat
  [w32 (16 * c + k + 2 ^ 9 * fine.toNat + 2 ^ 10 * d.cbin + 2 ^ 13 * d.fbin + 2 ^ 16 * d.tag.toNat),
    w32 (d.round.toNat + 2 ^ 16 * d.angle.toNat), d.epoch, w32 (m.fired + 2 ^ 13 * fs),
    w32 (bitsNat (b.flags d m k) + 2 ^ 16 * mean), w32 wins, w32 (wins / 2 ^ 32), w32 (wins / 2 ^ 64)]
  ++ binWords h
  ++ (if fine then (List.range 4).flatMap (fun n => binWords
        (if ((b.windows fs).getD n none).isSome then s.bins c (fineAt k x n 0) 128 else List.replicate 128 0)) else [])

/-- The dump engine reads one buffer with clear (R290, R291); a dwell found corrupt is not dumped. -/
def State.dumpBuf (s : State) (c k : Nat) (x : Bool) (u : Dump) (d : Descr) (m : CloseMark) : State :=
  let b := (s.chan c k).buf x
  let s1 := if b.corrupt then s else
    ((s.pushRec ⟨ringOwner u.ring, u.ring, 2, s.dumpWords c k x u.fine b d m, u.cmd, 0, false⟩).bump
      (CHU_DUMP_STAT_dumped c) 1).modCrate c (fun g => { g with dump := g.dump.map (fun v => { v with
        channels := v.channels + 1 }) })
  (s1.freeBuf c k x).dumpLess c k b.dwellId

/-- The dump engine has come to channel k of a dwell: the oldest dwell with channels left, and its lowest channel (R290). -/
def Dump.reaches (u : Dump) (id k : Nat) : Bool :=
  u.due.head?.any (fun p => p.1 == id && p.2.getLsbD k && (List.range k).all (fun j => !p.2.getLsbD j))

/-- DUMP_CHANNEL (R290). -/
def execDumpChannel (c : CrateId) (k : ChanId) (ecc : List Ecc) (s : State) : Host.Outcome State Fault Refusal :=
  .next (match (s.chan c k).bufIn .dump, (s.crate c).dump with
  | some x, some u =>
    match ((s.chan c k).buf x).dwell, ((s.chan c k).buf x).mark with
    | some d, some m => doIf (s.churnLive && u.reaches ((s.chan c k).buf x).dwellId k)
        (fun t => (t.eccReads c k x ecc).dumpBuf c k x u d m) s
    | _, _ => s
  | _, _ => s)

end Sys2Proof.Machine
end

