-- ==== Sys2Proof/Machine/Faults.lean ====
section
/-! DEFINITION. The fault manager: strikes, permanent faults, probation, the fault log's selectors
(spec/13_faults_and_service_continuity.md R555 to R560, R570 to R573). -/

namespace Sys2Proof.Machine

/-- Detections that wait are taken in ascending order of code, then of element (R557). -/
def Detect.before (a b : Detect) : Bool := decide (a.code < b.code) || (a.code == b.code && decide (a.elem < b.elem))

/-- The next detection: the first of the least among those that wait. -/
def nextDetect (l : List Detect) : Option Detect := l.foldl (fun r d => match r with
  | none => some d
  | some x => if d.before x then some d else some x) none

/-- The element of a detection is retired, FAILED or out of service: the detection is ignored (R559). -/
def State.elemOut (s : State) (d : Detect) : Bool :=
  if d.code = 0x01 ∨ d.code = 0x02 then s.role d.index d.sub == 6
  else if d.code = 0x03 then s.role d.index d.sub == 6 || s.role d.index 16 == 6
  else if d.kind = 3 then s.rd (CHG_STAT_state d.index) == 5
  else if d.kind = 4 then s.rd (WMN_STAT_state d.index) == 3
  else if d.code = 0x07 then s.hk.chkPerm
  else if d.code = 0x09 then s.removed (d.index / 16) (d.index % 16)
  else if d.code = 0x0B then (s.chan (d.index / 16) (d.index % 16)).ambFailed
  else false

/-- A fault-manager change waits for the apply instant (R560). -/
def State.queueChange (s : State) (c : FmChange) : State :=
  (s.modFlt (fun f => { f with changes := f.changes ++ [c] })).showPend

/-- The effect of a fault that has become permanent (R555, R560). -/
def State.permanentEffect (s : State) (d : Detect) : State :=
  if d.code = 0x01 ∨ d.code = 0x02 then s.queueChange (.retire d.index d.sub 0)
  else if d.code = 0x03 then s.modCrate d.index (fun g => { g with
      tieReq := if g.tieReq.contains d.sub then g.tieReq else g.tieReq ++ [d.sub] })
  else if d.kind = 3 then s.failChg d.index
  else if d.kind = 4 then s.failMon d.index
  else if d.code = 0x07 then s.modHk (fun x => { x with chkPerm := true })
  else if d.code = 0x09 then s.queueChange (.remove (d.index / 16) (d.index % 16) 3)
  else if d.code = 0x0B then s.queueChange (.ambient d.index)
  else s

/-- The kind of a detection (R555): the plausibility mismatches of R85, R108, R180, R188, R461 and R516, whose log codes are 0x03 to
0x08, are one kind; every other code is a kind of its own. -/
def Detect.strikeKind (d : Detect) : Nat := if 3 ≤ d.code ∧ d.code ≤ 8 then 3 else d.code

/-- The index under which the strikes of one kind and element are held (R556). -/
def Detect.key (d : Detect) : Nat := d.strikeKind * 2 ^ 20 + d.elem

/-- The times, in ms, of the strikes held for a kind and element, the older first (R556). -/
def State.heldStrikes (s : State) (d : Detect) : List Nat := sparseGet (fun _ => []) s.flt.strikes d.key

/-- The present time of the fabric domain's 1 ms tick (R556). -/
def State.nowMs (s : State) : Nat := s.clk.ftick / 100000

/-- The element is in its probation (R558). -/
def State.onProbation (s : State) (d : Detect) : Bool :=
  let t := sparseGet (fun _ => 0) s.flt.probation d.elem
  s.flag FLT_CFG_prob && t != 0 && decide (s.clk.ftick + 1 ≤ t + s.rd FLT_CFG_prob * 100000000)

/-- This detection makes its fault permanent (R555, R556, R558). -/
def State.isPermanent (s : State) (d : Detect) : Bool :=
  d.code == 0x02 || s.onProbation d ||
  (match s.heldStrikes d with
  | [t, _] => decide (s.nowMs ≤ t + s.rd FLT_CFG_win_s * 1000)
  | _ => false)

/-- The strikes that stay held when a detection is not permanent (R556): at most two, the later ones. -/
def keepStrikes (held : List Nat) (now : Nat) : List Nat :=
  match held with
  | [_, b] => [b, now]
  | l => l ++ [now]

/-- FAULT_PERMANENT (R555 to R558): counted, logged with class 1, the element's strikes of every kind cleared. -/
def State.makePermanent (s : State) (d : Detect) : State :=
  (((s.bump FLT_STAT_perm_ct 1).log d.code 1 d.kind d.index d.sub ((s.heldStrikes d).length + 1) d.value).modFlt (fun f => { f with
    strikes := f.strikes.filter (fun p => p.1 % 2 ^ 20 != d.elem) })).permanentEffect d

/-- A detection reaches the fault manager (R556 to R559). -/
def State.strike (s : State) (d : Detect) : State :=
  let s1 := s.modFlt (fun f => { f with detq := eraseFirst (fun x => decide (x = d)) f.detq })
  if s.elemOut d then s1
  else
    let s2 := s1.bump FLT_STAT_strike_ct 1
    if s.isPermanent d then s2.makePermanent d
    else
      let held := keepStrikes (s.heldStrikes d) s.nowMs
      (s2.modFlt (fun f => { f with strikes := sparseSet (fun _ => []) f.strikes d.key held })).log d.code 0 d.kind d.index d.sub
        held.length d.value

/-- STRIKE (R556). -/
def execStrike (s : State) : Host.Outcome State Fault Refusal :=
  .next (match nextDetect s.flt.detq with
  | none => s
  | some d => doIf s.fabricLive (fun t => t.strike d) s)

/-- FLT_CTL.clear (R582): every entry and the total; boot is kept. -/
def State.clearLog (s : State) : State :=
  ((s.modFlt (fun f => { f with log := [] })).put FLT_LOG_STAT_count 0).setReg FLT_LOG_TOTAL 0

/-- A write of FLT_CTL (R582). -/
def State.fltCtlWrite (s : State) (q : Src) (value : Word) : State :=
  if q = .pf0 then s.refuseWrite q FLT_CTL else doIf (FLT_CTL_clear.get value != 0) (fun t => t.clearLog) s

/-- FLT_LOG_CLEAR (R582). -/
def execFltLogClear (q : Src) (value : Word) (s : State) : Host.Outcome State Fault Refusal :=
  .next (doIf (s.serves q) (fun t => t.fltCtlWrite q value) s)

/-- A write of FLT_LOG_SEL selects an entry for its requester (R573). -/
def State.logSelect (s : State) (q : Src) (value : Word) : State :=
  s.modReq q (fun r => { r with logSel := FLT_LOG_SEL_idx.get value })

/-- FLT_LOG_SELECT (R573). -/
def execFltLogSelect (q : Src) (value : Word) (s : State) : Host.Outcome State Fault Refusal :=
  .next (doIf (s.serves q) (fun t => t.logSelect q value) s)

/-- A read of FLT_LOG_DATA0 latches the four words of the selected entry (R573, R581). -/
def State.logRead (s : State) (q : Src) : State :=
  s.modReq q (fun r => { r.got (wordAt (s.selectedLog q) 0) with log := s.selectedLog q })

/-- FLT_LOG_READ (R573). -/
def execFltLogRead (q : Src) (s : State) : Host.Outcome State Fault Refusal :=
  .next (doIf (s.serves q) (fun t => t.logRead q) s)

end Sys2Proof.Machine
end

