-- ==== Sys2Proof/Machine/Housekeeping.lean ====
section
/-! DEFINITION. The housekeeping converter bank (spec/11_housekeeping_converters.md, and the readback of privileged DACs,
spec/05 R187, R188): the sequencer, conversions, curves, sensor check, urgent requests, restarts and reset. -/

namespace Sys2Proof.Machine

/-! ## Entry words (R484) -/

/-- Mode of an entry word (R449). -/
def entMode (w : Word) : Nat := (HK_ENT_mode 0).get w
/-- The mode is a resistance mode. -/
def entRes (w : Word) : Bool := decide (4 ≤ entMode w) && decide (entMode w ≤ 6)
/-- Swap (R453). -/
def entSwap (w : Word) : Bool := (HK_ENT_swap 0).get w == 1
/-- Curve (R458). -/
def entCurve (w : Word) : Nat := (HK_ENT_curve 0).get w
/-- Settling periods S (R455). -/
def entSettle (w : Word) : Nat := if (HK_ENT_filt 0).get w = 1 then 3 else 1
/-- Valid conversions per state (R457). -/
def entReps (w : Word) : Nat := (HK_ENT_rep 0).get w + 1

/-- The reference resistor that the entry names, in 0.01 Ω (R449, R474). -/
def State.rref (s : State) (w : Word) : Nat := if (HK_ENT_ref 0).get w = 1 then s.rd HK_RREF1_rref else s.rd HK_RREF0_rref

/-- What the stream is set to for an entry (R455); ITEMP ignores the pins (R449). -/
def setupOf (w : Word) (swapped : Bool) : HkSetup :=
  { pins := if entMode w = 7 then 0 else bitsOf w 0 8
    mode := entMode w, ref := (HK_ENT_ref 0).get w, per := (HK_ENT_per 0).get w, filt := (HK_ENT_filt 0).get w
    exc := (HK_ENT_exc 0).get w, swapped := swapped }

/-! ## Pins, sources, codes (R449, R450, R453) -/

/-- The direction of the current is reversed: the second state of RES2 and RES4 (R453). -/
def entReversed (w : Word) (second : Bool) : Bool := second && (entMode w == 4 || entMode w == 6)

/-- One pin that a source drives: HKA pin, source B or A, current out of the pin or into it. -/
structure HkDrive where
  pin : Nat
  srcB : Bool
  out : Bool
  deriving DecidableEq, Repr

/-- The pins that the sources drive in the first or the second state of a pass (R449, R453). -/
def hkDrives (w : Word) (second : Bool) : List HkDrive :=
  let p := (HK_ENT_p 0).get w
  let n := (HK_ENT_n 0).get w
  if entMode w = 4 then [⟨p, second, !second⟩, ⟨n, second, second⟩]
  else if entMode w = 5 then [⟨p, second, true⟩, ⟨n, !second, true⟩]
  else if entMode w = 6 then [⟨p - 1, second, !second⟩, ⟨n + 1, second, second⟩]
  else []

/-- Currents of the excitation levels in µA (R450). -/
def excLevel (n : Nat) : Nat := [0, 10, 25, 50, 100, 250, 500, 1000].getD n 0

/-- The current in µA out of a pin while the excitation stands at a level (R449, R450, R452). -/
def hkCurrent (w : Word) (second : Bool) (exc pin : Nat) : Int :=
  ((hkDrives w second).map (fun d => if d.pin = pin then (if d.out then (excLevel exc : Int) else -(excLevel exc : Int)) else 0)).sum

/-- The square wave of a sensor check out of a pin, in µA, n converter clocks after the check's start: 10 µA at 12.288 MHz / 4,096,
out of HKAp and into HKAn (R462). DESIGN CHOICE (log 121): it begins so, and its second half-period flows the other way. -/
def hkToneCurrent (w : Word) (n pin : Nat) : Int :=
  let i : Int := if n % 4096 < 2048 then 10 else -10
  (if pin = (HK_ENT_p 0).get w then i else 0) - (if pin = (HK_ENT_n 0).get w then i else 0)

/-- The current in µA out of HKA pin in a state, in a sensor check n converter clocks after its start (R452, R462); none flows
between passes. -/
def State.hkPinCurrent (s : State) (n pin : Nat) : Int :=
  if s.rd HK_STAT_state = 2 then hkToneCurrent s.hk.entry n pin else hkCurrent s.hk.entry s.hk.second s.hk.exc pin

/-- The voltage in pV between the sense inputs as the converters take it: HKAp − HKAn, exchanged at the converter input in the
second state of a voltage mode; the on-die sensor's in ITEMP (R449, R453). -/
def hkSense (c : HkConv) (w : Word) (second : Bool) : Int :=
  let v := c.pins.getD ((HK_ENT_p 0).get w) 0 - c.pins.getD ((HK_ENT_n 0).get w) 0
  if entMode w = 7 then c.die else if second ∧ !entRes w then -v else v

/-- The code of a voltage in pV at a converter's input (R449), limited to ±(2²³ − 1). -/
def hkCode (mode : Nat) (v vref : Int) : Int :=
  clampInt (-8388607) 8388607 (
    if mode = 1 then roundDiv (2 ^ 23 * v) 1250000000000
    else if mode = 2 then roundDiv (2 ^ 23 * 8 * v) 1250000000000
    else if mode = 3 then roundDiv (2 ^ 23 * 64 * v) 1250000000000
    else if mode = 7 then Config.itempCode v
    else if vref = 0 then Config.hkNoRef v
    else roundDiv (2 ^ 19 * v * vref.sign) vref.natAbs)

/-- HC0's code of a conversion (R447, R449). -/
def hkCode0 (c : HkConv) (w : Word) (second : Bool) : Int := hkCode (entMode w) (hkSense c w second + c.off0) c.vref

/-- HC2's code of a conversion (R447, R461). -/
def hkCode2 (c : HkConv) (w : Word) (second : Bool) : Int := hkCode (entMode w) (hkSense c w second + c.off2) c.vref

/-! ## Combinations that are excluded -/

/-- A combination of fields that R449, R450, R453, R458 and the register section exclude. -/
def entBad (w : Word) : Bool :=
  let m := entMode w
  let exc := (HK_ENT_exc 0).get w
  let p := (HK_ENT_p 0).get w
  let n := (HK_ENT_n 0).get w
  let c := entCurve w
  (entRes w && exc == 0) || ((m == 1 || m == 2 || m == 3 || m == 7) && exc != 0)
  || (m == 7 && entSwap w) || (m == 6 && (p == 0 || n == 15)) || (m != 7 && p == n)
  || ((c == 1 || c == 2 || c == 3) && !entRes w) || ((c == 4 || c == 5 || c == 6) && m != 3)
  || (c == 7 && (m == 0 || m == 7))

/-- A point's signed coordinate. -/
def State.utabX (s : State) (i : Nat) : Int := s.rdInt (HK_UTAB_x i)
/-- See `State.utabX`. -/
def State.utabY (s : State) (i : Nat) : Int := s.rdInt (HK_UTAB_y i)

/-- An entry uses curve 7 while the points do not ascend strictly (R460). -/
def State.utabBad (s : State) : Bool :=
  (List.range 32).any (fun j => entCurve (s.reg (HK_ENT j)) == 7)
  && !(List.range 31).all (fun i => decide (s.utabX i < s.utabX (i + 1)))

/-! ## Values (R458 to R460) -/

/-- A value of R458: the number, or the lower of the two that stand next to it; over, under; whether it may be valid; whether the
number stands as it is (PRESUMED, notes/assumptions/13.md). -/
structure HkValue where
  v : Int
  high : Bool
  low : Bool
  ok : Bool
  exact : Bool
  deriving DecidableEq, Repr

/-- 10³¹ times the ratio R/R₀ of IEC 60751 at u in 0.0001 °C: A = 3.9083e-3, B = −5.775e-7, C = −4.183e-12 (R458; PRESUMED,
notes/assumptions/13.md: the manual's example gives A and B, the standard C). -/
def ptRatio (u : Int) : Int :=
  10 ^ 31 + 39083 * 10 ^ 20 * u - 5775 * 10 ^ 13 * u ^ 2 - (if u < 0 then 4183 * (u - 1000000) * u ^ 3 else 0)

/-- The number of 0.001 °C at or below a quantity stands for it: the quantity is that number, or it is positive and less than half a
unit above, where the worked example of the chapter (41.0004 °C reads 41,000) leaves no rounding a choice; at half a unit and
above, and below 0, the manual leaves which of the two neighbours stands (log 13). -/
def standsFor (t : Int) (isExact belowHalf : Bool) : Bool := isExact || (decide (0 ≤ t) && belowHalf)

/-- The largest t = lo + Σ 2^i, i < n, with P t, where P holds below a bound. -/
def searchUp (p : Int → Bool) (lo : Int) (n : Nat) : Int :=
  (List.range n).foldr (fun i t => if p (t + 2 ^ i) then t + 2 ^ i else t) lo

/-- Curves 1 and 2: t from R = D × R_ref / 2¹⁹ (R458). r0 in Ω, rref in 0.01 Ω. -/
def ptValue (d : Int) (rref r0 : Nat) : HkValue :=
  let x : Int := d * rref * 10 ^ 31
  let y (u : Int) : Int := ptRatio u * r0 * 100 * 2 ^ 19
  if x < y (-2000000) then ⟨-200000, false, true, true, true⟩
  else if y 8500000 < x then ⟨850000, true, false, true, true⟩
  else
    let t := searchUp (fun u => decide (u ≤ 850000) && decide (y (10 * u) ≤ x)) (-200000) 21
    ⟨t, false, false, true, standsFor t (decide (y (10 * t) = x)) (decide (x < y (10 * t + 5)))⟩

/-- 2¹²⁸ times 2·artanh(p/q), |p/q| ≤ 1/3. -/
def artanh2 (p q : Int) : Int :=
  let z := p * 2 ^ 128 / q
  let z2 := z * z / 2 ^ 128
  2 * ((List.range 48).foldl (fun (st : Int × Int) i => (st.1 + st.2 / (2 * i + 1), st.2 * z2 / 2 ^ 128)) (0, z)).1

/-- 2¹²⁸ times ln(n/d). -/
def lnFixed (n d : Nat) : Int :=
  let k : Int := (Nat.log2 n : Int) - Nat.log2 d
  let n1 : Int := n * 2 ^ (-k).toNat
  let d1 : Int := d * 2 ^ k.toNat
  artanh2 (n1 - d1) (n1 + d1) + k * artanh2 1 3

/-- Curve 3: the NTC's β equation (R458). A resistance at or below 0 stands above the range. -/
def ntcValue (d : Int) (rref beta : Nat) : HkValue :=
  if d * rref ≤ 0 then ⟨150000, true, false, true, true⟩
  else
    let l := lnFixed (d.toNat * rref) (10 ^ 6 * 2 ^ 19)
    let num : Int := 29815000 * beta * 2 ^ 128
    let den : Int := 100 * beta * 2 ^ 128 + 29815 * l
    if den ≤ 0 then ⟨150000, true, false, true, true⟩
    else
      let t := num / den - 273150
      let exact := decide (num % den = 0)
      if t < -55000 then ⟨-55000, false, true, true, true⟩
      else if 150000 < t ∨ (t = 150000 ∧ !exact) then ⟨150000, true, false, true, true⟩
      else ⟨t, false, false, true, standsFor t exact (decide (2 * (num % den) < den))⟩

/-- Curve 7: the user table (R460). -/
def State.utabValue (s : State) (d : Int) : HkValue :=
  let x := d / 256
  if x < s.utabX 0 then ⟨100 * s.utabY 0, false, true, true, true⟩
  else if s.utabX 31 < x then ⟨100 * s.utabY 31, true, false, true, true⟩
  else
    let i := ((List.range 31).filter (fun i => decide (s.utabX i ≤ x))).length - 1
    let w := (s.utabX (i + 1) - s.utabX i).toNat
    ⟨roundDiv (100 * (s.utabY i * w + (x - s.utabX i) * (s.utabY (i + 1) - s.utabY i))) w, false, false, true, true⟩

/-- HK_CFG and HK_TONE in force (R466). -/
def State.hkCfg (s : State) (f : FRef) : Nat := f.get s.hk.cfg
/-- A limit of the tone check in force (R466). -/
def State.hkLimit (s : State) (f : FRef) : Nat := f.get s.hk.limits

/-- A conversion boundary: the values of HK_CFG and HK_TONE take effect (R466). -/
def State.hkBoundary (s : State) : State := s.modHk (fun h => { h with cfg := s.reg HK_CFG, limits := s.reg HK_TONE })

/-- The cold-junction temperature in 0.001 °C (R459). -/
def State.coldJunction (s : State) : Int :=
  let o : Int := s.hkCfg HK_CFG_cjo
  s.rdInt HK_ITEMP_temp + 100 * (if o < 128 then o else o - 256)

/-- The range of curve 4, 5 or 6 in 0.001 °C: types K, J and N (R458; PRESUMED, log 12: IEC 60584's inverse functions). -/
def tcRange (curve : Nat) : Int × Int :=
  if curve = 4 then (-200000, 1372000) else if curve = 5 then (-210000, 1200000) else (-200000, 1300000)

/-! The coefficients of the reference functions of IEC 60584-1 in mV, from t⁰ up: (m, p) stands for m × 10⁻ᵖ (R458, R459; PRESUMED,
log 12: the manual names the standard and prints none of them). -/

/-- Type K below 0 °C. -/
def tcKLow : List (Int × Nat) :=
  [(0, 0), (394501280250, 13), (236223735980, 16), (-328589067840, 18), (-499048287770, 20), (-675090591730, 22),
    (-574103274280, 24), (-310888728940, 26), (-104516093650, 28), (-198892668780, 31), (-163226974860, 34)]

/-- Type K from 0 °C up, beside its exponential term. -/
def tcKHigh : List (Int × Nat) :=
  [(-176004136860, 13), (389212049750, 13), (185587700320, 16), (-994575928740, 19), (318409457190, 21),
    (-560728448890, 24), (560750590590, 27), (-320207200030, 30), (971511471520, 34), (-121047212750, 37)]

/-- Type J below 760 °C. -/
def tcJLow : List (Int × Nat) :=
  [(0, 0), (503811878150, 13), (304758369300, 16), (-856810657200, 19), (132281952950, 21), (-170529583370, 24),
    (209480906970, 27), (-125383953360, 30), (156317256970, 34)]

/-- Type J from 760 °C up. -/
def tcJHigh : List (Int × Nat) :=
  [(296456256810, 9), (-149761277860, 11), (317871039240, 14), (-318476867010, 17), (157208190040, 20),
    (-306913690560, 24)]

/-- Type N below 0 °C. -/
def tcNLow : List (Int × Nat) :=
  [(0, 0), (261591059620, 13), (109574842280, 16), (-938411115540, 19), (-464120397590, 22), (-263033577160, 23),
    (-226534380030, 25), (-760893007910, 28), (-934196678350, 31)]

/-- Type N from 0 °C up. -/
def tcNHigh : List (Int × Nat) :=
  [(0, 0), (259293946010, 13), (157101418800, 16), (438256272370, 19), (-252611697940, 21), (643118193390, 24),
    (-100634715190, 26), (997453389920, 30), (-608632456070, 33), (208492293390, 36), (-306821961510, 40)]

/-- 10⁸⁰ times a polynomial in mV at u in 0.0001 °C. -/
def tcPoly (l : List (Int × Nat)) (u : Int) : Int :=
  (l.zipIdx.map (fun q => q.1.1 * 10 ^ (40 - q.1.2) * u ^ q.2 * 10 ^ (40 - 4 * q.2))).sum

/-- 2¹²⁸ times exp(−y), y = num/10¹⁸ at or above 0: the series at y/256, squared eight times. -/
def expNeg (num : Nat) : Nat :=
  let y : Int := num * 2 ^ 120 / 10 ^ 18
  let e := ((List.range 60).foldl (fun (st : Int × Int) i => (st.1 + st.2, -(st.2 * y / ((i + 1) * 2 ^ 128)))) (0, 2 ^ 128)).1
  (List.range 8).foldl (fun x _ => x * x / 2 ^ 128) e.toNat

/-- 10⁸⁰ times type K's term a₀ exp(a₁ (t − a₂)²) in mV: a₀ = 0.1185976, a₁ = −0.1183432e-3, a₂ = 126.9686; u in 0.0001 °C. -/
def tcExp (u : Int) : Int := 1185976 * 10 ^ 73 * expNeg (1183432 * ((u - 1269686) ^ 2).toNat) / 2 ^ 128

/-- The reference function E of curve 4, 5 or 6 (types K, J and N) at u in 0.0001 °C, in units of 1.25 V · 2⁻⁶⁴ (R459). -/
def tcEmf (curve : Nat) (u : Int) : Int :=
  let e :=
    if curve = 4 then (if u < 0 then tcPoly tcKLow u else tcPoly tcKHigh u + tcExp u)
    else if curve = 5 then (if u < 7600000 then tcPoly tcJLow u else tcPoly tcJHigh u)
    else if u < 0 then tcPoly tcNLow u else tcPoly tcNHigh u
  e * 2 ^ 66 / (5 * 10 ^ 83)

/-- Curves 4 to 6 (R458, R459): V_tc = D × 1.25 V/(64 × 2²³), E(T_cj) added, and the sum inverted: the largest t whose E does not
exceed it. -/
def tcValue (curve : Nat) (d tcj : Int) (ok : Bool) : HkValue :=
  let x := d * 2 ^ 35 + tcEmf curve (10 * tcj)
  let lo := (tcRange curve).1
  let hi := (tcRange curve).2
  if x < tcEmf curve (10 * lo) then ⟨lo, false, true, ok, true⟩
  else if tcEmf curve (10 * hi) < x then ⟨hi, true, false, ok, true⟩
  else
    let t := searchUp (fun u => decide (u ≤ hi) && decide (tcEmf curve (10 * u) ≤ x)) lo 21
    ⟨t, false, false, ok, standsFor t (decide (tcEmf curve (10 * t) = x)) (decide (x < tcEmf curve (10 * t + 5)))⟩

/-- The value of code D through the entry's curve (R458). -/
def State.hkValue (s : State) (w : Word) (d : Int) : HkValue :=
  let r : HkValue := match entCurve w with
    | 0 => ⟨if entMode w = 7 then Config.itempCurve d else d, false, false, true, true⟩
    | 1 => ptValue d (s.rref w) 100
    | 2 => ptValue d (s.rref w) 1000
    | 3 => ntcValue d (s.rref w) (s.rd HK_NTC_beta)
    | 7 => s.utabValue d
    | c => tcValue c d s.coldJunction (s.flag HK_ITEMP_valid)
  { r with
    high := r.high || decide (d = 8388607)
    low := r.low || decide (d = -8388607) || (entRes w && decide (d < -65536)) }

/-! ## The sequencer (R464) -/

/-- The bank's ready bit. -/
def State.hkReady (s : State) : Bool := s.fabricLive && s.flag GLB_READY_hk

/-- Show the sequencer's state and entry (R480). -/
def State.hkShow (s : State) (st entry : Nat) : State := (s.put HK_STAT_state st).put HK_STAT_entry entry

/-- HK_URG.fill: convert requests held (R482). -/
def State.hkFill (s : State) : Nat := s.hk.urgQ.countP (fun u => match u with
  | .convert _ _ => true
  | .readback _ => false)

/-- Replace the held requests. -/
def State.hkSetQ (s : State) (q : List Urgent) : State :=
  let s1 := s.modHk (fun h => { h with urgQ := q })
  s1.put HK_URG_fill s1.hkFill

/-- A conversion starts a pass: the settle count is set where the stream changes, which switching excitation on always does
(R455, R464). -/
def State.hkBegin (s : State) : State :=
  let w := s.hk.entry
  let st := setupOf w false
  (s.hkBoundary.modHk (fun h => { h with
    setup := some st
    settle := if entRes w || h.setup != some st then entSettle w else h.settle
    valid := 0, second := false, sum1 := 0, sum2 := 0, excErr := false, chkMm := false, inConv := true })).put
      HK_STAT_state (if s.hk.urgNow.isSome then 5 else 4)

/-- The running pass is abandoned: the sources switch off (R452, R466). -/
def State.hkAbandon (s : State) : State := s.modHk (fun h => { h with exc := 0, second := false, inConv := false })

/-- The lead time of a pass, with its excitation on (R452, R464); a delay of 0 takes no time. -/
def State.hkLead (s : State) : State :=
  let w := s.hk.entry
  let s1 := (s.modHk (fun h => { h with
    exc := if entRes w then (HK_ENT_exc 0).get w else 0
    second := false
    inConv := false })).put HK_STAT_state (if s.hk.urgNow.isSome then 5 else 3)
  if (HK_ENT_delay 0).get w = 0 then s1.hkBegin else s1

/-- A tone check is due for an entry (R462). -/
def State.hkToneDue (s : State) (w : Word) : Bool :=
  (HK_ENT_tone 0).get w == 1 && entMode w != 0 && entMode w != 7 && s.rd HK_STAT_pass % s.hkCfg HK_CFG_tone_every == 0

/-- SELECT: entry j runs (R464, R466). -/
def State.hkSelect (s : State) (j : Nat) : State :=
  let w := s.reg (HK_ENT j)
  let s1 := (s.modHk (fun h => { h with cur := j, entry := w, exc := 0, dirty := false, inConv := false })).hkShow 1 j
  if s1.hkToneDue w then s1.put HK_STAT_state 2 else s1.hkLead

/-- No entry runs (R464). -/
def State.hkIdle (s : State) : State :=
  (s.hkBoundary.modHk (fun h => { h with exc := 0, inConv := false, dirty := false })).put HK_STAT_state 0

/-- The first entry with a mode other than 0 from entry j on, else from entry 0 on; the pass counter increments at the wrap
(R464). -/
def State.hkFrom (s : State) (j : Nat) : State :=
  let l := (List.range 32).filter (fun i => entMode (s.reg (HK_ENT i)) != 0)
  match l.find? (fun i => decide (j ≤ i)) with
  | some i => s.hkSelect i
  | none => match l with
    | [] => s.hkIdle
    | i :: _ => (s.wrapInc HK_STAT_pass).hkSelect i

/-- A restart (R469). -/
def State.hkRestart (s : State) : State :=
  let s1 := (s.modHk (fun h => { h with restart := false, exc := 0 })).wrapInc HK_STAT_pass
  if (List.range 32).all (fun i => entMode (s1.reg (HK_ENT i)) == 0) then s1.hkIdle else s1.hkFrom 0

/-- The sequencer goes on where R464 leads it. -/
def State.hkResume (s : State) (r : HkResume) : State :=
  match r with
  | .idle => s.hkFrom 0
  | .next => s.hkFrom (s.hk.cur + 1)
  | .select => s.hkFrom s.hk.cur
  | .lead => if s.hk.dirty then s.hkFrom s.hk.cur else (s.put HK_STAT_entry s.hk.cur).hkLead
  | .conv => if s.hk.dirty then s.hkFrom s.hk.cur
      else (s.modHk (fun h => { h with inConv := true })).hkShow 4 s.hk.cur

/-! ## Urgent requests (R467, R468) -/

/-- The code that a privileged DAC holds: DACs 0 to 31 the targets, then low and high of monitors 0 to 3 (R187). -/
def State.dacCode (s : State) (d : Nat) : Nat :=
  if d < 32 then (s.chg d).target
  else if d % 2 = 0 then s.rd (WMN_LIM_lo ((d - 32) / 2)) else s.rd (WMN_LIM_hi ((d - 32) / 2))

/-- A convert request ends with its result written (R387, R471). -/
def State.hkConverted (s : State) (k : Nat) (cmd : Option CmdRef) : State :=
  match cmd with
  | some ref => s.complete ref stOK ((s.reg (HK_RES_V k)).setWidth 64) (s.reg (HK_RES_S k))
  | none => ((s.putB HK_CNOW_busy false).putB HK_CNOW_done true).putB HIF_IRQ_STAT_hk true

/-- The urgent requests have all run (R464, R469): a held restart, else the sequencer resumes; a pass that a convert request
interrupted runs again from SELECT. -/
def State.hkUrgentEnd (s : State) : State :=
  let h := s.hk
  let s1 := s.modHk (fun g => { g with urgNow := none, urgConverted := false })
  if h.restart then s1.hkRestart
  else if h.urgConverted ∧ (h.resume = .lead ∨ h.resume = .conv) then s1.hkResume .select
  else s1.hkResume h.resume

/-- The next held request runs (R468). A convert request of an entry whose mode has become 0 ends without a pass. -/
def State.hkRun : List Urgent → State → State
  | [], s => s.hkUrgentEnd
  | .readback d :: q, s => ((s.hkSetQ q).modHk (fun h => { h with
      urgNow := some (.readback d), rbCode := s.dacCode d, rbChanged := false, inConv := false })).put HK_STAT_state 5
  | .convert k cmd :: q, s =>
    let w := s.reg (HK_ENT k)
    if entMode w = 0 then
      hkRun q (match cmd with
        | some ref => (s.hkSetQ q).fail ref stBAD_VALUE
        | none => (s.hkSetQ q).hkConverted k none)
    else
      (((s.hkSetQ q).modHk (fun h => { h with
        urgNow := some (.convert k cmd), urgConverted := true, entry := w, exc := 0, dirty := false })).hkShow 5 k).hkLead

/-- A step of the sequencer has ended and leads to r: held requests run first, then a held restart (R464, R469). -/
def State.hkThen (s : State) (r : HkResume) : State :=
  if s.hk.urgQ ≠ [] then State.hkRun s.hk.urgQ (s.modHk (fun h => { h with resume := r }))
  else if s.hk.restart then s.hkRestart
  else s.hkResume r

/-- An urgent request arrives: in IDLE and LEAD it runs at once, elsewhere it is held (R464, R468). -/
def State.hkRequest (s : State) (u : Urgent) : State :=
  let s1 := s.hkSetQ (s.hk.urgQ ++ [u])
  if s.rd HK_STAT_state = 0 then s1.hkThen .idle
  else if s.rd HK_STAT_state = 3 then s1.hkThen .lead
  else s1

/-- HK_CONVERT (R387, R467, R552). -/
def execHkConvert (ref : CmdRef) (s : State) : Host.Outcome State Fault Refusal :=
  .next (match s.waits ref 0x08 with
  | none => s
  | some c => doIf s.fabricReady (fun t =>
      let k := bitsOf (wordAt c.words 1) 0 5
      if !t.hkReady then t.fail ref stNOT_READY
      else if 4 ≤ t.hkFill then t.fail ref stBUSY
      else if entMode (t.reg (HK_ENT k)) = 0 then t.fail ref stBAD_VALUE
      else (t.openCmd ref).hkRequest (.convert k (some ref))) s)

/-- A write of HK_CNOW (R471, R479): done and aborted are cleared by 1, entry is written, go requests a pass. A BAR0 write
of go is refused. A go while the request before is busy, or that the bank cannot hold, requests nothing. -/
def State.cnowWrite (s : State) (q : Src) (value : Word) : State :=
  let go := HK_CNOW_go.get value == 1
  if go ∧ q ≠ .spi then s.refuseWrite q HK_CNOW
  else
    let s1 := (doIf (HK_CNOW_aborted.get value == 1) (fun t => t.putB HK_CNOW_aborted false)
      (doIf (HK_CNOW_done.get value == 1) (fun t => t.putB HK_CNOW_done false) s)).put HK_CNOW_entry (HK_CNOW_entry.get value)
    let k := HK_CNOW_entry.get value
    doIf (go && s1.hkReady && !s1.flag HK_CNOW_busy && decide (s1.hkFill < 4) && entMode (s1.reg (HK_ENT k)) != 0)
      (fun t => (t.putB HK_CNOW_busy true).hkRequest (.convert k none)) s1

/-- HK_CNOW_GO (R471). -/
def execHkCnowGo (q : Src) (value : Word) (s : State) : Host.Outcome State Fault Refusal :=
  .next (doIf (s.serves q) (fun t => t.cnowWrite q value) s)

/-! ## Conversions (R449 to R457, R461, R465) -/

/-- The excitation current V_ref/R_ref differs from its level by more than 10 % (R451), against its direction too; vref in
pV, rref in 0.01 Ω, level in µA. -/
def excWrong (vref : Int) (rref level : Nat) : Bool :=
  decide (level * rref * 10 ^ 4 < 10 * (vref - level * rref * 10 ^ 4).natAbs)

/-- The combined code of a pass (R457). -/
def combine (w : Word) (d1 d2 : Int) : Int :=
  if !entSwap w then d1 else if entRes w then roundDiv (d1 + d2) 2 else roundDiv (d1 - d2) 2

/-- Both result words of entry j are written in one clock (R456, R458, R465): an invalid conversion gives its settle
count. The settings strobe follows where a crate tracks the entry (R591). -/
def State.hkWrite (s : State) (j : Nat) (urg : Bool) (d : Int) (settle : Nat) : State :=
  let w := s.hk.entry
  let r := s.hkValue w d
  let mm := s.hk.chkMm || (s.hk.chkPerm && (HK_ENT_chk 0).get w == 1)
  let verdict := sparseGet (fun _ => 0) s.hk.verdicts j
  let v := if !r.exact ∧ Config.curveRoundsUp s.free then r.v + 1 else r.v
  let s1 := (if r.exact then s else s.skipFree 1).setReg (HK_RES_V j) (BitVec.ofInt 32 v)
  (s1.setReg (HK_RES_S j) (w32 (2 ^ 31 * (settle == 0 && !s.hk.excErr && !mm && verdict == 0 && r.ok).toNat + 2 ^ 30 * r.high.toNat
    + 2 ^ 29 * r.low.toNat + 2 ^ 28 * urg.toNat + 2 ^ 27 * mm.toNat + 2 ^ 26 * s.hk.excErr.toNat + 2 ^ 24 * verdict
    + 2 ^ 22 * settle + s.rd HK_STAT_pass))).resultWritten j

/-- The pass has its conversions: excitation off, the result is written, and the sequencer goes on (R452, R464). -/
def State.hkPassEnd (s : State) : State :=
  let h := s.hk
  let w := h.entry
  let d := combine w (roundDiv h.sum1 (entReps w)) (roundDiv h.sum2 (entReps w))
  match h.urgNow with
  | some (.convert k cmd) =>
    let s1 := (((s.hkWrite k true d 0).modHk (fun g => { g with exc := 0, inConv := false })).bump HK_URG_cnv_ct 1).hkConverted k cmd
    State.hkRun s1.hk.urgQ s1
  | _ => ((s.hkWrite h.cur false d 0).modHk (fun g => { g with exc := 0, inConv := false })).hkThen .next

/-- A valid conversion enters its state's sum (R457). -/
def State.hkTake (s : State) (d : Int) : State :=
  s.modHk (fun h => if h.second then { h with sum2 := h.sum2 + d, valid := h.valid + 1 }
    else { h with sum1 := h.sum1 + d, valid := h.valid + 1 })

/-- HK_CHECK_MISMATCH (R461). -/
def State.hkCheck (s : State) (j : Nat) (c : HkConv) : State :=
  doIf ((HK_ENT_chk 0).get s.hk.entry == 1 && decide (s.rd HK_CHK_tol <
      (hkCode0 c s.hk.entry s.hk.second - hkCode2 c s.hk.entry s.hk.second).natAbs))
    (fun t => ((t.modHk (fun h => { h with chkMm := true })).bump HK_ERR_chk_mm 1).detect 0x07 0 0 j 0 elemCheck) s

/-- The next conversion of the pass follows: in the table's pass held requests come between. -/
def State.hkGoOn (s : State) : State := if s.hk.urgNow.isSome then s else s.hkThen .conv

/-- A valid conversion has ended (R456, R457, R464). -/
def State.hkValid (s : State) (j : Nat) (c : HkConv) (d : Int) : State :=
  let s1 := (s.hkCheck j c).hkTake d
  let w := s1.hk.entry
  if s1.hk.valid < entReps w then s1.hkGoOn
  else if entSwap w ∧ !s1.hk.second then
    (s1.modHk (fun h => { h with
      second := true, valid := 0, settle := entSettle w, setup := some (setupOf w true) })).hkGoOn
  else s1.hkPassEnd

/-- An invalid conversion has ended (R456): with wall = 1 it is written. -/
def State.hkInvalid (s : State) (j : Nat) (d : Int) : State :=
  let h := s.hk
  let w := h.entry
  let urg := h.urgNow.isSome
  let v := if h.second then combine w (roundDiv h.sum1 (entReps w)) d else d
  ((doIf ((HK_ENT_wall 0).get w == 1) (fun t => t.hkWrite j urg v h.settle) s).modHk (fun g => { g with
    settle := g.settle - 1 })).hkGoOn

/-- A conversion of the running pass ends (R448, R451, R456, R466): a pass whose entry has changed is abandoned. -/
def State.hkConversion (s : State) (c : HkConv) : State :=
  let h := s.hk
  let w := h.entry
  let j := match h.urgNow with
    | some (.convert k _) => k
    | _ => h.cur
  if h.dirty then
    match h.urgNow with
    | some u => State.hkRun (u :: h.urgQ) s.hkAbandon
    | none => s.hkAbandon.hkThen .select
  else
    let d := hkCode0 c w h.second
    let s1 := doIf (entRes w && excWrong (if entReversed w h.second then -c.vref else c.vref) (s.rref w) (excLevel h.exc))
      (fun t => (t.modHk (fun g => { g with excErr := true })).bump HK_ERR_exc_err 1) s
    if h.settle = 0 then s1.hkValid j c d else s1.hkInvalid j d

/-- The running pass converts. -/
def State.hkConverts (s : State) : Bool :=
  s.hkReady && s.hk.inConv && (s.rd HK_STAT_state == 4 || (s.rd HK_STAT_state == 5 && s.hk.urgNow.isSome))

/-- HK_CONVERSION_END (R448). -/
def execHkConversionEnd (conv : HkConv) (s : State) : Host.Outcome State Fault Refusal :=
  .next (doIf s.hkConverts (fun t => t.hkBoundary.hkConversion conv) s)

/-- A pass is in its lead time. -/
def State.hkLeads (s : State) : Bool :=
  s.hkReady && (s.rd HK_STAT_state == 3
    || (s.rd HK_STAT_state == 5 && !s.hk.inConv && (match s.hk.urgNow with
      | some (.convert _ _) => true
      | _ => false)))

/-- HK_LEAD_END (R464). -/
def execHkLeadEnd (s : State) : Host.Outcome State Fault Refusal :=
  .next (doIf s.hkLeads (fun t =>
    if t.hk.dirty then
      match t.hk.urgNow with
      | some u => State.hkRun (u :: t.hk.urgQ) t.hkAbandon
      | none => t.hkAbandon.hkFrom t.hk.cur
    else t.hkBegin) s)

/-- The verdict of a tone check on an impedance in 0.01 Ω (R462): 0 OK, 1 OPEN, 2 SHORT, 3 HIGH_R. -/
def State.hkVerdict (s : State) (w : Word) (z : Nat) : Nat :=
  if 1024 * z < s.hkLimit HK_TONE_zs * s.rref w then 2
  else if s.hkLimit HK_TONE_zo * s.rref w < 64 * z then 1
  else if s.hkLimit HK_TONE_zh * s.rref w < 64 * z then 3
  else 0

/-- The status word that a verdict other than OK writes (R461, R463). -/
def State.hkToneStatus (s : State) (v : Nat) : Word :=
  w32 (2 ^ 27 * (s.hk.chkPerm && (HK_ENT_chk 0).get s.hk.entry == 1).toNat + 2 ^ 24 * v + s.rd HK_STAT_pass)

/-- HK_TONE_CHECK_END (R462, R463): a verdict other than OK writes the status word and ends the pass. -/
def execHkToneCheckEnd (z : Nat) (s : State) : Host.Outcome State Fault Refusal :=
  .next (doIf (s.hkReady && s.rd HK_STAT_state == 2) (fun t =>
    let j := t.hk.cur
    let v := t.hkVerdict t.hk.entry z
    if t.hk.dirty then t.hkThen .select
    else
      let t1 := t.modHk (fun h => { h with verdicts := sparseSet (fun _ => 0) h.verdicts j v })
      if v = 0 then t1.hkThen .lead
      else ((t1.setReg (HK_RES_S j) (t1.hkToneStatus v)).resultWritten j).hkThen .next) s)

/-- ITEMP_CONVERSION_END (R447, R472): HC3's first conversion settles. -/
def execItempConversionEnd (temp : Int) (s : State) : Host.Outcome State Fault Refusal :=
  .next (doIf (s.fabricLive && (s.flag GLB_READY_hk || s.hk.resetting)) (fun t =>
    ((t.putInt HK_ITEMP_temp temp).putB HK_ITEMP_valid (decide (1 ≤ t.hk.itempRun))).modHk (fun h => { h with
      itempRun := min 2 (h.itempRun + 1) })) s)

/-! ## Readback of privileged DACs (R187, R188) -/

/-- DAC_READBACK_DUE (R187): the bank holds one readback. -/
def execDacReadbackDue (s : State) : Host.Outcome State Fault Refusal :=
  .next (doIf (s.hkReady && s.flag CHG_RB_CFG_rb_en && !(s.hk.urgNow.toList ++ s.hk.urgQ).any (fun u => match u with
      | .readback _ => true
      | .convert _ _ => false))
    (fun t => t.hkRequest (.readback t.hk.rbNext)) s)

/-- The readback of a DAC that held a code passes (R188): result D × 1,250 / 2²³ mV. -/
def readbackPasses (d : Int) (code : Nat) : Bool :=
  decide ((125000 * d - 100 * 2 ^ 23 * code).natAbs ≤ (200 + code) * 2 ^ 23)

/-- The result in 0.5 mV (R200). DESIGN CHOICE (log 123): the nearest code, halves up, and 0 for a result below 0. -/
def readbackMeas (d : Int) : Nat := (clampInt 0 4095 (roundDiv (2500 * d) (2 ^ 23))).toNat

/-- A readback of DAC n is judged (R188, R200, R205). -/
def State.judgeReadback (s : State) (n code : Nat) (d : Int) : State :=
  let bad := !readbackPasses d code
  let s1 := if n < 32 then
      (((s.putB (CHG_RB_valid n) true).putB (CHG_RB_mism n) bad).put (CHG_RB_code n) code).put (CHG_RB_meas n) (readbackMeas d)
    else s.putB (WMN_STAT_rb_mism ((n - 32) / 2)) bad
  (doIf bad (fun t => if n < 32 then t.detect 0x06 3 n 0 code (elemChg n)
    else t.detect 0x06 4 ((n - 32) / 2) 0 code (elemMon ((n - 32) / 2))) s1).modHk (fun h => { h with rbNext := (n + 1) % 40 })

/-- DAC_READBACK_DONE (R188): a result whose DAC changed during the conversion is discarded. -/
def execDacReadbackDone (code : Int) (s : State) : Host.Outcome State Fault Refusal :=
  .next (match s.hk.urgNow with
  | some (.readback n) => doIf (s.hkReady && s.rd HK_STAT_state == 5) (fun t =>
      let t0 := t.hkBoundary
      let t1 := (if t0.hk.rbChanged then t0 else t0.judgeReadback n t0.hk.rbCode (clampInt (-8388607) 8388607 code)).bump
        HK_URG_rb_ct 1
      State.hkRun t1.hk.urgQ t1) s
  | _ => s)

/-! ## Restart, reset, power-up (R469 to R472) -/

/-- A restart request (R469): held to the end of what runs; further ones merge. -/
def State.hkAskRestart (s : State) : State :=
  if !s.hkReady then s
  else if s.hk.restart then s.bump HK_ERR_sync_merge 1
  else
    let s1 := s.modHk (fun h => { h with restart := true })
    if s.rd HK_STAT_state = 0 ∨ s.rd HK_STAT_state = 3 then s1.hkRestart else s1

/-- HK_RESTART (R469). -/
def execHkRestart (q : Src) (s : State) : Host.Outcome State Fault Refusal :=
  .next (doIf (s.serves q) (fun t => t.hkAskRestart) s)

/-- HK_SYNC_EDGE (R466, R469). -/
def execHkSyncEdge (falling : Bool) (s : State) : Host.Outcome State Fault Refusal :=
  .next (doIf (s.fabricLive && s.hkCfg HK_CFG_sync_en == 1 && s.hkCfg HK_CFG_sync_pol == falling.toNat) (fun t => t.hkAskRestart) s)

/-- A request is aborted by a reset of the bank (R470). -/
def State.hkAbort (s : State) (u : Urgent) : State :=
  let s1 := s.bump HK_ERR_abort 1
  match u with
  | .readback _ => s1
  | .convert _ (some ref) => s1.fail ref stABORTED
  | .convert _ none => ((s1.putB HK_CNOW_busy false).putB HK_CNOW_aborted true).putB HIF_IRQ_STAT_hk true

/-- The bank's reset (R470). -/
def State.hkResetBank (s : State) : State :=
  let s1 := forAll (s.hk.urgNow.toList ++ s.hk.urgQ) (fun t u => t.hkAbort u) s
  let s2 := (forAll (List.range 32) (fun t j => (t.setReg (HK_RES_V j) 0).setReg (HK_RES_S j) 0) s1).settingsStrobe
  (((s2.modHk (fun h => { Hk.reset with
    chkPerm := h.chkPerm, itempRun := h.itempRun, rbNext := h.rbNext, resetting := true })).setReg HK_STAT 0).put HK_URG_fill
      0).setReady GLB_READY_hk false

/-- HK_RESET (R470). -/
def execHkReset (q : Src) (s : State) : Host.Outcome State Fault Refusal :=
  .next (doIf (s.serves q) (fun t => t.hkResetBank) s)

/-- The ready bit is set and the sequencer starts at entry 0 (R464, R470, R472). -/
def State.hkStart (s : State) : State :=
  ((s.hkBoundary.modHk (fun h => { h with resetting := false })).setReady GLB_READY_hk true).hkFrom 0

/-- HK_RESET_DONE (R470). -/
def execHkResetDone (s : State) : Host.Outcome State Fault Refusal :=
  .next (doIf (s.fabricLive && s.hk.resetting) (fun t => t.hkStart) s)

/-- HOUSEKEEPING_READY (R472). -/
def execHousekeepingReady (s : State) : Host.Outcome State Fault Refusal :=
  .next (doIf (s.fabricReady && !s.flag GLB_READY_hk && !s.hk.resetting) (fun t => t.hkStart) s)

/-- A transaction has written the bank's registers (R466): a change of the running pass's entry abandons that pass at the
next conversion boundary; a sequencer that was IDLE starts. -/
def State.hkApply (s : State) (before : State) : State :=
  if !s.hkReady then s
  else if s.rd HK_STAT_state = 0 then s.hkBoundary.hkThen .idle
  else doIf (s.reg (HK_ENT (s.rd HK_STAT_entry)) != before.reg (HK_ENT (s.rd HK_STAT_entry)))
    (fun t => t.modHk (fun h => { h with dirty := true })) s

/-! ## Reading results (R471) -/

/-- A read of HK_RES_V[j] latches HK_RES_S[j] for the requester. -/
def State.hkResultRead (s : State) (q : Src) (j : Nat) : State :=
  s.modReq q (fun r => { r.got (s.reg (HK_RES_V j)) with hkS := r.hkS.set j (s.reg (HK_RES_S j)) })

/-- HK_RESULT_READ (R471). -/
def execHkResultRead (q : Src) (j : HkId) (s : State) : Host.Outcome State Fault Refusal :=
  .next (doIf (s.serves q) (fun t => t.hkResultRead q j) s)

end Sys2Proof.Machine
end

