-- ==== Sys2Proof/Machine/Links.lean ====
section
/-! DEFINITION. Function-level reset and PERST_N (spec/09_host_interface.md R394, R395). -/

namespace Sys2Proof.Machine

/-- Records that wait for the rings of function f are dropped and counted in the fault log (R394, R571 code 0x40). -/
def State.dropRecs (s : State) (f : Func) : State :=
  let mine (c : Rec) := decide (ringOwner c.ring = f)
  let n := s.host.allRecs.countP mine
  let s1 := s.modHost (fun h => h.setRecs (h.allRecs.filter (fun c => !mine c)))
  doIf (decide (0 < n)) (fun t => t.log 0x40 4 6 (fnIdx f) 0 0 (min n (2 ^ 23 - 1))) s1

/-- The rings of function f are DISABLED, without write-back; their contexts leave the cache; their generation stays
(R371, R375, R394). -/
def State.dropRings (s : State) (f : Func) : State :=
  let mine (n : Nat) := decide (ringOwner (BitVec.ofNat 16 n) = f)
  (forAll ((s.rings.map (fun p => p.1)).filter mine) (fun t n =>
    t.modRing (BitVec.ofNat 16 n) (fun g => { Ring.reset with gen := g.gen })) s).modHost (fun h => { h with
      lru := h.lru.filter (fun n => !mine n) })

/-- The requests, commands, transactions and snapshots of function f are abandoned (R394). -/
def State.dropCmds (s : State) (f : Func) : State :=
  (s.modHost (fun h => { h with
    reads := h.reads.filter (fun r => decide (r.func ≠ f))
    readQ := h.readQ.filter (fun r => decide (r.func ≠ f))
    cmds := h.cmds.filter (fun c => decide (c.func ≠ f))
    cpls := h.cpls.filter (fun c => decide (ringOwner c.cplRing ≠ f))
    txns := h.txns.filter (fun x => x.cmd.all (fun r => decide (ringOwner r.ring ≠ f)))
    snaps := h.snaps.filter (fun x => decide (ringOwner x.cmd.ring ≠ f))
    irqs := h.irqs.filter (fun p => decide (p.1 ≠ f)) })).put GLB_TXN_STAT_pending
      (s.host.txns.countP (fun x => x.cmd.all (fun r => decide (ringOwner r.ring ≠ f))))

/-- Configuration space, MSI-X table and the HIF_FN_ registers of function f are reset; the count of function-level resets
stays (R394, R406, R611). -/
def State.resetFn (s : State) (f : Func) : State :=
  let i := fnIdx f
  let n := s.rd (HIF_FN_STAT_flr_ct i)
  ((((((s.setFn f Fn.reset).setReg (HIF_FN_CFG i) (resetWord (HIF_FN_CFG i))).setReg (HIF_CTX_BASE_LO i) 0).setReg
    (HIF_CTX_BASE_HI i) 0).setReg (HIF_FN_ERR i) 0).setReg (HIF_FN_STAT i) 0).put (HIF_FN_STAT_flr_ct i) n

/-- A dwell no longer reports to its START. -/
def Buf.orphan (b : Buf) : Buf := { b with dwell := b.dwell.map (fun d => { d with start := none }) }

/-- PF0's dumps, captures and dwells lose their command: dumps and captures end at the next dwell boundary (R394). -/
def State.orphanCrates (s : State) : State :=
  let s1 := forAll (s.crates.map (fun p => p.1)) (fun t c => t.modCrate c (fun g => { g with
    dump := g.dump.map (fun d => { d with cmd := none })
    raw := g.raw.map (fun r => { r with cmd := none })
    descQ := g.descQ.map (fun d => { d with start := none })
    cur := g.cur.map (fun d => { d with start := none }) })) s
  forAll (s.chans.map (fun p => p.1)) (fun t g => t.modChan (g / 16) (g % 16) (fun h => { h with
    buf0 := h.buf0.orphan, buf1 := h.buf1.orphan })) s1

/-- The shot engine goes to STOPPING for a reset of PF0: nobody waits for it, a swap that waits is abandoned (R394). -/
def State.stopForReset (s : State) : State :=
  let s1 := (s.modShot (fun h => { h with swap := none, startCmd := none })).showShot
  if s1.engineIdle || s1.engine = 4 then s1 else s1.stopEngine

/-- The effects of R394 on what function f has under way; the safety configuration unlock is cleared by a reset of PF1,
whoever unlocked (R522). -/
def State.functionReset (s : State) (f : Func) : State :=
  let s1 := ((((s.dropRings f).dropRecs f).dropCmds f).resetFn f).modShot (fun h => { h with
    stopCmds := h.stopCmds.filter (fun r => decide (ringOwner r.ring ≠ f)) })
  match f with
  | .pf0 => s1.orphanCrates.stopForReset
  | .pf1 => (s1.modSaf (fun x => { x with keyBy := none })).abandonConfig

/-- FUNCTION_LEVEL_RESET (R394, R406). -/
def execFunctionLevelReset (f : Func) (s : State) : Host.Outcome State Fault Refusal :=
  .next (doIf (s.fabricReady && s.flag HIF_LINK_up)
    (fun t => (t.bump (HIF_FN_STAT_flr_ct (fnIdx f)) 1).functionReset f) s)

/-- PERST_N (R395, R611): both functions, the link, and their registers. -/
def State.linkReset (s : State) : State :=
  let s1 := (s.functionReset .pf0).functionReset .pf1
  ((s1.setReg HIF_LINK 0).setReg (HIF_FN_STAT 0) 0).setReg (HIF_FN_STAT 1) 0 |>.setReady GLB_READY_link false

/-- PERST_N (R395). -/
def execPerstN (s : State) : Host.Outcome State Fault Refusal := .next (doIf s.running (fun t => t.linkReset) s)

end Sys2Proof.Machine
end

