-- ==== Sys2Proof/Machine/Txn.lean ====
section
/-! DEFINITION. Configuration transactions, the apply instant, snapshots (spec/10_records_and_coherent_state.md R429 to R443;
spec/09 R401; spec/13 R552, R560). -/

namespace Sys2Proof.Machine

/-! ## Fields of a register by access type (R606) -/

/-- The bits of one field. -/
def FieldDesc.bits (f : FieldDesc) : Word := BitVec.ofNat 32 ((2 ^ f.width - 1) * 2 ^ f.lsb)

/-- The bits of a register's fields of the given access types. -/
def RegDesc.bitsOf (d : RegDesc) (p : Access → Bool) : Word :=
  (d.fields.filter (fun f => p f.access)).foldl (fun w f => w ||| f.bits) 0

/-- The RW bits. -/
def RegDesc.rwBits (d : RegDesc) : Word := d.bitsOf (fun a => a == .rw)
/-- The RW1C bits. -/
def RegDesc.w1cBits (d : RegDesc) : Word := d.bitsOf (fun a => a == .rw1c)
/-- The RC bits. -/
def RegDesc.rcBits (d : RegDesc) : Word := d.bitsOf (fun a => a == .rc)
/-- The bits that a transaction's mask may cover (R430, check 3). -/
def RegDesc.writeBits (d : RegDesc) : Word := d.bitsOf (fun a => a == .rw || a == .rw1c || a == .wo)

/-- The value of a field in a register's word. -/
def FieldDesc.get (f : FieldDesc) (w : Word) : Nat := w.toNat / 2 ^ f.lsb % 2 ^ f.width

/-- Every RW field that a mask touches lies within its stated range. -/
def RegDesc.inRange (d : RegDesc) (mask w : Word) : Bool :=
  d.fields.all (fun f => !(f.access == .rw) || f.bits &&& mask == 0 || (decide (f.lo ≤ f.get w) && decide (f.get w ≤ f.hi)))

/-! ## The state that would result (R431) -/

/-- What the entries of a transaction make of the bits of one register that act: WO and RW1C bits start at 0. -/
def actWord (ws : List TxnWrite) (a : Nat) : Word :=
  ws.foldl (fun v w => if w.addr = a then (v &&& ~~~ w.mask) ||| (w.val &&& w.mask) else v) 0

/-- One entry's effect on the RW bits of its register. -/
def State.txnWrite (s : State) (w : TxnWrite) : State :=
  match regDescAt w.addr with
  | none => s
  | some d => s.setReg w.addr ((s.reg w.addr &&& ~~~ (w.mask &&& d.rwBits)) ||| (w.val &&& w.mask &&& d.rwBits))

/-- The state with every entry's effect on RW fields, in list order. -/
def State.txnResult (s : State) (ws : List TxnWrite) : State := forAll ws (fun t w => t.txnWrite w) s

/-! ## Checks (R430) -/

/-- A register that a transaction may name (R430 check 1, R608, R610): a run-time register, CRT_FE, or a status register
that every source may write. -/
def RegDesc.txnMay (d : RegDesc) : Bool :=
  match d.cls with
  | .runTime => true
  | .status => d.writers == .any
  | .setup => decide (d.base = CRT_FE 0)
  | .command => false
  | .locked => false

/-- Check 1 fails for an entry. -/
def txnBadAddress (w : TxnWrite) : Bool :=
  !w.addrOk || (match regDescAt w.addr with
    | none => true
    | some d => !d.txnMay)

/-- Check 2 fails for an entry. -/
def txnDenied (q : Src) (w : TxnWrite) : Bool :=
  match regDescAt w.addr with
  | none => false
  | some d => decide (q = .pf0) && !(d.writers == .any)

/-- The register belongs to a family with the given base and stride. -/
def inFamily (a base stride n : Nat) : Option Nat :=
  if base ≤ a ∧ (a - base) % stride = 0 ∧ (a - base) / stride < n then some ((a - base) / stride) else none

/-- Ranges that chapters state beside their tables, in the resulting state: charge levels (R177), permit (R186), the limits
of spec/08, entries of the housekeeping table (spec/11). -/
def State.specialBad (s : State) (w : TxnWrite) : Bool :=
  let code (f : FRef) := decide (s.rd EYE_SPD_CFG_code_max < s.rd f)
  (match inFamily w.addr (CHG_LVL_A 0) 0x40 32 with
    | some e => code (CHG_LVL_A_lvl_lo e) || code (CHG_LVL_A_lvl_mid e) || code (CHG_LVL_A_lvl_hi e)
    | none => false)
  || (match inFamily w.addr (CHG_LVL_B 0) 0x40 32 with
    | some e => code (CHG_LVL_B_lvl_lo e) || code (CHG_LVL_B_lvl_mid e) || code (CHG_LVL_B_lvl_hi e)
    | none => false)
  || (match inFamily w.addr (CHG_LVL_C 0) 0x40 32 with
    | some e => code (CHG_LVL_C_lvl_lo e) || code (CHG_LVL_C_lvl_mid e)
    | none => false)
  || (match inFamily w.addr (WMN_CFG 0) 0x10 16 with
    | some m => decide (4 ≤ m) && s.flag (WMN_CFG_permit m)
    | none => false)
  || (decide (w.addr = SEP_LIM) && decide (s.rd SEP_LIM_flag_on < s.rd SEP_LIM_flag_off))
  || (decide (w.addr = STR_WIN_LVL) && decide (s.rd STR_WIN_LVL_dirty ≤ s.rd STR_WIN_LVL_clean))
  || (match inFamily w.addr (HK_ENT 0) 4 32 with
    | some j => entBad (s.reg (HK_ENT j))
    | none => false)

/-- Check 3 fails for an entry, in the resulting state. -/
def State.txnBadValue (s : State) (w : TxnWrite) : Bool :=
  match regDescAt w.addr with
  | none => true
  | some d => w.w3 != 0 || w.mask &&& ~~~ d.writeBits != 0 || !d.inRange w.mask (s.reg w.addr) || s.specialBad w

/-- Check 4 fails (R149, R234). -/
def State.pinConflict (s : State) : Bool :=
  (s.flag (EMT_CFG_en 31) && s.rd SHT_SYNC_mode != 0) || (s.flag MOT_IDX_CFG_idx_en && s.flag MOT_FSYNC_en)

/-- The crate whose CRT_FE an entry writes is not quiesced (R31, check 7). -/
def State.crateBusy (s : State) (w : TxnWrite) : Bool :=
  match inFamily w.addr (CRT_FE 0) 0x1000 32 with
  | some c => !s.quiesced c
  | none => false

/-- The first entry that satisfies p, by its place in the list. -/
def firstIdx (p : TxnWrite → Bool) (ws : List TxnWrite) : Option Nat := ws.findIdx? p

/-- The list index of a check of the whole list (R428). -/
def wholeList : Nat := 0xFFFFFFFF

/-- Checks 4 to 7 on the state that would result (R432): the status and the index that TXN_REJECT gives. -/
def State.lateChecks (s : State) (ws : List TxnWrite) : Option (Nat × Nat) :=
  let r := s.txnResult ws
  let es := r.shot.bank0 ++ r.shot.bank1
  if r.pinConflict then some (stPIN_CONFLICT, wholeList)
  else if es.any (fun e => r.mapConflict e) then some (stMAP_CONFLICT, wholeList)
  else if es.any (fun e => r.spacingBad e) then some (stSPACING_CONFLICT, wholeList)
  else (firstIdx s.crateBusy ws).map (fun i => (stCRATE_BUSY, i))

/-- Checks 1 to 7 at acceptance (R430). -/
def State.txnChecks (s : State) (q : Src) (ws : List TxnWrite) : Option (Nat × Nat) :=
  match firstIdx txnBadAddress ws with
  | some i => some (stBAD_ADDRESS, i)
  | none =>
    match firstIdx (txnDenied q) ws with
    | some i => some (stACCESS_DENIED, i)
    | none =>
      match firstIdx (s.txnResult ws).txnBadValue ws with
      | some i => some (stBAD_VALUE, i)
      | none => if (s.txnResult ws).utabBad then some (stBAD_VALUE, wholeList) else s.lateChecks ws

/-! ## Accepting, rejecting, applying (R430 to R436) -/

/-- GLB_TXN_STAT.pending (R436). -/
def State.showTxns (s : State) : State := s.put GLB_TXN_STAT_pending s.host.txns.length

/-- The tag and CMD ring of EPOCH and TXN_REJECT (R428). -/
def Txn.tagRing (x : Txn) : Nat × Nat :=
  match x.cmd with
  | none => (0, 0)
  | some ref => (x.tag.toNat, ref.ring.toNat)

/-- The transaction ends with a status: its command completes, or the SPI port shows it (R390, R401). -/
def State.txnEnd (s : State) (x : Txn) (status shots : Nat) : State :=
  let s1 := s.put GLB_TXN_STAT_last_status status
  match x.cmd with
  | some ref => s1.complete ref status (BitVec.ofNat 64 shots) s1.epoch
  | none => (((s1.put HIF_STXN_STAT_epoch s1.epoch.toNat).putB HIF_STXN_STAT_busy false).put HIF_STXN_STAT_status status).putB
      HIF_IRQ_STAT_stxn true

/-- TXN_REJECT (R430). -/
def State.txnReject (s : State) (x : Txn) (status idx : Nat) : State :=
  (((s.bump GLB_TXN_STAT_rej_ct 1).post 0x11 0 0
    [w32 status, w32 (x.tagRing.1 + 65536 * x.tagRing.2), w32 idx]).txnEnd x status 0)

/-- A transaction is validated and becomes pending, or is rejected (R430, R433). -/
def State.submit (s : State) (x : Txn) : State :=
  match s.txnChecks x.src x.writes with
  | some (st, i) => s.txnReject x st i
  | none =>
    let s1 := match x.cmd with
      | some ref => s.openCmd ref
      | none => s
    (s1.modHost (fun h => { h with txns := h.txns ++ [x] })).showTxns

/-- The entries of a CFG_TXN's list, four words each (R381). -/
def txnEntries : Nat → List Word → List TxnWrite
  | 0, _ => []
  | n + 1, ws => ⟨bitsOf (wordAt ws 0) 2 18 * 4, wordAt ws 1, wordAt ws 2, wordAt ws 0 &&& 0xFFF00003 == 0, wordAt ws 3⟩
      :: txnEntries n (ws.drop 4)

/-- CFG_TXN (R430). -/
def execCfgTxn (ref : CmdRef) (s : State) : Host.Outcome State Fault Refusal :=
  .next (match s.waits ref 0x04 with
  | none => s
  | some c => doIf s.fabricReady (fun t =>
      let p := bitsOf (wordAt c.words 1) 16 2
      t.submit ⟨match c.func with
        | .pf0 => .pf0
        | .pf1 => .pf1, some ref, (wordAt c.words 0).extractLsb' 16 16, p, (wordAt c.words 2).extractLsb' 0 16, p == 0,
        txnEntries (bitsOf (wordAt c.words 1) 0 9) c.list⟩) s)

/-- The staged entries of the SPI port (R401, R418). -/
def State.stagedEntries (s : State) : List TxnWrite :=
  (List.range (s.rd HIF_STXN_CTL_count)).map (fun i =>
    ⟨4 * s.rd (HIF_STXN_ADDR_addr i), s.reg (HIF_STXN_MASK i), s.reg (HIF_STXN_VAL i), true, 0⟩)

/-- A write of HIF_STXN_GO (R401, R417): only from SPI; any write is refused while busy; a count or apply point out of range is
BAD_VALUE. -/
def State.stxnGo (s : State) (q : Src) (value : Word) : State :=
  if q ≠ .spi ∨ s.flag HIF_STXN_STAT_busy then s.refuseWrite q HIF_STXN_GO
  else if HIF_STXN_GO_go.get value = 0 then s
  else
    let n := s.rd HIF_STXN_CTL_count
    let p := s.rd HIF_STXN_CTL_apply
    let x : Txn := ⟨.spi, none, 0, p, BitVec.ofNat 16 (s.rd HIF_STXN_CTL_round), p == 0, s.stagedEntries⟩
    if n = 0 ∨ 256 < n ∨ 2 < p then
      (((s.put HIF_STXN_STAT_epoch s.epoch.toNat).put HIF_STXN_STAT_status stBAD_VALUE).putB HIF_IRQ_STAT_stxn true)
    else (s.putB HIF_STXN_STAT_busy true).submit x

/-- SPI_TXN_GO (R401). -/
def execSpiTxnGo (q : Src) (value : Word) (s : State) : Host.Outcome State Fault Refusal :=
  .next (doIf (s.serves q) (fun t => t.stxnGo q value) s)

/-! ## The apply instant (R434, R435) -/

/-- GLB_PIN follows the fields that assign the shared balls (R616). -/
def State.showPins (s : State) : State :=
  ((((s.put GLB_PIN_idx (if s.flag MOT_IDX_CFG_idx_en then 1 else if s.flag MOT_FSYNC_en then 2 else 0)).put GLB_PIN_trg31
    (if s.flag (EMT_CFG_en 31) then 1 else if s.rd SHT_SYNC_mode ≠ 0 then 2 else 0)).putB GLB_PIN_serr
      (s.flag MOT_SERR_CFG_out_en)).putB GLB_PIN_hk_sync (s.flag HK_CFG_sync_en))

/-- What a transaction's writes start beside the values they set (R431): bits cleared by 1, dither seed and hop, the spare's
release, restoration requests, a change of front-end mode. -/
def State.txnActs (s : State) (before : State) (ws : List TxnWrite) : State :=
  let named (a : Nat) := ws.any (fun w => decide (w.addr = a) && w.mask != 0)
  let s1 := forAll (ws.map (fun w => w.addr)).dedup (fun t a => match regDescAt a with
    | none => t
    | some d => if d.w1cBits = 0 then t else t.setReg a (t.reg a &&& ~~~ (actWord ws a &&& d.w1cBits))) s
  let s2 := doIf (named SHT_DITHER_SEED) (fun t => t.modShot (fun h => { h with seedPending := true })) s1
  let s3 := doIf (SHT_DITHER_CTL_hop.get (actWord ws SHT_DITHER_CTL) == 1)
    (fun t => t.modShot (fun h => { h with hopPending := true })) s2
  let s4 := forAll crateNos (fun t c =>
    let r := actWord ws (CRT_RESTORE c)
    doIf (r != 0) (fun u => u.requestRestore c (BitVec.ofNat 16 ((CRT_RESTORE_chan c).get r)) ((CRT_RESTORE_spare c).get r == 1))
      (doIf ((CRT_SPR_CTL_clr_suspect c).get (actWord ws (CRT_SPR_CTL c)) == 1) (fun u => u.clearSuspect c)
        (doIf (t.rd (CRT_FE_fe_mode c) != before.rd (CRT_FE_fe_mode c)) (fun u => u.modeChange c) t))) s3
  let s5 := doIf (s4.rd STR_WIN_every != before.rd STR_WIN_every)
    (fun t => forAll crateNos (fun u c => u.modCrate c (fun g => { g with commitNo := 0 })) t) s4
  let s6 := forAll (List.range 4) (fun t m =>
    (t.dacChanges (32 + 2 * m) (t.rd (WMN_LIM_lo m) != before.rd (WMN_LIM_lo m))).dacChanges (33 + 2 * m)
      (t.rd (WMN_LIM_hi m) != before.rd (WMN_LIM_hi m))) s5
  doIf (ws.any (fun w => decide (0x8000 ≤ w.addr) && decide (w.addr < 0x9000))) (fun t => t.hkApply before) s6

/-- The cause that EPOCH gives for a requester (R428). -/
def txnCause (q : Src) : Nat := srcIdx q

/-- TXN_APPLY (R431, R432, R435): a due transaction is checked again, then applied or rejected. -/
def State.txnApply (s : State) (x : Txn) : State :=
  let s1 := (s.modHost (fun h => { h with txns := eraseFirst (fun y => decide (y = x)) h.txns })).showTxns
  match s1.lateChecks x.writes with
  | some (st, i) => s1.txnReject x st i
  | none =>
    (((s1.txnResult x.writes).txnActs s1 x.writes).bumpEpoch (txnCause x.src) x.tagRing.1 x.tagRing.2 x.writes.length).txnEnd x
      stOK x.writes.length

/-- One change of the fault manager takes effect (R560 to R567). -/
def State.fmChange (s : State) (f : FmChange) : State :=
  match f with
  | .retire c i why => s.retire c i why
  | .remove c k why => s.removeChan c k why
  | .ambient g => s.failAmbient (g / 16) (g % 16)
  | .tie c r => s.applyTie c r
  | .restore c => s.applyRestore c

/-- FAULT_MANAGER_CHANGE (R435, R560): the changes that wait, in the order in which they came, and one step of the epoch. -/
def State.fmChanges (s : State) : State :=
  match s.flt.changes with
  | [] => s
  | l => ((forAll l (fun t f => t.fmChange f) (s.modFlt (fun f => { f with changes := [] }))).showPend).bumpEpoch 4 0 0 l.length

/-- Something falls due at the apply instant (R433, R435). -/
def State.applyDue (s : State) : Bool :=
  s.host.txns.any (fun x => x.due) || s.shot.swap.any (fun w => w.due) || !s.flt.changes.isEmpty

/-- What the apply tick does to every block as a dwell boundary for the host's values; what the device itself changes at dwell
boundaries waits for a boundary of its crate's own (R22, R434). -/
def State.applyTick (s : State) : State :=
  (forAll (List.range 16) (fun t m => t.applyMon m) (forAll emitterNos (fun t e => t.applyChg e)
    (forAll crateNos (fun t c => t.applyCrate c) s))).showPins

/-- The apply instant (R434, R435). -/
def State.applyInstant (s : State) : State :=
  let s1 := s.dueSwap
  ((forAll (s1.host.txns.filter (fun x => x.due)) (fun t x => t.txnApply x) s1).fmChanges).applyTick

/-- APPLY_INSTANT (R434): it is held while a snapshot waits for its strobe (R442); log 45. -/
def execApplyInstant (s : State) : Host.Outcome State Fault Refusal :=
  .next (doIf (s.fabricLive && s.timingLive && s.noEntry && s.host.snaps.isEmpty && s.applyDue) (fun t => t.applyInstant) s)

/-! ## Snapshots (R381, R429, R442, R443) -/

/-- An entry of a SNAPSHOT's list is a register (R381, R443). -/
def snapAddrOk (w : Word) : Bool := w &&& 0xFFF00003 == 0 && (regDescAt w.toNat).isSome

/-- SNAPSHOT (R442): the list is validated and a strobe requested. -/
def execSnapshot (ref : CmdRef) (s : State) : Host.Outcome State Fault Refusal :=
  .next (match s.waits ref 0x05 with
  | none => s
  | some c => doIf s.fabricReady (fun t =>
      if c.list.all snapAddrOk then
        (t.openCmd ref).modHost (fun h => { h with
          snaps := h.snaps ++ [⟨ref, (wordAt c.words 2).extractLsb' 0 16, c.list.map (fun w => w.toNat)⟩] })
      else t.fail ref stBAD_VALUE) s)

/-- The words of a snapshot record (R429): a header of 32 bytes, then the registers, padded to a whole unit. -/
def State.snapWords (s : State) (q : Src) (tag : Nat) (addrs : List Nat) : List Word :=
  let time := if s.timingLive then s.clk.devTime else s.clk.devCopy
  padWords (8 * (1 + (addrs.length + 7) / 8))
    ([w32 (addrs.length + 65536 * tag), s.epoch, loWord time, hiWord time,
      w32 (s.rd MOT_ROUND_round + 65536 * s.angle16.toNat), w32 (s.angleValid.toNat + 2 * (!s.timingLive).toNat), 0, 0]
    ++ addrs.map (fun a => s.shadowOf q a))

/-- The strobe of the oldest snapshot that waits: the record is built and the command completes (R390, R442, R443). -/
def State.strobe (s : State) (x : Snap) : State :=
  let s1 := s.modHost (fun h => { h with snaps := h.snaps.tail })
  match s1.cmd? x.cmd with
  | none => s1
  | some c =>
    let q : Src := match c.func with
      | .pf0 => .pf0
      | .pf1 => .pf1
    (s1.pushRec ⟨c.func, x.ring, 5, s1.snapWords q (bitsOf (wordAt c.words 0) 16 16) x.addrs, some x.cmd, 0, false⟩).complete
      x.cmd stOK (BitVec.ofNat 64 x.addrs.length) 0

/-- SNAPSHOT_STROBE (R442): at the end of the running entry, at once where none runs, and in the fabric domain while the
timing PLL is not ready. -/
def execSnapshotStrobe (s : State) : Host.Outcome State Fault Refusal :=
  .next (match s.host.snaps with
  | [] => s
  | x :: _ => doIf (s.fabricReady && (s.noEntry || !s.timingLive)) (fun t => t.strobe x) s)

end Sys2Proof.Machine
end

