-- ==== Sys2Proof/Machine/Registers.lean ====
section
/-! DEFINITION. Accesses of the register fabric (spec/15 R604 to R619; spec/09 R358, R396 to R402; spec/10 R440, R441): direct
writes by class and source, reads with their latches, the histogram diagnostic window, SPI frames, the event queue. -/

namespace Sys2Proof.Machine

/-! ## Direct writes (R606 to R610) -/

/-- A source may write the register directly (R610): the block of function f is that function's and SPI's (R404). -/
def RegDesc.mayWrite (d : RegDesc) (q : Src) (a : Nat) : Bool :=
  match d.writers with
  | .any => true
  | .pf1Spi => decide (q ≠ .pf0)
  | .spiOnly => decide (q = .spi)
  | .owner => decide (q = .spi) || decide (srcIdx q = (a - 0x2000) / 0x100)

/-- Every ring of function f is DISABLED (R609). -/
def State.ringsIdle (s : State) (f : Func) : Bool :=
  s.rings.all (fun p => decide (p.2.st = .disabled) || decide (ringOwner (BitVec.ofNat 16 p.1) ≠ f))

/-- The requester that unlocked the safety block (R520, R528). -/
def State.unlockedBy (s : State) (q : Src) : Bool :=
  s.inConfig && s.rd SAF_UNLOCK_owner == (match q with
    | .pf0 => 3
    | .pf1 => 1
    | .spi => 2)

/-- A setup register's block is idle (R609). -/
def State.setupIdle (s : State) (q : Src) (a : Nat) : Bool :=
  if isSafCfg a then s.unlockedBy q
  else if a = SHT_CFG ∨ a = MOT_CFG then s.engineIdle
  else if 0x2000 ≤ a ∧ a < 0x2100 then s.ringsIdle .pf0
  else if 0x2100 ≤ a ∧ a < 0x2200 then s.ringsIdle .pf1
  else match inFamily a (CRT_FE 0) 0x1000 32 with
  | some c => s.quiesced c
  | none => true

/-- RW fields take the written value; the others stay (R608). -/
def RegDesc.merge (d : RegDesc) (old value : Word) : Word := (old &&& ~~~ d.rwBits) ||| (value &&& d.rwBits)

/-- An accepted write of a setup register (R608): of the safety block into its shadow set (R520). -/
def State.setupWrite (s : State) (q : Src) (d : RegDesc) (a : Nat) (value : Word) : State :=
  if isSafCfg a then
    s.modSaf (fun x => { x with shadow := sparseSet resetWord x.shadow a (d.merge (sparseGet resetWord x.shadow a) value) })
  else if a = MOT_CFG then s.motCfgWrite q value
  else match inFamily a (CRT_FE 0) 0x1000 32 with
  | some c => s.feModeWrite q c value
  | none => s.setReg a (d.merge (s.reg a) value)

/-- The bits of a write of SAF_UNLOCK (R520, R522, R528). -/
def State.unlockWrite (s : State) (q : Src) (value : Word) : State :=
  doIf (SAF_UNLOCK_key.get value != 0) (fun t => t.unlockKey q (SAF_UNLOCK_key.get value))
    (doIf (SAF_UNLOCK_abort.get value == 1) (fun t => t.abandonConfig) s)

/-- The bits of a write of SAF_CMD (R532). -/
def State.safCmdWrite (s : State) (value : Word) : State :=
  doIf (SAF_CMD_clr_len.get value == 1) (fun t => t.clearLen)
    (doIf (SAF_CMD_clr_zone.get value == 1) (fun t => t.clearZones)
      ((s.askReset (BitVec.ofNat 8 (SAF_CMD_rst.get value))).clearOuts (SAF_CMD_clr_out.get value)))

/-- A write of HK_CTL (R469, R470, R478). -/
def State.hkCtlWrite (s : State) (value : Word) : State :=
  doIf (HK_CTL_reset.get value == 1) (fun t => t.hkResetBank)
    (doIf (HK_CTL_restart.get value == 1) (fun t => t.hkAskRestart) s)

/-- A requester selects its page of the diagnostic window (R617). -/
def State.pageWrite (s : State) (q : Src) (value : Word) : State :=
  s.modReq q (fun r => { r with page := GLB_DIAG_PAGE_page.get value })

/-- The staging area of the SPI port (R401). -/
def isStaging (a : Nat) : Bool := decide (0x2400 ≤ a) && decide (a < 0x3400)

/-- A write of a command register from a source that may write it (R608, R610). -/
def State.commandWrite (s : State) (q : Src) (d : RegDesc) (a : Nat) (value : Word) : State :=
  if a = SAF_UNLOCK then s.safWrite q a (fun t => t.unlockWrite q value)
  else if a = SAF_COMMIT then s.safWrite q a (fun t => t.commitSet value)
  else if a = SAF_CTL then s.safWrite q a (fun t => t.otpKey q (SAF_CTL_otp_key.get value))
  else if a = SAF_CMD then s.safWrite q a (fun t => t.safCmdWrite value)
  else if a = HK_CTL then s.hkCtlWrite value
  else if a = HK_CNOW then s.cnowWrite q value
  else if a = FLT_CTL then s.fltCtlWrite q value
  else if a = FLT_LOG_SEL then s.logSelect q value
  else if a = GLB_DIAG_PAGE then s.pageWrite q value
  else if a = CLK_CRT_PWR then s.cratePowerWrite value
  else if a = HIF_STXN_GO then s.stxnGo q value
  else match inFamily a (CRT_TONE_CTL 0) 0x1000 32 with
  | some c => s.toneWrite q c value
  | none =>
    if isStaging a ∧ s.flag HIF_STXN_STAT_busy then s.refuseWrite q a
    else s.setReg a (d.merge (s.reg a) value)

/-- A direct write (R608, R610, R440): accepted or refused by class, source, idle block and stated range. A write to an
address that holds no register has nothing to set (R16). -/
def State.busWrite (s : State) (q : Src) (a : Nat) (value : Word) : State :=
  if 0x80000 ≤ a then s.refuseWrite q a
  else match regDescAt a with
  | none => s
  | some d =>
    if !d.mayWrite q a then s.refuseWrite q a
    else match d.cls with
    | .status => s.setReg a (s.reg a &&& ~~~ (value &&& d.w1cBits))
    | .runTime => s.refuseWrite q a
    | .setup =>
      if s.setupIdle q a && (isSafCfg a || d.inRange d.rwBits value) then s.setupWrite q d a value else s.refuseWrite q a
    | .command => if d.inRange d.rwBits value then s.commandWrite q d a value else s.refuseWrite q a
    | .locked =>
      if a = EYE_LOCK then s.eyeKey q value
      else if s.eyeWritable q && d.inRange d.rwBits value then s.setReg a (d.merge (s.reg a) value)
      else s.refuseWrite q a

/-- REGISTER_WRITE (R358, R608): a write over BAR0 of another size or alignment is discarded and logged with code 0x31. -/
def execRegisterWrite (q : Src) (addr : BitVec 20) (size : Nat) (value : Word) (s : State) :
    Host.Outcome State Fault Refusal :=
  .next (doIf (s.serves q) (fun t =>
    if q ≠ .spi ∧ (size ≠ 4 ∨ addr.toNat % 4 ≠ 0) then t.log 0x31 3 6 (srcIdx q) 0 0 (addr.toNat / 4)
    else t.busWrite q addr.toNat value) s)

/-- GLB_DIAG_PAGE_WRITE (R617). -/
def execGlbDiagPageWrite (q : Src) (value : Word) (s : State) : Host.Outcome State Fault Refusal :=
  .next (doIf (s.serves q) (fun t => t.pageWrite q value) s)

/-! ## Reads (R257, R402, R441, R471, R573, R606, R618) -/

/-- A read answers the requester with a word. -/
def State.answer (s : State) (q : Src) (w : Word) : State := s.modReq q (fun r => r.got w)

/-- The half word of the diagnostic window at an address, through a requester's page: bank 8·p + i (R257, R617). -/
def State.diagWord (s : State) (q : Src) (a : Nat) : Word :=
  s.bankWord (8 * (s.req q).page + (a - 0x80000) / 0x10000) (a % 0x10000)

/-- A read of the diagnostic window (R257, R285, R618): the lower half of a bank word, latching the upper half, with what
its code finds; or what is latched. The bank of a crate that is OFF has no clock, so no error of it counts (R603, R611). -/
def State.diagRead (s : State) (q : Src) (a : Nat) (ecc : Ecc) : State :=
  if a % 8 = 0 then
    let c := 8 * (s.req q).page + (a - 0x80000) / 0x10000
    doIf (s.cratePowered c) (fun t => t.eccRead c (a % 0x10000 / 4096) (bitOf a 11) ecc)
      (s.modReq q (fun r => { r.got (s.diagWord q a) with diagHi := s.diagWord q (a + 4) }))
  else s.answer q (s.req q).diagHi

/-- A read of a requester (R358): over BAR0 one of another size or alignment ends with Unsupported Request and reads
nothing. -/
def State.sizedRead (s : State) (q : Src) (x : ReadAccess) (f : State → State) : State :=
  if q ≠ .spi ∧ (x.size ≠ 4 ∨ x.addr.toNat % 4 ≠ 0) then (s.modReq q (fun r => { r with ur := true })).noteUnsupported q else f s

/-- DIAG_WINDOW_READ (R257, R618). -/
def execDiagWindowRead (q : Src) (x : ReadAccess) (s : State) : Host.Outcome State Fault Refusal :=
  .next (doIf (s.serves q && decide (0x80000 ≤ x.addr.toNat))
    (fun t => t.sizedRead q x (fun u => u.diagRead q x.addr.toNat x.ecc)) s)

/-- A read of HIF_EVQ_DATA (R402): the next word of the oldest event, which the eighth read removes. -/
def State.evqRead (s : State) (q : Src) : State :=
  let s1 := s.answer q s.evqWord
  if s.host.evq.isEmpty then s1
  else if s.host.evqRead < 7 then s1.modHost (fun h => { h with evqRead := h.evqRead + 1 })
  else (s1.modHost (fun h => { h with evq := h.evq.tail, evqRead := 0 })).showEvq

/-- EVENT_QUEUE_READ (R402). -/
def execEventQueueRead (q : Src) (s : State) : Host.Outcome State Fault Refusal :=
  .next (doIf (s.serves q) (fun t => t.evqRead q) s)

/-- The HI register whose word a read of a LO register latches (R167, R405, R441, R607, R613, R623). -/
def hiOf (a : Nat) : Option Nat :=
  if a = SHT_SHOTS_LO then some SHT_SHOTS_HI
  else if a = GLB_UID_LO then some GLB_UID_HI
  else if a = CLK_DTIME_LO then some CLK_DTIME_HI
  else if a = HIF_CTX_BASE_LO 0 then some (HIF_CTX_BASE_HI 0)
  else if a = HIF_CTX_BASE_LO 1 then some (HIF_CTX_BASE_HI 1)
  else none

/-- A HI register that reads through the requester's holding register (R441). -/
def isHi (a : Nat) : Bool :=
  a == SHT_SHOTS_HI || a == GLB_UID_HI || a == CLK_DTIME_HI || a == HIF_CTX_BASE_HI 0 || a == HIF_CTX_BASE_HI 1

/-- A read of a LO register latches the HI word for the requester (R441). -/
def State.loRead (s : State) (q : Src) (lo hi : Nat) : State :=
  s.modReq q (fun r => { r.got (s.live q lo) with hi := s.live q hi })

/-- The words that one read of MOT_STATUS took for a requester: MOT_SPEED, MOT_PERIOD, MOT_ANGLE, MOT_ROUND (R246). -/
def State.motWord (s : State) (q : Src) (a : Nat) : Word :=
  match (s.req q).mot with
  | none => s.reg a
  | some ws => wordAt ws ((a - MOT_STATUS) / 4)

/-- The status word of result j: latched by the requester's last read of HK_RES_V[j], 0 after reset (R441, R471). -/
def State.hkStatusWord (s : State) (q : Src) (j : Nat) : Word := wordAt (s.req q).hkS j

/-- The register at address a has no clock: one of the timing domain while its PLL is not ready, one of a crate that is OFF (R437,
R603, R611). -/
def State.clockless (s : State) (a : Nat) : Bool :=
  if 0x10000 ≤ a then !s.cratePowered (crateOf a) || (!s.timingLive && timingReg a)
  else decide (0x5000 ≤ a) && decide (a < 0x8000) && !s.timingLive

/-- A plain read: the register's value; RC fields are cleared in the same clock (R606). DEDUCED (log 45): a register without a clock
holds what it holds (R437, R611), so that a read of it clears no field. -/
def State.rcRead (s : State) (q : Src) (a : Nat) : State :=
  let s1 := s.answer q (s.live q a)
  match regDescAt a with
  | none => s1
  | some d => if d.rcBits = 0 ∨ s.clockless a then s1 else s1.setReg a (s1.reg a &&& ~~~ d.rcBits)

/-- A read by a requester (R358, R606): an RSVD address reads 0. -/
def State.busRead (s : State) (q : Src) (a : Nat) (ecc : Ecc) : State :=
  if 0x80000 ≤ a then s.diagRead q a ecc
  else if a = HIF_EVQ_DATA then s.evqRead q
  else if a = MOT_STATUS then s.motStatusRead q
  else if MOT_STATUS < a ∧ a ≤ MOT_ROUND then s.answer q (s.motWord q a)
  else if a = FLT_LOG_DATA0 then s.logRead q
  else if FLT_LOG_DATA0 < a ∧ a ≤ FLT_LOG_DATA3 then s.answer q (wordAt (s.req q).log ((a - FLT_LOG_DATA0) / 4))
  else if isHi a then s.answer q (s.req q).hi
  else match hiOf a with
  | some hi => s.loRead q a hi
  | none =>
    match inFamily a (HK_RES_V 0) 8 32, inFamily a (HK_RES_S 0) 8 32 with
    | some j, _ => s.hkResultRead q j
    | none, some j => s.answer q (s.hkStatusWord q j)
    | none, none => s.rcRead q a

/-- LO_REGISTER_READ (R441). A read of another register answers as that register does. -/
def execLoRegisterRead (q : Src) (x : ReadAccess) (s : State) : Host.Outcome State Fault Refusal :=
  .next (doIf (s.serves q) (fun t => t.sizedRead q x (fun u => u.busRead q x.addr.toNat x.ecc)) s)

/-- RC_FIELD_READ (R606). -/
def execRcFieldRead (q : Src) (x : ReadAccess) (s : State) : Host.Outcome State Fault Refusal :=
  .next (doIf (s.serves q) (fun t => t.sizedRead q x (fun u => u.busRead q x.addr.toNat x.ecc)) s)

/-! ## SPI frames (R396 to R399) -/

/-- A number from bytes, most significant first. -/
def bytesToNat (bs : List Byte) : Nat := bs.foldl (fun n b => 256 * n + b.toNat) 0

/-- A word's bytes, most significant first (R396). -/
def wordBytesBE (w : Word) : List Byte := (wordBytes w).reverse

/-- The frame's address (R397). -/
def spiAddr (bs : List Byte) : Nat := bytesToNat ((bs.drop 1).take 3)

/-- What the port drives on SPI_MISO in the frame. -/
def State.drive (s : State) (bs : List Byte) : State := s.modHost (fun h => { h with miso := bs })

/-- SPI_CS_N ends a frame early (R399). -/
def State.spiAbort (s : State) : State := (s.bump HIF_SPI_STAT_abort 1).drive []

/-- The answer of a write frame: the status in byte 9 (R397). -/
def State.spiStatus (s : State) (st : Nat) : State := s.drive (List.replicate 9 0 ++ [BitVec.ofNat 8 st])

/-- Turnaround bytes of a read frame (R397, R411). -/
def State.turnaround (s : State) : Nat := s.rd HIF_SPI_CFG_ta + 1

/-- The answer of a read frame (R397). -/
def State.spiData (s : State) (data : Word) (st : Nat) : State :=
  let body := wordBytesBE data ++ [BitVec.ofNat 8 st]
  s.drive (List.replicate (5 + s.turnaround) 0 ++ body ++ [crc8 body])

/-- A command byte that names no frame (R398). -/
def spiUnknown (bs : List Byte) : Bool := bs.head? != some 0x02 && bs.head? != some 0x03

/-- A write frame (R397 to R399). -/
def State.spiWrite (s : State) (bs : List Byte) : State :=
  if bs.length < 10 then s.spiAbort
  else if crc8 (bs.take 8) ≠ bs.getD 8 0 then (s.bump HIF_SPI_STAT_crc_err 1).spiStatus 1
  else if 0x100000 ≤ spiAddr bs then s.spiStatus 4
  else (s.busWrite .spi (spiAddr bs) (BitVec.ofNat 32 (bytesToNat ((bs.drop 4).take 4)))).spiStatus 0

/-- A read frame (R397, R398): data not ready by the end of the turnaround read 0 with status 0x02. Where the manual gives
the data bytes no value, and for the effect of a read whose data come late, free values stand. -/
def State.spiRead (s : State) (bs : List Byte) (x : FabricAnswer) : State :=
  if bs.length < 11 + s.turnaround then s.spiAbort
  else if crc8 (bs.take 4) ≠ bs.getD 4 0 then
    let p := (s.bump HIF_SPI_STAT_crc_err 1).takeFreeWord
    p.2.spiData p.1 1
  else if 0x100000 ≤ spiAddr bs then
    let p := s.takeFreeWord
    p.2.spiData p.1 4
  else if x.inTime then
    let t := s.busRead .spi (spiAddr bs) x.ecc
    t.spiData (t.req .spi).rdata 0
  else
    let p := s.takeFree
    ((doIf p.1 (fun t => t.busRead .spi (spiAddr bs) x.ecc) p.2).bump HIF_SPI_STAT_retry 1).spiData 0 2

/-- SPI_WRITE_FRAME (R397). -/
def execSpiWriteFrame (bytes : List Byte) (s : State) : Host.Outcome State Fault Refusal :=
  .next (doIf s.fabricReady (fun t =>
    if bytes.head? = some 0x02 then t.spiWrite bytes
    else doIf (spiUnknown bytes) (fun u => u.spiStatus 3) t) s)

/-- SPI_READ_FRAME (R397). -/
def execSpiReadFrame (bytes : List Byte) (answer : FabricAnswer) (s : State) : Host.Outcome State Fault Refusal :=
  .next (doIf s.fabricReady (fun t =>
    if bytes.head? = some 0x03 then t.spiRead bytes answer
    else doIf (spiUnknown bytes) (fun u => u.spiStatus 3) t) s)

/-- SPI_FRAME_ABORT (R399). -/
def execSpiFrameAbort (s : State) : Host.Outcome State Fault Refusal :=
  .next (doIf s.fabricReady (fun t => t.spiAbort) s)

end Sys2Proof.Machine
end

