-- ==== Sys2Proof/Machine/Dispatch.lean ====
section
/-! DEFINITION. One arm per command of the table, each one direct call of its meaning. -/

namespace Sys2Proof.Machine

open Sys2Proof

/-- The effect of a command on everything but the queue. -/
def exec (i : Instr) (s : State) : Host.Outcome State Fault Refusal :=
  match i with
  | .powerOn => Sys2Proof.Machine.execPowerOn s
  | .resetNAssert lowNs => Sys2Proof.Machine.execResetNAssert lowNs s
  | .resetNRelease => Sys2Proof.Machine.execResetNRelease s
  | .fabricPllLock => Sys2Proof.Machine.execFabricPllLock s
  | .registerFabricReady => Sys2Proof.Machine.execRegisterFabricReady s
  | .safetyBlockReady => Sys2Proof.Machine.execSafetyBlockReady s
  | .churnReady => Sys2Proof.Machine.execChurnReady s
  | .housekeepingReady => Sys2Proof.Machine.execHousekeepingReady s
  | .refclkGateEnd edges => Sys2Proof.Machine.execRefclkGateEnd edges s
  | .refclkLost => Sys2Proof.Machine.execRefclkLost s
  | .earlyDwellClose => Sys2Proof.Machine.execEarlyDwellClose s
  | .timingPllLock => Sys2Proof.Machine.execTimingPllLock s
  | .xtalLost => Sys2Proof.Machine.execXtalLost s
  | .deviceTimeSync => Sys2Proof.Machine.execDeviceTimeSync s
  | .cratePowerRequest src value => Sys2Proof.Machine.execCratePowerRequest src value s
  | .cratePowerUpStart c => Sys2Proof.Machine.execCratePowerUpStart c s
  | .crateStartingDone c tests => Sys2Proof.Machine.execCrateStartingDone c tests s
  | .crateStoppingDone c => Sys2Proof.Machine.execCrateStoppingDone c s
  | .tapReset => Sys2Proof.Machine.execTapReset s
  | .jtagExtest scan => Sys2Proof.Machine.execJtagExtest scan s
  | .jtagSamplePreload pins preload => Sys2Proof.Machine.execJtagSamplePreload pins preload s
  | .jtagIdcode => Sys2Proof.Machine.execJtagIdcode s
  | .jtagBypass => Sys2Proof.Machine.execJtagBypass s
  | .feModeWrite src c value => Sys2Proof.Machine.execFeModeWrite src c value s
  | .crateSettleEnd c => Sys2Proof.Machine.execCrateSettleEnd c s
  | .channelSettleEnd c k => Sys2Proof.Machine.execChannelSettleEnd c k s
  | .preWindowOpen c cals => Sys2Proof.Machine.execPreWindowOpen c cals s
  | .startEdge c lsb caps => Sys2Proof.Machine.execStartEdge c lsb caps s
  | .startTimeout c => Sys2Proof.Machine.execStartTimeout c s
  | .blankingEnd c above => Sys2Proof.Machine.execBlankingEnd c above s
  | .discriminatorCrossing c k lsb cap spareCap => Sys2Proof.Machine.execDiscriminatorCrossing c k lsb cap spareCap s
  | .rangeSelect c k levelAc => Sys2Proof.Machine.execRangeSelect c k levelAc s
  | .chargeGateEnd c k heldAc => Sys2Proof.Machine.execChargeGateEnd c k heldAc s
  | .chargeConversionDone c k => Sys2Proof.Machine.execChargeConversionDone c k s
  | .chargePathReady c k => Sys2Proof.Machine.execChargePathReady c k s
  | .mainWindowClose => Sys2Proof.Machine.execMainWindowClose s
  | .dwellClose c retest => Sys2Proof.Machine.execDwellClose c retest s
  | .chargeCalDue c => Sys2Proof.Machine.execChargeCalDue c s
  | .chargeCalDone c sl meas => Sys2Proof.Machine.execChargeCalDone c sl meas s
  | .cdBatchEnd c sl => Sys2Proof.Machine.execCdBatchEnd c sl s
  | .tieBreakEnd c meas => Sys2Proof.Machine.execTieBreakEnd c meas s
  | .ambientFrameEnd means => Sys2Proof.Machine.execAmbientFrameEnd means s
  | .skimmerFrameProcess => Sys2Proof.Machine.execSkimmerFrameProcess s
  | .toneStart src c value => Sys2Proof.Machine.execToneStart src c value s
  | .toneCheckEnd c meas => Sys2Proof.Machine.execToneCheckEnd c meas s
  | .loadShotTable cmd => Sys2Proof.Machine.execLoadShotTable cmd s
  | .start cmd => Sys2Proof.Machine.execStart cmd s
  | .stop cmd => Sys2Proof.Machine.execStop cmd s
  | .angleTrigger => Sys2Proof.Machine.execAngleTrigger s
  | .delayTrigger => Sys2Proof.Machine.execDelayTrigger s
  | .shotCommit binEcc => Sys2Proof.Machine.execShotCommit binEcc s
  | .emitterFire e => Sys2Proof.Machine.execEmitterFire e s
  | .creditRefill e => Sys2Proof.Machine.execCreditRefill e s
  | .chargeCycleStart e => Sys2Proof.Machine.execChargeCycleStart e s
  | .currentLimitTrip e => Sys2Proof.Machine.execCurrentLimitTrip e s
  | .cycleEndSwitchOff e => Sys2Proof.Machine.execCycleEndSwitchOff e s
  | .chargeDone e => Sys2Proof.Machine.execChargeDone e s
  | .topUp e => Sys2Proof.Machine.execTopUp e s
  | .restEnd e => Sys2Proof.Machine.execRestEnd e s
  | .comparatorSettleEnd b first second => Sys2Proof.Machine.execComparatorSettleEnd b first second s
  | .comparatorSelfTest b first second => Sys2Proof.Machine.execComparatorSelfTest b first second s
  | .chargeTimeout e => Sys2Proof.Machine.execChargeTimeout e s
  | .windowMonitorChange m level held mv => Sys2Proof.Machine.execWindowMonitorChange m level held mv s
  | .dacReadbackDue => Sys2Proof.Machine.execDacReadbackDue s
  | .dacReadbackDone code => Sys2Proof.Machine.execDacReadbackDone code s
  | .accountantBinRoll long => Sys2Proof.Machine.execAccountantBinRoll long s
  | .laserPermitChange => Sys2Proof.Machine.execLaserPermitChange s
  | .eyeLockKey src value => Sys2Proof.Machine.execEyeLockKey src value s
  | .eyeLockKeyTimeout => Sys2Proof.Machine.execEyeLockKeyTimeout s
  | .eyeLockBurnDone => Sys2Proof.Machine.execEyeLockBurnDone s
  | .hallCodeChange code held => Sys2Proof.Machine.execHallCodeChange code held s
  | .indexEdge level held => Sys2Proof.Machine.execIndexEdge level held s
  | .frameSyncEdge level held => Sys2Proof.Machine.execFrameSyncEdge level held s
  | .indexMissing => Sys2Proof.Machine.execIndexMissing s
  | .standstillTimeout => Sys2Proof.Machine.execStandstillTimeout s
  | .roundBoundary => Sys2Proof.Machine.execRoundBoundary s
  | .sweepBoundary => Sys2Proof.Machine.execSweepBoundary s
  | .serrPwmPeriod => Sys2Proof.Machine.execSerrPwmPeriod s
  | .motCfgWrite src value => Sys2Proof.Machine.execMotCfgWrite src value s
  | .motStatusRead src => Sys2Proof.Machine.execMotStatusRead src s
  | .descriptorRead c => Sys2Proof.Machine.execDescriptorRead c s
  | .eventAccumulate c ecc => Sys2Proof.Machine.execEventAccumulate c ecc s
  | .windowCloseRead c => Sys2Proof.Machine.execWindowCloseRead c s
  | .churnDwellBoundary c => Sys2Proof.Machine.execChurnDwellBoundary c s
  | .channelExtractionDone c k ecc => Sys2Proof.Machine.execChannelExtractionDone c k ecc s
  | .scrub c word ecc => Sys2Proof.Machine.execScrub c word ecc s
  | .histDump cmd => Sys2Proof.Machine.execHistDump cmd s
  | .dumpChannel c k ecc => Sys2Proof.Machine.execDumpChannel c k ecc s
  | .rawCapture cmd => Sys2Proof.Machine.execRawCapture cmd s
  | .rawDrain drain => Sys2Proof.Machine.execRawDrain drain s
  | .diagWindowRead src access => Sys2Proof.Machine.execDiagWindowRead src access s
  | .glbDiagPageWrite src value => Sys2Proof.Machine.execGlbDiagPageWrite src value s
  | .hostLinkUp width speed => Sys2Proof.Machine.execHostLinkUp width speed s
  | .perstN => Sys2Proof.Machine.execPerstN s
  | .functionLevelReset f => Sys2Proof.Machine.execFunctionLevelReset f s
  | .doorbellEnable f ring index arm => Sys2Proof.Machine.execDoorbellEnable f ring index arm s
  | .doorbellDisable f ring index arm => Sys2Proof.Machine.execDoorbellDisable f ring index arm s
  | .doorbellReload f ring index arm => Sys2Proof.Machine.execDoorbellReload f ring index arm s
  | .doorbellArm f ring index => Sys2Proof.Machine.execDoorbellArm f ring index s
  | .doorbellIndex f ring index => Sys2Proof.Machine.execDoorbellIndex f ring index s
  | .bar2BadWrite f => Sys2Proof.Machine.execBar2BadWrite f s
  | .contextFetchDone ring => Sys2Proof.Machine.execContextFetchDone ring s
  | .ringDrainDone ring => Sys2Proof.Machine.execRingDrainDone ring s
  | .recordWrite => Sys2Proof.Machine.execRecordWrite s
  | .ringLoss ring => Sys2Proof.Machine.execRingLoss ring s
  | .writeBack ring => Sys2Proof.Machine.execWriteBack ring s
  | .interruptSend ring => Sys2Proof.Machine.execInterruptSend ring s
  | .descriptorFetch => Sys2Proof.Machine.execDescriptorFetch s
  | .completionWrite => Sys2Proof.Machine.execCompletionWrite s
  | .hostReadCompletion reply => Sys2Proof.Machine.execHostReadCompletion reply s
  | .completionTimeout => Sys2Proof.Machine.execCompletionTimeout s
  | .nop cmd => Sys2Proof.Machine.execNop cmd s
  | .fence cmd => Sys2Proof.Machine.execFence cmd s
  | .cfgTxn cmd => Sys2Proof.Machine.execCfgTxn cmd s
  | .snapshot cmd => Sys2Proof.Machine.execSnapshot cmd s
  | .hkConvert cmd => Sys2Proof.Machine.execHkConvert cmd s
  | .spiWriteFrame bytes => Sys2Proof.Machine.execSpiWriteFrame bytes s
  | .spiReadFrame bytes answer => Sys2Proof.Machine.execSpiReadFrame bytes answer s
  | .spiFrameAbort => Sys2Proof.Machine.execSpiFrameAbort s
  | .spiTxnGo src value => Sys2Proof.Machine.execSpiTxnGo src value s
  | .eventQueueRead src => Sys2Proof.Machine.execEventQueueRead src s
  | .registerWrite src addr size value => Sys2Proof.Machine.execRegisterWrite src addr size value s
  | .loRegisterRead src access => Sys2Proof.Machine.execLoRegisterRead src access s
  | .rcFieldRead src access => Sys2Proof.Machine.execRcFieldRead src access s
  | .applyInstant => Sys2Proof.Machine.execApplyInstant s
  | .snapshotStrobe => Sys2Proof.Machine.execSnapshotStrobe s
  | .hkConversionEnd conv => Sys2Proof.Machine.execHkConversionEnd conv s
  | .hkLeadEnd => Sys2Proof.Machine.execHkLeadEnd s
  | .hkToneCheckEnd z => Sys2Proof.Machine.execHkToneCheckEnd z s
  | .itempConversionEnd temp => Sys2Proof.Machine.execItempConversionEnd temp s
  | .hkCnowGo src value => Sys2Proof.Machine.execHkCnowGo src value s
  | .hkRestart src => Sys2Proof.Machine.execHkRestart src s
  | .hkSyncEdge falling => Sys2Proof.Machine.execHkSyncEdge falling s
  | .hkReset src => Sys2Proof.Machine.execHkReset src s
  | .hkResetDone => Sys2Proof.Machine.execHkResetDone s
  | .hkResultRead src j => Sys2Proof.Machine.execHkResultRead src j s
  | .safetySample pins => Sys2Proof.Machine.execSafetySample pins s
  | .testPulse sl begins => Sys2Proof.Machine.execTestPulse sl begins s
  | .safetyTick => Sys2Proof.Machine.execSafetyTick s
  | .pairStartupDone p => Sys2Proof.Machine.execPairStartupDone p s
  | .discrepancyTimeout p => Sys2Proof.Machine.execDiscrepancyTimeout p s
  | .curtainIgnoreEnd p chanB => Sys2Proof.Machine.execCurtainIgnoreEnd p chanB s
  | .curtainPulseTimeout p chanB => Sys2Proof.Machine.execCurtainPulseTimeout p chanB s
  | .srstRelease => Sys2Proof.Machine.execSrstRelease s
  | .outputReadbackTimeout o => Sys2Proof.Machine.execOutputReadbackTimeout o s
  | .offPulseStart o => Sys2Proof.Machine.execOffPulseStart o s
  | .offPulseEnd o => Sys2Proof.Machine.execOffPulseEnd o s
  | .lenReadbackTimeout => Sys2Proof.Machine.execLenReadbackTimeout s
  | .lenProof => Sys2Proof.Machine.execLenProof s
  | .estopGateOpen p chanB => Sys2Proof.Machine.execEstopGateOpen p chanB s
  | .zoneSummaryClose => Sys2Proof.Machine.execZoneSummaryClose s
  | .zoneSummaryArrival crcOk => Sys2Proof.Machine.execZoneSummaryArrival crcOk s
  | .sweepTimeout => Sys2Proof.Machine.execSweepTimeout s
  | .safetyDiagnostic d passed => Sys2Proof.Machine.execSafetyDiagnostic d passed s
  | .safUnlockKey src value => Sys2Proof.Machine.execSafUnlockKey src value s
  | .safUnlockKeyTimeout => Sys2Proof.Machine.execSafUnlockKeyTimeout s
  | .safUnlockAbort src => Sys2Proof.Machine.execSafUnlockAbort src s
  | .configTimeout => Sys2Proof.Machine.execConfigTimeout s
  | .safCommit src crc => Sys2Proof.Machine.execSafCommit src crc s
  | .safOtpKey src key => Sys2Proof.Machine.execSafOtpKey src key s
  | .safOtpKeyTimeout => Sys2Proof.Machine.execSafOtpKeyTimeout s
  | .safOtpBurnDone => Sys2Proof.Machine.execSafOtpBurnDone s
  | .safPairReset src pairs => Sys2Proof.Machine.execSafPairReset src pairs s
  | .clrOut src outs => Sys2Proof.Machine.execClrOut src outs s
  | .clrZone src => Sys2Proof.Machine.execClrZone src s
  | .clrLen src => Sys2Proof.Machine.execClrLen src s
  | .safetyReport => Sys2Proof.Machine.execSafetyReport s
  | .strike => Sys2Proof.Machine.execStrike s
  | .fltLogClear src value => Sys2Proof.Machine.execFltLogClear src value s
  | .fltLogSelect src value => Sys2Proof.Machine.execFltLogSelect src value s
  | .fltLogRead src => Sys2Proof.Machine.execFltLogRead src s
  | .discriminatorFall c k => Sys2Proof.Machine.execDiscriminatorFall c k s
  | .linkDown => Sys2Proof.Machine.execLinkDown s
  | .configSpaceWrite f cfg => Sys2Proof.Machine.execConfigSpaceWrite f cfg s
  | .msixTableWrite f vector entry => Sys2Proof.Machine.execMsixTableWrite f vector entry s
  | .estopGateClose p chanB => Sys2Proof.Machine.execEstopGateClose p chanB s
  | .supplyFall dip => Sys2Proof.Machine.execSupplyFall dip s

end Sys2Proof.Machine
end

