-- ==== Sys2Proof/Machine/Idle.lean ====
section
/-! DEFINITION. What passes with time alone: one tick of 10 ns (notes/assumptions/1.md). -/

namespace Sys2Proof.Machine

/-- One tick of the fabric copy of device time (R593): it counts from the first lock of the timing PLL on; while it is
ahead, it waits for device time to reach it. -/
def Clk.copyTick (k : Clk) : Clk :=
  match k.copyHold with
  | none => { k with devCopy := k.devCopy + 1 }
  | some v => if k.devCopy ≤ v + 1 then { k with devCopy := v + 1, copyHold := none } else { k with copyHold := some (v + 1) }

/-- One tick of the fabric domain (R593). -/
def State.fabricTick (s : State) : State :=
  s.modClk (fun k => { (if k.everLocked then k.copyTick else k) with ftick := k.ftick + 1 })

/-- One tick of the timing domain: device time counts (R592), the motor interface follows its estimate (R217, R223,
R227). -/
def State.timingTick (s : State) : State :=
  (s.keepAngle.modClk (fun k => { k with tick := k.tick + 1, devTime := k.devTime + 1 })).takeHeldCode.refreshMotor

/-- One 10 ns tick. -/
def State.idleTick (s : State) : State :=
  doIf s.timingLive (fun t => t.timingTick) (doIf s.fabricLive (fun t => t.fabricTick) s)

end Sys2Proof.Machine
end

