-- ==== Sys2Proof/Safety.lean ====
section
/-! DEFINITION. What the statements speak of: the parts of a state, what a command leaves unchanged, and the invariant that
every step keeps (canonical tables, the bounds of the fault log and of the event queue). -/

namespace Sys2Proof.Machine

/-- The parts of a state. -/
inductive Part where
  | regs | bank | hostMem | clk | tap | crates | chans | slices | shot | emits | classes | chgs | mons | eye | motor | host
  | reqs | rings | hk | saf | flt | otp | free | pending
  deriving DecidableEq, Repr

/-- Two states agree in a part. -/
def Part.same (p : Part) (s t : State) : Prop :=
  match p with
  | .regs => t.regs = s.regs
  | .bank => t.bank = s.bank
  | .hostMem => t.hostMem = s.hostMem
  | .clk => t.clk = s.clk
  | .tap => t.tap = s.tap
  | .crates => t.crates = s.crates
  | .chans => t.chans = s.chans
  | .slices => t.slices = s.slices
  | .shot => t.shot = s.shot
  | .emits => t.emits = s.emits
  | .classes => t.classes = s.classes
  | .chgs => t.chgs = s.chgs
  | .mons => t.mons = s.mons
  | .eye => t.eye = s.eye
  | .motor => t.motor = s.motor
  | .host => t.host = s.host
  | .reqs => t.reqs = s.reqs
  | .rings => t.rings = s.rings
  | .hk => t.hk = s.hk
  | .saf => t.saf = s.saf
  | .flt => t.flt = s.flt
  | .otp => t.otp = s.otp
  | .free => t.free = s.free
  | .pending => t.pending = s.pending

/-- t differs from s at most in the parts listed. -/
def OnlyChanges (l : List Part) (s t : State) : Prop := ∀ p, p ∉ l → p.same s t

/-- The parts of the state that a command may change; every other part stays. -/
def footprint (i : Instr) : List Part :=
  match i with
  | .tapReset | .jtagExtest .. | .jtagSamplePreload .. | .jtagIdcode | .jtagBypass =>
    [.tap]
  | .channelSettleEnd .. | .rangeSelect .. | .chargeGateEnd .. | .discriminatorFall .. =>
    [.chans]
  | .motStatusRead .. | .glbDiagPageWrite .. | .hkResultRead .. | .fltLogSelect .. | .fltLogRead .. =>
    [.reqs]
  | .curtainIgnoreEnd .. | .curtainPulseTimeout .. | .zoneSummaryClose | .safUnlockKeyTimeout | .safOtpKeyTimeout =>
    [.saf]
  | .chargeCycleStart .. | .currentLimitTrip .. | .cycleEndSwitchOff .. | .chargeDone .. | .topUp .. | .restEnd .. =>
    [.regs, .chgs]
  | .registerFabricReady | .crateSettleEnd .. | .windowMonitorChange .. | .serrPwmPeriod | .hostLinkUp ..
  | .bar2BadWrite .. | .nop .. | .cfgTxn .. | .snapshot .. | .spiFrameAbort | .snapshotStrobe | .pairStartupDone ..
  | .srstRelease | .linkDown | .configSpaceWrite .. | .msixTableWrite .. =>
    [.regs, .host]
  | .crateStoppingDone .. | .blankingEnd .. | .chargePathReady .. | .windowCloseRead .. =>
    [.regs, .crates, .chans]
  | .loadShotTable .. | .delayTrigger =>
    [.regs, .shot, .host]
  | .hallCodeChange .. | .indexEdge .. | .frameSyncEdge .. | .indexMissing | .standstillTimeout =>
    [.regs, .motor, .host]
  | .housekeepingReady | .dacReadbackDue | .hkConvert .. | .hkLeadEnd | .itempConversionEnd .. | .hkRestart ..
  | .hkSyncEdge .. | .hkResetDone =>
    [.regs, .host, .hk]
  | .testPulse .. | .offPulseStart .. | .lenProof | .estopGateOpen .. | .configTimeout | .safetyReport
  | .estopGateClose .. =>
    [.regs, .host, .saf]
  | .accountantBinRoll .. =>
    [.emits, .classes, .eye]
  | .eyeLockKey .. | .eyeLockKeyTimeout =>
    [.regs, .eye, .host, .flt]
  | .eyeLockBurnDone | .safOtpBurnDone =>
    [.regs, .eye, .saf, .otp]
  | .fabricPllLock | .safetyBlockReady | .spiTxnGo .. | .safetyDiagnostic .. | .safUnlockKey .. | .safUnlockAbort ..
  | .safCommit .. | .safOtpKey .. | .safPairReset .. | .clrOut .. | .clrLen .. | .fltLogClear .. =>
    [.regs, .host, .saf, .flt]
  | .doorbellEnable .. | .doorbellDisable .. | .doorbellReload .. | .doorbellArm .. | .doorbellIndex ..
  | .contextFetchDone .. | .ringDrainDone .. | .recordWrite | .ringLoss .. | .writeBack .. | .interruptSend ..
  | .descriptorFetch | .completionWrite | .hostReadCompletion .. | .fence .. =>
    [.regs, .hostMem, .host, .rings, .free]
  | .resetNRelease | .earlyDwellClose | .deviceTimeSync =>
    [.regs, .clk, .crates, .chans, .flt]
  | .preWindowOpen .. | .startEdge .. | .discriminatorCrossing .. | .chargeConversionDone .. | .chargeCalDone ..
  | .cdBatchEnd .. =>
    [.regs, .crates, .chans, .slices, .flt]
  | .feModeWrite .. | .startTimeout .. | .tieBreakEnd .. | .ambientFrameEnd .. | .skimmerFrameProcess | .toneStart ..
  | .toneCheckEnd .. | .descriptorRead .. | .scrub .. | .histDump .. =>
    [.regs, .crates, .chans, .host, .flt]
  | .chargeCalDue .. | .dacReadbackDone .. | .rawCapture .. | .hkToneCheckEnd .. | .hkCnowGo .. | .hkReset .. =>
    [.regs, .crates, .host, .hk, .flt]
  | .diagWindowRead .. | .eventQueueRead .. | .loRegisterRead .. | .rcFieldRead .. =>
    [.regs, .chans, .host, .reqs, .flt]
  | .safetySample .. | .safetyTick | .discrepancyTimeout .. | .outputReadbackTimeout .. | .offPulseEnd ..
  | .lenReadbackTimeout | .zoneSummaryArrival .. | .sweepTimeout | .clrZone .. =>
    [.regs, .host, .saf, .flt, .free]
  | .completionTimeout =>
    [.regs, .hostMem, .host, .rings, .flt, .free]
  | .start .. | .emitterFire .. | .creditRefill .. =>
    [.regs, .shot, .emits, .chgs, .host, .hk]
  | .comparatorSettleEnd .. | .comparatorSelfTest .. | .chargeTimeout .. | .motCfgWrite .. =>
    [.regs, .chgs, .mons, .motor, .host, .flt]
  | .churnReady | .cratePowerRequest .. | .dwellClose .. | .eventAccumulate .. | .dumpChannel .. | .rawDrain .. =>
    [.regs, .bank, .crates, .chans, .slices, .host, .flt]
  | .mainWindowClose | .stop .. | .churnDwellBoundary .. =>
    [.regs, .bank, .crates, .chans, .shot, .host, .saf]
  | .angleTrigger | .laserPermitChange | .roundBoundary | .sweepBoundary =>
    [.regs, .shot, .chgs, .motor, .host, .hk, .saf]
  | .channelExtractionDone .. =>
    [.regs, .bank, .crates, .chans, .host, .saf, .flt, .free]
  | .spiReadFrame .. | .hkConversionEnd .. =>
    [.regs, .crates, .chans, .host, .reqs, .hk, .flt, .free]
  | .timingPllLock | .cratePowerUpStart .. =>
    [.regs, .bank, .clk, .crates, .chans, .slices, .chgs, .host, .flt]
  | .crateStartingDone .. | .perstN | .functionLevelReset .. =>
    [.regs, .bank, .crates, .chans, .slices, .shot, .host, .rings, .saf, .flt]
  | .applyInstant | .strike =>
    [.regs, .crates, .chans, .shot, .chgs, .mons, .host, .hk, .flt, .free]
  | .refclkGateEnd .. | .refclkLost | .xtalLost =>
    [.regs, .bank, .clk, .crates, .chans, .shot, .emits, .chgs, .motor, .host, .flt]
  | .spiWriteFrame .. | .registerWrite .. =>
    [.regs, .bank, .crates, .chans, .slices, .eye, .motor, .host, .reqs, .hk, .saf, .flt, .free]
  | .shotCommit .. =>
    [.regs, .bank, .crates, .chans, .shot, .emits, .classes, .chgs, .eye, .host, .hk, .saf, .flt]
  | .powerOn | .supplyFall .. =>
    [.regs, .bank, .clk, .tap, .crates, .chans, .slices, .shot, .emits, .classes, .chgs, .mons, .eye, .motor, .host, .reqs, .rings, .hk, .saf, .flt]
  | .resetNAssert .. =>
    [.regs, .bank, .clk, .crates, .chans, .slices, .shot, .emits, .classes, .chgs, .mons, .eye, .motor, .host, .reqs, .rings, .hk, .saf, .flt, .free]

/-- Outside the addresses listed, every register of t holds what it held in s. -/
def OnlyRegs (l : List Nat) (s t : State) : Prop := ∀ a, a ∉ l → t.reg a = s.reg a

/-- The registers that posting an event writes: the dropped-event counters of the functions, the event queue's fill and lost
count, the event queue's interrupt flag (R402, R404, R413, R414, R428). -/
def eventRegs : List Nat := [HIF_FN_ERR 0, HIF_FN_ERR 1, HIF_EVQ_STAT, HIF_IRQ_STAT]

/-- The registers that a fault-log entry writes: its own two and those of the event FAULT (R572). -/
def logRegs : List Nat := FLT_LOG_STAT :: FLT_LOG_TOTAL :: eventRegs

/-- The registers that a change of a ready bit writes: the bits, and those of the event READY (R553). -/
def readyRegs : List Nat := GLB_READY :: GLB_READY_CRT :: eventRegs

/-- The registers that a refused write writes (R440, R446, R572). -/
def refuseRegs : List Nat := GLB_WR_REFUSE :: HIF_SPI_STAT :: logRegs

/-- The registers that follow the motor in every tick (R223, R225, R228, R235, R239). -/
def motorShown : List Nat := [MOT_STATUS, MOT_SPEED, MOT_ANGLE, MOT_ROUND, MOT_SERR]

/-- The registers of the motor interface that its inputs write, and those of its events (R222 to R239, R428). -/
def motorRegs : List Nat := MOT_PERIOD :: MOT_ERR_A :: MOT_ERR_B :: (motorShown ++ eventRegs)

/-- Crates other than those listed keep their dwells, queues and measurements. -/
def OnlyCrates (l : List Nat) (s t : State) : Prop := ∀ c, c ∉ l → t.crate c = s.crate c

/-- Channels other than those listed keep what they hold. -/
def OnlyChans (l : List (Nat × Nat)) (s t : State) : Prop := ∀ c k, k < 16 → (c, k) ∉ l → t.chan c k = s.chan c k

/-- Slices other than those listed keep what they hold. -/
def OnlySlices (l : List (Nat × Nat)) (s t : State) : Prop := ∀ c i, i < 17 → (c, i) ∉ l → t.slice c i = s.slice c i

/-- Charge controllers other than those listed keep what they hold. -/
def OnlyChgs (l : List Nat) (s t : State) : Prop := ∀ e, e ∉ l → t.chg e = s.chg e

/-- Rings other than those listed keep what they hold. -/
def OnlyRings (l : List RingId) (s t : State) : Prop := ∀ r, r ∉ l → t.ring r = s.ring r

/-- The tables of the host interface are canonical, and the event queue holds at most 32 events (R402). -/
def HostIf.wf (h : HostIf) : Bool :=
  sparseWf (fun _ => MsixEntry.reset) h.pf0.msix && sparseWf (fun _ => MsixEntry.reset) h.pf1.msix
  && decide (h.evq.length ≤ 32)

/-- The tables of the safety block are canonical. -/
def Saf.wf (x : Saf) : Bool :=
  sparseWf resetWord x.active && sparseWf resetWord x.shadow && sparseWf (fun _ => Sto.reset) x.stos
  && sparseWf (fun _ => Pair.reset) x.pairs && sparseWf (fun _ => Out.reset) x.outs && sparseWf (fun _ => Zone.reset) x.zones

/-- The tables of the fault manager are canonical, and the fault log holds at most 256 entries (R570). -/
def Flt.wf (x : Flt) : Bool :=
  sparseWf (fun _ => []) x.strikes && sparseWf (fun _ => 0) x.probation && decide (x.log.length ≤ 256)

/-- The verdicts of the housekeeping bank are a canonical table. -/
def Hk.wf (x : Hk) : Bool := sparseWf (fun _ => 0) x.verdicts

/-- The invariant: every table of the state is in its canonical form, so that equal contents are equal data; the fault log
and the event queue keep their sizes (R402, R570). The tables inside an element of those (a slice's hits, a buffer's counts, the
configuration that a dwell or a descriptor carries) are outside it. -/
def State.wf (s : State) : Bool :=
  sparseWf resetWord s.regs && memoryWf s.bank && memoryWf s.hostMem && sparseWf (fun _ => Crate.reset) s.crates
  && sparseWf (fun _ => Chan.reset) s.chans && sparseWf (fun _ => Slice.reset) s.slices
  && sparseWf (fun _ => Emit.reset) s.emits && sparseWf (fun _ => List.replicate 17 0) s.classes
  && sparseWf (fun _ => Chg.reset) s.chgs && sparseWf (fun _ => Mon.reset) s.mons && sparseWf (fun _ => Req.reset) s.reqs
  && sparseWf (fun _ => Ring.reset) s.rings && s.host.wf && s.hk.wf && s.saf.wf && s.flt.wf

/-- From s to t the command c ended: it stands no longer among the commands, and its completion record, with the epoch at
that time, waits behind the others (R388, R390, R426). -/
def Completed (s t : State) (c : Cmd) (status : Nat) (shots : DWord) (dwells : Word) : Prop :=
  t.host.cmds = s.host.cmds.filter (fun d => decide (d.ref ≠ c.ref))
    ∧ t.host.cpls = s.host.cpls
      ++ [⟨c.cplRing, status, c.words, c.ref, shots, dwells, c.seqs, s.epoch⟩]

/-- From s to t the event ws was posted and no other (R402, R404, R427): it stands in the event queue where that takes it, and
behind the records on their way to the event rings of both functions where these are ENABLED. -/
def Posted (s t : State) (ws : List Word) : Prop :=
  (s.flag HIF_SPI_CFG_evq_en = true → s.host.evq.length < 32 → t.host.evq = s.host.evq ++ [ws])
    ∧ ((s.ring (s.evtRing .pf0)).st = .enabled → (s.ring (s.evtRing .pf1)).st = .enabled → s.host.recWait = [] →
        t.host.allRecs = s.host.allRecs ++ [⟨.pf0, s.evtRing .pf0, 3, ws, none, 0, false⟩,
          ⟨.pf1, s.evtRing .pf1, 3, ws, none, 0, false⟩])

/-- What a run of operations from s to t may have done: it changed at most the parts listed, and kept the invariant. -/
def Evolves (l : List Part) (s t : State) : Prop := OnlyChanges l s t ∧ (s.wf = true → t.wf = true)

end Sys2Proof.Machine
end

