-- ==== Sys2Proof/Certificates/Slice0/Obligations.lean ====
section
/-! DEFINITION. The statements for the provers, one for each group of commands and each kind of state. The rules named in a
docstring are those whose words its clauses follow; a clause that rests on a reading or on a choice of the model is so marked
in notes/assumptions. In every statement `OnlyRegs`, `OnlyChanges` and their like say what a command leaves unchanged. -/

open Sys2Proof Sys2Proof.Machine

/-- Powering on, RESET_N low for 10 µs or more, and a supply below a retention limit put every domain in reset: registers
other than those in the retention SRAM read their reset values, one-time-programmable memory and host memory stay, and the
fault log is lost only with a supply below its retention limit; a supply that falls below the limit of the safety block alone makes
its internal fault and keeps the log (R518, R570, R596 to R601, R622, R633).
Rests also on the model's readings and choices in notes/assumptions: 5, 6, 7, 8, 93, 94. -/
def Obligations.ResetCommands : Prop :=
  (∀ s : State, ∃ t, exec .powerOn s = .next t ∧ t.clk.phase = .inReset ∧ t.tap = Tap.reset
    ∧ OnlyRegs [FLT_LOG_STAT, FLT_LOG_TOTAL] State.reset t ∧ t.otp = s.otp ∧ t.hostMem = s.hostMem
    ∧ t.pending = s.pending ∧ t.flt.log = s.flt.log ∧ t.reg FLT_LOG_TOTAL = s.reg FLT_LOG_TOTAL ∧ t.reg CLK_RST_CAUSE = 1)
  ∧ (∀ (n : Nat) (s : State), s.clk.phase = .running → 10000 ≤ n → ∃ t, exec (.resetNAssert n) s = .next t
    ∧ t.clk.phase = .inReset ∧ t.flag CLK_RST_CAUSE_reset_n = true
    ∧ OnlyRegs [CLK_RST_CAUSE, FLT_LOG_STAT, FLT_LOG_TOTAL] State.reset t ∧ t.reg FLT_LOG_TOTAL = s.reg FLT_LOG_TOTAL
    ∧ t.flt.log = s.flt.log ∧ t.tap = s.tap ∧ t.otp = s.otp ∧ t.hostMem = s.hostMem ∧ t.pending = s.pending)
  ∧ (∀ (n : Nat) (s : State), n < 1000 → exec (.resetNAssert n) s = .next s)
  ∧ (∀ (b : Bool) (s : State), ∃ t, exec (.supplyFall ⟨b, true⟩) s = .next t ∧ t.clk.phase = .unpowered
    ∧ OnlyRegs [] State.reset t ∧ t.flt.log = [] ∧ t.otp = s.otp ∧ t.hostMem = s.hostMem)
  ∧ (∀ s : State, exec (.supplyFall ⟨false, false⟩) s = .next s)
  ∧ (∀ s : State, s.running = true → s.fabricLive = true → s.rd SAF_STAT_state ≠ 4 → ∃ t e,
    exec (.supplyFall ⟨true, false⟩) s = .next t ∧ t.clk = s.clk ∧ t.flag CLK_RST_CAUSE_supply = true ∧ t.rd SAF_STAT_state = 4
      ∧ t.rd SAF_STAT_ifault = 6 ∧ (∀ o, o < 4 → t.flag (SAF_OUT_STAT_drv o) = false) ∧ t.flag SAF_STAT_len_drv = false
      ∧ t.flt.log = logRoom s.flt.log ++ [e] ∧ e.w0.toNat % 256 = 0x50 ∧ e.cls = 5 ∧ t.otp = s.otp ∧ t.hostMem = s.hostMem)
  ∧ (∀ s : State, s.running = true → s.fabricLive = false → s.rd SAF_STAT_state ≠ 4 → ∃ t,
    exec (.supplyFall ⟨true, false⟩) s = .next t ∧ t.clk = s.clk ∧ t.flag CLK_RST_CAUSE_supply = true ∧ t.rd SAF_STAT_state = 4
      ∧ t.rd SAF_STAT_ifault = 6 ∧ t.flt = s.flt ∧ t.otp = s.otp ∧ t.hostMem = s.hostMem)
  ∧ (∀ s : State, s.running = true → s.rd SAF_STAT_state = 4 → ∃ t, exec (.supplyFall ⟨true, false⟩) s = .next t
    ∧ t.flag CLK_RST_CAUSE_supply = true ∧ OnlyRegs [CLK_RST_CAUSE] s t ∧ OnlyChanges [.regs] s t)

/-- The release of RESET_N runs the device: the log is checked (an intact log counts the boot, else the log starts empty) and
a burned eye-safety set is loaded into the registers of the set and judged by its CRC (R195, R570, R598, R646).
Rests also on the model's readings and choices in notes/assumptions: 3, 5, 19, 93, 94. -/
def Obligations.ResetRelease : Prop :=
  (∀ s : State, s.clk.phase = .inReset → s.flt.logIntact = true → s.otp.eye = none → ∃ t, exec .resetNRelease s = .next t
    ∧ t.clk = { s.clk with phase := .running } ∧ t.rd FLT_LOG_STAT_boot = (s.rd FLT_LOG_STAT_boot + 1) % 256
    ∧ OnlyRegs [FLT_LOG_STAT, SAF_CTL] s t ∧ t.flt = s.flt)
  ∧ (∀ s : State, s.clk.phase = .inReset → s.flt.logIntact = false → ∃ t, exec .resetNRelease s = .next t
    ∧ t.clk = { s.clk with phase := .running } ∧ t.flt.log = [] ∧ t.flt.logIntact = true ∧ t.reg FLT_LOG_TOTAL = 0
    ∧ t.rd FLT_LOG_STAT_boot = 0 ∧ (s.otp.eye = none → OnlyRegs [FLT_LOG_STAT, FLT_LOG_TOTAL, SAF_CTL] s t)
    ∧ t.flt = { s.flt with log := [], logIntact := true })
  ∧ (∀ (s : State) (ws : List Word) (crc : BitVec 16), s.clk.phase = .inReset → s.otp.eye = some (ws, crc) →
    ws.length = 37 → ∃ t, exec .resetNRelease s = .next t ∧ t.rd EYE_LOCK_state = (if eyeCrc ws = crc then 1 else 2)
      ∧ t.rd EYE_LOCK_crc = crc.toNat ∧ (eyeCrc ws = crc → t.eyeWords = ws)
      ∧ OnlyRegs (EYE_LOCK :: FLT_LOG_STAT :: FLT_LOG_TOTAL :: SAF_CTL :: (List.range 37).map (fun i => 0x7800 + 4 * i)) s t
      ∧ OnlyChanges [.regs, .clk, .flt] s t ∧ t.otp = s.otp)

/-- The fabric domain starts: its PLL locks (a locked set whose CRC failed is logged then), it serves accesses, Churn's banks
are cleared; the safety reports and events that waited leave, in order, while the record FIFO has room for them (R195, R524, R525,
R551, R553, R586, R590).
The safety block and the housekeeping bank become ready; without a burned set the safety block is INVALID, a burned one is loaded and
judged by its CRC: RUN, or INVALID with CRC_BAD; what was found before the fabric domain runs is logged with its start (R472, R518,
R523, R551, R598).
Rests also on the model's readings and choices in notes/assumptions: 19, 33, 34, 95, 111. -/
def Obligations.StartUp : Prop :=
  (∀ s : State, s.running = true → s.clk.xtalLost = false → s.rd EYE_LOCK_state ≠ 2 → s.rd SAF_CTL_otp_state ≠ 2 →
    s.rd SAF_STAT_ifault = 0 → ∃ t, exec .fabricPllLock s = .next t ∧ t.fabricLive = true ∧ t.flag CLK_STAT_xtal = true
      ∧ OnlyChanges [.regs, .host, .saf] s t ∧ t.saf = { s.saf with reps := [] }
      ∧ (s.saf.reps = [] → OnlyRegs [CLK_STAT] s t ∧ t.host = s.host)
      ∧ (∀ l : List (List Word), s.saf.reps = l.map SafItem.report → s.host.recs.length + l.length ≤ 1024 →
          OnlyRegs [CLK_STAT] s t
            ∧ t.host = { s.host with recs := s.host.recs ++ l.map (fun ws => ⟨.pf1, s.safRing, 6, ws, none, 0, false⟩) })
      ∧ (∀ (typ index : Nat) (ws : List Word), s.saf.reps = [.event typ index ws] → s.host.recs.length + 2 ≤ 1024 →
          (s.ring (s.evtRing .pf0)).st = .enabled → (s.ring (s.evtRing .pf1)).st = .enabled →
          t.host.recs = s.host.recs ++ [⟨.pf0, s.evtRing .pf0, 3, s.eventWords typ 7 index ws, none, 0, false⟩,
            ⟨.pf1, s.evtRing .pf1, 3, s.eventWords typ 7 index ws, none, 0, false⟩]))
  ∧ (∀ s : State, s.running = true → s.clk.xtalLost = false → s.flag CLK_STAT_fpll = false → s.rd EYE_LOCK_state = 2 →
    s.rd SAF_CTL_otp_state ≠ 2 → s.rd SAF_STAT_ifault = 0 → ∃ t e, exec .fabricPllLock s = .next t
      ∧ t.flt.log = logRoom s.flt.log ++ [e] ∧ e.w0.toNat % 256 = 0x52 ∧ e.cls = 5
      ∧ OnlyRegs (CLK_STAT :: logRegs) s t)
  ∧ (∀ s : State, s.fabricLive = true → ∃ t, exec .registerFabricReady s = .next t ∧ t.flag GLB_READY_fabric = true
    ∧ (s.flag GLB_READY_fabric = false → t.flag HIF_IRQ_STAT_ready = true)
    ∧ (s.flag HIF_LINK_up = true → t.flag GLB_READY_link = true)
    ∧ (s.flag HIF_LINK_up = false → OnlyRegs readyRegs s t)
    ∧ OnlyRegs (HIF_FN_STAT 0 :: HIF_FN_STAT 1 :: readyRegs) s t)
  ∧ (∀ s : State, s.fabricReady = true → s.flag GLB_READY_churn = false → ∃ t, exec .churnReady s = .next t
    ∧ t.flag GLB_READY_churn = true ∧ (∀ c b, t.bankByte c b = 0) ∧ t.flag HIF_IRQ_STAT_ready = true
    ∧ OnlyRegs readyRegs s t)
  ∧ (∀ s : State, s.running = true → s.flag GLB_READY_safety = false → ∃ t, exec .safetyBlockReady s = .next t
    ∧ t.flag GLB_READY_safety = true ∧ (s.rd SAF_STAT_state = 0 → s.otp.saf = none → t.rd SAF_STAT_state = 1)
    ∧ (s.rd SAF_STAT_state = 0 → s.otp.saf = none → OnlyRegs (SAF_STAT :: readyRegs) s t))
  ∧ (∀ s : State, s.fabricReady = true → s.flag GLB_READY_hk = false → s.hk.resetting = false →
    ∃ t, exec .housekeepingReady s = .next t ∧ t.flag GLB_READY_hk = true ∧ OnlyRegs (HK_STAT :: readyRegs) s t
      ∧ ((∀ j, j < 32 → entMode (s.reg (HK_ENT j)) = 0) → t.rd HK_STAT_state = 0))
  ∧ (∀ (ws : List (Nat × Word)) (crc : Word) (s : State), s.running = true → s.flag GLB_READY_safety = false →
    s.rd SAF_STAT_state = 0 → s.otp.saf = some (ws, crc) → setCrc (setTable ws) = crc → ∃ t, exec .safetyBlockReady s = .next t
      ∧ t.flag GLB_READY_safety = true ∧ t.rd SAF_STAT_state = 2 ∧ t.flag SAF_STAT_cfg_valid = true ∧ t.rd SAF_CTL_otp_state = 1
      ∧ t.reg SAF_CRC = crc ∧ t.saf.active = setTable ws ∧ (∀ i, i < 8 → t.rd (SAF_PAIR_STAT_state i) = 0) ∧ t.flt = s.flt)
  ∧ (∀ (ws : List (Nat × Word)) (crc : Word) (s : State), s.running = true → s.flag GLB_READY_safety = false →
    s.fabricLive = true → s.rd SAF_STAT_state = 0 → s.otp.saf = some (ws, crc) → setCrc (setTable ws) ≠ crc → ∃ t e,
      exec .safetyBlockReady s = .next t ∧ t.flag GLB_READY_safety = true ∧ t.rd SAF_STAT_state = 1 ∧ t.rd SAF_CTL_otp_state = 2
      ∧ t.flt.log = logRoom s.flt.log ++ [e] ∧ e.w0.toNat % 256 = 0x51 ∧ e.cls = 5
      ∧ OnlyRegs (SAF_STAT :: SAF_CTL :: (logRegs ++ readyRegs)) s t ∧ t.saf.active = s.saf.active)
  ∧ (∀ (ws : List (Nat × Word)) (crc : Word) (s : State), s.running = true → s.flag GLB_READY_safety = false →
    s.fabricLive = false → s.rd SAF_STAT_state = 0 → s.otp.saf = some (ws, crc) → setCrc (setTable ws) ≠ crc → ∃ t,
      exec .safetyBlockReady s = .next t ∧ t.rd SAF_STAT_state = 1 ∧ t.rd SAF_CTL_otp_state = 2 ∧ t.flt = s.flt
      ∧ t.saf.active = s.saf.active)
  ∧ (∀ s : State, s.running = true → s.clk.xtalLost = false → s.flag CLK_STAT_fpll = false → s.rd EYE_LOCK_state ≠ 2 →
    s.rd SAF_CTL_otp_state = 2 → s.rd SAF_STAT_ifault = 0 → ∃ t e, exec .fabricPllLock s = .next t
      ∧ t.flt.log = logRoom s.flt.log ++ [e] ∧ e.w0.toNat % 256 = 0x51 ∧ e.cls = 5)
  ∧ (∀ s : State, s.running = true → s.clk.xtalLost = false → s.flag CLK_STAT_fpll = false → s.rd EYE_LOCK_state ≠ 2 →
    s.rd SAF_CTL_otp_state ≠ 2 → s.rd SAF_STAT_ifault ≠ 0 → ∃ t e, exec .fabricPllLock s = .next t
      ∧ t.flt.log = logRoom s.flt.log ++ [e] ∧ e.w0.toNat % 256 = 0x50 ∧ e.cls = 5
      ∧ e.w2.toNat / 512 = s.rd SAF_STAT_ifault)
  ∧ (∀ s : State, s.running = true → s.clk.xtalLost = false → s.flag CLK_STAT_fpll = false → s.rd EYE_LOCK_state = 2 →
    s.rd SAF_CTL_otp_state = 2 → s.rd SAF_STAT_ifault ≠ 0 → s.flt.log.length < 254 → ∃ t e f g, exec .fabricPllLock s = .next t
      ∧ t.flt.log = s.flt.log ++ [e, f, g] ∧ e.w0.toNat % 256 = 0x50 ∧ f.w0.toNat % 256 = 0x51 ∧ g.w0.toNat % 256 = 0x52)

/-- The REFCLK monitors: a good gate counts towards recovery, the 25th finds REFCLK; a bad gate is noted, the second in a row
or 80 clocks without a toggle lose it, and a crate in STARTING or STOPPING is OFF with the loss, its test tone at an end (the model's
choice of log 120); no trigger or sync pulse outlasts the loss (R80 to R82, R598, R647).
Rests also on the model's readings and choices in notes/assumptions: 34, 62, 95, 120. -/
def Obligations.RefclkMonitors : Prop :=
  (∀ (n : Nat) (s : State), s.fabricLive = true → s.flag CLK_STAT_refclk = false → 245 ≤ n → n ≤ 255 → s.clk.goodRun < 24 →
    ∃ t, exec (.refclkGateEnd n) s = .next t ∧ t.clk = { s.clk with goodRun := s.clk.goodRun + 1 } ∧ OnlyChanges [.clk] s t)
  ∧ (∀ (n : Nat) (s : State), s.fabricLive = true → s.flag CLK_STAT_refclk = false → n < 245 ∨ 255 < n →
    ∃ t, exec (.refclkGateEnd n) s = .next t ∧ t.clk = { s.clk with goodRun := 0 } ∧ OnlyChanges [.clk] s t)
  ∧ (∀ (n : Nat) (s : State), s.fabricLive = true → s.flag CLK_STAT_refclk = false → 245 ≤ n → n ≤ 255 → s.clk.goodRun = 24 →
    s.clk.everPresent = false → ∃ t, exec (.refclkGateEnd n) s = .next t ∧ t.flag CLK_STAT_refclk = true
      ∧ t.clk.everPresent = true ∧ OnlyRegs [CLK_STAT] s t ∧ t.flt.log = s.flt.log)
  ∧ (∀ (n : Nat) (s : State), s.fabricLive = true → s.flag CLK_STAT_refclk = true → n < 245 ∨ 255 < n → s.clk.badRun = 0 →
    ∃ t, exec (.refclkGateEnd n) s = .next t ∧ t.clk = { s.clk with badRun := 1 } ∧ OnlyChanges [.clk] s t)
  ∧ (∀ s : State, s.running = true → s.flag CLK_STAT_refclk = true → ∃ t, exec .refclkLost s = .next t
    ∧ t.flag CLK_STAT_refclk = false ∧ t.flag CLK_STAT_tpll = false ∧ t.timingLive = false ∧ t.reg GLB_READY_CRT = 0
    ∧ t.flag GLB_READY_motor = false ∧ t.engine = 0 ∧ t.clk.earlyClose = true ∧ t.flag CLK_STAT_holdover = true
    ∧ t.rd CLK_STAT_ref_loss = min (s.rd CLK_STAT_ref_loss + 1) 255
    ∧ (∀ e, e < 32 → (t.emit e).committed = false ∧ (t.emit e).pulse = none) ∧ t.shot.syncPulse = none
    ∧ (∀ c, c < 32 → s.cratePwr c = 1 ∨ s.cratePwr c = 3 → t.cratePwr c = 0 ∧ t.flag (CRT_TONE_CTL_busy c) = false
        ∧ (t.crate c).tone = none))
  ∧ (∀ (n : Nat) (s : State), s.fabricLive = true → s.flag CLK_STAT_refclk = true → n < 245 ∨ 255 < n → 1 ≤ s.clk.badRun →
    exec (.refclkGateEnd n) s = exec .refclkLost s)

/-- The timing domain: lock of its PLL makes it and the crates that stayed ON ready; device time passes to the fabric copy;
after a second lock device time goes on from the fabric copy and each slice of a crate that stayed ON takes its first calibration;
what its registers held back while it had no clock they show; open dwells close early; a lost crystal stops both domains until a reset, and posts and logs nothing (R79, R82, R83, R437, R588,
R593, R594, R598).
Rests also on the model's readings and choices in notes/assumptions: 9, 33, 34, 45, 95, 107, 119, 122. -/
def Obligations.TimingDomain : Prop :=
  (∀ s : State, s.fabricReady = true → s.flag CLK_STAT_refclk = true → s.flag GLB_READY_tpll = false → s.clk.everLocked = false →
    (∀ c, c < 32 → s.cratePwr c = 0 ∧ (s.crate c).modeDue = false) →
    (∀ e, e < 32 → s.flag (CHG_CFG_en e) = false ∧ s.chgState e = 0) →
    ∃ t, exec .timingPllLock s = .next t ∧ t.timingLive = true ∧ t.flag CLK_STAT_tpll = true ∧ t.flag CLK_STAT_holdover = false
      ∧ t.clk = { s.clk with everLocked := true, copyHold := none }
      ∧ t.flag SHT_STATUS_swap_pend = s.shot.swap.isSome
      ∧ OnlyRegs (CLK_STAT :: SHT_STATUS :: SHT_BANK_LEN :: SHT_SWAP_RND :: readyRegs) s t)
  ∧ (∀ (s : State) (c : CrateId), s.fabricReady = true → s.flag CLK_STAT_refclk = true → s.flag GLB_READY_tpll = false →
    s.cratePwr c = 2 → s.flag (crateReqField c) = true → ∃ t, exec .timingPllLock s = .next t ∧ t.timingLive = true
      ∧ t.crateReady c = true ∧ t.cratePwr c = 2 ∧ (∀ i, i < 17 → (t.slice c i).width = (s.slice c i).width))
  ∧ (∀ (s : State) (c : CrateId), s.fabricReady = true → s.flag CLK_STAT_refclk = true → s.flag GLB_READY_tpll = false →
    s.clk.everLocked = true → s.cratePwr c = 2 → s.flag (crateReqField c) = true → ∃ t, exec .timingPllLock s = .next t
      ∧ t.timingLive = true ∧ t.flag CLK_STAT_holdover = false
      ∧ t.clk = { s.clk with devTime := s.clk.devCopy, copyHold := none }
      ∧ (∀ i, i < 17 → t.slice c i = { s.slice c i with firstCal := true }))
  ∧ (∀ s : State, s.fabricLive = true → s.timingLive = true → s.clk.devCopy ≤ s.clk.devTime → ∃ t,
    exec .deviceTimeSync s = .next t ∧ t.clk = { s.clk with devCopy := s.clk.devTime, copyHold := none }
      ∧ OnlyChanges [.clk] s t)
  ∧ (∀ s : State, s.fabricLive = true → s.timingLive = true → s.clk.devTime < s.clk.devCopy → ∃ t,
    exec .deviceTimeSync s = .next t ∧ t.clk = { s.clk with copyHold := some s.clk.devTime } ∧ OnlyChanges [.clk] s t)
  ∧ (∀ s : State, s.fabricLive = true → s.clk.earlyClose = true → ∃ t, exec .earlyDwellClose s = .next t
    ∧ t.clk = { s.clk with earlyClose := false }
    ∧ (∀ c, c < 32 → (t.crate c).dwell = none ∧ (t.crate c).dwellNext = none ∧ (t.crate c).descQ = (s.crate c).descQ)
    ∧ (∀ c d, c < 32 → (s.crate c).dwell = some d → (s.crate c).dwellNext = none →
        (t.crate c).fifo.length = (s.crate c).fifo.length + 1))
  ∧ (∀ s : State, s.running = true → s.clk.xtalLost = false → ∃ t, exec .xtalLost s = .next t ∧ t.clk.xtalLost = true
    ∧ t.fabricLive = false ∧ t.timingLive = false ∧ t.flag CLK_STAT_xtal = false ∧ t.flag CLK_RST_CAUSE_xtal_lost = true
    ∧ t.engine = 0 ∧ t.flt = s.flt ∧ t.host = s.host ∧ t.reg GLB_READY_CRT = 0
    ∧ (∀ e, e < 32 → (t.emit e).pulse = none) ∧ t.shot.syncPulse = none)
  ∧ (∀ (s t : State), s.clk.xtalLost = true → (∀ c r, s.pending = c :: r → c ≠ .powerOn ∧ (∀ n, c ≠ .resetNAssert n)
    ∧ (∀ d, c ≠ .supplyFall d)) → step s = .next t → t.clk.xtalLost = true ∧ t.fabricLive = false)

/-- Crate power: a request is stored whole and clears the ready bits of crates that leave ON; a crate that may leave OFF, 0.1 ms
after the one before, starts with its bank and channels cleared, each channel at range 3, and its status shown anew (log 120); a crate ON whose request is taken back stops; the end of STARTING gives ON and the ready bit; STOPPING ends once Churn holds
nothing of the crate, and with it a test tone (log 120) (R39, R602, R603, R645).
Rests also on the model's readings and choices in notes/assumptions: 95, 96, 104, 119, 120. -/
def Obligations.CratePower : Prop :=
  (∀ (q : Src) (v : Word) (s : State), s.serves q = true → s.timingLive = false → ∃ t,
    exec (.cratePowerRequest q v) s = .next t ∧ t.reg CLK_CRT_PWR = v ∧ OnlyRegs (CLK_CRT_PWR :: readyRegs) s t)
  ∧ (∀ (q : Src) (v : Word) (s : State) (c : CrateId), s.serves q = true → s.timingLive = true → s.cratePwr c = 2 →
    v.getLsbD c = false → ∃ t, exec (.cratePowerRequest q v) s = .next t ∧ t.reg CLK_CRT_PWR = v ∧ t.cratePwr c = 3
      ∧ t.crateReady c = false ∧ (t.crate c).win = none)
  ∧ (∀ (c : CrateId) (s : State), s.cratePwr c = 0 → s.flag (crateReqField c) = true → s.timingLive = true →
    s.flag GLB_READY_churn = true → (∀ d, d < c.val → s.mayLeave d = false) →
    (∀ p, s.clk.lastLeft = some p → p.1 = c.val ∨ p.2 + 10000 ≤ s.clk.tick) → ∃ t, exec (.cratePowerUpStart c) s = .next t
      ∧ t.cratePwr c = 1 ∧ t.clk = { s.clk with lastLeft := some (c.val, s.clk.tick) } ∧ t.flag (CRT_FE_STAT_settling c) = false
      ∧ t.rd (CRT_SPR_STAT_mm_ct c) = min (s.rd (CRT_SPR_STAT_mm_ct c) + (s.crate c).mmOwed) 255
      ∧ OnlyRegs ((cratePwrField c).addr :: CRT_FE_STAT c :: CRT_SPR_STAT c :: (chanNos.map (fun k => CHN_FE_STAT c k)
          ++ (List.range 17).map (fun i => (TDC_STATE_role c i).addr))) s t
      ∧ (∀ k, k < 16 → (t.chan c k).st = .off ∧ t.rd (CHN_FE_STAT_ar_range c k) = 3 ∧ t.rd (CHN_FE_STAT_ar_count c k) = 0)
      ∧ (∀ b, b < 65536 → t.bankByte c b = 0) ∧ (∀ d b, d ≠ c.val → t.bankByte d b = s.bankByte d b)
      ∧ (∀ d k, k < 16 → d ≠ c.val → t.chan d k = s.chan d k))
  ∧ (∀ (c : CrateId) (s : State) (p : Nat × Nat), s.clk.lastLeft = some p → p.1 ≠ c.val → s.clk.tick < p.2 + 10000 →
    exec (.cratePowerUpStart c) s = .next s)
  ∧ (∀ (c : CrateId) (m : List SelfTest) (s : State), s.timingLive = true → s.cratePwr c = 1 → ∃ t,
    exec (.crateStartingDone c m) s = .next t ∧ t.cratePwr c = 2 ∧ t.crateReady c = true
      ∧ (∀ d, d ≠ c.val → t.crate d = s.crate d) ∧ (∀ d k, k < 16 → d ≠ c.val → t.chan d k = s.chan d k))
  ∧ (∀ (c : CrateId) (s : State), s.timingLive = true → s.cratePwr c = 3 → (s.crate c).fifo = [] → (s.crate c).cur = none →
    (s.crate c).descQ = [] → (s.crate c).xq = [] → (s.crate c).dwell = none → (∀ k, k < 16 → (s.chan c k).pend = []) →
    ∃ t, exec (.crateStoppingDone c) s = .next t ∧ t.cratePwr c = 0
      ∧ t.flag (CRT_TONE_CTL_busy c) = false ∧ t.crate c = { s.crate c with tone := none }
      ∧ OnlyRegs [(cratePwrField c).addr, CRT_TONE_CTL c] s t ∧ OnlyCrates [c.val] s t ∧ OnlyChanges [.regs, .crates] s t)

/-- The IEEE 1149.1 port answers whatever else the device does: each instruction stands in the instruction register, IDCODE
reads 0x25120B67, nothing but the port changes; a scan captures the level of each ball that the device drives and the board's of each
other one; under EXTEST the balls whose cells only observe keep their reset levels, and IRQ_N is open-drain (R403, R596, R597,
R631).
Rests also on the model's readings and choices in notes/assumptions: 97, 113. -/
def Obligations.TestAccessPort : Prop :=
  (∀ s : State, s.clk.phase ≠ .unpowered → ∃ t, exec .tapReset s = .next t
    ∧ t.tap = { s.tap with ir := 0b0010, bypass := false, dr := 0x25120B67 } ∧ OnlyChanges [.tap] s t)
  ∧ (∀ (scan : Option BoundaryScan) (s : State), s.clk.phase ≠ .unpowered → ∃ t, exec (.jtagExtest scan) s = .next t
    ∧ t.tap.ir = 0b0000 ∧ t.tap.bypass = s.tap.bypass ∧ t.tap.dr = s.tap.dr ∧ OnlyChanges [.tap] s t
    ∧ (scan = none → t.tap = { s.tap with ir := 0b0000 })
    ∧ (∀ x, scan = some x → t.tap.driven = boundaryWord x.load
        ∧ (∀ i (hi : i < boundaryBalls.length), boundaryBalls[i].observesOnly = false → boundaryBalls[i] ≠ .irqN →
            boundaryBalls[i].resetLevel ≠ none →
            t.tap.boundary.getD i false = s.tap.driven.getD i false)
        ∧ (∀ i (hi : i < boundaryBalls.length), boundaryBalls[i].resetLevel = none →
            t.tap.boundary.getD i false = x.pins.getD i false))
    ∧ (∀ b x, b.observesOnly = true → t.ballLevel b x = b.resetLevel)
    ∧ (∀ b x, b.observesOnly = false → b.resetLevel ≠ none → b ≠ .irqN →
        t.ballLevel b x = some (levelOf (t.tap.driven.getD (boundaryBalls.idxOf b) false)))
    ∧ (∀ x, t.ballLevel .irqN x = some (if t.tap.driven.getD (boundaryBalls.idxOf .irqN) false then .floating else .low)))
  ∧ (∀ (pins pre : List Bool) (s : State), s.clk.phase ≠ .unpowered → ∃ t, exec (.jtagSamplePreload pins pre) s = .next t
    ∧ t.tap = { s.tap with ir := 0b0001, boundary := t.tap.boundary, driven := boundaryWord pre } ∧ OnlyChanges [.tap] s t
    ∧ (s.running = false → ∀ i (hi : i < boundaryBalls.length), t.tap.boundary.getD i false = (match boundaryBalls[i].resetLevel with
        | some .high => true
        | some .low => false
        | some .floating | none => pins.getD i false))
    ∧ (s.running = true → ∀ i (hi : i < boundaryBalls.length), t.tap.boundary.getD i false =
        (match s.runLevel boundaryBalls[i] s.nowLsb with
        | some .high => true
        | some .low => false
        | some .floating | none => pins.getD i false)))
  ∧ (∀ s : State, s.clk.phase ≠ .unpowered → ∃ t, exec .jtagIdcode s = .next t
    ∧ t.tap = { s.tap with ir := 0b0010, dr := 0x25120B67 } ∧ OnlyChanges [.tap] s t)
  ∧ (∀ s : State, s.clk.phase ≠ .unpowered → ∃ t, exec .jtagBypass s = .next t
    ∧ t.tap = { s.tap with ir := 0b1111, bypass := false } ∧ OnlyChanges [.tap] s t)

/-- The front-end mode of a quiesced crate that is not OFF: a change starts the settling time and marks the ambient frame in progress of every
channel not valid, and every channel is at range 3 with no quiet events; while the timing domain has no clock the change
waits; a crate that is OFF takes the mode and holds its status (log 120); a crate that is not quiesced refuses the write; the
settling times end (R31, R32, R39, R56, R58, R77, R590, R611).
Rests also on the model's readings and choices in notes/assumptions: 2, 76, 100, 120. -/
def Obligations.FrontEndMode : Prop :=
  (∀ (q : Src) (c : CrateId) (v : Word) (s : State), s.serves q = true → s.quiesced c = true → s.timingLive = true →
    s.cratePowered c = true → (CRT_FE_fe_mode c).get v ≠ s.rd (CRT_FE_fe_mode c) → ∃ t, exec (.feModeWrite q c v) s = .next t
      ∧ t.rd (CRT_FE_fe_mode c) = (CRT_FE_fe_mode c).get v ∧ t.flag (CRT_FE_STAT_settling c) = true
      ∧ (∀ k, k < 16 → t.rd (CHN_FE_STAT_ar_range c k) = 3 ∧ t.rd (CHN_FE_STAT_ar_count c k) = 0
          ∧ t.chan c k = { s.chan c k with prevRange := none, ambInvalid := true })
      ∧ t.crate c = { s.crate c with modeDue := false } ∧ OnlyCrates [c.val] s t
      ∧ OnlyRegs (CRT_FE c :: CRT_FE_STAT c :: chanNos.map (fun k => CHN_FE_STAT c k)) s t
      ∧ OnlyChans (chanNos.map (fun k => (c.val, k))) s t)
  ∧ (∀ (q : Src) (c : CrateId) (v : Word) (s : State), s.serves q = true → s.quiesced c = true → s.timingLive = true →
    s.cratePwr c = 0 → (CRT_FE_fe_mode c).get v ≠ s.rd (CRT_FE_fe_mode c) → ∃ t, exec (.feModeWrite q c v) s = .next t
      ∧ t.rd (CRT_FE_fe_mode c) = (CRT_FE_fe_mode c).get v ∧ t.crate c = { s.crate c with modeDue := false }
      ∧ OnlyRegs [CRT_FE c] s t ∧ OnlyCrates [c.val] s t ∧ OnlyChanges [.regs, .crates] s t)
  ∧ (∀ (q : Src) (c : CrateId) (v : Word) (s : State), s.serves q = true → s.quiesced c = true → s.timingLive = false →
    (CRT_FE_fe_mode c).get v ≠ s.rd (CRT_FE_fe_mode c) → ∃ t, exec (.feModeWrite q c v) s = .next t
      ∧ t.rd (CRT_FE_fe_mode c) = (CRT_FE_fe_mode c).get v ∧ t.crate c = { s.crate c with modeDue := true }
      ∧ OnlyRegs [CRT_FE c] s t ∧ OnlyCrates [c.val] s t ∧ OnlyChanges [.regs, .crates] s t)
  ∧ (∀ (q : Src) (c : CrateId) (v : Word) (s : State), s.serves q = true → s.quiesced c = true → (s.crate c).modeDue = false →
    (CRT_FE_fe_mode c).get v = s.rd (CRT_FE_fe_mode c) → ∃ t, exec (.feModeWrite q c v) s = .next t ∧ OnlyRegs [] s t
      ∧ OnlyChanges [.regs] s t)
  ∧ (∀ (q : Src) (c : CrateId) (v : Word) (s : State), s.serves q = true → s.quiesced c = false →
    ∃ t, exec (.feModeWrite q c v) s = .next t ∧ OnlyRegs refuseRegs s t
      ∧ t.rd GLB_WR_REFUSE_addr = (0x10010 + 0x1000 * c.val) / 4 ∧ t.rd GLB_WR_REFUSE_src = srcIdx q
      ∧ OnlyChanges [.regs, .host, .flt] s t)
  ∧ (∀ (c : CrateId) (s : State), s.cratePwr c = 0 → exec (.crateSettleEnd c) s = .next s)
  ∧ (∀ (c : CrateId) (s : State), s.timingLive = true → s.cratePwr c ≠ 0 → ∃ t, exec (.crateSettleEnd c) s = .next t
    ∧ t.flag (CRT_FE_STAT_settling c) = false ∧ OnlyRegs [CRT_FE_STAT c] s t ∧ OnlyChanges [.regs] s t)
  ∧ (∀ (c : CrateId) (k : ChanId) (s : State), s.timingLive = true → (s.chan c k).st = .settling →
    ∃ t, exec (.channelSettleEnd c k) s = .next t ∧ t.chan c k = { s.chan c k with st := .idle }
      ∧ OnlyChans [(c.val, k.val)] s t ∧ OnlyChanges [.chans] s t)

/-- An ambient frame delivers each powered, enabled channel's mean current in steps of 2 nA with its out-of-range flags (above full scale over, below −2 nA under, and 0 with neither from
there up to 0) and its validity, and an OFF channel no valid result (R54 to R56).
Rests also on the model's readings and choices in notes/assumptions: 10, 54, 96, 120. -/
def Obligations.AmbientFrames : Prop :=
  (∀ (m : List AmbientMean) (s : State) (c : CrateId) (k : ChanId), s.fabricLive = true → s.cratePowered c = true →
    (s.chan c k).st ≠ .off → 0 ≤ m.getD (16 * c.val + k.val) 0 → m.getD (16 * c.val + k.val) 0 < 2000 * 2 ^ 20 →
    ∃ t, exec (.ambientFrameEnd m) s = .next t ∧ (t.rd (CHN_AMB_amb c k) : Int) = m.getD (16 * c.val + k.val) 0 / 2000
      ∧ t.flag (CHN_AMB_over c k) = false ∧ t.flag (CHN_AMB_under c k) = false
      ∧ t.flag (CHN_AMB_valid c k) = !(s.chan c k).ambInvalid)
  ∧ (∀ (m : List AmbientMean) (s : State) (c : CrateId) (k : ChanId), s.fabricLive = true → s.cratePowered c = true →
    (s.chan c k).st ≠ .off → 2000 * 2 ^ 20 ≤ m.getD (16 * c.val + k.val) 0 → ∃ t, exec (.ambientFrameEnd m) s = .next t
      ∧ t.rd (CHN_AMB_amb c k) = 0xFFFFF ∧ t.flag (CHN_AMB_over c k) = true ∧ t.flag (CHN_AMB_under c k) = false)
  ∧ (∀ (m : List AmbientMean) (s : State) (c : CrateId) (k : ChanId), s.fabricLive = true → s.cratePowered c = true →
    (s.chan c k).st = .off → ∃ t, exec (.ambientFrameEnd m) s = .next t ∧ t.flag (CHN_AMB_valid c k) = false
      ∧ t.rd (CHN_AMB_amb c k) = s.rd (CHN_AMB_amb c k))
  ∧ (∀ (m : List AmbientMean) (s : State) (c : CrateId) (k : ChanId), s.fabricLive = true → s.cratePowered c = true →
    (s.chan c k).st ≠ .off → -2000 ≤ m.getD (16 * c.val + k.val) 0 → m.getD (16 * c.val + k.val) 0 < 0 →
    ∃ t, exec (.ambientFrameEnd m) s = .next t ∧ t.rd (CHN_AMB_amb c k) = 0
      ∧ t.flag (CHN_AMB_over c k) = false ∧ t.flag (CHN_AMB_under c k) = false)
  ∧ (∀ (m : List AmbientMean) (s : State) (c : CrateId) (k : ChanId), s.fabricLive = true → s.cratePowered c = true →
    (s.chan c k).st ≠ .off → m.getD (16 * c.val + k.val) 0 < -2000 → ∃ t, exec (.ambientFrameEnd m) s = .next t
      ∧ t.rd (CHN_AMB_amb c k) = 0 ∧ t.flag (CHN_AMB_over c k) = false ∧ t.flag (CHN_AMB_under c k) = true)

/-- A test tone: its start on a quiesced crate that is neither busy nor OFF, its refusal on a busy one, the codes of each enabled
channel's trim DAC during the check, and its end with each enabled channel's measurements and the verdict of R63 in its order, OPEN, SHORT,
LEAKY, OK; a crate that is not quiesced refuses the start; an OFF crate begins no check: the model's choice of log 120 (R61 to R63).
Rests also on the model's readings and choices in notes/assumptions: 10, 55, 120. -/
def Obligations.TestTone : Prop :=
  (∀ (q : Src) (c : CrateId) (v : Word) (s : State), s.serves q = true → (CRT_TONE_CTL_start c).get v = 1 →
    s.flag (CRT_TONE_CTL_busy c) = false → s.quiesced c = true → s.cratePwr c ≠ 0 → ∃ t, exec (.toneStart q c v) s = .next t
      ∧ t.flag (CRT_TONE_CTL_busy c) = true ∧ t.rd (CRT_TONE_CTL_g_max c) = (CRT_TONE_CTL_g_max c).get v
      ∧ t.crate c = { s.crate c with tone := some ((CRT_TONE_CTL_g_max c).get v) }
      ∧ OnlyRegs [CRT_TONE_CTL c] s t ∧ OnlyCrates [c.val] s t ∧ OnlyChans (chanNos.map (fun k => (c.val, k))) s t)
  ∧ (∀ (c : CrateId) (k : ChanId) (g : Nat) (s : State), (s.crate c).tone = some g → (s.chan c k).st ≠ .off →
    s.trimDac c k false = min 255 (s.rd (CHN_BIAS_trim_eff c k) + 2) ∧ s.trimDac c k true = s.rd (CHN_BIAS_trim_eff c k) - 2)
  ∧ (∀ (c : CrateId) (k : ChanId) (b : Bool) (s : State), (s.crate c).tone = none ∨ (s.chan c k).st = .off →
    s.trimDac c k b = s.rd (CHN_BIAS_trim_eff c k))
  ∧ (∀ (q : Src) (c : CrateId) (v : Word) (s : State), s.serves q = true → (CRT_TONE_CTL_start c).get v = 1 →
    s.flag (CRT_TONE_CTL_busy c) = false → s.quiesced c = true → s.cratePwr c = 0 → ∃ t, exec (.toneStart q c v) s = .next t
      ∧ t.flag (CRT_TONE_CTL_busy c) = false ∧ OnlyRegs [CRT_TONE_CTL c] s t ∧ OnlyChanges [.regs] s t)
  ∧ (∀ (c : CrateId) (m : List ToneMeas) (s : State), (s.crate c).tone = none →
    exec (.toneCheckEnd c m) s = .next s)
  ∧ (∀ (q : Src) (c : CrateId) (v : Word) (s : State), s.serves q = true → (CRT_TONE_CTL_start c).get v = 1 →
    s.flag (CRT_TONE_CTL_busy c) = true → ∃ t, exec (.toneStart q c v) s = .next t ∧ OnlyRegs refuseRegs s t
      ∧ OnlyChanges [.regs, .host, .flt] s t)
  ∧ (∀ (c : CrateId) (m : List ToneMeas) (g : Nat) (s : State), s.fabricLive = true → (s.crate c).tone = some g →
    ∃ t, exec (.toneCheckEnd c m) s = .next t ∧ t.flag (CRT_TONE_CTL_busy c) = false ∧ t.flag (CRT_TONE_CTL_done c) = true
      ∧ t.crate c = { s.crate c with tone := none } ∧ OnlyCrates [c.val] s t
      ∧ (∀ k, k < 16 → (s.chan c k).st ≠ .off → t.flag (CHN_TONE_valid c k) = true
          ∧ t.rd (CHN_TONE_cap c k) = (m.getD k ⟨0, 0⟩).cap % 4096
          ∧ t.rd (CHN_TONE_verdict c k) =
            (if (m.getD k ⟨0, 0⟩).cap < s.rd (CRT_TONE_CAP_cap_min c) then 1
            else if s.rd (CRT_TONE_CAP_cap_max c) < (m.getD k ⟨0, 0⟩).cap ∨ s.flag (CHN_AMB_over c k) = true then 2
            else if g < (m.getD k ⟨0, 0⟩).cond then 3
            else 0)))
  ∧ (∀ (q : Src) (c : CrateId) (v : Word) (s : State), s.serves q = true → (CRT_TONE_CTL_start c).get v = 1 →
    s.flag (CRT_TONE_CTL_busy c) = false → s.quiesced c = false → ∃ t, exec (.toneStart q c v) s = .next t
      ∧ t.rd GLB_WR_REFUSE_addr = (0x10024 + 0x1000 * c.val) / 4 ∧ t.rd GLB_WR_REFUSE_src = srcIdx q
      ∧ OnlyRegs refuseRegs s t ∧ OnlyChanges [.regs, .host, .flt] s t)

/-- A window opens: its channels go to PRE with their converters on, every slice forgets the last start; stops count from
800 LSB after E0 on, from E0 where the calibration is skipped; the first window after a large bias step is marked; the window
belongs to the dwell that was committed last; each slice that calibrates moves its estimates by an accepted calibration, of P_meas from
96 to 156 and δ′_meas from 0 to 40, and keeps and counts a run of those that are not or give no measurement; a window without a start by the timeout ends and counts for its own dwell, also where
the crate's next dwell is committed meanwhile; its group has a detection (R22, R53, R58, R83, R85, R87 to R91).
Rests also on the model's readings and choices in notes/assumptions: 50, 51, 76, 102. -/
def Obligations.WindowOpening : Prop :=
  (∀ (c : CrateId) (cals : List (Option RingCal)) (w : Win) (s : State), s.timingLive = true → (s.crate c).armNext = some w →
    (s.crate c).win = none → (s.crate c).lastClose = none → ∃ t, exec (.preWindowOpen c cals) s = .next t
      ∧ t.crate c = { (s.crate c).modLast (fun d => { d with opened := true }) with armNext := none, win := some { w with
          e0 := coarseEdge (w.trig - lsbPre), accept := coarseEdge (w.trig - lsbPre) + 800 } }
      ∧ (∀ i, i < 17 → (t.slice c i).start = none)
      ∧ (∀ d k, (s.crate c).lastDwell = some d → k < 16 → d.part.getLsbD k = true →
          t.chan c k = { s.chan c k with
            st := .pre, converterOn := true, stops := 0, preStops := [], winCross := 0,
            winSettle := (s.chan c k).markSettle, markSettle := false })
      ∧ (∀ d k, (s.crate c).lastDwell = some d → k < 16 → d.part.getLsbD k = false →
          t.chan c k = { s.chan c k with markSettle := false })
      ∧ OnlyCrates [c.val] s t ∧ OnlyChans (chanNos.map (fun k => (c.val, k))) s t
      ∧ OnlySlices (sliceNos.map (fun i => (c.val, i))) s t)
  ∧ (∀ (c : CrateId) (cals : List (Option RingCal)) (w : Win) (l : Nat) (s : State), s.timingLive = true →
    (s.crate c).armNext = some w → (s.crate c).win = none → (s.crate c).lastClose = some l → w.trig - lsbPre < l + 160 →
    ∃ t, exec (.preWindowOpen c cals) s = .next t
      ∧ t.crate c = { (s.crate c).modLast (fun d => { d with opened := true }) with armNext := none, win := some { w with
          e0 := coarseEdge (w.trig - lsbPre), accept := coarseEdge (w.trig - lsbPre) } }
      ∧ (∀ i, i < 17 → s.calibrates c i = true →
          t.rd (TDC_CAL_STAT_skip_ct c i) = min (s.rd (TDC_CAL_STAT_skip_ct c i) + 1) (2 ^ (TDC_CAL_STAT_skip_ct c i).width - 1)
          ∧ t.rd (TDC_CAL_p_est c i) = s.rd (TDC_CAL_p_est c i)))
  ∧ (∀ (c : CrateId) (w : Win) (s : State), s.timingLive = true → (s.crate c).win = some w → w.start = none →
    ∃ t, exec (.startTimeout c) s = .next t ∧ (t.crate c).win = none
      ∧ (t.crate c).lastClose = some (coarseEdge w.trig + 80 * s.cfgRd c (CRT_TDC_CFG_emon_tmo c))
      ∧ t.flt.detq = s.flt.detq ++ [⟨0x04, 1, c.val, 0, w.group, elemGroup w.group⟩]
      ∧ (∀ k, k < 16 → (t.chan c k).preStops = [] ∨ t.chan c k = s.chan c k)
      ∧ (∀ d x, (s.crate c).dwell = some d → (s.crate c).dwellNext = some x → x.opened = false →
          (t.crate c).dwell = some { d with noStart := d.noStart + 1 } ∧ (t.crate c).dwellNext = some x)
      ∧ OnlyCrates [c.val] s t ∧ OnlyChans (chanNos.map (fun k => (c.val, k))) s t)
  ∧ (∀ (c : CrateId) (cals : List (Option RingCal)) (w : Win) (i : Nat) (m : RingCal) (a : Nat) (s : State), s.timingLive = true →
    (s.crate c).armNext = some w → (s.crate c).win = none → (s.crate c).lastClose = none → i < 17 → s.calibrates c i = true →
    cals.getD i none = some m → 96 + m.n1 ≤ m.n2 → m.n2 ≤ 156 + m.n1 → 2 * m.n1 ≤ m.n2 → m.n2 ≤ 40 + 2 * m.n1 →
    a = (if (s.slice c i).firstCal then 0 else s.cfgRd c (CRT_TDC_CFG_cal_avg c)) → ∃ t, exec (.preWindowOpen c cals) s = .next t
      ∧ (t.rd (TDC_CAL_p_est c i) : Int) = roundDiv (s.rd (TDC_CAL_p_est c i) * 2 ^ a
          + (256 * (m.n2 - m.n1 : Int) - s.rd (TDC_CAL_p_est c i))) (2 ^ a)
      ∧ (t.rd (TDC_CAL_ins_est c i) : Int) = roundDiv (s.rd (TDC_CAL_ins_est c i) * 2 ^ a
          + (256 * (m.n2 - 2 * m.n1 : Int) - s.rd (TDC_CAL_ins_est c i))) (2 ^ a)
      ∧ t.rd (TDC_CAL_STAT_bad_run c i) = 0 ∧ t.rd (TDC_CAL_STAT_rej_ct c i) = s.rd (TDC_CAL_STAT_rej_ct c i)
      ∧ (t.slice c i).firstCal = false
      ∧ (1 ≤ s.rd (TDC_CAL_STAT_bad_run c i) → s.rd (TDC_CAL_STAT_bad_run c i) ≤ 7 →
          ⟨0x01, 1, c.val, i, 1, elemSlice c i⟩ ∈ t.flt.detq))
  ∧ (∀ (c : CrateId) (cals : List (Option RingCal)) (w : Win) (i : Nat) (s : State), s.timingLive = true →
    (s.crate c).armNext = some w → (s.crate c).win = none → (s.crate c).lastClose = none → i < 17 → s.calibrates c i = true →
    (∀ m, cals.getD i none = some m → m.n2 < 96 + m.n1 ∨ 156 + m.n1 < m.n2 ∨ m.n2 < 2 * m.n1 ∨ 40 + 2 * m.n1 < m.n2) →
    ∃ t, exec (.preWindowOpen c cals) s = .next t
      ∧ t.rd (TDC_CAL_p_est c i) = s.rd (TDC_CAL_p_est c i) ∧ t.rd (TDC_CAL_ins_est c i) = s.rd (TDC_CAL_ins_est c i)
      ∧ t.rd (TDC_CAL_STAT_bad_run c i) = min 8 (s.rd (TDC_CAL_STAT_bad_run c i) + 1)
      ∧ t.rd (TDC_CAL_STAT_rej_ct c i) = min (s.rd (TDC_CAL_STAT_rej_ct c i) + 1) (2 ^ (TDC_CAL_STAT_rej_ct c i).width - 1)
      ∧ (s.rd (TDC_CAL_STAT_bad_run c i) = 7 → ⟨0x02, 1, c.val, i, 0, elemSlice c i⟩ ∈ t.flt.detq))

/-- The start of a window is stamped by every slice; channels in PRE go to BLANK for the blanking length, or to MAIN where it
is 0; at its end the channels in BLANK go to MAIN, those above threshold held and counted (R44, R45, R58, R85).
Rests also on the model's readings and choices in notes/assumptions: 9, 48, 102, 122. -/
def Obligations.WindowStart : Prop :=
  (∀ (c : CrateId) (lsb : Nat) (caps : List Capture) (w : Win) (s : State), s.timingLive = true → (s.crate c).win = some w →
    w.start = none → w.closed = false → s.startInTime c lsb w = true → ∃ t, exec (.startEdge c lsb caps) s = .next t
      ∧ (t.crate c).win = some { w with
          start := some lsb, blankEnd := if w.blank = 0 then none else some (coarseEdge lsb + 80 * w.blank) }
      ∧ (∀ i, i < 17 → (t.slice c i).start = some (s.stamp c i (caps.getD i ⟨0, 0⟩)))
      ∧ (∀ k, k < 16 → (s.server c k).isSome = true → (s.chan c k).st = .pre →
          (t.chan c k).st = (if w.blank = 0 then .main else .blank) ∧ (t.chan c k).preStops = [])
      ∧ OnlyCrates [c.val] s t ∧ OnlyChans (chanNos.map (fun k => (c.val, k))) s t)
  ∧ (∀ (c : CrateId) (lsb : Nat) (caps : List Capture) (w : Win) (s : State), (s.crate c).win = some w →
    s.startInTime c lsb w = false → exec (.startEdge c lsb caps) s = .next s)
  ∧ (∀ (c : CrateId) (above : BitVec 16) (w : Win) (s : State), s.timingLive = true → (s.crate c).win = some w →
    ∃ t, exec (.blankingEnd c above) s = .next t
      ∧ (∀ k, k < 16 → (s.chan c k).st = .blank →
          t.chan c k = { s.chan c k with st := .main, blankHeld := above.getLsbD k || (s.chan c k).blankHeld }
          ∧ t.rd (CHN_FE_STAT_blank_held c k) = (if above.getLsbD k then
              min (s.rd (CHN_FE_STAT_blank_held c k) + 1) (2 ^ (CHN_FE_STAT_blank_held c k).width - 1)
            else s.rd (CHN_FE_STAT_blank_held c k)))
      ∧ (∀ k, k < 16 → (s.chan c k).st ≠ .blank → t.chan c k = s.chan c k)
      ∧ OnlyRegs (chanNos.map (fun k => CHN_FE_STAT c k)) s t ∧ OnlyChans (chanNos.map (fun k => (c.val, k))) s t
      ∧ OnlyChanges [.regs, .chans] s t)

/-- A crossing in the main window that its slice captures opens a charge gate and waits as an event; within 1.5 ns of the last
captured stop it merges and is counted; one before the start, while the path is busy with an earlier event, waits with merged, and
so carries that event; a channel with threshold 0 gives none; a fall ends the crossing (R37, R41, R46, R48, R97, R98, R100).
Rests also on the model's readings and choices in notes/assumptions: 47, 48, 103, 117, 119, 123. -/
def Obligations.Crossings : Prop :=
  (∀ (c : CrateId) (k : ChanId) (lsb : Nat) (cap : Capture) (sp : Option Capture) (w : Win) (i : Nat) (st : Int) (s : State),
    s.timingLive = true → (s.crate c).win = some w → s.canCross c k = true → s.server c k = some i → (s.chan c k).st = .main →
    (s.slice c i).start = some st → cap.k ≤ 65535 → (s.chan c k).deadAt lsb = false →
    -16 < s.stamp c i cap + skewOf c i k - st → (s.chan c k).stops < 8 → (s.chan c k).pathBusy = false →
    (s.chan c k).pend = [] → (s.crate c).closing = [] → ∃ t e, exec (.discriminatorCrossing c k lsb cap sp) s = .next t
      ∧ e.interval = (intervalOf (s.stamp c i cap + skewOf c i k - st)).1 ∧ e.chan = k.val ∧ e.rep = w.rep ∧ e.merged = false
      ∧ e.range = s.baseRange c k
      ∧ (t.chan c k).pend = [⟨e, (s.coeffs c i).1, (s.coeffs c i).2, none, true, false, !s.autoranging c, false, 0⟩]
      ∧ (t.chan c k).stops = (s.chan c k).stops + 1 ∧ (t.chan c k).lastStop = some lsb ∧ (t.chan c k).hold = some ⟨false, false⟩ ∧ (t.chan c k).active = true
      ∧ OnlyChans [(c.val, k.val)] s t ∧ OnlyCrates [c.val] s t)
  ∧ (∀ (c : CrateId) (k : ChanId) (lsb : Nat) (cap : Capture) (sp : Option Capture) (w : Win) (i : Nat) (st : Int) (s : State),
    s.timingLive = true → (s.crate c).win = some w → s.canCross c k = true → s.server c k = some i → (s.chan c k).st = .main →
    (s.slice c i).start = some st → cap.k ≤ 65535 → (s.chan c k).deadAt lsb = true → (s.chan c k).pend = [] →
    (s.crate c).closing = [] →
    s.shadows c k = false ∨ i ≠ 16 → ∃ t, exec (.discriminatorCrossing c k lsb cap sp) s = .next t
      ∧ t.rd (TDC_EV_STAT_dt_merged c i) = min (s.rd (TDC_EV_STAT_dt_merged c i) + 1) (2 ^ (TDC_EV_STAT_dt_merged c i).width - 1)
      ∧ t.chan c k = { s.chan c k with active := true } ∧ OnlyChans [(c.val, k.val)] s t)
  ∧ (∀ (c : CrateId) (k : ChanId) (lsb : Nat) (cap : Capture) (w : Win) (i : Nat) (p : Pend) (s : State),
    s.timingLive = true → (s.crate c).win = some w → s.canCross c k = true → s.server c k = some i → (s.chan c k).st = .pre →
    (s.chan c k).pend = [p] → p.owner = true → (s.chan c k).pathBusy = true → cap.k ≤ 65535 → w.accept ≤ lsb → w.trig ≤ lsb →
    (s.chan c k).deadAt lsb = false → ∃ t x, exec (.discriminatorCrossing c k lsb cap none) s = .next t
      ∧ (t.chan c k).pend = [{ p with evt := { p.evt with merged := true } }]
      ∧ (t.chan c k).preStops = (s.chan c k).preStops ++ [x] ∧ x.merged = true ∧ x.lsb = lsb ∧ x.stamp = s.stamp c i cap
      ∧ OnlyChans [(c.val, k.val)] s t ∧ OnlyChanges [.chans] s t)
  ∧ (∀ (c : CrateId) (k : ChanId) (lsb : Nat) (cap : Capture) (sp : Option Capture) (s : State),
    s.rd (CHN_THR_thr_eff c k) = 0 → exec (.discriminatorCrossing c k lsb cap sp) s = .next s)
  ∧ (∀ (c : CrateId) (k : ChanId) (s : State), s.timingLive = true → (s.chan c k).hold = none →
    ∃ t, exec (.discriminatorFall c k) s = .next t ∧ t.chan c k = { s.chan c k with active := false, blankHeld := false }
      ∧ OnlyChans [(c.val, k.val)] s t ∧ OnlyChanges [.chans] s t)
  ∧ (∀ (c : CrateId) (k : ChanId) (b : Bool) (s : State), s.timingLive = true → (s.chan c k).hold = some ⟨true, b⟩ →
    (s.chan c k).active = true → ∃ t, exec (.discriminatorFall c k) s = .next t
      ∧ t.chan c k = { s.chan c k with active := false, blankHeld := false, hold := none, resetting := true })

/-- The charge path: range selection against the pre-peak limit, the end of the gate, the conversion with its corrected code
into the FIFO, in steps of 20 fC in charge-amplifier mode, with the autorange update in the other; an event whose path stays busy
waits, so that a later crossing can still merge with it; and the ready path (R34 to R38, R46 to R48, R104).
Rests also on the model's readings and choices in notes/assumptions: 48, 49, 76, 119. -/
def Obligations.ChargePath : Prop :=
  (∀ (c : CrateId) (k : ChanId) (q : Nat) (p : Pend) (s : State), s.timingLive = true → s.autoranging c = true →
    (s.chan c k).pend = [p] → p.owner = true → p.sel = false → ∃ t r, exec (.rangeSelect c k q) s = .next t
      ∧ r = (if prePeak (s.rd (CHN_FE_STAT_ar_range c k)) < q ∧ s.rd (CHN_FE_STAT_ar_range c k) < 3
            then s.rd (CHN_FE_STAT_ar_range c k) + 1 else s.rd (CHN_FE_STAT_ar_range c k))
      ∧ (t.chan c k).prevRange = some r ∧ (t.chan c k).pend = [{ p with sel := true, evt := { p.evt with
          range := r, settle := p.evt.settle || (s.chan c k).prevRange.any (· != r) } }]
      ∧ OnlyChans [(c.val, k.val)] s t ∧ OnlyChanges [.chans] s t)
  ∧ (∀ (c : CrateId) (k : ChanId) (q : Int) (p : Pend) (s : State), s.timingLive = true → (s.chan c k).pend = [p] →
    p.owner = true → p.sel = true → p.held = none → (s.chan c k).hold = some ⟨false, true⟩ →
    ∃ t, exec (.chargeGateEnd c k q) s = .next t
      ∧ t.chan c k = { s.chan c k with pend := [{ p with held := some q }], hold := none, resetting := true }
      ∧ OnlyChans [(c.val, k.val)] s t ∧ OnlyChanges [.chans] s t)
  ∧ (∀ (c : CrateId) (k : ChanId) (q : Int) (p : Pend) (s : State), s.timingLive = true → s.autoranging c = true →
    (s.chan c k).pend = [p] → p.held = some q → p.ready = false → p.drop = false → (s.chan c k).st = .drain →
    (s.chan c k).pathBusy = false → (s.crate c).fifo.length < 254 → (s.crate c).closing = [] → (s.crate c).nextOpened = false →
    (s.crate c).stopDue = false →
    ∃ t, exec (.chargeConversionDone c k) s = .next t
      ∧ (t.crate c).fifo = (s.crate c).fifo ++ [.event { p.evt with
          code := correctCode p.qGain p.qOff (rawCode q (500 * 4 ^ p.evt.range)), overRange := overRange q (500 * 4 ^ p.evt.range) }]
      ∧ (t.chan c k).pend = [] ∧ (t.chan c k).st = .idle
      ∧ t.rd (CHN_FE_STAT_ar_range c k) = (autorange (s.rd (CHN_FE_STAT_ar_range c k)) (s.rd (CHN_FE_STAT_ar_count c k))
          p.evt.range (rawCode q (500 * 4 ^ p.evt.range)) (overRange q (500 * 4 ^ p.evt.range))).1 % 4
      ∧ OnlyRegs [CHN_FE_STAT c k, CRT_EVF_STAT c] s t ∧ OnlyChans [(c.val, k.val)] s t ∧ OnlyCrates [c.val] s t)
  ∧ (∀ (c : CrateId) (k : ChanId) (q : Int) (p : Pend) (s : State), s.timingLive = true → s.autoranging c = false →
    (s.chan c k).pend = [p] → p.held = some q → p.ready = false → p.drop = false → (s.chan c k).st = .drain →
    (s.chan c k).pathBusy = false → (s.crate c).fifo.length < 254 → (s.crate c).closing = [] → (s.crate c).nextOpened = false →
    (s.crate c).stopDue = false → ∃ t e, exec (.chargeConversionDone c k) s = .next t
      ∧ (t.crate c).fifo = (s.crate c).fifo ++ [.event e] ∧ e = { p.evt with code := e.code, overRange := e.overRange }
      ∧ (e.overRange = true ↔ 1023 * 20000 + 10000 < q)
      ∧ (∀ x : Nat, p.qGain = 16384 → p.qOff = 0 → x ≤ 1023 → 20000 * (x : Int) - 10000 ≤ q → q < 20000 * (x : Int) + 10000 → e.code = x)
      ∧ e.code = correctCode p.qGain p.qOff (rawCode q 20000)
      ∧ (t.chan c k).pend = [] ∧ OnlyRegs [CRT_EVF_STAT c] s t ∧ OnlyChans [(c.val, k.val)] s t ∧ OnlyCrates [c.val] s t)
  ∧ (∀ (c : CrateId) (k : ChanId) (q : Int) (p : Pend) (d : Dwell) (s : State), s.timingLive = true → (s.chan c k).pend = [p] →
    p.held = some q → p.ready = false → p.owner = true → (s.chan c k).pathBusy = true → (s.crate c).dwell = some d →
    d.ended = false → (s.crate c).closing = [] → (s.crate c).stopDue = false → ∃ t x, exec (.chargeConversionDone c k) s = .next t
      ∧ (t.chan c k).pend = [x] ∧ x.ready = true ∧ t.crates = s.crates)
  ∧ (∀ (c : CrateId) (k : ChanId) (s : State), s.timingLive = true → (s.chan c k).resetting = true → (s.chan c k).pend = [] →
    (s.chan c k).st = .main → (s.crate c).closing = [] → ∃ t, exec (.chargePathReady c k) s = .next t
      ∧ t.chan c k = { s.chan c k with resetting := false } ∧ OnlyChans [(c.val, k.val)] s t ∧ OnlyRegs [] s t)

/-- A dwell whose last window has closed and whose events are written closes with its marker in the FIFO behind its events, and the
dwell committed after it becomes the oldest, which goes on under the tables of its first shot; while a window of the dwell still
runs, it does not close (R22, R31, R85, R102).
Rests also on the model's readings and choices in notes/assumptions: 9, 78, 95, 102, 103. -/
def Obligations.DwellCloses : Prop :=
  (∀ (c : CrateId) (m : RetestMeas) (d : Dwell) (s : State), s.timingLive = true → (s.crate c).dwell = some d →
    (s.crate c).closing = [] → (s.crate c).stopDue = false → (s.crate c).nextOpened = true ∨ ((s.crate c).win = none
      ∧ ((s.crate c).dwellNext.isSome = true ∨ (d.ended = true ∧ (s.crate c).armNext = none))) →
    (∀ k, k < 16 → (s.chan c k).pend = []) → ∃ t, exec (.dwellClose c m) s = .next t
      ∧ (t.crate c).fifo = (s.crate c).fifo ++ [.dwellClose ⟨d.fired, d.noStart, none, d.cross, d.accepting, 0⟩]
      ∧ (t.crate c).dwell = (s.crate c).dwellNext.map (fun x => { x with oldTab := x.opened }) ∧ (t.crate c).dwellNext = none
      ∧ OnlyCrates [c.val] s t ∧ OnlyChans (chanNos.map (fun k => (c.val, k))) s t)
  ∧ (∀ (c : CrateId) (m : RetestMeas) (w : Win) (s : State), (s.crate c).win = some w → (s.crate c).nextOpened = false →
    exec (.dwellClose c m) s = .next s)

/-- Calibration of slices: a due visit is noted, an accepted charge calibration waits as new coefficients for a dwell
boundary and a rejected one is a detection; a code-density batch, accepted where no count has saturated and every width of a tap below ⌊p_est⌋
is from 1,024 to 16,384, ends with a new table or a rejection; a tie-break ends with
its outcome waiting for the apply instant. A charge calibration is accepted where |q_off| is at most 16 codes and 0.9 ≤ q_gain ≤ 1.1; a
slice fails a tie-break by its mean P_meas, its deviation, its mean δ′_meas, or a width more than 50 % off its factory entry. A crate that is OFF holds its status: the model's choice of log 120 (R94, R104, R105,
R112, R611).
Rests also on the model's readings and choices in notes/assumptions: 10, 14, 53, 104, 105, 107, 108, 119, 120, 122. -/
def Obligations.SliceCalibration : Prop :=
  (∀ (c : CrateId) (s : State), s.timingLive = true → s.crateReady c = true → s.flag (CRT_SPR_CFG_ccal_en c) = true →
    ∃ t, exec (.chargeCalDue c) s = .next t ∧ t.crate c = { s.crate c with visitDue := true } ∧ OnlyCrates [c.val] s t
      ∧ OnlyChanges [.crates] s t)
  ∧ (∀ (c : CrateId) (i : SliceId) (m : ChargeCal) (s : State), s.timingLive = true → (s.crate c).calSlice = some i.val →
    (s.crate c).calPending = true → chargeAccepted m = true → ∃ t, exec (.chargeCalDone c i (some m)) s = .next t
      ∧ t.crate c = { s.crate c with calPending := false }
      ∧ t.slice c i = { s.slice c i with newQ := some (chargeGain m, m.z) } ∧ OnlyCrates [c.val] s t
      ∧ OnlySlices [(c.val, i.val)] s t ∧ OnlyChanges [.crates, .slices] s t)
  ∧ (∀ (c : CrateId) (i : SliceId) (m : Option ChargeCal) (s : State), s.timingLive = true → (s.crate c).calSlice = some i.val →
    (s.crate c).calPending = true → m.all (fun x => !chargeAccepted x) = true →
    ∃ t, exec (.chargeCalDone c i m) s = .next t ∧ t.crate c = { s.crate c with calPending := false }
      ∧ t.flt.detq = s.flt.detq ++ [⟨0x01, 1, c.val, i.val, 3, elemSlice c i⟩] ∧ OnlyChanges [.crates, .flt] s t)
  ∧ (∀ (c : CrateId) (i : SliceId) (s : State), (s.batchAccepted c i = true ↔ (∀ p, p ∈ (s.slice c i).hits → p.2 < 65535)
    ∧ ∀ n, n < 160 → n < s.rd (TDC_CAL_p_est c i) / 256 → 1024 ≤ (s.batchWidths c i).getD n 0
      ∧ (s.batchWidths c i).getD n 0 ≤ 16384 ∧ ((s.batchWidths c i).getD n 0 : Int)
        = roundDiv (16 * sparseGet (fun _ => 0) (s.slice c i).hits n * s.rd (TDC_CAL_p_est c i))
          (2 ^ s.cfgRd c (CRT_TDC_CFG_cd_batch c))))
  ∧ (∀ (c : CrateId) (i : SliceId) (s : State), s.timingLive = true → s.cratePwr c ≠ 0 →
    2 ^ s.cfgRd c (CRT_TDC_CFG_cd_batch c) ≤ (s.slice c i).batchStops → s.batchAccepted c i = true →
    ∃ t, exec (.cdBatchEnd c i) s = .next t
      ∧ t.slice c i = { s.slice c i with hits := [], batchStops := 0, newWidth := some (s.batchWidths c i) }
      ∧ t.rd (TDC_CD_STAT_batches c i) = min (s.rd (TDC_CD_STAT_batches c i) + 1) (2 ^ (TDC_CD_STAT_batches c i).width - 1)
      ∧ OnlySlices [(c.val, i.val)] s t ∧ OnlyRegs [TDC_CD_STAT c i] s t ∧ t.flt = s.flt)
  ∧ (∀ (c : CrateId) (i : SliceId) (s : State), s.timingLive = true → s.cratePwr c ≠ 0 →
    2 ^ s.cfgRd c (CRT_TDC_CFG_cd_batch c) ≤ (s.slice c i).batchStops → s.batchAccepted c i = false →
    ∃ t, exec (.cdBatchEnd c i) s = .next t ∧ t.slice c i = { s.slice c i with hits := [], batchStops := 0 }
      ∧ t.flt.detq = s.flt.detq ++ [⟨0x01, 1, c.val, i.val, 2, elemSlice c i⟩] ∧ OnlyRegs [TDC_CD_STAT c i] s t)
  ∧ (∀ (c : CrateId) (m : TieMeas) (j : Nat) (s : State), s.timingLive = true → s.cratePwr c ≠ 0 →
    (s.crate c).tieRun = some j → j < 16 →
    ∃ t r, exec (.tieBreakEnd c m) s = .next t
      ∧ r = (⟨j, calFails m.slice || s.cdFails c j, calFails m.spare || s.cdFails c 16⟩ : TieRes)
      ∧ t.crate c = { s.crate c with tieRun := none, tieRes := some r } ∧ t.flt.changes = s.flt.changes ++ [.tie c r]
      ∧ OnlyRegs [TDC_TB c j, TDC_TB c 16, TDC_STATE c j, TDC_STATE c 16, FLT_STAT] s t ∧ OnlyCrates [c.val] s t)
  ∧ (∀ m : ChargeCal, chargeAccepted m = true ↔ m.z < m.r ∧ -256 ≤ m.z ∧ m.z ≤ 256 ∧ 9 * (m.r - m.z) ≤ 10 * 8192
    ∧ 10 * 8192 ≤ 11 * (m.r - m.z))
  ∧ (∀ m : ChargeCal, m.z < m.r → -(m.r - m.z) ≤ 2 * (16384 * 8192 - (chargeGain m : Int) * (m.r - m.z))
    ∧ 2 * (16384 * 8192 - (chargeGain m : Int) * (m.r - m.z)) ≤ m.r - m.z)
  ∧ (∀ l : List RingCal, calFails (l.map some) = true ↔ l = []
    ∨ (l.map (fun m => (m.n2 : Int) - m.n1)).sum < 96 * l.length ∨ 156 * l.length < (l.map (fun m => (m.n2 : Int) - m.n1)).sum
    ∨ (l.length : Int) ^ 2 < l.length * (l.map (fun m => ((m.n2 : Int) - m.n1) ^ 2)).sum
        - (l.map (fun m => (m.n2 : Int) - m.n1)).sum ^ 2
    ∨ (l.map (fun m => (m.n2 : Int) - 2 * m.n1)).sum < 0
    ∨ 40 * l.length < (l.map (fun m => (m.n2 : Int) - 2 * m.n1)).sum)
  ∧ (∀ l : List (Option RingCal), none ∈ l → calFails l = true)
  ∧ (∀ (c i : Nat) (s : State), s.cdFails c i = true ↔ ∃ n f u : Nat, n < 160 ∧ n < s.rd (TDC_CAL_p_est c i) / 256
    ∧ f = (Config.factoryTap c i n).toNat ∧ u = (s.slice c i).width.getD n 0 ∧ (f + f / 2 < u ∨ 2 * u < f))
  ∧ (∀ (c : CrateId) (i : SliceId) (m : TieMeas) (s : State), s.cratePwr c = 0 →
    exec (.cdBatchEnd c i) s = .next s ∧ exec (.tieBreakEnd c m) s = .next s)

/-- The charge controller's cycle: the switch turns on in CHARGING with valid comparators, a cycle after the one before began (never
sooner than 50 ticks) and 50 ns after it turned off; it turns off at the current limit once the blanking has passed, and 50 ns before
the cycle's end; DONE keeps the target reached; a top-up counts; REST leads to CHARGING after the self-test slot (R175, R176,
R179).
Rests also on the model's readings and choices in notes/assumptions: 2. -/
def Obligations.ChargeController : Prop :=
  (∀ (e : EmitId) (s : State), s.timingLive = true → s.chgState e = 2 → (s.chg e).cmpValid = true → (s.chg e).gate = false →
    (∀ a, (s.chg e).cycleAt = some a → a + max 50 (s.rd (CHG_CFG_period e)) ≤ s.clk.tick) →
    (∀ b, (s.chg e).offAt = some b → b + 5 ≤ s.clk.tick) → ∃ t, exec (.chargeCycleStart e) s = .next t
      ∧ t.chg e = { s.chg e with gate := true, cycleAt := some s.clk.tick } ∧ OnlyChgs [e.val] s t ∧ OnlyChanges [.chgs] s t)
  ∧ (∀ (e : EmitId) (a : Nat) (s : State), s.timingLive = true → (s.chg e).gate = true → (s.chg e).cycleAt = some a →
    a + s.rd (CHG_CFG_leb e) ≤ s.clk.tick → ∃ t, exec (.currentLimitTrip e) s = .next t
      ∧ t.chg e = { s.chg e with gate := false, offAt := some s.clk.tick } ∧ OnlyChgs [e.val] s t ∧ OnlyChanges [.chgs] s t)
  ∧ (∀ (e : EmitId) (s : State), s.timingLive = true → s.chgState e = 2 → ∃ t, exec (.chargeDone e) s = .next t
    ∧ t.chgState e = 3 ∧ t.flag (CHG_STAT_done e) = true ∧ t.chg e = { s.chg e with
        gate := false, offAt := (if (s.chg e).gate then some s.clk.tick else (s.chg e).offAt), reached := (s.chg e).target }
    ∧ OnlyChgs [e.val] s t ∧ OnlyRegs [CHG_STAT e] s t ∧ OnlyChanges [.regs, .chgs] s t)
  ∧ (∀ (e : EmitId) (s : State), s.timingLive = true → s.chgState e = 3 → (s.chg e).gate = false →
    (∀ a, (s.chg e).cycleAt = some a → a + max 50 (s.rd (CHG_CFG_period e)) ≤ s.clk.tick) →
    (∀ b, (s.chg e).offAt = some b → b + 5 ≤ s.clk.tick) →
    ∃ t, exec (.topUp e) s = .next t ∧ t.chgState e = 3 ∧ t.chg e = { s.chg e with gate := true, cycleAt := some s.clk.tick }
      ∧ t.rd (CHG_STAT_topup e) = min (s.rd (CHG_STAT_topup e) + 1) (2 ^ (CHG_STAT_topup e).width - 1)
      ∧ OnlyChgs [e.val] s t ∧ OnlyRegs [CHG_STAT e] s t ∧ OnlyChanges [.regs, .chgs] s t)
  ∧ (∀ (e : EmitId) (s : State), s.timingLive = true → s.chgState e = 4 → (s.chg e).stDue = false →
    ∃ t, exec (.restEnd e) s = .next t ∧ t.chgState e = 2 ∧ t.chg e = { s.chg e with timedOut := false }
      ∧ OnlyChgs [e.val] s t ∧ OnlyRegs [CHG_STAT e] s t ∧ OnlyChanges [.regs, .chgs] s t)
  ∧ (∀ (e : EmitId) (s : State), s.timingLive = true → s.chgState e = 4 → (s.chg e).stDue = true →
    exec (.restEnd e) s = .next s)
  ∧ (∀ (e : EmitId) (a : Nat) (s : State), s.timingLive = true → (s.chg e).gate = true → (s.chg e).cycleAt = some a →
    a + max 50 (s.rd (CHG_CFG_period e)) ≤ s.clk.tick + 5 → ∃ t, exec (.cycleEndSwitchOff e) s = .next t
      ∧ t.chg e = { s.chg e with gate := false, offAt := some s.clk.tick } ∧ OnlyChgs [e.val] s t ∧ OnlyChanges [.chgs] s t)
  ∧ (∀ (e : EmitId) (a : Nat) (s : State), (s.chg e).cycleAt = some a → s.clk.tick < a + s.rd (CHG_CFG_leb e) →
    exec (.currentLimitTrip e) s = .next s)
  ∧ (∀ (e : EmitId) (a : Nat) (s : State), (s.chg e).cycleAt = some a → s.clk.tick + 5 < a + max 50 (s.rd (CHG_CFG_period e)) →
    exec (.cycleEndSwitchOff e) s = .next s)
  ∧ (∀ (e : EmitId) (a : Nat) (s : State), (s.chg e).cycleAt = some a ∧ s.clk.tick < a + max 50 (s.rd (CHG_CFG_period e))
      ∨ (s.chg e).offAt = some a ∧ s.clk.tick < a + 5 →
    exec (.chargeCycleStart e) s = .next s ∧ exec (.topUp e) s = .next s)

/-- A committed emitter that fires is counted, its pulse begins at the trigger instant plus its skew, and its controller enters
REST with the target that waited, a readback of its DAC in progress noting a changed code; an emitter not committed does not fire;
without the gate or REFCLK no trigger output is active; a charge deadline is counted once and is a detection (R82, R147, R174,
R178 to R180, R188, R506).
Rests also on the model's readings and choices in notes/assumptions: 2, 57, 122. -/
def Obligations.FiringAndDeadline : Prop :=
  (∀ (e : EmitId) (s : State), s.timingLive = true → (s.emit e).committed = true → s.chgState e = 2 ∨ s.chgState e = 3 →
    ∃ t p, exec (.emitterFire e) s = .next t ∧ p = ((s.emit e).trig : Int) + s.rdInt (EMT_SKEW_skew e)
      ∧ t.emit e = { s.emit e with committed := false, pulse := some (p, p + 80 * s.rd (EMT_CFG_pw e)) } ∧ t.chgState e = 4
      ∧ (∀ x, s.triggerGate = true → p ≤ x → x < p + 80 * s.rd (EMT_CFG_pw e) → t.triggerActive e x = true)
      ∧ t.rd (EMT_FIRED_fired e) = (s.rd (EMT_FIRED_fired e) + 1) % 2 ^ (EMT_FIRED_fired e).width
      ∧ (t.chg e).gate = false ∧ (t.chg e).nextTarget = none ∧ (t.chg e).firings = (s.chg e).firings + 1
      ∧ (t.chg e).target = (match (s.chg e).nextTarget with | some v => v | none => (s.chg e).target)
      ∧ t.hk = { s.hk with rbChanged := s.hk.rbChanged || (decide (s.hk.urgNow = some (.readback e)) &&
          (s.chg e).nextTarget.any (· != (s.chg e).target)) }
      ∧ OnlyChgs [e.val] s t ∧ OnlyRegs [EMT_FIRED e, CHG_STAT e] s t ∧ OnlyChanges [.regs, .emits, .chgs, .hk] s t)
  ∧ (∀ (e : EmitId) (s : State), (s.emit e).committed = false → exec (.emitterFire e) s = .next s)
  ∧ (∀ (e : EmitId) (x : Int) (s : State), s.gateOn = false ∨ s.flag CLK_STAT_refclk = false → s.triggerActive e x = false)
  ∧ (∀ (e : EmitId) (s : State), s.timingLive = true → s.chgState e = 2 → s.flag (CHG_LIM_tmo e) = true →
    (s.chg e).timedOut = false → ∃ t, exec (.chargeTimeout e) s = .next t ∧ t.chgState e = 2
      ∧ t.chg e = { s.chg e with timedOut := true }
      ∧ t.rd (CHG_STAT_tmo_ct e) = min (s.rd (CHG_STAT_tmo_ct e) + 1) (2 ^ (CHG_STAT_tmo_ct e).width - 1)
      ∧ t.flt.detq = s.flt.detq ++ [⟨0x05, 3, e.val, 0, 0, elemChg e⟩] ∧ OnlyChgs [e.val] s t
      ∧ OnlyRegs (CHG_STAT e :: eventRegs) s t)

/-- Comparator self-tests: a slot that passes makes a waiting controller charge; one that fails is counted and each failing
comparator is a detection; a periodic slot in REST clears what was due (R182 to R184, R555).
A window monitor whose level held for its filter time changes state; an exit from the window is counted and posted as
WMN_EXIT with the new state and the filtered input; a return is neither (R185, R428).
The eye-safety accountant's bins roll, once in each tick that is a multiple of their length, 6,250 or 625,000 ticks: a new empty
bin comes first and the window keeps 16 preceding ones (R191).
Rests also on the model's readings and choices in notes/assumptions: 10, 62, 65, 109. -/
def Obligations.Comparators : Prop :=
  (∀ (e : EmitId) (x y : CmpSlot) (s : State), s.timingLive = true → s.chgState e = 1 → slotPasses x y = true →
    ∃ t, exec (.comparatorSettleEnd (.chg e) x y) s = .next t ∧ t.chgState e = 2
      ∧ t.chg e = { s.chg e with cmpValid := true, timedOut := false } ∧ OnlyChgs [e.val] s t
      ∧ OnlyRegs [CHG_ST e, CHG_STAT e] s t ∧ OnlyChanges [.regs, .chgs] s t)
  ∧ (∀ (m : MonId) (x y : CmpSlot) (s : State), s.timingLive = true → s.flag (WMN_CFG_en m) = true →
    (s.mon m).cmpValid = false → s.rd (WMN_STAT_state m) ≠ 3 → slotPasses x y = true →
    ∃ t, exec (.comparatorSettleEnd (.wmn m) x y) s = .next t ∧ t.mon m = { s.mon m with cmpValid := true }
      ∧ OnlyChanges [.mons] s t)
  ∧ (∀ (e : EmitId) (y : CmpSlot) (s : State), s.timingLive = true → s.chgState e = 4 → (s.chg e).stDue = true →
    CmpSlotFails y = none → ∃ t, exec (.comparatorSelfTest (.chg e) ⟨false, false, false, false, false⟩ y) s = .next t
      ∧ (t.chg e).stDue = false ∧ t.chgState e = 4
      ∧ t.rd (CHG_ST_st_fail e) = min (s.rd (CHG_ST_st_fail e) + 1) (2 ^ (CHG_ST_st_fail e).width - 1)
      ∧ t.flt.detq = s.flt.detq ++ [⟨0x0C, 3, e.val, 0, 0, elemChg e⟩] ∧ OnlyRegs [CHG_ST e] s t ∧ OnlyChgs [e.val] s t)
  ∧ (∀ (e : EmitId) (x y : CmpSlot) (s : State), s.timingLive = true → s.chgState e = 4 → (s.chg e).stDue = true →
    slotPasses x y = true → ∃ t, exec (.comparatorSelfTest (.chg e) x y) s = .next t ∧ (t.chg e).stDue = false
      ∧ t.rd (CHG_ST_st_pass e) = min (s.rd (CHG_ST_st_pass e) + 1) (2 ^ (CHG_ST_st_pass e).width - 1)
      ∧ t.flt = s.flt ∧ OnlyRegs [CHG_ST e] s t)
  ∧ (∀ (m : MonId) (l : MonLevel) (n : Nat) (mv : BitVec 16) (s : State), s.timingLive = true → s.flag (WMN_CFG_en m) = true →
    (s.mon m).cmpValid = true → s.rd (WMN_STAT_state m) = 0 → l ≠ .inside → s.rd (WMN_CFG_filt m) ≤ n →
    ∃ t, exec (.windowMonitorChange m l n mv) s = .next t ∧ t.rd (WMN_STAT_state m) = MonLevelCode l
      ∧ t.rd (WMN_STAT_exits m) = min (s.rd (WMN_STAT_exits m) + 1) (2 ^ (WMN_STAT_exits m).width - 1)
      ∧ (s.fabricLive = true → Posted s t (s.eventWords 0x31 4 m [w32 (MonLevelCode l), w32 mv.toNat]))
      ∧ OnlyRegs (WMN_STAT m :: eventRegs) s t ∧ t.mons = s.mons)
  ∧ (∀ (m : MonId) (n : Nat) (mv : BitVec 16) (s : State), s.timingLive = true → s.flag (WMN_CFG_en m) = true →
    (s.mon m).cmpValid = true → s.rd (WMN_STAT_state m) = 1 ∨ s.rd (WMN_STAT_state m) = 2 → s.rd (WMN_CFG_filt m) ≤ n →
    ∃ t, exec (.windowMonitorChange m .inside n mv) s = .next t ∧ t.rd (WMN_STAT_state m) = 0
      ∧ t.rd (WMN_STAT_exits m) = s.rd (WMN_STAT_exits m) ∧ OnlyRegs [WMN_STAT m] s t ∧ OnlyChanges [.regs] s t)
  ∧ (∀ (m : MonId) (l : MonLevel) (n : Nat) (mv : BitVec 16) (s : State), n < s.rd (WMN_CFG_filt m) →
    exec (.windowMonitorChange m l n mv) s = .next s)
  ∧ (∀ s : State, s.timingLive = true → s.clk.tick % 6250 = 0 → s.eye.roll1 < s.clk.tick → ∃ t,
    exec (.accountantBinRoll false) s = .next t
    ∧ (∀ e, e < 32 → t.emit e = { s.emit e with bins1 := 0 :: (s.emit e).bins1.take 16 })
    ∧ t.eye = { s.eye with roll1 := s.clk.tick } ∧ OnlyChanges [.emits, .eye] s t)
  ∧ (∀ s : State, s.wf = true → s.timingLive = true → s.clk.tick % 625000 = 0 → s.eye.roll100 < s.clk.tick → ∃ t,
    exec (.accountantBinRoll true) s = .next t
    ∧ (∀ e, e < 32 → t.emit e = { s.emit e with bins100 := 0 :: (s.emit e).bins100.take 16 })
    ∧ (∀ q, t.classBins q = 0 :: (s.classBins q).take 16)
    ∧ t.eye = { s.eye with roll100 := s.clk.tick } ∧ OnlyChanges [.emits, .classes, .eye] s t)
  ∧ (∀ s : State, s.clk.tick % 6250 ≠ 0 ∨ s.clk.tick ≤ s.eye.roll1 → exec (.accountantBinRoll false) s = .next s)
  ∧ (∀ s : State, s.clk.tick % 625000 ≠ 0 ∨ s.clk.tick ≤ s.eye.roll100 → exec (.accountantBinRoll true) s = .next s)

/-- The laser permit of R194: in a tick of the timing domain it is present when all seven conditions hold: REFCLK present; EYE_LOCK LOADED; the motor speed valid, in
the direction of EYE_SPD_CFG and within EYE_SPD; LEN_DRV on and LEN_RB on; every window monitor 0 to 3 that is a permit source IN
(no other can be one); no uncorrectable error in the accountant's bins; the timing PLL ready. Each failing condition sets its bit of
the cause; each change of the permit posts PERMIT with its new state, each withdrawal is counted, and without a change nothing is
posted; EYE_STAT reads the permit and the cause as they are; a loss of REFCLK withdraws it (its clause does not state the PERMIT event
of that withdrawal); a shot committed before a withdrawal still fires (R82, R147, R194, R211, R428). That the permit is judged and its
event posted with LASER_PERMIT_CHANGE and with a loss of REFCLK, and that EYE_STAT is read live, is the model's reading (log 62); that
LASER_PERMIT_CHANGE does nothing while the timing domain has no clock is log 2.
Rests also on the model's readings and choices in notes/assumptions: 2, 62. -/
def Obligations.LaserPermit : Prop :=
  (∀ s : State, s.timingLive = true → ∃ (t : State) (mon : Prop), exec .laserPermitChange s = .next t
    ∧ (mon ↔ ∀ m, m < 4 → s.flag (WMN_CFG_permit m) = true → s.rd (WMN_STAT_state m) = 0)
    ∧ (t.flag EYE_STAT_permit = true ↔ s.flag CLK_STAT_refclk = true ∧ s.rd EYE_LOCK_state = 1
        ∧ (s.rd MOT_STATUS_state = 3 ∧ s.rd MOT_STATUS_dir = s.rd EYE_SPD_CFG_dir ∧ s.rd EYE_SPD_min ≤ s.speed
          ∧ s.speed ≤ s.rd EYE_SPD_max)
        ∧ (s.flag SAF_STAT_len_drv = true ∧ s.flag SAF_STAT_len_rb = true) ∧ mon ∧ s.eye.binEccBad = false
        ∧ s.flag GLB_READY_tpll = true)
    ∧ t.flag EYE_STAT_permit = s.permitNow ∧ (bitOf (t.rd EYE_STAT_cause) 0 = true ↔ s.flag CLK_STAT_refclk = false)
    ∧ (bitOf (t.rd EYE_STAT_cause) 1 = true ↔ s.rd EYE_LOCK_state ≠ 1)
    ∧ (bitOf (t.rd EYE_STAT_cause) 2 = true ↔ ¬ (s.rd MOT_STATUS_state = 3 ∧ s.rd MOT_STATUS_dir = s.rd EYE_SPD_CFG_dir
        ∧ s.rd EYE_SPD_min ≤ s.speed ∧ s.speed ≤ s.rd EYE_SPD_max))
    ∧ (bitOf (t.rd EYE_STAT_cause) 3 = true ↔ ¬ (s.flag SAF_STAT_len_drv = true ∧ s.flag SAF_STAT_len_rb = true))
    ∧ (bitOf (t.rd EYE_STAT_cause) 4 = true ↔ ¬ mon)
    ∧ (bitOf (t.rd EYE_STAT_cause) 5 = true ↔ s.eye.binEccBad = true)
    ∧ (bitOf (t.rd EYE_STAT_cause) 6 = true ↔ s.flag GLB_READY_tpll = false)
    ∧ t.rd EYE_STAT_wd_ct = (if s.flag EYE_STAT_permit = true ∧ t.flag EYE_STAT_permit = false then
        min (s.rd EYE_STAT_wd_ct + 1) (2 ^ EYE_STAT_wd_ct.width - 1) else s.rd EYE_STAT_wd_ct)
    ∧ (t.flag EYE_STAT_permit ≠ s.flag EYE_STAT_permit → s.fabricLive = true →
        Posted s t (s.eventWords 0x14 0 0 [w32 ((t.flag EYE_STAT_permit).toNat + 2 * t.rd EYE_STAT_cause)]))
    ∧ (t.flag EYE_STAT_permit = s.flag EYE_STAT_permit → t.host = s.host)
    ∧ (s.engine ≠ 3 → s.fabricLive = true → OnlyRegs (EYE_STAT :: eventRegs) s t)
    ∧ (s.engine ≠ 3 → t.flag EYE_STAT_permit = s.flag EYE_STAT_permit → OnlyRegs [EYE_STAT] s t ∧ OnlyChanges [.regs] s t))
  ∧ (∀ (e : EmitId) (s : State), s.timingLive = true → (s.emit e).committed = true → s.chgState e = 2 ∨ s.chgState e = 3 →
    s.flag EYE_STAT_permit = false → ∃ t p, exec (.emitterFire e) s = .next t ∧ p = ((s.emit e).trig : Int) + s.rdInt (EMT_SKEW_skew e)
      ∧ t.rd (EMT_FIRED_fired e) = (s.rd (EMT_FIRED_fired e) + 1) % 2 ^ (EMT_FIRED_fired e).width
      ∧ (t.emit e).pulse = some (p, p + 80 * s.rd (EMT_CFG_pw e))
      ∧ (∀ x, s.triggerGate = true → p ≤ x → x < p + 80 * s.rd (EMT_CFG_pw e) → t.triggerActive e x = true))
  ∧ (∀ s : State, s.timingLive = false → exec .laserPermitChange s = .next s)
  ∧ (∀ (q : Src) (s : State), s.timingLive = true → (EYE_STAT_permit.get (s.live q EYE_STAT) = 1 ↔ s.permitNow = true)
    ∧ EYE_STAT_cause.get (s.live q EYE_STAT) = s.permitCause)
  ∧ (∀ s : State, s.running = true → s.flag CLK_STAT_refclk = true → ∃ t, exec .refclkLost s = .next t
    ∧ t.flag EYE_STAT_permit = false ∧ bitOf (t.rd EYE_STAT_cause) 0 = true ∧ bitOf (t.rd EYE_STAT_cause) 6 = true
    ∧ t.rd EYE_STAT_wd_ct = (if s.flag EYE_STAT_permit = true then
        min (s.rd EYE_STAT_wd_ct + 1) (2 ^ EYE_STAT_wd_ct.width - 1) else s.rd EYE_STAT_wd_ct))

/-- The key sequence that burns the eye-safety set, its timeout and its end; neither happens while the fabric domain has no clock
(R195, R598, R646).
Rests also on the model's readings and choices in notes/assumptions: 2, 110. -/
def Obligations.EyeSafetyLock : Prop :=
  (∀ (q : Src) (v : Word) (s : State), s.serves q = true → s.eyeWritable q = true → s.eye.burning = false →
    EYE_LOCK_key.get v = 0x4B →
    ∃ t, exec (.eyeLockKey q v) s = .next t ∧ t.eye = { s.eye with armed := true } ∧ OnlyChanges [.eye] s t)
  ∧ (∀ (q : Src) (v : Word) (s : State), s.serves q = true → s.eyeWritable q = true → s.eye.burning = false →
    EYE_LOCK_key.get v = 0xB4 →
    s.eye.armed = true → ∃ t, exec (.eyeLockKey q v) s = .next t ∧ t.eye = { s.eye with
      armed := false, burning := true, burnSet := s.eyeWords }
      ∧ OnlyChanges [.eye] s t)
  ∧ (∀ (q : Src) (v : Word) (s : State), s.serves q = true → s.eyeWritable q = true → s.eye.burning = false →
    EYE_LOCK_key.get v ≠ 0x4B →
    (EYE_LOCK_key.get v = 0xB4 → s.eye.armed = false) → ∃ t, exec (.eyeLockKey q v) s = .next t
      ∧ t.eye = { s.eye with armed := false } ∧ OnlyChanges [.eye] s t)
  ∧ (∀ (q : Src) (v : Word) (s : State), s.serves q = true → s.eyeWritable q = false ∨ s.eye.burning = true →
    ∃ t, exec (.eyeLockKey q v) s = .next t ∧ t.eye = s.eye ∧ OnlyRegs refuseRegs s t)
  ∧ (∀ s : State, s.fabricLive = true → ∃ t, exec .eyeLockKeyTimeout s = .next t ∧ t.eye = { s.eye with armed := false } ∧ OnlyChanges [.eye] s t)
  ∧ (∀ s : State, s.fabricLive = false → exec .eyeLockKeyTimeout s = .next s ∧ exec .eyeLockBurnDone s = .next s)
  ∧ (∀ s : State, s.fabricLive = true → s.eye.burning = true → ∃ t, exec .eyeLockBurnDone s = .next t ∧ t.eye = { s.eye with burning := false }
    ∧ t.otp = { s.otp with eye := some (s.eye.burnSet, eyeCrc s.eye.burnSet) } ∧ t.rd EYE_LOCK_state = 1
    ∧ t.rd EYE_LOCK_crc = (eyeCrc s.eye.burnSet).toNat ∧ OnlyRegs [EYE_LOCK] s t)

/-- LOAD_SHOT_TABLE: the first status that applies, NO_TABLE where a count of 0 finds the staged bank empty, BAD_ENTRY for any entry,
which a count of 0 has none of, MAP_CONFLICT, SWAP_PENDING; a refused table completes with its status and changes no bank; with mode 0 the staged bank is
written and the command completes; else the swap waits for the round, or takes place at once in an idle engine with no snapshot in
wait of its strobe (R23, R131, R137, R153, R154, R442).
Rests also on the model's readings and choices in notes/assumptions: 45, 59, 123. -/
def Obligations.ShotTables : Prop :=
  (∀ (es : List Entry) (s : State), ∃ bad conflict : Entry → Prop,
    (∀ e, bad e ↔ (e.trig = 3 ∨ bitsOf e.w0 2 6 ≠ 0 ∨ bitsOf e.w2 20 12 ≠ 0
        ∨ (e.trig = 2 ∧ e.trigVal ≠ 0) ∨ (e.trig = 1 ∧ e.trigVal = 0) ∨ (e.trig = 0 ∧ 2 ^ (24 - s.rd SHT_CFG_fct) ≤ e.trigVal)
        ∨ (1 ≤ e.reps ∧ 80 * e.spacing < 4096 + 80 * s.rd (SHT_WPROF_A_main_len e.profile) + 2 * s.rd SHT_DITHER_amp)))
    ∧ (∀ e, conflict e ↔ ∃ x y, x ∈ e.emitterList ∧ y ∈ e.emitterList ∧ x ≠ y
        ∧ s.crateOfEmitter x = s.crateOfEmitter y ∧ (s.crateOfEmitter x).isSome = true)
    ∧ (es = [] → s.stagedBank = [] → s.loadStatus es = some stNO_TABLE)
    ∧ (es = [] → s.stagedBank ≠ [] → s.loadStatus es = if s.shot.swap.isSome then some stSWAP_PENDING else none)
    ∧ ((∃ e, e ∈ es ∧ bad e) → s.loadStatus es = some stBAD_ENTRY)
    ∧ (es ≠ [] → (∀ e, e ∈ es → ¬ bad e) → (∃ e, e ∈ es ∧ conflict e) → s.loadStatus es = some stMAP_CONFLICT)
    ∧ (es ≠ [] → (∀ e, e ∈ es → ¬ bad e ∧ ¬ conflict e) →
        s.loadStatus es = if s.shot.swap.isSome then some stSWAP_PENDING else none))
  ∧ (∀ (ref : CmdRef) (c : Cmd) (st : Nat) (s : State), s.fabricReady = true → s.waits ref 0x01 = some c →
    s.loadStatus (decodeEntries (bitsOf (wordAt c.words 1) 0 14) c.list) = some st →
    ∃ t, exec (.loadShotTable ref) s = .next t ∧ Completed s t c st 0 0 ∧ OnlyChanges [.host] s t)
  ∧ (∀ (ref : CmdRef) (c : Cmd) (es : List Entry) (s : State), s.fabricReady = true → s.waits ref 0x01 = some c →
    es = decodeEntries (bitsOf (wordAt c.words 1) 0 14) c.list → s.loadStatus es = none → bitsOf (wordAt c.words 1) 16 2 = 0 →
    ∃ t, exec (.loadShotTable ref) s = .next t ∧ Completed s t c stOK (BitVec.ofNat 64 (bitsOf (wordAt c.words 1) 0 14)) 0
      ∧ t.stagedBank = (if es.isEmpty then s.stagedBank else es) ∧ t.activeBank = s.activeBank
      ∧ OnlyRegs [SHT_STATUS, SHT_BANK_LEN] s t)
  ∧ (∀ (ref : CmdRef) (c : Cmd) (es : List Entry) (s : State), s.fabricReady = true → s.waits ref 0x01 = some c →
    es = decodeEntries (bitsOf (wordAt c.words 1) 0 14) c.list → s.loadStatus es = none → bitsOf (wordAt c.words 1) 16 2 = 2 →
    s.engine ≠ 0 → ∃ t, exec (.loadShotTable ref) s = .next t
      ∧ t.shot.swap = some ⟨some ref, some ((wordAt c.words 2).extractLsb' 0 16), false, bitsOf (wordAt c.words 1) 0 14⟩
      ∧ t.rd SHT_SWAP_RND_round = ((wordAt c.words 2).extractLsb' 0 16).toNat ∧ t.activeBank = s.activeBank
      ∧ t.stagedBank = (if es.isEmpty then s.stagedBank else es) ∧ t.host.cpls = s.host.cpls
      ∧ t.waits ref 0x01 = none)
  ∧ (∀ (ref : CmdRef) (c : Cmd) (es : List Entry) (s : State), s.fabricReady = true → s.waits ref 0x01 = some c →
    es = decodeEntries (bitsOf (wordAt c.words 1) 0 14) c.list → s.loadStatus es = none → bitsOf (wordAt c.words 1) 16 2 = 1 →
    s.timingLive = true → s.engine = 0 → s.shot.run = none → s.host.snaps = [] → ∃ t, exec (.loadShotTable ref) s = .next t
      ∧ t.shot.swap = none ∧ t.flag SHT_STATUS_act_bank = !s.flag SHT_STATUS_act_bank
      ∧ t.activeBank = (if es.isEmpty then s.stagedBank else es) ∧ t.stagedBank = s.activeBank
      ∧ t.rd GLB_EPOCH_epoch = (s.rd GLB_EPOCH_epoch + 1) % 2 ^ GLB_EPOCH_epoch.width)

/-- START and STOP: a refused START completes with the first status that applies (BUSY in an engine that is not IDLE, NOT_READY
without the timing PLL or any crate, NO_TABLE with an empty active bank, NO_PERMIT); an accepted one puts the engine in WAIT with entry 0 next, no
shot counted, and full credits; STOP of an idle engine completes, of a running entry makes it STOPPING, of an engine with no
repeat committed makes it idle and completes (R146, R150 to R152).
Rests also on the model's readings and choices in notes/assumptions: 43, 62, 122. -/
def Obligations.StartAndStop : Prop :=
  (∀ s : State, (s.startStatus = some stBUSY ↔ s.engine ≠ 0)
    ∧ (s.startStatus = some stNOT_READY ↔ s.engine = 0 ∧ (s.flag GLB_READY_tpll = false ∨ s.flag GLB_READY_crate_any = false))
    ∧ (s.startStatus = some stNO_TABLE ↔ s.engine = 0 ∧ s.flag GLB_READY_tpll = true ∧ s.flag GLB_READY_crate_any = true
        ∧ s.activeBank = [])
    ∧ (s.startStatus = some stNO_PERMIT ↔ s.engine = 0 ∧ s.flag GLB_READY_tpll = true ∧ s.flag GLB_READY_crate_any = true
        ∧ s.activeBank ≠ [] ∧ s.permitNow = false)
    ∧ (s.startStatus = none ↔ s.engine = 0 ∧ s.flag GLB_READY_tpll = true ∧ s.flag GLB_READY_crate_any = true
        ∧ s.activeBank ≠ [] ∧ s.permitNow = true))
  ∧ (∀ (ref : CmdRef) (c : Cmd) (st : Nat) (s : State), s.fabricReady = true → s.waits ref 0x02 = some c →
    s.startStatus = some st → ∃ t, exec (.start ref) s = .next t ∧ Completed s t c st 0 0 ∧ OnlyChanges [.host] s t)
  ∧ (∀ (ref : CmdRef) (c : Cmd) (s : State), s.fabricReady = true → s.waits ref 0x02 = some c → s.startStatus = none →
    s.shot.swap = none → (s.activeBank[0]?).all (fun e => e.trig != 2) = true → ∃ t, exec (.start ref) s = .next t ∧ t.engine = 1
      ∧ t.shot = { s.shot with run := none, next := 0, prevStart := s.nowLsb, delayDue := false, startCmd := some ref,
                                dwells := 0, aggregate := 256 }
      ∧ t.shotCount = 0 ∧ (∀ e, e < 32 → (t.emit e).credits = 32) ∧ t.host.cpls = s.host.cpls)
  ∧ (∀ (ref : CmdRef) (c : Cmd) (s : State), s.fabricReady = true → s.waits ref 0x03 = some c → s.engine = 0 →
    ∃ t, exec (.stop ref) s = .next t ∧ Completed s t c stOK 0 0 ∧ OnlyChanges [.host] s t)
  ∧ (∀ (ref : CmdRef) (c : Cmd) (r : Run) (s : State), s.fabricReady = true → s.waits ref 0x03 = some c →
    s.engine = 1 ∨ s.engine = 2 ∨ s.engine = 3 → s.shot.run = some r → 0 < r.committed → ∃ t, exec (.stop ref) s = .next t
      ∧ t.engine = 4 ∧ t.shot = { s.shot with delayDue := false, stopCmds := s.shot.stopCmds ++ [ref] }
      ∧ t.host.cpls = s.host.cpls ∧ OnlyRegs [SHT_STATUS, SHT_BANK_LEN] s t)
  ∧ (∀ (ref : CmdRef) (c : Cmd) (s : State), s.fabricReady = true → s.waits ref 0x03 = some c →
    s.engine = 1 ∨ s.engine = 2 ∨ s.engine = 3 → s.shot.run.all (fun r => r.committed == 0) = true →
    ∃ t, exec (.stop ref) s = .next t ∧ t.engine = 0 ∧ t.shot.run = none ∧ t.shot.swap = none ∧ t.shot.stopCmds = []
      ∧ t.shot.startCmd = none)

/-- Triggers: an entry that is watched starts at the angle's instant, or after its delay, and the entry after it becomes next;
an angle that passes while another entry runs is skipped and counted; an angle that is not passed triggers nothing; a round
boundary of the same tick comes first; credits refill (R127, R132 to R135, R146).
Rests also on the model's readings and choices in notes/assumptions: 9, 56, 57, 61, 67, 122. -/
def Obligations.Triggers : Prop :=
  (∀ (e : Entry) (s : State), s.watches 0 = true → s.roundDue = false → s.angleMatches = true → s.shot.run = none →
    s.nextEntry = some e → ∃ t, exec .angleTrigger s = .next t ∧ t.engine = 2
      ∧ t.shot = { s.shot with run := some ⟨s.shot.next, e, s.nowLsb, 0, 0, 0, 0, 0, 0, s.nowLsb, [], false⟩,
                                next := (s.shot.next + 1) % s.nextBank.length, prevStart := s.nowLsb, delayDue := false }
      ∧ OnlyRegs [SHT_STATUS, SHT_BANK_LEN] s t ∧ OnlyChanges [.regs, .shot] s t)
  ∧ (∀ (r : Run) (s : State), s.watches 0 = true → s.roundDue = false → s.angleMatches = true → s.shot.run = some r →
    ∃ t, exec .angleTrigger s = .next t ∧ t.engine = s.engine
      ∧ t.rd SHT_SKIP_skip = min (s.rd SHT_SKIP_skip + 1) (2 ^ SHT_SKIP_skip.width - 1)
      ∧ t.shot = { s.shot with next := (s.shot.next + 1) % s.nextBank.length, prevStart := s.nowLsb, delayDue := false })
  ∧ (∀ s : State, s.roundDue = false → s.angleMatches = false → exec .angleTrigger s = .next s)
  ∧ (∀ s : State, s.roundDue = true → exec .angleTrigger s = exec .angleTrigger s.roundBoundary)
  ∧ (∀ (e : Entry) (s : State), s.watches 1 = true → s.shot.run = none → s.nextEntry = some e → ∃ t n,
    exec .delayTrigger s = .next t ∧ n = max s.nowLsb (s.shot.prevStart + 640 * e.trigVal) ∧ t.engine = 2
      ∧ t.shot = { s.shot with run := some ⟨s.shot.next, e, n, 0, 0, 0, 0, 0, 0, n, [], false⟩,
                                next := (s.shot.next + 1) % s.nextBank.length, prevStart := n, delayDue := false }
      ∧ OnlyRegs [SHT_STATUS, SHT_BANK_LEN] s t ∧ OnlyChanges [.regs, .shot] s t)
  ∧ (∀ (r : Run) (s : State), s.watches 1 = true → s.shot.run = some r → ∃ t, exec .delayTrigger s = .next t
    ∧ t.shot = { s.shot with delayDue := true } ∧ OnlyChanges [.shot] s t)
  ∧ (∀ (e : EmitId) (s : State), s.timingLive = true → ∃ t, exec (.creditRefill (some e)) s = .next t
    ∧ t.emit e = { s.emit e with credits := min 32 ((s.emit e).credits + 1) } ∧ (∀ d, d ≠ e.val → t.emit d = s.emit d)
    ∧ OnlyChanges [.emits] s t)
  ∧ (∀ s : State, s.timingLive = true → ∃ t, exec (.creditRefill none) s = .next t
    ∧ t.shot = { s.shot with aggregate := min 256 (s.shot.aggregate + 1) } ∧ OnlyChanges [.shot] s t)

/-- The commit of a repeat: with the permit one more shot is counted and the repeat is committed; a later repeat's emitter that
passes every check loses a credit and is committed, and one of the first repeat arms its crate too; an emitter that fails checks 2 to
5 is skipped under the first that fails and counted there, and its crate is not armed; without the permit before the first repeat the
engine goes to HOLD and the entry does not run; behind a swap that waits for the running entry's end, entry 0 of the new bank follows
the hold; bins of the accountant that end in the tick roll first (R136, R143, R146, R151, R154, R167, R191).
A main window closes: the oldest committed repeat is closed; with the last one the entry ends, its dwells are counted, and
the engine waits for the next trigger, or starts a DELAY entry that has triggered, not before its own instant (R58, R132, R136).
Rests also on the model's readings and choices in notes/assumptions: 50, 51, 56, 62, 67, 119, 122. -/
def Obligations.Repeats : Prop :=
  (∀ (r : Run) (s : State), s.timingLive = true → s.shot.run = some r → s.commitDue r = true → s.permitNow = true →
    ∃ t r', exec (.shotCommit .clean) s = .next t ∧ t.shotCount = s.shotCount + 1 ∧ t.shot.run = some r'
      ∧ r'.committed = r.committed + 1 ∧ r'.closed = r.closed ∧ r'.entry = r.entry ∧ r'.startLsb = r.startLsb ∧ r'.idx = r.idx
      ∧ t.engine = s.engine)
  ∧ (∀ (r : Run) (e : Nat) (s : State), s.timingLive = true → s.shot.run = some r → s.commitDue r = true →
    s.permitNow = true → 0 < r.committed → r.entry.emitterList = [e] → s.flag (EMT_CFG_en e) = true → s.chgState e = 3 →
    0 < (s.emit e).credits → 0 < s.shot.aggregate → s.vetoOf e = none →
    s.binEnds 6250 s.eye.roll1 = false → s.binEnds 625000 s.eye.roll100 = false → ∃ t, exec (.shotCommit .clean) s = .next t
      ∧ (t.emit e).committed = true ∧ (t.emit e).credits = (s.emit e).credits - 1 ∧ (t.emit e).trig = r.trigger
      ∧ t.shot.aggregate = s.shot.aggregate - 1 ∧ (∀ d, d ≠ e → t.emit d = s.emit d))
  ∧ (∀ (r : Run) (s : State), s.timingLive = true → s.shot.run = some r → s.commitDue r = true → s.permitNow = false →
    r.committed = 0 → s.engine = 1 ∨ s.engine = 2 → s.shot.swap.all (fun w => !w.due) = true →
    s.binEnds 6250 s.eye.roll1 = false → s.binEnds 625000 s.eye.roll100 = false →
    ∃ t, exec (.shotCommit .clean) s = .next t ∧ t.engine = 3
      ∧ t.shot = { s.shot with run := none, resumeAt := some (r.idx + 1) } ∧ t.shotCount = s.shotCount
      ∧ t.rd SHT_HOLD_holds = min (s.rd SHT_HOLD_holds + 1) (2 ^ SHT_HOLD_holds.width - 1)
      ∧ OnlyRegs [SHT_STATUS, SHT_BANK_LEN, SHT_HOLD] s t ∧ OnlyChanges [.regs, .shot] s t)
  ∧ (∀ (r : Run) (w : Swap) (s : State), s.timingLive = true → s.shot.run = some r → s.commitDue r = true →
    s.permitNow = false → 0 < r.committed → r.closed ≠ r.committed → s.engine = 2 → s.shot.swap = some w → w.due = true →
    ∃ t, exec (.shotCommit .clean) s = .next t ∧ t.engine = 3 ∧ t.shot.run = some { r with ending := true }
      ∧ t.shot.resumeAt = some 0 ∧ t.shot.swap = some w ∧ t.shotCount = s.shotCount)
  ∧ (∀ (r : Run) (s : State), s.timingLive = true → s.shot.run = some r → r.closed + 1 < r.committed →
    ∃ t, exec .mainWindowClose s = .next t ∧ t.shot = { s.shot with run := some { r with closed := r.closed + 1 } })
  ∧ (∀ (r : Run) (s : State), s.timingLive = true → s.shot.run = some r → r.closed + 1 = r.committed →
    r.entry.reps < r.committed → s.engine = 2 → s.shot.swap = none → s.shot.delayDue = false →
    s.nextEntry.all (fun e => e.trig != 2) = true → ∃ t, exec .mainWindowClose s = .next t ∧ t.engine = 1
      ∧ t.shot = { s.shot with run := none, dwells := s.shot.dwells + 1 } ∧ t.shotCount = s.shotCount)
  ∧ (∀ (r : Run) (e : Entry) (s : State), s.timingLive = true → s.shot.run = some r → r.closed + 1 = r.committed →
    r.entry.reps < r.committed → s.engine = 2 → s.shot.swap = none → s.shot.delayDue = true → s.nextEntry = some e →
    ∃ t x, exec .mainWindowClose s = .next t ∧ t.engine = 2 ∧ t.shot.run = some x ∧ x.entry = e ∧ x.committed = 0
      ∧ x.startLsb = max r.close (s.shot.prevStart + 640 * e.trigVal) ∧ t.shot.dwells = s.shot.dwells + 1)
  ∧ (∀ s : State, s.shot.run = none → exec .mainWindowClose s = .next s)
  ∧ (∀ (r : Run) (e : Nat) (s : State), s.timingLive = true → s.shot.run = some r → s.commitDue r = true → s.permitNow = true →
    r.entry.emitterList = [e] → s.flag (EMT_CFG_en e) = false →
    s.binEnds 6250 s.eye.roll1 = false → s.binEnds 625000 s.eye.roll100 = false → ∃ t, exec (.shotCommit .clean) s = .next t
      ∧ t.rd (EMT_STAT_off e) = min (s.rd (EMT_STAT_off e) + 1) (2 ^ (EMT_STAT_off e).width - 1)
      ∧ t.rd (EMT_STAT_late e) = s.rd (EMT_STAT_late e) ∧ t.rd (EMT_STAT_rate e) = s.rd (EMT_STAT_rate e)
      ∧ t.rd (EMT_STAT_veto e) = s.rd (EMT_STAT_veto e) ∧ t.emit e = s.emit e ∧ t.shot.aggregate = s.shot.aggregate
      ∧ (∀ c, c < 32 → (t.crate c).armNext = (s.crate c).armNext))
  ∧ (∀ (r : Run) (e : Nat) (s : State), s.timingLive = true → s.shot.run = some r → s.commitDue r = true → s.permitNow = true →
    r.entry.emitterList = [e] → s.flag (EMT_CFG_en e) = true → s.chgState e ≠ 3 →
    s.binEnds 6250 s.eye.roll1 = false → s.binEnds 625000 s.eye.roll100 = false → ∃ t, exec (.shotCommit .clean) s = .next t
      ∧ t.rd (EMT_STAT_late e) = min (s.rd (EMT_STAT_late e) + 1) (2 ^ (EMT_STAT_late e).width - 1)
      ∧ t.rd (EMT_STAT_off e) = s.rd (EMT_STAT_off e) ∧ t.rd (EMT_STAT_rate e) = s.rd (EMT_STAT_rate e)
      ∧ t.rd (EMT_STAT_veto e) = s.rd (EMT_STAT_veto e) ∧ t.emit e = s.emit e ∧ t.shot.aggregate = s.shot.aggregate
      ∧ (∀ c, c < 32 → (t.crate c).armNext = (s.crate c).armNext))
  ∧ (∀ (r : Run) (e : Nat) (s : State), s.timingLive = true → s.shot.run = some r → s.commitDue r = true → s.permitNow = true →
    r.entry.emitterList = [e] → s.flag (EMT_CFG_en e) = true → s.chgState e = 3 →
    (s.emit e).credits = 0 ∨ s.shot.aggregate = 0 →
    s.binEnds 6250 s.eye.roll1 = false → s.binEnds 625000 s.eye.roll100 = false → ∃ t, exec (.shotCommit .clean) s = .next t
      ∧ t.rd (EMT_STAT_rate e) = min (s.rd (EMT_STAT_rate e) + 1) (2 ^ (EMT_STAT_rate e).width - 1)
      ∧ t.rd (EMT_STAT_off e) = s.rd (EMT_STAT_off e) ∧ t.rd (EMT_STAT_late e) = s.rd (EMT_STAT_late e)
      ∧ t.rd (EMT_STAT_veto e) = s.rd (EMT_STAT_veto e) ∧ t.emit e = s.emit e ∧ t.shot.aggregate = s.shot.aggregate
      ∧ (∀ c, c < 32 → (t.crate c).armNext = (s.crate c).armNext))
  ∧ (∀ (r : Run) (e : Nat) (f : FRef) (s : State), s.timingLive = true → s.shot.run = some r → s.commitDue r = true →
    s.permitNow = true → r.entry.emitterList = [e] → s.flag (EMT_CFG_en e) = true → s.chgState e = 3 → 0 < (s.emit e).credits →
    0 < s.shot.aggregate → s.vetoOf e = some f →
    s.binEnds 6250 s.eye.roll1 = false → s.binEnds 625000 s.eye.roll100 = false → ∃ t, exec (.shotCommit .clean) s = .next t
      ∧ t.rd f = min (s.rd f + 1) (2 ^ f.width - 1)
      ∧ t.rd (EMT_STAT_veto e) = min (s.rd (EMT_STAT_veto e) + 1) (2 ^ (EMT_STAT_veto e).width - 1)
      ∧ t.rd (EMT_STAT_off e) = s.rd (EMT_STAT_off e) ∧ t.rd (EMT_STAT_late e) = s.rd (EMT_STAT_late e)
      ∧ t.rd (EMT_STAT_rate e) = s.rd (EMT_STAT_rate e) ∧ t.emit e = s.emit e ∧ t.shot.aggregate = s.shot.aggregate
      ∧ (∀ c, c < 32 → (t.crate c).armNext = (s.crate c).armNext))
  ∧ (∀ (e : Nat) (s : State), s.vetoOf e =
      (if s.rd EYE_LIM_1MS_lim < (s.emit e).bins1.sum + s.nextEnergy e then some EYE_VETO_w1
      else if s.rd EYE_LIM_100MS_lim < (s.emit e).bins100.sum + s.nextEnergy e then some EYE_VETO_w100
      else if s.rd EYE_LIM_SEC_lim < (s.classBins s.direction).sum + s.nextEnergy e then some EYE_VETO_sec else none))
  ∧ (∀ (r : Run) (e : Nat) (s : State), s.timingLive = true → s.shot.run = some r → s.commitDue r = true → s.permitNow = true →
    r.committed = 0 → r.entry.emitterList = [e] → s.flag (EMT_CFG_en e) = true → s.chgState e = 3 → 0 < (s.emit e).credits →
    0 < s.shot.aggregate → s.vetoOf e = none →
    s.binEnds 6250 s.eye.roll1 = false → s.binEnds 625000 s.eye.roll100 = false → ∃ t, exec (.shotCommit .clean) s = .next t
      ∧ (t.emit e).committed = true ∧ (t.emit e).credits = (s.emit e).credits - 1 ∧ (t.emit e).trig = r.startLsb + 4096
      ∧ t.shot.aggregate = s.shot.aggregate - 1 ∧ (∀ d, d ≠ e → t.emit d = s.emit d)
      ∧ (∀ c, s.crateOfEmitter e = some c → s.armable c = true → (s.crate c).descQ.length < descQueueSize →
          s.crateReady c = true → ∃ w, (t.crate c).armNext = some w ∧ w.group = e / 8 ∧ w.trig = r.startLsb + 4096 ∧ w.rep = 0
            ∧ w.close = coarseEdge (r.startLsb + 4096 + 80 * s.rd (SHT_WPROF_A_main_len r.entry.profile))))
  ∧ (∀ (r : Run) (x : Ecc) (s : State), s.timingLive = true → s.shot.run = some r → s.commitDue r = true →
    ∃ a b, exec (.accountantBinRoll false) s = .next a ∧ exec (.accountantBinRoll true) a = .next b
      ∧ exec (.shotCommit x) s = exec (.shotCommit x) b)

/-- A round boundary in forward rotation: the round counter wraps, transactions for the round fall due, a swap that waits for it
falls due, at once where no entry runs, and where the engine waits a CHAIN entry 0 of the new bank starts with it; it ends a zone
sweep; so does a sweep boundary; a sync pulse is as long as SHT_SYNC.pw; an entry that has started and committed no repeat gives way
to the new bank (the model's choice, log 123) (R132, R133, R149, R154, R235, R433, R434, R511).
Rests also on the model's readings and choices in notes/assumptions: 9, 45, 61, 67, 123. -/
def Obligations.Boundaries : Prop :=
  (∀ s : State, s.roundDue = true → s.motor.sweepTick ≠ some s.clk.tick → s.shot.swap = none → ∃ t,
    exec .roundBoundary s = .next t ∧ t.rd MOT_ROUND_round = (s.rd MOT_ROUND_round + 1) % 2 ^ MOT_ROUND_round.width
    ∧ t.shot = (if s.rd SHT_SYNC_mode = 1 ∨ s.rd SHT_SYNC_mode = 2 then { s.shot with
        syncPulses := s.shot.syncPulses + 1, syncPulse := some (s.nowLsb, s.nowLsb + 80 * s.rd SHT_SYNC_pw) } else s.shot)
    ∧ t.host = { s.host with txns := s.host.txns.map (fun x =>
        if x.atPoint = 1 ∨ (x.atPoint = 2 ∧ x.round = BitVec.ofNat 16 (t.rd MOT_ROUND_round)) then { x with due := true } else x) }
    ∧ t.saf = { s.saf with closing := s.saf.closing ++ [s.saf.sweepSeq], sweepSeq := (s.saf.sweepSeq + 1) % 256 }
    ∧ t.motor = { s.motor with passTick := some s.clk.tick, sweepTick := some s.clk.tick }
    ∧ OnlyRegs [MOT_ROUND] s t ∧ OnlyChanges [.regs, .shot, .motor, .host, .saf] s t)
  ∧ (∀ (w : Swap) (r : Run) (s : State), s.roundDue = true → s.engine ≠ 0 → s.shot.swap = some w →
    w.due = false → w.atRound = none → s.shot.run = some r → 0 < r.committed → ∃ t, exec .roundBoundary s = .next t
      ∧ t.shot.swap = some { w with due := true } ∧ t.shot.next = 0 ∧ t.shot.run = some r
      ∧ t.flag SHT_STATUS_act_bank = s.flag SHT_STATUS_act_bank)
  ∧ (∀ (w : Swap) (s : State), s.roundDue = true → s.engine ≠ 0 → s.shot.swap = some w →
    w.due = false → w.atRound = some (BitVec.ofNat 16 (s.rd MOT_ROUND_round + 1)) → s.shot.run = none → s.host.snaps = [] →
    (s.engine = 1 → (s.stagedBank[0]?).all (fun e => e.trig != 2) = true) →
    ∃ t, exec .roundBoundary s = .next t ∧ t.shot.swap = none ∧ t.shot.next = 0
      ∧ t.flag SHT_STATUS_act_bank = !s.flag SHT_STATUS_act_bank
      ∧ t.rd GLB_EPOCH_epoch = (s.rd GLB_EPOCH_epoch + 1) % 2 ^ GLB_EPOCH_epoch.width)
  ∧ (∀ s : State, s.sweepDue = true → ∃ t, exec .sweepBoundary s = .next t
    ∧ t.saf = { s.saf with closing := s.saf.closing ++ [s.saf.sweepSeq], sweepSeq := (s.saf.sweepSeq + 1) % 256 }
    ∧ t.motor = { s.motor with sweepTick := some s.clk.tick } ∧ OnlyChanges [.shot, .motor, .saf] s t)
  ∧ (∀ s : State, s.roundDue = false → exec .roundBoundary s = .next s)
  ∧ (∀ s : State, s.sweepDue = false → exec .sweepBoundary s = .next s)
  ∧ (∀ (w : Swap) (e : Entry) (s : State), s.roundDue = true → s.engine = 1 → s.shot.swap = some w → w.due = false →
    w.atRound = none → s.shot.run = none → s.host.snaps = [] → s.stagedBank[0]? = some e → e.trig = 2 → ∃ t r,
      exec .roundBoundary s = .next t ∧ t.engine = 2 ∧ t.shot.run = some r ∧ r.entry = e ∧ r.idx = 0 ∧ r.startLsb = s.nowLsb
      ∧ r.committed = 0 ∧ t.shot.swap = none ∧ t.flag SHT_STATUS_act_bank = !s.flag SHT_STATUS_act_bank)
  ∧ (∀ (w : Swap) (r : Run) (s : State), s.roundDue = true → s.engine = 2 → s.shot.swap = some w → w.due = false →
    w.atRound = none → s.shot.run = some r → r.committed = 0 → s.host.snaps = [] →
    (s.stagedBank[0]?).all (fun e => e.trig != 2) = true → ∃ t, exec .roundBoundary s = .next t ∧ t.shot.swap = none
      ∧ t.shot.run = none ∧ t.shot.next = 0 ∧ t.flag SHT_STATUS_act_bank = !s.flag SHT_STATUS_act_bank
      ∧ t.rd GLB_EPOCH_epoch = (s.rd GLB_EPOCH_epoch + 1) % 2 ^ GLB_EPOCH_epoch.width)

/-- Hall codes: the first valid code after a restart gives STANDSTILL at its segment and the ready bit; a change to the next or
the previous position is an edge that moves the segment counter; a change of more than one line is illegal and one to an invalid
code counts as such, also while no code is held; either loses the count, and posts MOTOR with MOT_STATUS as it then stands; a valid code
after a loss gives RESYNC; an edge stores its period, gives the speed in VALID and 0 in every other state, notes and posts a reversal, and
counts and posts a jump of the period; between edges the speed falls with the time since the last one; a code held for less than n_hall
samples changes nothing (R216 to R219, R221 to R224, R428).
Rests also on the model's readings and choices in notes/assumptions: 10, 66, 123. -/
def Obligations.HallCodes : Prop :=
  (∀ (code : BitVec 3) (held p : Nat) (s : State), s.timingLive = true → s.rd MOT_FILT_n_hall ≤ held → s.motor.code = none →
    s.motor.everCode = false → s.motor.lines.all (fun o => decide (linesChanged o code ≤ 1)) = true → hallPos code = some p →
    ∃ t, exec (.hallCodeChange code held) s = .next t
      ∧ t.rd MOT_STATUS_state = 1 ∧ t.rd MOT_STATUS_seg = p ∧ t.rd MOT_STATUS_code = code.toNat ∧ t.motor.code = some code
      ∧ t.motor.everCode = true ∧ t.flag GLB_READY_motor = true ∧ OnlyRegs (motorShown ++ readyRegs) s t)
  ∧ (∀ (old code : BitVec 3) (held : Nat) (s : State), s.timingLive = true → s.rd MOT_FILT_n_hall ≤ held →
    s.motor.code = none → s.motor.lines = some old → 1 < linesChanged old code → ∃ t, exec (.hallCodeChange code held) s = .next t
      ∧ t.rd MOT_ERR_A_illegal = min (s.rd MOT_ERR_A_illegal + 1) 255 ∧ t.motor.lines = some code
      ∧ (t.motor.code.isSome = (hallPos code).isSome) ∧ OnlyRegs (motorRegs ++ readyRegs) s t)
  ∧ (∀ (old code : BitVec 3) (held : Nat) (s : State), s.timingLive = true → s.rd MOT_FILT_n_hall ≤ held →
    s.motor.code = none → s.motor.lines = some old → linesChanged old code = 1 → hallPos code = none →
    ∃ t, exec (.hallCodeChange code held) s = .next t ∧ t.rd MOT_ERR_A_inv_code = min (s.rd MOT_ERR_A_inv_code + 1) 255
      ∧ t.motor.lines = some code ∧ t.motor.code = none ∧ OnlyRegs motorRegs s t
      ∧ (s.fabricLive = true → Posted s t (s.eventWords 0x40 5 0 [0, t.reg MOT_STATUS, t.reg MOT_PERIOD])))
  ∧ (∀ (old code : BitVec 3) (held a b : Nat) (s : State), s.timingLive = true → s.rd MOT_FILT_n_hall ≤ held →
    s.motor.code = some old → linesChanged old code = 1 → hallPos old = some a → hallPos code = some b →
    ∃ t rev, exec (.hallCodeChange code held) s = .next t ∧ rev = (((a + 1) % 6 != b) != s.flag MOT_CFG_rev)
      ∧ t.rd MOT_STATUS_seg = (if rev then (s.rd MOT_STATUS_seg + s.segments - 1) % s.segments
          else (s.rd MOT_STATUS_seg + 1) % s.segments)
      ∧ t.flag MOT_STATUS_dir = rev ∧ t.motor.code = some code ∧ t.motor.edgeAccept = s.clk.tick
      ∧ t.rd MOT_STATUS_state = (if (s.rd MOT_STATUS_state = 2 ∨ s.rd MOT_STATUS_state = 3) ∧ s.flag MOT_STATUS_dir = rev then 3
          else 2)
      ∧ OnlyRegs motorRegs s t ∧ OnlyChanges [.regs, .motor, .host] s t)
  ∧ (∀ (old code : BitVec 3) (held : Nat) (s : State), s.timingLive = true → s.rd MOT_FILT_n_hall ≤ held →
    s.motor.code = some old → 1 < linesChanged old code → ∃ t, exec (.hallCodeChange code held) s = .next t
      ∧ t.rd MOT_STATUS_state = (if (hallPos code).isSome then 4 else 0) ∧ t.flag MOT_STATUS_aligned = false
      ∧ t.motor.code = (if (hallPos code).isSome then some code else none) ∧ t.rd MOT_STATUS_seg = s.rd MOT_STATUS_seg
      ∧ t.rd MOT_ERR_A_illegal = min (s.rd MOT_ERR_A_illegal + 1) 255 ∧ OnlyRegs motorRegs s t
      ∧ (s.fabricLive = true → Posted s t (s.eventWords 0x40 5 0 [1, t.reg MOT_STATUS, t.reg MOT_PERIOD])))
  ∧ (∀ (old code : BitVec 3) (held : Nat) (s : State), s.timingLive = true → s.rd MOT_FILT_n_hall ≤ held →
    s.motor.code = some old → linesChanged old code = 1 → hallPos code = none →
    ∃ t, exec (.hallCodeChange code held) s = .next t ∧ t.rd MOT_STATUS_state = 0 ∧ t.flag MOT_STATUS_aligned = false
      ∧ t.motor.code = none ∧ t.rd MOT_ERR_A_inv_code = min (s.rd MOT_ERR_A_inv_code + 1) 255 ∧ OnlyRegs motorRegs s t
      ∧ (s.fabricLive = true → Posted s t (s.eventWords 0x40 5 0 [0, t.reg MOT_STATUS, t.reg MOT_PERIOD])))
  ∧ (∀ (code : BitVec 3) (held : Nat) (s : State), s.timingLive = true → s.rd MOT_FILT_n_hall ≤ held →
    s.motor.code = some code → ∃ t, exec (.hallCodeChange code held) s = .next t ∧ t.rd MOT_STATUS_state = s.rd MOT_STATUS_state
      ∧ t.rd MOT_STATUS_seg = s.rd MOT_STATUS_seg ∧ t.motor.code = some code ∧ OnlyRegs motorShown s t)
  ∧ (∀ (code : BitVec 3) (held : Nat) (s : State), held < s.rd MOT_FILT_n_hall →
    exec (.hallCodeChange code held) s = .next s)
  ∧ (∀ (code : BitVec 3) (held p : Nat) (s : State), s.timingLive = true → s.rd MOT_FILT_n_hall ≤ held → s.motor.code = none →
    s.motor.everCode = true → s.motor.lines.all (fun o => decide (linesChanged o code ≤ 1)) = true → hallPos code = some p →
    ∃ t, exec (.hallCodeChange code held) s = .next t
      ∧ t.rd MOT_STATUS_state = 4 ∧ t.rd MOT_STATUS_seg = s.rd MOT_STATUS_seg ∧ t.motor.code = some code
      ∧ t.rd MOT_SPEED_spd = 0 ∧ OnlyRegs motorShown s t)
  ∧ (∀ (old code : BitVec 3) (held a b n p m : Nat) (rev jump : Bool) (s : State), s.timingLive = true →
    n = s.rd MOT_FILT_n_hall → n ≤ held → s.motor.code = some old → linesChanged old code = 1 → hallPos old = some a →
    hallPos code = some b → rev = (((a + 1) % 6 != b) != s.flag MOT_CFG_rev) → s.motor.hasEdge = true →
    p = min (2 ^ 32 - 1) (max 1 (if s.motor.edgeN = n then s.clk.tick + 1 - n - s.motor.edgeTime
      else s.clk.tick - s.motor.edgeAccept)) →
    m = 60000000000 / (s.segments * p) →
    jump = (decide (s.rd MOT_STATUS_state = 3) && (decide (s.rd MOT_PERIOD_period * (100 + s.rd MOT_TMO_jump) < p * 100)
      || decide (p * (100 + s.rd MOT_TMO_jump) < s.rd MOT_PERIOD_period * 100))) →
    ∃ t, exec (.hallCodeChange code held) s = .next t ∧ t.rd MOT_PERIOD_period = p ∧ t.motor.edgeTime = s.clk.tick + 1 - n
      ∧ t.rdInt MOT_SPEED_spd = (if t.rd MOT_STATUS_state = 3 then
          clampInt (-2 ^ 31) (2 ^ 31 - 1) ((if rev then -1 else 1) * ((if s.clk.tick ≤ t.motor.edgeTime then m
            else min m (60000000000 / (s.segments * (s.clk.tick - t.motor.edgeTime))) : Nat) : Int)) else 0)
      ∧ (rev = s.flag MOT_STATUS_dir → t.flag MOT_STATUS_dir_chg = s.flag MOT_STATUS_dir_chg
          ∧ t.rd MOT_ERR_B_rev_ct = s.rd MOT_ERR_B_rev_ct)
      ∧ (rev ≠ s.flag MOT_STATUS_dir → t.flag MOT_STATUS_dir_chg = true
          ∧ t.rd MOT_ERR_B_rev_ct = min (s.rd MOT_ERR_B_rev_ct + 1) (2 ^ MOT_ERR_B_rev_ct.width - 1))
      ∧ t.rd MOT_ERR_B_jump_ct = (if jump then min (s.rd MOT_ERR_B_jump_ct + 1) (2 ^ MOT_ERR_B_jump_ct.width - 1)
          else s.rd MOT_ERR_B_jump_ct)
      ∧ (rev = s.flag MOT_STATUS_dir → jump = false → t.host = s.host)
      ∧ (rev ≠ s.flag MOT_STATUS_dir → jump = false → s.fabricLive = true →
          Posted s t (s.eventWords 0x40 5 0 [3, t.reg MOT_STATUS, t.reg MOT_PERIOD]))
      ∧ (rev = s.flag MOT_STATUS_dir → jump = true → s.fabricLive = true →
          Posted s t (s.eventWords 0x40 5 0 [4, t.reg MOT_STATUS, t.reg MOT_PERIOD])))
  ∧ (∀ s : State, s.pending = [] → s.timingLive = true → ∃ t, step s = .next t ∧ t.clk.tick = s.clk.tick + 1
    ∧ t.rdInt MOT_SPEED_spd = (if t.rd MOT_STATUS_state = 3 then
        clampInt (-2 ^ 31) (2 ^ 31 - 1) ((if t.flag MOT_STATUS_dir then -1 else 1) * ((if t.clk.tick ≤ t.motor.edgeTime
          then t.motor.sEdge else min t.motor.sEdge (60000000000 / (t.segments * (t.clk.tick - t.motor.edgeTime))) : Nat) : Int))
        else 0))

/-- Index and frame-sync edges in forward rotation align the angle; the first index edge makes the reported angle its offset; an
aligned angle that is off by more than the tolerance is a slip; levels alone are only noted; a missing index is counted; the
stand-still timeout ends the speed (R219, R220, R230 to R233).
Rests also on the model's readings and choices in notes/assumptions: 66, 67, 123. -/
def Obligations.IndexAndStandstill : Prop :=
  (∀ (level : Bool) (held : Nat) (s : State), s.timingLive = true → s.rd MOT_FILT_n_idx ≤ held →
    s.motor.idxLevel = some (!level) → level = !s.flag MOT_IDX_CFG_pol → s.flag MOT_IDX_CFG_idx_en = true → s.idxActs = true →
    ∃ t, exec (.indexEdge level held) s = .next t ∧ t.flag MOT_STATUS_aligned = true ∧ t.motor.fwdCount = 0
      ∧ t.motor.idxLevel = some level ∧ t.motor.offset = ahead (s.rd MOT_IDX_CFG_ofs * 256) s.rawAngle
      ∧ (s.flag MOT_STATUS_aligned = false → t.rd MOT_ANGLE_angle = s.rd MOT_IDX_CFG_ofs * 256 ∧ t.flag MOT_ANGLE_valid = true)
      ∧ t.rd MOT_ERR_A_slip = (if s.flag MOT_STATUS_aligned = true ∧ s.rd MOT_IDX_CFG_tol * 256
            < circDist fullAngle s.reportedAngle (s.rd MOT_IDX_CFG_ofs * 256) then min (s.rd MOT_ERR_A_slip + 1) 255
          else s.rd MOT_ERR_A_slip)
      ∧ OnlyRegs motorRegs s t)
  ∧ (∀ (level : Bool) (held : Nat) (s : State), s.timingLive = true → s.rd MOT_FILT_n_idx ≤ held →
    s.motor.idxLevel = some (!level) → level = !s.flag MOT_IDX_CFG_pol → s.flag MOT_FSYNC_en = true → s.idxActs = true →
    s.flag MOT_STATUS_aligned = false → ∃ t, exec (.frameSyncEdge level held) s = .next t
      ∧ t.flag MOT_STATUS_aligned = true ∧ t.motor.idxLevel = some level
      ∧ t.rd MOT_ANGLE_angle = s.rd MOT_FSYNC_ofs * 256 % 2 ^ (24 - s.rd SHT_CFG_fct) ∧ OnlyRegs motorShown s t)
  ∧ (∀ (level : Bool) (held : Nat) (s : State), s.timingLive = true → s.rd MOT_FILT_n_idx ≤ held →
    s.motor.idxLevel = some level ∨ s.idxActs = false → ∃ t u, exec (.indexEdge level held) s = .next t
      ∧ exec (.frameSyncEdge level held) s = .next u ∧ t = u ∧ t.motor.idxLevel = some level
      ∧ t.motor.offset = s.motor.offset ∧ t.flag MOT_STATUS_aligned = s.flag MOT_STATUS_aligned ∧ OnlyRegs motorShown s t)
  ∧ (∀ s : State, s.timingLive = true → 2 * s.segments ≤ s.motor.fwdCount → s.flag MOT_STATUS_aligned = true →
    ∃ t, exec .indexMissing s = .next t ∧ t.motor = { s.motor with fwdCount := 0 }
      ∧ t.rd MOT_ERR_A_idx_miss = min (s.rd MOT_ERR_A_idx_miss + 1) 255 ∧ OnlyRegs (MOT_ERR_A :: eventRegs) s t)
  ∧ (∀ s : State, s.motor.fwdCount < 2 * s.segments → exec .indexMissing s = .next s)
  ∧ (∀ s : State, s.timingLive = true → s.rd MOT_STATUS_state = 2 ∨ s.rd MOT_STATUS_state = 3 ∨ s.rd MOT_STATUS_state = 4 →
    100000 * s.rd MOT_TMO_stand_ms ≤ s.clk.tick - s.motor.standFrom → ∃ t, exec .standstillTimeout s = .next t ∧ t.rd MOT_STATUS_state = 1 ∧ t.rd MOT_SPEED_spd = 0
      ∧ t.flag MOT_ANGLE_valid = false ∧ t.motor.hold = none
      ∧ t.rd MOT_ERR_B_stand_ct = min (s.rd MOT_ERR_B_stand_ct + 1) 65535
      ∧ (s.fabricLive = true → Posted s t (s.eventWords 0x40 5 0 [2, t.reg MOT_STATUS, t.reg MOT_PERIOD]))
      ∧ OnlyRegs motorRegs s t ∧ OnlyChanges [.regs, .motor, .host] s t)
  ∧ (∀ s : State, s.clk.tick - s.motor.standFrom < 100000 * s.rd MOT_TMO_stand_ms → exec .standstillTimeout s = .next s)

/-- The speed-error output takes its high time at the start of each period of 2,048 ticks from the error and the gain, is high for
that time, and low without out_en; a direct write of MOT_CFG restarts acquisition where the engine is idle, changes the register
alone while the timing domain has no clock, and is refused and logged where the engine runs; a read of MOT_STATUS holds the five
registers together (R237, R239, R246, R437, R440, R590). The model's own: where the first period begins (log 118), the write
without a clock (log 66), and that the words held are those of the last read of MOT_STATUS (log 31).
Rests also on the model's readings and choices in notes/assumptions: 31, 66, 118. -/
def Obligations.MotorRegisters : Prop :=
  (∀ s : State, s.timingLive = true → (s.clk.tick - s.motor.serrFrom) % 2048 = 0 → ∃ t, exec .serrPwmPeriod s = .next t
    ∧ (t.rd MOT_SERR_high : Int) = clampInt 0 2047 (1024 + s.rdInt MOT_SERR_err * s.rd MOT_SERR_CFG_gain / 16)
    ∧ t.serrLevel = (if s.flag MOT_SERR_CFG_out_en = true ∧ 0 < t.rd MOT_SERR_high then .high else .low)
    ∧ OnlyRegs [MOT_SERR] s t ∧ OnlyChanges [.regs] s t)
  ∧ (∀ s : State, (s.clk.tick - s.motor.serrFrom) % 2048 ≠ 0 → exec .serrPwmPeriod s = .next s)
  ∧ (∀ s : State, s.timingLive = true → s.serrLevel = (if s.flag MOT_SERR_CFG_out_en = true
      ∧ (s.clk.tick - s.motor.serrFrom) % 2048 < s.rd MOT_SERR_high then .high else .low))
  ∧ (∀ (q : Src) (v : Word) (s : State), s.serves q = true → s.engine = 0 → s.timingLive = true →
    ∃ t, exec (.motCfgWrite q v) s = .next t
      ∧ t.rd MOT_CFG_pp = MOT_CFG_pp.get v ∧ t.rd MOT_CFG_rev = MOT_CFG_rev.get v ∧ t.rd MOT_STATUS_state = 0
      ∧ t.flag MOT_STATUS_aligned = false ∧ t.rd MOT_SPEED_spd = 0 ∧ t.motor.code = none ∧ t.motor.everCode = false
      ∧ t.flag GLB_READY_motor = false ∧ OnlyRegs (MOT_CFG :: (motorShown ++ readyRegs)) s t)
  ∧ (∀ (q : Src) (v : Word) (s : State), s.serves q = true → s.engine = 0 → s.timingLive = false →
    ∃ t, exec (.motCfgWrite q v) s = .next t ∧ t.rd MOT_CFG_pp = MOT_CFG_pp.get v ∧ t.rd MOT_CFG_rev = MOT_CFG_rev.get v
      ∧ OnlyRegs [MOT_CFG] s t ∧ OnlyChanges [.regs] s t)
  ∧ (∀ (q : Src) (v : Word) (s : State), s.serves q = true → s.engine ≠ 0 → ∃ t e, exec (.motCfgWrite q v) s = .next t
    ∧ t.rd GLB_WR_REFUSE_addr = MOT_CFG / 4 ∧ t.flt.log = logRoom s.flt.log ++ [e] ∧ e.w0.toNat % 256 = 0x30
    ∧ e.w2.toNat / 512 = MOT_CFG / 4 ∧ OnlyRegs refuseRegs s t ∧ OnlyChanges [.regs, .host, .flt] s t)
  ∧ (∀ (q : Src) (s : State), s.serves q = true → ∃ t, exec (.motStatusRead q) s = .next t
    ∧ t.req q = { s.req q with rdata := s.reg MOT_STATUS, mot := some [s.reg MOT_STATUS, s.reg MOT_SPEED, s.reg MOT_PERIOD,
        s.reg MOT_ANGLE, s.reg MOT_ROUND] } ∧ OnlyChanges [.reqs] s t)

/-- The Skimmer's frame: a valid result gives the channel its threshold and bias targets, by the square roots q and w of the current
and of the knee, and takes it through the states of R311: out of SUN below the sun threshold, into SUN at or above it, in SUN counting
the results at or below sun_off until sun_hold of them let it leave; in SUN the bias target is at least the sun step; a result that is
not valid, or that no frame has delivered, changes nothing of the channel; a failed converter holds SUN and the greatest threshold;
the registers of a crate that is OFF keep their values (R54, R307, R308, R310, R311, R563, R611).
Rests also on the model's readings and choices in notes/assumptions: 54, 120, 123. -/
def Obligations.SkimmerFrames : Prop :=
  (∀ (c : CrateId) (k : ChanId) (a q w θ β : Nat) (s : State), s.fabricReady = true →
    s.cratePowered c = true → (s.chan c k).ambFailed = false → (s.chan c k).ambDelivered = true → s.flag (CHN_AMB_valid c k) = true →
    s.flag (CHN_AMB_over c k) = false → a = s.rd (CHN_AMB_amb c k) →
    s.flag (SKM_CH_sun c k) = false → a < s.rd SKM_SUN_ON_sun_on → q * q ≤ a → a < (q + 1) * (q + 1) → w * w ≤ s.rd SKM_THR_LAW_knee →
    s.rd SKM_THR_LAW_knee < (w + 1) * (w + 1) →
    θ = (if s.flag SKM_CFG_thr_en = true ∧ s.rd SKM_THR_LAW_knee < a then min (s.rd SKM_RATE_dmax) (s.rd SKM_THR_LAW_gain * (q - w) / 16) else 0) →
    β = (if s.flag SKM_CFG_bias_en = true ∧ s.rd SKM_BIAS_LAW_bknee < a then
      min (s.rd SKM_LIM_bmax) ((a - s.rd SKM_BIAS_LAW_bknee) * s.rd SKM_BIAS_LAW_bgain / 65536) else 0) →
    ∃ t, exec .skimmerFrameProcess s = .next t
      ∧ t.chan c k = { s.chan c k with lastA := some (a, false), ambDelivered := false, pubThr := θ, pubBias := β }
      ∧ t.flag (SKM_CH_sun c k) = false)
  ∧ (∀ (c : CrateId) (k : ChanId) (a q w θ β v : Nat) (o : Bool) (s : State), s.fabricReady = true →
    s.cratePowered c = true → (s.chan c k).ambFailed = false → (s.chan c k).ambDelivered = true → s.flag (CHN_AMB_valid c k) = true →
    o = s.flag (CHN_AMB_over c k) → a = (if o = true then 1048575 else s.rd (CHN_AMB_amb c k)) →
    s.flag (SKM_CH_sun c k) = false → s.rd SKM_SUN_ON_sun_on ≤ a ∨ o = true → q * q ≤ a → a < (q + 1) * (q + 1) → w * w ≤ s.rd SKM_THR_LAW_knee →
    s.rd SKM_THR_LAW_knee < (w + 1) * (w + 1) →
    θ = (if s.flag SKM_CFG_thr_en = true ∧ s.rd SKM_THR_LAW_knee < a then min (s.rd SKM_RATE_dmax) (s.rd SKM_THR_LAW_gain * (q - w) / 16) else 0) →
    β = (if s.flag SKM_CFG_bias_en = true ∧ s.rd SKM_BIAS_LAW_bknee < a then
      min (s.rd SKM_LIM_bmax) ((a - s.rd SKM_BIAS_LAW_bknee) * s.rd SKM_BIAS_LAW_bgain / 65536) else 0) →
    v = (if s.flag SKM_CFG_sun_en = true ∧ s.flag SKM_CFG_bias_en = true then max β (s.rd SKM_SUN_ON_sun_step) else β) →
    ∃ t, exec .skimmerFrameProcess s = .next t ∧ t.flag (SKM_CH_sun c k) = true ∧ t.rd (SKM_CH_sun_ct c k) = 0
      ∧ t.chan c k = { s.chan c k with
          lastA := some (a, o), ambDelivered := false, pubThr := θ, pubBias := v,
          pubSun := (s.chan c k).pubSun || (s.flag SKM_CFG_sun_en && s.flag SKM_CFG_bias_en) })
  ∧ (∀ (c : CrateId) (k : ChanId) (s : State), s.fabricReady = true → (s.chan c k).ambFailed = false →
    s.flag (CHN_AMB_valid c k) = false ∨ (s.chan c k).ambDelivered = false → ∃ t, exec .skimmerFrameProcess s = .next t
      ∧ t.chan c k = { s.chan c k with ambDelivered := false }
      ∧ t.reg (SKM_CH c k) = s.reg (SKM_CH c k))
  ∧ (∀ (c : CrateId) (k : ChanId) (s : State), s.fabricReady = true → s.cratePowered c = true → (s.chan c k).ambFailed = true →
    ∃ t, exec .skimmerFrameProcess s = .next t ∧ t.flag (SKM_CH_sun c k) = true
      ∧ (t.chan c k).pubThr = s.rd SKM_RATE_dmax ∧ (t.chan c k).lastA = (s.chan c k).lastA
      ∧ (s.flag (SKM_CH_sun c k) = true → (t.chan c k).pubSun = (s.chan c k).pubSun ∧ t.reg (SKM_CH c k) = s.reg (SKM_CH c k))
      ∧ (s.flag SKM_CFG_sun_en = true → s.flag SKM_CFG_bias_en = true → (t.chan c k).pubBias = s.rd SKM_SUN_ON_sun_step))
  ∧ (∀ (c : CrateId) (k : ChanId) (a q w θ β v : Nat) (s : State), s.fabricReady = true →
    s.cratePowered c = true → (s.chan c k).ambFailed = false → (s.chan c k).ambDelivered = true → s.flag (CHN_AMB_valid c k) = true →
    s.flag (CHN_AMB_over c k) = false → a = s.rd (CHN_AMB_amb c k) →
    s.flag (SKM_CH_sun c k) = true → q * q ≤ a → a < (q + 1) * (q + 1) → w * w ≤ s.rd SKM_THR_LAW_knee →
    s.rd SKM_THR_LAW_knee < (w + 1) * (w + 1) →
    θ = (if s.flag SKM_CFG_thr_en = true ∧ s.rd SKM_THR_LAW_knee < a then min (s.rd SKM_RATE_dmax) (s.rd SKM_THR_LAW_gain * (q - w) / 16) else 0) →
    β = (if s.flag SKM_CFG_bias_en = true ∧ s.rd SKM_BIAS_LAW_bknee < a then
      min (s.rd SKM_LIM_bmax) ((a - s.rd SKM_BIAS_LAW_bknee) * s.rd SKM_BIAS_LAW_bgain / 65536) else 0) →
    v = (if s.flag SKM_CFG_sun_en = true ∧ s.flag SKM_CFG_bias_en = true then max β (s.rd SKM_SUN_ON_sun_step) else β) →
    ∃ t, exec .skimmerFrameProcess s = .next t
      ∧ (s.rd SKM_SUN_OFF_sun_off < a → t.flag (SKM_CH_sun c k) = true ∧ t.rd (SKM_CH_sun_ct c k) = 0
          ∧ t.chan c k = { s.chan c k with lastA := some (a, false), ambDelivered := false, pubThr := θ, pubBias := v })
      ∧ (a ≤ s.rd SKM_SUN_OFF_sun_off → s.rd (SKM_CH_sun_ct c k) + 1 < s.rd SKM_SUN_OFF_sun_hold →
          t.flag (SKM_CH_sun c k) = true ∧ t.rd (SKM_CH_sun_ct c k) = s.rd (SKM_CH_sun_ct c k) + 1
          ∧ t.chan c k = { s.chan c k with lastA := some (a, false), ambDelivered := false, pubThr := θ, pubBias := v })
      ∧ (a ≤ s.rd SKM_SUN_OFF_sun_off → s.rd (SKM_CH_sun_ct c k) + 1 = s.rd SKM_SUN_OFF_sun_hold →
          t.flag (SKM_CH_sun c k) = false ∧ t.rd (SKM_CH_sun_ct c k) = 0
          ∧ t.chan c k = { s.chan c k with lastA := some (a, false), ambDelivered := false, pubThr := θ, pubBias := β, pubSun := false }))
  ∧ (∀ (c : CrateId) (k : ChanId) (s : State), s.fabricReady = true → s.cratePowered c = false →
    ∃ t, exec .skimmerFrameProcess s = .next t ∧ t.chan c k = { s.chan c k with ambDelivered := false }
      ∧ t.reg (SKM_CH c k) = s.reg (SKM_CH c k))

/-- Churn's dwells: the next descriptor is taken and each channel of the dwell whose buffer is free accumulates into it, a channel
whose buffer is not free is late; window-close markers are counted; at the dwell boundary the buffers that accumulated are full
and exchanged (R260, R272, R273).
Rests also on the model's readings and choices in notes/assumptions: 60, 68, 78. -/
def Obligations.ChurnDwells : Prop :=
  (∀ (c : CrateId) (d : Descr) (q : List Descr) (s : State), s.churnLive = true → (s.crate c).cur = none →
    (s.crate c).descQ = d :: q → ∃ t, exec (.descriptorRead c) s = .next t ∧ (t.crate c).cur = some d
      ∧ (t.crate c).descQ = q ∧ (t.crate c).curWindows = 0 ∧ (t.crate c).nextId = (s.crate c).nextId + 1
      ∧ t.rd (CHU_DESC_STAT_fill c) = q.length % 16
      ∧ (∀ k, k < 16 → d.part.getLsbD k = true → ((s.chan c k).buf (s.chan c k).accBuf).st = .free →
          ((t.chan c k).buf (s.chan c k).accBuf).st = .accum ∧ ((t.chan c k).buf (s.chan c k).accBuf).dwell = some d
          ∧ (t.chan c k).accBuf = (s.chan c k).accBuf ∧ (t.crate c).late.getLsbD k = false)
      ∧ (∀ k, k < 16 → d.part.getLsbD k = true → ((s.chan c k).buf (s.chan c k).accBuf).st ≠ .free →
          (t.crate c).late.getLsbD k = true ∧ (t.chan c k).buf0 = (s.chan c k).buf0 ∧ (t.chan c k).buf1 = (s.chan c k).buf1)
      ∧ (∀ k, k < 16 → d.part.getLsbD k = false → t.chan c k = s.chan c k) ∧ OnlyCrates [c.val] s t
      ∧ OnlyChans (chanNos.map (fun k => (c.val, k))) s t)
  ∧ (∀ (c : CrateId) (lost : BitVec 16) (e : Bool) (q : List FifoItem) (d : Descr) (s : State), s.churnLive = true →
    (s.crate c).fifo = .windowClose lost e :: q → (s.crate c).cur = some d → (s.crate c).curWindows + 1 ≠ d.splitN →
    ∃ t, exec (.windowCloseRead c) s = .next t ∧ t.crate c = { s.crate c with
        fifo := q, curWindows := (s.crate c).curWindows + 1, curLost := (s.crate c).curLost ||| lost }
      ∧ OnlyCrates [c.val] s t ∧ OnlyChanges [.crates] s t)
  ∧ (∀ (c : CrateId) (m : CloseMark) (q : List FifoItem) (d : Descr) (s : State), s.churnLive = true →
    (s.crate c).fifo = .dwellClose m :: q → (s.crate c).cur = some d → ∃ t, exec (.churnDwellBoundary c) s = .next t
      ∧ (t.crate c).fifo = q ∧ (t.crate c).cur = none
      ∧ (∀ k, k < 16 → s.accumulates c k d = true → (t.chan c k).accBuf = !(s.chan c k).accBuf
          ∧ (((t.chan c k).buf (s.chan c k).accBuf).st = .full ∨ ((t.chan c k).buf (s.chan c k).accBuf).st = .extract)
          ∧ ((t.chan c k).buf (s.chan c k).accBuf).mark = some m)
      ∧ (∀ k, k < 16 → s.accumulates c k d = false → (t.chan c k).accBuf = (s.chan c k).accBuf) ∧ OnlyCrates [c.val] s t
      ∧ OnlyChans (chanNos.map (fun k => (c.val, k))) s t)

/-- An event of a channel that accumulates adds 1 to its coarse bin, saturating, and to nothing else where no fine window holds
it; beyond the coverage it is only counted, before the window it is only counted in its buffer; an event of another channel only
leaves the FIFO; under a raw capture a masked event becomes the next unit of the fine-window memory (in the order of log 121), and one
beyond the limit is only counted; each corrected error of its reads is counted (R256, R258, R261, R262, R271, R285, R293, R294,
R424).
Scrubbing a Churn bank: a clean word changes nothing, nor does the scrubber of a crate that is OFF, whose bank has no clock; a
corrected error is counted, an uncorrectable one is counted, makes the dwell of its buffer corrupt and is a detection (R285, R286,
R555, R603, R611).
Rests also on the model's readings and choices in notes/assumptions: 69, 74, 120, 121. -/
def Obligations.AccumulationAndScrubbing : Prop :=
  (∀ (c : CrateId) (e : Evt) (q : List FifoItem) (d : Descr) (s : State) (x : Bool) (b : Nat), s.churnLive = true →
    (s.crate c).fifo = .event e :: q → (s.crate c).cur = some d → (s.crate c).raw = none → e.chan < 16 →
    s.accumulates c e.chan d = true → x = (s.chan c e.chan).accBuf → 0 ≤ e.interval → b = (e.interval.toNat + 4096) / d.wc → b < 512 →
    fineOf ((s.chan c e.chan).buf x).fine d.wf e.interval.toNat = none → ∃ t, exec (.eventAccumulate c []) s = .next t
      ∧ t.bankHalf c (coarseAt e.chan x b) = min 65535 (s.bankHalf c (coarseAt e.chan x b) + 1)
      ∧ (∀ a, a < 65536 → a ≠ coarseAt e.chan x b → a ≠ coarseAt e.chan x b + 1 → t.bankByte c a = s.bankByte c a)
      ∧ (∀ g a, g ≠ c.val → t.bankByte g a = s.bankByte g a)
      ∧ ((t.chan c e.chan).buf x).events = ((s.chan c e.chan).buf x).events + 1
      ∧ ((t.chan c e.chan).buf x).acc (b / 32) = (((s.chan c e.chan).buf x).acc (b / 32)).take e
          (e.charge (d.rd (CRT_FE_fe_mode c) == 1))
      ∧ (t.crate c).fifo = q ∧ OnlyCrates [c.val] s t ∧ OnlyChans [(c.val, e.chan)] s t ∧ OnlyRegs [] s t)
  ∧ (∀ (c : CrateId) (e : Evt) (q : List FifoItem) (d : Descr) (s : State), s.churnLive = true →
    (s.crate c).fifo = .event e :: q → (s.crate c).cur = some d → (s.crate c).raw = none → s.accumulates c e.chan d = true → 0 ≤ e.interval →
    512 ≤ (e.interval.toNat + 4096) / d.wc → ∃ t, exec (.eventAccumulate c []) s = .next t
      ∧ t.rd (CHU_STAT_beyond c) = min (s.rd (CHU_STAT_beyond c) + 1) 65535 ∧ t.bank = s.bank ∧ (t.crate c).fifo = q
      ∧ OnlyRegs [CHU_STAT c] s t)
  ∧ (∀ (c : CrateId) (e : Evt) (q : List FifoItem) (d : Descr) (s : State) (x : Bool), s.churnLive = true →
    (s.crate c).fifo = .event e :: q → (s.crate c).cur = some d → (s.crate c).raw = none → s.accumulates c e.chan d = true → e.interval < 0 →
    x = (s.chan c e.chan).accBuf → ∃ t, exec (.eventAccumulate c []) s = .next t ∧ t.bank = s.bank ∧ OnlyRegs [] s t
      ∧ ((t.chan c e.chan).buf x).preCount = ((s.chan c e.chan).buf x).preCount + 1)
  ∧ (∀ (c : CrateId) (ecc : List Ecc) (e : Evt) (q : List FifoItem) (d : Descr) (s : State), s.churnLive = true →
    (s.crate c).fifo = .event e :: q → (s.crate c).cur = some d → (s.crate c).raw = none → s.accumulates c e.chan d = false →
    ∃ t, exec (.eventAccumulate c ecc) s = .next t ∧ t.crate c = { s.crate c with fifo := q } ∧ OnlyCrates [c.val] s t
      ∧ OnlyChanges [.crates] s t)
  ∧ (∀ (c : CrateId) (e : Evt) (q : List FifoItem) (d : Descr) (r : Raw) (s : State), s.churnLive = true →
    (s.crate c).fifo = .event e :: q → (s.crate c).cur = some d → (s.crate c).raw = some r → s.accumulates c e.chan d = false →
    r.stage = .capturing → r.mask.getLsbD e.chan = true → (r.pre = true ∨ 0 ≤ e.interval) → r.written < r.limit → r.count < 4096 →
    ∃ t a, exec (.eventAccumulate c []) s = .next t
      ∧ a = 2048 * (r.count / 128) + 1024 + 8 * (r.count % 128)
      ∧ t.bankWord c a = (e.rawWords c).1 ∧ t.bankWord c (a + 4) = (e.rawWords c).2
      ∧ (∀ b, b < 65536 → b < a ∨ a + 8 ≤ b → t.bankByte c b = s.bankByte c b) ∧ (∀ g b, g ≠ c.val → t.bankByte g b = s.bankByte g b)
      ∧ t.crate c = { s.crate c with fifo := q, raw := some { r with written := r.written + 1, count := r.count + 1 } }
      ∧ OnlyCrates [c.val] s t ∧ OnlyChanges [.crates, .bank] s t)
  ∧ (∀ (c : CrateId) (e : Evt) (q : List FifoItem) (d : Descr) (r : Raw) (s : State), s.churnLive = true →
    (s.crate c).fifo = .event e :: q → (s.crate c).cur = some d → (s.crate c).raw = some r → s.accumulates c e.chan d = false →
    r.stage = .capturing → r.mask.getLsbD e.chan = true → (r.pre = true ∨ 0 ≤ e.interval) → r.limit ≤ r.written →
    ∃ t, exec (.eventAccumulate c []) s = .next t
      ∧ t.crate c = { s.crate c with fifo := q, raw := some { r with beyond := r.beyond + 1 } } ∧ OnlyChanges [.crates] s t)
  ∧ (∀ (c : CrateId) (n : Nat) (e : Evt) (q : List FifoItem) (d : Descr) (s : State), s.churnLive = true →
    (s.crate c).fifo = .event e :: q → (s.crate c).cur = some d → (s.crate c).raw = none → s.accumulates c e.chan d = true → e.interval < 0 →
    ∃ t, exec (.eventAccumulate c (List.replicate n .corrected)) s = .next t ∧ t.bank = s.bank
      ∧ t.rd (CHU_ECC_ce_ct c) = min (s.rd (CHU_ECC_ce_ct c) + n) 65535 ∧ OnlyRegs [CHU_ECC c] s t)
  ∧ (∀ (c : CrateId) (w : BitVec 13) (s : State), s.churnLive = true → exec (.scrub c w .clean) s = .next s)
  ∧ (∀ (c : CrateId) (w : BitVec 13) (x : Ecc) (s : State), s.cratePwr c = 0 → exec (.scrub c w x) s = .next s)
  ∧ (∀ (c : CrateId) (w : BitVec 13) (s : State), s.churnLive = true → s.cratePwr c ≠ 0 → ∃ t, exec (.scrub c w .corrected) s = .next t
    ∧ t.rd (CHU_ECC_ce_ct c) = min (s.rd (CHU_ECC_ce_ct c) + 1) 65535 ∧ OnlyRegs [CHU_ECC c] s t ∧ OnlyChanges [.regs] s t)
  ∧ (∀ (c : CrateId) (w : BitVec 13) (v : BitVec 8) (s : State), s.churnLive = true → s.cratePwr c ≠ 0 →
    ∃ t, exec (.scrub c w (.uncorrectable v)) s = .next t ∧ t.rd (CHU_ECC_ue_ct c) = min (s.rd (CHU_ECC_ue_ct c) + 1) 255
      ∧ t.flag (CHU_ECC_ue_seen c) = true ∧ t.rd (CHU_ECC_ue_chan c) = w.toNat / 512
      ∧ ((t.chan c (w.toNat / 512)).buf (w.getLsbD 8)).corrupt = true
      ∧ t.flt.detq = s.flt.detq ++ [⟨0x09, 2, 16 * c + w.toNat / 512, 0, v.toNat, elemArea (16 * c + w.toNat / 512)⟩]
      ∧ OnlyRegs [CHU_ECC c] s t ∧ OnlyChans [(c.val, w.toNat / 512)] s t)

/-- An extractor ends a channel: its returns become records behind those that wait, its buffer is cleared and free; of a
safety-class dwell the channel's result goes to zone evaluation, whatever becomes of the records; a corrupt dwell gives no record, and
to zone evaluation none but the result that it is missing; a probe dwell moves the channel's window level by a sixteenth of the way to
the sum of its probe window, and no candidate below zone_end is a return; the extractor stalls while the record FIFO has no room for
the records; a candidate meets the conditions of its bin and its neighbours, no two lie within sep bins, and at most four of confidence
conf_min are returns, in ascending order of time (R24, R272, R275 to R277, R280, R284, R285, R287, R321 to R323, R590).
Rests also on the model's readings and choices in notes/assumptions: 71, 74, 111, 112, 123. -/
def Obligations.Extraction : Prop :=
  (∀ (c : CrateId) (k : ChanId) (x : Bool) (b : Buf) (d : Descr) (m : CloseMark) (s : State), s.churnLive = true →
    (s.chan c k).bufIn .extract = some x → b = (s.chan c k).buf x → b.dwell = some d → b.mark = some m →
    s.host.recs.length + (s.extract c k x b d m).returns.length ≤ 1024 → b.corrupt = false → b.probe = false →
    b.dumpDue = false → d.safety = false → ∃ t l, exec (.channelExtractionDone c k []) s = .next t
      ∧ t.host.recs = s.host.recs ++ (s.extract c k x b d m).returns.zipIdx.map (fun p => p.1.record b d m c k p.2) ++ l
      ∧ (∀ r, r ∈ l → r.cls = 3) ∧ ((t.chan c k).buf x).st = .free ∧ (∀ a, a < 1024 → t.bankByte c (bufBase k x + a) = 0)
      ∧ (∀ n a, n < 4 → (b.fine.getD n none).isSome = true → a < 256 → t.bankByte c (fineAt k x n 0 + a) = 0)
      ∧ (∀ n a, n < 4 → b.fine.getD n none = none → a < 256 → t.bankByte c (fineAt k x n 0 + a) = s.bankByte c (fineAt k x n 0 + a))
      ∧ (∀ e a, e ≠ c.val → t.bankByte e a = s.bankByte e a) ∧ t.saf = s.saf ∧ OnlyCrates [c.val] s t)
  ∧ (∀ (c : CrateId) (k : ChanId) (x : Bool) (b : Buf) (d : Descr) (m : CloseMark) (w : ZWait) (s : State), s.churnLive = true →
    (s.chan c k).bufIn .extract = some x → b = (s.chan c k).buf x → b.dwell = some d → b.mark = some m →
    s.host.recs.length + (s.extract c k x b d m).returns.length ≤ 1024 → b.dumpDue = false → d.safety = true →
    s.saf.zoneWait.find? (fun y => decide (y.chan = 16 * c.val + k.val ∧ y.angle = d.angle ∧ y.sweep = d.sweep)) = some w →
    w.inService = true → ∃ t l, exec (.channelExtractionDone c k []) s = .next t
      ∧ t.saf.zoneRes = s.saf.zoneRes ++ [⟨16 * c.val + k.val, d.angle, d.sweep,
          if b.corrupt = true ∨ m.fired = 0 ∨ m.fired ≤ m.noStart then none
          else some ((s.extract c k x b d m).returns.map (fun y => y.zoneRet b d m c k))⟩]
      ∧ t.saf.zoneWait.length + 1 = s.saf.zoneWait.length
      ∧ (b.probe = false → t.host.recs
          = s.host.recs ++ (s.extract c k x b d m).returns.zipIdx.map (fun p => p.1.record b d m c k p.2) ++ l)
      ∧ (∀ r, r ∈ l → r.cls = 3) ∧ ((t.chan c k).buf x).st = .free ∧ OnlyCrates [c.val] s t)
  ∧ (∀ (c : CrateId) (k : ChanId) (x : Bool) (b : Buf) (d : Descr) (m : CloseMark) (s : State), s.churnLive = true →
    (s.chan c k).bufIn .extract = some x → b = (s.chan c k).buf x → b.dwell = some d → b.mark = some m →
    s.host.recs.length + (s.extract c k x b d m).returns.length ≤ 1024 → b.corrupt = true →
    (s.extract c k x b d m).cands = [] ∧ (s.extract c k x b d m).returns = [] ∧ ∃ t l,
      exec (.channelExtractionDone c k []) s = .next t ∧ t.host.recs = s.host.recs ++ l ∧ (∀ r, r ∈ l → r.cls ≠ 1)
      ∧ (∀ a, a < 1024 → t.bankByte c (bufBase k x + a) = 0))
  ∧ (∀ (c : CrateId) (k : ChanId) (x : Bool) (b : Buf) (d : Descr) (m : CloseMark) (wl : Nat) (s : State), s.churnLive = true →
    (s.chan c k).bufIn .extract = some x → b = (s.chan c k).buf x → b.dwell = some d → b.mark = some m →
    s.host.recs.length + (s.extract c k x b d m).returns.length ≤ 1024 → b.probe = true → 0 < m.fired →
    s.rd (STR_CH_wl c k) < 65536 → b.probeSum ≤ 65535 →
    (wl : Int) = s.rd (STR_CH_wl c k) + roundDiv ((if b.probeOver = true then 65535 else (b.probeSum : Int)) - s.rd (STR_CH_wl c k)) 16 →
    (∀ y, y ∈ (s.extract c k x b d m).returns → y.probed = false) ∧ ∃ t, exec (.channelExtractionDone c k []) s = .next t
      ∧ t.rd (STR_CH_wl c k) = wl
      ∧ t.flag (STR_CH_dirty c k) = (if s.flag (STR_CH_dirty c k) = true then decide (256 * d.rd STR_WIN_LVL_clean < wl)
          else decide (256 * d.rd STR_WIN_LVL_dirty ≤ wl)))
  ∧ (∀ (c : CrateId) (k : ChanId) (x : Bool) (b : Buf) (d : Descr) (m : CloseMark) (s : State),
    (s.chan c k).bufIn .extract = some x → b = (s.chan c k).buf x → b.dwell = some d → b.mark = some m →
    s.churnLive = true → (s.extract c k x b d m).returns ≠ [] →
    1024 < s.host.recs.length + (s.extract c k x b d m).returns.length →
    ∃ t, exec (.channelExtractionDone c k []) s = .next t ∧ t.crate c = { s.crate c with
        xq := (s.crate c).xq.map (fun w => if w.id = b.dwellId then { w with held := true } else w) }
      ∧ OnlyCrates [c.val] s t ∧ OnlyChanges [.crates] s t)
  ∧ (∀ (c : CrateId) (k : ChanId) (x : Bool) (b : Buf) (d : Descr) (m : CloseMark) (v : Scan) (y : Cand) (s : State),
    v = (s.extract c k x b d m).scan → y ∈ (s.extract c k x b d m).cands →
    (s.extract c k x b d m).cands.length ≤ 4 ∧ 4096 / d.wc ≤ y.b ∧ y.b < 512 ∧ 0 < v.net y.b
      ∧ (4096 / d.wc < y.b → v.net (y.b - 1) < v.net y.b) ∧ (y.b < 511 → v.net (y.b + 1) ≤ v.net y.b)
      ∧ 16 * (d.rd (CHU_PEAK_CFG_min_net c) : Int) ≤ (if 4096 / d.wc < y.b then max (v.net (y.b - 1)) 0 else 0) + v.net y.b
          + (if y.b < 511 then max (v.net (y.b + 1)) 0 else 0)
      ∧ (∀ z, z ∈ (s.extract c k x b d m).cands → z.b ≠ y.b →
          d.rd (CHU_PEAK_CFG_sep c) < y.b - z.b ∨ d.rd (CHU_PEAK_CFG_sep c) < z.b - y.b)
      ∧ (∀ j, j < 512 → v.net j = 16 * (s.bankHalf c (bufBase k x + 2 * j) : Int) - (v.bg.getD j 0 : Int)))
  ∧ (∀ (c : CrateId) (k : ChanId) (x : Bool) (b : Buf) (d : Descr) (m : CloseMark) (y : Cand) (i : Nat) (s : State),
    (s.extract c k x b d m).returns[i]? = some y → i < 4 ∧ y ∈ (s.extract c k x b d m).cands ∧ y.probed = false
      ∧ d.rd (CHU_PEAK_CFG_conf_min c) ≤ y.conf
      ∧ (∀ z, (s.extract c k x b d m).returns[i + 1]? = some z → y.tau ≤ z.tau))

/-- Dumps and captures: their commands are refused with a status or start the dump or capture of the crate; a channel
that the dump has reached gives one record, where the record FIFO has room for it, and a free buffer; at a dwell boundary a capture
writes its marker and, once its limit is reached, begins to drain; a drained capture gives one record for each unit in order, behind
those on their way, clears its words and completes. A HIST_DUMP starts counting at the first dwell boundary; each dwell that follows gives
its masked channels, and with the last channel of its last dwell the dump completes with OK, the channels dumped and its dwells (R256,
R290, R292 to R295, R425, R590).
Rests also on the model's readings and choices in notes/assumptions: 72, 111, 121. -/
def Obligations.DumpsAndCaptures : Prop :=
  (∀ (ref : CmdRef) (m : Cmd) (c st : Nat) (s : State), s.fabricReady = true → s.waits ref 0x06 = some m →
    c = bitsOf (wordAt m.words 1) 0 5 → s.captureStatus c (s.crate c).dump.isSome = some st →
    ∃ t, exec (.histDump ref) s = .next t ∧ Completed s t m st 0 0 ∧ OnlyChanges [.host] s t)
  ∧ (∀ (ref : CmdRef) (m : Cmd) (c : Nat) (s : State), s.fabricReady = true → s.waits ref 0x06 = some m →
    c = bitsOf (wordAt m.words 1) 0 5 → s.captureStatus c (s.crate c).dump.isSome = none →
    ∃ t, exec (.histDump ref) s = .next t ∧ t.flag (CHU_DUMP_STAT_dump_active c) = true
      ∧ t.crate c = { s.crate c with dump := some ⟨some ref, bitsOf (wordAt m.words 1) 8 1 == 1,
          (wordAt m.words 1).extractLsb' 16 16, bitsOf (wordAt m.words 2) 0 16, (wordAt m.words 2).extractLsb' 16 16, false, 0, 0,
          0, []⟩ } ∧ OnlyCrates [c] s t ∧ OnlyRegs [CHU_DUMP_STAT c] s t ∧ t.host.cpls = s.host.cpls)
  ∧ (∀ (ref : CmdRef) (m : Cmd) (c st : Nat) (s : State), s.fabricReady = true → s.waits ref 0x07 = some m →
    c = bitsOf (wordAt m.words 1) 0 5 → s.captureStatus c (s.crate c).raw.isSome = some st →
    ∃ t, exec (.rawCapture ref) s = .next t ∧ Completed s t m st 0 0 ∧ OnlyChanges [.host] s t)
  ∧ (∀ (ref : CmdRef) (m : Cmd) (c : Nat) (s : State), s.fabricReady = true → s.waits ref 0x07 = some m →
    c = bitsOf (wordAt m.words 1) 0 5 → s.captureStatus c (s.crate c).raw.isSome = none →
    ∃ t, exec (.rawCapture ref) s = .next t
      ∧ t.crate c = { s.crate c with raw := some ⟨some ref, bitsOf (wordAt m.words 1) 8 1 == 1,
          (wordAt m.words 1).extractLsb' 16 16, bitsOf (wordAt m.words 2) 0 13, (wordAt m.words 2).extractLsb' 16 16, .waiting, 0,
          [], 0, 0, none⟩ } ∧ OnlyCrates [c] s t ∧ OnlyRegs [] s t ∧ t.host.cpls = s.host.cpls)
  ∧ (∀ (c : CrateId) (k : ChanId) (x : Bool) (u : Dump) (b : Buf) (d : Descr) (m : CloseMark) (s : State), s.churnLive = true →
    (s.chan c k).bufIn .dump = some x → (s.crate c).dump = some u → b = (s.chan c k).buf x → b.dwell = some d →
    b.mark = some m → b.corrupt = false → u.reaches b.dwellId k = true → s.host.recs.length < 1024 → ∃ t, exec (.dumpChannel c k []) s = .next t
      ∧ t.host.recs = s.host.recs ++ [⟨ringOwner u.ring, u.ring, 2, s.dumpWords c k x u.fine b d m, u.cmd, 0, false⟩]
      ∧ ((t.chan c k).buf x).st = .free ∧ (∀ a, a < 1024 → t.bankByte c (bufBase k x + a) = 0)
      ∧ (∀ n a, n < 4 → (b.fine.getD n none).isSome = true → a < 256 → t.bankByte c (fineAt k x n 0 + a) = 0)
      ∧ t.rd (CHU_DUMP_STAT_dumped c) = min (s.rd (CHU_DUMP_STAT_dumped c) + 1) 65535 ∧ OnlyRegs [CHU_DUMP_STAT c] s t)
  ∧ (∀ (c : CrateId) (m : CloseMark) (q : List FifoItem) (d : Descr) (r : Raw) (s : State), s.churnLive = true →
    (s.crate c).fifo = .dwellClose m :: q → (s.crate c).cur = some d → (s.crate c).raw = some r → r.cmd.isSome = true →
    r.stage = .capturing → r.count < 4096 → ∃ t, exec (.churnDwellBoundary c) s = .next t
      ∧ (t.crate c).raw = some { r with count := r.count + 1, stage := if r.limit ≤ r.written then .draining else .capturing }
      ∧ t.bankWord c (rawAt r.count) = (rawMarker c d m.fired).1 ∧ t.bankWord c (rawAt r.count + 4) = (rawMarker c d m.fired).2)
  ∧ (∀ (c : CrateId) (r : Raw) (s : State), s.churnLive = true → (s.crate c).raw = some r → r.stage = .draining →
    r.count ≤ 4096 → ∃ t, exec (.rawDrain ⟨c, []⟩) s = .next t
      ∧ (s.host.recWait = [] → t.host.allRecs = s.host.allRecs
          ++ (s.rawUnits c r).map (fun u => ⟨ringOwner r.ring, r.ring, 4, [u.1, u.2], r.cmd, 0, false⟩))
      ∧ (s.host.recs.length + (s.rawUnits c r).length ≤ 1024 → t.host.recs = s.host.recs
          ++ (s.rawUnits c r).map (fun u => ⟨ringOwner r.ring, r.ring, 4, [u.1, u.2], r.cmd, 0, false⟩))
      ∧ t.crate c = { s.crate c with raw := none, rawBlocksFine := false }
      ∧ (∀ n i, n < r.count → i < 8 → t.bankByte c (rawAt n + i) = 0) ∧ (∀ g b, g ≠ c.val → t.bankByte g b = s.bankByte g b)
      ∧ (∀ k x a, k < 16 → a < 1024 → t.bankByte c (bufBase k x + a) = s.bankByte c (bufBase k x + a))
      ∧ (∀ ref m, r.cmd = some ref → s.cmd? ref = some m → Completed s t m (r.stopWith.getD stOK) (BitVec.ofNat 64 r.written)
          (w32 r.beyond))
      ∧ OnlyCrates [c.val] s t ∧ OnlyRegs [CHU_DUMP_STAT c] s t)
  ∧ (∀ (c : CrateId) (m : CloseMark) (q : List FifoItem) (d : Descr) (u : Dump) (s : State), s.churnLive = true →
    (s.crate c).fifo = .dwellClose m :: q → (s.crate c).cur = some d → (s.crate c).dump = some u → u.cmd.isSome = true →
    u.started = false → (s.crate c).raw = none → ∃ t, exec (.churnDwellBoundary c) s = .next t
      ∧ (t.crate c).dump = some { u with started := true } ∧ t.host.cpls = s.host.cpls
      ∧ t.flag (CHU_DUMP_STAT_dump_active c) = s.flag (CHU_DUMP_STAT_dump_active c))
  ∧ (∀ (c : CrateId) (m : CloseMark) (q : List FifoItem) (d : Descr) (u : Dump) (w : BitVec 16) (s : State), s.churnLive = true →
    (s.crate c).fifo = .dwellClose m :: q → (s.crate c).cur = some d → (s.crate c).dump = some u → u.cmd.isSome = true →
    u.started = true → u.seen < u.dwells → (∀ k, k < 16 → w.getLsbD k = (s.accumulates c k d && u.mask.getLsbD k)) → w ≠ 0 →
    (s.crate c).raw = none → ∃ t, exec (.churnDwellBoundary c) s = .next t
      ∧ (t.crate c).dump = some { u with seen := u.seen + 1, due := u.due ++ [((s.crate c).nextId, w)] }
      ∧ (∀ k, k < 16 → w.getLsbD k = true → ((t.chan c k).buf (s.chan c k).accBuf).dumpDue = true)
      ∧ t.host.cpls = s.host.cpls)
  ∧ (∀ (c : CrateId) (m : CloseMark) (q : List FifoItem) (d : Descr) (u : Dump) (ref : CmdRef) (e : Cmd) (s : State),
    s.churnLive = true → (s.crate c).fifo = .dwellClose m :: q → (s.crate c).cur = some d → (s.crate c).dump = some u →
    u.cmd = some ref → s.cmd? ref = some e → u.started = true → u.seen + 1 = u.dwells → u.due = [] →
    (∀ k, k < 16 → s.accumulates c k d = true → u.mask.getLsbD k = false) → (s.crate c).raw = none →
    ∃ t, exec (.churnDwellBoundary c) s = .next t ∧ (t.crate c).dump = none ∧ t.flag (CHU_DUMP_STAT_dump_active c) = false
      ∧ Completed s t e stOK (BitVec.ofNat 64 u.channels) (w32 (u.full + 1)))
  ∧ (∀ (c : CrateId) (k : ChanId) (x : Bool) (u : Dump) (b : Buf) (d : Descr) (m : CloseMark) (ref : CmdRef) (e : Cmd) (s : State),
    s.churnLive = true → (s.chan c k).bufIn .dump = some x → (s.crate c).dump = some u → b = (s.chan c k).buf x →
    b.dwell = some d → b.mark = some m → b.corrupt = false → s.host.recs.length < 1024 → u.started = true →
    u.dwells ≤ u.seen → u.due = [(b.dwellId, BitVec.twoPow 16 k)] → u.cmd = some ref → s.cmd? ref = some e →
    ∃ t, exec (.dumpChannel c k []) s = .next t ∧ (t.crate c).dump = none ∧ t.flag (CHU_DUMP_STAT_dump_active c) = false
      ∧ Completed s t e stOK (BitVec.ofNat 64 (u.channels + 1)) (w32 (u.full + 1))
      ∧ t.host.recs = s.host.recs ++ [⟨ringOwner u.ring, u.ring, 2, s.dumpWords c k x u.fine b d m, u.cmd, 0, false⟩])

/-- The link and its functions: link up and down show in HIF_LINK and the ready bit; a configuration write sets what the function
may do, with the masks and severities of Advanced Error Reporting, and clears the error status bits written 1; an MSI-X table write sets one vector; a function-level reset resets its function's configuration, disables its rings and
abandons its commands, and leaves the other function; PERST_N does so for both and takes the link down (R352, R355, R379, R393 to
R395, R406, R551).
Rests also on the model's readings and choices in notes/assumptions: 6, 35, 36, 37, 98, 99. -/
def Obligations.LinkAndFunctions : Prop :=
  (∀ (w v : BitVec 4) (s : State), s.running = true → s.clk.xtalLost = false → s.fabricReady = true →
    s.flag HIF_LINK_up = false → ∃ t, exec (.hostLinkUp w v) s = .next t ∧ t.flag HIF_LINK_up = true
      ∧ t.rd HIF_LINK_width = w.toNat ∧ t.rd HIF_LINK_speed = v.toNat ∧ t.flag GLB_READY_link = true
      ∧ OnlyRegs (HIF_LINK :: HIF_FN_STAT 0 :: HIF_FN_STAT 1 :: readyRegs) s t)
  ∧ (∀ s : State, s.flag HIF_LINK_up = true → s.clk.xtalLost = false → ∃ t, exec .linkDown s = .next t ∧ t.flag HIF_LINK_up = false
    ∧ t.flag GLB_READY_link = false ∧ OnlyRegs (HIF_LINK :: HIF_FN_STAT 0 :: HIF_FN_STAT 1 :: readyRegs) s t)
  ∧ (∀ (f : Func) (x : CfgSpace) (s : State), s.fabricReady = true → s.flag HIF_LINK_up = true → (s.fn f).pba = [] →
    ∃ t, exec (.configSpaceWrite f x) s = .next t
      ∧ t.fn f = { s.fn f with bme := x.bme, mse := x.mse, msixEn := x.msixEn, cplTmoMs := x.cplTmoMs,
                                maxPayload := min x.maxPayload 512, maxRead := min x.maxRead 4096, msixMask := x.msixMask,
                                bar0 := barValue 20 x.bar0, bar2 := barValue 19 x.bar2, bar4 := barValue 16 x.bar4,
                                aer := { uncStatus := (s.fn f).aer.uncStatus &&& ~~~ x.aer.uncClear,
                                         uncMask := x.aer.uncMask, uncSeverity := x.aer.uncSeverity,
                                         corStatus := (s.fn f).aer.corStatus &&& ~~~ x.aer.corClear, corMask := x.aer.corMask } }
      ∧ t.flag (HIF_FN_STAT_bme (fnIdx f)) = x.bme ∧ t.flag (HIF_FN_STAT_msix_en (fnIdx f)) = x.msixEn
      ∧ OnlyRegs [HIF_FN_STAT (fnIdx f)] s t ∧ t.host.irqs = s.host.irqs)
  ∧ (∀ (f : Func) (v : BitVec 11) (e : MsixEntry) (s : State), s.barLive f = true → v.toNat < vectorCount f →
    ∃ t, exec (.msixTableWrite f v e) s = .next t ∧ sparseGet (fun _ => MsixEntry.reset) (t.fn f).msix v.toNat = e
      ∧ (∀ u, u ≠ v.toNat → sparseGet (fun _ => MsixEntry.reset) (t.fn f).msix u
          = sparseGet (fun _ => MsixEntry.reset) (s.fn f).msix u)
      ∧ OnlyRegs [] s t ∧ ((s.fn f).pba = [] → t.host.irqs = s.host.irqs)
      ∧ (e.masked = false → (s.fn f).msixMask = false → (s.fn f).pba = [v.toNat] → s.master f = true → (s.fn f).msixEn = true →
          t.host.irqs = s.host.irqs ++ [(f, v.toNat)] ∧ (t.fn f).pba = []))
  ∧ (∀ (f : Func) (s : State), s.fabricReady = true → s.flag HIF_LINK_up = true →
    ∃ t, exec (.functionLevelReset f) s = .next t ∧ t.fn f = Fn.reset
      ∧ t.rd (HIF_FN_STAT_flr_ct (fnIdx f)) = min (s.rd (HIF_FN_STAT_flr_ct (fnIdx f)) + 1) 255
      ∧ t.reg (HIF_FN_CFG (fnIdx f)) = resetWord (HIF_FN_CFG (fnIdx f))
      ∧ (∀ r, ringOwner r = f → (t.ring r).st = .disabled ∧ (t.ring r).gen = (s.ring r).gen)
      ∧ (∀ r, ringOwner r ≠ f → t.ring r = s.ring r) ∧ (∀ x, x ∈ t.host.cmds → x.func ≠ f)
      ∧ (∀ x, x ∈ t.host.reads → x.func ≠ f) ∧ (∀ x, x ∈ t.host.readQ → x.func ≠ f) ∧ (∀ g, g ≠ f → t.fn g = s.fn g))
  ∧ (∀ s : State, s.running = true → ∃ t, exec .perstN s = .next t ∧ t.flag HIF_LINK_up = false
    ∧ t.flag GLB_READY_link = false ∧ (∀ f, t.fn f = Fn.reset) ∧ t.host.cmds = [] ∧ t.host.reads = []
    ∧ t.host.readQ = [] ∧ t.reg (HIF_FN_STAT 0) = 0 ∧ t.reg (HIF_FN_STAT 1) = 0 ∧ (∀ r, (t.ring r).st = .disabled))

/-- Doorbells: each acts in the ring states of R371 and is discarded and counted in the others and for a ring of the other
function; one for an ENABLING ring is held; the host's index is taken, an inconsistent one puts an ENABLED ring in ERROR; a ring in
ERROR is left by a disable alone; one that finds its ring's context evicted is held and the context asked for again, which is a miss
(R359, R363, R370 to R372, R379, R409).
The holding for an evicted context is the model's choice (log 39).
Rests also on the model's readings and choices in notes/assumptions: 38, 39. -/
def Obligations.Doorbells : Prop :=
  (∀ (f : Func) (r : RingId) (x : Word) (arm : Bool) (s : State), s.barLive f = true → ringOwner r = f →
    (s.ring r).st = .disabled → ∃ t, exec (.doorbellEnable f r x arm) s = .next t ∧ (t.ring r).st = .enabling
      ∧ (t.ring r).hostIdx = x ∧ (t.ring r).gen = (s.ring r).gen
      ∧ ⟨f, BitVec.ofNat 64 (s.ctxAddr r), 64, .context r⟩ ∈ t.host.reads ++ t.host.readQ
      ∧ (s.host.readQ = [] → s.master f = true → s.host.reads.length < 128 →
          t.host.reads = s.host.reads ++ [⟨f, BitVec.ofNat 64 (s.ctxAddr r), 64, .context r⟩] ∧ t.host.readQ = [])
      ∧ OnlyRings [r] s t ∧ OnlyRegs [RNG_CACHE] s t)
  ∧ (∀ (f : Func) (r : RingId) (x : Word) (s : State), s.barLive f = true → ringOwner r = f → (s.ring r).st = .enabled →
    s.cached r = true → ({ s.ring r with hostIdx := x } : Ring).inconsistent = false → ∃ t u v, exec (.doorbellIndex f r x) s = .next t
      ∧ exec (.doorbellDisable f r x false) s = .next u ∧ exec (.doorbellReload f r x false) s = .next v
      ∧ t.ring r = { s.ring r with hostIdx := x } ∧ OnlyRings [r] s t ∧ OnlyChanges [.rings, .host] s t
      ∧ t.host = { s.host with lru := s.host.lru.filter (fun m => m != r.toNat) ++ [r.toNat] }
      ∧ (u.ring r).st = .draining ∧ (u.ring r).hostIdx = x ∧ OnlyRings [r] s u ∧ OnlyRegs [] s u
      ∧ v.ring r = { s.ring r with hostIdx := x } ∧ OnlyRings [r] s v
      ∧ ⟨f, BitVec.ofNat 64 (s.ctxAddr r), 64, .reload r (s.ring r).gen⟩ ∈ v.host.reads ++ v.host.readQ
      ∧ (s.host.readQ = [] → s.master f = true → s.host.reads.length < 128 →
          v.host.reads = s.host.reads ++ [⟨f, BitVec.ofNat 64 (s.ctxAddr r), 64, .reload r (s.ring r).gen⟩]))
  ∧ (∀ (f : Func) (r : RingId) (x : Word) (s : State), s.barLive f = true → ringOwner r = f → (s.ring r).st = .enabled →
    s.cached r = true → ({ s.ring r with hostIdx := x } : Ring).inconsistent = true → ∃ t, exec (.doorbellIndex f r x) s = .next t
      ∧ (t.ring r).st = .error ∧ OnlyRings [r] s t ∧ OnlyRegs eventRegs s t)
  ∧ (∀ (f : Func) (r : RingId) (x : Word) (s : State), s.barLive f = true → ringOwner r = f → (s.ring r).st = .enabled →
    s.cached r = true → ({ s.ring r with hostIdx := x } : Ring).inconsistent = false → (s.ring r).irqCount = 0 →
    ∃ t, exec (.doorbellArm f r x) s = .next t ∧ t.ring r = { s.ring r with hostIdx := x, armed := true } ∧ OnlyRings [r] s t
      ∧ t.host = { s.host with lru := s.host.lru.filter (fun m => m != r.toNat) ++ [r.toNat] } ∧ OnlyChanges [.rings, .host] s t)
  ∧ (∀ (f : Func) (r : RingId) (x : Word) (s : State), s.barLive f = true → ringOwner r = f → (s.ring r).st = .disabled →
    ∃ t, exec (.doorbellArm f r x) s = .next t ∧ t.ring r = { s.ring r with armed := true } ∧ OnlyChanges [.rings] s t)
  ∧ (∀ (f : Func) (r : RingId) (x : Word) (arm : Bool) (s : State), s.barLive f = true → (s.ring r).st = .disabled →
    ∃ t, exec (.doorbellIndex f r x) s = .next t ∧ exec (.doorbellDisable f r x arm) s = .next t
      ∧ exec (.doorbellReload f r x arm) s = .next t ∧ exec (.bar2BadWrite f) s = .next t
      ∧ t.rd (HIF_FN_ERR_db_bad (fnIdx f)) = min (s.rd (HIF_FN_ERR_db_bad (fnIdx f)) + 1) 255
      ∧ OnlyRegs [HIF_FN_ERR (fnIdx f)] s t ∧ OnlyChanges [.regs] s t)
  ∧ (∀ (f : Func) (r : RingId) (x : Word) (arm : Bool) (s : State), s.barLive f = true →
    ringOwner r ≠ f ∨ (s.ring r).st ≠ .disabled → ∃ t, exec (.doorbellEnable f r x arm) s = .next t
      ∧ exec (.bar2BadWrite f) s = .next t
      ∧ (ringOwner r ≠ f → exec (.doorbellIndex f r x) s = .next t ∧ exec (.doorbellArm f r x) s = .next t
          ∧ exec (.doorbellDisable f r x arm) s = .next t ∧ exec (.doorbellReload f r x arm) s = .next t))
  ∧ (∀ (f : Func) (r : RingId) (x : Word) (arm : Bool) (s : State), s.barLive f = false →
    exec (.doorbellEnable f r x arm) s = .next s ∧ exec (.doorbellIndex f r x) s = .next s)
  ∧ (∀ (f : Func) (r : RingId) (x : Word) (arm : Bool) (s : State), s.barLive f = true → ringOwner r = f →
    (s.ring r).st = .enabling → ∃ t u v, exec (.doorbellIndex f r x) s = .next t ∧ exec (.doorbellArm f r x) s = .next u
      ∧ exec (.doorbellDisable f r x arm) s = .next v
      ∧ t.ring r = { s.ring r with held := (s.ring r).held ++ [⟨x, false, false, false⟩] }
      ∧ u.ring r = { s.ring r with held := (s.ring r).held ++ [⟨x, false, false, true⟩] }
      ∧ v.ring r = { s.ring r with held := (s.ring r).held ++ [⟨x, true, false, arm⟩] }
      ∧ OnlyRings [r] s t ∧ OnlyRings [r] s u ∧ OnlyRings [r] s v ∧ OnlyChanges [.rings] s t ∧ OnlyChanges [.rings] s u
      ∧ OnlyChanges [.rings] s v ∧ exec (.doorbellReload f r x arm) s = exec (.bar2BadWrite f) s)
  ∧ (∀ (f : Func) (r : RingId) (x : Word) (arm : Bool) (s : State), s.barLive f = true → ringOwner r = f →
    (s.ring r).st = .draining → s.cached r = true → ∃ t, exec (.doorbellIndex f r x) s = .next t
      ∧ t.ring r = { s.ring r with hostIdx := x } ∧ OnlyRings [r] s t ∧ t.host = { s.host with lru := s.host.lru.filter (fun m => m != r.toNat) ++ [r.toNat] }
      ∧ OnlyChanges [.rings, .host] s t
      ∧ ((s.ring r).irqCount = 0 → ∃ u, exec (.doorbellArm f r x) s = .next u
          ∧ u.ring r = { s.ring r with hostIdx := x, armed := true } ∧ OnlyRings [r] s u ∧ OnlyChanges [.rings, .host] s u)
      ∧ exec (.doorbellDisable f r x arm) s = exec (.bar2BadWrite f) s
      ∧ exec (.doorbellReload f r x arm) s = exec (.bar2BadWrite f) s)
  ∧ (∀ (f : Func) (r : RingId) (x : Word) (arm : Bool) (s : State), s.barLive f = true → ringOwner r = f →
    (s.ring r).st = .error → s.cached r = true ∨ wordAt (s.ring r).ctx 0 = 0 →
    ∃ t, exec (.doorbellDisable f r x arm) s = .next t ∧ (t.ring r).st = .disabled
      ∧ (t.ring r).armed = false ∧ (t.ring r).gen = (s.ring r).gen ∧ OnlyRings [r] s t ∧ OnlyRegs eventRegs s t
      ∧ exec (.doorbellIndex f r x) s = exec (.bar2BadWrite f) s ∧ exec (.doorbellArm f r x) s = exec (.bar2BadWrite f) s
      ∧ exec (.doorbellReload f r x arm) s = exec (.bar2BadWrite f) s)
  ∧ (∀ (f : Func) (r : RingId) (x : Word) (arm : Bool) (s : State), s.barLive f = true → ringOwner r = f →
    (s.ring r).st = .enabled ∨ (s.ring r).st = .draining → s.cached r = false → s.ringBusy r.toNat = false →
    s.cacheRoom = true → ∃ t, exec (.doorbellIndex f r x) s = .next t
      ∧ t.ring r = { s.ring r with held := (s.ring r).held ++ [⟨x, false, false, false⟩] }
      ∧ ⟨f, BitVec.ofNat 64 (s.ctxAddr r), 64, .again r (s.ring r).gen⟩ ∈ t.host.reads ++ t.host.readQ
      ∧ t.rd RNG_CACHE_miss_ct = min (s.rd RNG_CACHE_miss_ct + 1) 65535 ∧ OnlyRings [r] s t ∧ OnlyRegs [RNG_CACHE] s t
      ∧ ((s.ring r).st = .enabled → ∃ u, exec (.doorbellDisable f r x arm) s = .next u
          ∧ u.ring r = { s.ring r with held := (s.ring r).held ++ [⟨x, true, false, arm⟩] }
          ∧ ⟨f, BitVec.ofNat 64 (s.ctxAddr r), 64, .again r (s.ring r).gen⟩ ∈ u.host.reads ++ u.host.readQ))
  ∧ (∀ (f : Func) (r : RingId) (x : Word) (arm : Bool) (s : State), s.barLive f = true → ringOwner r = f →
    (s.ring r).st = .error → wordAt (s.ring r).ctx 0 ≠ 0 → s.cached r = false → s.ringBusy r.toNat = false →
    s.cacheRoom = true → ∃ t, exec (.doorbellDisable f r x arm) s = .next t
      ∧ t.ring r = { s.ring r with held := (s.ring r).held ++ [⟨x, true, false, arm⟩] }
      ∧ ⟨f, BitVec.ofNat 64 (s.ctxAddr r), 64, .again r (s.ring r).gen⟩ ∈ t.host.reads ++ t.host.readQ
      ∧ t.rd RNG_CACHE_miss_ct = min (s.rd RNG_CACHE_miss_ct + 1) 65535 ∧ OnlyRings [r] s t ∧ OnlyRegs [RNG_CACHE] s t)

/-- The states of a ring: a valid context that arrives enables it under a new generation, an invalid one puts it in ERROR; a
ring that drains is DISABLED once nothing waits for it, a CMD ring not before the completions of its commands are written, one that
owes a RING_LOSS it has room for not before that one (the model's choice, log 41); one whose context has been evicted has it fetched
first, and so has the completion ring that a fetched CMD context names; after a loss of the crystal no ring changes (R362, R363, R371, R374, R375, R598).
Rests also on the model's readings and choices in notes/assumptions: 38, 39, 41, 42, 77. -/
def Obligations.RingStates : Prop :=
  (∀ (r : RingId) (ws : List Word) (s : State), s.fabricReady = true → (s.ring r).st = .enabling → (s.ring r).fetchFailed = false →
    (s.ring r).fetched = some ws → s.ctxWaits (ringOwner r) ws = false → s.ctxValid (ringOwner r) ws = true → (s.ring r).held = [] →
    ({ s.ring r with ctx := ws.take 8 } : Ring).inconsistent = false → ∃ t, exec (.contextFetchDone r) s = .next t
      ∧ (t.ring r).st = .enabled ∧ (t.ring r).ctx = ws.take 8 ∧ (t.ring r).gen = (s.ring r).gen + 1
      ∧ (t.ring r).hostIdx = (s.ring r).hostIdx ∧ OnlyRings [r] s t ∧ OnlyRegs [] s t)
  ∧ (∀ (r : RingId) (ws : List Word) (s : State), s.fabricReady = true → (s.ring r).st = .enabling → (s.ring r).fetched = some ws →
    s.ctxWaits (ringOwner r) ws = false → s.ctxValid (ringOwner r) ws = false → (s.ring r).held = [] → ∃ t, exec (.contextFetchDone r) s = .next t
      ∧ (t.ring r).st = .error ∧ OnlyRings [r] s t ∧ OnlyRegs eventRegs s t)
  ∧ (∀ (r : RingId) (s : State), s.fabricReady = true → (s.ring r).st = .draining → s.cached r = true →
    (s.ring r).lossPending = false → (∀ c, c ∈ s.host.allRecs → c.ring ≠ r) →
    (∀ c, c ∈ s.host.cpls → c.cplRing ≠ r ∧ c.cmd.ring ≠ r) → (∀ c, c ∈ s.host.cmds → c.ref.ring ≠ r) →
    ∃ t, exec (.ringDrainDone r) s = .next t ∧ (t.ring r).st = .disabled ∧ (t.ring r).armed = false ∧ OnlyRings [r] s t
      ∧ OnlyRegs eventRegs s t)
  ∧ (∀ (r : RingId) (c : Cpl) (s : State), (s.ring r).st = .draining → ctxClass (s.ring r).ctx = 0 → c ∈ s.host.cpls →
    c.cmd.ring = r → exec (.ringDrainDone r) s = .next s)
  ∧ (∀ (r : RingId) (s : State), (s.ring r).st ≠ .draining → exec (.ringDrainDone r) s = .next s)
  ∧ (∀ (r : RingId) (s : State), s.clk.xtalLost = true → exec (.contextFetchDone r) s = .next s
    ∧ exec (.ringDrainDone r) s = .next s)
  ∧ (∀ (r : RingId) (s : State), (s.ring r).st = .draining → (s.ring r).lossPending = true →
    s.evtRing (ringOwner r) ≠ r → leastUnits (ctxClass (s.ring r).ctx) ≤ s.freeUnits r → (s.fn (ringOwner r)).bme = true →
    exec (.ringDrainDone r) s = .next s)
  ∧ (∀ (r : RingId) (s : State), s.fabricReady = true → (s.ring r).st = .draining → s.cached r = false →
    s.ringBusy r.toNat = false → s.cacheRoom = true → (s.ring r).lossPending = false → (∀ c, c ∈ s.host.allRecs → c.ring ≠ r) →
    (∀ c, c ∈ s.host.cpls → c.cplRing ≠ r ∧ c.cmd.ring ≠ r) → (∀ c, c ∈ s.host.cmds → c.ref.ring ≠ r) →
    ∃ t, exec (.ringDrainDone r) s = .next t ∧ t.rings = s.rings
      ∧ ⟨ringOwner r, BitVec.ofNat 64 (s.ctxAddr r), 64, .again r (s.ring r).gen⟩ ∈ t.host.reads ++ t.host.readQ
      ∧ OnlyRegs [RNG_CACHE] s t ∧ OnlyChanges [.regs, .host] s t)
  ∧ (∀ (r e : RingId) (ws : List Word) (s : State), s.fabricReady = true → (s.ring r).st = .enabling →
    (s.ring r).fetchFailed = false → (s.ring r).fetched = some ws → ctxClass ws = 0 → e = (wordAt ws 1).extractLsb' 0 16 →
    ringOwner e = ringOwner r → (s.ring e).st = .enabled → s.cached e = false → s.ringBusy e.toNat = false →
    s.cacheRoom = true → ∃ t, exec (.contextFetchDone r) s = .next t ∧ t.rings = s.rings
      ∧ ⟨ringOwner e, BitVec.ofNat 64 (s.ctxAddr e), 64, .again e (s.ring e).gen⟩ ∈ t.host.reads ++ t.host.readQ
      ∧ t.rd RNG_CACHE_miss_ct = min (s.rd RNG_CACHE_miss_ct + 1) 65535 ∧ OnlyRegs [RNG_CACHE] s t ∧ OnlyChanges [.regs, .host] s t)

/-- Records, losses, write-back blocks and interrupts of rings: a routed record with room advances the ring's producer index and
its sequence number, and its bytes stand in host memory, each unit at the ring's base plus the unit's size times its place; a record no ring takes is counted; one without room is dropped and RING_LOSS is owed, and written once there
is room, into an event ring that has room, else discarded and counted, as a misroute where that ring is ENABLED and takes no such
record; a due write-back block stands in host memory; a due interrupt sends its vector and disarms the ring; each of these that
finds its ring's context evicted asks for it again (R363 to R366, R373 to R379, R404, R407).
That a DRAINING ring still writes its RING_LOSS is the model's choice (log 41).
Rests also on the model's readings and choices in notes/assumptions: 38, 39, 40, 41, 111. -/
def Obligations.RingRecords : Prop :=
  (∀ (c : Rec) (l : List Rec) (s : State), s.fabricReady = true → s.host.recs = c :: l → s.routed c = true →
    (s.fn c.func).bme = true → s.flag HIF_LINK_up = true → unitsOf c.cls c.words ≤ s.freeUnits c.ring →
    s.owesLoss c.ring = false → s.cached c.ring = true → ∃ t, exec .recordWrite s = .next t
      ∧ t.host.recs = l ++ s.host.recWait.take 1 ∧ t.host.recWait = s.host.recWait.tail
      ∧ (t.ring c.ring).devIdx = (s.ring c.ring).devIdx + BitVec.ofNat 32 (unitsOf c.cls c.words)
      ∧ (t.ring c.ring).seq = (s.ring c.ring).seq + 1 ∧ (t.ring c.ring).wbDue = decide
          ((s.ring c.ring).wbBytes + unitBytes c.cls * unitsOf c.cls c.words < (s.fn c.func).maxPayload)
      ∧ (t.ring c.ring).irqCount = (s.ring c.ring).irqCount + 1 ∧ OnlyRings [c.ring] s t ∧ OnlyRegs [] s t)
  ∧ (∀ (c : Rec) (l : List Rec) (ub : Nat) (s : State), s.fabricReady = true → s.host.recs = c :: l → s.routed c = true →
    (s.fn c.func).bme = true → s.flag HIF_LINK_up = true → unitsOf c.cls c.words ≤ s.freeUnits c.ring →
    s.owesLoss c.ring = false → s.cached c.ring = true →
    ub = (if c.cls = 1 then 16 else if c.cls = 4 then 8 else 32) → bitsOf (wordAt (s.ring c.ring).ctx 0) 4 5 ≤ 20 →
    (s.ring c.ring).wbBytes + unitBytes c.cls * unitsOf c.cls c.words < (s.fn c.func).maxPayload →
    ∃ t, exec .recordWrite s = .next t
      ∧ (∀ i j, i < unitsOf c.cls c.words → j < ub →
          t.hostByte ((ctxBase (s.ring c.ring).ctx + ub * (((s.ring c.ring).devIdx.toNat + i) % ctxSize (s.ring c.ring).ctx) + j)
              % 2 ^ 64) = (wordsBytes c.words).getD (ub * i + j) 0)
      ∧ (∀ a, (∀ i j, i < unitsOf c.cls c.words → j < ub →
          a ≠ (ctxBase (s.ring c.ring).ctx + ub * (((s.ring c.ring).devIdx.toNat + i) % ctxSize (s.ring c.ring).ctx) + j) % 2 ^ 64) →
          t.hostByte a = s.hostByte a))
  ∧ (∀ (c : Rec) (l : List Rec) (s : State), s.fabricReady = true → s.host.recs = c :: l → s.routed c = false →
    s.recWaits c.func c.ring c.kept = false → ∃ t, exec .recordWrite s = .next t ∧ t.host = { s.host with recs := l ++ s.host.recWait.take 1, recWait := s.host.recWait.tail }
      ∧ t.rd RNG_MISROUTE_ct = min (s.rd RNG_MISROUTE_ct + 1) 65535 ∧ t.rd RNG_MISROUTE_last_ring = c.ring.toNat
      ∧ t.rings = s.rings)
  ∧ (∀ (c : Rec) (l : List Rec) (s : State), s.fabricReady = true → s.host.recs = c :: l → s.routed c = true →
    (s.fn c.func).bme = true → s.flag HIF_LINK_up = true → s.freeUnits c.ring < unitsOf c.cls c.words →
    s.cached c.ring = true → ∃ t, exec .recordWrite s = .next t ∧ t.host.recs = l ++ s.host.recWait.take 1 ∧ (t.ring c.ring).drops = (s.ring c.ring).drops + 1
      ∧ (t.ring c.ring).lossPending = true ∧ (t.ring c.ring).devIdx = (s.ring c.ring).devIdx ∧ OnlyRings [c.ring] s t)
  ∧ (∀ (c : Rec) (l : List Rec) (s : State), s.fabricReady = true → s.host.recs = c :: l → s.routed c = true →
    (s.fn c.func).bme = true → s.flag HIF_LINK_up = true → s.cached c.ring = false → s.ringBusy c.ring.toNat = false →
    s.cacheRoom = true → ∃ t, exec .recordWrite s = .next t ∧ t.host.recs = s.host.recs ∧ t.rings = s.rings
      ∧ ⟨ringOwner c.ring, BitVec.ofNat 64 (s.ctxAddr c.ring), 64, .again c.ring (s.ring c.ring).gen⟩
          ∈ t.host.reads ++ t.host.readQ
      ∧ t.rd RNG_CACHE_miss_ct = min (s.rd RNG_CACHE_miss_ct + 1) 65535 ∧ OnlyRegs [RNG_CACHE] s t)
  ∧ (∀ (r e : RingId) (s : State), s.fabricReady = true → s.master (ringOwner r) = true →
    (s.ring r).st = .enabled ∨ (s.ring r).st = .draining → s.cached r = true → (s.ring r).lossPending = true → leastUnits (ctxClass (s.ring r).ctx) ≤ s.freeUnits r → e = s.evtRing (ringOwner r) →
    e ≠ r → s.isEvtRing (ringOwner r) e = true → s.owesLoss e = false → s.cached e = true → 1 ≤ s.freeUnits e → ∃ t, exec (.ringLoss r) s = .next t
      ∧ t.ring r = { s.ring r with lossPending := false, sinceLoss := 0, wbDue := true }
      ∧ (t.ring e).seq = (s.ring e).seq + 1 ∧ (t.ring e).devIdx = (s.ring e).devIdx + 1 ∧ OnlyRings [r, e] s t)
  ∧ (∀ (r : RingId) (s : State), s.fabricReady = true → s.master (ringOwner r) = true → (s.ring r).wbDue = true →
    (s.ring r).st ≠ .enabling → s.cached r = true ∨ ((s.ring r).st ≠ .enabled ∧ (s.ring r).st ≠ .draining) →
    ∃ t, exec (.writeBack r) s = .next t
      ∧ t.ring r = { s.ring r with wbDue := false, wbBytes := 0 }
      ∧ (∀ i, i < 16 → t.hostByte ((ctxWb (s.ring r).ctx + i) % 2 ^ 64) = (wordsBytes (s.ring r).wbWords).getD i 0)
      ∧ (∀ a, (∀ i, i < 16 → a ≠ (ctxWb (s.ring r).ctx + i) % 2 ^ 64) → t.hostByte a = s.hostByte a)
      ∧ OnlyRings [r] s t ∧ OnlyChanges [.rings, .host, .hostMem] s t)
  ∧ (∀ (r : RingId) (s : State), s.fabricReady = true → s.irqDue r = true → s.master (ringOwner r) = true →
    (s.fn (ringOwner r)).msixEn = true → s.cached r = true →
    s.vectorMasked (ringOwner r) (ctxVector (s.ring r).ctx) = false →
    ∃ t, exec (.interruptSend r) s = .next t ∧ t.host.irqs = s.host.irqs ++ [(ringOwner r, ctxVector (s.ring r).ctx)]
      ∧ (t.ring r).armed = false ∧ (t.ring r).irqCount = 0 ∧ OnlyRings [r] s t ∧ OnlyRegs [] s t)
  ∧ (∀ (r : RingId) (s : State), s.irqDue r = false → exec (.interruptSend r) s = .next s)
  ∧ (∀ (r : RingId) (s : State), s.fabricReady = true → s.master (ringOwner r) = true →
    (s.ring r).st = .enabled ∨ (s.ring r).st = .draining → s.cached r = false → s.ringBusy r.toNat = false →
    s.cacheRoom = true → ∃ t, t.rings = s.rings ∧ t.host.irqs = s.host.irqs
      ∧ ⟨ringOwner r, BitVec.ofNat 64 (s.ctxAddr r), 64, .again r (s.ring r).gen⟩ ∈ t.host.reads ++ t.host.readQ
      ∧ OnlyRegs [RNG_CACHE] s t ∧ OnlyChanges [.regs, .host] s t
      ∧ ((s.ring r).wbDue = true → exec (.writeBack r) s = .next t) ∧ (s.irqDue r = true → exec (.interruptSend r) s = .next t)
      ∧ ((s.ring r).lossPending = true → leastUnits (ctxClass (s.ring r).ctx) ≤ s.freeUnits r →
          exec (.ringLoss r) s = .next t))
  ∧ (∀ (r e : RingId) (s : State), s.fabricReady = true → s.master (ringOwner r) = true →
    (s.ring r).st = .enabled ∨ (s.ring r).st = .draining → s.cached r = true → (s.ring r).lossPending = true →
    leastUnits (ctxClass (s.ring r).ctx) ≤ s.freeUnits r → e = s.evtRing (ringOwner r) → e ≠ r →
    s.isEvtRing (ringOwner r) e = true → s.cached e = true → s.freeUnits e = 0 → ∃ t, exec (.ringLoss r) s = .next t
      ∧ t.ring r = { s.ring r with lossPending := false, sinceLoss := 0, wbDue := true }
      ∧ t.ring e = { s.ring e with drops := (s.ring e).drops + 1, sinceLoss := (s.ring e).sinceLoss + 1, lossPending := true, wbDue := true }
      ∧ t.rd (HIF_FN_ERR_evt_drop (fnIdx (ringOwner r))) = min (s.rd (HIF_FN_ERR_evt_drop (fnIdx (ringOwner r))) + 1) 255
      ∧ OnlyRings [r, e] s t)
  ∧ (∀ (r e : RingId) (s : State), s.fabricReady = true → s.master (ringOwner r) = true →
    (s.ring r).st = .enabled ∨ (s.ring r).st = .draining → s.cached r = true → (s.ring r).lossPending = true →
    leastUnits (ctxClass (s.ring r).ctx) ≤ s.freeUnits r → e = s.evtRing (ringOwner r) →
    s.isEvtRing (ringOwner r) e = false → ringOwner e = ringOwner r → s.cached e = true → ∃ t, exec (.ringLoss r) s = .next t
      ∧ t.ring r = { s.ring r with lossPending := false, sinceLoss := 0, wbDue := true }
      ∧ t.rd (HIF_FN_ERR_evt_drop (fnIdx (ringOwner r))) = min (s.rd (HIF_FN_ERR_evt_drop (fnIdx (ringOwner r))) + 1) 255
      ∧ OnlyRings [r] s t
      ∧ ((s.ring e).st = .enabled → t.rd RNG_MISROUTE_ct = min (s.rd RNG_MISROUTE_ct + 1) 65535
          ∧ t.rd RNG_MISROUTE_last_ring = e.toNat)
      ∧ ((s.ring e).st ≠ .enabled → t.reg RNG_MISROUTE = s.reg RNG_MISROUTE))
  ∧ (∀ (r e : RingId) (s : State), s.fabricReady = true → s.master (ringOwner r) = true →
    (s.ring r).st = .enabled ∨ (s.ring r).st = .draining → s.cached r = true → (s.ring r).lossPending = true →
    leastUnits (ctxClass (s.ring r).ctx) ≤ s.freeUnits r → e = s.evtRing (ringOwner r) → ringOwner e = ringOwner r →
    (s.ring e).st = .enabled → s.cached e = false → s.ringBusy e.toNat = false → s.cacheRoom = true →
    ∃ t, exec (.ringLoss r) s = .next t ∧ t.rings = s.rings
      ∧ ⟨ringOwner e, BitVec.ofNat 64 (s.ctxAddr e), 64, .again e (s.ring e).gen⟩ ∈ t.host.reads ++ t.host.readQ
      ∧ t.rd RNG_CACHE_miss_ct = min (s.rd RNG_CACHE_miss_ct + 1) 65535 ∧ OnlyRegs [RNG_CACHE] s t)

/-- Descriptors and reads of host memory: the next CMD ring's descriptor is read; one that arrives and fails its checks
completes with the status of the first that fails (an unknown opcode, one not allowed for the function, a reserved field or a value
out of range, a ring that is not the function's, not ENABLED or of another class), one that passes waits for its list or for its
block; a ring whose context is evicted has it fetched first, a descriptor that names one waits, unaccepted; a context's data arrive,
and those of an evicted one release what waited for them; a read that fails or times
out is counted, and a timeout is a detection (R357, R363, R380, R383, R384, R392, R555).
Rests also on the model's readings and choices in notes/assumptions: 8, 38, 39, 42, 77, 99. -/
def Obligations.DescriptorsAndReads : Prop :=
  (∀ (n : Nat) (r : RingId) (s : State), s.fabricReady = true → s.nextCmdRing = some n → r = BitVec.ofNat 16 n →
    s.cached r = true → s.cached (s.ring r).cplRing = true → (s.ring r).descrHeld = none → ∃ t h, exec .descriptorFetch s = .next t ∧ h = ⟨ringOwner r, BitVec.ofNat 64
          (ctxBase (s.ring r).ctx + 32 * ((s.ring r).devIdx.toNat % ctxSize (s.ring r).ctx)), 32,
          .descriptor r (s.ring r).gen (s.ring r).cplRing⟩
      ∧ h ∈ t.host.reads ++ t.host.readQ ∧ (s.host.readQ = [] → t.host.reads = s.host.reads ++ [h] ∧ t.host.readQ = [])
      ∧ t.host.rrLast = n + 1 ∧ OnlyRegs [] s t ∧ OnlyRings [] s t)
  ∧ (∀ (h : HostRead) (r x : RingId) (bs : List Byte) (ws : List Word) (st : Nat) (s : State), s.fabricReady = true → s.oldestRead = some h →
    s.flag HIF_LINK_up = true → h.purpose = .descriptor r (s.ring r).gen x → h.bytes = 32 → bs.length = 32 →
    ws = bytesWords bs → (s.ring r).st = .enabled → opcodeOf ws ≠ 0x09 →
    s.descrNeeds (ringOwner r) ws = none → s.descrStatus (ringOwner r) ws = some st →
    (∀ c, c ∈ s.host.cmds → c.ref ≠ ⟨r, (s.ring r).devIdx, (s.ring r).gen⟩) →
    ∃ t, exec (.hostReadCompletion (.data bs)) s = .next t ∧ (t.ring r).devIdx = (s.ring r).devIdx + 1
      ∧ t.host.cmds = s.host.cmds ∧ t.host.cpls = s.host.cpls
        ++ [⟨(s.ring r).cplRing, st, ws, ⟨r, (s.ring r).devIdx, (s.ring r).gen⟩, 0,
             if opcodeOf ws = 0x04 then s.epoch else 0, ⟨0xFFFFFFFF, 0, 0xFFFFFFFF, 0⟩, s.epoch⟩] ∧ OnlyRegs [] s t)
  ∧ (∀ (h : HostRead) (r x : RingId) (bs : List Byte) (ws : List Word) (s : State), s.fabricReady = true →
    s.oldestRead = some h → s.flag HIF_LINK_up = true → h.purpose = .descriptor r (s.ring r).gen x → h.bytes = 32 →
    bs.length = 32 → ws = bytesWords bs → (s.ring r).st = .enabled → opcodeOf ws ≠ 0x09 →
    s.descrNeeds (ringOwner r) ws = none → s.descrStatus (ringOwner r) ws = none → listWords ws = 0 →
    (∀ c, c ∈ s.host.cmds → c.ref ≠ ⟨r, (s.ring r).devIdx, (s.ring r).gen⟩) →
    ∃ t, exec (.hostReadCompletion (.data bs)) s = .next t ∧ (t.ring r).devIdx = (s.ring r).devIdx + 1
      ∧ t.host.cmds = s.host.cmds ++ [⟨⟨r, (s.ring r).devIdx, (s.ring r).gen⟩, (s.ring r).cplRing, ringOwner r, ws, [],
          .readyList, false, ⟨0xFFFFFFFF, 0, 0xFFFFFFFF, 0⟩⟩]
      ∧ t.host.cpls = s.host.cpls ∧ OnlyRings [r] s t ∧ OnlyRegs [] s t)
  ∧ (∀ (h : HostRead) (r : RingId) (bs : List Byte) (s : State), s.fabricReady = true → s.oldestRead = some h →
    s.flag HIF_LINK_up = true → h.purpose = .context r → bs.length = h.bytes →
    ∃ t, exec (.hostReadCompletion (.data bs)) s = .next t ∧ t.ring r = { s.ring r with fetched := some (bytesWords bs) } ∧ OnlyRings [r] s t ∧ OnlyRegs [] s t)
  ∧ (∀ (h : HostRead) (r : RingId) (s : State), s.fabricReady = true → s.oldestRead = some h → h.purpose = .context r →
    ∃ t, exec .completionTimeout s = .next t ∧ t.ring r = { s.ring r with fetchFailed := true }
      ∧ t.rd (HIF_FN_ERR_cpl_tmo (fnIdx h.func)) = min (s.rd (HIF_FN_ERR_cpl_tmo (fnIdx h.func)) + 1) 255
      ∧ t.rd (HIF_FN_ERR_dma_err (fnIdx h.func)) = min (s.rd (HIF_FN_ERR_dma_err (fnIdx h.func)) + 1) 255
      ∧ t.flt.detq = s.flt.detq ++ [⟨0x0D, 6, fnIdx h.func, 0, 0, elemFn (fnIdx h.func)⟩]
      ∧ OnlyRings [r] s t ∧ OnlyRegs [HIF_FN_ERR (fnIdx h.func)] s t)
  ∧ (∀ (h : HostRead) (ref : CmdRef) (c : Cmd) (k : ReadFail) (s : State), s.fabricReady = true → s.oldestRead = some h →
    s.flag HIF_LINK_up = true → h.purpose = .list ref → s.cmd? ref = some c →
    ∃ t, exec (.hostReadCompletion (.failed k)) s = .next t
      ∧ Completed s t c stDMA_ERROR 0 (if opcodeOf c.words = 0x04 then s.epoch else 0)
      ∧ t.rd (HIF_FN_ERR_dma_err (fnIdx h.func)) = min (s.rd (HIF_FN_ERR_dma_err (fnIdx h.func)) + 1) 255
      ∧ OnlyRegs [HIF_FN_ERR (fnIdx h.func)] s t)
  ∧ (∀ (f : Func) (ws : List Word) (s : State), (s.descrStatus f ws = some stBAD_OPCODE ↔ 9 < opcodeOf ws)
    ∧ (opcodeOf ws ≤ 9 → (s.descrStatus f ws = some stACCESS_DENIED
        ↔ f = .pf1 ∧ (opcodeOf ws = 1 ∨ opcodeOf ws = 2 ∨ opcodeOf ws = 6 ∨ opcodeOf ws = 7))))
  ∧ (∀ (f : Func) (ws : List Word) (n a : Nat) (v : Nat → Nat) (s : State), opcodeOf ws ≤ 9 →
    f = .pf0 ∨ opcodeOf ws = 0 ∨ opcodeOf ws = 3 ∨ opcodeOf ws = 4 ∨ opcodeOf ws = 5 ∨ 8 ≤ opcodeOf ws →
    (∀ i, v i = (wordAt ws i).toNat) → n = v 1 % 512 → a = v 4 + 2 ^ 32 * v 5 →
    (s.descrStatus f ws = some stBAD_VALUE ↔ v 0 / 2 ^ 8 % 2 ^ 8 ≠ 0 ∨ v 3 ≠ 0 ∨ v 6 ≠ 0 ∨ v 7 ≠ 0
      ∨ (opcodeOf ws = 1 ∧ (8192 < v 1 % 2 ^ 14 ∨ v 1 / 2 ^ 14 % 2 ^ 2 ≠ 0 ∨ v 1 / 2 ^ 16 % 2 ^ 2 = 3 ∨ v 1 / 2 ^ 18 ≠ 0
          ∨ v 2 / 2 ^ 16 ≠ 0 ∨ a % 16 ≠ 0))
      ∨ (opcodeOf ws = 4 ∧ (n = 0 ∨ 256 < n ∨ v 1 / 2 ^ 9 % 2 ^ 7 ≠ 0 ∨ v 1 / 2 ^ 16 % 2 ^ 2 = 3 ∨ v 1 / 2 ^ 18 ≠ 0
          ∨ v 2 / 2 ^ 16 ≠ 0 ∨ a % 16 ≠ 0))
      ∨ (opcodeOf ws = 5 ∧ (n = 0 ∨ 256 < n ∨ v 1 / 2 ^ 9 ≠ 0 ∨ v 2 / 2 ^ 16 ≠ 0 ∨ a % 4 ≠ 0))
      ∨ (opcodeOf ws = 6 ∧ (v 1 / 2 ^ 16 = 0 ∨ v 1 / 2 ^ 5 % 2 ^ 3 ≠ 0 ∨ v 1 / 2 ^ 9 % 2 ^ 7 ≠ 0 ∨ v 2 % 2 ^ 16 = 0
          ∨ v 4 ≠ 0 ∨ v 5 ≠ 0))
      ∨ (opcodeOf ws = 7 ∧ (v 1 / 2 ^ 16 = 0 ∨ v 1 / 2 ^ 5 % 2 ^ 3 ≠ 0 ∨ v 1 / 2 ^ 9 % 2 ^ 7 ≠ 0 ∨ v 2 % 2 ^ 13 = 0
          ∨ 4096 < v 2 % 2 ^ 13 ∨ v 2 / 2 ^ 13 % 2 ^ 3 ≠ 0 ∨ v 4 ≠ 0 ∨ v 5 ≠ 0))
      ∨ (opcodeOf ws = 8 ∧ (v 1 / 2 ^ 5 ≠ 0 ∨ v 2 ≠ 0 ∨ v 4 ≠ 0 ∨ v 5 ≠ 0))
      ∨ ((opcodeOf ws = 0 ∨ opcodeOf ws = 2 ∨ opcodeOf ws = 3 ∨ opcodeOf ws = 9)
          ∧ (v 1 ≠ 0 ∨ v 2 ≠ 0 ∨ v 4 ≠ 0 ∨ v 5 ≠ 0))))
  ∧ (∀ (f : Func) (ws : List Word) (r : RingId) (k : Nat) (s : State),
    (opcodeOf ws = 5 ∧ r = (wordAt ws 2).extractLsb' 0 16 ∧ k = 5) ∨ (opcodeOf ws = 6 ∧ r = (wordAt ws 2).extractLsb' 16 16 ∧ k = 2)
      ∨ (opcodeOf ws = 7 ∧ r = (wordAt ws 2).extractLsb' 16 16 ∧ k = 4) →
    s.descrStatus f ws ≠ some stACCESS_DENIED → s.descrStatus f ws ≠ some stBAD_VALUE →
    s.descrStatus f ws = (if ringOwner r = f ∧ (s.ring r).st = .enabled ∧ ctxClass (s.ring r).ctx = k then none else some stBAD_RING))
  ∧ (∀ (f : Func) (ws : List Word) (s : State), s.descrStatus f ws = some stBAD_RING →
    opcodeOf ws = 5 ∨ opcodeOf ws = 6 ∨ opcodeOf ws = 7)
  ∧ (∀ s : State, s.oldestRead = none → exec .completionTimeout s = .next s)
  ∧ (∀ (h : HostRead) (r : RingId) (bs : List Byte) (ws : List Word) (s : State), s.fabricReady = true →
    s.oldestRead = some h → s.flag HIF_LINK_up = true → h.purpose = .again r (s.ring r).gen → bs.length = h.bytes →
    ws = (bytesWords bs).take 8 → (s.ring r).st = .enabled ∨ (s.ring r).st = .draining → s.cached r = false →
    s.host.lru.length < 512 → ∃ t, exec (.hostReadCompletion (.data bs)) s = .next t ∧ t.cached r = true ∧ (t.ring r).ctx = ws
      ∧ ((s.ring r).held = [] → t.ring r = { s.ring r with ctx := ws } ∧ t.host.lru = s.host.lru ++ [r.toNat] ∧ OnlyRings [r] s t ∧ OnlyRegs [] s t)
      ∧ (∀ x, (s.ring r).held = [⟨x, false, false, false⟩] →
          ({ s.ring r with ctx := ws, hostIdx := x } : Ring).inconsistent = false →
          t.ring r = { s.ring r with ctx := ws, held := [], hostIdx := x } ∧ OnlyRings [r] s t ∧ OnlyRegs [] s t))
  ∧ (∀ (h : HostRead) (r : RingId) (k : ReadFail) (s : State), s.fabricReady = true → s.oldestRead = some h →
    s.flag HIF_LINK_up = true → h.purpose = .again r (s.ring r).gen → (s.ring r).st = .enabled ∨ (s.ring r).st = .draining →
    (s.ring r).held = [] → ∃ t, exec (.hostReadCompletion (.failed k)) s = .next t ∧ (t.ring r).st = .error
      ∧ OnlyRings [r] s t ∧ OnlyRegs (HIF_FN_ERR (fnIdx h.func) :: eventRegs) s t)
  ∧ (∀ (n : Nat) (r e : RingId) (s : State), s.fabricReady = true → s.nextCmdRing = some n → r = BitVec.ofNat 16 n →
    s.turnNeeds r = some e → ∃ t, exec .descriptorFetch s = .next t ∧ t.rings = s.rings
      ∧ ⟨ringOwner e, BitVec.ofNat 64 (s.ctxAddr e), 64, .again e (s.ring e).gen⟩ ∈ t.host.reads ++ t.host.readQ
      ∧ t.rd RNG_CACHE_miss_ct = min (s.rd RNG_CACHE_miss_ct + 1) 65535 ∧ OnlyRegs [RNG_CACHE] s t ∧ OnlyChanges [.regs, .host] s t)
  ∧ (∀ (r : RingId) (s : State), (s.cached r = false → (s.ring r).st = .enabled → s.turnNeeds r = some r)
    ∧ (s.cached r = true → (s.ring r).descrHeld = none → (s.ring (s.ring r).cplRing).st = .enabled →
        s.cached (s.ring r).cplRing = false → s.turnNeeds r = some (s.ring r).cplRing))
  ∧ (∀ (h : HostRead) (r x e : RingId) (k : Nat) (bs : List Byte) (ws : List Word) (s : State), s.fabricReady = true →
    s.oldestRead = some h → s.flag HIF_LINK_up = true → h.purpose = .descriptor r (s.ring r).gen x → h.bytes = 32 →
    bs.length = 32 → ws = bytesWords bs → (s.ring r).st = .enabled → wordsStatus (ringOwner r) ws = none →
    namedRing ws = some (e, k) → ringOwner e = ringOwner r → (s.ring e).st = .enabled → s.cached e = false →
    ∃ t, exec (.hostReadCompletion (.data bs)) s = .next t ∧ t.ring r = { s.ring r with descrHeld := some ws }
      ∧ t.host.cmds = s.host.cmds ∧ t.host.cpls = s.host.cpls ∧ OnlyRings [r] s t ∧ OnlyRegs [RNG_CACHE] s t)
  ∧ (∀ (n : Nat) (r : RingId) (ws : List Word) (s : State), s.fabricReady = true → s.nextCmdRing = some n →
    r = BitVec.ofNat 16 n → s.turnNeeds r = none → (s.ring r).descrHeld = some ws → opcodeOf ws ≠ 0x09 →
    s.descrStatus (ringOwner r) ws = none → listWords ws = 0 →
    (∀ c, c ∈ s.host.cmds → c.ref ≠ ⟨r, (s.ring r).devIdx, (s.ring r).gen⟩) →
    ∃ t, exec .descriptorFetch s = .next t ∧ (t.ring r).descrHeld = none ∧ (t.ring r).devIdx = (s.ring r).devIdx + 1
      ∧ t.host.cmds = s.host.cmds ++ [⟨⟨r, (s.ring r).devIdx, (s.ring r).gen⟩, (s.ring r).cplRing, ringOwner r, ws, [],
          .readyList, false, ⟨0xFFFFFFFF, 0, 0xFFFFFFFF, 0⟩⟩]
      ∧ t.host.cpls = s.host.cpls ∧ OnlyRings [r] s t ∧ OnlyRegs [] s t)
  ∧ (∀ (h : HostRead) (r : RingId) (x : Word) (arm : Bool) (bs : List Byte) (s : State), s.fabricReady = true →
    s.oldestRead = some h → s.flag HIF_LINK_up = true → h.purpose = .again r (s.ring r).gen → bs.length = h.bytes →
    (s.ring r).st = .error → s.cached r = false → s.host.lru.length < 512 → (s.ring r).held = [⟨x, true, false, arm⟩] →
    s.barLive (ringOwner r) = true → ∃ t, exec (.hostReadCompletion (.data bs)) s = .next t ∧ (t.ring r).st = .disabled
      ∧ (t.ring r).held = [] ∧ OnlyRings [r] s t ∧ OnlyRegs eventRegs s t)

/-- Completions: NOP completes at once; a FENCE is accepted and completes once every earlier command but START has and its completion ring is ENABLED with
a free unit, evicted contexts of the two rings being fetched first, and until its completion is written no descriptor behind it is
read (the model's reading of completion, log 77); the first
completion that may be written goes into its ring, its 32 bytes (status and opcode, tag and ring, index, shots, dwells, the last
sequence number of its records, epoch) at the ring's base plus 32 times its place, with the ring's index and sequence number advanced
(R363, R364, R385, R388 to R390).
Rests also on the model's readings and choices in notes/assumptions: 39, 42, 43, 77. -/
def Obligations.Completions : Prop :=
  (∀ (ref : CmdRef) (c : Cmd) (s : State), s.fabricReady = true → s.waits ref 0x00 = some c →
    ∃ t, exec (.nop ref) s = .next t ∧ Completed s t c stOK 0 0 ∧ OnlyChanges [.host] s t)
  ∧ (∀ (ref : CmdRef) (c : Cmd) (s : State), s.fabricReady = true → s.waits ref 0x09 = some c → s.fenceClear ref = true →
    s.openCmds c.func < 64 → s.lacksCtx ref.ring = false → s.evicted c.cplRing = false → s.isEvtRing c.func c.cplRing = true → 1 ≤ s.freeUnits c.cplRing → ∃ t, exec (.fence ref) s = .next t
      ∧ Completed s t c ((s.descrStatus c.func c.words).getD stOK) 0 0
      ∧ (t.ring ref.ring).devIdx = (s.ring ref.ring).devIdx + 1 ∧ OnlyRings [ref.ring] s t ∧ OnlyRegs [] s t)
  ∧ (∀ (ref : CmdRef) (s : State), s.fenceClear ref = false → exec (.fence ref) s = .next s)
  ∧ (∀ (p : Cpl) (s : State), s.fabricReady = true → s.host.cpls.find? (fun q => s.cplReady q) = some p →
    s.routed ⟨ringOwner p.cplRing, p.cplRing, 3, p.record, none, 0, true⟩ = true →
    (s.fn (ringOwner p.cplRing)).bme = true → s.cached p.cplRing = true → ∃ t, exec .completionWrite s = .next t
      ∧ t.host.cpls = eraseFirst (fun q => decide (q = p)) s.host.cpls
      ∧ (t.ring p.cplRing).devIdx = (s.ring p.cplRing).devIdx + 1 ∧ (t.ring p.cplRing).seq = (s.ring p.cplRing).seq + 1
      ∧ OnlyRings [p.cplRing] s t ∧ OnlyRegs [] s t)
  ∧ (∀ (p : Cpl) (b : Nat) (s : State), s.fabricReady = true → s.host.cpls.find? (fun q => s.cplReady q) = some p →
    s.routed ⟨ringOwner p.cplRing, p.cplRing, 3, p.record, none, 0, true⟩ = true →
    (s.fn (ringOwner p.cplRing)).bme = true → s.cached p.cplRing = true →
    (s.ring p.cplRing).wbBytes + 32 < (s.fn (ringOwner p.cplRing)).maxPayload →
    b = ctxBase (s.ring p.cplRing).ctx + 32 * ((s.ring p.cplRing).devIdx.toNat % ctxSize (s.ring p.cplRing).ctx) →
    ∃ t, exec .completionWrite s = .next t
      ∧ (∀ j, j < 32 → t.hostByte ((b + j) % 2 ^ 64) = (wordsBytes p.record).getD j 0)
      ∧ (∀ a, (∀ j, j < 32 → a ≠ (b + j) % 2 ^ 64) → t.hostByte a = s.hostByte a))
  ∧ (∀ p : Cpl, p.record = [BitVec.ofNat 32 (0x01 + 2 ^ 8 * p.status + 2 ^ 16 * opcodeOf p.words),
      BitVec.ofNat 32 ((wordAt p.words 0).toNat / 2 ^ 16 + 2 ^ 16 * p.cmd.ring.toNat), p.cmd.idx,
      p.shots.extractLsb' 0 32, p.shots.extractLsb' 32 32, p.dwells,
      if opcodeOf p.words = 0x02 then p.seqs.ofEntry p.dwells else p.seqs.seq, p.epoch])
  ∧ (∀ (ref : CmdRef) (c : Cmd) (s : State), s.waits ref 0x09 = some c → s.isEvtRing c.func c.cplRing = false →
    s.lacksCtx ref.ring = false → s.evicted c.cplRing = false → exec (.fence ref) s = .next s)
  ∧ (∀ (p : Cpl) (n : Nat) (s : State), p ∈ s.host.cpls → opcodeOf p.words = 0x09 →
    p.cmd.gen = (s.ring p.cmd.ring).gen → s.nextCmdRing = some n →
    (s.ring p.cmd.ring).descrHeld = none → BitVec.ofNat 16 n ≠ p.cmd.ring)
  ∧ (∀ (ref : CmdRef) (c : Cmd) (e : RingId) (s : State), s.fabricReady = true → s.waits ref 0x09 = some c → s.fenceClear ref = true →
    s.openCmds c.func < 64 →
    (e = ref.ring ∧ s.lacksCtx e = true) ∨ (e = c.cplRing ∧ s.lacksCtx ref.ring = false ∧ s.evicted e = true) →
    s.ringBusy e.toNat = false → s.cacheRoom = true → ∃ t, exec (.fence ref) s = .next t ∧ t.rings = s.rings
      ∧ ⟨ringOwner e, BitVec.ofNat 64 (s.ctxAddr e), 64, .again e (s.ring e).gen⟩ ∈ t.host.reads ++ t.host.readQ
      ∧ t.host.cmds = s.host.cmds ∧ t.host.cpls = s.host.cpls ∧ OnlyRegs [RNG_CACHE] s t)

/-- Configuration transactions: one whose checks pass becomes pending, one that fails completes with the status and changes
nothing it names; the SPI port's transaction is busy until it ends, at its rejection or at its application, and any write of its go register is refused while it
is busy; at the apply instant,
which no snapshot may hold up, every run-time register takes the writes of a due transaction in their order, its RW bits under the
mask, the epoch increments and the command completes under the new epoch, or the transaction fails its later checks and nothing is
written; there too the waiting changes of the fault manager take effect together, under one step of the epoch: a retirement gives
the slice's channel the spare or removes it, a removal and the failure of an ambient converter show, each row of a tie-break's
outcome, a request for restoration starts a retest and its outcome returns or keeps out the slice or the area that its dwell tested (R107, R112, R401, R430 to R436,
R442, R560 to R563, R565 to R567).
Rests also on the model's readings and choices in notes/assumptions: 44, 45, 46, 92, 106, 120, 122, 123. -/
def Obligations.Transactions : Prop :=
  (∀ (ref : CmdRef) (c : Cmd) (x : Txn) (s : State), s.fabricReady = true → s.waits ref 0x04 = some c →
    x = ⟨(match c.func with | .pf0 => .pf0 | .pf1 => .pf1), some ref, (wordAt c.words 0).extractLsb' 16 16,
      bitsOf (wordAt c.words 1) 16 2, (wordAt c.words 2).extractLsb' 0 16, bitsOf (wordAt c.words 1) 16 2 == 0,
      txnEntries (bitsOf (wordAt c.words 1) 0 9) c.list⟩ →
    s.txnChecks x.src x.writes = none → ∃ t, exec (.cfgTxn ref) s = .next t ∧ t.host.txns = s.host.txns ++ [x]
      ∧ t.rd GLB_TXN_STAT_pending = (s.host.txns.length + 1) % 256 ∧ t.waits ref 0x04 = none ∧ t.host.cpls = s.host.cpls
      ∧ OnlyRegs [GLB_TXN_STAT] s t)
  ∧ (∀ (ref : CmdRef) (c : Cmd) (st i : Nat) (s : State), s.fabricReady = true → s.waits ref 0x04 = some c →
    s.txnChecks (match c.func with | .pf0 => .pf0 | .pf1 => .pf1) (txnEntries (bitsOf (wordAt c.words 1) 0 9) c.list)
      = some (st, i) → ∃ t, exec (.cfgTxn ref) s = .next t ∧ Completed s t c st 0 s.epoch
      ∧ t.rd GLB_TXN_STAT_rej_ct = min (s.rd GLB_TXN_STAT_rej_ct + 1) 255 ∧ t.host.txns = s.host.txns
      ∧ OnlyRegs (GLB_TXN_STAT :: eventRegs) s t)
  ∧ (∀ (v : Word) (x : Txn) (s : State), s.fabricReady = true → HIF_STXN_GO_go.get v = 1 →
    s.flag HIF_STXN_STAT_busy = false → s.rd HIF_STXN_CTL_count ≠ 0 → s.rd HIF_STXN_CTL_count ≤ 256 →
    s.rd HIF_STXN_CTL_apply ≤ 2 → x = ⟨.spi, none, 0, s.rd HIF_STXN_CTL_apply, BitVec.ofNat 16 (s.rd HIF_STXN_CTL_round),
      s.rd HIF_STXN_CTL_apply == 0, s.stagedEntries⟩ →
    (s.putB HIF_STXN_STAT_busy true).txnChecks .spi x.writes = none →
    ∃ t, exec (.spiTxnGo .spi v) s = .next t ∧ t.flag HIF_STXN_STAT_busy = true ∧ t.host.txns = s.host.txns ++ [x]
      ∧ OnlyRegs [HIF_STXN_STAT, GLB_TXN_STAT] s t)
  ∧ (∀ (q : Src) (v : Word) (s : State), s.serves q = true → q ≠ .spi → ∃ t, exec (.spiTxnGo q v) s = .next t
    ∧ t.host.txns = s.host.txns ∧ OnlyRegs refuseRegs s t)
  ∧ (∀ (v : Word) (st i : Nat) (s : State), s.fabricReady = true → HIF_STXN_GO_go.get v = 1 →
    s.flag HIF_STXN_STAT_busy = false → s.rd HIF_STXN_CTL_count ≠ 0 → s.rd HIF_STXN_CTL_count ≤ 256 →
    s.rd HIF_STXN_CTL_apply ≤ 2 → (s.putB HIF_STXN_STAT_busy true).txnChecks .spi s.stagedEntries = some (st, i) → st < 256 →
    ∃ t, exec (.spiTxnGo .spi v) s = .next t ∧ t.flag HIF_STXN_STAT_busy = false ∧ t.rd HIF_STXN_STAT_status = st
      ∧ t.flag HIF_IRQ_STAT_stxn = true ∧ t.host.txns = s.host.txns ∧ t.epoch = s.epoch
      ∧ OnlyRegs (HIF_STXN_STAT :: GLB_TXN_STAT :: eventRegs) s t)
  ∧ (∀ (q : Src) (ws : List TxnWrite) (s : State),
    (∀ w, w ∈ ws → w.addrOk = false ∨ regDescAt w.addr = none → ∃ i, s.txnChecks q ws = some (stBAD_ADDRESS, i))
    ∧ (∀ w d, w ∈ ws → regDescAt w.addr = some d → d.cls = .command ∨ d.cls = .locked ∨ (d.cls = .setup ∧ d.base ≠ CRT_FE 0) →
        ∃ i, s.txnChecks q ws = some (stBAD_ADDRESS, i))
    ∧ ((∀ w, w ∈ ws → w.addrOk = true ∧ ∃ d, regDescAt w.addr = some d ∧ d.cls = .runTime) → (∃ w d, w ∈ ws
        ∧ regDescAt w.addr = some d ∧ d.writers ≠ .any) → q = .pf0 → ∃ i, s.txnChecks q ws = some (stACCESS_DENIED, i))
    ∧ (s.txnChecks q ws = none → ∀ w d, w ∈ ws → regDescAt w.addr = some d → w.w3 = 0 ∧ w.mask &&& ~~~ d.writeBits = 0
        ∧ (q = .pf0 → d.writers = .any)
        ∧ ∀ f, f ∈ d.fields → f.access = .rw → f.bits &&& w.mask ≠ 0 → f.lo ≤ f.get ((s.txnResult ws).reg w.addr)
            ∧ f.get ((s.txnResult ws).reg w.addr) ≤ f.hi)
    ∧ (((s.txnResult ws).flag (EMT_CFG_en 31) = true ∧ (s.txnResult ws).rd SHT_SYNC_mode ≠ 0)
        ∨ ((s.txnResult ws).flag MOT_IDX_CFG_idx_en = true ∧ (s.txnResult ws).flag MOT_FSYNC_en = true) →
        s.lateChecks ws = some (stPIN_CONFLICT, 0xFFFFFFFF)))
  ∧ (∀ (x : Txn) (a : Nat) (d : RegDesc) (s s1 : State), s.fabricLive = true → s.timingLive = true →
    s.noEntry = true → s.host.snaps = [] → s.host.txns = [x] → x.due = true → s.shot.swap = none → s.flt.changes = [] →
    s1 = (s.modHost (fun h => { h with txns := [] })).showTxns → s1.lateChecks x.writes = none → regDescAt a = some d →
    d.cls = .runTime → ∃ t, exec .applyInstant s = .next t ∧ t.host.txns = []
      ∧ t.reg a = (x.writes.filter (fun w => decide (w.addr = a))).foldl
          (fun v w => (v &&& ~~~(w.mask &&& d.rwBits)) ||| (w.val &&& (w.mask &&& d.rwBits))) (s.reg a)
      ∧ t.rd GLB_EPOCH_epoch = (s.rd GLB_EPOCH_epoch + 1) % 2 ^ 32
      ∧ (∀ ref c, x.cmd = some ref → s.cmd? ref = some c → t.host.cpls = s.host.cpls
          ++ [⟨c.cplRing, stOK, c.words, ref, BitVec.ofNat 64 x.writes.length, t.epoch, c.seqs, t.epoch⟩])
      ∧ (x.cmd = none → t.flag HIF_STXN_STAT_busy = false ∧ t.rd HIF_STXN_STAT_status = stOK
          ∧ t.rd HIF_STXN_STAT_epoch = t.epoch.toNat % 2 ^ HIF_STXN_STAT_epoch.width ∧ t.flag HIF_IRQ_STAT_stxn = true ∧ t.host.cpls = s.host.cpls))
  ∧ (∀ (x : Txn) (st i a : Nat) (d : RegDesc) (s s1 : State), s.fabricLive = true → s.timingLive = true →
    s.noEntry = true → s.host.snaps = [] → s.host.txns = [x] → x.due = true → s.shot.swap = none → s.flt.changes = [] →
    s1 = (s.modHost (fun h => { h with txns := [] })).showTxns → s1.lateChecks x.writes = some (st, i) → regDescAt a = some d →
    d.cls = .runTime → ∃ t, exec .applyInstant s = .next t ∧ t.host.txns = [] ∧ t.reg a = s.reg a ∧ t.epoch = s.epoch
      ∧ t.rd GLB_TXN_STAT_rej_ct = min (s.rd GLB_TXN_STAT_rej_ct + 1) 255
      ∧ (∀ ref c, x.cmd = some ref → s.cmd? ref = some c → t.host.cpls = s.host.cpls
          ++ [⟨c.cplRing, st, c.words, ref, 0, s.epoch, c.seqs, s.epoch⟩])
      ∧ (x.cmd = none → t.flag HIF_STXN_STAT_busy = false ∧ t.flag HIF_IRQ_STAT_stxn = true))
  ∧ (∀ (x : Txn) (w : TxnWrite) (c k : Nat) (s s1 : State), s.fabricLive = true → s.timingLive = true →
    s.noEntry = true → s.host.snaps = [] → s.host.txns = [x] → x.due = true → s.shot.swap = none → s.flt.changes = [] →
    s1 = (s.modHost (fun h => { h with txns := [] })).showTxns → s1.lateChecks x.writes = none → c < 32 → k < 16 →
    x.writes = [w] → w.addr = CRT_RESTORE c → (w.val &&& w.mask).getLsbD k = true → s.role c k = 6 →
    ∃ t, exec .applyInstant s = .next t ∧ t.flag (CRT_SVC_retest c) = true ∧ t.role c k = 6
      ∧ (t.crate c).retest.any (fun r => r.chans.getLsbD k || r.nextChans.getLsbD k) = true)
  ∧ (∀ (l : List FmChange) (s : State), s.fabricLive = true → s.timingLive = true → s.noEntry = true → s.host.snaps = [] →
    s.host.txns = [] → s.shot.swap = none → s.flt.changes = l → l ≠ [] → ∃ t, exec .applyInstant s = .next t
      ∧ t.flt.changes = [] ∧ t.rd FLT_STAT_pend = 0 ∧ t.rd GLB_EPOCH_epoch = (s.rd GLB_EPOCH_epoch + 1) % 2 ^ 32
      ∧ (∀ c i w, c < 32 → i < 16 → l = [.retire c i w] → s.role c i ≠ 6 → t.role c i = 6
          ∧ (s.role c 16 = 1 ∨ s.role c 16 = 2 ∨ s.role c 16 = 3 → t.role c 16 = 4 ∧ t.spareChan c = i)
          ∧ (s.role c 16 = 4 ∨ s.role c 16 = 5 ∨ s.role c 16 = 6 → t.removed c i = true ∧ t.role c 16 = s.role c 16))
      ∧ (∀ c w, c < 32 → l = [.retire c 16 w] → t.role c 16 = 6
          ∧ (s.role c 16 = 4 → s.spareChan c < 16 → t.removed c (s.spareChan c) = true ∧ t.flag (CRT_SVC_degraded c) = true))
      ∧ (∀ c k, c < 32 → k < 16 → l = [.remove c k 3] → t.removed c k = true ∧ t.flag (CRT_SVC_degraded c) = true)
      ∧ (∀ c k, c < 32 → k < 16 → l = [.ambient (16 * c + k)] → (t.chan c k).ambFailed = true
          ∧ t.flag (CRT_SVC_amb_fail c) = true ∧ (s.cratePowered c = true → t.flag (SKM_CH_sun c k) = true) ∧ (t.chan c k).pubThr = s.rd SKM_RATE_dmax)
      ∧ (∀ c j, c < 32 → j < 16 → s.role c j = 0 → s.role c 16 = 1 →
          (l = [.tie c ⟨j, true, false⟩] → t.role c j = 6 ∧ t.role c 16 = 4 ∧ t.spareChan c = j)
          ∧ (l = [.tie c ⟨j, false, true⟩] → t.role c j = 0 ∧ t.role c 16 = 6)
          ∧ (l = [.tie c ⟨j, true, true⟩] → t.role c j = 6 ∧ t.role c 16 = 6 ∧ t.removed c j = true)
          ∧ (l = [.tie c ⟨j, false, false⟩] → t.role c j = 0 ∧ t.role c 16 = 5 ∧ t.removed c j = true))
      ∧ (∀ c k r, c < 32 → k < 16 → l = [.restore c] → (s.crate c).retest = some r → r.finished = true → r.chans = 1 <<< k →
          r.spare = false → r.sliceOut = 1 <<< k → r.areaOut = 0 → r.spareOut = false → r.nextChans = 0 → r.nextSpare = false → s.role c k = 6 → (s.chan c k).remEcc = false →
          (s.chan c k).remTone = false → (t.crate c).retest = none ∧ t.flag (CRT_SVC_retest c) = false
          ∧ (k ∈ r.passSlices → t.role c k = 0 ∧ t.removed c k = false
              ∧ (s.role c 16 = 4 → s.spareChan c = k → t.role c 16 = 1)
              ∧ sparseGet (fun _ => 0) t.flt.probation (0x10000 + 17 * c + k) = s.clk.ftick + 1)
          ∧ (k ∉ r.passSlices → t.role c k = 6 ∧ t.role c 16 = s.role c 16))
      ∧ (∀ c k r, c < 32 → k < 16 → l = [.restore c] → (s.crate c).retest = some r → r.finished = true →
          r.sliceOut = 0 → r.areaOut = 1 <<< k → r.spareOut = false → (t.role c k = s.role c k
            ∧ (r.passAreas.getLsbD k = true → (t.chan c k).remEcc = false)
            ∧ (r.passAreas.getLsbD k = false → (t.chan c k).remEcc = (s.chan c k).remEcc))))
  ∧ (∀ s : State, s.host.snaps ≠ [] → exec .applyInstant s = .next s)
  ∧ (∀ s : State, s.applyDue = false → exec .applyInstant s = .next s)
  ∧ (∀ (v : Word) (s : State), s.fabricReady = true → s.flag HIF_STXN_STAT_busy = true → ∃ t, exec (.spiTxnGo .spi v) s = .next t
    ∧ t.host.txns = s.host.txns ∧ t.flag HIF_STXN_STAT_busy = true ∧ OnlyRegs refuseRegs s t)

/-- Snapshots: a list of registers requests a strobe, any other is refused; the strobe gives one record of the registers' shadows
and the command completes (R429, R442, R443).
Rests also on the model's readings and choices in notes/assumptions: 45, 111. -/
def Obligations.Snapshots : Prop :=
  (∀ (ref : CmdRef) (c : Cmd) (s : State), s.fabricReady = true → s.waits ref 0x05 = some c → c.list.all snapAddrOk = true →
    ∃ t, exec (.snapshot ref) s = .next t
      ∧ t.host.snaps = s.host.snaps ++ [⟨ref, (wordAt c.words 2).extractLsb' 0 16, c.list.map (fun w => w.toNat)⟩]
      ∧ t.host.cpls = s.host.cpls ∧ OnlyChanges [.host] s t)
  ∧ (∀ (ref : CmdRef) (c : Cmd) (s : State), s.fabricReady = true → s.waits ref 0x05 = some c → c.list.all snapAddrOk = false →
    ∃ t, exec (.snapshot ref) s = .next t ∧ Completed s t c stBAD_VALUE 0 0 ∧ OnlyChanges [.host] s t)
  ∧ (∀ (x : Snap) (l : List Snap) (c : Cmd) (q : Src) (s : State), s.fabricReady = true → s.noEntry = true →
    s.host.snaps = x :: l → s.host.recs.length < 1024 → s.cmd? x.cmd = some c →
    q = (match c.func with | .pf0 => .pf0 | .pf1 => .pf1) →
    ∃ t, exec .snapshotStrobe s = .next t ∧ t.host.snaps = l ∧ Completed s t c stOK (BitVec.ofNat 64 x.addrs.length) 0
      ∧ t.host.recs = s.host.recs ++ [⟨c.func, x.ring, 5, s.snapWords q (bitsOf (wordAt c.words 0) 16 16) x.addrs, some x.cmd, 0,
          false⟩] ∧ OnlyChanges [.host] s t)
  ∧ (∀ s : State, s.host.snaps = [] → exec .snapshotStrobe s = .next s)

/-- Direct writes: a setup register of an idle block takes the RW bits; a status register loses the RW1C bits written as 1; a
run-time register, a source that may not write, a busy block refuse the write and record it; a write over BAR0 that is not one
aligned word is only logged; an address that holds no register takes nothing (R16, R358, R440, R606, R608 to R610, R617).
Rests also on the model's readings and choices in notes/assumptions: 15, 22, 23, 24, 25, 26. -/
def Obligations.RegisterWrites : Prop :=
  (∀ (q : Src) (a : BitVec 20) (v : Word) (d : RegDesc) (s : State), s.serves q = true → a.toNat % 4 = 0 → a.toNat < 0x80000 →
    regDescAt a.toNat = some d → d.cls = .setup → d.mayWrite q a.toNat = true → s.setupIdle q a.toNat = true →
    d.inRange d.rwBits v = true → isSafCfg a.toNat = false → a.toNat ≠ MOT_CFG → inFamily a.toNat (CRT_FE 0) 0x1000 32 = none →
    ∃ t, exec (.registerWrite q a 4 v) s = .next t
      ∧ t.reg a.toNat = (s.reg a.toNat &&& ~~~ d.rwBits) ||| (v &&& d.rwBits) ∧ OnlyRegs [a.toNat] s t ∧ OnlyChanges [.regs] s t)
  ∧ (∀ (q : Src) (a : BitVec 20) (v : Word) (d : RegDesc) (s : State), s.serves q = true → a.toNat % 4 = 0 → a.toNat < 0x80000 →
    regDescAt a.toNat = some d → d.cls = .status → d.mayWrite q a.toNat = true → ∃ t,
    exec (.registerWrite q a 4 v) s = .next t ∧ t.reg a.toNat = s.reg a.toNat &&& ~~~(v &&& d.w1cBits)
      ∧ OnlyRegs [a.toNat] s t ∧ OnlyChanges [.regs] s t)
  ∧ (∀ (q : Src) (a : BitVec 20) (v : Word) (d : RegDesc) (s : State), s.serves q = true → a.toNat % 4 = 0 → a.toNat < 0x80000 →
    regDescAt a.toNat = some d → d.mayWrite q a.toNat = false ∨ d.cls = .runTime ∨ (d.cls = .setup
      ∧ s.setupIdle q a.toNat = false) → ∃ t, exec (.registerWrite q a 4 v) s = .next t
      ∧ t.rd GLB_WR_REFUSE_addr = a.toNat / 4 ∧ t.rd GLB_WR_REFUSE_src = srcIdx q
      ∧ t.rd GLB_WR_REFUSE_ct = min (s.rd GLB_WR_REFUSE_ct + 1) (2 ^ GLB_WR_REFUSE_ct.width - 1)
      ∧ OnlyRegs refuseRegs s t ∧ OnlyChanges [.regs, .host, .flt] s t)
  ∧ (∀ (q : Src) (a : BitVec 20) (n : Nat) (v : Word) (s : State), s.serves q = true → q ≠ .spi → n ≠ 4 ∨ a.toNat % 4 ≠ 0 →
    ∃ t e, exec (.registerWrite q a n v) s = .next t ∧ t.flt.log = logRoom s.flt.log ++ [e] ∧ e.w0.toNat % 256 = 0x31
      ∧ OnlyRegs logRegs s t)
  ∧ (∀ (q : Src) (a : BitVec 20) (v : Word) (s : State), s.serves q = true → a.toNat % 4 = 0 → a.toNat < 0x80000 →
    regDescAt a.toNat = none → exec (.registerWrite q a 4 v) s = .next s)
  ∧ (∀ (q : Src) (v : Word) (s : State), s.serves q = true → ∃ t, exec (.glbDiagPageWrite q v) s = .next t
    ∧ t.req q = { s.req q with page := GLB_DIAG_PAGE_page.get v } ∧ (∀ p, p ≠ q → t.req p = s.req p)
    ∧ OnlyChanges [.reqs] s t)
  ∧ (∀ (q : Src) (a : BitVec 20) (n : Nat) (v : Word) (s : State), s.serves q = false →
    exec (.registerWrite q a n v) s = .next s)

/-- Reads: a word of the diagnostic window and its upper half; the words of the oldest queued event, which leaves with its eighth
word; a LO register with the HI word latched for the requester; RC fields cleared by the read, but those of a register without a clock
held (the model's reading, log 45) (R257, R402, R437, R441, R606, R611, R618).
The event queue: with evq_en every event is placed in it while it holds fewer than 32, and is discarded and counted when it is
full; IRQ_N is then low where HIF_IRQ_EN lets it; eight reads of HIF_EVQ_DATA return the oldest event's words in order and remove it
(R402, R403). That an event which arises while the fabric domain has no clock is in no queue is the model's choice of log 34: the
first two clauses about it speak of a fabric domain with its clock.
Rests also on the model's readings and choices in notes/assumptions: 16, 30, 31, 32, 34, 45, 99, 120. -/
def Obligations.RegisterReads : Prop :=
  (∀ (q : Src) (a : BitVec 20) (s : State), s.serves q = true → 0x80000 ≤ a.toNat → a.toNat % 8 = 0 →
    ∃ t b, exec (.diagWindowRead q ⟨a, 4, .clean⟩) s = .next t ∧ b = 8 * (s.req q).page + (a.toNat - 0x80000) / 0x10000
      ∧ t.req q = { s.req q with
          rdata := s.bankWord b (a.toNat % 0x10000), ur := false, diagHi := s.bankWord b (a.toNat % 0x10000 + 4) }
      ∧ OnlyChanges [.reqs] s t)
  ∧ (∀ (q : Src) (a : BitVec 20) (e : Ecc) (s : State), s.serves q = true → 0x80000 ≤ a.toNat → a.toNat % 8 = 4 →
    ∃ t, exec (.diagWindowRead q ⟨a, 4, e⟩) s = .next t ∧ t.req q = { s.req q with rdata := (s.req q).diagHi, ur := false }
      ∧ OnlyChanges [.reqs] s t)
  ∧ (∀ (q : Src) (a : BitVec 20) (n : Nat) (e : Ecc) (s : State), s.serves q = true → q ≠ .spi → n ≠ 4 ∨ a.toNat % 4 ≠ 0 →
    ∃ t, exec (.loRegisterRead q ⟨a, n, e⟩) s = .next t ∧ exec (.rcFieldRead q ⟨a, n, e⟩) s = .next t
      ∧ (0x80000 ≤ a.toNat → exec (.diagWindowRead q ⟨a, n, e⟩) s = .next t) ∧ t.req q = { s.req q with ur := true } ∧ t.regs = s.regs)
  ∧ (∀ (q : Src) (e : List Word) (l : List (List Word)) (s : State), s.serves q = true → s.host.evq = e :: l →
    s.host.evqRead < 7 → ∃ t, exec (.eventQueueRead q) s = .next t ∧ t.req q = { s.req q with rdata := wordAt e s.host.evqRead, ur := false }
      ∧ t.host = { s.host with evqRead := s.host.evqRead + 1 } ∧ OnlyRegs [] s t)
  ∧ (∀ (q : Src) (e : List Word) (l : List (List Word)) (s : State), s.serves q = true → s.host.evq = e :: l →
    s.host.evqRead = 7 → l.length < 32 → ∃ t, exec (.eventQueueRead q) s = .next t
      ∧ t.req q = { s.req q with rdata := wordAt e 7, ur := false } ∧ t.host = { s.host with evq := l, evqRead := 0 }
      ∧ t.rd HIF_EVQ_STAT_fill = l.length ∧ t.flag HIF_IRQ_STAT_evq = !l.isEmpty ∧ OnlyRegs [HIF_EVQ_STAT, HIF_IRQ_STAT] s t)
  ∧ (∀ (q : Src) (lo hi : Nat) (s : State), s.serves q = true →
    (lo, hi) ∈ [(SHT_SHOTS_LO, SHT_SHOTS_HI), (GLB_UID_LO, GLB_UID_HI), (HIF_CTX_BASE_LO 0, HIF_CTX_BASE_HI 0),
      (HIF_CTX_BASE_LO 1, HIF_CTX_BASE_HI 1)] → ∃ t u, exec (.loRegisterRead q ⟨BitVec.ofNat 20 lo, 4, .clean⟩) s = .next t
    ∧ t.req q = { s.req q with rdata := s.reg lo, ur := false, hi := s.reg hi } ∧ OnlyChanges [.reqs] s t
    ∧ exec (.loRegisterRead q ⟨BitVec.ofNat 20 hi, 4, .clean⟩) s = .next u
    ∧ u.req q = { s.req q with rdata := (s.req q).hi, ur := false } ∧ OnlyChanges [.reqs] s u)
  ∧ (∀ (q : Src) (s : State), s.serves q = true → ∃ t, exec (.rcFieldRead q ⟨BitVec.ofNat 20 HIF_SPI_STAT, 4, .clean⟩) s = .next t
    ∧ t.req q = { s.req q with rdata := s.reg HIF_SPI_STAT, ur := false } ∧ t.reg HIF_SPI_STAT = 0 ∧ OnlyRegs [HIF_SPI_STAT] s t
    ∧ OnlyChanges [.regs, .reqs] s t)
  ∧ (∀ (q : Src) (c : CrateId) (s : State), s.serves q = true → s.cratePowered c = true →
    ∃ t, exec (.rcFieldRead q ⟨BitVec.ofNat 20 (CHU_ECC c), 4, .clean⟩) s = .next t
      ∧ t.req q = { s.req q with rdata := s.reg (CHU_ECC c), ur := false } ∧ t.reg (CHU_ECC c) = s.reg (CHU_ECC c) &&& 0x000000EF
      ∧ OnlyRegs [CHU_ECC c] s t)
  ∧ (∀ (q : Src) (c : CrateId) (s : State), s.serves q = true → s.cratePowered c = false →
    ∃ t, exec (.rcFieldRead q ⟨BitVec.ofNat 20 (CHU_ECC c), 4, .clean⟩) s = .next t
      ∧ t.req q = { s.req q with rdata := s.reg (CHU_ECC c), ur := false } ∧ OnlyChanges [.reqs] s t)
  ∧ (∀ (q : Src) (s : State), s.serves q = true → s.timingLive = false →
    ∃ t, exec (.rcFieldRead q ⟨BitVec.ofNat 20 SHT_SKIP, 4, .clean⟩) s = .next t
      ∧ t.req q = { s.req q with rdata := s.reg SHT_SKIP, ur := false } ∧ OnlyChanges [.reqs] s t)
  ∧ (∀ (ty k i : Nat) (r : RingId) (d : List Word) (s : State), s.fabricLive = true → s.flag HIF_SPI_CFG_evq_en = true →
    s.host.evq.length < 32 → (s.post ty k i d).host.evq = s.host.evq ++ [s.eventWords ty k i d]
      ∧ (s.postRing ty r d).host.evq = s.host.evq
        ++ [s.eventWords ty 6 (fnIdx (ringOwner r)) (BitVec.ofNat 32 r.toNat :: d)]
      ∧ (s.flag HIF_IRQ_EN_evq = true → (s.post ty k i d).irqLevel = .low ∧ (s.postRing ty r d).irqLevel = .low))
  ∧ (∀ (ty k i : Nat) (r : RingId) (d : List Word) (s t : State), s.fabricLive = true → s.flag HIF_SPI_CFG_evq_en = true →
    32 ≤ s.host.evq.length → t = s.post ty k i d ∨ t = s.postRing ty r d → t.host.evq = s.host.evq
      ∧ t.rd HIF_EVQ_STAT_lost = min (s.rd HIF_EVQ_STAT_lost + 1) (2 ^ HIF_EVQ_STAT_lost.width - 1))
  ∧ (∀ (q : Src) (e : List Word) (l : List (List Word)) (s : State), s.serves q = true → s.host.evq = e :: l →
    s.host.evqRead = 0 → ∃ f : Nat → State, f 0 = s ∧ (f 8).host.evq = l ∧ (f 8).host.evqRead = 0
      ∧ ∀ i, i < 8 → exec (.eventQueueRead q) (f i) = .next (f (i + 1)) ∧ (f i).host.evq = e :: l
        ∧ ((f (i + 1)).req q).rdata = wordAt e i)

/-- SPI frames: a good write frame does what a direct write from SPI does and answers status 0x00, a good read frame what a read
does, with its word; a CRC mismatch, an unknown command byte and an address out of range answer 0x01, 0x03 and 0x04 and write
nothing; a frame that ends early is an abort (R396 to R399).
Rests also on the model's readings and choices in notes/assumptions: 27, 28, 29. -/
def Obligations.SpiFrames : Prop :=
  (∀ (bs : List Byte) (s : State), s.fabricReady = true → bs.head? = some 0x02 → 10 ≤ bs.length →
    crc8 (bs.take 8) = bs.getD 8 0 → spiAddr bs < 0x100000 → ∃ t u, exec (.spiWriteFrame bs) s = .next t
      ∧ exec (.registerWrite .spi (BitVec.ofNat 20 (spiAddr bs)) 4 (BitVec.ofNat 32 (bytesToNat ((bs.drop 4).take 4)))) s = .next u
      ∧ t = u.drive (List.replicate 9 0 ++ [0]))
  ∧ (∀ (bs : List Byte) (s : State), s.fabricReady = true → bs.head? = some 0x02 → 10 ≤ bs.length →
    crc8 (bs.take 8) ≠ bs.getD 8 0 → ∃ t, exec (.spiWriteFrame bs) s = .next t
      ∧ t.rd HIF_SPI_STAT_crc_err = min (s.rd HIF_SPI_STAT_crc_err + 1) 255
      ∧ t.host = { s.host with miso := List.replicate 9 0 ++ [1] } ∧ OnlyRegs [HIF_SPI_STAT] s t ∧ OnlyChanges [.regs, .host] s t)
  ∧ (∀ (bs : List Byte) (s : State), s.fabricReady = true → bs.head? = some 0x02 → 10 ≤ bs.length →
    crc8 (bs.take 8) = bs.getD 8 0 → 0x100000 ≤ spiAddr bs → ∃ t, exec (.spiWriteFrame bs) s = .next t
      ∧ t.host = { s.host with miso := List.replicate 9 0 ++ [4] } ∧ OnlyChanges [.host] s t)
  ∧ (∀ (bs : List Byte) (b : Bool) (e : Ecc) (s : State), s.fabricReady = true → bs.head? ≠ some 0x02 → bs.head? ≠ some 0x03 →
    ∃ t, exec (.spiReadFrame bs ⟨b, e⟩) s = .next t ∧ exec (.spiWriteFrame bs) s = .next t
      ∧ t.host = { s.host with miso := List.replicate 9 0 ++ [3] } ∧ OnlyChanges [.host] s t)
  ∧ (∀ (bs : List Byte) (e : Ecc) (s : State), s.fabricReady = true → bs.head? = some 0x03 → 11 + s.turnaround ≤ bs.length →
    crc8 (bs.take 4) = bs.getD 4 0 → spiAddr bs < 0x100000 → spiAddr bs % 4 = 0 →
    ∃ t u body, exec (.spiReadFrame bs ⟨true, e⟩) s = .next t
      ∧ exec (.rcFieldRead .spi ⟨BitVec.ofNat 20 (spiAddr bs), 4, e⟩) s = .next u
      ∧ body = wordBytesBE (u.req .spi).rdata ++ [0]
      ∧ t = u.drive (List.replicate (5 + s.turnaround) 0 ++ body ++ [crc8 body]))
  ∧ (∀ s : State, s.fabricReady = true → ∃ t, exec .spiFrameAbort s = .next t
    ∧ t.rd HIF_SPI_STAT_abort = min (s.rd HIF_SPI_STAT_abort + 1) 255 ∧ t.host = { s.host with miso := [] }
    ∧ OnlyRegs [HIF_SPI_STAT] s t ∧ OnlyChanges [.regs, .host] s t)
  ∧ (∀ (bs : List Byte) (s : State), s.fabricReady = true → bs.head? = some 0x02 → bs.length < 10 →
    exec (.spiWriteFrame bs) s = exec .spiFrameAbort s)

/-- A pass of the housekeeping table: after its lead time it converts; a settling conversion only counts down; a valid one enters
the sum; the last one writes the mean as the entry's result; a tone check that fails writes its verdict in the result's place, one
that passes leads to the pass; the internal sensor settles with its first conversion; a result read latches its status word; an entry's
excitation flows through its pins, reversed in a pass's second state, and a sensor check's ±10 µA through the sense pins, with the
polarity of log 121 (R447, R452, R453, R456, R457, R462, R464, R471).
Rests also on the model's readings and choices in notes/assumptions: 12, 13, 81, 82, 116, 121. -/
def Obligations.HousekeepingPasses : Prop :=
  (∀ s : State, s.hkReady = true → s.rd HK_STAT_state = 3 → s.hk.dirty = false → s.hk.urgNow = none →
    ∃ t, exec .hkLeadEnd s = .next t ∧ t.rd HK_STAT_state = 4 ∧ t.hk.inConv = true ∧ t.hk.valid = 0 ∧ t.hk.sum1 = 0
      ∧ t.hk.second = false ∧ OnlyRegs [HK_STAT] s t ∧ OnlyChanges [.regs, .hk] s t)
  ∧ (∀ (c : HkConv) (s : State), s.hkConverts = true → s.rd HK_STAT_state = 4 → s.hk.dirty = false → s.hk.urgNow = none →
    s.hk.urgQ = [] → s.hk.restart = false → entRes s.hk.entry = false → 0 < s.hk.settle → (HK_ENT_wall 0).get s.hk.entry = 0 →
    ∃ t, exec (.hkConversionEnd c) s = .next t ∧ t.hk = { s.hk with
      settle := s.hk.settle - 1, cfg := s.reg HK_CFG, limits := s.reg HK_TONE } ∧ OnlyRegs [HK_STAT] s t)
  ∧ (∀ (c : HkConv) (s : State), s.hkConverts = true → s.rd HK_STAT_state = 4 → s.hk.dirty = false → s.hk.urgNow = none →
    s.hk.urgQ = [] → s.hk.restart = false → entRes s.hk.entry = false → s.hk.settle = 0 → s.hk.second = false →
    (HK_ENT_chk 0).get s.hk.entry = 0 → s.hk.valid + 1 < entReps s.hk.entry → ∃ t, exec (.hkConversionEnd c) s = .next t
      ∧ t.hk = { s.hk with sum1 := s.hk.sum1 + hkCode0 c s.hk.entry false, valid := s.hk.valid + 1, cfg := s.reg HK_CFG,
                           limits := s.reg HK_TONE }
      ∧ OnlyRegs [HK_STAT] s t)
  ∧ (∀ (c : HkConv) (s : State), s.hkConverts = true → s.rd HK_STAT_state = 4 → s.hk.dirty = false → s.hk.urgNow = none →
    s.hk.urgQ = [] → s.hk.restart = false → entRes s.hk.entry = false → s.hk.settle = 0 → s.hk.second = false →
    (HK_ENT_chk 0).get s.hk.entry = 0 → s.hk.valid + 1 = entReps s.hk.entry → entSwap s.hk.entry = false →
    entCurve s.hk.entry = 0 → entMode s.hk.entry ≠ 7 → s.hk.cur < 32 → ∃ t, exec (.hkConversionEnd c) s = .next t
      ∧ t.reg (HK_RES_V s.hk.cur) = BitVec.ofInt 32
          (roundDiv (s.hk.sum1 + hkCode0 c s.hk.entry false) (entReps s.hk.entry))
      ∧ OnlyRegs [HK_RES_V s.hk.cur, HK_RES_S s.hk.cur, HK_STAT] s t)
  ∧ (∀ (z v : Nat) (s : State), s.hkReady = true → s.rd HK_STAT_state = 2 → s.hk.dirty = false → s.hk.urgQ = [] →
    s.hk.restart = false → s.hk.cur < 32 → v = s.hkVerdict s.hk.entry z → v ≠ 0 → ∃ t,
    exec (.hkToneCheckEnd z) s = .next t ∧ t.reg (HK_RES_S s.hk.cur) = w32
        (2 ^ 27 * (s.hk.chkPerm && (HK_ENT_chk 0).get s.hk.entry == 1).toNat + 2 ^ 24 * v + s.rd HK_STAT_pass)
      ∧ sparseGet (fun _ => 0) t.hk.verdicts s.hk.cur = v ∧ OnlyRegs [HK_RES_S s.hk.cur, HK_STAT] s t)
  ∧ (∀ (z : Nat) (s : State), s.hkReady = true → s.rd HK_STAT_state = 2 → s.hk.dirty = false → s.hk.urgQ = [] →
    s.hk.urgNow = none → s.hk.restart = false → s.hkVerdict s.hk.entry z = 0 → (HK_ENT_delay 0).get s.hk.entry ≠ 0 → ∃ t,
    exec (.hkToneCheckEnd z) s = .next t ∧ t.rd HK_STAT_state = 3
      ∧ t.hk.exc = (if entRes s.hk.entry then (HK_ENT_exc 0).get s.hk.entry else 0)
      ∧ sparseGet (fun _ => 0) t.hk.verdicts s.hk.cur = 0 ∧ OnlyRegs [HK_STAT] s t)
  ∧ (∀ (x : Int) (s : State), s.fabricLive = true → s.flag GLB_READY_hk = true → ∃ t,
    exec (.itempConversionEnd x) s = .next t ∧ t.flag HK_ITEMP_valid = decide (1 ≤ s.hk.itempRun)
      ∧ t.hk = { s.hk with itempRun := min 2 (s.hk.itempRun + 1) } ∧ OnlyRegs [HK_ITEMP] s t)
  ∧ (∀ (q : Src) (j : HkId) (s : State), s.serves q = true → ∃ t, exec (.hkResultRead q j) s = .next t
    ∧ t.req q = { s.req q with
        rdata := s.reg (HK_RES_V j), ur := false, hkS := (s.req q).hkS.set j.val (s.reg (HK_RES_S j)) }
    ∧ OnlyChanges [.reqs] s t)
  ∧ (∀ (p n : Nat) (s : State), entMode s.hk.entry = 6 → p = (HK_ENT_p 0).get s.hk.entry → n = (HK_ENT_n 0).get s.hk.entry →
    1 ≤ p → p ≠ n + 2 → s.rd HK_STAT_state ≠ 2 → ∀ m,
      s.hkPinCurrent m (p - 1) = (if s.hk.second then -(excLevel s.hk.exc : Int) else excLevel s.hk.exc)
      ∧ s.hkPinCurrent m (n + 1) = -s.hkPinCurrent m (p - 1)
      ∧ (∀ k, k ≠ p - 1 → k ≠ n + 1 → s.hkPinCurrent m k = 0))
  ∧ (∀ (p n m : Nat) (s : State), p = (HK_ENT_p 0).get s.hk.entry → n = (HK_ENT_n 0).get s.hk.entry → p ≠ n →
    s.rd HK_STAT_state = 2 → (s.hkPinCurrent m p = 10 ∨ s.hkPinCurrent m p = -10) ∧ s.hkPinCurrent m n = -s.hkPinCurrent m p
      ∧ (∀ k, k ≠ p → k ≠ n → s.hkPinCurrent m k = 0))

/-- Urgent requests of the bank: a convert request is refused with its status or, in an idle sequencer, runs at once; HK_CNOW does
the same for the SPI port; a readback of the next DAC runs in an idle sequencer, is judged against the code held, and a mismatch is
a detection (R187, R188, R387, R464, R467, R471).
Rests also on the model's readings and choices in notes/assumptions: 79, 80, 82, 123. -/
def Obligations.HousekeepingUrgent : Prop :=
  (∀ (ref : CmdRef) (c : Cmd) (s : State), s.fabricReady = true → s.waits ref 0x08 = some c → s.hkReady = false →
    ∃ t, exec (.hkConvert ref) s = .next t ∧ Completed s t c stNOT_READY 0 0 ∧ OnlyChanges [.host] s t)
  ∧ (∀ (ref : CmdRef) (c : Cmd) (s : State), s.fabricReady = true → s.waits ref 0x08 = some c → s.hkReady = true →
    4 ≤ s.hkFill → ∃ t, exec (.hkConvert ref) s = .next t ∧ Completed s t c stBUSY 0 0 ∧ OnlyChanges [.host] s t)
  ∧ (∀ (ref : CmdRef) (c : Cmd) (k : Nat) (s : State), s.fabricReady = true → s.waits ref 0x08 = some c → s.hkReady = true →
    s.hk.urgQ = [] → k = bitsOf (wordAt c.words 1) 0 5 → entMode (s.reg (HK_ENT k)) ≠ 0 → s.rd HK_STAT_state = 0 →
    ∃ t, exec (.hkConvert ref) s = .next t ∧ t.hk.urgNow = some (.convert k (some ref)) ∧ t.hk.entry = s.reg (HK_ENT k)
      ∧ t.hk.urgQ = [] ∧ t.rd HK_STAT_state = 5 ∧ t.rd HK_STAT_entry = k ∧ t.host.cpls = s.host.cpls
      ∧ OnlyRegs [HK_STAT, HK_URG] s t)
  ∧ (∀ (v : Word) (s : State), s.fabricReady = true → s.hkReady = true → HK_CNOW_go.get v = 1 → HK_CNOW_done.get v = 0 →
    HK_CNOW_aborted.get v = 0 → s.flag HK_CNOW_busy = false → s.hk.urgQ = [] → entMode (s.reg (HK_ENT (HK_CNOW_entry.get v))) ≠ 0 →
    s.rd HK_STAT_state = 0 → ∃ t, exec (.hkCnowGo .spi v) s = .next t ∧ t.flag HK_CNOW_busy = true
      ∧ t.rd HK_CNOW_entry = HK_CNOW_entry.get v ∧ t.hk.urgNow = some (.convert (HK_CNOW_entry.get v) none)
      ∧ OnlyRegs [HK_CNOW, HK_STAT, HK_URG] s t)
  ∧ (∀ (q : Src) (v : Word) (s : State), s.serves q = true → q ≠ .spi → HK_CNOW_go.get v = 1 →
    ∃ t, exec (.hkCnowGo q v) s = .next t ∧ t.hk = s.hk ∧ OnlyRegs refuseRegs s t)
  ∧ (∀ s : State, s.hkReady = true → s.flag CHG_RB_CFG_rb_en = true → s.hk.urgNow = none → s.hk.urgQ = [] →
    s.rd HK_STAT_state = 0 → ∃ t, exec .dacReadbackDue s = .next t ∧ t.hk.urgNow = some (.readback s.hk.rbNext)
      ∧ t.hk.rbCode = s.dacCode s.hk.rbNext ∧ t.hk.rbChanged = false ∧ t.rd HK_STAT_state = 5 ∧ OnlyRegs [HK_STAT, HK_URG] s t)
  ∧ (∀ (d : Int) (n : Nat) (s : State), s.hkReady = true → s.hk.urgNow = some (.readback n) → n < 32 →
    s.rd HK_STAT_state = 5 → s.hk.rbChanged = false → s.hk.urgQ = [] →
    readbackPasses (clampInt (-8388607) 8388607 d) s.hk.rbCode = true → ∃ t, exec (.dacReadbackDone d) s = .next t
      ∧ t.flag (CHG_RB_valid n) = true ∧ t.flag (CHG_RB_mism n) = false
      ∧ t.rd (CHG_RB_meas n) = readbackMeas (clampInt (-8388607) 8388607 d) ∧ t.hk.rbNext = (n + 1) % 40 ∧ t.hk.urgNow = none
      ∧ t.flt.detq = s.flt.detq ∧ OnlyRegs [CHG_RB n, HK_STAT, HK_URG] s t)
  ∧ (∀ (d : Int) (n : Nat) (s : State), s.hkReady = true → s.hk.urgNow = some (.readback n) → n < 32 →
    s.rd HK_STAT_state = 5 → s.hk.rbChanged = false → s.hk.urgQ = [] →
    readbackPasses (clampInt (-8388607) 8388607 d) s.hk.rbCode = false → ∃ t, exec (.dacReadbackDone d) s = .next t
      ∧ t.flag (CHG_RB_mism n) = true ∧ t.flt.detq = s.flt.detq ++ [⟨0x06, 3, n, 0, s.hk.rbCode, elemChg n⟩])

/-- Restarts and resets of the bank: a restart is held while a conversion runs, a second one merges and is counted, one of an
empty table steps the pass; a sync edge of the chosen polarity is a restart; a reset clears the results, drops the requests and
the ready bit until it is done (R464, R469, R470, R472).
Rests also on the model's readings and choices in notes/assumptions: 80, 81, 116. -/
def Obligations.HousekeepingControl : Prop :=
  (∀ (q : Src) (s : State), s.serves q = true → s.hkReady = true → s.hk.restart = false → s.rd HK_STAT_state = 4 →
    ∃ t, exec (.hkRestart q) s = .next t ∧ t.hk = { s.hk with restart := true } ∧ OnlyChanges [.hk] s t)
  ∧ (∀ (q : Src) (s : State), s.serves q = true → s.hkReady = true → s.hk.restart = true → ∃ t,
    exec (.hkRestart q) s = .next t ∧ t.rd HK_ERR_sync_merge = min (s.rd HK_ERR_sync_merge + 1) (2 ^ HK_ERR_sync_merge.width - 1)
      ∧ OnlyRegs [HK_ERR] s t ∧ OnlyChanges [.regs] s t)
  ∧ (∀ (q : Src) (s : State), s.serves q = true → s.hkReady = true → s.hk.restart = false → s.rd HK_STAT_state = 0 →
    (∀ j, j < 32 → entMode (s.reg (HK_ENT j)) = 0) → ∃ t, exec (.hkRestart q) s = .next t
      ∧ t.rd HK_STAT_pass = (s.rd HK_STAT_pass + 1) % 2 ^ HK_STAT_pass.width ∧ t.rd HK_STAT_state = 0 ∧ t.hk.restart = false
      ∧ OnlyRegs [HK_STAT] s t)
  ∧ (∀ (b : Bool) (s : State), s.fabricReady = true → s.hkCfg HK_CFG_sync_en = 1 →
    s.hkCfg HK_CFG_sync_pol = b.toNat →
    exec (.hkSyncEdge b) s = exec (.hkRestart .spi) s)
  ∧ (∀ (b : Bool) (s : State), s.hkCfg HK_CFG_sync_en = 0 ∨ s.hkCfg HK_CFG_sync_pol ≠ b.toNat →
    exec (.hkSyncEdge b) s = .next s)
  ∧ (∀ (q : Src) (s : State), s.serves q = true → ∃ t, exec (.hkReset q) s = .next t ∧ t.flag GLB_READY_hk = false
    ∧ t.hk.resetting = true ∧ t.hk.urgNow = none ∧ t.hk.urgQ = [] ∧ t.reg HK_STAT = 0
    ∧ (∀ j, j < 32 → t.reg (HK_RES_V j) = 0 ∧ t.reg (HK_RES_S j) = 0)
    ∧ (∀ (k : Nat) (ref : CmdRef) (c : Cmd), s.hk.urgNow = some (.convert k (some ref)) → s.hk.urgQ = [] →
        s.cmd? ref = some c → Completed s t c stABORTED 0 0))
  ∧ (∀ s : State, s.fabricLive = true → s.hk.resetting = true → (∀ j, j < 32 → entMode (s.reg (HK_ENT j)) = 0) → ∃ t,
    exec .hkResetDone s = .next t ∧ t.flag GLB_READY_hk = true ∧ t.hk.resetting = false ∧ t.rd HK_STAT_state = 0
      ∧ OnlyRegs (HK_STAT :: readyRegs) s t)

/-- Safety outputs: a readback that does not follow in time faults the output and turns it off; an off-pulse starts where no other
output pulses and waits else; a pulse whose low was seen turns on again, another faults the output; a clear acts while the readback
is low and is refused and counted else; PF0 may not clear (R357, R501 to R505, R525).
Rests also on the model's readings and choices in notes/assumptions: 17, 18, 34, 83, 86, 114. -/
def Obligations.SafetyOutputs : Prop :=
  (∀ (o : OutId) (s : State), s.safetyLive = true → (s.out o).phase = .onChk → s.flag (SAF_OUT_STAT_fault o) = false →
    s.flag (SAF_OUT_STAT_drv o) = true → ∃ t, exec (.outputReadbackTimeout o) s = .next t
      ∧ t.flag (SAF_OUT_STAT_fault o) = true ∧ t.rd (SAF_OUT_STAT_cause o) = 1 ∧ t.flag (SAF_OUT_STAT_dem o) = false
      ∧ t.flag (SAF_OUT_STAT_drv o) = false ∧ (t.out o).phase = .offChk
      ∧ (∃ e, t.flt.log = logRoom s.flt.log ++ [e] ∧ e.cls = 5) ∧ (s.fabricLive = true → t.flag HIF_IRQ_STAT_safety = true)
      ∧ OnlyRegs (SAF_OUT_STAT o :: logRegs) s t)
  ∧ (∀ (o : OutId) (s : State), s.safetyLive = true → s.mayPulse o = true →
    (∀ p, p < 4 → (s.out p).pulsing = false ∧ (p ≠ o.val → (s.out p).pulseDue = false)) →
    ∃ t, exec (.offPulseStart o) s = .next t ∧ (t.out o).phase = .pulse ∧ t.flag (SAF_OUT_STAT_drv o) = false
      ∧ (∀ p, p ≠ o.val → t.out p = s.out p) ∧ OnlyRegs [SAF_OUT_STAT o, HIF_IRQ_STAT] s t)
  ∧ (∀ (o : OutId) (p : Nat) (s : State), s.safetyLive = true → s.mayPulse o = true → p < 4 → p ≠ o.val →
    (s.out p).pulsing = true → ∃ t, exec (.offPulseStart o) s = .next t ∧ t.out o = { s.out o with pulseDue := true }
      ∧ OnlyChanges [.saf] s t)
  ∧ (∀ (o : OutId) (s : State), s.safetyLive = true → (s.out o).phase = .pulse → (s.out o).okLow = true →
    s.flag (SAF_OUT_STAT_dem o) = true → ∃ t, exec (.offPulseEnd o) s = .next t ∧ (t.out o).phase = .ret
      ∧ t.flag (SAF_OUT_STAT_drv o) = true ∧ OnlyRegs [SAF_OUT_STAT o, HIF_IRQ_STAT] s t)
  ∧ (∀ (o : OutId) (s : State), s.safetyLive = true → (s.out o).phase = .pulse → (s.out o).okLow = false →
    s.flag (SAF_OUT_STAT_fault o) = false → ∃ t, exec (.offPulseEnd o) s = .next t ∧ t.flag (SAF_OUT_STAT_fault o) = true
      ∧ t.rd (SAF_OUT_STAT_cause o) = 4 ∧ t.flag (SAF_OUT_STAT_dem o) = false ∧ (t.out o).phase = .offChk)
  ∧ (∀ (q : Src) (outs : BitVec 4) (o : Nat) (s : State), s.serves q = true → q ≠ .pf0 → s.safetyLive = true → o < 4 →
    outs.getLsbD o = true → s.flag (SAF_OUT_STAT_fault o) = true → ∃ t, exec (.clrOut q outs) s = .next t
      ∧ t.flag (SAF_OUT_STAT_fault o) = s.flag (SAF_OUT_STAT_rb o)
      ∧ (s.flag (SAF_OUT_STAT_rb o) = true → t.rd (SAF_OUT_STAT_refused o)
          = min (s.rd (SAF_OUT_STAT_refused o) + 1) (2 ^ (SAF_OUT_STAT_refused o).width - 1)))
  ∧ (∀ (outs : BitVec 4) (s : State), s.serves .pf0 = true → ∃ t u, exec (.clrOut .pf0 outs) s = .next t
    ∧ exec (.clrLen .pf0) s = .next u ∧ OnlyRegs refuseRegs s t ∧ OnlyRegs refuseRegs s u ∧ t.saf = s.saf ∧ u.saf = s.saf)

/-- The laser enable: an opened gate channel removes LEN_DRV without a clock, and one that fell within its own pulse does at the pulse's
end; the gate closes with the last of its channels; a
readback timeout is a fault that removes the demand; proof hours count; the fault clears while the readback is low (R506, R508).
Rests also on the model's readings and choices in notes/assumptions: 17, 18, 34, 64, 87. -/
def Obligations.LaserEnable : Prop :=
  (∀ (i : PairId) (b : Bool) (s : State), s.running = true → s.ownLow i b = false → bitOf (s.safRd SAF_LEN_CFG_gate) i = true →
    ∃ t, exec (.estopGateOpen i b) s = .next t ∧ t.flag SAF_STAT_len_gate = false ∧ t.flag SAF_STAT_len_drv = false
      ∧ OnlyRegs (SAF_STAT :: eventRegs) s t)
  ∧ (∀ (i : PairId) (b : Bool) (s : State), s.running = true → ∃ t, exec (.estopGateOpen i b) s = .next t
    ∧ (if b then t.saf.gateB else t.saf.gateA).getLsbD i = false ∧ t.flag SAF_STAT_len_gate = t.gateOn
    ∧ t.flag SAF_STAT_len_drv = (s.flag SAF_STAT_len_dem && t.gateOn) ∧ OnlyRegs (SAF_STAT :: eventRegs) s t)
  ∧ (∀ (n : StoId) (i : PairId) (s : State), s.safetyLive = true → (s.sto n).low = true → s.safRd SAF_STO_CFG_pw ≤ (s.sto n).n →
    bitOf (s.safRd SAF_LEN_CFG_gate) i = true → s.srcOf i false = some n.val → s.saf.gateA.getLsbD i = false →
    ∃ t, exec (.testPulse n false) s = .next t ∧ t.flag SAF_STAT_len_gate = false ∧ t.flag SAF_STAT_len_drv = false)
  ∧ (∀ (i : PairId) (b : Bool) (s : State), s.running = true → ∃ t, exec (.estopGateClose i b) s = .next t
    ∧ t.flag SAF_STAT_len_gate = t.gateOn ∧ t.flag SAF_STAT_len_drv = (s.flag SAF_STAT_len_dem && t.gateOn)
    ∧ (if b then t.saf.gateB else t.saf.gateA).getLsbD i = true ∧ OnlyRegs (SAF_STAT :: eventRegs) s t)
  ∧ (∀ s : State, s.safetyLive = true → s.saf.lenAwait = true → s.flag SAF_STAT_len_fault = false → ∃ t,
    exec .lenReadbackTimeout s = .next t ∧ t.flag SAF_STAT_len_fault = true ∧ t.flag SAF_STAT_len_dem = false
      ∧ t.flag SAF_STAT_len_drv = false ∧ (∃ e, t.flt.log = logRoom s.flt.log ++ [e] ∧ e.cls = 5)
      ∧ OnlyRegs (SAF_STAT :: logRegs) s t)
  ∧ (∀ s : State, s.safetyLive = true → s.flag SAF_STAT_len_drv = true → s.safFlag SAF_LEN_CFG_proof_h = true → ∃ t,
    exec .lenProof s = .next t ∧ t.saf = { s.saf with lenHours := s.saf.lenHours + s.safRd SAF_LEN_CFG_proof_h }
      ∧ OnlyRegs eventRegs s t)
  ∧ (∀ (q : Src) (s : State), s.serves q = true → q ≠ .pf0 → s.safetyLive = true → s.flag SAF_STAT_len_fault = true →
    s.flag SAF_STAT_len_rb = false → ∃ t, exec (.clrLen q) s = .next t ∧ t.flag SAF_STAT_len_fault = false
      ∧ OnlyRegs (SAF_STAT :: eventRegs) s t)
  ∧ (∀ (q : Src) (s : State), s.serves q = true → q ≠ .pf0 → s.flag SAF_STAT_len_rb = true → exec (.clrLen q) s = .next s)

/-- Safety inputs: a sample shows every pin and its readbacks; a tick in which a granting pair has a channel open takes its grant,
the demand and the drive of every output that maps it; every tick drives by the demands it has formed; outside RUN every tick turns
everything off; a start-up done, a press of
the reset button and a discrepancy move their pair; test pulses and the curtain's deadlines act on their channels (R488, R489,
R492 to R500, R506).
Rests also on the model's readings and choices in notes/assumptions: 17, 18, 34, 83, 85, 87, 115. -/
def Obligations.SafetyInputs : Prop :=
  (∀ (p : SafPins) (s : State), s.safetyLive = true → ∃ t, exec (.safetySample p) s = .next t ∧ t.saf.pins = p
    ∧ (∀ i, i < 8 → (t.pair i).a.raw = s.closedPin i false (p.sinA.getLsbD i)
        ∧ (t.pair i).b.raw = s.closedPin i true (p.sinB.getLsbD i))
    ∧ (∀ o, o < 4 → t.flag (SAF_OUT_STAT_rb o) = p.srb.getLsbD o) ∧ t.flag SAF_STAT_len_rb = p.lenRb)
  ∧ (∀ (i : PairId) (s : State), s.safetyLive = true → s.pairType i ≠ 0 → s.rd (SAF_PAIR_STAT_state i) = 3 →
    (s.pair i).both = false → (s.pair i).dis = none → (s.pair i).a.missed = false → (s.pair i).b.missed = false →
    (s.pair i).a.crossed = false → (s.pair i).b.crossed = false → ∃ t, exec .safetyTick s = .next t
      ∧ t.rd (SAF_PAIR_STAT_state i) = 1 ∧ t.rd SAF_TICK_tick = (s.rd SAF_TICK_tick + 1) % 2 ^ SAF_TICK_tick.width
      ∧ (∀ o, o < 4 → bitOf (s.safRd (SAF_OUT_MAP_pairs o)) i = true →
          t.flag (SAF_OUT_STAT_dem o) = false ∧ t.flag (SAF_OUT_STAT_drv o) = false)
      ∧ (bitOf (s.safRd SAF_LEN_CFG_len_map) i = true → t.flag SAF_STAT_len_dem = false ∧ t.flag SAF_STAT_len_drv = false))
  ∧ (∀ (i : PairId) (s : State), s.safetyLive = true → s.pairType i ≠ 0 → ∃ t, exec .safetyTick s = .next t
    ∧ t.flag (SAF_PAIR_STAT_a i) = (s.pair i).a.level ∧ t.flag (SAF_PAIR_STAT_b i) = (s.pair i).b.level)
  ∧ (∀ s : State, s.safetyLive = true → s.safRun = false → ∃ t, exec .safetyTick s = .next t
    ∧ (∀ o, o < 4 → t.flag (SAF_OUT_STAT_dem o) = false ∧ t.flag (SAF_OUT_STAT_drv o) = false)
    ∧ t.flag SAF_STAT_len_dem = false ∧ t.flag SAF_STAT_len_drv = false)
  ∧ (∀ (i : PairId) (s : State), s.safetyLive = true → s.pairType i ≠ 0 → s.rd (SAF_PAIR_STAT_state i) = 0 →
    (s.pair i).both = true → s.cycleMet i = true → ∃ t, exec (.pairStartupDone i) s = .next t
      ∧ t.rd (SAF_PAIR_STAT_state i) = (if s.safRd (SAF_IN_CFG_rst i) = 0 then 3 else 2)
      ∧ OnlyRegs [SAF_PAIR_STAT i] s t ∧ OnlyChanges [.regs] s t)
  ∧ (∀ (i : PairId) (n : Nat) (s : State), s.safetyLive = true → s.pairType i ≠ 0 →
    (s.pair i).dis = some n → n < 10 * s.safRd (SAF_IN_TIM_disc i) → ∃ t, exec (.discrepancyTimeout i) s = .next t
      ∧ t.rd (SAF_PAIR_STAT_state i) = 4 ∧ t.rd (SAF_PAIR_STAT_cause i) = 1 ∧ OnlyRegs (SAF_PAIR_STAT i :: logRegs) s t)
  ∧ (∀ (i : PairId) (s : State), s.safetyLive = true → s.pairType i ≠ 0 → s.safRd (SAF_IN_CFG_rst i) = 1 →
    s.rd (SAF_PAIR_STAT_state i) = 2 → (s.pair i).both = true → ∃ t, exec .srstRelease s = .next t
      ∧ t.rd (SAF_PAIR_STAT_state i) = 3
      ∧ (∀ j, j < 8 → s.rd (SAF_PAIR_STAT_state j) ≠ 2 → t.rd (SAF_PAIR_STAT_state j) = s.rd (SAF_PAIR_STAT_state j)))
  ∧ (∀ (q : Src) (m : BitVec 8) (s : State), s.serves q = true → q ≠ .pf0 → s.safetyLive = true → ∃ t,
    exec (.safPairReset q m) s = .next t ∧ t.saf = { s.saf with cmdReset := s.saf.cmdReset ||| m } ∧ OnlyChanges [.saf] s t)
  ∧ (∀ (n : StoId) (s : State), s.safetyLive = true → bitOf (s.safRd SAF_STO_CFG_en) n = true → 0 < s.safRd SAF_STO_CFG_per →
    s.saf.frame % (100 * s.safRd SAF_STO_CFG_per) = n * (100 * s.safRd SAF_STO_CFG_per / 4) →
    (∀ m, m < 4 → (s.sto m).low = false) → ∃ t, exec (.testPulse n true) s = .next t ∧ t.sto n = ⟨true, 0⟩
      ∧ OnlyRegs (SAF_STAT :: eventRegs) s t)
  ∧ (∀ (n m : StoId) (s : State), (s.sto m).low = true → exec (.testPulse n true) s = .next s)
  ∧ (∀ (n : StoId) (s : State), s.safetyLive = true → (s.sto n).low = true →
    s.safRd SAF_STO_CFG_pw ≤ (s.sto n).n → ∃ t, exec (.testPulse n false) s = .next t
    ∧ t.sto n = ⟨false, 0⟩ ∧ (∀ i, i < 8 → s.srcOf i false = some n.val → (s.pair i).a.level = true →
        (s.pair i).a.raw = true → (t.pair i).a.missed = true))
  ∧ (∀ (i : PairId) (s : State), s.safetyLive = true → s.pairType i = 3 → (s.pair i).a.raw = false → (s.pair i).b.raw = true →
    ∃ t, exec (.curtainIgnoreEnd i false) s = .next t ∧ (t.pair i).a.level = false ∧ (t.pair i).b = (s.pair i).b
      ∧ OnlyChanges [.saf] s t)
  ∧ (∀ (i : PairId) (s : State), s.safetyLive = true → s.expectsTp i = true → (s.pair i).b.level = true → ∃ t,
    exec (.curtainPulseTimeout i true) s = .next t ∧ (t.pair i).b = { (s.pair i).b with missed := true, sinceTp := 0 }
      ∧ (t.pair i).a = (s.pair i).a ∧ OnlyChanges [.saf] s t)
  ∧ (∀ s : State, s.safetyLive = true → ∃ t, exec .safetyTick s = .next t ∧ (∀ o, o < 4 → t.flag (SAF_OUT_STAT_dem o) = false →
    t.flag (SAF_OUT_STAT_drv o) = false ∧ (t.out o).pulseDue = false
      ∧ (s.flag (SAF_OUT_STAT_drv o) = true → (t.out o).phase = .offChk)))
  ∧ (∀ (i : PairId) (p : SafPins) (limit : Nat) (s : State), s.safetyLive = true → s.expectsTp i = true →
    (s.pair i).a.level = true → s.closedPin i false (p.sinA.getLsbD i) = true → limit = 1000 * s.safRd (SAF_IN_CFG_tp_max i) →
    ∃ t, exec (.safetySample p) s = .next t ∧ (t.pair i).a.level = true
      ∧ (limit ≤ (s.pair i).a.sinceTp + 1 → (t.pair i).a.missed = true ∧ (t.pair i).a.sinceTp = 0)
      ∧ ((s.pair i).a.sinceTp + 1 < limit → (t.pair i).a.missed = (s.pair i).a.missed
          ∧ (t.pair i).a.sinceTp = (if 0 < (s.pair i).a.lowRun ∧ (s.pair i).a.lowRun < s.safRd (SAF_IN_TIM_ign i) then 0
              else (s.pair i).a.sinceTp + 1)))

/-- Zones: the summary of the oldest ended sweep goes into its FIFO; one that arrives in order, with a good CRC and a check
channel that agrees, leaves the FIFO with its returns and gives every enabled zone its verdict and its hits; one with a bad CRC or a
check channel that differs is counted and makes every enabled zone hold a data fault; a sweep timeout fails every enabled zone; a
clear takes the latched causes (R511 to R514, R516, R550).
Rests also on the model's readings and choices in notes/assumptions: 17, 18, 34, 89, 90. -/
def Obligations.SafetyZones : Prop :=
  (∀ (q : Nat) (l : List Nat) (s : State), s.fabricReady = true → s.saf.closing = q :: l → s.saf.sumFifo.length < 4 → ∃ t m,
    exec .zoneSummaryClose s = .next t ∧ t.saf.closing = l ∧ t.saf.sumFifo = s.saf.sumFifo ++ [m] ∧ m.seq = q
      ∧ m.zones = zoneNos.map (fun z => s.zoneSum q m.chk z) ∧ t.saf.chkFab = m.chk ∧ OnlyChanges [.saf] s t)
  ∧ (∀ s : State, s.saf.closing = [] → exec .zoneSummaryClose s = .next s)
  ∧ (∀ (m : Summary) (l : List Summary) (s : State), s.safetyLive = true → s.saf.sumFifo = m :: l → ∃ t,
    exec (.zoneSummaryArrival false) s = .next t ∧ t.saf.sumFifo = l ∧ t.saf.lastSeq = some m.seq ∧ t.saf.arrived = true
      ∧ t.rd SAF_DATA_STAT_crc_ct = min (s.rd SAF_DATA_STAT_crc_ct + 1) (2 ^ SAF_DATA_STAT_crc_ct.width - 1)
      ∧ (∀ z, z < 16 → s.zoneEn z = true → (t.zone z).dataFault = true) ∧ (∃ e, t.flt.log = logRoom s.flt.log ++ [e] ∧ e.cls = 5)
      ∧ OnlyRegs (SAF_DATA_STAT :: logRegs) s t)
  ∧ (∀ (m : Summary) (l : List Summary) (s : State), s.safetyLive = true → s.saf.sumFifo = m :: l →
    s.saf.lastSeq.all (fun x => m.seq == (x + 1) % 256) = true → s.checkBad m (s.pathBFor m) = false → ∃ t,
    exec (.zoneSummaryArrival true) s = .next t ∧ t.saf.sumFifo = l ∧ t.saf.lastSeq = some m.seq ∧ t.saf.arrived = true
      ∧ t.saf.chkLast = m.chk ∧ t.saf.pathB = s.saf.pathB.drop (m.skip + m.own)
      ∧ (∀ z x, z < 16 → s.zoneEn z = true → m.zones[z]? = some x →
          t.zone z = { (s.zone z).count (s.verdict z x) (s.rd (SAF_ZN_STAT_state z) == 3) with last := some x }
          ∧ t.rd (SAF_ZN_STAT_hits z) = min x.hits 65535)
      ∧ (∀ z, s.zoneEn z = false → t.zone z = s.zone z) ∧ OnlyRegs (zoneNos.map SAF_ZN_STAT) s t ∧ OnlyChanges [.regs, .saf] s t)
  ∧ (∀ (m : Summary) (l : List Summary) (s : State), s.safetyLive = true → s.saf.sumFifo = m :: l →
    s.saf.lastSeq.all (fun x => m.seq == (x + 1) % 256) = true → s.checkBad m (s.pathBFor m) = true → ∃ t,
    exec (.zoneSummaryArrival true) s = .next t ∧ t.saf.sumFifo = l ∧ (∀ z, z < 16 → s.zoneEn z = true → (t.zone z).dataFault = true)
      ∧ t.rd SAF_DATA_STAT_chk_ct = min (s.rd SAF_DATA_STAT_chk_ct + 1) (2 ^ SAF_DATA_STAT_chk_ct.width - 1)
      ∧ t.flt.detq = s.flt.detq ++ [⟨0x08, 7, 0, 0, m.chk.getD 0, elemZones⟩])
  ∧ (∀ (b : Bool) (s : State), s.safetyLive = false ∨ s.saf.sumFifo = [] → exec (.zoneSummaryArrival b) s = .next s)
  ∧ (∀ s : State, s.safetyLive = true → s.flag SAF_STAT_cfg_valid = true → s.saf.timeout = false → ∃ t, exec .sweepTimeout s = .next t
    ∧ t.saf.timeout = true ∧ (∀ z, z < 16 → s.zoneEn z = true → t.rd (SAF_ZN_STAT_state z) = 3 ∧ t.rd (SAF_ZN_STAT_cause z) = 1)
    ∧ t.rd SAF_DATA_STAT_tmo_ct = min (s.rd SAF_DATA_STAT_tmo_ct + 1) (2 ^ SAF_DATA_STAT_tmo_ct.width - 1))
  ∧ (∀ (q : Src) (s : State), s.serves q = true → q ≠ .pf0 → s.safetyLive = true → ∃ t, exec (.clrZone q) s = .next t
    ∧ (∀ z, z < 16 → (t.zone z).dataFault = false ∧ (s.zoneEn z = true → t.flag (SAF_ZN_STAT_latched z) = false)))

/-- The safety configuration: the two keys from one requester open CONFIG with everything off, unless a sealed set is burned; a commit whose CRC fails stays in
CONFIG, a good one is active and runs; an abort or a timeout goes back; the keys of the burn, its end; an internal fault turns
everything off for good; a report is numbered (R518, R520 to R524, R528).
Rests also on the model's readings and choices in notes/assumptions: 34, 83, 84, 88, 91, 114. -/
def Obligations.SafetyConfiguration : Prop :=
  (∀ (q : Src) (v : Word) (s : State), s.serves q = true → q ≠ .pf0 → s.safetyLive = true → SAF_UNLOCK_key.get v = 0x5AF1 → ∃ t,
    exec (.safUnlockKey q v) s = .next t ∧ t.saf = { s.saf with keyBy := some q } ∧ OnlyChanges [.saf] s t)
  ∧ (∀ (q : Src) (v : Word) (s : State), s.serves q = true → q ≠ .pf0 → s.safetyLive = true → SAF_UNLOCK_key.get v = 0xF15A →
    s.saf.keyBy = some q → s.sealed = false → s.rd SAF_STAT_state = 1 ∨ s.rd SAF_STAT_state = 2 → ∃ t,
    exec (.safUnlockKey q v) s = .next t ∧ t.rd SAF_STAT_state = 3 ∧ t.rd SAF_UNLOCK_owner = (if q = .spi then 2 else 1)
      ∧ t.saf.shadow = s.saf.active ∧ t.saf.active = s.saf.active
      ∧ (∀ o, o < 4 → t.flag (SAF_OUT_STAT_dem o) = false ∧ t.flag (SAF_OUT_STAT_drv o) = false)
      ∧ t.flag SAF_STAT_len_drv = false)
  ∧ (∀ (q : Src) (v : Word) (p : List (Nat × Word) × Word) (s : State), s.serves q = true → q ≠ .pf0 → s.safetyLive = true →
    SAF_UNLOCK_key.get v = 0xF15A → s.saf.keyBy = some q → s.otp.saf = some p →
    SAF_GLB_seal.get (sparseGet resetWord p.1 SAF_GLB) ≠ 0 → ∃ t, exec (.safUnlockKey q v) s = .next t
      ∧ t.rd SAF_UNLOCK_cstat = 4 ∧ t.rd SAF_STAT_state = s.rd SAF_STAT_state ∧ t.saf = { s.saf with keyBy := none }
      ∧ OnlyRegs (SAF_UNLOCK :: eventRegs) s t)
  ∧ (∀ s : State, ∃ t, exec .safUnlockKeyTimeout s = .next t ∧ t.saf = { s.saf with keyBy := none } ∧ OnlyChanges [.saf] s t)
  ∧ (∀ (q : Src) (s : State), s.serves q = true → q ≠ .pf0 → s.safetyLive = true → s.rd SAF_STAT_state = 3 → ∃ t,
    exec (.safUnlockAbort q) s = .next t ∧ exec .configTimeout s = .next t ∧ t.rd SAF_UNLOCK_owner = 0
      ∧ t.rd SAF_STAT_state = (if s.flag SAF_STAT_cfg_valid then 2 else 1) ∧ t.saf.active = s.saf.active
      ∧ (∀ i, i < 8 → t.rd (SAF_PAIR_STAT_state i) = 0))
  ∧ (∀ (q : Src) (crc : Word) (s : State), s.serves q = true → q ≠ .pf0 → s.safetyLive = true → s.rd SAF_STAT_state = 3 →
    setCrc s.saf.shadow ≠ crc → ∃ t, exec (.safCommit q crc) s = .next t ∧ t.rd SAF_UNLOCK_cstat = 2 ∧ t.saf = s.saf
      ∧ t.rd SAF_STAT_state = 3 ∧ OnlyRegs (SAF_UNLOCK :: eventRegs) s t)
  ∧ (∀ (q : Src) (crc : Word) (s : State), s.serves q = true → q ≠ .pf0 → s.safetyLive = true → s.rd SAF_STAT_state = 3 →
    setCrc s.saf.shadow = crc → (s.modSaf (fun x => { x with active := x.shadow })).setConsistent = true → ∃ t,
    exec (.safCommit q crc) s = .next t ∧ t.rd SAF_UNLOCK_cstat = 1 ∧ t.saf.active = s.saf.shadow ∧ t.reg SAF_CRC = crc
      ∧ t.rd SAF_STAT_state = 2 ∧ t.flag SAF_STAT_cfg_valid = true ∧ t.flag SAF_STAT_cfg_src = true)
  ∧ (∀ (q : Src) (s : State), s.serves q = true → q ≠ .pf0 → s.safetyLive = true → s.rd SAF_CTL_otp_state = 0 →
    s.rd SAF_STAT_state = 2 → s.saf.burn = none → ∃ t, exec (.safOtpKey q 0x5C) s = .next t
      ∧ t.saf = { s.saf with otpBy := some q } ∧ OnlyChanges [.saf] s t)
  ∧ (∀ (q : Src) (s : State), s.serves q = true → q ≠ .pf0 → s.safetyLive = true → s.rd SAF_CTL_otp_state = 0 →
    s.rd SAF_STAT_state = 2 → s.saf.burn = none → s.saf.otpBy = some q → ∃ t, exec (.safOtpKey q 0xC5) s = .next t
      ∧ t.saf = { s.saf with otpBy := none, burn := some (s.activeWords, s.reg SAF_CRC) } ∧ OnlyChanges [.saf] s t)
  ∧ (∀ s : State, ∃ t, exec .safOtpKeyTimeout s = .next t ∧ t.saf = { s.saf with otpBy := none } ∧ OnlyChanges [.saf] s t)
  ∧ (∀ (p : List (Nat × Word) × Word) (s : State), s.saf.burn = some p → ∃ t, exec .safOtpBurnDone s = .next t
    ∧ t.otp = { s.otp with saf := some p } ∧ t.saf = { s.saf with burn := none } ∧ t.rd SAF_CTL_otp_state = 1
    ∧ OnlyRegs [SAF_CTL] s t)
  ∧ (∀ (d : Diagnostic) (s : State), s.running = true → s.rd SAF_STAT_state ≠ 4 → ∃ t,
    exec (.safetyDiagnostic d false) s = .next t ∧ (d = .supply → t.flag CLK_RST_CAUSE_supply = true) ∧ t.rd SAF_STAT_state = 4 ∧ t.rd SAF_STAT_ifault = Diagnostic.ifault d
      ∧ (∀ o, o < 4 → t.flag (SAF_OUT_STAT_dem o) = false ∧ t.flag (SAF_OUT_STAT_drv o) = false)
      ∧ t.flag SAF_STAT_len_drv = false)
  ∧ (∀ (d : Diagnostic) (s : State), exec (.safetyDiagnostic d true) s = .next s)
  ∧ (∀ s : State, s.safetyLive = true → s.safFlag SAF_GLB_rep_en = true → s.fabricLive = true → s.saf.reps = [] →
    s.host.recs.length < 1024 → ∃ t, exec .safetyReport s = .next t ∧ t.saf = { s.saf with repCount := s.saf.repCount + 1 }
      ∧ t.host.recs = s.host.recs ++ [⟨.pf1, s.safRing, 6,s.reportWords 1, none, 0, false⟩] ∧ OnlyChanges [.saf, .host] s t)

/-- The fault manager: the least detection that waits is taken; it is a strike, logged with class 0, and the last two strikes of its
kind and element are held; it makes its fault permanent, counted and logged with class 1, where it is a run of 8, falls in the
element's probation, or is a third strike no later than the first held one plus FLT_CFG.win_s seconds: then the element's strikes of
every kind are cleared and the effect of its kind follows; a detection of an element that is retired, FAILED or removed is ignored;
the log is cleared, selected and read (R555 to R559, R571 to R573, R582).
Rests also on the model's readings and choices in notes/assumptions: 17, 92, 93. -/
def Obligations.FaultManager : Prop :=
  (∀ (d : Detect) (held : List Nat) (now : Nat) (s : State), s.fabricLive = true → nextDetect s.flt.detq = some d →
    s.elemOut d = false → held = sparseGet (fun _ => []) s.flt.strikes ((if 3 ≤ d.code ∧ d.code ≤ 8 then 3 else d.code) * 2 ^ 20 + d.elem) → now = s.clk.ftick / 100000 →
    d.code ≠ 0x02 → (s.rd FLT_CFG_prob = 0 ∨ sparseGet (fun _ => 0) s.flt.probation d.elem = 0
      ∨ sparseGet (fun _ => 0) s.flt.probation d.elem + s.rd FLT_CFG_prob * 100000000 < s.clk.ftick + 1) →
    (held.length = 2 → held.getD 0 0 + s.rd FLT_CFG_win_s * 1000 < now) → held.length ≤ 2 → ∃ t e, exec .strike s = .next t
      ∧ t.flt.detq = eraseFirst (fun x => decide (x = d)) s.flt.detq
      ∧ t.rd FLT_STAT_strike_ct = min (s.rd FLT_STAT_strike_ct + 1) (2 ^ FLT_STAT_strike_ct.width - 1)
      ∧ t.rd FLT_STAT_perm_ct = s.rd FLT_STAT_perm_ct ∧ t.flt.changes = s.flt.changes
      ∧ sparseGet (fun _ => []) t.flt.strikes ((if 3 ≤ d.code ∧ d.code ≤ 8 then 3 else d.code) * 2 ^ 20 + d.elem)
          = (if held.length = 2 then held.tail else held) ++ [now]
      ∧ t.flt.log = logRoom s.flt.log ++ [e] ∧ (d.code < 256 → e.w0.toNat % 256 = d.code ∧ e.cls = 0)
      ∧ e.w2.toNat % 16 = min (held.length + 1) 2 ∧ OnlyRegs (FLT_STAT :: logRegs) s t)
  ∧ (∀ (d : Detect) (held : List Nat) (s : State), s.fabricLive = true → nextDetect s.flt.detq = some d → s.elemOut d = false →
    held = sparseGet (fun _ => []) s.flt.strikes ((if 3 ≤ d.code ∧ d.code ≤ 8 then 3 else d.code) * 2 ^ 20 + d.elem) → held.length ≤ 2 → d.elem < 2 ^ 20 →
    d.code = 0x02 ∨ (s.rd FLT_CFG_prob ≠ 0 ∧ sparseGet (fun _ => 0) s.flt.probation d.elem ≠ 0
        ∧ s.clk.ftick + 1 ≤ sparseGet (fun _ => 0) s.flt.probation d.elem + s.rd FLT_CFG_prob * 100000000)
      ∨ (held.length = 2 ∧ s.clk.ftick / 100000 ≤ held.getD 0 0 + s.rd FLT_CFG_win_s * 1000) →
    ∃ t e, exec .strike s = .next t
      ∧ t.rd FLT_STAT_perm_ct = min (s.rd FLT_STAT_perm_ct + 1) (2 ^ FLT_STAT_perm_ct.width - 1)
      ∧ t.rd FLT_STAT_strike_ct = min (s.rd FLT_STAT_strike_ct + 1) (2 ^ FLT_STAT_strike_ct.width - 1)
      ∧ t.flt.detq = eraseFirst (fun x => decide (x = d)) s.flt.detq
      ∧ t.flt.log = logRoom s.flt.log ++ [e] ∧ (d.code < 256 → e.w0.toNat % 256 = d.code ∧ e.cls = 1)
      ∧ e.w2.toNat % 16 = held.length + 1
      ∧ (∀ n, n % 2 ^ 20 = d.elem → sparseGet (fun _ => []) t.flt.strikes n = [])
      ∧ (d.code = 0x01 ∨ d.code = 0x02 → t.flt.changes = s.flt.changes ++ [.retire d.index d.sub 0])
      ∧ (d.code = 0x09 → d.kind = 2 → t.flt.changes = s.flt.changes ++ [.remove (d.index / 16) (d.index % 16) 3])
      ∧ (d.code = 0x0B → d.kind = 2 → t.flt.changes = s.flt.changes ++ [.ambient d.index])
      ∧ (d.code = 0x03 → d.sub ∈ (t.crate d.index).tieReq ∧ t.flt.changes = s.flt.changes)
      ∧ (d.code = 0x05 ∨ d.code = 0x06 ∨ d.code = 0x0C → d.kind = 3 → d.index < 32 → t.chgState d.index = 5
          ∧ (t.chg d.index).gate = false ∧ t.flt.changes = s.flt.changes)
      ∧ (d.code = 0x06 ∨ d.code = 0x0C → d.kind = 4 → d.index < 16 → t.rd (WMN_STAT_state d.index) = 3 ∧ t.flt.changes = s.flt.changes)
      ∧ (d.code = 0x07 → d.kind ≠ 3 → d.kind ≠ 4 → t.hk = { s.hk with chkPerm := true } ∧ t.flt.changes = s.flt.changes
          ∧ OnlyChanges [.regs, .host, .flt, .hk] s t)
      ∧ (d.code = 0x04 ∨ d.code = 0x08 ∨ d.code = 0x0D → d.kind ≠ 3 → d.kind ≠ 4 → t.flt.changes = s.flt.changes
          ∧ OnlyChanges [.regs, .host, .flt] s t))
  ∧ (∀ (l : List Detect) (d : Detect), nextDetect l = some d →
    (d ∈ l ∧ ∀ x, x ∈ l → d.code < x.code ∨ (d.code = x.code ∧ d.elem ≤ x.elem)))
  ∧ (∀ (d : Detect) (s : State), (d.code = 0x01 ∨ d.code = 0x02 → (s.elemOut d = true ↔ s.role d.index d.sub = 6))
    ∧ (d.code = 0x03 → (s.elemOut d = true ↔ s.role d.index d.sub = 6 ∨ s.role d.index 16 = 6))
    ∧ (d.code = 0x05 → d.kind = 3 → (s.elemOut d = true ↔ s.chgState d.index = 5))
    ∧ (d.code = 0x0C → d.kind = 4 → (s.elemOut d = true ↔ s.rd (WMN_STAT_state d.index) = 3))
    ∧ (d.code = 0x09 → d.kind = 2 → (s.elemOut d = true ↔ s.removed (d.index / 16) (d.index % 16) = true))
    ∧ (d.code = 0x0B → d.kind = 2 → (s.elemOut d = true ↔ (s.chan (d.index / 16) (d.index % 16)).ambFailed = true)))
  ∧ (∀ (d : Detect) (s : State), s.fabricLive = true → nextDetect s.flt.detq = some d → s.elemOut d = true → ∃ t,
    exec .strike s = .next t ∧ t.flt = { s.flt with detq := eraseFirst (fun x => decide (x = d)) s.flt.detq }
      ∧ OnlyChanges [.flt] s t)
  ∧ (∀ s : State, s.flt.detq = [] → exec .strike s = .next s)
  ∧ (∀ (q : Src) (v : Word) (s : State), s.serves q = true → q ≠ .pf0 → FLT_CTL_clear.get v = 1 → ∃ t,
    exec (.fltLogClear q v) s = .next t ∧ t.flt = { s.flt with log := [] } ∧ t.reg FLT_LOG_TOTAL = 0
      ∧ t.rd FLT_LOG_STAT_count = 0 ∧ t.rd FLT_LOG_STAT_boot = s.rd FLT_LOG_STAT_boot
      ∧ OnlyRegs [FLT_LOG_STAT, FLT_LOG_TOTAL] s t)
  ∧ (∀ (v : Word) (s : State), s.serves .pf0 = true → ∃ t, exec (.fltLogClear .pf0 v) s = .next t ∧ OnlyRegs refuseRegs s t)
  ∧ (∀ (q : Src) (v : Word) (s : State), s.serves q = true → ∃ t, exec (.fltLogSelect q v) s = .next t
    ∧ t.req q = { s.req q with logSel := FLT_LOG_SEL_idx.get v } ∧ OnlyChanges [.reqs] s t)
  ∧ (∀ (q : Src) (s : State), s.serves q = true → ∃ t, exec (.fltLogRead q) s = .next t
    ∧ t.req q = { s.req q with log := s.selectedLog q, rdata := wordAt (s.selectedLog q) 0, ur := false } ∧ OnlyChanges [.reqs] s t)

/-- The returns of a channel as records: the range and the intensity of a return by the formulas of R281 and R282, in 0.1 mm and in
8 fC, and the four words of its record by the table of R419, with the flags in the order of R420. The range goes to zone evaluation too
(R287). -/
def Obligations.ReturnValues : Prop :=
  ∀ (c : CrateId) (k : ChanId) (x : Bool) (b : Buf) (d : Descr) (m : CloseMark) (y : Cand) (i range intensity flags : Nat) (ofs : Int) (a : Acc)
    (s : State), s.churnLive = true → (s.chan c k).bufIn .extract = some x → b = (s.chan c k).buf x → b.dwell = some d →
    b.mark = some m → s.host.recs.length + (s.extract c k x b d m).returns.length ≤ 1024 →
    (s.extract c k x b d m).returns[i]? = some y → ofs = d.rdInt (CHU_OFS_ofs c k) →
    (range : Int) = max 0 ((2 * ((y.tau - ofs) * 1534937) + 1048576) / 2097152) →
    a = (match y.win with | some n => b.acc (16 + n) | none => b.acc (y.b / 32)) →
    intensity = (if 0 < a.overs then 4095 else if a.usable = 0 then 0
      else max 1 (min 4095 ((2 * a.sum + 16 * a.usable) / (32 * a.usable)))) →
    flags = (decide (m.fired < d.reps) || decide (0 < m.noStart) || m.early.isSome).toNat + 2 * b.lost.toNat + 4 * (decide (0 < a.overs)).toNat + 8 * (d.subst.getLsbD k).toNat
      + 16 * (decide (0 < a.settle)).toNat + 32 * y.foreign.toNat + 64 * y.weather.toNat + 128 * b.dirtyAt.toNat
      + 256 * y.win.isSome.toNat + 512 * b.sunAt.toNat + 1024 * d.degraded.toNat + 2048 * d.safety.toNat
      + 4096 * (b.nearBlank.any (fun j => decide (((y.b : Int) - 1) * d.wc - 4096 ≤ j))).toNat →
    ∃ t r, exec (.channelExtractionDone c k []) s = .next t ∧ r ∈ t.host.allRecs
      ∧ (b.probe = false → t.host.recs[s.host.recs.length + i]? = some r)
      ∧ r.words = [BitVec.ofNat 32 (range % 2 ^ 24 + 2 ^ 24 * b.ambientAt),
          BitVec.ofNat 32 (16 * c.val + k.val + 2 ^ 9 * i + 2 ^ 11 * flags + 2 ^ 24 * y.conf),
          BitVec.ofNat 32 (d.angle.toNat + 2 ^ 16 * d.tag.toNat),
          BitVec.ofNat 32 (d.round.toNat + 2 ^ 16 * intensity + 2 ^ 28 * (d.epoch.toNat % 16))]
      ∧ (y.zoneRet b d m c k).range = range

/-- The Hall codes of R216: their positions, the two invalid ones, and the direction that a step between neighbours shows in
MOT_STATUS.dir, exchanged by MOT_CFG.rev. -/
def Obligations.HallPositions : Prop :=
  hallPos 0b000 = none ∧ hallPos 0b111 = none ∧ hallPos 0b001 = some 0 ∧ hallPos 0b011 = some 1 ∧ hallPos 0b010 = some 2
  ∧ hallPos 0b110 = some 3 ∧ hallPos 0b100 = some 4 ∧ hallPos 0b101 = some 5
  ∧ (∀ (old code : BitVec 3) (held a b : Nat) (s : State), s.timingLive = true → s.rd MOT_FILT_n_hall ≤ held →
    s.motor.code = some old → hallPos old = some a → hallPos code = some b → b = (a + 1) % 6 ∨ a = (b + 1) % 6 →
    ∃ t, exec (.hallCodeChange code held) s = .next t
      ∧ t.flag MOT_STATUS_dir = (if b = (a + 1) % 6 then s.flag MOT_CFG_rev else !s.flag MOT_CFG_rev))

/-- A step takes the command at the front of the queue and runs it with the queue's rest; on an empty queue one tick passes (the
model's choice, notes/assumptions/1.md). -/
def Obligations.StepRunsFront : Prop :=
  (∀ (c : Instr) (rest : List Instr) (s : State), s.pending = c :: rest → step s = exec c { s with pending := rest })
  ∧ (∀ s : State, s.pending = [] → step s = .next s.idleTick)

/-- Reset: every register holds its reset value, nothing waits, and the invariant holds (R570, R598, R606, R621).
Rests also on the model's readings and choices in notes/assumptions: 3, 6. -/
def Obligations.ResetState : Prop :=
  (∀ a, State.reset.reg a = resetWord a) ∧ State.reset.pending = [] ∧ State.reset.wf = true ∧ State.reset.running = true
  ∧ State.reset.fabricLive = false ∧ resetWord MOT_FILT = 0x00100010 ∧ State.reset.flag CLK_RST_CAUSE_por = true
  ∧ (∀ c b, State.reset.bankByte c b = 0) ∧ (∀ c, State.reset.crate c = Crate.reset) ∧ (∀ r, State.reset.ring r = Ring.reset)

/-- No command stops: each answers a next state that differs from the state before at most in the parts of the command's
footprint; in particular none changes the queue.
Rests also on the model's readings and choices in notes/assumptions: 2. -/
def Obligations.CommandFrames : Prop :=
  ∀ (c : Instr) (s : State), ∃ t, exec c s = .next t ∧ OnlyChanges (footprint c) s t ∧ t.pending = s.pending

/-- Every step keeps the invariant: every table of the state, and of its host, housekeeping, safety and fault parts, stays canonical, so that
equal contents are equal data, and the fault log and the event queue keep their sizes (R402, R570). The tables inside an
element of those tables (a slice's hits, a buffer's counts, the configuration that a dwell or a descriptor carries) are outside it. -/
def Obligations.StepKeepsInvariant : Prop :=
  ∀ s t : State, s.wf = true → step s = .next t → t.wf = true
end

