-- ==== Sys2Proof/Laws/Sparse.lean ====
section
/-! SUPPORT. Laws of sparse tables: reading after writing, and the canonical form that every operation keeps. -/

namespace Sys2Proof.Machine

variable {α : Type}

/-! ## The canonical form -/

theorem sparseRising_cons (b : Option Nat) (j : Nat) (v : α) (t : Sparse α) :
    sparseRising b ((j, v) :: t) = true ↔ (∀ n, b = some n → n < j) ∧ sparseRising (some j) t = true := by
  cases b <;> simp [sparseRising]

theorem sparseRising_weaken {b c : Option Nat} {m : Sparse α} (h : sparseRising b m = true)
    (hb : ∀ n, c = some n → ∃ k, b = some k ∧ n ≤ k) : sparseRising c m = true := by
  cases m with
  | nil => rfl
  | cons p t =>
    obtain ⟨j, v⟩ := p
    rw [sparseRising_cons] at h ⊢
    refine ⟨fun n hn => ?_, h.2⟩
    obtain ⟨k, hk, hle⟩ := hb n hn
    exact lt_of_le_of_lt hle (h.1 k hk)

theorem sparseRising_none {b : Option Nat} {m : Sparse α} (h : sparseRising b m = true) : sparseRising none m = true :=
  sparseRising_weaken h (fun _ hn => by cases hn)

theorem sparseRising_filter (p : Nat × α → Bool) {b : Option Nat} {m : Sparse α} (h : sparseRising b m = true) :
    sparseRising b (m.filter p) = true := by
  induction m generalizing b with
  | nil => simpa using h
  | cons q t ih =>
    obtain ⟨j, v⟩ := q
    rw [sparseRising_cons] at h
    by_cases hp : p (j, v) = true
    · rw [List.filter_cons_of_pos hp, sparseRising_cons]
      exact ⟨h.1, ih h.2⟩
    · rw [List.filter_cons_of_neg hp]
      exact sparseRising_weaken (ih h.2) (fun n hn => ⟨j, rfl, (h.1 n hn).le⟩)

theorem sparseRising_insert {b : Option Nat} {m : Sparse α} (i : Nat) (v : α) (h : sparseRising b m = true)
    (hb : ∀ n, b = some n → n < i) (hi : ∀ p ∈ m, p.1 ≠ i) : sparseRising b (sparseInsert i v m) = true := by
  induction m generalizing b with
  | nil => rw [sparseInsert, sparseRising_cons]; exact ⟨hb, rfl⟩
  | cons q t ih =>
    obtain ⟨j, w⟩ := q
    rw [sparseRising_cons] at h
    have hne : j ≠ i := hi (j, w) (by simp)
    by_cases hlt : i < j
    · simp only [sparseInsert, hlt, if_true, sparseRising_cons]
      exact ⟨hb, fun n hn => by cases hn; exact hlt, h.2⟩
    · simp only [sparseInsert, hlt, if_false, sparseRising_cons]
      exact ⟨h.1, ih h.2 (fun n hn => by cases hn; omega) (fun p hp => hi p (by simp [hp]))⟩

theorem mem_sparseInsert {m : Sparse α} {i : Nat} {v : α} {p : Nat × α} :
    p ∈ sparseInsert i v m ↔ p = (i, v) ∨ p ∈ m := by
  induction m with
  | nil => simp [sparseInsert]
  | cons q t ih =>
    obtain ⟨j, w⟩ := q
    simp only [sparseInsert]
    split
    · simp
    · simp only [List.mem_cons, ih]; tauto

variable [DecidableEq α] {dflt : Nat → α}

theorem sparseWf_iff {m : Sparse α} :
    sparseWf dflt m = true ↔ sparseRising none m = true ∧ ∀ p ∈ m, p.2 ≠ dflt p.1 := by
  simp [sparseWf]

@[simp] theorem sparseWf_nil : sparseWf dflt ([] : Sparse α) = true := rfl

theorem sparseWf_filter (p : Nat × α → Bool) {m : Sparse α} (h : sparseWf dflt m = true) :
    sparseWf dflt (m.filter p) = true := by
  rw [sparseWf_iff] at h ⊢
  exact ⟨sparseRising_filter p h.1, fun q hq => h.2 q (List.mem_of_mem_filter hq)⟩

/-- Writing keeps the canonical form. -/
theorem sparseWf_set {m : Sparse α} (i : Nat) (v : α) (h : sparseWf dflt m = true) :
    sparseWf dflt (sparseSet dflt m i v) = true := by
  unfold sparseSet
  split
  · exact sparseWf_filter _ h
  · rename_i hv
    have he : sparseWf dflt (sparseErase i m) = true := sparseWf_filter _ h
    rw [sparseWf_iff] at he ⊢
    refine ⟨sparseRising_insert i v he.1 (by simp) (fun p hp => ?_), fun p hp => ?_⟩
    · simpa [sparseErase] using (List.mem_filter.mp hp).2
    · rcases mem_sparseInsert.mp hp with rfl | hp
      · exact hv
      · exact he.2 p hp

/-! ## Reading after writing -/

omit [DecidableEq α] in
theorem sparseGet_insert_same (m : Sparse α) (i : Nat) (v : α) (hi : ∀ p ∈ m, p.1 ≠ i) :
    sparseGet dflt (sparseInsert i v m) i = v := by
  induction m with
  | nil => simp [sparseInsert, sparseGet]
  | cons q t ih =>
    obtain ⟨j, w⟩ := q
    have hne : j ≠ i := hi (j, w) (by simp)
    simp only [sparseInsert]
    split
    · simp [sparseGet]
    · simp [sparseGet, hne, ih (fun p hp => hi p (by simp [hp]))]

omit [DecidableEq α] in
theorem sparseGet_insert_ne (m : Sparse α) {i j : Nat} (v : α) (hij : i ≠ j) :
    sparseGet dflt (sparseInsert i v m) j = sparseGet dflt m j := by
  induction m with
  | nil => simp [sparseInsert, sparseGet, hij]
  | cons q t ih =>
    obtain ⟨k, w⟩ := q
    simp only [sparseInsert]
    split
    · simp [sparseGet, hij]
    · simp [sparseGet, ih]

omit [DecidableEq α] in
theorem sparseGet_erase_same (m : Sparse α) (i : Nat) : sparseGet dflt (sparseErase i m) i = dflt i := by
  induction m with
  | nil => rfl
  | cons q t ih =>
    obtain ⟨k, w⟩ := q
    by_cases hk : k = i
    · simpa [sparseErase, hk] using ih
    · simp only [sparseErase, ne_eq, bne_iff_ne, hk, not_false_eq_true, List.filter_cons_of_pos, sparseGet, if_false]
      exact ih

omit [DecidableEq α] in
theorem sparseGet_erase_ne (m : Sparse α) {i j : Nat} (hij : i ≠ j) :
    sparseGet dflt (sparseErase i m) j = sparseGet dflt m j := by
  induction m with
  | nil => rfl
  | cons q t ih =>
    obtain ⟨k, w⟩ := q
    by_cases hk : k = i
    · subst hk
      simp only [sparseErase, ne_eq, bne_iff_ne, not_true_eq_false, not_false_eq_true, List.filter_cons_of_neg, sparseGet,
        hij, if_false]
      exact ih
    · simp only [sparseErase, ne_eq, bne_iff_ne, hk, not_false_eq_true, List.filter_cons_of_pos, sparseGet]
      split
      · rfl
      · exact ih

/-- A read of the index that was written gives the value written. -/
@[simp] theorem sparseGet_set_same (m : Sparse α) (i : Nat) (v : α) : sparseGet dflt (sparseSet dflt m i v) i = v := by
  unfold sparseSet
  split
  · rename_i h; rw [sparseGet_erase_same, h]
  · exact sparseGet_insert_same _ _ _ (fun p hp => by simpa [sparseErase] using (List.mem_filter.mp hp).2)

/-- A write leaves every other index alone. -/
theorem sparseGet_set_ne (m : Sparse α) {i j : Nat} (v : α) (hij : i ≠ j) :
    sparseGet dflt (sparseSet dflt m i v) j = sparseGet dflt m j := by
  unfold sparseSet
  split
  · exact sparseGet_erase_ne m hij
  · rw [sparseGet_insert_ne _ _ hij, sparseGet_erase_ne m hij]

omit [DecidableEq α] in
/-- A table cut down to the indices that satisfy p. -/
theorem sparseGet_filter (p : Nat → Bool) (m : Sparse α) (i : Nat) :
    sparseGet dflt (m.filter (fun q => p q.1)) i = if p i then sparseGet dflt m i else dflt i := by
  induction m with
  | nil => cases p i <;> rfl
  | cons q t ih =>
    obtain ⟨j, v⟩ := q
    by_cases hj : j = i
    · subst hj
      by_cases hp : p j = true
      · simp [hp, sparseGet]
      · rw [List.filter_cons_of_neg (by simpa using hp), ih]
        simp [hp]
    · by_cases hp : p j = true
      · rw [List.filter_cons_of_pos (by simpa using hp)]
        simp only [sparseGet, hj, if_false, ih]
      · rw [List.filter_cons_of_neg (by simpa using hp), ih]
        simp only [sparseGet, hj, if_false]

end Sys2Proof.Machine
end

