-- ==== Sys2Proof/Laws/Evolve.lean ====
section
/-! SUPPORT. What each named operation of Machine/Ops.lean may change, and that it keeps the invariant: one lemma per operation,
in a form that chains (from s to t, then on to the operation's result). -/

namespace Sys2Proof.Machine

variable {L : List Part} {s t : State}

theorem ev_refl : Evolves L s s := ⟨fun p _ => by cases p <;> rfl, fun h => h⟩

theorem Part.same_trans {p : Part} {r : State} (h : p.same s t) (g : p.same t r) : p.same s r := by
  cases p <;> simp_all [Part.same]

theorem ev_trans {r : State} (h : Evolves L s t) (g : Evolves L t r) : Evolves L s r :=
  ⟨fun p hp => Part.same_trans (h.1 p hp) (g.1 p hp), fun w => g.2 (h.2 w)⟩

/-- A wider list of parts. -/
theorem ev_mono {M : List Part} (h : Evolves L s t) (hLM : ∀ p ∈ L, p ∈ M) : Evolves M s t :=
  ⟨fun p hp => h.1 p (fun hl => hp (hLM p hl)), h.2⟩

/-- The sixteen clauses of the invariant. -/
theorem State.wf_iff : s.wf = true ↔
    sparseWf resetWord s.regs = true ∧ memoryWf s.bank = true ∧ memoryWf s.hostMem = true
    ∧ sparseWf (fun _ => Crate.reset) s.crates = true ∧ sparseWf (fun _ => Chan.reset) s.chans = true
    ∧ sparseWf (fun _ => Slice.reset) s.slices = true ∧ sparseWf (fun _ => Emit.reset) s.emits = true
    ∧ sparseWf (fun _ => List.replicate 17 0) s.classes = true ∧ sparseWf (fun _ => Chg.reset) s.chgs = true
    ∧ sparseWf (fun _ => Mon.reset) s.mons = true ∧ sparseWf (fun _ => Req.reset) s.reqs = true
    ∧ sparseWf (fun _ => Ring.reset) s.rings = true ∧ s.host.wf = true ∧ s.hk.wf = true ∧ s.saf.wf = true
    ∧ s.flt.wf = true := by
  simp only [State.wf, Bool.and_eq_true, and_assoc]

/-! ## One part replaced -/

theorem ev_withRegs (hp : Part.regs ∈ L) {m : Sparse Word} (hm : sparseWf resetWord t.regs = true → sparseWf resetWord m = true)
    (h : Evolves L s t) : Evolves L s { t with regs := m } := by
  refine ev_trans h ⟨fun p hn => ?_, fun w => ?_⟩
  · cases p <;> first | rfl | exact absurd hp hn
  · rw [State.wf_iff] at w ⊢; exact ⟨hm w.1, w.2⟩

theorem ev_withBank (hp : Part.bank ∈ L) {m : Sparse Byte} (hm : memoryWf t.bank = true → memoryWf m = true)
    (h : Evolves L s t) : Evolves L s { t with bank := m } := by
  refine ev_trans h ⟨fun p hn => ?_, fun w => ?_⟩
  · cases p <;> first | rfl | exact absurd hp hn
  · rw [State.wf_iff] at w ⊢; exact ⟨w.1, hm w.2.1, w.2.2⟩

theorem ev_withHostMem (hp : Part.hostMem ∈ L) {m : Sparse Byte} (hm : memoryWf t.hostMem = true → memoryWf m = true)
    (h : Evolves L s t) : Evolves L s { t with hostMem := m } := by
  refine ev_trans h ⟨fun p hn => ?_, fun w => ?_⟩
  · cases p <;> first | rfl | exact absurd hp hn
  · rw [State.wf_iff] at w ⊢; exact ⟨w.1, w.2.1, hm w.2.2.1, w.2.2.2⟩

theorem ev_withClk (hp : Part.clk ∈ L) {m : Clk} (h : Evolves L s t) : Evolves L s { t with clk := m } := by
  refine ev_trans h ⟨fun p hn => ?_, fun w => w⟩
  cases p <;> first | rfl | exact absurd hp hn

theorem ev_withTap (hp : Part.tap ∈ L) {m : Tap} (h : Evolves L s t) : Evolves L s { t with tap := m } := by
  refine ev_trans h ⟨fun p hn => ?_, fun w => w⟩
  cases p <;> first | rfl | exact absurd hp hn

theorem ev_withShot (hp : Part.shot ∈ L) {m : Shot} (h : Evolves L s t) : Evolves L s { t with shot := m } := by
  refine ev_trans h ⟨fun p hn => ?_, fun w => w⟩
  cases p <;> first | rfl | exact absurd hp hn

theorem ev_withEye (hp : Part.eye ∈ L) {m : EyeLock} (h : Evolves L s t) : Evolves L s { t with eye := m } := by
  refine ev_trans h ⟨fun p hn => ?_, fun w => w⟩
  cases p <;> first | rfl | exact absurd hp hn

theorem ev_withMotor (hp : Part.motor ∈ L) {m : Motor} (h : Evolves L s t) : Evolves L s { t with motor := m } := by
  refine ev_trans h ⟨fun p hn => ?_, fun w => w⟩
  cases p <;> first | rfl | exact absurd hp hn

theorem ev_withOtp (hp : Part.otp ∈ L) {m : Otp} (h : Evolves L s t) : Evolves L s { t with otp := m } := by
  refine ev_trans h ⟨fun p hn => ?_, fun w => w⟩
  cases p <;> first | rfl | exact absurd hp hn

theorem ev_withFree (hp : Part.free ∈ L) {m : Nat} (h : Evolves L s t) : Evolves L s { t with free := m } := by
  refine ev_trans h ⟨fun p hn => ?_, fun w => w⟩
  cases p <;> first | rfl | exact absurd hp hn

theorem ev_withCrates (hp : Part.crates ∈ L) {m : Sparse Crate}
    (hm : sparseWf (fun _ => Crate.reset) t.crates = true → sparseWf (fun _ => Crate.reset) m = true)
    (h : Evolves L s t) : Evolves L s { t with crates := m } := by
  refine ev_trans h ⟨fun p hn => ?_, fun w => ?_⟩
  · cases p <;> first | rfl | exact absurd hp hn
  · rw [State.wf_iff] at w ⊢; obtain ⟨a, b, c, d, e⟩ := w; exact ⟨a, b, c, hm d, e⟩

theorem ev_withChans (hp : Part.chans ∈ L) {m : Sparse Chan}
    (hm : sparseWf (fun _ => Chan.reset) t.chans = true → sparseWf (fun _ => Chan.reset) m = true)
    (h : Evolves L s t) : Evolves L s { t with chans := m } := by
  refine ev_trans h ⟨fun p hn => ?_, fun w => ?_⟩
  · cases p <;> first | rfl | exact absurd hp hn
  · rw [State.wf_iff] at w ⊢; obtain ⟨a, b, c, d, e, f⟩ := w; exact ⟨a, b, c, d, hm e, f⟩

theorem ev_withSlices (hp : Part.slices ∈ L) {m : Sparse Slice}
    (hm : sparseWf (fun _ => Slice.reset) t.slices = true → sparseWf (fun _ => Slice.reset) m = true)
    (h : Evolves L s t) : Evolves L s { t with slices := m } := by
  refine ev_trans h ⟨fun p hn => ?_, fun w => ?_⟩
  · cases p <;> first | rfl | exact absurd hp hn
  · rw [State.wf_iff] at w ⊢; obtain ⟨a, b, c, d, e, f, g⟩ := w; exact ⟨a, b, c, d, e, hm f, g⟩

theorem ev_withEmits (hp : Part.emits ∈ L) {m : Sparse Emit}
    (hm : sparseWf (fun _ => Emit.reset) t.emits = true → sparseWf (fun _ => Emit.reset) m = true)
    (h : Evolves L s t) : Evolves L s { t with emits := m } := by
  refine ev_trans h ⟨fun p hn => ?_, fun w => ?_⟩
  · cases p <;> first | rfl | exact absurd hp hn
  · rw [State.wf_iff] at w ⊢; obtain ⟨a, b, c, d, e, f, g, k⟩ := w; exact ⟨a, b, c, d, e, f, hm g, k⟩

theorem ev_withClasses (hp : Part.classes ∈ L) {m : Sparse (List Nat)}
    (hm : sparseWf (fun _ => List.replicate 17 0) t.classes = true → sparseWf (fun _ => List.replicate 17 0) m = true)
    (h : Evolves L s t) : Evolves L s { t with classes := m } := by
  refine ev_trans h ⟨fun p hn => ?_, fun w => ?_⟩
  · cases p <;> first | rfl | exact absurd hp hn
  · rw [State.wf_iff] at w ⊢; obtain ⟨a, b, c, d, e, f, g, k, l⟩ := w; exact ⟨a, b, c, d, e, f, g, hm k, l⟩

theorem ev_withChgs (hp : Part.chgs ∈ L) {m : Sparse Chg}
    (hm : sparseWf (fun _ => Chg.reset) t.chgs = true → sparseWf (fun _ => Chg.reset) m = true)
    (h : Evolves L s t) : Evolves L s { t with chgs := m } := by
  refine ev_trans h ⟨fun p hn => ?_, fun w => ?_⟩
  · cases p <;> first | rfl | exact absurd hp hn
  · rw [State.wf_iff] at w ⊢; obtain ⟨a, b, c, d, e, f, g, k, l, n⟩ := w; exact ⟨a, b, c, d, e, f, g, k, hm l, n⟩

theorem ev_withMons (hp : Part.mons ∈ L) {m : Sparse Mon}
    (hm : sparseWf (fun _ => Mon.reset) t.mons = true → sparseWf (fun _ => Mon.reset) m = true)
    (h : Evolves L s t) : Evolves L s { t with mons := m } := by
  refine ev_trans h ⟨fun p hn => ?_, fun w => ?_⟩
  · cases p <;> first | rfl | exact absurd hp hn
  · rw [State.wf_iff] at w ⊢; obtain ⟨a, b, c, d, e, f, g, k, l, n, o⟩ := w; exact ⟨a, b, c, d, e, f, g, k, l, hm n, o⟩

theorem ev_withReqs (hp : Part.reqs ∈ L) {m : Sparse Req}
    (hm : sparseWf (fun _ => Req.reset) t.reqs = true → sparseWf (fun _ => Req.reset) m = true)
    (h : Evolves L s t) : Evolves L s { t with reqs := m } := by
  refine ev_trans h ⟨fun p hn => ?_, fun w => ?_⟩
  · cases p <;> first | rfl | exact absurd hp hn
  · rw [State.wf_iff] at w ⊢; obtain ⟨a, b, c, d, e, f, g, k, l, n, o, q⟩ := w
    exact ⟨a, b, c, d, e, f, g, k, l, n, hm o, q⟩

theorem ev_withRings (hp : Part.rings ∈ L) {m : Sparse Ring}
    (hm : sparseWf (fun _ => Ring.reset) t.rings = true → sparseWf (fun _ => Ring.reset) m = true)
    (h : Evolves L s t) : Evolves L s { t with rings := m } := by
  refine ev_trans h ⟨fun p hn => ?_, fun w => ?_⟩
  · cases p <;> first | rfl | exact absurd hp hn
  · rw [State.wf_iff] at w ⊢; obtain ⟨a, b, c, d, e, f, g, k, l, n, o, q, r⟩ := w
    exact ⟨a, b, c, d, e, f, g, k, l, n, o, hm q, r⟩

theorem ev_withHost (hp : Part.host ∈ L) {m : HostIf} (hm : t.host.wf = true → m.wf = true)
    (h : Evolves L s t) : Evolves L s { t with host := m } := by
  refine ev_trans h ⟨fun p hn => ?_, fun w => ?_⟩
  · cases p <;> first | rfl | exact absurd hp hn
  · rw [State.wf_iff] at w ⊢; obtain ⟨a, b, c, d, e, f, g, k, l, n, o, q, r, u⟩ := w
    exact ⟨a, b, c, d, e, f, g, k, l, n, o, q, hm r, u⟩

theorem ev_withHk (hp : Part.hk ∈ L) {m : Hk} (hm : t.hk.wf = true → m.wf = true)
    (h : Evolves L s t) : Evolves L s { t with hk := m } := by
  refine ev_trans h ⟨fun p hn => ?_, fun w => ?_⟩
  · cases p <;> first | rfl | exact absurd hp hn
  · rw [State.wf_iff] at w ⊢; obtain ⟨a, b, c, d, e, f, g, k, l, n, o, q, r, u, v⟩ := w
    exact ⟨a, b, c, d, e, f, g, k, l, n, o, q, r, hm u, v⟩

theorem ev_withSaf (hp : Part.saf ∈ L) {m : Saf} (hm : t.saf.wf = true → m.wf = true)
    (h : Evolves L s t) : Evolves L s { t with saf := m } := by
  refine ev_trans h ⟨fun p hn => ?_, fun w => ?_⟩
  · cases p <;> first | rfl | exact absurd hp hn
  · rw [State.wf_iff] at w ⊢; obtain ⟨a, b, c, d, e, f, g, k, l, n, o, q, r, u, v, x⟩ := w
    exact ⟨a, b, c, d, e, f, g, k, l, n, o, q, r, u, hm v, x⟩

theorem ev_withFlt (hp : Part.flt ∈ L) {m : Flt} (hm : t.flt.wf = true → m.wf = true)
    (h : Evolves L s t) : Evolves L s { t with flt := m } := by
  refine ev_trans h ⟨fun p hn => ?_, fun w => ?_⟩
  · cases p <;> first | rfl | exact absurd hp hn
  · rw [State.wf_iff] at w ⊢; obtain ⟨a, b, c, d, e, f, g, k, l, n, o, q, r, u, v, x⟩ := w
    exact ⟨a, b, c, d, e, f, g, k, l, n, o, q, r, u, v, hm x⟩

/-! ## Control -/

theorem ev_doIf {c : Bool} {f : State → State} (hf : ∀ u, Evolves L s u → Evolves L s (f u)) (h : Evolves L s t) :
    Evolves L s (doIf c f t) := by
  unfold doIf; split
  · exact hf t h
  · exact h

theorem ev_ite {c : Prop} [Decidable c] {u v : State} (hu : Evolves L s u) (hv : Evolves L s v) :
    Evolves L s (if c then u else v) := by
  split
  · exact hu
  · exact hv

theorem ev_forAll {α : Type} {l : List α} {f : State → α → State} (hf : ∀ u x, Evolves L s u → Evolves L s (f u x))
    (h : Evolves L s t) : Evolves L s (forAll l f t) := by
  unfold forAll
  induction l generalizing t with
  | nil => exact h
  | cons x r ih => exact ih (hf t x h)

/-! ## Registers -/

theorem ev_setReg (hp : Part.regs ∈ L) {a : Nat} {w : Word} (h : Evolves L s t) : Evolves L s (t.setReg a w) :=
  ev_withRegs hp (sparseWf_set a w) h

theorem ev_put (hp : Part.regs ∈ L) {f : FRef} {v : Nat} (h : Evolves L s t) : Evolves L s (t.put f v) := ev_setReg hp h
theorem ev_putB (hp : Part.regs ∈ L) {f : FRef} {b : Bool} (h : Evolves L s t) : Evolves L s (t.putB f b) := ev_setReg hp h
theorem ev_putInt (hp : Part.regs ∈ L) {f : FRef} {i : Int} (h : Evolves L s t) : Evolves L s (t.putInt f i) := ev_setReg hp h
theorem ev_bump (hp : Part.regs ∈ L) {f : FRef} {n : Nat} (h : Evolves L s t) : Evolves L s (t.bump f n) := ev_setReg hp h
theorem ev_wrapInc (hp : Part.regs ∈ L) {f : FRef} (h : Evolves L s t) : Evolves L s (t.wrapInc f) := ev_setReg hp h
theorem ev_raise (hp : Part.regs ∈ L) {f : FRef} {v : Nat} (h : Evolves L s t) : Evolves L s (t.raise f v) := ev_setReg hp h

/-! ## Elements of tables -/

theorem ev_setCrate (hp : Part.crates ∈ L) {c : Nat} {v : Crate} (h : Evolves L s t) : Evolves L s (t.setCrate c v) :=
  ev_withCrates hp (sparseWf_set c v) h
theorem ev_modCrate (hp : Part.crates ∈ L) {c : Nat} {f : Crate → Crate} (h : Evolves L s t) : Evolves L s (t.modCrate c f) :=
  ev_setCrate hp h
theorem ev_setChan (hp : Part.chans ∈ L) {c k : Nat} {v : Chan} (h : Evolves L s t) : Evolves L s (t.setChan c k v) :=
  ev_withChans hp (sparseWf_set _ v) h
theorem ev_modChan (hp : Part.chans ∈ L) {c k : Nat} {f : Chan → Chan} (h : Evolves L s t) : Evolves L s (t.modChan c k f) :=
  ev_setChan hp h
theorem ev_setSlice (hp : Part.slices ∈ L) {c i : Nat} {v : Slice} (h : Evolves L s t) : Evolves L s (t.setSlice c i v) :=
  ev_withSlices hp (sparseWf_set _ v) h
theorem ev_modSlice (hp : Part.slices ∈ L) {c i : Nat} {f : Slice → Slice} (h : Evolves L s t) :
    Evolves L s (t.modSlice c i f) := ev_setSlice hp h
theorem ev_modEmit (hp : Part.emits ∈ L) {e : Nat} {f : Emit → Emit} (h : Evolves L s t) : Evolves L s (t.modEmit e f) :=
  ev_withEmits hp (sparseWf_set e _) h
theorem ev_modChg (hp : Part.chgs ∈ L) {e : Nat} {f : Chg → Chg} (h : Evolves L s t) : Evolves L s (t.modChg e f) :=
  ev_withChgs hp (sparseWf_set e _) h
theorem ev_modMon (hp : Part.mons ∈ L) {m : Nat} {f : Mon → Mon} (h : Evolves L s t) : Evolves L s (t.modMon m f) :=
  ev_withMons hp (sparseWf_set m _) h
theorem ev_setRing (hp : Part.rings ∈ L) {r : RingId} {v : Ring} (h : Evolves L s t) : Evolves L s (t.setRing r v) :=
  ev_withRings hp (sparseWf_set _ v) h
theorem ev_modRing (hp : Part.rings ∈ L) {r : RingId} {f : Ring → Ring} (h : Evolves L s t) : Evolves L s (t.modRing r f) :=
  ev_setRing hp h
theorem ev_modReq (hp : Part.reqs ∈ L) {q : Src} {f : Req → Req} (h : Evolves L s t) : Evolves L s (t.modReq q f) :=
  ev_withReqs hp (sparseWf_set _ _) h

/-! ## Whole blocks: the function given keeps the block's own tables -/

theorem ev_modClk (hp : Part.clk ∈ L) {f : Clk → Clk} (h : Evolves L s t) : Evolves L s (t.modClk f) := ev_withClk hp h
theorem ev_modShot (hp : Part.shot ∈ L) {f : Shot → Shot} (h : Evolves L s t) : Evolves L s (t.modShot f) := ev_withShot hp h
theorem ev_modMotor (hp : Part.motor ∈ L) {f : Motor → Motor} (h : Evolves L s t) : Evolves L s (t.modMotor f) :=
  ev_withMotor hp h
theorem ev_modHost (hp : Part.host ∈ L) {f : HostIf → HostIf} (hf : ∀ x, x.wf = true → (f x).wf = true)
    (h : Evolves L s t) : Evolves L s (t.modHost f) := ev_withHost hp (hf _) h
theorem ev_modHk (hp : Part.hk ∈ L) {f : Hk → Hk} (hf : ∀ x, x.wf = true → (f x).wf = true)
    (h : Evolves L s t) : Evolves L s (t.modHk f) := ev_withHk hp (hf _) h
theorem ev_modSaf (hp : Part.saf ∈ L) {f : Saf → Saf} (hf : ∀ x, x.wf = true → (f x).wf = true)
    (h : Evolves L s t) : Evolves L s (t.modSaf f) := ev_withSaf hp (hf _) h
theorem ev_modFlt (hp : Part.flt ∈ L) {f : Flt → Flt} (hf : ∀ x, x.wf = true → (f x).wf = true)
    (h : Evolves L s t) : Evolves L s (t.modFlt f) := ev_withFlt hp (hf _) h

theorem ev_modEye (hp : Part.eye ∈ L) {f : EyeLock → EyeLock} (h : Evolves L s t) : Evolves L s (t.modEye f) := ev_withEye hp h
theorem ev_modOtp (hp : Part.otp ∈ L) {f : Otp → Otp} (h : Evolves L s t) : Evolves L s (t.modOtp f) := ev_withOtp hp h
theorem ev_modTap (hp : Part.tap ∈ L) {f : Tap → Tap} (h : Evolves L s t) : Evolves L s (t.modTap f) := ev_withTap hp h
theorem ev_dropRegs (hp : Part.regs ∈ L) {p : Nat → Bool} (h : Evolves L s t) : Evolves L s (t.dropRegs p) :=
  ev_withRegs hp (sparseWf_filter _) h
theorem ev_clearBanks (hp : Part.bank ∈ L) (h : Evolves L s t) : Evolves L s t.clearBanks := ev_withBank hp (fun _ => rfl) h
theorem ev_setClass (hp : Part.classes ∈ L) {q : Nat} {b : List Nat} (h : Evolves L s t) : Evolves L s (t.setClass q b) :=
  ev_withClasses hp (sparseWf_set q b) h

theorem Saf.wf_iff {x : Saf} : x.wf = true ↔
    sparseWf resetWord x.active = true ∧ sparseWf resetWord x.shadow = true ∧ sparseWf (fun _ => Sto.reset) x.stos = true
    ∧ sparseWf (fun _ => Pair.reset) x.pairs = true ∧ sparseWf (fun _ => Out.reset) x.outs = true
    ∧ sparseWf (fun _ => Zone.reset) x.zones = true := by
  simp only [Saf.wf, Bool.and_eq_true, and_assoc]

theorem ev_modPair (hp : Part.saf ∈ L) {i : Nat} {f : Pair → Pair} (h : Evolves L s t) : Evolves L s (t.modPair i f) :=
  ev_withSaf hp (fun w => by
    rw [Saf.wf_iff] at w ⊢; obtain ⟨a, b, c, d, e⟩ := w; exact ⟨a, b, c, sparseWf_set _ _ d, e⟩) h
theorem ev_modOut (hp : Part.saf ∈ L) {i : Nat} {f : Out → Out} (h : Evolves L s t) : Evolves L s (t.modOut i f) :=
  ev_withSaf hp (fun w => by
    rw [Saf.wf_iff] at w ⊢; obtain ⟨a, b, c, d, e, g⟩ := w; exact ⟨a, b, c, d, sparseWf_set _ _ e, g⟩) h
theorem ev_modSto (hp : Part.saf ∈ L) {i : Nat} {f : Sto → Sto} (h : Evolves L s t) : Evolves L s (t.modSto i f) :=
  ev_withSaf hp (fun w => by
    rw [Saf.wf_iff] at w ⊢; obtain ⟨a, b, c, d⟩ := w; exact ⟨a, b, sparseWf_set _ _ c, d⟩) h
theorem ev_modZone (hp : Part.saf ∈ L) {i : Nat} {f : Zone → Zone} (h : Evolves L s t) : Evolves L s (t.modZone i f) :=
  ev_withSaf hp (fun w => by
    rw [Saf.wf_iff] at w ⊢; obtain ⟨a, b, c, d, e, g⟩ := w; exact ⟨a, b, c, d, e, sparseWf_set _ _ g⟩) h

theorem HostIf.wf_iff {x : HostIf} : x.wf = true ↔
    sparseWf (fun _ => MsixEntry.reset) x.pf0.msix = true ∧ sparseWf (fun _ => MsixEntry.reset) x.pf1.msix = true
    ∧ x.evq.length ≤ 32 := by
  simp only [HostIf.wf, Bool.and_eq_true, decide_eq_true_eq, and_assoc]

theorem Flt.wf_iff {x : Flt} : x.wf = true ↔
    sparseWf (fun _ => []) x.strikes = true ∧ sparseWf (fun _ => 0) x.probation = true ∧ x.log.length ≤ 256 := by
  simp only [Flt.wf, Bool.and_eq_true, decide_eq_true_eq, and_assoc]

/-- Configuration space of a function replaced by one with a canonical MSI-X table. -/
theorem ev_setFn (hp : Part.host ∈ L) {f : Func} {v : Fn}
    (hv : t.wf = true → sparseWf (fun _ => MsixEntry.reset) v.msix = true) (h : Evolves L s t) : Evolves L s (t.setFn f v) := by
  refine ev_trans h ⟨fun p hn => ?_, fun w => ?_⟩
  · unfold State.setFn
    split <;> (cases p <;> first | rfl | exact absurd hp hn)
  · have hm := hv w
    unfold State.setFn
    rw [State.wf_iff] at w
    obtain ⟨a, b, c, d, e, g, i, k, l, n, o, q, r, u, v', x⟩ := w
    rw [HostIf.wf_iff] at r
    split <;> (rw [State.wf_iff]; refine ⟨a, b, c, d, e, g, i, k, l, n, o, q, ?_, u, v', x⟩; rw [HostIf.wf_iff])
    · exact ⟨hm, r.2⟩
    · exact ⟨r.1, hm, r.2.2⟩

/-- In a state with the invariant, the MSI-X table of each function is canonical. -/
theorem fn_msix_wf (w : t.wf = true) (f : Func) : sparseWf (fun _ => MsixEntry.reset) (t.fn f).msix = true := by
  rw [State.wf_iff] at w
  obtain ⟨-, -, -, -, -, -, -, -, -, -, -, -, r, -⟩ := w
  rw [HostIf.wf_iff] at r
  unfold State.fn
  cases f
  · exact r.1
  · exact r.2.1

/-! ## Memories and free values -/

theorem sparseWf_foldl {α β : Type} [DecidableEq α] {dflt : Nat → α} (l : List β) (i : β → Nat) (v : β → α) {m : Sparse α}
    (h : sparseWf dflt m = true) : sparseWf dflt (l.foldl (fun m p => sparseSet dflt m (i p) (v p)) m) = true := by
  induction l generalizing m with
  | nil => exact h
  | cons x r ih => exact ih (sparseWf_set _ _ h)

theorem ev_writeHost (hp : Part.hostMem ∈ L) {a : Nat} {bs : List Byte} (h : Evolves L s t) :
    Evolves L s (t.writeHost a bs) :=
  ev_withHostMem hp (fun w => sparseWf_foldl _ (fun p : Byte × Nat => (a + p.2) % 2 ^ 64) (fun p => p.1) w) h
theorem ev_setBankByte (hp : Part.bank ∈ L) {c b : Nat} {v : Byte} (h : Evolves L s t) : Evolves L s (t.setBankByte c b v) :=
  ev_withBank hp (sparseWf_set _ v) h
theorem ev_setBankHalf (hp : Part.bank ∈ L) {c b v : Nat} (h : Evolves L s t) : Evolves L s (t.setBankHalf c b v) :=
  ev_setBankByte hp (ev_setBankByte hp h)
theorem ev_clearBank (hp : Part.bank ∈ L) {c b n : Nat} (h : Evolves L s t) : Evolves L s (t.clearBank c b n) :=
  ev_withBank hp (sparseWf_filter _) h
theorem ev_takeFree (hp : Part.free ∈ L) (h : Evolves L s t) : Evolves L s t.takeFree.2 := ev_withFree hp h
theorem ev_takeFreeWord (hp : Part.free ∈ L) (h : Evolves L s t) : Evolves L s t.takeFreeWord.2 := ev_withFree hp h
theorem ev_skipFree (hp : Part.free ∈ L) {n : Nat} (h : Evolves L s t) : Evolves L s (t.skipFree n) := ev_withFree hp h

theorem ev_setBankWord (hp : Part.bank ∈ L) {c b : Nat} {w : Word} (h : Evolves L s t) : Evolves L s (t.setBankWord c b w) :=
  ev_setBankHalf hp (ev_setBankHalf hp h)

end Sys2Proof.Machine
end

