-- ==== Sys2Proof/Laws/EvFlags.lean ====
section
/-! SUPPORT. What each operation of Machine/Flags.lean may change, and that it keeps the invariant. -/

namespace Sys2Proof.Machine

variable {L : List Part} {s t : State}

theorem ev_pushRec {r : Rec} (h_host : Part.host ∈ L) (h : Evolves L s t) :
    Evolves L s (State.pushRec t r) := by
  unfold State.pushRec
  try dsimp only
  repeat' first
    | with_reducible assumption
    | intro _
    | with_reducible apply ev_modHost
    | split
    | (show _ = true; first | assumption | rfl)

theorem ev_showEvq (h_regs : Part.regs ∈ L) (h : Evolves L s t) :
    Evolves L s (State.showEvq t) := by
  unfold State.showEvq
  try dsimp only
  repeat' first
    | with_reducible assumption
    | intro _
    | with_reducible apply ev_put
    | with_reducible apply ev_putB

theorem ev_queueEvent {ws : List Word} (h_regs : Part.regs ∈ L) (h_host : Part.host ∈ L) (h : Evolves L s t) :
    Evolves L s (State.queueEvent t ws) := by
  unfold State.queueEvent
  split
  · split
    · rename_i hlt
      refine ev_showEvq h_regs (ev_withHost h_host (fun w => ?_) h)
      rw [HostIf.wf_iff] at w ⊢
      refine ⟨w.1, w.2.1, ?_⟩
      simp only [List.length_append, List.length_cons, List.length_nil]
      omega
    · exact ev_bump h_regs h
  · exact h

theorem ev_eventTo {f : Func} {ws : List Word} (h_regs : Part.regs ∈ L) (h_host : Part.host ∈ L) (h : Evolves L s t) :
    Evolves L s (State.eventTo t f ws) := by
  unfold State.eventTo
  try dsimp only
  repeat' first
    | with_reducible assumption
    | intro _
    | with_reducible apply ev_pushRec
    | with_reducible apply ev_bump
    | split

theorem ev_postWords {ws : List Word} (h_regs : Part.regs ∈ L) (h_host : Part.host ∈ L) (h : Evolves L s t) :
    Evolves L s (State.postWords t ws) := by
  unfold State.postWords
  try dsimp only
  repeat' first
    | with_reducible assumption
    | intro _
    | with_reducible apply ev_eventTo
    | with_reducible apply ev_queueEvent

theorem ev_post {typ : Nat} {kind : Nat} {index : Nat} {data : List Word} (h_regs : Part.regs ∈ L) (h_host : Part.host ∈ L) (h : Evolves L s t) :
    Evolves L s (State.post t typ kind index data) := by
  unfold State.post
  try dsimp only
  repeat' first
    | with_reducible assumption
    | intro _
    | with_reducible apply ev_postWords
    | split

theorem ev_postRing {typ : Nat} {r : RingId} {data : List Word} (h_regs : Part.regs ∈ L) (h_host : Part.host ∈ L) (h : Evolves L s t) :
    Evolves L s (State.postRing t typ r data) := by
  unfold State.postRing
  try dsimp only
  repeat' first
    | with_reducible assumption
    | intro _
    | with_reducible apply ev_eventTo
    | with_reducible apply ev_queueEvent
    | split

theorem ev_showCrateReady (h_regs : Part.regs ∈ L) (h : Evolves L s t) :
    Evolves L s (State.showCrateReady t) := by
  unfold State.showCrateReady
  try dsimp only
  repeat' first
    | with_reducible assumption
    | intro _
    | with_reducible apply ev_putB

theorem ev_postReady {n : Nat} (h_regs : Part.regs ∈ L) (h_host : Part.host ∈ L) (h : Evolves L s t) :
    Evolves L s (State.postReady t n) := by
  unfold State.postReady
  try dsimp only
  repeat' first
    | with_reducible assumption
    | intro _
    | with_reducible apply ev_post
    | with_reducible apply ev_putB
    | with_reducible apply ev_forAll

theorem ev_changeReady {f : State → State} (h_regs : Part.regs ∈ L) (h_host : Part.host ∈ L) (hf_f : ∀ u, Evolves L s u → Evolves L s (f u)) (h : Evolves L s t) :
    Evolves L s (State.changeReady t f) := by
  unfold State.changeReady
  try dsimp only
  repeat' first
    | with_reducible assumption
    | intro _
    | with_reducible apply ev_showCrateReady
    | with_reducible apply ev_postReady
    | with_reducible apply ev_doIf
    | with_reducible apply hf_f
    | split

theorem ev_setReady {f : FRef} {v : Bool} (h_regs : Part.regs ∈ L) (h_host : Part.host ∈ L) (h : Evolves L s t) :
    Evolves L s (State.setReady t f v) := by
  unfold State.setReady
  try dsimp only
  repeat' first
    | with_reducible assumption
    | intro _
    | with_reducible apply ev_changeReady
    | with_reducible apply ev_putB

theorem ev_setCratesReady {cs : List Nat} {v : Bool} (h_regs : Part.regs ∈ L) (h_host : Part.host ∈ L) (h : Evolves L s t) :
    Evolves L s (State.setCratesReady t cs v) := by
  unfold State.setCratesReady
  try dsimp only
  repeat' first
    | with_reducible assumption
    | intro _
    | with_reducible apply ev_changeReady
    | with_reducible apply ev_putB
    | with_reducible apply ev_forAll

theorem eraseFirst_length {α : Type} (p : α → Bool) (l : List α) (h : l.any p = true) :
    (eraseFirst p l).length + 1 = l.length := by
  induction l with
  | nil => simp at h
  | cons x t ih =>
    by_cases hx : p x = true
    · simp [eraseFirst, hx]
    · simp only [List.any_cons, hx, Bool.false_or] at h
      simp [eraseFirst, hx, ih h]

/-- A full log has room for one more entry (R572). -/
theorem logRoom_length (l : List LogEntry) (h : l.length ≤ 256) : (logRoom l).length ≤ 255 := by
  unfold logRoom
  split
  · omega
  · split
    · rename_i ha
      have := eraseFirst_length _ l ha
      omega
    · simp only [List.length_tail]; omega

theorem ev_putLog {e : LogEntry} (h_regs : Part.regs ∈ L) (h_host : Part.host ∈ L) (h_flt : Part.flt ∈ L) (h : Evolves L s t) :
    Evolves L s (State.putLog t e) := by
  unfold State.putLog
  try dsimp only
  repeat' first
    | assumption
    | with_reducible apply ev_post
    | with_reducible apply ev_putB
    | with_reducible apply ev_wrapInc
    | with_reducible apply ev_put
    | with_reducible apply ev_modFlt
  intro x hx
  rw [Flt.wf_iff] at hx ⊢
  refine ⟨hx.1, hx.2.1, ?_⟩
  have := logRoom_length x.log hx.2.2
  simp only [List.length_append, List.length_cons, List.length_nil]
  omega

theorem ev_log {code : Nat} {cls : Nat} {kind : Nat} {index : Nat} {sub : Nat} {strikes : Nat} {value : Nat} (h_regs : Part.regs ∈ L) (h_host : Part.host ∈ L) (h_flt : Part.flt ∈ L) (h : Evolves L s t) :
    Evolves L s (State.log t code cls kind index sub strikes value) := by
  unfold State.log
  try dsimp only
  repeat' first
    | with_reducible assumption
    | intro _
    | with_reducible apply ev_putLog
    | split

theorem ev_detect {code : Nat} {kind : Nat} {index : Nat} {sub : Nat} {value : Nat} {elem : Nat} (h_flt : Part.flt ∈ L) (h : Evolves L s t) :
    Evolves L s (State.detect t code kind index sub value elem) := by
  unfold State.detect
  try dsimp only
  repeat' first
    | with_reducible assumption
    | intro _
    | with_reducible apply ev_modFlt
    | (show _ = true; first | assumption | rfl)

theorem ev_refuseWrite {q : Src} {a : Nat} (h_regs : Part.regs ∈ L) (h_host : Part.host ∈ L) (h_flt : Part.flt ∈ L) (h : Evolves L s t) :
    Evolves L s (State.refuseWrite t q a) := by
  unfold State.refuseWrite
  try dsimp only
  repeat' first
    | with_reducible assumption
    | intro _
    | with_reducible apply ev_bump
    | with_reducible apply ev_put
    | with_reducible apply ev_log
    | with_reducible apply ev_doIf

theorem ev_complete {ref : CmdRef} {status : Nat} {shots : DWord} {dwells : Word} (h_host : Part.host ∈ L) (h : Evolves L s t) :
    Evolves L s (State.complete t ref status shots dwells) := by
  unfold State.complete
  try dsimp only
  repeat' first
    | with_reducible assumption
    | intro _
    | with_reducible apply ev_modHost
    | split
    | (show _ = true; first | assumption | rfl)

theorem ev_fail {ref : CmdRef} {status : Nat} (h_host : Part.host ∈ L) (h : Evolves L s t) :
    Evolves L s (State.fail t ref status) := by
  unfold State.fail
  try dsimp only
  repeat' first
    | with_reducible assumption
    | intro _
    | with_reducible apply ev_complete
    | split

theorem ev_completeOpt {ref : Option CmdRef} {status : Nat} {shots : DWord} {dwells : Word} (h_host : Part.host ∈ L) (h : Evolves L s t) :
    Evolves L s (State.completeOpt t ref status shots dwells) := by
  unfold State.completeOpt
  try dsimp only
  repeat' first
    | with_reducible assumption
    | intro _
    | with_reducible apply ev_complete
    | split

theorem ev_openCmd {ref : CmdRef} (h_host : Part.host ∈ L) (h : Evolves L s t) :
    Evolves L s (State.openCmd t ref) := by
  unfold State.openCmd
  try dsimp only
  repeat' first
    | with_reducible assumption
    | intro _
    | with_reducible apply ev_modHost
    | split
    | (show _ = true; first | assumption | rfl)

theorem ev_bumpEpoch {cause : Nat} {tag : Nat} {ring : Nat} {writes : Nat} (h_regs : Part.regs ∈ L) (h_host : Part.host ∈ L) (h : Evolves L s t) :
    Evolves L s (State.bumpEpoch t cause tag ring writes) := by
  unfold State.bumpEpoch
  try dsimp only
  repeat' first
    | with_reducible assumption
    | intro _
    | with_reducible apply ev_wrapInc
    | with_reducible apply ev_post

end Sys2Proof.Machine
end

