-- ==== Sys2Proof/Laws/EvDumps.lean ====
section
/-! SUPPORT. What each operation of Machine/Dumps.lean may change, and that it keeps the invariant. -/

namespace Sys2Proof.Machine

variable {L : List Part} {s t : State}

theorem ev_modBuf {c : Nat} {k : Nat} {x : Bool} {f : Buf → Buf} (h_chans : Part.chans ∈ L) (h : Evolves L s t) :
    Evolves L s (State.modBuf t c k x f) := by
  unfold State.modBuf
  try dsimp only
  repeat' first
    | with_reducible assumption
    | intro _
    | with_reducible apply ev_modChan

theorem ev_clearFine {c : Nat} {k : Nat} {x : Bool} (h_bank : Part.bank ∈ L) (h : Evolves L s t) :
    Evolves L s (State.clearFine t c k x) := by
  unfold State.clearFine
  try dsimp only
  repeat' first
    | with_reducible assumption
    | intro _
    | with_reducible apply ev_clearBank
    | with_reducible apply ev_forAll

theorem ev_freeBuf {c : Nat} {k : Nat} {x : Bool} (h_bank : Part.bank ∈ L) (h_chans : Part.chans ∈ L) (h : Evolves L s t) :
    Evolves L s (State.freeBuf t c k x) := by
  unfold State.freeBuf
  try dsimp only
  repeat' first
    | with_reducible assumption
    | intro _
    | with_reducible apply ev_clearBank
    | with_reducible apply ev_clearFine
    | with_reducible apply ev_modBuf

theorem ev_putUnit {c : Nat} {u : Word × Word} (h_bank : Part.bank ∈ L) (h_crates : Part.crates ∈ L) (h : Evolves L s t) :
    Evolves L s (State.putUnit t c u) := by
  unfold State.putUnit
  try dsimp only
  repeat' first
    | with_reducible assumption
    | intro _
    | with_reducible apply ev_setBankWord
    | with_reducible apply ev_modCrate
    | split

theorem ev_clearRaw {c : Nat} {r : Raw} (h_bank : Part.bank ∈ L) (h : Evolves L s t) :
    Evolves L s (State.clearRaw t c r) := by
  unfold State.clearRaw
  try dsimp only
  repeat' first
    | with_reducible assumption
    | intro _
    | with_reducible apply ev_clearBank
    | with_reducible apply ev_forAll

theorem ev_endDump {c : Nat} {status : Nat} (h_regs : Part.regs ∈ L) (h_bank : Part.bank ∈ L) (h_crates : Part.crates ∈ L) (h_chans : Part.chans ∈ L) (h_host : Part.host ∈ L) (h : Evolves L s t) :
    Evolves L s (State.endDump t c status) := by
  unfold State.endDump
  try dsimp only
  repeat' first
    | with_reducible assumption
    | intro _
    | with_reducible apply ev_modCrate
    | with_reducible apply ev_putB
    | with_reducible apply ev_completeOpt
    | with_reducible apply ev_freeBuf
    | with_reducible apply ev_modBuf
    | with_reducible apply ev_forAll
    | split

theorem ev_stopRaw {c : Nat} {status : Nat} (h_crates : Part.crates ∈ L) (h : Evolves L s t) :
    Evolves L s (State.stopRaw t c status) := by
  unfold State.stopRaw
  try dsimp only
  repeat' first
    | with_reducible assumption
    | intro _
    | with_reducible apply ev_modCrate
    | split

theorem ev_endCaptures {c : Nat} {status : Nat} (h_regs : Part.regs ∈ L) (h_bank : Part.bank ∈ L) (h_crates : Part.crates ∈ L) (h_chans : Part.chans ∈ L) (h_host : Part.host ∈ L) (h : Evolves L s t) :
    Evolves L s (State.endCaptures t c status) := by
  unfold State.endCaptures
  try dsimp only
  repeat' first
    | with_reducible assumption
    | intro _
    | with_reducible apply ev_endDump
    | with_reducible apply ev_stopRaw

end Sys2Proof.Machine
end

