-- ==== Sys2Proof/Laws/EvReject.lean ====
section
/-! SUPPORT. What each operation of Machine/Reject.lean may change, and that it keeps the invariant. -/

namespace Sys2Proof.Machine

variable {L : List Part} {s t : State}

theorem ev_setSun {c : Nat} {k : Nat} {on : Bool} {a : Nat} (h_regs : Part.regs ∈ L) (h_host : Part.host ∈ L) (h : Evolves L s t) :
    Evolves L s (State.setSun t c k on a) := by
  unfold State.setSun
  try dsimp only
  repeat' first
    | with_reducible assumption
    | intro _
    | with_reducible apply ev_putB
    | with_reducible apply ev_put
    | with_reducible apply ev_post

theorem ev_sunStep {c : Nat} {k : Nat} {a : Nat} {beyond : Bool} (h_regs : Part.regs ∈ L) (h_chans : Part.chans ∈ L) (h_host : Part.host ∈ L) (h : Evolves L s t) :
    Evolves L s (State.sunStep t c k a beyond) := by
  unfold State.sunStep
  try dsimp only
  repeat' first
    | with_reducible assumption
    | intro _
    | with_reducible apply ev_setSun
    | with_reducible apply ev_modChan
    | with_reducible apply ev_put
    | split

theorem ev_holdSun {c : Nat} {k : Nat} (h_regs : Part.regs ∈ L) (h_chans : Part.chans ∈ L) (h_host : Part.host ∈ L) (h : Evolves L s t) :
    Evolves L s (State.holdSun t c k) := by
  unfold State.holdSun
  try dsimp only
  repeat' first
    | with_reducible assumption
    | intro _
    | with_reducible apply ev_setSun
    | with_reducible apply ev_modChan
    | with_reducible apply ev_doIf
    | split

theorem ev_takeAmbient {c : Nat} {k : Nat} (h_chans : Part.chans ∈ L) (h : Evolves L s t) :
    Evolves L s (State.takeAmbient t c k) := by
  unfold State.takeAmbient
  try dsimp only
  repeat' first
    | with_reducible assumption
    | intro _
    | with_reducible apply ev_modChan

theorem ev_skimChannel {c : Nat} {k : Nat} (h_regs : Part.regs ∈ L) (h_chans : Part.chans ∈ L) (h_host : Part.host ∈ L) (h : Evolves L s t) :
    Evolves L s (State.skimChannel t c k) := by
  unfold State.skimChannel
  try dsimp only
  repeat' first
    | with_reducible assumption
    | intro _
    | with_reducible apply ev_holdSun
    | with_reducible apply ev_sunStep
    | with_reducible apply ev_modChan
    | split

theorem ev_failAmbient {c : Nat} {k : Nat} (h_regs : Part.regs ∈ L) (h_chans : Part.chans ∈ L) (h_host : Part.host ∈ L) (h : Evolves L s t) :
    Evolves L s (State.failAmbient t c k) := by
  unfold State.failAmbient
  try dsimp only
  repeat' first
    | with_reducible assumption
    | intro _
    | with_reducible apply ev_modChan
    | with_reducible apply ev_putB
    | with_reducible apply ev_holdSun

theorem ev_weather {c : Nat} {wet : Nat} {d : Descr} (h_regs : Part.regs ∈ L) (h_host : Part.host ∈ L) (h : Evolves L s t) :
    Evolves L s (State.weather t c wet d) := by
  unfold State.weather
  try dsimp only
  repeat' first
    | with_reducible assumption
    | intro _
    | with_reducible apply ev_put
    | with_reducible apply ev_putB
    | with_reducible apply ev_post
    | split

theorem ev_windowLevel {c : Nat} {k : Nat} {w : Nat} {d : Descr} (h_regs : Part.regs ∈ L) (h_host : Part.host ∈ L) (h : Evolves L s t) :
    Evolves L s (State.windowLevel t c k w d) := by
  unfold State.windowLevel
  try dsimp only
  repeat' first
    | with_reducible assumption
    | intro _
    | with_reducible apply ev_put
    | with_reducible apply ev_putB
    | with_reducible apply ev_post
    | split

theorem ev_hopRequest {c : Nat} {k : Nat} {d : Descr} (h_regs : Part.regs ∈ L) (h_shot : Part.shot ∈ L) (h_host : Part.host ∈ L) (h : Evolves L s t) :
    Evolves L s (State.hopRequest t c k d) := by
  unfold State.hopRequest
  try dsimp only
  repeat' first
    | with_reducible assumption
    | intro _
    | with_reducible apply ev_bump
    | with_reducible apply ev_put
    | with_reducible apply ev_modShot
    | with_reducible apply ev_post
    | split

theorem ev_separate {c : Nat} {k : Nat} {count : Nat} {time : Nat} {d : Descr} (h_regs : Part.regs ∈ L) (h_shot : Part.shot ∈ L) (h_host : Part.host ∈ L) (h : Evolves L s t) :
    Evolves L s (State.separate t c k count time d) := by
  unfold State.separate
  try dsimp only
  repeat' first
    | with_reducible assumption
    | intro _
    | with_reducible apply ev_put
    | with_reducible apply ev_putB
    | with_reducible apply ev_post
    | with_reducible apply ev_hopRequest
    | split

end Sys2Proof.Machine
end

