-- ==== Sys2Proof/Laws/EvEmission.lean ====
section
/-! SUPPORT. What each operation of Machine/Emission.lean may change, and that it keeps the invariant. -/

namespace Sys2Proof.Machine

variable {L : List Part} {s t : State}

theorem ev_setChgState {e : Nat} {st : Nat} (h_regs : Part.regs ∈ L) (h : Evolves L s t) :
    Evolves L s (State.setChgState t e st) := by
  unfold State.setChgState
  try dsimp only
  repeat' first
    | with_reducible assumption
    | intro _
    | with_reducible apply ev_put
    | with_reducible apply ev_putB

theorem ev_startCharging {e : Nat} (h_regs : Part.regs ∈ L) (h_chgs : Part.chgs ∈ L) (h : Evolves L s t) :
    Evolves L s (State.startCharging t e) := by
  unfold State.startCharging
  try dsimp only
  repeat' first
    | with_reducible assumption
    | intro _
    | with_reducible apply ev_setChgState
    | with_reducible apply ev_modChg

theorem ev_dacChanges {d : Nat} {changed : Bool} (h_hk : Part.hk ∈ L) (h : Evolves L s t) :
    Evolves L s (State.dacChanges t d changed) := by
  unfold State.dacChanges
  try dsimp only
  repeat' first
    | with_reducible assumption
    | intro _
    | with_reducible apply ev_modHk
    | with_reducible apply ev_doIf
    | (show _ = true; first | assumption | rfl)

theorem ev_loadTarget {e : Nat} {code : Nat} (h_regs : Part.regs ∈ L) (h_chgs : Part.chgs ∈ L) (h_hk : Part.hk ∈ L) (h : Evolves L s t) :
    Evolves L s (State.loadTarget t e code) := by
  unfold State.loadTarget
  try dsimp only
  repeat' first
    | with_reducible assumption
    | intro _
    | with_reducible apply ev_startCharging
    | with_reducible apply ev_dacChanges
    | with_reducible apply ev_modChg
    | with_reducible apply ev_doIf

theorem ev_holdShot {e : Nat} {level : Nat} (h_regs : Part.regs ∈ L) (h_chgs : Part.chgs ∈ L) (h_hk : Part.hk ∈ L) (h : Evolves L s t) :
    Evolves L s (State.holdShot t e level) := by
  unfold State.holdShot
  try dsimp only
  repeat' first
    | with_reducible assumption
    | intro _
    | with_reducible apply ev_modChg
    | with_reducible apply ev_loadTarget
    | split

theorem ev_fire {e : Nat} (h_regs : Part.regs ∈ L) (h_emits : Part.emits ∈ L) (h_chgs : Part.chgs ∈ L) (h_hk : Part.hk ∈ L) (h : Evolves L s t) :
    Evolves L s (State.fire t e) := by
  unfold State.fire
  try dsimp only
  repeat' first
    | with_reducible assumption
    | intro _
    | with_reducible apply ev_dacChanges
    | with_reducible apply ev_modEmit
    | with_reducible apply ev_wrapInc
    | with_reducible apply ev_setChgState
    | with_reducible apply ev_modChg
    | split

theorem ev_startCycle {e : Nat} (h_chgs : Part.chgs ∈ L) (h : Evolves L s t) :
    Evolves L s (State.startCycle t e) := by
  unfold State.startCycle
  try dsimp only
  repeat' first
    | with_reducible assumption
    | intro _
    | with_reducible apply ev_modChg

theorem ev_gateOff {e : Nat} (h_chgs : Part.chgs ∈ L) (h : Evolves L s t) :
    Evolves L s (State.gateOff t e) := by
  unfold State.gateOff
  try dsimp only
  repeat' first
    | with_reducible assumption
    | intro _
    | with_reducible apply ev_modChg

theorem ev_failChg {e : Nat} (h_regs : Part.regs ∈ L) (h_chgs : Part.chgs ∈ L) (h : Evolves L s t) :
    Evolves L s (State.failChg t e) := by
  unfold State.failChg
  try dsimp only
  repeat' first
    | with_reducible assumption
    | intro _
    | with_reducible apply ev_setChgState
    | with_reducible apply ev_gateOff

theorem ev_monState {m : Nat} {st : Nat} {mv : Nat} (h_regs : Part.regs ∈ L) (h_host : Part.host ∈ L) (h : Evolves L s t) :
    Evolves L s (State.monState t m st mv) := by
  unfold State.monState
  try dsimp only
  repeat' first
    | with_reducible assumption
    | intro _
    | with_reducible apply ev_bump
    | with_reducible apply ev_post
    | with_reducible apply ev_put
    | with_reducible apply ev_doIf

theorem ev_monLeaves {m : Nat} {st : Nat} (h_regs : Part.regs ∈ L) (h_host : Part.host ∈ L) (h_free : Part.free ∈ L) (h : Evolves L s t) :
    Evolves L s (State.monLeaves t m st) := by
  unfold State.monLeaves
  try dsimp only
  repeat' first
    | with_reducible assumption
    | intro _
    | with_reducible apply ev_takeFreeWord
    | with_reducible apply ev_monState

theorem ev_failMon {m : Nat} (h_regs : Part.regs ∈ L) (h_host : Part.host ∈ L) (h_free : Part.free ∈ L) (h : Evolves L s t) :
    Evolves L s (State.failMon t m) := by
  unfold State.failMon
  try dsimp only
  repeat' first
    | with_reducible assumption
    | intro _
    | with_reducible apply ev_monLeaves

theorem ev_applyChg {e : Nat} (h_regs : Part.regs ∈ L) (h_chgs : Part.chgs ∈ L) (h : Evolves L s t) :
    Evolves L s (State.applyChg t e) := by
  unfold State.applyChg
  try dsimp only
  repeat' first
    | with_reducible assumption
    | intro _
    | with_reducible apply ev_setChgState
    | with_reducible apply ev_modChg
    | split

theorem ev_applyMon {m : Nat} (h_regs : Part.regs ∈ L) (h_mons : Part.mons ∈ L) (h_host : Part.host ∈ L) (h_free : Part.free ∈ L) (h : Evolves L s t) :
    Evolves L s (State.applyMon t m) := by
  unfold State.applyMon
  try dsimp only
  repeat' first
    | with_reducible assumption
    | intro _
    | with_reducible apply ev_monLeaves
    | with_reducible apply ev_modMon
    | split

theorem ev_slotFailed {b : CmpBlock} {x : CmpSlot} {y : CmpSlot} (h_regs : Part.regs ∈ L) (h_flt : Part.flt ∈ L) (h : Evolves L s t) :
    Evolves L s (State.slotFailed t b x y) := by
  unfold State.slotFailed
  try dsimp only
  repeat' first
    | with_reducible assumption
    | intro _
    | with_reducible apply ev_detect
    | with_reducible apply ev_bump
    | with_reducible apply ev_forAll
    | split

theorem ev_showPeaks (h_regs : Part.regs ∈ L) (h : Evolves L s t) :
    Evolves L s (State.showPeaks t) := by
  unfold State.showPeaks
  try dsimp only
  repeat' first
    | with_reducible assumption
    | intro _
    | with_reducible apply ev_raise

theorem ev_charge {e : Nat} (h_regs : Part.regs ∈ L) (h_emits : Part.emits ∈ L) (h_classes : Part.classes ∈ L) (h : Evolves L s t) :
    Evolves L s (State.charge t e) := by
  unfold State.charge
  try dsimp only
  repeat' first
    | with_reducible assumption
    | intro _
    | with_reducible apply ev_modEmit
    | with_reducible apply ev_setClass
    | with_reducible apply ev_showPeaks

theorem ev_rollLong (h_emits : Part.emits ∈ L) (h_classes : Part.classes ∈ L) (h_eye : Part.eye ∈ L) (h : Evolves L s t) :
    Evolves L s (State.rollLong t) := by
  unfold State.rollLong
  try dsimp only
  repeat' first
    | with_reducible assumption
    | intro _
    | with_reducible apply ev_setClass
    | with_reducible apply ev_modEmit
    | with_reducible apply ev_modEye
    | with_reducible apply ev_doIf
    | with_reducible apply ev_forAll

theorem ev_rollShort (h_emits : Part.emits ∈ L) (h_eye : Part.eye ∈ L) (h : Evolves L s t) :
    Evolves L s (State.rollShort t) := by
  unfold State.rollShort
  try dsimp only
  repeat' first
    | with_reducible assumption
    | intro _
    | with_reducible apply ev_modEmit
    | with_reducible apply ev_modEye
    | with_reducible apply ev_doIf
    | with_reducible apply ev_forAll

theorem ev_accountantEcc {ecc : Ecc} (h_regs : Part.regs ∈ L) (h_eye : Part.eye ∈ L) (h_host : Part.host ∈ L) (h_flt : Part.flt ∈ L) (h : Evolves L s t) :
    Evolves L s (State.accountantEcc t ecc) := by
  unfold State.accountantEcc
  try dsimp only
  repeat' first
    | with_reducible assumption
    | intro _
    | with_reducible apply ev_modEye
    | with_reducible apply ev_log
    | with_reducible apply ev_doIf

theorem ev_showPermit (h_regs : Part.regs ∈ L) (h_host : Part.host ∈ L) (h : Evolves L s t) :
    Evolves L s (State.showPermit t) := by
  unfold State.showPermit
  try dsimp only
  repeat' first
    | with_reducible assumption
    | intro _
    | with_reducible apply ev_put
    | with_reducible apply ev_putB
    | with_reducible apply ev_bump
    | with_reducible apply ev_post
    | with_reducible apply ev_doIf

theorem ev_eyeKey {q : Src} {value : Word} (h_regs : Part.regs ∈ L) (h_eye : Part.eye ∈ L) (h_host : Part.host ∈ L) (h_flt : Part.flt ∈ L) (h : Evolves L s t) :
    Evolves L s (State.eyeKey t q value) := by
  unfold State.eyeKey
  try dsimp only
  repeat' first
    | with_reducible assumption
    | intro _
    | with_reducible apply ev_modEye
    | with_reducible apply ev_refuseWrite
    | split

theorem ev_loadEye (h_regs : Part.regs ∈ L) (h : Evolves L s t) :
    Evolves L s (State.loadEye t) := by
  unfold State.loadEye
  try dsimp only
  repeat' first
    | with_reducible assumption
    | intro _
    | with_reducible apply ev_setReg
    | with_reducible apply ev_put
    | with_reducible apply ev_forAll
    | split

end Sys2Proof.Machine
end

