-- ==== Sys2Proof/Laws/EvFrontEnd.lean ====
section
/-! SUPPORT. What each operation of Machine/FrontEnd.lean may change, and that it keeps the invariant. -/

namespace Sys2Proof.Machine

variable {L : List Part} {s t : State}

theorem ev_showQuiet {c : Nat} (h_regs : Part.regs ∈ L) (h : Evolves L s t) :
    Evolves L s (State.showQuiet t c) := by
  unfold State.showQuiet
  try dsimp only
  repeat' first
    | with_reducible assumption
    | intro _
    | with_reducible apply ev_putB
    | with_reducible apply ev_doIf

theorem ev_resetRange {c : Nat} {k : Nat} (h_regs : Part.regs ∈ L) (h_chans : Part.chans ∈ L) (h : Evolves L s t) :
    Evolves L s (State.resetRange t c k) := by
  unfold State.resetRange
  try dsimp only
  repeat' first
    | with_reducible assumption
    | intro _
    | with_reducible apply ev_put
    | with_reducible apply ev_modChan

theorem ev_modeChange {c : Nat} (h_regs : Part.regs ∈ L) (h_crates : Part.crates ∈ L) (h_chans : Part.chans ∈ L) (h : Evolves L s t) :
    Evolves L s (State.modeChange t c) := by
  unfold State.modeChange
  try dsimp only
  repeat' first
    | with_reducible assumption
    | intro _
    | with_reducible apply ev_resetRange
    | with_reducible apply ev_modChan
    | with_reducible apply ev_putB
    | with_reducible apply ev_modCrate
    | with_reducible apply ev_doIf
    | with_reducible apply ev_forAll

theorem ev_carryMode {c : Nat} (h_regs : Part.regs ∈ L) (h_crates : Part.crates ∈ L) (h_chans : Part.chans ∈ L) (h : Evolves L s t) :
    Evolves L s (State.carryMode t c) := by
  unfold State.carryMode
  try dsimp only
  repeat' first
    | with_reducible assumption
    | intro _
    | with_reducible apply ev_modeChange
    | with_reducible apply ev_doIf

theorem ev_feModeWrite {q : Src} {c : Nat} {value : Word} (h_regs : Part.regs ∈ L) (h_crates : Part.crates ∈ L) (h_chans : Part.chans ∈ L) (h_host : Part.host ∈ L) (h_flt : Part.flt ∈ L) (h : Evolves L s t) :
    Evolves L s (State.feModeWrite t q c value) := by
  unfold State.feModeWrite
  try dsimp only
  repeat' first
    | with_reducible assumption
    | intro _
    | with_reducible apply ev_modCrate
    | with_reducible apply ev_put
    | with_reducible apply ev_carryMode
    | with_reducible apply ev_refuseWrite
    | with_reducible apply ev_doIf
    | split

theorem ev_showThr {c : Nat} {k : Nat} (h_regs : Part.regs ∈ L) (h : Evolves L s t) :
    Evolves L s (State.showThr t c k) := by
  unfold State.showThr
  try dsimp only
  repeat' first
    | with_reducible assumption
    | intro _
    | with_reducible apply ev_put
    | split

theorem ev_showBias {c : Nat} {k : Nat} (h_regs : Part.regs ∈ L) (h_chans : Part.chans ∈ L) (h : Evolves L s t) :
    Evolves L s (State.showBias t c k) := by
  unfold State.showBias
  try dsimp only
  repeat' first
    | with_reducible assumption
    | intro _
    | with_reducible apply ev_modChan
    | with_reducible apply ev_put
    | with_reducible apply ev_putB
    | with_reducible apply ev_doIf

theorem ev_stepThr {c : Nat} {k : Nat} (h_regs : Part.regs ∈ L) (h : Evolves L s t) :
    Evolves L s (State.stepThr t c k) := by
  unfold State.stepThr
  try dsimp only
  repeat' first
    | with_reducible assumption
    | intro _
    | with_reducible apply ev_put

theorem ev_stepBias {c : Nat} {k : Nat} (h_regs : Part.regs ∈ L) (h_chans : Part.chans ∈ L) (h : Evolves L s t) :
    Evolves L s (State.stepBias t c k) := by
  unfold State.stepBias
  try dsimp only
  repeat' first
    | with_reducible assumption
    | intro _
    | with_reducible apply ev_put
    | with_reducible apply ev_modChan
    | split

theorem ev_settingsStrobe (h_crates : Part.crates ∈ L) (h : Evolves L s t) :
    Evolves L s (State.settingsStrobe t) := by
  unfold State.settingsStrobe
  try dsimp only
  repeat' first
    | with_reducible assumption
    | intro _
    | with_reducible apply ev_modCrate
    | with_reducible apply ev_forAll

theorem ev_resultWritten {j : Nat} (h_crates : Part.crates ∈ L) (h : Evolves L s t) :
    Evolves L s (State.resultWritten t j) := by
  unfold State.resultWritten
  try dsimp only
  repeat' first
    | with_reducible assumption
    | intro _
    | with_reducible apply ev_settingsStrobe
    | with_reducible apply ev_doIf

theorem ev_trackStep {c : Nat} (h_regs : Part.regs ∈ L) (h : Evolves L s t) :
    Evolves L s (State.trackStep t c) := by
  unfold State.trackStep
  try dsimp only
  repeat' first
    | with_reducible assumption
    | intro _
    | with_reducible apply ev_putB
    | with_reducible apply ev_putInt
    | split

theorem ev_startChan {c : Nat} {k : Nat} (h_regs : Part.regs ∈ L) (h_chans : Part.chans ∈ L) (h : Evolves L s t) :
    Evolves L s (State.startChan t c k) := by
  unfold State.startChan
  try dsimp only
  repeat' first
    | with_reducible assumption
    | intro _
    | with_reducible apply ev_setReg
    | with_reducible apply ev_modChan
    | with_reducible apply ev_resetRange
    | with_reducible apply ev_doIf

theorem ev_stopChan {c : Nat} {k : Nat} (h_chans : Part.chans ∈ L) (h : Evolves L s t) :
    Evolves L s (State.stopChan t c k) := by
  unfold State.stopChan
  try dsimp only
  repeat' first
    | with_reducible assumption
    | intro _
    | with_reducible apply ev_modChan

theorem ev_applyChan {c : Nat} {k : Nat} (h_regs : Part.regs ∈ L) (h_chans : Part.chans ∈ L) (h : Evolves L s t) :
    Evolves L s (State.applyChan t c k) := by
  unfold State.applyChan
  try dsimp only
  repeat' first
    | with_reducible assumption
    | intro _
    | with_reducible apply ev_startChan
    | with_reducible apply ev_stopChan
    | with_reducible apply ev_showThr
    | with_reducible apply ev_showBias
    | split

theorem ev_showDegraded {c : Nat} (h_regs : Part.regs ∈ L) (h : Evolves L s t) :
    Evolves L s (State.showDegraded t c) := by
  unfold State.showDegraded
  try dsimp only
  repeat' first
    | with_reducible assumption
    | intro _
    | with_reducible apply ev_putB

theorem ev_showRemoved {c : Nat} {k : Nat} (h_regs : Part.regs ∈ L) (h : Evolves L s t) :
    Evolves L s (State.showRemoved t c k) := by
  unfold State.showRemoved
  try dsimp only
  repeat' first
    | with_reducible assumption
    | intro _
    | with_reducible apply ev_putB
    | with_reducible apply ev_showDegraded

theorem ev_toneReturn {c : Nat} {k : Nat} (h_regs : Part.regs ∈ L) (h_chans : Part.chans ∈ L) (h : Evolves L s t) :
    Evolves L s (State.toneReturn t c k) := by
  unfold State.toneReturn
  try dsimp only
  repeat' first
    | with_reducible assumption
    | intro _
    | with_reducible apply ev_modChan
    | with_reducible apply ev_showRemoved
    | with_reducible apply ev_doIf

theorem ev_trackOff {c : Nat} (h_regs : Part.regs ∈ L) (h : Evolves L s t) :
    Evolves L s (State.trackOff t c) := by
  unfold State.trackOff
  try dsimp only
  repeat' first
    | with_reducible assumption
    | intro _
    | with_reducible apply ev_putB
    | with_reducible apply ev_doIf

theorem ev_applyCrate {c : Nat} (h_regs : Part.regs ∈ L) (h_chans : Part.chans ∈ L) (h : Evolves L s t) :
    Evolves L s (State.applyCrate t c) := by
  unfold State.applyCrate
  try dsimp only
  repeat' first
    | with_reducible assumption
    | intro _
    | with_reducible apply ev_applyChan
    | with_reducible apply ev_toneReturn
    | with_reducible apply ev_trackOff
    | with_reducible apply ev_showQuiet
    | with_reducible apply ev_doIf
    | with_reducible apply ev_forAll

theorem ev_stepSettings {c : Nat} (h_regs : Part.regs ∈ L) (h_chans : Part.chans ∈ L) (h : Evolves L s t) :
    Evolves L s (State.stepSettings t c) := by
  unfold State.stepSettings
  try dsimp only
  repeat' first
    | with_reducible assumption
    | intro _
    | with_reducible apply ev_stepThr
    | with_reducible apply ev_stepBias
    | with_reducible apply ev_showThr
    | with_reducible apply ev_showBias
    | with_reducible apply ev_trackStep
    | with_reducible apply ev_forAll

theorem ev_ambientResult {c : Nat} {k : Nat} {mean : Int} (h_regs : Part.regs ∈ L) (h_chans : Part.chans ∈ L) (h_flt : Part.flt ∈ L) (h : Evolves L s t) :
    Evolves L s (State.ambientResult t c k mean) := by
  unfold State.ambientResult
  try dsimp only
  repeat' first
    | with_reducible assumption
    | intro _
    | with_reducible apply ev_modChan
    | with_reducible apply ev_putB
    | with_reducible apply ev_put
    | with_reducible apply ev_detect
    | with_reducible apply ev_doIf
    | split

theorem ev_toneWrite {q : Src} {c : Nat} {value : Word} (h_regs : Part.regs ∈ L) (h_crates : Part.crates ∈ L) (h_chans : Part.chans ∈ L) (h_host : Part.host ∈ L) (h_flt : Part.flt ∈ L) (h : Evolves L s t) :
    Evolves L s (State.toneWrite t q c value) := by
  unfold State.toneWrite
  try dsimp only
  repeat' first
    | with_reducible assumption
    | intro _
    | with_reducible apply ev_refuseWrite
    | with_reducible apply ev_putB
    | with_reducible apply ev_put
    | with_reducible apply ev_modChan
    | with_reducible apply ev_modCrate
    | with_reducible apply ev_doIf
    | with_reducible apply ev_forAll
    | split

theorem ev_toneResult {c : Nat} {k : Nat} {gMax : Nat} {m : ToneMeas} (h_regs : Part.regs ∈ L) (h_chans : Part.chans ∈ L) (h_host : Part.host ∈ L) (h_flt : Part.flt ∈ L) (h : Evolves L s t) :
    Evolves L s (State.toneResult t c k gMax m) := by
  unfold State.toneResult
  try dsimp only
  repeat' first
    | with_reducible assumption
    | intro _
    | with_reducible apply ev_put
    | with_reducible apply ev_putB
    | with_reducible apply ev_modChan
    | with_reducible apply ev_modFlt
    | with_reducible apply ev_post
    | with_reducible apply ev_doIf
    | split
    | (show _ = true; first | assumption | rfl)

theorem ev_showPend (h_regs : Part.regs ∈ L) (h : Evolves L s t) :
    Evolves L s (State.showPend t) := by
  unfold State.showPend
  try dsimp only
  repeat' first
    | with_reducible assumption
    | intro _
    | with_reducible apply ev_put

theorem ev_crateTurnsOff {c : Nat} (h_regs : Part.regs ∈ L) (h_crates : Part.crates ∈ L) (h : Evolves L s t) :
    Evolves L s (State.crateTurnsOff t c) := by
  unfold State.crateTurnsOff
  try dsimp only
  repeat' first
    | with_reducible assumption
    | intro _
    | with_reducible apply ev_put
    | with_reducible apply ev_putB
    | with_reducible apply ev_modCrate

end Sys2Proof.Machine
end

