-- ==== Sys2Proof/Laws/EvWindow.lean ====
section
/-! SUPPORT. What each operation of Machine/Window.lean may change, and that it keeps the invariant. -/

namespace Sys2Proof.Machine

variable {L : List Part} {s t : State}

theorem ev_calAccept {c : Nat} {i : Nat} {m : RingCal} (h_regs : Part.regs ∈ L) (h_slices : Part.slices ∈ L) (h_flt : Part.flt ∈ L) (h : Evolves L s t) :
    Evolves L s (State.calAccept t c i m) := by
  unfold State.calAccept
  try dsimp only
  repeat' first
    | with_reducible assumption
    | intro _
    | with_reducible apply ev_put
    | with_reducible apply ev_modSlice
    | with_reducible apply ev_detect
    | with_reducible apply ev_doIf
    | split

theorem ev_calReject {c : Nat} {i : Nat} (h_regs : Part.regs ∈ L) (h_flt : Part.flt ∈ L) (h : Evolves L s t) :
    Evolves L s (State.calReject t c i) := by
  unfold State.calReject
  try dsimp only
  repeat' first
    | with_reducible assumption
    | intro _
    | with_reducible apply ev_bump
    | with_reducible apply ev_put
    | with_reducible apply ev_detect
    | with_reducible apply ev_doIf

theorem ev_calibrate {c : Nat} {i : Nat} {m : Option RingCal} (h_regs : Part.regs ∈ L) (h_slices : Part.slices ∈ L) (h_flt : Part.flt ∈ L) (h : Evolves L s t) :
    Evolves L s (State.calibrate t c i m) := by
  unfold State.calibrate
  try dsimp only
  repeat' first
    | with_reducible assumption
    | intro _
    | with_reducible apply ev_calReject
    | with_reducible apply ev_calAccept
    | split

theorem ev_calibrateAll {c : Nat} {skip : Bool} {cals : List (Option RingCal)} (h_regs : Part.regs ∈ L) (h_slices : Part.slices ∈ L) (h_flt : Part.flt ∈ L) (h : Evolves L s t) :
    Evolves L s (State.calibrateAll t c skip cals) := by
  unfold State.calibrateAll
  try dsimp only
  repeat' first
    | with_reducible assumption
    | intro _
    | with_reducible apply ev_bump
    | with_reducible apply ev_calibrate
    | with_reducible apply ev_forAll
    | split

theorem ev_openWindow {c : Nat} {w : Win} {cals : List (Option RingCal)} (h_regs : Part.regs ∈ L) (h_crates : Part.crates ∈ L) (h_chans : Part.chans ∈ L) (h_slices : Part.slices ∈ L) (h_flt : Part.flt ∈ L) (h : Evolves L s t) :
    Evolves L s (State.openWindow t c w cals) := by
  unfold State.openWindow
  try dsimp only
  repeat' first
    | with_reducible assumption
    | intro _
    | with_reducible apply ev_modChan
    | with_reducible apply ev_modSlice
    | with_reducible apply ev_modCrate
    | with_reducible apply ev_calibrateAll
    | with_reducible apply ev_forAll
    | split

theorem ev_fifoPut {c : Nat} {x : FifoItem} (h_regs : Part.regs ∈ L) (h_crates : Part.crates ∈ L) (h : Evolves L s t) :
    Evolves L s (State.fifoPut t c x) := by
  unfold State.fifoPut
  try dsimp only
  repeat' first
    | with_reducible assumption
    | intro _
    | with_reducible apply ev_modCrate
    | with_reducible apply ev_raise
    | with_reducible apply ev_doIf

theorem ev_pushEvent {c : Nat} {e : Evt} (h_regs : Part.regs ∈ L) (h_crates : Part.crates ∈ L) (h : Evolves L s t) :
    Evolves L s (State.pushEvent t c e) := by
  unfold State.pushEvent
  try dsimp only
  repeat' first
    | with_reducible assumption
    | intro _
    | with_reducible apply ev_fifoPut
    | with_reducible apply ev_bump
    | with_reducible apply ev_modCrate
    | split

theorem ev_releaseOne {c : Nat} {k : Nat} (h_regs : Part.regs ∈ L) (h_crates : Part.crates ∈ L) (h_chans : Part.chans ∈ L) (h : Evolves L s t) :
    Evolves L s (State.releaseOne t c k) := by
  unfold State.releaseOne
  try dsimp only
  repeat' first
    | with_reducible assumption
    | intro _
    | with_reducible apply ev_pushEvent
    | with_reducible apply ev_modChan
    | with_reducible apply ev_doIf
    | split

theorem ev_tryMarker {c : Nat} (h_regs : Part.regs ∈ L) (h_crates : Part.crates ∈ L) (h : Evolves L s t) :
    Evolves L s (State.tryMarker t c) := by
  unfold State.tryMarker
  try dsimp only
  repeat' first
    | with_reducible assumption
    | intro _
    | with_reducible apply ev_fifoPut
    | with_reducible apply ev_modCrate
    | split

theorem ev_tryIdle {c : Nat} {k : Nat} (h_chans : Part.chans ∈ L) (h : Evolves L s t) :
    Evolves L s (State.tryIdle t c k) := by
  unfold State.tryIdle
  try dsimp only
  repeat' first
    | with_reducible assumption
    | intro _
    | with_reducible apply ev_modChan
    | with_reducible apply ev_doIf
    | split

theorem ev_drainChan {c : Nat} {k : Nat} (h_regs : Part.regs ∈ L) (h_crates : Part.crates ∈ L) (h_chans : Part.chans ∈ L) (h : Evolves L s t) :
    Evolves L s (State.drainChan t c k) := by
  unfold State.drainChan
  try dsimp only
  repeat' first
    | with_reducible assumption
    | intro _
    | with_reducible apply ev_releaseOne
    | with_reducible apply ev_tryIdle
    | with_reducible apply ev_forAll

theorem ev_drainCrate {c : Nat} (h_regs : Part.regs ∈ L) (h_crates : Part.crates ∈ L) (h_chans : Part.chans ∈ L) (h : Evolves L s t) :
    Evolves L s (State.drainCrate t c) := by
  unfold State.drainCrate
  try dsimp only
  repeat' first
    | with_reducible assumption
    | intro _
    | with_reducible apply ev_drainChan
    | with_reducible apply ev_tryMarker
    | with_reducible apply ev_forAll

theorem ev_drainAll {c : Nat} (h_regs : Part.regs ∈ L) (h_crates : Part.crates ∈ L) (h_chans : Part.chans ∈ L) (h : Evolves L s t) :
    Evolves L s (State.drainAll t c) := by
  unfold State.drainAll
  try dsimp only
  repeat' first
    | with_reducible assumption
    | intro _
    | with_reducible apply ev_drainCrate
    | with_reducible apply ev_forAll

theorem ev_release {c : Nat} {k : Nat} (h_regs : Part.regs ∈ L) (h_crates : Part.crates ∈ L) (h_chans : Part.chans ∈ L) (h : Evolves L s t) :
    Evolves L s (State.release t c k) := by
  unfold State.release
  try dsimp only
  repeat' first
    | with_reducible assumption
    | intro _
    | with_reducible apply ev_drainCrate
    | with_reducible apply ev_drainChan
    | with_reducible apply ev_tryMarker
    | with_reducible apply ev_forAll

theorem ev_tapHit {c : Nat} {i : Nat} {d : Nat} (h_slices : Part.slices ∈ L) (h : Evolves L s t) :
    Evolves L s (State.tapHit t c i d) := by
  unfold State.tapHit
  try dsimp only
  repeat' first
    | with_reducible assumption
    | intro _
    | with_reducible apply ev_modSlice
    | with_reducible apply ev_doIf

theorem ev_spareHit {c : Nat} {k : Nat} {d : Option Nat} (h_slices : Part.slices ∈ L) (h : Evolves L s t) :
    Evolves L s (State.spareHit t c k d) := by
  unfold State.spareHit
  try dsimp only
  repeat' first
    | with_reducible assumption
    | intro _
    | with_reducible apply ev_tapHit
    | with_reducible apply ev_doIf
    | split

theorem ev_stopCount {f : FRef} (h_regs : Part.regs ∈ L) (h : Evolves L s t) :
    Evolves L s (State.stopCount t f) := by
  unfold State.stopCount
  try dsimp only
  repeat' first
    | with_reducible assumption
    | intro _
    | with_reducible apply ev_bump

theorem ev_shadowNote {c : Nat} {k : Nat} {iv : Option Int} {spare : Option Int} (h_crates : Part.crates ∈ L) (h : Evolves L s t) :
    Evolves L s (State.shadowNote t c k iv spare) := by
  unfold State.shadowNote
  try dsimp only
  repeat' first
    | with_reducible assumption
    | intro _
    | with_reducible apply ev_modCrate
    | with_reducible apply ev_doIf

theorem ev_addPend {c : Nat} {k : Nat} {i : Nat} {e : Evt} {owner : Bool} {ready : Bool} {sel : Bool} {drop : Bool} (h_chans : Part.chans ∈ L) (h : Evolves L s t) :
    Evolves L s (State.addPend t c k i e owner ready sel drop) := by
  unfold State.addPend
  try dsimp only
  repeat' first
    | with_reducible assumption
    | intro _
    | with_reducible apply ev_modChan

theorem ev_plainStop {c : Nat} {k : Nat} {i : Nat} {e : Evt} (h_chans : Part.chans ∈ L) (h : Evolves L s t) :
    Evolves L s (State.plainStop t c k i e) := by
  unfold State.plainStop
  try dsimp only
  repeat' first
    | with_reducible assumption
    | intro _
    | with_reducible apply ev_addPend

theorem ev_atStart {c : Nat} {k : Nat} {i : Nat} {w : Win} {p : PreStop} {d16 : Int} {spare : Option Int} (h_regs : Part.regs ∈ L) (h_crates : Part.crates ∈ L) (h_chans : Part.chans ∈ L) (h_slices : Part.slices ∈ L) (h : Evolves L s t) :
    Evolves L s (State.atStart t c k i w p d16 spare) := by
  unfold State.atStart
  try dsimp only
  repeat' first
    | with_reducible assumption
    | intro _
    | with_reducible apply ev_tapHit
    | with_reducible apply ev_spareHit
    | with_reducible apply ev_plainStop
    | with_reducible apply ev_shadowNote
    | with_reducible apply ev_stopCount
    | with_reducible apply ev_modChan
    | with_reducible apply ev_doIf
    | split

theorem ev_spareAlone {c : Nat} {k : Nat} {lsb : Nat} {sp : Option Int} (h_regs : Part.regs ∈ L) (h : Evolves L s t) :
    Evolves L s (State.spareAlone t c k lsb sp).1 := by
  unfold State.spareAlone
  try dsimp only
  repeat' first
    | with_reducible assumption
    | intro _
    | with_reducible apply ev_stopCount
    | split

theorem ev_settleStop {c : Nat} {k : Nat} {i : Nat} {w : Win} {p : PreStop} (h_regs : Part.regs ∈ L) (h_crates : Part.crates ∈ L) (h_chans : Part.chans ∈ L) (h_slices : Part.slices ∈ L) (h : Evolves L s t) :
    Evolves L s (State.settleStop t c k i w p) := by
  unfold State.settleStop
  try dsimp only
  repeat' first
    | with_reducible assumption
    | intro _
    | with_reducible apply ev_stopCount
    | with_reducible apply ev_atStart
    | with_reducible apply ev_plainStop
    | with_reducible apply ev_tapHit
    | with_reducible apply ev_spareHit
    | with_reducible apply ev_shadowNote
    | with_reducible apply ev_spareAlone
    | with_reducible apply ev_doIf
    | split

theorem ev_startChannel {c : Nat} {k : Nat} {w : Win} (h_regs : Part.regs ∈ L) (h_crates : Part.crates ∈ L) (h_chans : Part.chans ∈ L) (h_slices : Part.slices ∈ L) (h : Evolves L s t) :
    Evolves L s (State.startChannel t c k w) := by
  unfold State.startChannel
  try dsimp only
  repeat' first
    | with_reducible assumption
    | intro _
    | with_reducible apply ev_settleStop
    | with_reducible apply ev_modChan
    | with_reducible apply ev_release
    | with_reducible apply ev_forAll
    | split

theorem ev_startStamps {c : Nat} {caps : List Capture} (h_slices : Part.slices ∈ L) (h : Evolves L s t) :
    Evolves L s (State.startStamps t c caps) := by
  unfold State.startStamps
  try dsimp only
  repeat' first
    | with_reducible assumption
    | intro _
    | with_reducible apply ev_modSlice
    | with_reducible apply ev_forAll

theorem ev_countWindow {c : Nat} {w : Win} {noStart : Bool} (h_crates : Part.crates ∈ L) (h : Evolves L s t) :
    Evolves L s (State.countWindow t c w noStart) := by
  unfold State.countWindow
  try dsimp only
  repeat' first
    | with_reducible assumption
    | intro _
    | with_reducible apply ev_modCrate

theorem ev_closeWindow {c : Nat} {w : Win} {noStart : Bool} {at_ : Nat} (h_regs : Part.regs ∈ L) (h_crates : Part.crates ∈ L) (h_chans : Part.chans ∈ L) (h : Evolves L s t) :
    Evolves L s (State.closeWindow t c w noStart at_) := by
  unfold State.closeWindow
  try dsimp only
  repeat' first
    | with_reducible assumption
    | intro _
    | with_reducible apply ev_countWindow
    | with_reducible apply ev_modCrate
    | with_reducible apply ev_modChan
    | with_reducible apply ev_drainAll
    | with_reducible apply ev_forAll
    | split

theorem ev_startEdge {c : Nat} {lsb : Nat} {caps : List Capture} {w : Win} (h_regs : Part.regs ∈ L) (h_crates : Part.crates ∈ L) (h_chans : Part.chans ∈ L) (h_slices : Part.slices ∈ L) (h : Evolves L s t) :
    Evolves L s (State.startEdge t c lsb caps w) := by
  unfold State.startEdge
  try dsimp only
  repeat' first
    | with_reducible assumption
    | intro _
    | with_reducible apply ev_startStamps
    | with_reducible apply ev_modCrate
    | with_reducible apply ev_startChannel
    | with_reducible apply ev_closeWindow
    | with_reducible apply ev_forAll
    | split

theorem ev_bothCount {i : Nat} {spare : Option Capture} {f : Nat → FRef} (h_regs : Part.regs ∈ L) (h : Evolves L s t) :
    Evolves L s (State.bothCount t i spare f) := by
  unfold State.bothCount
  try dsimp only
  repeat' first
    | with_reducible assumption
    | intro _
    | with_reducible apply ev_stopCount
    | with_reducible apply ev_doIf

theorem ev_preCrossing {c : Nat} {k : Nat} {i : Nat} {lsb : Nat} {w : Win} {cap : Capture} {spare : Option Capture} (h_regs : Part.regs ∈ L) (h_chans : Part.chans ∈ L) (h : Evolves L s t) :
    Evolves L s (State.preCrossing t c k i lsb w cap spare) := by
  unfold State.preCrossing
  try dsimp only
  repeat' first
    | with_reducible assumption
    | intro _
    | with_reducible apply ev_stopCount
    | with_reducible apply ev_bothCount
    | with_reducible apply ev_modChan
    | with_reducible apply ev_doIf
    | split

theorem ev_frontEvent {c : Nat} {k : Nat} {i : Nat} {lsb : Nat} {w : Win} {iv : Int} {atRes : Bool} {drop : Bool} (h_chans : Part.chans ∈ L) (h : Evolves L s t) :
    Evolves L s (State.frontEvent t c k i lsb w iv atRes drop) := by
  unfold State.frontEvent
  try dsimp only
  repeat' first
    | with_reducible assumption
    | intro _
    | with_reducible apply ev_modChan
    | with_reducible apply ev_addPend
    | split

theorem ev_mainStop {c : Nat} {k : Nat} {i : Nat} {lsb : Nat} {w : Win} {cap : Capture} {spare : Option Capture} {sp : Option Int} {iv : Int} {atRes : Bool} (h_crates : Part.crates ∈ L) (h_chans : Part.chans ∈ L) (h_slices : Part.slices ∈ L) (h : Evolves L s t) :
    Evolves L s (State.mainStop t c k i lsb w cap spare sp iv atRes) := by
  unfold State.mainStop
  try dsimp only
  repeat' first
    | with_reducible assumption
    | intro _
    | with_reducible apply ev_tapHit
    | with_reducible apply ev_spareHit
    | with_reducible apply ev_frontEvent
    | with_reducible apply ev_modChan
    | with_reducible apply ev_shadowNote
    | with_reducible apply ev_doIf

theorem ev_spareMain {c : Nat} {k : Nat} {lsb : Nat} {spare : Option Capture} (h_regs : Part.regs ∈ L) (h : Evolves L s t) :
    Evolves L s (State.spareMain t c k lsb spare).1 := by
  unfold State.spareMain
  try dsimp only
  repeat' first
    | with_reducible assumption
    | intro _
    | with_reducible apply ev_stopCount
    | split

theorem ev_mainCrossing {c : Nat} {k : Nat} {i : Nat} {lsb : Nat} {w : Win} {cap : Capture} {spare : Option Capture} (h_regs : Part.regs ∈ L) (h_crates : Part.crates ∈ L) (h_chans : Part.chans ∈ L) (h_slices : Part.slices ∈ L) (h : Evolves L s t) :
    Evolves L s (State.mainCrossing t c k i lsb w cap spare) := by
  unfold State.mainCrossing
  try dsimp only
  repeat' first
    | with_reducible assumption
    | intro _
    | with_reducible apply ev_spareMain
    | with_reducible apply ev_stopCount
    | with_reducible apply ev_shadowNote
    | with_reducible apply ev_frontEvent
    | with_reducible apply ev_mainStop
    | split

theorem ev_crossing {c : Nat} {k : Nat} {lsb : Nat} {w : Win} {cap : Capture} {spare : Option Capture} (h_regs : Part.regs ∈ L) (h_crates : Part.crates ∈ L) (h_chans : Part.chans ∈ L) (h_slices : Part.slices ∈ L) (h : Evolves L s t) :
    Evolves L s (State.crossing t c k lsb w cap spare) := by
  unfold State.crossing
  try dsimp only
  repeat' first
    | with_reducible assumption
    | intro _
    | with_reducible apply ev_modChan
    | with_reducible apply ev_preCrossing
    | with_reducible apply ev_mainCrossing
    | with_reducible apply ev_release
    | split

theorem ev_convert {c : Nat} {k : Nat} {n : Nat} {p : Pend} {q : Int} (h_regs : Part.regs ∈ L) (h_crates : Part.crates ∈ L) (h_chans : Part.chans ∈ L) (h : Evolves L s t) :
    Evolves L s (State.convert t c k n p q) := by
  unfold State.convert
  try dsimp only
  repeat' first
    | with_reducible assumption
    | intro _
    | with_reducible apply ev_modChan
    | with_reducible apply ev_put
    | with_reducible apply ev_release
    | with_reducible apply ev_doIf

end Sys2Proof.Machine
end

