-- ==== Sys2Proof/Laws/EvSpare.lean ====
section
/-! SUPPORT. What each operation of Machine/Spare.lean may change, and that it keeps the invariant. -/

namespace Sys2Proof.Machine

variable {L : List Part} {s t : State}

theorem ev_setRole {c : Nat} {i : Nat} {role : Nat} {k : Nat} (h_regs : Part.regs ∈ L) (h : Evolves L s t) :
    Evolves L s (State.setRole t c i role k) := by
  unfold State.setRole
  try dsimp only
  repeat' first
    | with_reducible assumption
    | intro _
    | with_reducible apply ev_put
    | with_reducible apply ev_doIf

theorem ev_logService {code : Nat} {kind : Nat} {index : Nat} {sub : Nat} {value : Nat} (h_regs : Part.regs ∈ L) (h_host : Part.host ∈ L) (h_flt : Part.flt ∈ L) (h : Evolves L s t) :
    Evolves L s (State.logService t code kind index sub value) := by
  unfold State.logService
  try dsimp only
  repeat' first
    | with_reducible assumption
    | intro _
    | with_reducible apply ev_log

theorem ev_endCal {c : Nat} (h_regs : Part.regs ∈ L) (h_crates : Part.crates ∈ L) (h : Evolves L s t) :
    Evolves L s (State.endCal t c) := by
  unfold State.endCal
  try dsimp only
  repeat' first
    | with_reducible assumption
    | intro _
    | with_reducible apply ev_setRole
    | with_reducible apply ev_modCrate
    | with_reducible apply ev_doIf
    | split

theorem ev_dropCal {c : Nat} (h_regs : Part.regs ∈ L) (h_crates : Part.crates ∈ L) (h : Evolves L s t) :
    Evolves L s (State.dropCal t c) := by
  unfold State.dropCal
  try dsimp only
  repeat' first
    | with_reducible assumption
    | intro _
    | with_reducible apply ev_endCal

theorem ev_removeChan {c : Nat} {k : Nat} {why : Nat} (h_regs : Part.regs ∈ L) (h_chans : Part.chans ∈ L) (h_host : Part.host ∈ L) (h_flt : Part.flt ∈ L) (h : Evolves L s t) :
    Evolves L s (State.removeChan t c k why) := by
  unfold State.removeChan
  try dsimp only
  repeat' first
    | with_reducible assumption
    | intro _
    | with_reducible apply ev_modChan
    | with_reducible apply ev_showRemoved
    | with_reducible apply ev_logService
    | with_reducible apply ev_doIf

theorem ev_retire {c : Nat} {i : Nat} {why : Nat} (h_regs : Part.regs ∈ L) (h_crates : Part.crates ∈ L) (h_chans : Part.chans ∈ L) (h_host : Part.host ∈ L) (h_flt : Part.flt ∈ L) (h : Evolves L s t) :
    Evolves L s (State.retire t c i why) := by
  unfold State.retire
  try dsimp only
  repeat' first
    | with_reducible assumption
    | intro _
    | with_reducible apply ev_dropCal
    | with_reducible apply ev_logService
    | with_reducible apply ev_removeChan
    | with_reducible apply ev_setRole
    | with_reducible apply ev_doIf
    | split

theorem ev_settleRoles {c : Nat} (h_regs : Part.regs ∈ L) (h_crates : Part.crates ∈ L) (h : Evolves L s t) :
    Evolves L s (State.settleRoles t c) := by
  unfold State.settleRoles
  try dsimp only
  repeat' first
    | with_reducible assumption
    | intro _
    | with_reducible apply ev_endCal
    | with_reducible apply ev_doIf

theorem ev_newTables {c : Nat} (h_regs : Part.regs ∈ L) (h_slices : Part.slices ∈ L) (h : Evolves L s t) :
    Evolves L s (State.newTables t c) := by
  unfold State.newTables
  try dsimp only
  repeat' first
    | with_reducible assumption
    | intro _
    | with_reducible apply ev_put
    | with_reducible apply ev_putInt
    | with_reducible apply ev_modSlice
    | with_reducible apply ev_forAll
    | split

theorem ev_planTies {q : List Nat} {c : Nat} (h_regs : Part.regs ∈ L) (h_crates : Part.crates ∈ L) (h_host : Part.host ∈ L) (h_flt : Part.flt ∈ L) (h : Evolves L s t) :
    Evolves L s (State.planTies q t c) := by
  induction q generalizing t with
  | nil => exact h
  | cons x q ih =>
    unfold State.planTies
    split
    · exact ev_modCrate h_crates (ev_setRole h_regs h)
    · exact ih (ev_logService h_regs h_host h_flt (ev_modCrate h_crates h))

theorem ev_planTie {c : Nat} (h_regs : Part.regs ∈ L) (h_crates : Part.crates ∈ L) (h_host : Part.host ∈ L) (h_flt : Part.flt ∈ L) (h : Evolves L s t) :
    Evolves L s (State.planTie t c) := by
  unfold State.planTie
  try dsimp only
  repeat' first
    | with_reducible assumption
    | intro _
    | with_reducible apply ev_planTies
    | with_reducible apply ev_doIf

theorem ev_planShadow {c : Nat} {safety : Bool} (h_regs : Part.regs ∈ L) (h_crates : Part.crates ∈ L) (h : Evolves L s t) :
    Evolves L s (State.planShadow t c safety) := by
  unfold State.planShadow
  try dsimp only
  repeat' first
    | with_reducible assumption
    | intro _
    | with_reducible apply ev_dropCal
    | with_reducible apply ev_setRole
    | with_reducible apply ev_modCrate
    | with_reducible apply ev_doIf
    | split

theorem ev_visit {c : Nat} {k : Nat} (h_regs : Part.regs ∈ L) (h_crates : Part.crates ∈ L) (h : Evolves L s t) :
    Evolves L s (State.visit t c k) := by
  unfold State.visit
  try dsimp only
  repeat' first
    | with_reducible assumption
    | intro _
    | with_reducible apply ev_modCrate
    | with_reducible apply ev_put
    | with_reducible apply ev_setRole
    | with_reducible apply ev_doIf
    | split

theorem ev_planVisit {c : Nat} (h_regs : Part.regs ∈ L) (h_crates : Part.crates ∈ L) (h : Evolves L s t) :
    Evolves L s (State.planVisit t c) := by
  unfold State.planVisit
  try dsimp only
  repeat' first
    | with_reducible assumption
    | intro _
    | with_reducible apply ev_visit
    | with_reducible apply ev_modCrate
    | split

theorem ev_planRetest {c : Nat} (h_crates : Part.crates ∈ L) (h : Evolves L s t) :
    Evolves L s (State.planRetest t c) := by
  unfold State.planRetest
  try dsimp only
  repeat' first
    | with_reducible assumption
    | intro _
    | with_reducible apply ev_modCrate
    | split

theorem ev_planDwell {c : Nat} {safety : Bool} (h_regs : Part.regs ∈ L) (h_crates : Part.crates ∈ L) (h_host : Part.host ∈ L) (h_flt : Part.flt ∈ L) (h : Evolves L s t) :
    Evolves L s (State.planDwell t c safety) := by
  unfold State.planDwell
  try dsimp only
  repeat' first
    | with_reducible assumption
    | intro _
    | with_reducible apply ev_settleRoles
    | with_reducible apply ev_planTie
    | with_reducible apply ev_planShadow
    | with_reducible apply ev_planVisit
    | with_reducible apply ev_planRetest

theorem ev_shadowCompare {c : Nat} {d : Dwell} (h_regs : Part.regs ∈ L) (h_crates : Part.crates ∈ L) (h_flt : Part.flt ∈ L) (h : Evolves L s t) :
    Evolves L s (State.shadowCompare t c d) := by
  unfold State.shadowCompare
  try dsimp only
  repeat' first
    | with_reducible assumption
    | intro _
    | with_reducible apply ev_bump
    | with_reducible apply ev_modCrate
    | with_reducible apply ev_detect
    | with_reducible apply ev_doIf
    | split

theorem ev_testAreas {c : Nat} {r : Retest} (h_bank : Part.bank ∈ L) (h : Evolves L s t) :
    Evolves L s (State.testAreas t c r) := by
  unfold State.testAreas
  try dsimp only
  repeat' first
    | with_reducible assumption
    | intro _
    | with_reducible apply ev_clearBank
    | with_reducible apply ev_forAll
    | with_reducible apply ev_doIf

theorem ev_endRetest {c : Nat} {m : RetestMeas} (h_regs : Part.regs ∈ L) (h_bank : Part.bank ∈ L) (h_crates : Part.crates ∈ L) (h_flt : Part.flt ∈ L) (h : Evolves L s t) :
    Evolves L s (State.endRetest t c m) := by
  unfold State.endRetest
  try dsimp only
  repeat' first
    | with_reducible assumption
    | intro _
    | with_reducible apply ev_testAreas
    | with_reducible apply ev_modCrate
    | with_reducible apply ev_modFlt
    | with_reducible apply ev_showPend
    | split
    | (show _ = true; first | assumption | rfl)

theorem ev_closeMarker {c : Nat} {d : Dwell} {early : Option EarlyWhy} {lost : BitVec 16} (h_regs : Part.regs ∈ L) (h_crates : Part.crates ∈ L) (h : Evolves L s t) :
    Evolves L s (State.closeMarker t c d early lost) := by
  unfold State.closeMarker
  try dsimp only
  repeat' first
    | with_reducible assumption
    | intro _
    | with_reducible apply ev_fifoPut

theorem ev_closeDwell {c : Nat} {d : Dwell} {m : RetestMeas} (h_regs : Part.regs ∈ L) (h_bank : Part.bank ∈ L) (h_crates : Part.crates ∈ L) (h_chans : Part.chans ∈ L) (h_slices : Part.slices ∈ L) (h_flt : Part.flt ∈ L) (h : Evolves L s t) :
    Evolves L s (State.closeDwell t c d m) := by
  unfold State.closeDwell
  try dsimp only
  repeat' first
    | with_reducible assumption
    | intro _
    | with_reducible apply ev_closeMarker
    | with_reducible apply ev_shadowCompare
    | with_reducible apply ev_newTables
    | with_reducible apply ev_modCrate
    | with_reducible apply ev_endRetest
    | with_reducible apply ev_settleRoles
    | with_reducible apply ev_applyCrate
    | with_reducible apply ev_drainAll
    | with_reducible apply ev_doIf

theorem ev_closeEarly {c : Nat} {why : EarlyWhy} (h_regs : Part.regs ∈ L) (h_crates : Part.crates ∈ L) (h_chans : Part.chans ∈ L) (h_flt : Part.flt ∈ L) (h : Evolves L s t) :
    Evolves L s (State.closeEarly t c why) := by
  unfold State.closeEarly
  try dsimp only
  repeat' first
    | with_reducible assumption
    | intro _
    | with_reducible apply ev_drainAll
    | with_reducible apply ev_modCrate
    | with_reducible apply ev_closeMarker
    | with_reducible apply ev_shadowCompare
    | split

theorem ev_closeAllEarly {c : Nat} {why : EarlyWhy} (h_regs : Part.regs ∈ L) (h_crates : Part.crates ∈ L) (h_chans : Part.chans ∈ L) (h_flt : Part.flt ∈ L) (h : Evolves L s t) :
    Evolves L s (State.closeAllEarly t c why) := by
  unfold State.closeAllEarly
  try dsimp only
  repeat' first
    | with_reducible assumption
    | intro _
    | with_reducible apply ev_dropCal
    | with_reducible apply ev_closeEarly
    | with_reducible apply ev_modCrate
    | with_reducible apply ev_showQuiet
    | with_reducible apply ev_doIf

theorem ev_stopDwell {c : Nat} (h_regs : Part.regs ∈ L) (h_crates : Part.crates ∈ L) (h_chans : Part.chans ∈ L) (h_slices : Part.slices ∈ L) (h_flt : Part.flt ∈ L) (h : Evolves L s t) :
    Evolves L s (State.stopDwell t c) := by
  unfold State.stopDwell
  try dsimp only
  repeat' first
    | with_reducible assumption
    | intro _
    | with_reducible apply ev_stepSettings
    | with_reducible apply ev_closeAllEarly
    | with_reducible apply ev_newTables
    | with_reducible apply ev_applyCrate
    | with_reducible apply ev_doIf

theorem ev_chargeCalDone {c : Nat} {i : Nat} {meas : Option ChargeCal} (h_crates : Part.crates ∈ L) (h_slices : Part.slices ∈ L) (h_flt : Part.flt ∈ L) (h : Evolves L s t) :
    Evolves L s (State.chargeCalDone t c i meas) := by
  unfold State.chargeCalDone
  try dsimp only
  repeat' first
    | with_reducible assumption
    | intro _
    | with_reducible apply ev_modCrate
    | with_reducible apply ev_modSlice
    | with_reducible apply ev_detect
    | split

theorem ev_tieMeasure {c : Nat} {i : Nat} {l : List (Option RingCal)} (h_regs : Part.regs ∈ L) (h : Evolves L s t) :
    Evolves L s (State.tieMeasure t c i l) := by
  unfold State.tieMeasure
  try dsimp only
  repeat' first
    | with_reducible assumption
    | intro _
    | with_reducible apply ev_put
    | with_reducible apply ev_putB

theorem ev_applyTie {c : Nat} {r : TieRes} (h_regs : Part.regs ∈ L) (h_crates : Part.crates ∈ L) (h_chans : Part.chans ∈ L) (h_host : Part.host ∈ L) (h_flt : Part.flt ∈ L) (h : Evolves L s t) :
    Evolves L s (State.applyTie t c r) := by
  unfold State.applyTie
  try dsimp only
  repeat' first
    | with_reducible assumption
    | intro _
    | with_reducible apply ev_modCrate
    | with_reducible apply ev_logService
    | with_reducible apply ev_retire
    | with_reducible apply ev_setRole
    | with_reducible apply ev_removeChan
    | with_reducible apply ev_dropCal
    | with_reducible apply ev_doIf
    | split

theorem ev_clearSuspect {c : Nat} (h_regs : Part.regs ∈ L) (h_host : Part.host ∈ L) (h_flt : Part.flt ∈ L) (h : Evolves L s t) :
    Evolves L s (State.clearSuspect t c) := by
  unfold State.clearSuspect
  try dsimp only
  repeat' first
    | with_reducible assumption
    | intro _
    | with_reducible apply ev_setRole
    | with_reducible apply ev_logService
    | split

theorem ev_requestRestore {c : Nat} {chans : BitVec 16} {spare : Bool} (h_regs : Part.regs ∈ L) (h_crates : Part.crates ∈ L) (h : Evolves L s t) :
    Evolves L s (State.requestRestore t c chans spare) := by
  unfold State.requestRestore
  try dsimp only
  repeat' first
    | with_reducible assumption
    | intro _
    | with_reducible apply ev_modCrate
    | with_reducible apply ev_putB
    | with_reducible apply ev_doIf

theorem ev_probation {elem : Nat} (h_flt : Part.flt ∈ L) (h : Evolves L s t) :
    Evolves L s (State.probation t elem) := by
  unfold State.probation
  refine ev_modFlt h_flt (fun x hx => ?_) h
  rw [Flt.wf_iff] at hx ⊢
  have hp := sparseWf_set elem (t.clk.ftick + 1) hx.2.1
  exact ⟨sparseWf_filter _ hx.1, hp, hx.2.2⟩

theorem ev_restoreSlice {c : Nat} {k : Nat} (h_regs : Part.regs ∈ L) (h_crates : Part.crates ∈ L) (h_chans : Part.chans ∈ L) (h_flt : Part.flt ∈ L) (h : Evolves L s t) :
    Evolves L s (State.restoreSlice t c k) := by
  unfold State.restoreSlice
  try dsimp only
  repeat' first
    | with_reducible assumption
    | intro _
    | with_reducible apply ev_dropCal
    | with_reducible apply ev_setRole
    | with_reducible apply ev_put
    | with_reducible apply ev_modChan
    | with_reducible apply ev_showRemoved
    | with_reducible apply ev_probation
    | with_reducible apply ev_doIf

theorem ev_applyRestore {c : Nat} (h_regs : Part.regs ∈ L) (h_crates : Part.crates ∈ L) (h_chans : Part.chans ∈ L) (h_host : Part.host ∈ L) (h_flt : Part.flt ∈ L) (h : Evolves L s t) :
    Evolves L s (State.applyRestore t c) := by
  unfold State.applyRestore
  try dsimp only
  repeat' first
    | with_reducible assumption
    | intro _
    | with_reducible apply ev_restoreSlice
    | with_reducible apply ev_logService
    | with_reducible apply ev_modChan
    | with_reducible apply ev_showRemoved
    | with_reducible apply ev_probation
    | with_reducible apply ev_setRole
    | with_reducible apply ev_put
    | with_reducible apply ev_modCrate
    | with_reducible apply ev_putB
    | with_reducible apply ev_forAll
    | with_reducible apply ev_doIf
    | split

end Sys2Proof.Machine
end

