-- ==== Sys2Proof/Laws/EvZoneFeed.lean ====
section
/-! SUPPORT. What each operation of Machine/ZoneFeed.lean may change, and that it keeps the invariant. -/

namespace Sys2Proof.Machine

variable {L : List Part} {s t : State}

theorem ev_zoneExpect {c : Nat} {angle : BitVec 16} (h_saf : Part.saf ∈ L) (h : Evolves L s t) :
    Evolves L s (State.zoneExpect t c angle) := by
  unfold State.zoneExpect
  try dsimp only
  repeat' first
    | with_reducible assumption
    | intro _
    | with_reducible apply ev_modSaf
    | (show _ = true; first | assumption | rfl)
    | (rename_i hw; rw [Saf.wf_iff] at hw ⊢; obtain ⟨wa, wb, wc, wd, we, wg⟩ := hw; refine ⟨?_, ?_, ?_, ?_, ?_, ?_⟩ <;> first | assumption | rfl | (exact sparseWf_set _ _ (by assumption)))

theorem ev_zoneDeliver {c : Nat} {k : Nat} {angle : BitVec 16} {sweep : Nat} {r : Option (List ZRet)} (h_saf : Part.saf ∈ L) (h : Evolves L s t) :
    Evolves L s (State.zoneDeliver t c k angle sweep r) := by
  unfold State.zoneDeliver
  try dsimp only
  repeat' first
    | with_reducible assumption
    | intro _
    | with_reducible apply ev_modSaf
    | split
    | (show _ = true; first | assumption | rfl)
    | (rename_i hw; rw [Saf.wf_iff] at hw ⊢; obtain ⟨wa, wb, wc, wd, we, wg⟩ := hw; refine ⟨?_, ?_, ?_, ?_, ?_, ?_⟩ <;> first | assumption | rfl | (exact sparseWf_set _ _ (by assumption)))

theorem ev_zoneMissing {c : Nat} {angle : BitVec 16} {sweep : Nat} (h_saf : Part.saf ∈ L) (h : Evolves L s t) :
    Evolves L s (State.zoneMissing t c angle sweep) := by
  unfold State.zoneMissing
  try dsimp only
  repeat' first
    | with_reducible assumption
    | intro _
    | with_reducible apply ev_zoneDeliver
    | with_reducible apply ev_forAll

end Sys2Proof.Machine
end

