-- ==== Sys2Proof/Laws/EvShot.lean ====
section
/-! SUPPORT. What each operation of Machine/Shot.lean may change, and that it keeps the invariant. -/

namespace Sys2Proof.Machine

variable {L : List Part} {s t : State}

theorem ev_showShot (h_regs : Part.regs ∈ L) (h : Evolves L s t) :
    Evolves L s (State.showShot t) := by
  unfold State.showShot
  try dsimp only
  repeat' first
    | with_reducible assumption
    | intro _
    | with_reducible apply ev_put
    | with_reducible apply ev_putB
    | with_reducible apply ev_doIf
    | split

theorem ev_setEngine {n : Nat} (h_regs : Part.regs ∈ L) (h : Evolves L s t) :
    Evolves L s (State.setEngine t n) := by
  unfold State.setEngine
  try dsimp only
  repeat' first
    | with_reducible assumption
    | intro _
    | with_reducible apply ev_put
    | with_reducible apply ev_showShot

theorem ev_setShotCount {n : DWord} (h_regs : Part.regs ∈ L) (h : Evolves L s t) :
    Evolves L s (State.setShotCount t n) := by
  unfold State.setShotCount
  try dsimp only
  repeat' first
    | with_reducible assumption
    | intro _
    | with_reducible apply ev_setReg

theorem ev_writeStaged {es : List Entry} (h_regs : Part.regs ∈ L) (h_shot : Part.shot ∈ L) (h : Evolves L s t) :
    Evolves L s (State.writeStaged t es) := by
  unfold State.writeStaged
  try dsimp only
  repeat' first
    | with_reducible assumption
    | intro _
    | with_reducible apply ev_modShot
    | with_reducible apply ev_showShot
    | split

theorem ev_doSwap (h_regs : Part.regs ∈ L) (h_shot : Part.shot ∈ L) (h_host : Part.host ∈ L) (h : Evolves L s t) :
    Evolves L s (State.doSwap t) := by
  unfold State.doSwap
  try dsimp only
  repeat' first
    | with_reducible assumption
    | intro _
    | with_reducible apply ev_putB
    | with_reducible apply ev_modShot
    | with_reducible apply ev_showShot
    | with_reducible apply ev_bumpEpoch
    | with_reducible apply ev_complete
    | split

theorem ev_holdNext (h_regs : Part.regs ∈ L) (h_chgs : Part.chgs ∈ L) (h_hk : Part.hk ∈ L) (h : Evolves L s t) :
    Evolves L s (State.holdNext t) := by
  unfold State.holdNext
  try dsimp only
  repeat' first
    | with_reducible assumption
    | intro _
    | with_reducible apply ev_holdShot
    | with_reducible apply ev_forAll
    | split

theorem ev_startEntry {start : Nat} (h_regs : Part.regs ∈ L) (h_shot : Part.shot ∈ L) (h : Evolves L s t) :
    Evolves L s (State.startEntry t start) := by
  unfold State.startEntry
  try dsimp only
  repeat' first
    | with_reducible assumption
    | intro _
    | with_reducible apply ev_modShot
    | with_reducible apply ev_setEngine
    | split

theorem ev_chainNow (h_regs : Part.regs ∈ L) (h_shot : Part.shot ∈ L) (h : Evolves L s t) :
    Evolves L s (State.chainNow t) := by
  unfold State.chainNow
  try dsimp only
  repeat' first
    | with_reducible assumption
    | intro _
    | with_reducible apply ev_startEntry
    | with_reducible apply ev_doIf

theorem ev_dueSwap (h_regs : Part.regs ∈ L) (h_shot : Part.shot ∈ L) (h_host : Part.host ∈ L) (h : Evolves L s t) :
    Evolves L s (State.dueSwap t) := by
  unfold State.dueSwap
  try dsimp only
  repeat' first
    | with_reducible assumption
    | intro _
    | with_reducible apply ev_chainNow
    | with_reducible apply ev_doSwap
    | with_reducible apply ev_doIf

theorem ev_loadTable {c : Cmd} (h_regs : Part.regs ∈ L) (h_shot : Part.shot ∈ L) (h_host : Part.host ∈ L) (h : Evolves L s t) :
    Evolves L s (State.loadTable t c) := by
  unfold State.loadTable
  try dsimp only
  repeat' first
    | with_reducible assumption
    | intro _
    | with_reducible apply ev_fail
    | with_reducible apply ev_writeStaged
    | with_reducible apply ev_complete
    | with_reducible apply ev_openCmd
    | with_reducible apply ev_modShot
    | with_reducible apply ev_showShot
    | with_reducible apply ev_dueSwap
    | split

theorem ev_cancelSwap (h_regs : Part.regs ∈ L) (h_shot : Part.shot ∈ L) (h_host : Part.host ∈ L) (h : Evolves L s t) :
    Evolves L s (State.cancelSwap t) := by
  unfold State.cancelSwap
  try dsimp only
  repeat' first
    | with_reducible assumption
    | intro _
    | with_reducible apply ev_modShot
    | with_reducible apply ev_showShot
    | with_reducible apply ev_complete
    | split

theorem ev_toIdle {status : Nat} (h_regs : Part.regs ∈ L) (h_bank : Part.bank ∈ L) (h_crates : Part.crates ∈ L) (h_chans : Part.chans ∈ L) (h_shot : Part.shot ∈ L) (h_host : Part.host ∈ L) (h : Evolves L s t) :
    Evolves L s (State.toIdle t status) := by
  unfold State.toIdle
  try dsimp only
  repeat' first
    | with_reducible assumption
    | intro _
    | with_reducible apply ev_modShot
    | with_reducible apply ev_setEngine
    | with_reducible apply ev_cancelSwap
    | with_reducible apply ev_complete
    | with_reducible apply ev_endCaptures
    | with_reducible apply ev_forAll
    | split

theorem ev_startEngine {ref : CmdRef} (h_regs : Part.regs ∈ L) (h_shot : Part.shot ∈ L) (h_emits : Part.emits ∈ L) (h_chgs : Part.chgs ∈ L) (h_host : Part.host ∈ L) (h_hk : Part.hk ∈ L) (h : Evolves L s t) :
    Evolves L s (State.startEngine t ref) := by
  unfold State.startEngine
  try dsimp only
  repeat' first
    | with_reducible assumption
    | intro _
    | with_reducible apply ev_openCmd
    | with_reducible apply ev_setShotCount
    | with_reducible apply ev_modShot
    | with_reducible apply ev_modEmit
    | with_reducible apply ev_setEngine
    | with_reducible apply ev_holdNext
    | with_reducible apply ev_chainNow
    | with_reducible apply ev_forAll

theorem ev_stopEngine (h_regs : Part.regs ∈ L) (h_bank : Part.bank ∈ L) (h_crates : Part.crates ∈ L) (h_chans : Part.chans ∈ L) (h_shot : Part.shot ∈ L) (h_host : Part.host ∈ L) (h : Evolves L s t) :
    Evolves L s (State.stopEngine t) := by
  unfold State.stopEngine
  try dsimp only
  repeat' first
    | with_reducible assumption
    | intro _
    | with_reducible apply ev_modShot
    | with_reducible apply ev_setEngine
    | with_reducible apply ev_toIdle
    | split

theorem ev_afterEntry {e : Nat} (h_regs : Part.regs ∈ L) (h_bank : Part.bank ∈ L) (h_crates : Part.crates ∈ L) (h_chans : Part.chans ∈ L) (h_shot : Part.shot ∈ L) (h_host : Part.host ∈ L) (h : Evolves L s t) :
    Evolves L s (State.afterEntry t e) := by
  unfold State.afterEntry
  try dsimp only
  repeat' first
    | with_reducible assumption
    | intro _
    | with_reducible apply ev_toIdle
    | with_reducible apply ev_showShot
    | with_reducible apply ev_startEntry
    | with_reducible apply ev_setEngine
    | split

theorem ev_lastWindow {c : Nat} (h_regs : Part.regs ∈ L) (h_crates : Part.crates ∈ L) (h_chans : Part.chans ∈ L) (h : Evolves L s t) :
    Evolves L s (State.lastWindow t c) := by
  unfold State.lastWindow
  try dsimp only
  repeat' first
    | with_reducible assumption
    | intro _
    | with_reducible apply ev_stepSettings
    | with_reducible apply ev_modCrate
    | with_reducible apply ev_drainAll
    | with_reducible apply ev_doIf

theorem ev_endEntry {r : Run} (h_regs : Part.regs ∈ L) (h_bank : Part.bank ∈ L) (h_crates : Part.crates ∈ L) (h_chans : Part.chans ∈ L) (h_shot : Part.shot ∈ L) (h_host : Part.host ∈ L) (h : Evolves L s t) :
    Evolves L s (State.endEntry t r) := by
  unfold State.endEntry
  try dsimp only
  repeat' first
    | with_reducible assumption
    | intro _
    | with_reducible apply ev_lastWindow
    | with_reducible apply ev_modShot
    | with_reducible apply ev_dueSwap
    | with_reducible apply ev_afterEntry
    | with_reducible apply ev_forAll

theorem ev_closeCrateWindow {c : Nat} {rep : Nat} (h_regs : Part.regs ∈ L) (h_crates : Part.crates ∈ L) (h_chans : Part.chans ∈ L) (h : Evolves L s t) :
    Evolves L s (State.closeCrateWindow t c rep) := by
  unfold State.closeCrateWindow
  try dsimp only
  repeat' first
    | with_reducible assumption
    | intro _
    | with_reducible apply ev_closeWindow
    | with_reducible apply ev_modCrate
    | split

theorem ev_closeRepeat {r : Run} (h_regs : Part.regs ∈ L) (h_bank : Part.bank ∈ L) (h_crates : Part.crates ∈ L) (h_chans : Part.chans ∈ L) (h_shot : Part.shot ∈ L) (h_host : Part.host ∈ L) (h : Evolves L s t) :
    Evolves L s (State.closeRepeat t r) := by
  unfold State.closeRepeat
  try dsimp only
  repeat' first
    | with_reducible assumption
    | intro _
    | with_reducible apply ev_closeCrateWindow
    | with_reducible apply ev_endEntry
    | with_reducible apply ev_modShot
    | with_reducible apply ev_forAll
    | split

theorem ev_seedAndHop (h_regs : Part.regs ∈ L) (h_shot : Part.shot ∈ L) (h : Evolves L s t) :
    Evolves L s (State.seedAndHop t) := by
  unfold State.seedAndHop
  try dsimp only
  repeat' first
    | with_reducible assumption
    | intro _
    | with_reducible apply ev_modShot
    | with_reducible apply ev_bump
    | with_reducible apply ev_doIf

theorem ev_showDescQ {c : Nat} (h_regs : Part.regs ∈ L) (h : Evolves L s t) :
    Evolves L s (State.showDescQ t c) := by
  unfold State.showDescQ
  try dsimp only
  repeat' first
    | with_reducible assumption
    | intro _
    | with_reducible apply ev_put

theorem ev_openDwell {r : Run} {c : Nat} (h_regs : Part.regs ∈ L) (h_crates : Part.crates ∈ L) (h_host : Part.host ∈ L) (h_saf : Part.saf ∈ L) (h_flt : Part.flt ∈ L) (h : Evolves L s t) :
    Evolves L s (State.openDwell t r c).1 := by
  unfold State.openDwell
  try dsimp only
  repeat' first
    | with_reducible assumption
    | intro _
    | with_reducible apply ev_zoneExpect
    | with_reducible apply ev_zoneMissing
    | with_reducible apply ev_bump
    | with_reducible apply ev_planDwell
    | with_reducible apply ev_modCrate
    | with_reducible apply ev_showDescQ
    | with_reducible apply ev_showQuiet
    | with_reducible apply ev_doIf
    | split

theorem ev_firstRepeat {r : Run} (h_regs : Part.regs ∈ L) (h_crates : Part.crates ∈ L) (h_shot : Part.shot ∈ L) (h_host : Part.host ∈ L) (h_saf : Part.saf ∈ L) (h_flt : Part.flt ∈ L) (h : Evolves L s t) :
    Evolves L s (State.firstRepeat t r).1 := by
  unfold State.firstRepeat
  have key : ∀ (l : List Nat) (p : State × Run), Evolves L s p.1 → Evolves L s (l.foldl (fun p e =>
      match p.1.crateOfEmitter e with
      | none => p
      | some c => ((p.1.openDwell p.2 c).1,
          if (p.1.openDwell p.2 c).2 then { p.2 with crates := p.2.crates ++ [(c, e)] } else p.2)) p).1 := by
    intro l
    induction l with
    | nil => exact fun _ hp => hp
    | cons x l ih =>
      intro p hp
      refine ih _ ?_
      dsimp only
      split
      · exact hp
      · exact ev_openDwell h_regs h_crates h_host h_saf h_flt hp
  have h0 : Evolves L s t.seedAndHop := by
    first
      | exact ev_seedAndHop h_shot h
      | exact ev_seedAndHop h_regs h_shot h
  exact key _ _ h0

theorem ev_tryEmitter {r : Run} {e : Nat} (h_regs : Part.regs ∈ L) (h_crates : Part.crates ∈ L) (h_shot : Part.shot ∈ L) (h_emits : Part.emits ∈ L) (h_classes : Part.classes ∈ L) (h : Evolves L s t) :
    Evolves L s (State.tryEmitter t r e) := by
  unfold State.tryEmitter
  split
  · exact ev_bump h_regs h
  split
  · exact ev_bump h_regs h
  split
  · exact ev_bump h_regs h
  split
  · exact ev_bump h_regs (ev_bump h_regs h)
  · have h1 := ev_modShot (f := fun x => { x with aggregate := x.aggregate - 1 }) h_shot (ev_modEmit (e := e)
      (f := fun m => { m with credits := m.credits - 1, committed := true, trig := r.trigger }) h_emits (ev_charge (e := e) h_regs h_emits h_classes h))
    generalize ((t.charge e).modEmit e _).modShot _ = u at h1 ⊢
    dsimp only
    split
    · exact h1
    · exact ev_doIf (fun _ hu => ev_modCrate h_crates hu) h1

theorem ev_drawDither {r : Run} (h_shot : Part.shot ∈ L) (h : Evolves L s t) :
    Evolves L s (State.drawDither t r).1 := by
  unfold State.drawDither
  try dsimp only
  repeat' first
    | with_reducible assumption
    | intro _
    | with_reducible apply ev_modShot
    | split

theorem ev_commitRepeat {r : Run} (h_regs : Part.regs ∈ L) (h_crates : Part.crates ∈ L) (h_shot : Part.shot ∈ L) (h_emits : Part.emits ∈ L) (h_classes : Part.classes ∈ L) (h_chgs : Part.chgs ∈ L) (h_host : Part.host ∈ L) (h_hk : Part.hk ∈ L) (h_saf : Part.saf ∈ L) (h_flt : Part.flt ∈ L) (h : Evolves L s t) :
    Evolves L s (State.commitRepeat t r) := by
  unfold State.commitRepeat
  try dsimp only
  repeat' first
    | with_reducible assumption
    | intro _
    | with_reducible apply ev_firstRepeat
    | with_reducible apply ev_tryEmitter
    | with_reducible apply ev_setShotCount
    | with_reducible apply ev_drawDither
    | with_reducible apply ev_modShot
    | with_reducible apply ev_holdNext
    | with_reducible apply ev_forAll
    | split

theorem ev_holdEngine {r : Run} (h_regs : Part.regs ∈ L) (h_bank : Part.bank ∈ L) (h_crates : Part.crates ∈ L) (h_chans : Part.chans ∈ L) (h_shot : Part.shot ∈ L) (h_host : Part.host ∈ L) (h : Evolves L s t) :
    Evolves L s (State.holdEngine t r) := by
  unfold State.holdEngine
  try dsimp only
  repeat' first
    | with_reducible assumption
    | intro _
    | with_reducible apply ev_bump
    | with_reducible apply ev_modShot
    | with_reducible apply ev_setEngine
    | with_reducible apply ev_toIdle
    | with_reducible apply ev_dueSwap
    | with_reducible apply ev_showShot
    | with_reducible apply ev_endEntry
    | split

theorem ev_syncPulse {mode : Nat} (h_shot : Part.shot ∈ L) (h : Evolves L s t) :
    Evolves L s (State.syncPulse t mode) := by
  unfold State.syncPulse
  try dsimp only
  repeat' first
    | with_reducible assumption
    | intro _
    | with_reducible apply ev_modShot
    | with_reducible apply ev_doIf

theorem ev_dropStarted (h_regs : Part.regs ∈ L) (h_shot : Part.shot ∈ L) (h : Evolves L s t) :
    Evolves L s (State.dropStarted t) := by
  unfold State.dropStarted
  try dsimp only
  repeat' first
    | with_reducible assumption
    | intro _
    | with_reducible apply ev_modShot
    | with_reducible apply ev_setEngine
    | with_reducible apply ev_doIf

theorem ev_swapAtRound (h_regs : Part.regs ∈ L) (h_shot : Part.shot ∈ L) (h_chgs : Part.chgs ∈ L) (h_host : Part.host ∈ L) (h_hk : Part.hk ∈ L) (h : Evolves L s t) :
    Evolves L s (State.swapAtRound t) := by
  unfold State.swapAtRound
  try dsimp only
  repeat' first
    | with_reducible assumption
    | intro _
    | with_reducible apply ev_dropStarted
    | with_reducible apply ev_modShot
    | with_reducible apply ev_dueSwap
    | with_reducible apply ev_showShot
    | with_reducible apply ev_holdNext
    | with_reducible apply ev_doIf
    | split

theorem ev_txnsAtRound (h_host : Part.host ∈ L) (h : Evolves L s t) :
    Evolves L s (State.txnsAtRound t) := by
  unfold State.txnsAtRound
  try dsimp only
  repeat' first
    | with_reducible assumption
    | intro _
    | with_reducible apply ev_modHost
    | split
    | (show _ = true; first | assumption | rfl)

theorem ev_sweepBoundary (h_shot : Part.shot ∈ L) (h_motor : Part.motor ∈ L) (h_saf : Part.saf ∈ L) (h : Evolves L s t) :
    Evolves L s (State.sweepBoundary t) := by
  unfold State.sweepBoundary
  try dsimp only
  repeat' first
    | with_reducible assumption
    | intro _
    | with_reducible apply ev_modMotor
    | with_reducible apply ev_syncPulse
    | with_reducible apply ev_modSaf
    | (show _ = true; first | assumption | rfl)
    | (rename_i hw; rw [Saf.wf_iff] at hw ⊢; obtain ⟨wa, wb, wc, wd, we, wg⟩ := hw; refine ⟨?_, ?_, ?_, ?_, ?_, ?_⟩ <;> first | assumption | rfl | (exact sparseWf_set _ _ (by assumption)))

theorem ev_roundBoundary (h_regs : Part.regs ∈ L) (h_shot : Part.shot ∈ L) (h_chgs : Part.chgs ∈ L) (h_motor : Part.motor ∈ L) (h_host : Part.host ∈ L) (h_hk : Part.hk ∈ L) (h_saf : Part.saf ∈ L) (h : Evolves L s t) :
    Evolves L s (State.roundBoundary t) := by
  unfold State.roundBoundary
  try dsimp only
  repeat' first
    | with_reducible assumption
    | intro _
    | with_reducible apply ev_sweepBoundary
    | with_reducible apply ev_wrapInc
    | with_reducible apply ev_modMotor
    | with_reducible apply ev_syncPulse
    | with_reducible apply ev_swapAtRound
    | with_reducible apply ev_txnsAtRound
    | with_reducible apply ev_doIf

theorem ev_skipEntry {e : Entry} (h_regs : Part.regs ∈ L) (h_shot : Part.shot ∈ L) (h_chgs : Part.chgs ∈ L) (h_hk : Part.hk ∈ L) (h_saf : Part.saf ∈ L) (h : Evolves L s t) :
    Evolves L s (State.skipEntry t e) := by
  unfold State.skipEntry
  try dsimp only
  repeat' first
    | with_reducible assumption
    | intro _
    | with_reducible apply ev_bump
    | with_reducible apply ev_zoneExpect
    | with_reducible apply ev_zoneMissing
    | with_reducible apply ev_modShot
    | with_reducible apply ev_showShot
    | with_reducible apply ev_holdNext
    | with_reducible apply ev_doIf
    | with_reducible apply ev_forAll

theorem ev_angleTrigger (h_regs : Part.regs ∈ L) (h_shot : Part.shot ∈ L) (h_chgs : Part.chgs ∈ L) (h_hk : Part.hk ∈ L) (h_saf : Part.saf ∈ L) (h : Evolves L s t) :
    Evolves L s (State.angleTrigger t) := by
  unfold State.angleTrigger
  try dsimp only
  repeat' first
    | with_reducible assumption
    | intro _
    | with_reducible apply ev_startEntry
    | with_reducible apply ev_skipEntry
    | split

theorem ev_resumeEngine (h_regs : Part.regs ∈ L) (h_shot : Part.shot ∈ L) (h_chgs : Part.chgs ∈ L) (h_hk : Part.hk ∈ L) (h : Evolves L s t) :
    Evolves L s (State.resumeEngine t) := by
  unfold State.resumeEngine
  try dsimp only
  repeat' first
    | with_reducible assumption
    | intro _
    | with_reducible apply ev_bump
    | with_reducible apply ev_modShot
    | with_reducible apply ev_setEngine
    | with_reducible apply ev_holdNext
    | with_reducible apply ev_chainNow

theorem ev_abortEngine {status : Nat} (h_regs : Part.regs ∈ L) (h_bank : Part.bank ∈ L) (h_crates : Part.crates ∈ L) (h_chans : Part.chans ∈ L) (h_shot : Part.shot ∈ L) (h_emits : Part.emits ∈ L) (h_host : Part.host ∈ L) (h : Evolves L s t) :
    Evolves L s (State.abortEngine t status) := by
  unfold State.abortEngine
  try dsimp only
  repeat' first
    | with_reducible assumption
    | intro _
    | with_reducible apply ev_modEmit
    | with_reducible apply ev_toIdle
    | with_reducible apply ev_forAll
    | split

end Sys2Proof.Machine
end

