-- ==== Sys2Proof/Laws/EvChurn.lean ====
section
/-! SUPPORT. What each operation of Machine/Churn.lean may change, and that it keeps the invariant. -/

namespace Sys2Proof.Machine

variable {L : List Part} {s t : State}

theorem ev_eccNote {c : Nat} {k : Nat} {ecc : Ecc} (h_regs : Part.regs ∈ L) (h_flt : Part.flt ∈ L) (h : Evolves L s t) :
    Evolves L s (State.eccNote t c k ecc) := by
  unfold State.eccNote
  try dsimp only
  repeat' first
    | with_reducible assumption
    | intro _
    | with_reducible apply ev_bump
    | with_reducible apply ev_putB
    | with_reducible apply ev_put
    | with_reducible apply ev_detect
    | split

theorem ev_eccRead {c : Nat} {k : Nat} {x : Bool} {ecc : Ecc} (h_regs : Part.regs ∈ L) (h_chans : Part.chans ∈ L) (h_flt : Part.flt ∈ L) (h : Evolves L s t) :
    Evolves L s (State.eccRead t c k x ecc) := by
  unfold State.eccRead
  try dsimp only
  repeat' first
    | with_reducible assumption
    | intro _
    | with_reducible apply ev_modBuf
    | with_reducible apply ev_eccNote
    | with_reducible apply ev_doIf

theorem ev_eccReads {c : Nat} {k : Nat} {x : Bool} {l : List Ecc} (h_regs : Part.regs ∈ L) (h_chans : Part.chans ∈ L) (h_flt : Part.flt ∈ L) (h : Evolves L s t) :
    Evolves L s (State.eccReads t c k x l) := by
  unfold State.eccReads
  try dsimp only
  repeat' first
    | with_reducible assumption
    | intro _
    | with_reducible apply ev_eccRead
    | with_reducible apply ev_forAll

theorem ev_showFine {c : Nat} {k : Nat} {l : List (Option Nat)} (h_regs : Part.regs ∈ L) (h : Evolves L s t) :
    Evolves L s (State.showFine t c k l) := by
  unfold State.showFine
  try dsimp only
  repeat' first
    | with_reducible assumption
    | intro _
    | with_reducible apply ev_putB
    | with_reducible apply ev_put
    | with_reducible apply ev_forAll

theorem ev_setFine {c : Nat} {k : Nat} {x : Bool} {l : List (Option Nat)} (h_regs : Part.regs ∈ L) (h_chans : Part.chans ∈ L) (h : Evolves L s t) :
    Evolves L s (State.setFine t c k x l) := by
  unfold State.setFine
  try dsimp only
  repeat' first
    | with_reducible assumption
    | intro _
    | with_reducible apply ev_modBuf
    | with_reducible apply ev_showFine

theorem ev_placeFine {c : Nat} {k : Nat} {x : Bool} {fmode : Nat} {d : Descr} (h_regs : Part.regs ∈ L) (h_chans : Part.chans ∈ L) (h : Evolves L s t) :
    Evolves L s (State.placeFine t c k x fmode d) := by
  unfold State.placeFine
  try dsimp only
  repeat' first
    | with_reducible assumption
    | intro _
    | with_reducible apply ev_bump
    | with_reducible apply ev_setFine
    | split

theorem ev_takeBuf {c : Nat} {k : Nat} {id : Nat} {fmode : Nat} {probe : Bool} {d : Descr} (h_regs : Part.regs ∈ L) (h_crates : Part.crates ∈ L) (h_chans : Part.chans ∈ L) (h : Evolves L s t) :
    Evolves L s (State.takeBuf t c k id fmode probe d) := by
  unfold State.takeBuf
  try dsimp only
  repeat' first
    | with_reducible assumption
    | intro _
    | with_reducible apply ev_modChan
    | with_reducible apply ev_placeFine
    | with_reducible apply ev_modBuf
    | with_reducible apply ev_bump
    | with_reducible apply ev_modCrate
    | split

theorem ev_readDescr {c : Nat} {d : Descr} (h_regs : Part.regs ∈ L) (h_crates : Part.crates ∈ L) (h_chans : Part.chans ∈ L) (h_host : Part.host ∈ L) (h : Evolves L s t) :
    Evolves L s (State.readDescr t c d) := by
  unfold State.readDescr
  try dsimp only
  repeat' first
    | with_reducible assumption
    | intro _
    | with_reducible apply ev_modCrate
    | with_reducible apply ev_showDescQ
    | with_reducible apply ev_takeBuf
    | with_reducible apply ev_bump
    | with_reducible apply ev_post
    | with_reducible apply ev_forAll
    | with_reducible apply ev_doIf
    | split

theorem ev_binInc {c : Nat} {b : Nat} (h_bank : Part.bank ∈ L) (h : Evolves L s t) :
    Evolves L s (State.binInc t c b) := by
  unfold State.binInc
  try dsimp only
  repeat' first
    | with_reducible assumption
    | intro _
    | with_reducible apply ev_setBankHalf

theorem ev_histEvent {c : Nat} {k : Nat} {x : Bool} {d : Descr} {e : Evt} {i : Nat} {b : Nat} (h_bank : Part.bank ∈ L) (h_chans : Part.chans ∈ L) (h : Evolves L s t) :
    Evolves L s (State.histEvent t c k x d e i b) := by
  unfold State.histEvent
  try dsimp only
  repeat' first
    | with_reducible assumption
    | intro _
    | with_reducible apply ev_binInc
    | with_reducible apply ev_modBuf
    | split

theorem ev_bufEvent {c : Nat} {k : Nat} {x : Bool} {d : Descr} {e : Evt} (h_regs : Part.regs ∈ L) (h_bank : Part.bank ∈ L) (h_chans : Part.chans ∈ L) (h : Evolves L s t) :
    Evolves L s (State.bufEvent t c k x d e) := by
  unfold State.bufEvent
  try dsimp only
  repeat' first
    | with_reducible assumption
    | intro _
    | with_reducible apply ev_modBuf
    | with_reducible apply ev_bump
    | with_reducible apply ev_histEvent
    | with_reducible apply ev_doIf
    | split

theorem ev_rawEvent {c : Nat} {e : Evt} (h_bank : Part.bank ∈ L) (h_crates : Part.crates ∈ L) (h : Evolves L s t) :
    Evolves L s (State.rawEvent t c e) := by
  unfold State.rawEvent
  try dsimp only
  repeat' first
    | with_reducible assumption
    | intro _
    | with_reducible apply ev_modCrate
    | with_reducible apply ev_putUnit
    | split

theorem ev_takeEvent {c : Nat} {d : Descr} {e : Evt} {ecc : List Ecc} (h_regs : Part.regs ∈ L) (h_bank : Part.bank ∈ L) (h_crates : Part.crates ∈ L) (h_chans : Part.chans ∈ L) (h_flt : Part.flt ∈ L) (h : Evolves L s t) :
    Evolves L s (State.takeEvent t c d e ecc) := by
  unfold State.takeEvent
  try dsimp only
  repeat' first
    | with_reducible assumption
    | intro _
    | with_reducible apply ev_modCrate
    | with_reducible apply ev_rawEvent
    | with_reducible apply ev_eccReads
    | with_reducible apply ev_bufEvent
    | with_reducible apply ev_doIf

theorem ev_readWindowClose {c : Nat} {d : Descr} {lost : BitVec 16} (h_regs : Part.regs ∈ L) (h_crates : Part.crates ∈ L) (h_chans : Part.chans ∈ L) (h : Evolves L s t) :
    Evolves L s (State.readWindowClose t c d lost) := by
  unfold State.readWindowClose
  try dsimp only
  repeat' first
    | with_reducible assumption
    | intro _
    | with_reducible apply ev_modCrate
    | with_reducible apply ev_setFine
    | with_reducible apply ev_doIf
    | with_reducible apply ev_forAll

theorem ev_nextExtract {c : Nat} (h_chans : Part.chans ∈ L) (h : Evolves L s t) :
    Evolves L s (State.nextExtract t c) := by
  unfold State.nextExtract
  try dsimp only
  repeat' first
    | with_reducible assumption
    | intro _
    | with_reducible apply ev_modBuf
    | with_reducible apply ev_forAll
    | split

theorem ev_finishDump {c : Nat} (h_regs : Part.regs ∈ L) (h_bank : Part.bank ∈ L) (h_crates : Part.crates ∈ L) (h_chans : Part.chans ∈ L) (h_host : Part.host ∈ L) (h : Evolves L s t) :
    Evolves L s (State.finishDump t c) := by
  unfold State.finishDump
  try dsimp only
  repeat' first
    | with_reducible assumption
    | intro _
    | with_reducible apply ev_endDump
    | split

theorem ev_dumpBoundary {c : Nat} {id : Nat} {used : BitVec 16} (h_regs : Part.regs ∈ L) (h_bank : Part.bank ∈ L) (h_crates : Part.crates ∈ L) (h_chans : Part.chans ∈ L) (h_host : Part.host ∈ L) (h : Evolves L s t) :
    Evolves L s (State.dumpBoundary t c id used) := by
  unfold State.dumpBoundary
  try dsimp only
  repeat' first
    | with_reducible assumption
    | intro _
    | with_reducible apply ev_endDump
    | with_reducible apply ev_modCrate
    | with_reducible apply ev_modBuf
    | with_reducible apply ev_finishDump
    | with_reducible apply ev_forAll
    | with_reducible apply ev_doIf
    | split

theorem ev_leaveRaw {c : Nat} {r : Raw} (h_regs : Part.regs ∈ L) (h_bank : Part.bank ∈ L) (h_crates : Part.crates ∈ L) (h : Evolves L s t) :
    Evolves L s (State.leaveRaw t c r) := by
  unfold State.leaveRaw
  try dsimp only
  repeat' first
    | with_reducible assumption
    | intro _
    | with_reducible apply ev_clearRaw
    | with_reducible apply ev_modCrate
    | with_reducible apply ev_putB

theorem ev_rawBoundary {c : Nat} {d : Descr} {fired : Nat} (h_regs : Part.regs ∈ L) (h_bank : Part.bank ∈ L) (h_crates : Part.crates ∈ L) (h : Evolves L s t) :
    Evolves L s (State.rawBoundary t c d fired) := by
  unfold State.rawBoundary
  try dsimp only
  repeat' first
    | with_reducible assumption
    | intro _
    | with_reducible apply ev_leaveRaw
    | with_reducible apply ev_modCrate
    | with_reducible apply ev_putB
    | with_reducible apply ev_putUnit
    | with_reducible apply ev_doIf
    | split

theorem ev_exchange {c : Nat} {k : Nat} {m : CloseMark} (h_chans : Part.chans ∈ L) (h : Evolves L s t) :
    Evolves L s (State.exchange t c k m) := by
  unfold State.exchange
  try dsimp only
  repeat' first
    | with_reducible assumption
    | intro _
    | with_reducible apply ev_modBuf
    | with_reducible apply ev_modChan

theorem ev_dwellBoundary {c : Nat} {d : Descr} {m : CloseMark} (h_regs : Part.regs ∈ L) (h_bank : Part.bank ∈ L) (h_crates : Part.crates ∈ L) (h_chans : Part.chans ∈ L) (h_shot : Part.shot ∈ L) (h_host : Part.host ∈ L) (h_saf : Part.saf ∈ L) (h : Evolves L s t) :
    Evolves L s (State.dwellBoundary t c d m) := by
  unfold State.dwellBoundary
  try dsimp only
  repeat' first
    | with_reducible assumption
    | intro _
    | with_reducible apply ev_separate
    | with_reducible apply ev_modCrate
    | with_reducible apply ev_exchange
    | with_reducible apply ev_zoneDeliver
    | with_reducible apply ev_weather
    | with_reducible apply ev_dumpBoundary
    | with_reducible apply ev_rawBoundary
    | with_reducible apply ev_nextExtract
    | with_reducible apply ev_forAll
    | with_reducible apply ev_doIf
    | split

theorem ev_histDump {m : Cmd} (h_regs : Part.regs ∈ L) (h_crates : Part.crates ∈ L) (h_host : Part.host ∈ L) (h : Evolves L s t) :
    Evolves L s (State.histDump t m) := by
  unfold State.histDump
  try dsimp only
  repeat' first
    | with_reducible assumption
    | intro _
    | with_reducible apply ev_fail
    | with_reducible apply ev_openCmd
    | with_reducible apply ev_modCrate
    | with_reducible apply ev_putB
    | split

theorem ev_rawCapture {m : Cmd} (h_crates : Part.crates ∈ L) (h_host : Part.host ∈ L) (h : Evolves L s t) :
    Evolves L s (State.rawCapture t m) := by
  unfold State.rawCapture
  try dsimp only
  repeat' first
    | with_reducible assumption
    | intro _
    | with_reducible apply ev_fail
    | with_reducible apply ev_openCmd
    | with_reducible apply ev_modCrate
    | split

theorem ev_rawDrain {c : Nat} {r : Raw} (h_regs : Part.regs ∈ L) (h_bank : Part.bank ∈ L) (h_crates : Part.crates ∈ L) (h_host : Part.host ∈ L) (h : Evolves L s t) :
    Evolves L s (State.rawDrain t c r) := by
  unfold State.rawDrain
  try dsimp only
  repeat' first
    | with_reducible assumption
    | intro _
    | with_reducible apply ev_pushRec
    | with_reducible apply ev_leaveRaw
    | with_reducible apply ev_completeOpt
    | with_reducible apply ev_forAll

theorem ev_drainReads {c : Nat} {l : List (BitVec 13 × Ecc)} (h_regs : Part.regs ∈ L) (h_chans : Part.chans ∈ L) (h_flt : Part.flt ∈ L) (h : Evolves L s t) :
    Evolves L s (State.drainReads t c l) := by
  unfold State.drainReads
  try dsimp only
  repeat' first
    | with_reducible assumption
    | intro _
    | with_reducible apply ev_eccRead
    | with_reducible apply ev_forAll

end Sys2Proof.Machine
end

