-- ==== Sys2Proof/Laws/EvMotor.lean ====
section
/-! SUPPORT. What each operation of Machine/Motor.lean may change, and that it keeps the invariant. -/

namespace Sys2Proof.Machine

variable {L : List Part} {s t : State}

theorem ev_reversePass (h_regs : Part.regs ∈ L) (h_motor : Part.motor ∈ L) (h : Evolves L s t) :
    Evolves L s (State.reversePass t) := by
  unfold State.reversePass
  try dsimp only
  repeat' first
    | with_reducible assumption
    | intro _
    | with_reducible apply ev_put
    | with_reducible apply ev_modMotor
    | with_reducible apply ev_doIf
    | split

theorem ev_showMotor (h_regs : Part.regs ∈ L) (h_motor : Part.motor ∈ L) (h : Evolves L s t) :
    Evolves L s (State.showMotor t) := by
  unfold State.showMotor
  try dsimp only
  repeat' first
    | with_reducible assumption
    | intro _
    | with_reducible apply ev_put
    | with_reducible apply ev_putB
    | with_reducible apply ev_putInt
    | with_reducible apply ev_modMotor
    | split

theorem ev_keepAngle (h_motor : Part.motor ∈ L) (h : Evolves L s t) :
    Evolves L s (State.keepAngle t) := by
  unfold State.keepAngle
  try dsimp only
  repeat' first
    | with_reducible assumption
    | intro _
    | with_reducible apply ev_modMotor
    | split

theorem ev_refreshMotor (h_regs : Part.regs ∈ L) (h_motor : Part.motor ∈ L) (h : Evolves L s t) :
    Evolves L s (State.refreshMotor t) := by
  unfold State.refreshMotor
  try dsimp only
  repeat' first
    | with_reducible assumption
    | intro _
    | with_reducible apply ev_reversePass
    | with_reducible apply ev_showMotor

theorem ev_motorEvents {kinds : List Nat} (h_regs : Part.regs ∈ L) (h_host : Part.host ∈ L) (h : Evolves L s t) :
    Evolves L s (State.motorEvents t kinds) := by
  unfold State.motorEvents
  try dsimp only
  repeat' first
    | with_reducible assumption
    | intro _
    | with_reducible apply ev_post
    | with_reducible apply ev_forAll

theorem ev_takeCode {code : BitVec 3} {pos : Nat} (h_regs : Part.regs ∈ L) (h_motor : Part.motor ∈ L) (h_host : Part.host ∈ L) (h : Evolves L s t) :
    Evolves L s (State.takeCode t code pos) := by
  unfold State.takeCode
  try dsimp only
  repeat' first
    | with_reducible assumption
    | intro _
    | with_reducible apply ev_put
    | with_reducible apply ev_modMotor
    | with_reducible apply ev_setReady
    | split

theorem ev_loseCount {code : Option (BitVec 3)} (h_regs : Part.regs ∈ L) (h_motor : Part.motor ∈ L) (h : Evolves L s t) :
    Evolves L s (State.loseCount t code) := by
  unfold State.loseCount
  try dsimp only
  repeat' first
    | with_reducible assumption
    | intro _
    | with_reducible apply ev_put
    | with_reducible apply ev_putB
    | with_reducible apply ev_modMotor
    | split

theorem ev_hallEdge {n : Nat} {code : BitVec 3} {reverse : Bool} (h_regs : Part.regs ∈ L) (h_motor : Part.motor ∈ L) (h : Evolves L s t) :
    Evolves L s (State.hallEdge t n code reverse) := by
  unfold State.hallEdge
  try dsimp only
  repeat' first
    | with_reducible assumption
    | intro _
    | with_reducible apply ev_put
    | with_reducible apply ev_putB
    | with_reducible apply ev_modMotor
    | with_reducible apply ev_bump
    | with_reducible apply ev_doIf
    | split

theorem ev_countStep {k : HallStep} (h_regs : Part.regs ∈ L) (h : Evolves L s t) :
    Evolves L s (State.countStep t k) := by
  unfold State.countStep
  try dsimp only
  repeat' first
    | with_reducible assumption
    | intro _
    | with_reducible apply ev_bump
    | split

theorem ev_hallChange {n : Nat} {k : HallStep} {code : BitVec 3} (h_regs : Part.regs ∈ L) (h_motor : Part.motor ∈ L) (h : Evolves L s t) :
    Evolves L s (State.hallChange t n k code) := by
  unfold State.hallChange
  try dsimp only
  repeat' first
    | with_reducible assumption
    | intro _
    | with_reducible apply ev_loseCount
    | with_reducible apply ev_countStep
    | with_reducible apply ev_hallEdge
    | split

theorem ev_takeValid {code : BitVec 3} (h_regs : Part.regs ∈ L) (h_motor : Part.motor ∈ L) (h_host : Part.host ∈ L) (h : Evolves L s t) :
    Evolves L s (State.takeValid t code) := by
  unfold State.takeValid
  try dsimp only
  repeat' first
    | with_reducible assumption
    | intro _
    | with_reducible apply ev_takeCode
    | split

theorem ev_hallAccept {code : BitVec 3} (h_regs : Part.regs ∈ L) (h_motor : Part.motor ∈ L) (h_host : Part.host ∈ L) (h : Evolves L s t) :
    Evolves L s (State.hallAccept t code) := by
  unfold State.hallAccept
  try dsimp only
  repeat' first
    | with_reducible assumption
    | intro _
    | with_reducible apply ev_put
    | with_reducible apply ev_modMotor
    | with_reducible apply ev_hallChange
    | with_reducible apply ev_countStep
    | with_reducible apply ev_takeValid
    | split

theorem ev_alignTo {target : Nat} (h_regs : Part.regs ∈ L) (h_motor : Part.motor ∈ L) (h : Evolves L s t) :
    Evolves L s (State.alignTo t target) := by
  unfold State.alignTo
  try dsimp only
  repeat' first
    | with_reducible assumption
    | intro _
    | with_reducible apply ev_putB
    | with_reducible apply ev_modMotor
    | split

theorem ev_slip {dist : Nat} (h_regs : Part.regs ∈ L) (h : Evolves L s t) :
    Evolves L s (State.slip t dist) := by
  unfold State.slip
  try dsimp only
  repeat' first
    | with_reducible assumption
    | intro _
    | with_reducible apply ev_bump
    | with_reducible apply ev_doIf

theorem ev_idxAccept {level : Bool} (h_motor : Part.motor ∈ L) (h : Evolves L s t) :
    Evolves L s (State.idxAccept t level).2 := by
  unfold State.idxAccept
  try dsimp only
  repeat' first
    | with_reducible assumption
    | intro _
    | with_reducible apply ev_modMotor

theorem ev_indexAlign (h_regs : Part.regs ∈ L) (h_motor : Part.motor ∈ L) (h : Evolves L s t) :
    Evolves L s (State.indexAlign t) := by
  unfold State.indexAlign
  try dsimp only
  repeat' first
    | with_reducible assumption
    | intro _
    | with_reducible apply ev_slip
    | with_reducible apply ev_alignTo

theorem ev_fsyncAlign (h_regs : Part.regs ∈ L) (h_motor : Part.motor ∈ L) (h : Evolves L s t) :
    Evolves L s (State.fsyncAlign t) := by
  unfold State.fsyncAlign
  try dsimp only
  repeat' first
    | with_reducible assumption
    | intro _
    | with_reducible apply ev_slip
    | with_reducible apply ev_alignTo
    | split

theorem ev_dropMotor (h_regs : Part.regs ∈ L) (h_motor : Part.motor ∈ L) (h_host : Part.host ∈ L) (h : Evolves L s t) :
    Evolves L s (State.dropMotor t) := by
  unfold State.dropMotor
  try dsimp only
  repeat' first
    | with_reducible assumption
    | intro _
    | with_reducible apply ev_put
    | with_reducible apply ev_putB
    | with_reducible apply ev_modMotor
    | with_reducible apply ev_setReady

theorem ev_restartMotor (h_regs : Part.regs ∈ L) (h_motor : Part.motor ∈ L) (h_host : Part.host ∈ L) (h : Evolves L s t) :
    Evolves L s (State.restartMotor t) := by
  unfold State.restartMotor
  try dsimp only
  repeat' first
    | with_reducible assumption
    | intro _
    | with_reducible apply ev_dropMotor
    | with_reducible apply ev_showMotor

theorem ev_resetMotor (h_regs : Part.regs ∈ L) (h_motor : Part.motor ∈ L) (h_host : Part.host ∈ L) (h : Evolves L s t) :
    Evolves L s (State.resetMotor t) := by
  unfold State.resetMotor
  try dsimp only
  repeat' first
    | with_reducible assumption
    | intro _
    | with_reducible apply ev_dropMotor
    | with_reducible apply ev_put
    | with_reducible apply ev_putB
    | with_reducible apply ev_putInt
    | with_reducible apply ev_modMotor

theorem ev_takeHeldCode (h_regs : Part.regs ∈ L) (h_motor : Part.motor ∈ L) (h_host : Part.host ∈ L) (h : Evolves L s t) :
    Evolves L s (State.takeHeldCode t) := by
  unfold State.takeHeldCode
  try dsimp only
  repeat' first
    | with_reducible assumption
    | intro _
    | with_reducible apply ev_takeCode
    | split

theorem ev_motCfgWrite {q : Src} {value : Word} (h_regs : Part.regs ∈ L) (h_motor : Part.motor ∈ L) (h_host : Part.host ∈ L) (h_flt : Part.flt ∈ L) (h : Evolves L s t) :
    Evolves L s (State.motCfgWrite t q value) := by
  unfold State.motCfgWrite
  try dsimp only
  repeat' first
    | with_reducible assumption
    | intro _
    | with_reducible apply ev_restartMotor
    | with_reducible apply ev_put
    | with_reducible apply ev_refuseWrite
    | with_reducible apply ev_doIf
    | split

theorem ev_motStatusRead {q : Src} (h_reqs : Part.reqs ∈ L) (h : Evolves L s t) :
    Evolves L s (State.motStatusRead t q) := by
  unfold State.motStatusRead
  try dsimp only
  repeat' first
    | with_reducible assumption
    | intro _
    | with_reducible apply ev_modReq

end Sys2Proof.Machine
end

