-- ==== Sys2Proof/Laws/EvRings.lean ====
section
/-! SUPPORT. What each operation of Machine/Rings.lean may change, and that it keeps the invariant. -/

namespace Sys2Proof.Machine

variable {L : List Part} {s t : State}

theorem ev_noteAer {f : Func} {bit : Nat} (h_host : Part.host ∈ L) (h : Evolves L s t) :
    Evolves L s (State.noteAer t f bit) := by
  unfold State.noteAer
  try dsimp only
  repeat' first
    | with_reducible assumption
    | intro _
    | with_reducible apply ev_setFn
    | exact fn_msix_wf (by assumption) _
    | (show sparseWf _ _ = true; rfl)

theorem ev_noteUnsupported {q : Src} (h_host : Part.host ∈ L) (h : Evolves L s t) :
    Evolves L s (State.noteUnsupported t q) := by
  unfold State.noteUnsupported
  try dsimp only
  repeat' first
    | with_reducible assumption
    | intro _
    | with_reducible apply ev_setFn
    | exact fn_msix_wf (by assumption) _
    | (show sparseWf _ _ = true; rfl)
    | split

theorem ev_issueReads (h_host : Part.host ∈ L) (h : Evolves L s t) :
    Evolves L s (State.issueReads t) := by
  unfold State.issueReads
  try dsimp only
  repeat' first
    | with_reducible assumption
    | intro _
    | with_reducible apply ev_modHost
    | (show _ = true; first | assumption | rfl)

theorem ev_askRead {r : HostRead} (h_host : Part.host ∈ L) (h : Evolves L s t) :
    Evolves L s (State.askRead t r) := by
  unfold State.askRead
  try dsimp only
  repeat' first
    | with_reducible assumption
    | intro _
    | with_reducible apply ev_modHost
    | with_reducible apply ev_issueReads
    | (show _ = true; first | assumption | rfl)

theorem ev_evict {n : Nat} (h_regs : Part.regs ∈ L) (h_hostMem : Part.hostMem ∈ L) (h_host : Part.host ∈ L) (h_free : Part.free ∈ L) (h : Evolves L s t) :
    Evolves L s (State.evict t n) := by
  unfold State.evict
  try dsimp only
  repeat' first
    | with_reducible assumption
    | intro _
    | with_reducible apply ev_modHost
    | with_reducible apply ev_skipFree
    | with_reducible apply ev_bump
    | with_reducible apply ev_writeHost
    | (show _ = true; first | assumption | rfl)

theorem ev_countMiss {r : RingId} (h_regs : Part.regs ∈ L) (h : Evolves L s t) :
    Evolves L s (State.countMiss t r) := by
  unfold State.countMiss
  try dsimp only
  repeat' first
    | with_reducible assumption
    | intro _
    | with_reducible apply ev_bump
    | with_reducible apply ev_doIf

theorem ev_touch {r : RingId} (h_regs : Part.regs ∈ L) (h_hostMem : Part.hostMem ∈ L) (h_host : Part.host ∈ L) (h_free : Part.free ∈ L) (h : Evolves L s t) :
    Evolves L s (State.touch t r) := by
  unfold State.touch
  try dsimp only
  repeat' first
    | with_reducible assumption
    | intro _
    | with_reducible apply ev_modHost
    | with_reducible apply ev_evict
    | split
    | (show _ = true; first | assumption | rfl)

theorem ev_fetchAgain {r : RingId} (h_regs : Part.regs ∈ L) (h_host : Part.host ∈ L) (h : Evolves L s t) :
    Evolves L s (State.fetchAgain t r) := by
  unfold State.fetchAgain
  try dsimp only
  repeat' first
    | with_reducible assumption
    | intro _
    | with_reducible apply ev_countMiss
    | with_reducible apply ev_askRead
    | split

theorem ev_touchHit {r : RingId} (h_regs : Part.regs ∈ L) (h_hostMem : Part.hostMem ∈ L) (h_host : Part.host ∈ L) (h_free : Part.free ∈ L) (h : Evolves L s t) :
    Evolves L s (State.touchHit t r) := by
  unfold State.touchHit
  try dsimp only
  repeat' first
    | with_reducible assumption
    | intro _
    | with_reducible apply ev_touch
    | with_reducible apply ev_doIf

theorem ev_writeBack {r : RingId} (h_hostMem : Part.hostMem ∈ L) (h_rings : Part.rings ∈ L) (h : Evolves L s t) :
    Evolves L s (State.writeBack t r) := by
  unfold State.writeBack
  try dsimp only
  repeat' first
    | with_reducible assumption
    | intro _
    | with_reducible apply ev_writeHost
    | with_reducible apply ev_modRing
    | split

theorem ev_dropFence {r : RingId} (h_host : Part.host ∈ L) (h_rings : Part.rings ∈ L) (h : Evolves L s t) :
    Evolves L s (State.dropFence t r) := by
  unfold State.dropFence
  try dsimp only
  repeat' first
    | with_reducible assumption
    | intro _
    | with_reducible apply ev_modHost
    | with_reducible apply ev_modRing
    | (show _ = true; first | assumption | rfl)

theorem ev_ringError {r : RingId} (h_regs : Part.regs ∈ L) (h_hostMem : Part.hostMem ∈ L) (h_host : Part.host ∈ L) (h_rings : Part.rings ∈ L) (h : Evolves L s t) :
    Evolves L s (State.ringError t r) := by
  unfold State.ringError
  try dsimp only
  repeat' first
    | with_reducible assumption
    | intro _
    | with_reducible apply ev_dropFence
    | with_reducible apply ev_modRing
    | with_reducible apply ev_writeBack
    | with_reducible apply ev_postRing
    | split

theorem ev_ringDisabled {r : RingId} (h_regs : Part.regs ∈ L) (h_hostMem : Part.hostMem ∈ L) (h_host : Part.host ∈ L) (h_rings : Part.rings ∈ L) (h : Evolves L s t) :
    Evolves L s (State.ringDisabled t r) := by
  unfold State.ringDisabled
  try dsimp only
  repeat' first
    | with_reducible assumption
    | intro _
    | with_reducible apply ev_modRing
    | with_reducible apply ev_writeBack
    | with_reducible apply ev_postRing
    | split

theorem ev_sendPending {f : Func} (h_host : Part.host ∈ L) (h : Evolves L s t) :
    Evolves L s (State.sendPending t f) := by
  unfold State.sendPending
  try dsimp only
  repeat' first
    | with_reducible assumption
    | intro _
    | with_reducible apply ev_setFn
    | with_reducible apply ev_modHost
    | exact fn_msix_wf (by assumption) _
    | (show sparseWf _ _ = true; rfl)
    | split
    | (show _ = true; first | assumption | rfl)

theorem ev_sendVector {f : Func} {v : Nat} (h_host : Part.host ∈ L) (h : Evolves L s t) :
    Evolves L s (State.sendVector t f v) := by
  unfold State.sendVector
  try dsimp only
  repeat' first
    | with_reducible assumption
    | intro _
    | with_reducible apply ev_setFn
    | with_reducible apply ev_modHost
    | exact fn_msix_wf (by assumption) _
    | (show sparseWf _ _ = true; rfl)
    | split
    | (show _ = true; first | assumption | rfl)

theorem ev_irqGoes {r : RingId} (h_hostMem : Part.hostMem ∈ L) (h_host : Part.host ∈ L) (h_rings : Part.rings ∈ L) (h : Evolves L s t) :
    Evolves L s (State.irqGoes t r) := by
  unfold State.irqGoes
  try dsimp only
  repeat' first
    | with_reducible assumption
    | intro _
    | with_reducible apply ev_writeBack
    | with_reducible apply ev_sendVector
    | with_reducible apply ev_modRing
    | split

theorem ev_sendIrq {r : RingId} (h_regs : Part.regs ∈ L) (h_hostMem : Part.hostMem ∈ L) (h_host : Part.host ∈ L) (h_rings : Part.rings ∈ L) (h_free : Part.free ∈ L) (h : Evolves L s t) :
    Evolves L s (State.sendIrq t r) := by
  unfold State.sendIrq
  try dsimp only
  repeat' first
    | with_reducible assumption
    | intro _
    | with_reducible apply ev_fetchAgain
    | with_reducible apply ev_touchHit
    | with_reducible apply ev_irqGoes
    | split

theorem ev_badBell {f : Func} (h_regs : Part.regs ∈ L) (h : Evolves L s t) :
    Evolves L s (State.badBell t f) := by
  unfold State.badBell
  try dsimp only
  repeat' first
    | with_reducible assumption
    | intro _
    | with_reducible apply ev_bump

theorem ev_takeIndex {r : RingId} {index : Word} (h_regs : Part.regs ∈ L) (h_hostMem : Part.hostMem ∈ L) (h_host : Part.host ∈ L) (h_rings : Part.rings ∈ L) (h : Evolves L s t) :
    Evolves L s (State.takeIndex t r index) := by
  unfold State.takeIndex
  try dsimp only
  repeat' first
    | with_reducible assumption
    | intro _
    | with_reducible apply ev_modRing
    | with_reducible apply ev_ringError
    | split

theorem ev_arm {r : RingId} (h_regs : Part.regs ∈ L) (h_hostMem : Part.hostMem ∈ L) (h_host : Part.host ∈ L) (h_rings : Part.rings ∈ L) (h_free : Part.free ∈ L) (h : Evolves L s t) :
    Evolves L s (State.arm t r) := by
  unfold State.arm
  try dsimp only
  repeat' first
    | with_reducible assumption
    | intro _
    | with_reducible apply ev_modRing
    | with_reducible apply ev_sendIrq

theorem ev_fetchCtx {r : RingId} {why : ReadFor} (h_host : Part.host ∈ L) (h : Evolves L s t) :
    Evolves L s (State.fetchCtx t r why) := by
  unfold State.fetchCtx
  try dsimp only
  repeat' first
    | with_reducible assumption
    | intro _
    | with_reducible apply ev_askRead

theorem ev_bellDisable {r : RingId} {index : Word} {arm : Bool} (h_regs : Part.regs ∈ L) (h_hostMem : Part.hostMem ∈ L) (h_host : Part.host ∈ L) (h_rings : Part.rings ∈ L) (h_free : Part.free ∈ L) (h : Evolves L s t) :
    Evolves L s (State.bellDisable t r index arm) := by
  unfold State.bellDisable
  try dsimp only
  repeat' first
    | with_reducible assumption
    | intro _
    | with_reducible apply ev_ringDisabled
    | with_reducible apply ev_takeIndex
    | with_reducible apply ev_arm
    | with_reducible apply ev_modRing
    | with_reducible apply ev_dropFence
    | with_reducible apply ev_modHost
    | with_reducible apply ev_writeBack
    | with_reducible apply ev_doIf
    | split
    | (show _ = true; first | assumption | rfl)

theorem ev_holdBell {r : RingId} {h_ : HeldBell} (h_rings : Part.rings ∈ L) (h : Evolves L s t) :
    Evolves L s (State.holdBell t r h_) := by
  unfold State.holdBell
  try dsimp only
  repeat' first
    | with_reducible assumption
    | intro _
    | with_reducible apply ev_modRing

theorem ev_bell {f : Func} {r : RingId} {index : Word} {enable : Bool} {disable : Bool} {reload : Bool} {arm : Bool} (h_regs : Part.regs ∈ L) (h_hostMem : Part.hostMem ∈ L) (h_host : Part.host ∈ L) (h_rings : Part.rings ∈ L) (h_free : Part.free ∈ L) (h : Evolves L s t) :
    Evolves L s (State.bell t f r index enable disable reload arm) := by
  unfold State.bell
  try dsimp only
  repeat' first
    | with_reducible assumption
    | intro _
    | with_reducible apply ev_badBell
    | with_reducible apply ev_modRing
    | with_reducible apply ev_countMiss
    | with_reducible apply ev_touch
    | with_reducible apply ev_fetchCtx
    | with_reducible apply ev_holdBell
    | with_reducible apply ev_fetchAgain
    | with_reducible apply ev_touchHit
    | with_reducible apply ev_bellDisable
    | with_reducible apply ev_takeIndex
    | with_reducible apply ev_arm
    | with_reducible apply ev_doIf
    | split

theorem ev_heldBell {r : RingId} {h_ : HeldBell} (h_regs : Part.regs ∈ L) (h_hostMem : Part.hostMem ∈ L) (h_host : Part.host ∈ L) (h_rings : Part.rings ∈ L) (h_free : Part.free ∈ L) (h : Evolves L s t) :
    Evolves L s (State.heldBell t r h_) := by
  unfold State.heldBell
  try dsimp only
  repeat' first
    | with_reducible assumption
    | intro _
    | with_reducible apply ev_bell
    | with_reducible apply ev_arm

theorem ev_releaseBells {r : RingId} {failed : Bool} (h_regs : Part.regs ∈ L) (h_hostMem : Part.hostMem ∈ L) (h_host : Part.host ∈ L) (h_rings : Part.rings ∈ L) (h_free : Part.free ∈ L) (h : Evolves L s t) :
    Evolves L s (State.releaseBells t r failed) := by
  unfold State.releaseBells
  try dsimp only
  repeat' first
    | with_reducible assumption
    | intro _
    | with_reducible apply ev_heldBell
    | with_reducible apply ev_ringError
    | with_reducible apply ev_modRing
    | with_reducible apply ev_forAll
    | split

theorem ev_bellWord {f : Func} {r : RingId} {w : DWord} (h_regs : Part.regs ∈ L) (h_hostMem : Part.hostMem ∈ L) (h_host : Part.host ∈ L) (h_rings : Part.rings ∈ L) (h_free : Part.free ∈ L) (h : Evolves L s t) :
    Evolves L s (State.bellWord t f r w) := by
  unfold State.bellWord
  try dsimp only
  repeat' first
    | with_reducible assumption
    | intro _
    | with_reducible apply ev_badBell
    | with_reducible apply ev_bell
    | split

theorem ev_bar2Write {f : Func} {offset : BitVec 19} {size : Nat} {value : DWord} (h_regs : Part.regs ∈ L) (h_hostMem : Part.hostMem ∈ L) (h_host : Part.host ∈ L) (h_rings : Part.rings ∈ L) (h_free : Part.free ∈ L) (h : Evolves L s t) :
    Evolves L s (State.bar2Write t f offset size value) := by
  unfold State.bar2Write
  try dsimp only
  repeat' first
    | with_reducible assumption
    | intro _
    | with_reducible apply ev_bellWord
    | with_reducible apply ev_badBell
    | split

theorem ev_ctxArrives {r : RingId} (h_regs : Part.regs ∈ L) (h_hostMem : Part.hostMem ∈ L) (h_host : Part.host ∈ L) (h_rings : Part.rings ∈ L) (h_free : Part.free ∈ L) (h : Evolves L s t) :
    Evolves L s (State.ctxArrives t r) := by
  unfold State.ctxArrives
  try dsimp only
  repeat' first
    | with_reducible assumption
    | intro _
    | with_reducible apply ev_releaseBells
    | with_reducible apply ev_fetchAgain
    | with_reducible apply ev_setRing
    | with_reducible apply ev_writeBack
    | with_reducible apply ev_heldBell
    | with_reducible apply ev_takeIndex
    | with_reducible apply ev_ringError
    | with_reducible apply ev_forAll
    | split

theorem ev_writeUnits {r : RingId} {ws : List Word} (h_hostMem : Part.hostMem ∈ L) (h : Evolves L s t) :
    Evolves L s (State.writeUnits t r ws) := by
  unfold State.writeUnits
  try dsimp only
  repeat' first
    | with_reducible assumption
    | intro _
    | with_reducible apply ev_writeHost
    | with_reducible apply ev_forAll

theorem ev_ringPut {r : RingId} {ws : List Word} (h_hostMem : Part.hostMem ∈ L) (h_rings : Part.rings ∈ L) (h : Evolves L s t) :
    Evolves L s (State.ringPut t r ws) := by
  unfold State.ringPut
  try dsimp only
  repeat' first
    | with_reducible assumption
    | intro _
    | with_reducible apply ev_writeUnits
    | with_reducible apply ev_modRing
    | split

theorem ev_ringWrite {r : RingId} {ws : List Word} (h_hostMem : Part.hostMem ∈ L) (h_rings : Part.rings ∈ L) (h : Evolves L s t) :
    Evolves L s (State.ringWrite t r ws) := by
  unfold State.ringWrite
  try dsimp only
  repeat' first
    | with_reducible assumption
    | intro _
    | with_reducible apply ev_ringPut
    | with_reducible apply ev_writeBack
    | with_reducible apply ev_doIf

theorem ev_ringDiscard {f : Func} {r : RingId} (h_regs : Part.regs ∈ L) (h_rings : Part.rings ∈ L) (h : Evolves L s t) :
    Evolves L s (State.ringDiscard t f r) := by
  unfold State.ringDiscard
  try dsimp only
  repeat' first
    | with_reducible assumption
    | intro _
    | with_reducible apply ev_bump
    | with_reducible apply ev_modRing
    | with_reducible apply ev_doIf

theorem ev_misroute {c : Rec} (h_regs : Part.regs ∈ L) (h : Evolves L s t) :
    Evolves L s (State.misroute t c) := by
  unfold State.misroute
  try dsimp only
  repeat' first
    | with_reducible assumption
    | intro _
    | with_reducible apply ev_bump
    | with_reducible apply ev_put
    | with_reducible apply ev_doIf

theorem ev_noteSeq {c : Rec} {seq : Word} (h_host : Part.host ∈ L) (h : Evolves L s t) :
    Evolves L s (State.noteSeq t c seq) := by
  unfold State.noteSeq
  try dsimp only
  repeat' first
    | with_reducible assumption
    | intro _
    | with_reducible apply ev_modHost
    | split
    | (show _ = true; first | assumption | rfl)

theorem ev_popRec (h_host : Part.host ∈ L) (h : Evolves L s t) :
    Evolves L s (State.popRec t) := by
  unfold State.popRec
  try dsimp only
  repeat' first
    | with_reducible assumption
    | intro _
    | with_reducible apply ev_modHost
    | (show _ = true; first | assumption | rfl)

theorem ev_recordWrite (h_regs : Part.regs ∈ L) (h_hostMem : Part.hostMem ∈ L) (h_host : Part.host ∈ L) (h_rings : Part.rings ∈ L) (h_free : Part.free ∈ L) (h : Evolves L s t) :
    Evolves L s (State.recordWrite t) := by
  unfold State.recordWrite
  try dsimp only
  repeat' first
    | with_reducible assumption
    | intro _
    | with_reducible apply ev_fetchAgain
    | with_reducible apply ev_popRec
    | with_reducible apply ev_misroute
    | with_reducible apply ev_ringDiscard
    | with_reducible apply ev_touch
    | with_reducible apply ev_ringWrite
    | with_reducible apply ev_noteSeq
    | with_reducible apply ev_doIf
    | split

theorem ev_lossNowhere {f : Func} {e : RingId} {ws : List Word} (h_regs : Part.regs ∈ L) (h : Evolves L s t) :
    Evolves L s (State.lossNowhere t f e ws) := by
  unfold State.lossNowhere
  try dsimp only
  repeat' first
    | with_reducible assumption
    | intro _
    | with_reducible apply ev_misroute
    | with_reducible apply ev_bump
    | split

theorem ev_showFn {f : Func} (h_regs : Part.regs ∈ L) (h : Evolves L s t) :
    Evolves L s (State.showFn t f) := by
  unfold State.showFn
  try dsimp only
  repeat' first
    | with_reducible assumption
    | intro _
    | with_reducible apply ev_putB

end Sys2Proof.Machine
end

