-- ==== Sys2Proof/Laws/EvClocks.lean ====
section
/-! SUPPORT. What each operation of Machine/Clocks.lean may change, and that it keeps the invariant. -/

namespace Sys2Proof.Machine

variable {L : List Part} {s t : State}

theorem ev_deviceReset (h_regs : Part.regs ∈ L) (h_bank : Part.bank ∈ L) (h_clk : Part.clk ∈ L) (h_crates : Part.crates ∈ L) (h_chans : Part.chans ∈ L) (h_slices : Part.slices ∈ L) (h_shot : Part.shot ∈ L) (h_emits : Part.emits ∈ L) (h_classes : Part.classes ∈ L) (h_chgs : Part.chgs ∈ L) (h_mons : Part.mons ∈ L) (h_eye : Part.eye ∈ L) (h_motor : Part.motor ∈ L) (h_host : Part.host ∈ L) (h_reqs : Part.reqs ∈ L) (h_rings : Part.rings ∈ L) (h_hk : Part.hk ∈ L) (h_saf : Part.saf ∈ L) (h_flt : Part.flt ∈ L) (h : Evolves L s t) :
    Evolves L s (State.deviceReset t) := by
  refine ev_trans h ⟨fun p hn => ?_, fun w => ?_⟩
  · cases p <;> first | rfl | (exfalso; apply hn; assumption)
  · have hz : State.reset.wf = true := rfl
    rw [State.wf_iff] at w hz ⊢
    obtain ⟨a, -, b, -, -, -, -, -, -, -, -, -, -, -, -, c⟩ := w
    obtain ⟨-, z1, -, z3, z4, z5, z6, z7, z8, z9, y1, y2, y3, y4, y5, -⟩ := hz
    rw [Flt.wf_iff] at c
    refine ⟨sparseWf_filter _ a, z1, b, z3, z4, z5, z6, z7, z8, z9, y1, y2, y3, y4, y5, ?_⟩
    rw [Flt.wf_iff]
    exact ⟨rfl, rfl, c.2.2⟩

theorem ev_loseRetention (h_regs : Part.regs ∈ L) (h_flt : Part.flt ∈ L) (h : Evolves L s t) :
    Evolves L s (State.loseRetention t) := by
  unfold State.loseRetention
  try dsimp only
  repeat' first
    | with_reducible assumption
    | intro _
    | with_reducible apply ev_dropRegs
    | with_reducible apply ev_modFlt
    | (show _ = true; first | assumption | rfl)
    | (rename_i hw; rw [Flt.wf_iff] at hw ⊢; refine ⟨?_, ?_, ?_⟩ <;> first | exact hw.1 | exact hw.2.1 | exact hw.2.2 | exact sparseWf_filter _ hw.1 | exact sparseWf_set _ _ hw.1 | exact Nat.zero_le _)

theorem ev_checkLog (h_regs : Part.regs ∈ L) (h_flt : Part.flt ∈ L) (h : Evolves L s t) :
    Evolves L s (State.checkLog t) := by
  unfold State.checkLog
  try dsimp only
  repeat' first
    | with_reducible assumption
    | intro _
    | with_reducible apply ev_wrapInc
    | with_reducible apply ev_setReg
    | with_reducible apply ev_modFlt
    | split
    | (show _ = true; first | assumption | rfl)
    | (rename_i hw; rw [Flt.wf_iff] at hw ⊢; refine ⟨?_, ?_, ?_⟩ <;> first | exact hw.1 | exact hw.2.1 | exact hw.2.2 | exact sparseWf_filter _ hw.1 | exact sparseWf_set _ _ hw.1 | exact Nat.zero_le _)

theorem ev_showOtp (h_regs : Part.regs ∈ L) (h : Evolves L s t) :
    Evolves L s (State.showOtp t) := by
  unfold State.showOtp
  try dsimp only
  repeat' first
    | with_reducible assumption
    | intro _
    | with_reducible apply ev_put
    | split

theorem ev_owedLogs (h_regs : Part.regs ∈ L) (h_host : Part.host ∈ L) (h_flt : Part.flt ∈ L) (h : Evolves L s t) :
    Evolves L s (State.owedLogs t) := by
  unfold State.owedLogs
  try dsimp only
  repeat' first
    | with_reducible assumption
    | intro _
    | with_reducible apply ev_log
    | with_reducible apply ev_doIf

theorem ev_linkReady (h_regs : Part.regs ∈ L) (h_host : Part.host ∈ L) (h : Evolves L s t) :
    Evolves L s (State.linkReady t) := by
  unfold State.linkReady
  try dsimp only
  repeat' first
    | with_reducible assumption
    | intro _
    | with_reducible apply ev_setReady
    | with_reducible apply ev_showFn
    | with_reducible apply ev_doIf

theorem ev_endWindows {c : Nat} (h_crates : Part.crates ∈ L) (h : Evolves L s t) :
    Evolves L s (State.endWindows t c) := by
  unfold State.endWindows
  try dsimp only
  repeat' first
    | with_reducible assumption
    | intro _
    | with_reducible apply ev_countWindow
    | with_reducible apply ev_modCrate
    | split

theorem ev_abortWindows {c : Nat} (h_crates : Part.crates ∈ L) (h_chans : Part.chans ∈ L) (h : Evolves L s t) :
    Evolves L s (State.abortWindows t c) := by
  unfold State.abortWindows
  try dsimp only
  repeat' first
    | with_reducible assumption
    | intro _
    | with_reducible apply ev_modChan
    | with_reducible apply ev_endWindows
    | with_reducible apply ev_modCrate
    | with_reducible apply ev_forAll
    | split

theorem ev_chargersOff (h_regs : Part.regs ∈ L) (h_chgs : Part.chgs ∈ L) (h : Evolves L s t) :
    Evolves L s (State.chargersOff t) := by
  unfold State.chargersOff
  try dsimp only
  repeat' first
    | with_reducible assumption
    | intro _
    | with_reducible apply ev_setChgState
    | with_reducible apply ev_modChg
    | with_reducible apply ev_forAll
    | with_reducible apply ev_doIf

theorem ev_crateLosesClock {c : Nat} (h_regs : Part.regs ∈ L) (h_crates : Part.crates ∈ L) (h_chans : Part.chans ∈ L) (h : Evolves L s t) :
    Evolves L s (State.crateLosesClock t c) := by
  unfold State.crateLosesClock
  try dsimp only
  repeat' first
    | with_reducible assumption
    | intro _
    | with_reducible apply ev_crateTurnsOff
    | with_reducible apply ev_abortWindows
    | with_reducible apply ev_doIf

theorem ev_clearTimingReady (h_regs : Part.regs ∈ L) (h_host : Part.host ∈ L) (h : Evolves L s t) :
    Evolves L s (State.clearTimingReady t) := by
  unfold State.clearTimingReady
  try dsimp only
  repeat' first
    | with_reducible assumption
    | intro _
    | with_reducible apply ev_changeReady
    | with_reducible apply ev_putB
    | with_reducible apply ev_setReg

theorem ev_endPulses (h_shot : Part.shot ∈ L) (h_emits : Part.emits ∈ L) (h : Evolves L s t) :
    Evolves L s (State.endPulses t) := by
  unfold State.endPulses
  try dsimp only
  repeat' first
    | with_reducible assumption
    | intro _
    | with_reducible apply ev_modEmit
    | with_reducible apply ev_modShot
    | with_reducible apply ev_forAll

theorem ev_timingReset (h_regs : Part.regs ∈ L) (h_clk : Part.clk ∈ L) (h_crates : Part.crates ∈ L) (h_chans : Part.chans ∈ L) (h_shot : Part.shot ∈ L) (h_emits : Part.emits ∈ L) (h_chgs : Part.chgs ∈ L) (h_motor : Part.motor ∈ L) (h_host : Part.host ∈ L) (h : Evolves L s t) :
    Evolves L s (State.timingReset t) := by
  unfold State.timingReset
  try dsimp only
  repeat' first
    | with_reducible assumption
    | intro _
    | with_reducible apply ev_crateLosesClock
    | with_reducible apply ev_putB
    | with_reducible apply ev_clearTimingReady
    | with_reducible apply ev_chargersOff
    | with_reducible apply ev_endPulses
    | with_reducible apply ev_resetMotor
    | with_reducible apply ev_modClk
    | with_reducible apply ev_forAll
    | split

theorem ev_refclkLoss (h_regs : Part.regs ∈ L) (h_bank : Part.bank ∈ L) (h_clk : Part.clk ∈ L) (h_crates : Part.crates ∈ L) (h_chans : Part.chans ∈ L) (h_shot : Part.shot ∈ L) (h_emits : Part.emits ∈ L) (h_chgs : Part.chgs ∈ L) (h_motor : Part.motor ∈ L) (h_host : Part.host ∈ L) (h_flt : Part.flt ∈ L) (h : Evolves L s t) :
    Evolves L s (State.refclkLoss t) := by
  unfold State.refclkLoss
  try dsimp only
  repeat' first
    | with_reducible assumption
    | intro _
    | with_reducible apply ev_putB
    | with_reducible apply ev_bump
    | with_reducible apply ev_modClk
    | with_reducible apply ev_abortEngine
    | with_reducible apply ev_timingReset
    | with_reducible apply ev_showPermit
    | with_reducible apply ev_post
    | with_reducible apply ev_log

theorem ev_refclkFound (h_regs : Part.regs ∈ L) (h_clk : Part.clk ∈ L) (h_host : Part.host ∈ L) (h_flt : Part.flt ∈ L) (h : Evolves L s t) :
    Evolves L s (State.refclkFound t) := by
  unfold State.refclkFound
  try dsimp only
  repeat' first
    | with_reducible assumption
    | intro _
    | with_reducible apply ev_putB
    | with_reducible apply ev_modClk
    | with_reducible apply ev_post
    | with_reducible apply ev_log
    | with_reducible apply ev_doIf

theorem ev_xtalLoss (h_regs : Part.regs ∈ L) (h_clk : Part.clk ∈ L) (h_crates : Part.crates ∈ L) (h_chans : Part.chans ∈ L) (h_shot : Part.shot ∈ L) (h_emits : Part.emits ∈ L) (h_chgs : Part.chgs ∈ L) (h_motor : Part.motor ∈ L) (h_host : Part.host ∈ L) (h : Evolves L s t) :
    Evolves L s (State.xtalLoss t) := by
  unfold State.xtalLoss
  try dsimp only
  repeat' first
    | with_reducible assumption
    | intro _
    | with_reducible apply ev_modClk
    | with_reducible apply ev_putB
    | with_reducible apply ev_modEmit
    | with_reducible apply ev_modShot
    | with_reducible apply ev_setEngine
    | with_reducible apply ev_timingReset
    | with_reducible apply ev_showPermit
    | with_reducible apply ev_forAll

theorem ev_logAbandoned {c : Nat} {chans : BitVec 16} {spare : Bool} (h_regs : Part.regs ∈ L) (h_host : Part.host ∈ L) (h_flt : Part.flt ∈ L) (h : Evolves L s t) :
    Evolves L s (State.logAbandoned t c chans spare) := by
  unfold State.logAbandoned
  try dsimp only
  repeat' first
    | with_reducible assumption
    | intro _
    | with_reducible apply ev_logService
    | with_reducible apply ev_doIf
    | with_reducible apply ev_forAll

theorem ev_dropRetest {c : Nat} (h_regs : Part.regs ∈ L) (h_crates : Part.crates ∈ L) (h_host : Part.host ∈ L) (h_flt : Part.flt ∈ L) (h : Evolves L s t) :
    Evolves L s (State.dropRetest t c) := by
  unfold State.dropRetest
  try dsimp only
  repeat' first
    | with_reducible assumption
    | intro _
    | with_reducible apply ev_logAbandoned
    | with_reducible apply ev_modCrate
    | with_reducible apply ev_putB
    | split

theorem ev_chansOff {c : Nat} (h_regs : Part.regs ∈ L) (h_crates : Part.crates ∈ L) (h_chans : Part.chans ∈ L) (h : Evolves L s t) :
    Evolves L s (State.chansOff t c) := by
  unfold State.chansOff
  try dsimp only
  repeat' first
    | with_reducible assumption
    | intro _
    | with_reducible apply ev_stopChan
    | with_reducible apply ev_release
    | with_reducible apply ev_forAll
    | with_reducible apply ev_doIf

theorem ev_crateStop {c : Nat} (h_regs : Part.regs ∈ L) (h_bank : Part.bank ∈ L) (h_crates : Part.crates ∈ L) (h_chans : Part.chans ∈ L) (h_slices : Part.slices ∈ L) (h_host : Part.host ∈ L) (h_flt : Part.flt ∈ L) (h : Evolves L s t) :
    Evolves L s (State.crateStop t c) := by
  unfold State.crateStop
  try dsimp only
  repeat' first
    | with_reducible assumption
    | intro _
    | with_reducible apply ev_put
    | with_reducible apply ev_setCratesReady
    | with_reducible apply ev_endWindows
    | with_reducible apply ev_modCrate
    | with_reducible apply ev_dropRetest
    | with_reducible apply ev_endCaptures
    | with_reducible apply ev_chansOff
    | with_reducible apply ev_stopDwell

theorem ev_powerStep {c : Nat} (h_regs : Part.regs ∈ L) (h_bank : Part.bank ∈ L) (h_crates : Part.crates ∈ L) (h_chans : Part.chans ∈ L) (h_slices : Part.slices ∈ L) (h_host : Part.host ∈ L) (h_flt : Part.flt ∈ L) (h : Evolves L s t) :
    Evolves L s (State.powerStep t c) := by
  unfold State.powerStep
  try dsimp only
  repeat' first
    | with_reducible assumption
    | intro _
    | with_reducible apply ev_crateTurnsOff
    | with_reducible apply ev_crateStop
    | split

theorem ev_powerAll (h_regs : Part.regs ∈ L) (h_bank : Part.bank ∈ L) (h_crates : Part.crates ∈ L) (h_chans : Part.chans ∈ L) (h_slices : Part.slices ∈ L) (h_host : Part.host ∈ L) (h_flt : Part.flt ∈ L) (h : Evolves L s t) :
    Evolves L s (State.powerAll t) := by
  unfold State.powerAll
  try dsimp only
  repeat' first
    | with_reducible assumption
    | intro _
    | with_reducible apply ev_powerStep
    | with_reducible apply ev_doIf
    | with_reducible apply ev_forAll

theorem ev_cratePowerWrite {value : Word} (h_regs : Part.regs ∈ L) (h_bank : Part.bank ∈ L) (h_crates : Part.crates ∈ L) (h_chans : Part.chans ∈ L) (h_slices : Part.slices ∈ L) (h_host : Part.host ∈ L) (h_flt : Part.flt ∈ L) (h : Evolves L s t) :
    Evolves L s (State.cratePowerWrite t value) := by
  unfold State.cratePowerWrite
  try dsimp only
  repeat' first
    | with_reducible assumption
    | intro _
    | with_reducible apply ev_changeReady
    | with_reducible apply ev_setReg
    | with_reducible apply ev_powerAll

theorem ev_showHeld {c : Nat} (h_regs : Part.regs ∈ L) (h_crates : Part.crates ∈ L) (h : Evolves L s t) :
    Evolves L s (State.showHeld t c) := by
  unfold State.showHeld
  try dsimp only
  repeat' first
    | with_reducible assumption
    | intro _
    | with_reducible apply ev_dropCal
    | with_reducible apply ev_bump
    | with_reducible apply ev_modCrate
    | with_reducible apply ev_showQuiet

theorem ev_testSlice {c : Nat} {i : Nat} {m : SelfTest} (h_regs : Part.regs ∈ L) (h_crates : Part.crates ∈ L) (h_chans : Part.chans ∈ L) (h_slices : Part.slices ∈ L) (h_host : Part.host ∈ L) (h_flt : Part.flt ∈ L) (h : Evolves L s t) :
    Evolves L s (State.testSlice t c i m) := by
  unfold State.testSlice
  try dsimp only
  repeat' first
    | with_reducible assumption
    | intro _
    | with_reducible apply ev_modSlice
    | with_reducible apply ev_put
    | with_reducible apply ev_putInt
    | with_reducible apply ev_retire
    | split

theorem ev_seedAtReady (h_shot : Part.shot ∈ L) (h : Evolves L s t) :
    Evolves L s (State.seedAtReady t) := by
  unfold State.seedAtReady
  try dsimp only
  repeat' first
    | with_reducible assumption
    | intro _
    | with_reducible apply ev_modShot
    | with_reducible apply ev_doIf

theorem ev_relockSlices (h_slices : Part.slices ∈ L) (h : Evolves L s t) :
    Evolves L s (State.relockSlices t) := by
  unfold State.relockSlices
  try dsimp only
  repeat' first
    | with_reducible assumption
    | intro _
    | with_reducible apply ev_modSlice
    | with_reducible apply ev_forAll
    | with_reducible apply ev_doIf

theorem ev_timingLock (h_regs : Part.regs ∈ L) (h_bank : Part.bank ∈ L) (h_clk : Part.clk ∈ L) (h_crates : Part.crates ∈ L) (h_chans : Part.chans ∈ L) (h_slices : Part.slices ∈ L) (h_chgs : Part.chgs ∈ L) (h_host : Part.host ∈ L) (h_flt : Part.flt ∈ L) (h : Evolves L s t) :
    Evolves L s (State.timingLock t) := by
  unfold State.timingLock
  try dsimp only
  repeat' first
    | with_reducible assumption
    | intro _
    | with_reducible apply ev_putB
    | with_reducible apply ev_changeReady
    | with_reducible apply ev_modClk
    | with_reducible apply ev_relockSlices
    | with_reducible apply ev_showHeld
    | with_reducible apply ev_carryMode
    | with_reducible apply ev_applyChg
    | with_reducible apply ev_powerAll
    | with_reducible apply ev_showShot
    | with_reducible apply ev_forAll
    | with_reducible apply ev_doIf

theorem ev_scanCells {x : BoundaryScan} (h_tap : Part.tap ∈ L) (h : Evolves L s t) :
    Evolves L s (State.scanCells t x) := by
  unfold State.scanCells
  try dsimp only
  repeat' first
    | with_reducible assumption
    | intro _
    | with_reducible apply ev_modTap

end Sys2Proof.Machine
end

