-- ==== Sys2Proof/Laws/EvCommands.lean ====
section
/-! SUPPORT. What each operation of Machine/Commands.lean may change, and that it keeps the invariant. -/

namespace Sys2Proof.Machine

variable {L : List Part} {s t : State}

theorem ev_readList {c : Cmd} (h_host : Part.host ∈ L) (h : Evolves L s t) :
    Evolves L s (State.readList t c) := by
  unfold State.readList
  try dsimp only
  repeat' first
    | with_reducible assumption
    | intro _
    | with_reducible apply ev_modHost
    | with_reducible apply ev_askRead
    | split
    | (show _ = true; first | assumption | rfl)

theorem ev_takeDescr {r : RingId} (h_rings : Part.rings ∈ L) (h : Evolves L s t) :
    Evolves L s (State.takeDescr t r) := by
  unfold State.takeDescr
  try dsimp only
  repeat' first
    | with_reducible assumption
    | intro _
    | with_reducible apply ev_modRing

theorem ev_acceptDescr {r : RingId} {ws : List Word} (h_regs : Part.regs ∈ L) (h_hostMem : Part.hostMem ∈ L) (h_host : Part.host ∈ L) (h_rings : Part.rings ∈ L) (h_free : Part.free ∈ L) (h : Evolves L s t) :
    Evolves L s (State.acceptDescr t r ws) := by
  unfold State.acceptDescr
  try dsimp only
  repeat' first
    | with_reducible assumption
    | intro _
    | with_reducible apply ev_touchHit
    | with_reducible apply ev_modHost
    | with_reducible apply ev_takeDescr
    | with_reducible apply ev_fail
    | with_reducible apply ev_readList
    | with_reducible apply ev_forAll
    | split
    | (show _ = true; first | assumption | rfl)

theorem ev_descrArrives {r : RingId} {ws : List Word} (h_regs : Part.regs ∈ L) (h_hostMem : Part.hostMem ∈ L) (h_host : Part.host ∈ L) (h_rings : Part.rings ∈ L) (h_free : Part.free ∈ L) (h : Evolves L s t) :
    Evolves L s (State.descrArrives t r ws) := by
  unfold State.descrArrives
  try dsimp only
  repeat' first
    | with_reducible assumption
    | intro _
    | with_reducible apply ev_modRing
    | with_reducible apply ev_fetchAgain
    | with_reducible apply ev_acceptDescr
    | split

theorem ev_dropRead (h_host : Part.host ∈ L) (h : Evolves L s t) :
    Evolves L s (State.dropRead t) := by
  unfold State.dropRead
  try dsimp only
  repeat' first
    | with_reducible assumption
    | intro _
    | with_reducible apply ev_modHost
    | with_reducible apply ev_issueReads
    | (show _ = true; first | assumption | rfl)

theorem ev_listArrives {ref : CmdRef} {ws : List Word} (h_host : Part.host ∈ L) (h : Evolves L s t) :
    Evolves L s (State.listArrives t ref ws) := by
  unfold State.listArrives
  try dsimp only
  repeat' first
    | with_reducible assumption
    | intro _
    | with_reducible apply ev_modHost
    | with_reducible apply ev_readList
    | split
    | (show _ = true; first | assumption | rfl)

theorem ev_readData {p : ReadFor} {ws : List Word} (h_regs : Part.regs ∈ L) (h_hostMem : Part.hostMem ∈ L) (h_host : Part.host ∈ L) (h_rings : Part.rings ∈ L) (h_free : Part.free ∈ L) (h : Evolves L s t) :
    Evolves L s (State.readData t p ws) := by
  unfold State.readData
  try dsimp only
  repeat' first
    | with_reducible assumption
    | intro _
    | with_reducible apply ev_modRing
    | with_reducible apply ev_touch
    | with_reducible apply ev_releaseBells
    | with_reducible apply ev_descrArrives
    | with_reducible apply ev_listArrives
    | with_reducible apply ev_doIf
    | split

theorem ev_readFails {h_ : HostRead} (h_regs : Part.regs ∈ L) (h_hostMem : Part.hostMem ∈ L) (h_host : Part.host ∈ L) (h_rings : Part.rings ∈ L) (h_free : Part.free ∈ L) (h : Evolves L s t) :
    Evolves L s (State.readFails t h_) := by
  unfold State.readFails
  try dsimp only
  repeat' first
    | with_reducible assumption
    | intro _
    | with_reducible apply ev_bump
    | with_reducible apply ev_modRing
    | with_reducible apply ev_releaseBells
    | with_reducible apply ev_ringError
    | with_reducible apply ev_fail
    | with_reducible apply ev_doIf
    | split

end Sys2Proof.Machine
end

