-- ==== Sys2Proof/Laws/EvExtract.lean ====
section
/-! SUPPORT. What each operation of Machine/Extract.lean may change, and that it keeps the invariant. -/

namespace Sys2Proof.Machine

variable {L : List Part} {s t : State}

theorem ev_xDone {c : Nat} {k : Nat} {id : Nat} {wet : Bool} {clocks : Nat} {d : Descr} (h_regs : Part.regs ∈ L) (h_crates : Part.crates ∈ L) (h_host : Part.host ∈ L) (h_free : Part.free ∈ L) (h : Evolves L s t) :
    Evolves L s (State.xDone t c k id wet clocks d) := by
  unfold State.xDone
  try dsimp only
  repeat' first
    | with_reducible assumption
    | intro _
    | with_reducible apply ev_skipFree
    | with_reducible apply ev_modCrate
    | with_reducible apply ev_weather
    | with_reducible apply ev_put
    | with_reducible apply ev_raise
    | split

theorem ev_dumpLess {c : Nat} {k : Nat} {id : Nat} (h_regs : Part.regs ∈ L) (h_bank : Part.bank ∈ L) (h_crates : Part.crates ∈ L) (h_chans : Part.chans ∈ L) (h_host : Part.host ∈ L) (h : Evolves L s t) :
    Evolves L s (State.dumpLess t c k id) := by
  unfold State.dumpLess
  try dsimp only
  repeat' first
    | with_reducible assumption
    | intro _
    | with_reducible apply ev_modCrate
    | with_reducible apply ev_finishDump
    | split

theorem ev_keepForDump {c : Nat} {k : Nat} {x : Bool} (h_bank : Part.bank ∈ L) (h_chans : Part.chans ∈ L) (h : Evolves L s t) :
    Evolves L s (State.keepForDump t c k x) := by
  unfold State.keepForDump
  try dsimp only
  repeat' first
    | with_reducible assumption
    | intro _
    | with_reducible apply ev_modBuf
    | with_reducible apply ev_clearFine
    | split

theorem ev_leaveBuf {c : Nat} {k : Nat} {x : Bool} {b : Buf} (h_regs : Part.regs ∈ L) (h_bank : Part.bank ∈ L) (h_crates : Part.crates ∈ L) (h_chans : Part.chans ∈ L) (h_host : Part.host ∈ L) (h : Evolves L s t) :
    Evolves L s (State.leaveBuf t c k x b) := by
  unfold State.leaveBuf
  try dsimp only
  repeat' first
    | with_reducible assumption
    | intro _
    | with_reducible apply ev_freeBuf
    | with_reducible apply ev_dumpLess
    | with_reducible apply ev_keepForDump
    | split

theorem ev_endExtraction {c : Nat} {k : Nat} {x : Bool} {b : Buf} {d : Descr} {m : CloseMark} (h_regs : Part.regs ∈ L) (h_bank : Part.bank ∈ L) (h_crates : Part.crates ∈ L) (h_chans : Part.chans ∈ L) (h_host : Part.host ∈ L) (h_saf : Part.saf ∈ L) (h_free : Part.free ∈ L) (h : Evolves L s t) :
    Evolves L s (State.endExtraction t c k x b d m) := by
  unfold State.endExtraction
  try dsimp only
  repeat' first
    | with_reducible assumption
    | intro _
    | with_reducible apply ev_putB
    | with_reducible apply ev_windowLevel
    | with_reducible apply ev_pushRec
    | with_reducible apply ev_zoneDeliver
    | with_reducible apply ev_modChan
    | with_reducible apply ev_xDone
    | with_reducible apply ev_leaveBuf
    | with_reducible apply ev_nextExtract
    | with_reducible apply ev_doIf
    | with_reducible apply ev_forAll
    | split

theorem ev_stallExtractor {c : Nat} {id : Nat} (h_crates : Part.crates ∈ L) (h : Evolves L s t) :
    Evolves L s (State.stallExtractor t c id) := by
  unfold State.stallExtractor
  try dsimp only
  repeat' first
    | with_reducible assumption
    | intro _
    | with_reducible apply ev_modCrate
    | split

theorem ev_dumpBuf {c : Nat} {k : Nat} {x : Bool} {u : Dump} {d : Descr} {m : CloseMark} (h_regs : Part.regs ∈ L) (h_bank : Part.bank ∈ L) (h_crates : Part.crates ∈ L) (h_chans : Part.chans ∈ L) (h_host : Part.host ∈ L) (h : Evolves L s t) :
    Evolves L s (State.dumpBuf t c k x u d m) := by
  unfold State.dumpBuf
  try dsimp only
  repeat' first
    | with_reducible assumption
    | intro _
    | with_reducible apply ev_pushRec
    | with_reducible apply ev_bump
    | with_reducible apply ev_modCrate
    | with_reducible apply ev_freeBuf
    | with_reducible apply ev_dumpLess
    | split

end Sys2Proof.Machine
end

