-- ==== Sys2Proof/Laws/EvFaults.lean ====
section
/-! SUPPORT. What each operation of Machine/Faults.lean may change, and that it keeps the invariant. -/

namespace Sys2Proof.Machine

variable {L : List Part} {s t : State}

theorem ev_queueChange {c : FmChange} (h_regs : Part.regs ∈ L) (h_flt : Part.flt ∈ L) (h : Evolves L s t) :
    Evolves L s (State.queueChange t c) := by
  unfold State.queueChange
  try dsimp only
  repeat' first
    | with_reducible assumption
    | intro _
    | with_reducible apply ev_modFlt
    | with_reducible apply ev_showPend
    | (show _ = true; first | assumption | rfl)
    | (rename_i hw; rw [Flt.wf_iff] at hw ⊢; refine ⟨?_, ?_, ?_⟩ <;> first | exact hw.1 | exact hw.2.1 | exact hw.2.2 | exact sparseWf_filter _ hw.1 | exact sparseWf_set _ _ hw.1 | exact Nat.zero_le _)

theorem ev_permanentEffect {d : Detect} (h_regs : Part.regs ∈ L) (h_crates : Part.crates ∈ L) (h_chans : Part.chans ∈ L) (h_chgs : Part.chgs ∈ L) (h_host : Part.host ∈ L) (h_hk : Part.hk ∈ L) (h_flt : Part.flt ∈ L) (h_free : Part.free ∈ L) (h : Evolves L s t) :
    Evolves L s (State.permanentEffect t d) := by
  unfold State.permanentEffect
  try dsimp only
  repeat' first
    | with_reducible assumption
    | intro _
    | with_reducible apply ev_queueChange
    | with_reducible apply ev_retire
    | with_reducible apply ev_modCrate
    | with_reducible apply ev_failChg
    | with_reducible apply ev_failMon
    | with_reducible apply ev_modHk
    | split
    | (show _ = true; first | assumption | rfl)

theorem ev_makePermanent {d : Detect} (h_regs : Part.regs ∈ L) (h_crates : Part.crates ∈ L) (h_chans : Part.chans ∈ L) (h_chgs : Part.chgs ∈ L) (h_host : Part.host ∈ L) (h_hk : Part.hk ∈ L) (h_flt : Part.flt ∈ L) (h_free : Part.free ∈ L) (h : Evolves L s t) :
    Evolves L s (State.makePermanent t d) := by
  unfold State.makePermanent
  try dsimp only
  repeat' first
    | with_reducible assumption
    | intro _
    | with_reducible apply ev_bump
    | with_reducible apply ev_log
    | with_reducible apply ev_modFlt
    | with_reducible apply ev_permanentEffect
    | (show _ = true; first | assumption | rfl)
    | (rename_i hw; rw [Flt.wf_iff] at hw ⊢; refine ⟨?_, ?_, ?_⟩ <;> first | exact hw.1 | exact hw.2.1 | exact hw.2.2 | exact sparseWf_filter _ hw.1 | exact sparseWf_set _ _ hw.1 | exact Nat.zero_le _)

theorem ev_strike {d : Detect} (h_regs : Part.regs ∈ L) (h_crates : Part.crates ∈ L) (h_chans : Part.chans ∈ L) (h_chgs : Part.chgs ∈ L) (h_host : Part.host ∈ L) (h_hk : Part.hk ∈ L) (h_flt : Part.flt ∈ L) (h_free : Part.free ∈ L) (h : Evolves L s t) :
    Evolves L s (State.strike t d) := by
  unfold State.strike
  try dsimp only
  repeat' first
    | with_reducible assumption
    | intro _
    | with_reducible apply ev_modFlt
    | with_reducible apply ev_bump
    | with_reducible apply ev_makePermanent
    | with_reducible apply ev_log
    | split
    | (show _ = true; first | assumption | rfl)
    | (rename_i hw; rw [Flt.wf_iff] at hw ⊢; refine ⟨?_, ?_, ?_⟩ <;> first | exact hw.1 | exact hw.2.1 | exact hw.2.2 | exact sparseWf_filter _ hw.1 | exact sparseWf_set _ _ hw.1 | exact Nat.zero_le _)

theorem ev_clearLog (h_regs : Part.regs ∈ L) (h_flt : Part.flt ∈ L) (h : Evolves L s t) :
    Evolves L s (State.clearLog t) := by
  unfold State.clearLog
  try dsimp only
  repeat' first
    | with_reducible assumption
    | intro _
    | with_reducible apply ev_modFlt
    | with_reducible apply ev_put
    | with_reducible apply ev_setReg
    | (show _ = true; first | assumption | rfl)
    | (rename_i hw; rw [Flt.wf_iff] at hw ⊢; refine ⟨?_, ?_, ?_⟩ <;> first | exact hw.1 | exact hw.2.1 | exact hw.2.2 | exact sparseWf_filter _ hw.1 | exact sparseWf_set _ _ hw.1 | exact Nat.zero_le _)

theorem ev_fltCtlWrite {q : Src} {value : Word} (h_regs : Part.regs ∈ L) (h_host : Part.host ∈ L) (h_flt : Part.flt ∈ L) (h : Evolves L s t) :
    Evolves L s (State.fltCtlWrite t q value) := by
  unfold State.fltCtlWrite
  try dsimp only
  repeat' first
    | with_reducible assumption
    | intro _
    | with_reducible apply ev_refuseWrite
    | with_reducible apply ev_clearLog
    | with_reducible apply ev_doIf
    | split

theorem ev_logSelect {q : Src} {value : Word} (h_reqs : Part.reqs ∈ L) (h : Evolves L s t) :
    Evolves L s (State.logSelect t q value) := by
  unfold State.logSelect
  try dsimp only
  repeat' first
    | with_reducible assumption
    | intro _
    | with_reducible apply ev_modReq

theorem ev_logRead {q : Src} (h_reqs : Part.reqs ∈ L) (h : Evolves L s t) :
    Evolves L s (State.logRead t q) := by
  unfold State.logRead
  try dsimp only
  repeat' first
    | with_reducible assumption
    | intro _
    | with_reducible apply ev_modReq

end Sys2Proof.Machine
end

