-- ==== Sys2Proof/Laws/EvHousekeeping.lean ====
section
/-! SUPPORT. What each operation of Machine/Housekeeping.lean may change, and that it keeps the invariant. -/

namespace Sys2Proof.Machine

variable {L : List Part} {s t : State}

theorem ev_hkBoundary (h_hk : Part.hk ∈ L) (h : Evolves L s t) :
    Evolves L s (State.hkBoundary t) := by
  unfold State.hkBoundary
  try dsimp only
  repeat' first
    | with_reducible assumption
    | intro _
    | with_reducible apply ev_modHk
    | (show _ = true; first | assumption | rfl)

theorem ev_hkShow {st : Nat} {entry : Nat} (h_regs : Part.regs ∈ L) (h : Evolves L s t) :
    Evolves L s (State.hkShow t st entry) := by
  unfold State.hkShow
  try dsimp only
  repeat' first
    | with_reducible assumption
    | intro _
    | with_reducible apply ev_put

theorem ev_hkSetQ {q : List Urgent} (h_regs : Part.regs ∈ L) (h_hk : Part.hk ∈ L) (h : Evolves L s t) :
    Evolves L s (State.hkSetQ t q) := by
  unfold State.hkSetQ
  try dsimp only
  repeat' first
    | with_reducible assumption
    | intro _
    | with_reducible apply ev_modHk
    | with_reducible apply ev_put
    | (show _ = true; first | assumption | rfl)

theorem ev_hkBegin (h_regs : Part.regs ∈ L) (h_hk : Part.hk ∈ L) (h : Evolves L s t) :
    Evolves L s (State.hkBegin t) := by
  unfold State.hkBegin
  try dsimp only
  repeat' first
    | with_reducible assumption
    | intro _
    | with_reducible apply ev_hkBoundary
    | with_reducible apply ev_modHk
    | with_reducible apply ev_put
    | split
    | (show _ = true; first | assumption | rfl)

theorem ev_hkAbandon (h_hk : Part.hk ∈ L) (h : Evolves L s t) :
    Evolves L s (State.hkAbandon t) := by
  unfold State.hkAbandon
  try dsimp only
  repeat' first
    | with_reducible assumption
    | intro _
    | with_reducible apply ev_modHk
    | (show _ = true; first | assumption | rfl)

theorem ev_hkLead (h_regs : Part.regs ∈ L) (h_hk : Part.hk ∈ L) (h : Evolves L s t) :
    Evolves L s (State.hkLead t) := by
  unfold State.hkLead
  try dsimp only
  repeat' first
    | with_reducible assumption
    | intro _
    | with_reducible apply ev_modHk
    | with_reducible apply ev_put
    | with_reducible apply ev_hkBegin
    | split
    | (show _ = true; first | assumption | rfl)

theorem ev_hkSelect {j : Nat} (h_regs : Part.regs ∈ L) (h_hk : Part.hk ∈ L) (h : Evolves L s t) :
    Evolves L s (State.hkSelect t j) := by
  unfold State.hkSelect
  try dsimp only
  repeat' first
    | with_reducible assumption
    | intro _
    | with_reducible apply ev_modHk
    | with_reducible apply ev_hkShow
    | with_reducible apply ev_put
    | with_reducible apply ev_hkLead
    | split
    | (show _ = true; first | assumption | rfl)

theorem ev_hkIdle (h_regs : Part.regs ∈ L) (h_hk : Part.hk ∈ L) (h : Evolves L s t) :
    Evolves L s (State.hkIdle t) := by
  unfold State.hkIdle
  try dsimp only
  repeat' first
    | with_reducible assumption
    | intro _
    | with_reducible apply ev_hkBoundary
    | with_reducible apply ev_modHk
    | with_reducible apply ev_put
    | (show _ = true; first | assumption | rfl)

theorem ev_hkFrom {j : Nat} (h_regs : Part.regs ∈ L) (h_hk : Part.hk ∈ L) (h : Evolves L s t) :
    Evolves L s (State.hkFrom t j) := by
  unfold State.hkFrom
  try dsimp only
  repeat' first
    | with_reducible assumption
    | intro _
    | with_reducible apply ev_hkSelect
    | with_reducible apply ev_hkIdle
    | with_reducible apply ev_wrapInc
    | split

theorem ev_hkRestart (h_regs : Part.regs ∈ L) (h_hk : Part.hk ∈ L) (h : Evolves L s t) :
    Evolves L s (State.hkRestart t) := by
  unfold State.hkRestart
  try dsimp only
  repeat' first
    | with_reducible assumption
    | intro _
    | with_reducible apply ev_modHk
    | with_reducible apply ev_wrapInc
    | with_reducible apply ev_hkIdle
    | with_reducible apply ev_hkFrom
    | split
    | (show _ = true; first | assumption | rfl)

theorem ev_hkResume {r : HkResume} (h_regs : Part.regs ∈ L) (h_hk : Part.hk ∈ L) (h : Evolves L s t) :
    Evolves L s (State.hkResume t r) := by
  unfold State.hkResume
  try dsimp only
  repeat' first
    | with_reducible assumption
    | intro _
    | with_reducible apply ev_hkFrom
    | with_reducible apply ev_put
    | with_reducible apply ev_hkLead
    | with_reducible apply ev_modHk
    | with_reducible apply ev_hkShow
    | split
    | (show _ = true; first | assumption | rfl)

theorem ev_hkConverted {k : Nat} {cmd : Option CmdRef} (h_regs : Part.regs ∈ L) (h_host : Part.host ∈ L) (h : Evolves L s t) :
    Evolves L s (State.hkConverted t k cmd) := by
  unfold State.hkConverted
  try dsimp only
  repeat' first
    | with_reducible assumption
    | intro _
    | with_reducible apply ev_complete
    | with_reducible apply ev_putB
    | split

theorem ev_hkUrgentEnd (h_regs : Part.regs ∈ L) (h_hk : Part.hk ∈ L) (h : Evolves L s t) :
    Evolves L s (State.hkUrgentEnd t) := by
  unfold State.hkUrgentEnd
  try dsimp only
  repeat' first
    | with_reducible assumption
    | intro _
    | with_reducible apply ev_modHk
    | with_reducible apply ev_hkRestart
    | with_reducible apply ev_hkResume
    | split
    | (show _ = true; first | assumption | rfl)

theorem ev_hkRun {q : List Urgent} (h_regs : Part.regs ∈ L) (h_host : Part.host ∈ L) (h_hk : Part.hk ∈ L) (h : Evolves L s t) :
    Evolves L s (State.hkRun q t) := by
  induction q generalizing t with
  | nil => exact ev_hkUrgentEnd h_regs h_hk h
  | cons x q ih =>
    have hq := ev_hkSetQ (q := q) h_regs h_hk h
    cases x with
    | readback d => exact ev_put h_regs (ev_modHk h_hk (fun _ w => w) hq)
    | convert k cmd =>
      unfold State.hkRun
      dsimp only
      split
      · refine ih ?_
        cases cmd with
        | none => exact ev_hkConverted h_regs h_host hq
        | some ref => exact ev_fail h_host hq
      · exact ev_hkLead h_regs h_hk (ev_hkShow h_regs (ev_modHk h_hk (fun _ w => w) hq))

theorem ev_hkThen {r : HkResume} (h_regs : Part.regs ∈ L) (h_host : Part.host ∈ L) (h_hk : Part.hk ∈ L) (h : Evolves L s t) :
    Evolves L s (State.hkThen t r) := by
  unfold State.hkThen
  try dsimp only
  repeat' first
    | with_reducible assumption
    | intro _
    | with_reducible apply ev_hkRun
    | with_reducible apply ev_modHk
    | with_reducible apply ev_hkRestart
    | with_reducible apply ev_hkResume
    | split
    | (show _ = true; first | assumption | rfl)

theorem ev_hkRequest {u : Urgent} (h_regs : Part.regs ∈ L) (h_host : Part.host ∈ L) (h_hk : Part.hk ∈ L) (h : Evolves L s t) :
    Evolves L s (State.hkRequest t u) := by
  unfold State.hkRequest
  try dsimp only
  repeat' first
    | with_reducible assumption
    | intro _
    | with_reducible apply ev_hkSetQ
    | with_reducible apply ev_hkThen
    | split

theorem ev_cnowWrite {q : Src} {value : Word} (h_regs : Part.regs ∈ L) (h_host : Part.host ∈ L) (h_hk : Part.hk ∈ L) (h_flt : Part.flt ∈ L) (h : Evolves L s t) :
    Evolves L s (State.cnowWrite t q value) := by
  unfold State.cnowWrite
  try dsimp only
  repeat' first
    | with_reducible assumption
    | intro _
    | with_reducible apply ev_refuseWrite
    | with_reducible apply ev_putB
    | with_reducible apply ev_put
    | with_reducible apply ev_hkRequest
    | with_reducible apply ev_doIf
    | split

theorem ev_hkWrite {j : Nat} {urg : Bool} {d : Int} {settle : Nat} (h_regs : Part.regs ∈ L) (h_crates : Part.crates ∈ L) (h_free : Part.free ∈ L) (h : Evolves L s t) :
    Evolves L s (State.hkWrite t j urg d settle) := by
  unfold State.hkWrite
  try dsimp only
  repeat' first
    | with_reducible assumption
    | intro _
    | with_reducible apply ev_skipFree
    | with_reducible apply ev_setReg
    | with_reducible apply ev_resultWritten
    | split

theorem ev_hkPassEnd (h_regs : Part.regs ∈ L) (h_crates : Part.crates ∈ L) (h_host : Part.host ∈ L) (h_hk : Part.hk ∈ L) (h_free : Part.free ∈ L) (h : Evolves L s t) :
    Evolves L s (State.hkPassEnd t) := by
  unfold State.hkPassEnd
  try dsimp only
  repeat' first
    | with_reducible assumption
    | intro _
    | with_reducible apply ev_hkWrite
    | with_reducible apply ev_modHk
    | with_reducible apply ev_bump
    | with_reducible apply ev_hkConverted
    | with_reducible apply ev_hkRun
    | with_reducible apply ev_hkThen
    | split
    | (show _ = true; first | assumption | rfl)

theorem ev_hkTake {d : Int} (h_hk : Part.hk ∈ L) (h : Evolves L s t) :
    Evolves L s (State.hkTake t d) := by
  unfold State.hkTake
  try dsimp only
  repeat' first
    | with_reducible assumption
    | intro _
    | with_reducible apply ev_modHk
    | split
    | (show _ = true; first | assumption | rfl)

theorem ev_hkCheck {j : Nat} {c : HkConv} (h_regs : Part.regs ∈ L) (h_hk : Part.hk ∈ L) (h_flt : Part.flt ∈ L) (h : Evolves L s t) :
    Evolves L s (State.hkCheck t j c) := by
  unfold State.hkCheck
  try dsimp only
  repeat' first
    | with_reducible assumption
    | intro _
    | with_reducible apply ev_modHk
    | with_reducible apply ev_bump
    | with_reducible apply ev_detect
    | with_reducible apply ev_doIf
    | (show _ = true; first | assumption | rfl)

theorem ev_hkGoOn (h_regs : Part.regs ∈ L) (h_host : Part.host ∈ L) (h_hk : Part.hk ∈ L) (h : Evolves L s t) :
    Evolves L s (State.hkGoOn t) := by
  unfold State.hkGoOn
  try dsimp only
  repeat' first
    | with_reducible assumption
    | intro _
    | with_reducible apply ev_hkThen
    | split

theorem ev_hkValid {j : Nat} {c : HkConv} {d : Int} (h_regs : Part.regs ∈ L) (h_crates : Part.crates ∈ L) (h_host : Part.host ∈ L) (h_hk : Part.hk ∈ L) (h_flt : Part.flt ∈ L) (h_free : Part.free ∈ L) (h : Evolves L s t) :
    Evolves L s (State.hkValid t j c d) := by
  unfold State.hkValid
  try dsimp only
  repeat' first
    | with_reducible assumption
    | intro _
    | with_reducible apply ev_hkCheck
    | with_reducible apply ev_hkTake
    | with_reducible apply ev_hkGoOn
    | with_reducible apply ev_modHk
    | with_reducible apply ev_hkPassEnd
    | split
    | (show _ = true; first | assumption | rfl)

theorem ev_hkInvalid {j : Nat} {d : Int} (h_regs : Part.regs ∈ L) (h_crates : Part.crates ∈ L) (h_host : Part.host ∈ L) (h_hk : Part.hk ∈ L) (h_free : Part.free ∈ L) (h : Evolves L s t) :
    Evolves L s (State.hkInvalid t j d) := by
  unfold State.hkInvalid
  try dsimp only
  repeat' first
    | with_reducible assumption
    | intro _
    | with_reducible apply ev_hkWrite
    | with_reducible apply ev_modHk
    | with_reducible apply ev_hkGoOn
    | with_reducible apply ev_doIf
    | split
    | (show _ = true; first | assumption | rfl)

theorem ev_hkConversion {c : HkConv} (h_regs : Part.regs ∈ L) (h_crates : Part.crates ∈ L) (h_host : Part.host ∈ L) (h_hk : Part.hk ∈ L) (h_flt : Part.flt ∈ L) (h_free : Part.free ∈ L) (h : Evolves L s t) :
    Evolves L s (State.hkConversion t c) := by
  unfold State.hkConversion
  try dsimp only
  repeat' first
    | with_reducible assumption
    | intro _
    | with_reducible apply ev_hkRun
    | with_reducible apply ev_hkAbandon
    | with_reducible apply ev_hkThen
    | with_reducible apply ev_modHk
    | with_reducible apply ev_bump
    | with_reducible apply ev_hkValid
    | with_reducible apply ev_hkInvalid
    | with_reducible apply ev_doIf
    | split
    | (show _ = true; first | assumption | rfl)

theorem ev_judgeReadback {n : Nat} {code : Nat} {d : Int} (h_regs : Part.regs ∈ L) (h_hk : Part.hk ∈ L) (h_flt : Part.flt ∈ L) (h : Evolves L s t) :
    Evolves L s (State.judgeReadback t n code d) := by
  unfold State.judgeReadback
  try dsimp only
  repeat' first
    | with_reducible assumption
    | intro _
    | with_reducible apply ev_putB
    | with_reducible apply ev_put
    | with_reducible apply ev_detect
    | with_reducible apply ev_modHk
    | with_reducible apply ev_doIf
    | split
    | (show _ = true; first | assumption | rfl)

theorem ev_hkAskRestart (h_regs : Part.regs ∈ L) (h_hk : Part.hk ∈ L) (h : Evolves L s t) :
    Evolves L s (State.hkAskRestart t) := by
  unfold State.hkAskRestart
  try dsimp only
  repeat' first
    | with_reducible assumption
    | intro _
    | with_reducible apply ev_bump
    | with_reducible apply ev_modHk
    | with_reducible apply ev_hkRestart
    | split
    | (show _ = true; first | assumption | rfl)

theorem ev_hkAbort {u : Urgent} (h_regs : Part.regs ∈ L) (h_host : Part.host ∈ L) (h : Evolves L s t) :
    Evolves L s (State.hkAbort t u) := by
  unfold State.hkAbort
  try dsimp only
  repeat' first
    | with_reducible assumption
    | intro _
    | with_reducible apply ev_bump
    | with_reducible apply ev_fail
    | with_reducible apply ev_putB
    | split

theorem ev_hkResetBank (h_regs : Part.regs ∈ L) (h_crates : Part.crates ∈ L) (h_host : Part.host ∈ L) (h_hk : Part.hk ∈ L) (h : Evolves L s t) :
    Evolves L s (State.hkResetBank t) := by
  unfold State.hkResetBank
  try dsimp only
  repeat' first
    | with_reducible assumption
    | intro _
    | with_reducible apply ev_hkAbort
    | with_reducible apply ev_setReg
    | with_reducible apply ev_settingsStrobe
    | with_reducible apply ev_modHk
    | with_reducible apply ev_put
    | with_reducible apply ev_setReady
    | with_reducible apply ev_forAll
    | (show _ = true; first | assumption | rfl)

theorem ev_hkStart (h_regs : Part.regs ∈ L) (h_host : Part.host ∈ L) (h_hk : Part.hk ∈ L) (h : Evolves L s t) :
    Evolves L s (State.hkStart t) := by
  unfold State.hkStart
  try dsimp only
  repeat' first
    | with_reducible assumption
    | intro _
    | with_reducible apply ev_hkBoundary
    | with_reducible apply ev_modHk
    | with_reducible apply ev_setReady
    | with_reducible apply ev_hkFrom
    | (show _ = true; first | assumption | rfl)

theorem ev_hkApply {before : State} (h_regs : Part.regs ∈ L) (h_host : Part.host ∈ L) (h_hk : Part.hk ∈ L) (h : Evolves L s t) :
    Evolves L s (State.hkApply t before) := by
  unfold State.hkApply
  try dsimp only
  repeat' first
    | with_reducible assumption
    | intro _
    | with_reducible apply ev_hkBoundary
    | with_reducible apply ev_hkThen
    | with_reducible apply ev_modHk
    | with_reducible apply ev_doIf
    | split
    | (show _ = true; first | assumption | rfl)

theorem ev_hkResultRead {q : Src} {j : Nat} (h_reqs : Part.reqs ∈ L) (h : Evolves L s t) :
    Evolves L s (State.hkResultRead t q j) := by
  unfold State.hkResultRead
  try dsimp only
  repeat' first
    | with_reducible assumption
    | intro _
    | with_reducible apply ev_modReq

end Sys2Proof.Machine
end

