-- ==== Sys2Proof/Laws/EvIdle.lean ====
section
/-! SUPPORT. What each operation of Machine/Idle.lean may change, and that it keeps the invariant. -/

namespace Sys2Proof.Machine

variable {L : List Part} {s t : State}

theorem ev_fabricTick (h_clk : Part.clk ∈ L) (h : Evolves L s t) :
    Evolves L s (State.fabricTick t) := by
  unfold State.fabricTick
  try dsimp only
  repeat' first
    | with_reducible assumption
    | intro _
    | with_reducible apply ev_modClk
    | split

theorem ev_timingTick (h_regs : Part.regs ∈ L) (h_clk : Part.clk ∈ L) (h_motor : Part.motor ∈ L) (h_host : Part.host ∈ L) (h : Evolves L s t) :
    Evolves L s (State.timingTick t) := by
  unfold State.timingTick
  try dsimp only
  repeat' first
    | with_reducible assumption
    | intro _
    | with_reducible apply ev_keepAngle
    | with_reducible apply ev_modClk
    | with_reducible apply ev_takeHeldCode
    | with_reducible apply ev_refreshMotor

theorem ev_idleTick (h_regs : Part.regs ∈ L) (h_clk : Part.clk ∈ L) (h_motor : Part.motor ∈ L) (h_host : Part.host ∈ L) (h : Evolves L s t) :
    Evolves L s (State.idleTick t) := by
  unfold State.idleTick
  try dsimp only
  repeat' first
    | with_reducible assumption
    | intro _
    | with_reducible apply ev_timingTick
    | with_reducible apply ev_fabricTick
    | with_reducible apply ev_doIf

end Sys2Proof.Machine
end

