-- ==== Sys2Proof/Laws/EvSafOut.lean ====
section
/-! SUPPORT. What each operation of Machine/SafOut.lean may change, and that it keeps the invariant. -/

namespace Sys2Proof.Machine

variable {L : List Part} {s t : State}

theorem ev_sendItem {i : SafItem} (h_regs : Part.regs ∈ L) (h_host : Part.host ∈ L) (h : Evolves L s t) :
    Evolves L s (State.sendItem t i) := by
  unfold State.sendItem
  try dsimp only
  repeat' first
    | with_reducible assumption
    | intro _
    | with_reducible apply ev_pushRec
    | with_reducible apply ev_postWords
    | split

theorem ev_flushItems (h_regs : Part.regs ∈ L) (h_host : Part.host ∈ L) (h_saf : Part.saf ∈ L) (h : Evolves L s t) :
    Evolves L s (State.flushItems t) := by
  unfold State.flushItems
  try dsimp only
  repeat' first
    | with_reducible assumption
    | intro _
    | with_reducible apply ev_sendItem
    | with_reducible apply ev_modSaf
    | with_reducible apply ev_doIf
    | with_reducible apply ev_forAll
    | (show _ = true; first | assumption | rfl)
    | (rename_i hw; rw [Saf.wf_iff] at hw ⊢; obtain ⟨wa, wb, wc, wd, we, wg⟩ := hw; refine ⟨?_, ?_, ?_, ?_, ?_, ?_⟩ <;> first | assumption | rfl | (exact sparseWf_set _ _ (by assumption)))

theorem ev_sendFabric {i : SafItem} (h_regs : Part.regs ∈ L) (h_host : Part.host ∈ L) (h_saf : Part.saf ∈ L) (h : Evolves L s t) :
    Evolves L s (State.sendFabric t i) := by
  unfold State.sendFabric
  try dsimp only
  repeat' first
    | with_reducible assumption
    | intro _
    | with_reducible apply ev_modSaf
    | with_reducible apply ev_flushItems
    | split
    | (show _ = true; first | assumption | rfl)
    | (rename_i hw; rw [Saf.wf_iff] at hw ⊢; obtain ⟨wa, wb, wc, wd, we, wg⟩ := hw; refine ⟨?_, ?_, ?_, ?_, ?_, ?_⟩ <;> first | assumption | rfl | (exact sparseWf_set _ _ (by assumption)))

theorem ev_safEvent {typ : Nat} {elem : Nat} {num : Nat} {w4 : Word} {w5 : Word} (h_regs : Part.regs ∈ L) (h_host : Part.host ∈ L) (h_saf : Part.saf ∈ L) (h : Evolves L s t) :
    Evolves L s (State.safEvent t typ elem num w4 w5) := by
  unfold State.safEvent
  try dsimp only
  repeat' first
    | with_reducible assumption
    | intro _
    | with_reducible apply ev_sendFabric

theorem ev_safetyIrq (h_regs : Part.regs ∈ L) (h : Evolves L s t) :
    Evolves L s (State.safetyIrq t) := by
  unfold State.safetyIrq
  try dsimp only
  repeat' first
    | with_reducible assumption
    | intro _
    | with_reducible apply ev_putB
    | with_reducible apply ev_doIf

theorem ev_driveOut {o : Nat} {high : Bool} {ph : OutPhase} (h_regs : Part.regs ∈ L) (h_saf : Part.saf ∈ L) (h : Evolves L s t) :
    Evolves L s (State.driveOut t o high ph) := by
  unfold State.driveOut
  try dsimp only
  repeat' first
    | with_reducible assumption
    | intro _
    | with_reducible apply ev_safetyIrq
    | with_reducible apply ev_putB
    | with_reducible apply ev_modOut
    | with_reducible apply ev_doIf

theorem ev_beginPulse {o : Nat} (h_regs : Part.regs ∈ L) (h_saf : Part.saf ∈ L) (h : Evolves L s t) :
    Evolves L s (State.beginPulse t o) := by
  unfold State.beginPulse
  try dsimp only
  repeat' first
    | with_reducible assumption
    | intro _
    | with_reducible apply ev_driveOut
    | with_reducible apply ev_modOut

theorem ev_nextPulse (h_regs : Part.regs ∈ L) (h_saf : Part.saf ∈ L) (h : Evolves L s t) :
    Evolves L s (State.nextPulse t) := by
  unfold State.nextPulse
  try dsimp only
  repeat' first
    | with_reducible assumption
    | intro _
    | with_reducible apply ev_beginPulse
    | split

theorem ev_outOff {o : Nat} (h_regs : Part.regs ∈ L) (h_saf : Part.saf ∈ L) (h : Evolves L s t) :
    Evolves L s (State.outOff t o) := by
  unfold State.outOff
  try dsimp only
  repeat' first
    | with_reducible assumption
    | intro _
    | with_reducible apply ev_driveOut
    | with_reducible apply ev_modOut
    | with_reducible apply ev_doIf

theorem ev_outEvent {o : Nat} (h_regs : Part.regs ∈ L) (h_host : Part.host ∈ L) (h_saf : Part.saf ∈ L) (h : Evolves L s t) :
    Evolves L s (State.outEvent t o) := by
  unfold State.outEvent
  try dsimp only
  repeat' first
    | with_reducible assumption
    | intro _
    | with_reducible apply ev_safEvent
    | with_reducible apply ev_safetyIrq

theorem ev_safLog {elem : Nat} {num : Nat} (h_regs : Part.regs ∈ L) (h_host : Part.host ∈ L) (h_flt : Part.flt ∈ L) (h_free : Part.free ∈ L) (h : Evolves L s t) :
    Evolves L s (State.safLog t elem num) := by
  unfold State.safLog
  try dsimp only
  repeat' first
    | with_reducible assumption
    | intro _
    | with_reducible apply ev_takeFreeWord
    | with_reducible apply ev_log

theorem ev_outFault {o : Nat} {cause : Nat} (h_regs : Part.regs ∈ L) (h_host : Part.host ∈ L) (h_saf : Part.saf ∈ L) (h_flt : Part.flt ∈ L) (h_free : Part.free ∈ L) (h : Evolves L s t) :
    Evolves L s (State.outFault t o cause) := by
  unfold State.outFault
  try dsimp only
  repeat' first
    | with_reducible assumption
    | intro _
    | with_reducible apply ev_modOut
    | with_reducible apply ev_put
    | with_reducible apply ev_putB
    | with_reducible apply ev_outEvent
    | with_reducible apply ev_safLog
    | with_reducible apply ev_outOff
    | with_reducible apply ev_doIf

theorem ev_outExpire {o : Nat} (h_regs : Part.regs ∈ L) (h_host : Part.host ∈ L) (h_saf : Part.saf ∈ L) (h_flt : Part.flt ∈ L) (h_free : Part.free ∈ L) (h : Evolves L s t) :
    Evolves L s (State.outExpire t o) := by
  unfold State.outExpire
  try dsimp only
  repeat' first
    | with_reducible assumption
    | intro _
    | with_reducible apply ev_outFault
    | with_reducible apply ev_modOut
    | split

theorem ev_endPulse {o : Nat} (h_regs : Part.regs ∈ L) (h_host : Part.host ∈ L) (h_saf : Part.saf ∈ L) (h_flt : Part.flt ∈ L) (h_free : Part.free ∈ L) (h : Evolves L s t) :
    Evolves L s (State.endPulse t o) := by
  unfold State.endPulse
  try dsimp only
  repeat' first
    | with_reducible assumption
    | intro _
    | with_reducible apply ev_outFault
    | with_reducible apply ev_modOut
    | with_reducible apply ev_driveOut
    | split

theorem ev_sampleOut {o : Nat} {high : Bool} (h_regs : Part.regs ∈ L) (h_host : Part.host ∈ L) (h_saf : Part.saf ∈ L) (h_flt : Part.flt ∈ L) (h_free : Part.free ∈ L) (h : Evolves L s t) :
    Evolves L s (State.sampleOut t o high) := by
  unfold State.sampleOut
  try dsimp only
  repeat' first
    | with_reducible assumption
    | intro _
    | with_reducible apply ev_putB
    | with_reducible apply ev_modOut
    | with_reducible apply ev_outFault
    | with_reducible apply ev_outExpire
    | with_reducible apply ev_endPulse
    | with_reducible apply ev_bump
    | with_reducible apply ev_doIf
    | split

theorem ev_driveDemand {o : Nat} (h_regs : Part.regs ∈ L) (h_saf : Part.saf ∈ L) (h : Evolves L s t) :
    Evolves L s (State.driveDemand t o) := by
  unfold State.driveDemand
  try dsimp only
  repeat' first
    | with_reducible assumption
    | intro _
    | with_reducible apply ev_driveOut
    | with_reducible apply ev_outOff
    | with_reducible apply ev_nextPulse
    | with_reducible apply ev_doIf
    | split

theorem ev_lenEvent (h_regs : Part.regs ∈ L) (h_host : Part.host ∈ L) (h_saf : Part.saf ∈ L) (h : Evolves L s t) :
    Evolves L s (State.lenEvent t) := by
  unfold State.lenEvent
  try dsimp only
  repeat' first
    | with_reducible assumption
    | intro _
    | with_reducible apply ev_safEvent

theorem ev_showLen (h_regs : Part.regs ∈ L) (h_host : Part.host ∈ L) (h_saf : Part.saf ∈ L) (h : Evolves L s t) :
    Evolves L s (State.showLen t) := by
  unfold State.showLen
  try dsimp only
  repeat' first
    | with_reducible assumption
    | intro _
    | with_reducible apply ev_putB
    | with_reducible apply ev_modSaf
    | with_reducible apply ev_lenEvent
    | with_reducible apply ev_doIf
    | (show _ = true; first | assumption | rfl)
    | (rename_i hw; rw [Saf.wf_iff] at hw ⊢; obtain ⟨wa, wb, wc, wd, we, wg⟩ := hw; refine ⟨?_, ?_, ?_, ?_, ?_, ?_⟩ <;> first | assumption | rfl | (exact sparseWf_set _ _ (by assumption)))

theorem ev_lenFault (h_regs : Part.regs ∈ L) (h_host : Part.host ∈ L) (h_saf : Part.saf ∈ L) (h_flt : Part.flt ∈ L) (h_free : Part.free ∈ L) (h : Evolves L s t) :
    Evolves L s (State.lenFault t) := by
  unfold State.lenFault
  try dsimp only
  repeat' first
    | with_reducible assumption
    | intro _
    | with_reducible apply ev_putB
    | with_reducible apply ev_lenEvent
    | with_reducible apply ev_safLog
    | with_reducible apply ev_showLen
    | with_reducible apply ev_modSaf
    | with_reducible apply ev_doIf
    | (show _ = true; first | assumption | rfl)
    | (rename_i hw; rw [Saf.wf_iff] at hw ⊢; obtain ⟨wa, wb, wc, wd, we, wg⟩ := hw; refine ⟨?_, ?_, ?_, ?_, ?_, ?_⟩ <;> first | assumption | rfl | (exact sparseWf_set _ _ (by assumption)))

theorem ev_sampleLen {high : Bool} (h_regs : Part.regs ∈ L) (h_host : Part.host ∈ L) (h_saf : Part.saf ∈ L) (h_flt : Part.flt ∈ L) (h_free : Part.free ∈ L) (h : Evolves L s t) :
    Evolves L s (State.sampleLen t high) := by
  unfold State.sampleLen
  try dsimp only
  repeat' first
    | with_reducible assumption
    | intro _
    | with_reducible apply ev_putB
    | with_reducible apply ev_modSaf
    | with_reducible apply ev_lenFault
    | with_reducible apply ev_doIf
    | split
    | (show _ = true; first | assumption | rfl)
    | (rename_i hw; rw [Saf.wf_iff] at hw ⊢; obtain ⟨wa, wb, wc, wd, we, wg⟩ := hw; refine ⟨?_, ?_, ?_, ?_, ?_, ?_⟩ <;> first | assumption | rfl | (exact sparseWf_set _ _ (by assumption)))

theorem ev_formDemands (h_regs : Part.regs ∈ L) (h : Evolves L s t) :
    Evolves L s (State.formDemands t) := by
  unfold State.formDemands
  try dsimp only
  repeat' first
    | with_reducible assumption
    | intro _
    | with_reducible apply ev_putB
    | with_reducible apply ev_forAll

theorem ev_driveDemands {before : Nat → Bool} (h_regs : Part.regs ∈ L) (h_host : Part.host ∈ L) (h_saf : Part.saf ∈ L) (h : Evolves L s t) :
    Evolves L s (State.driveDemands t before) := by
  unfold State.driveDemands
  try dsimp only
  repeat' first
    | with_reducible assumption
    | intro _
    | with_reducible apply ev_outEvent
    | with_reducible apply ev_driveDemand
    | with_reducible apply ev_showLen
    | with_reducible apply ev_forAll
    | with_reducible apply ev_doIf

theorem ev_allOff (h_regs : Part.regs ∈ L) (h_host : Part.host ∈ L) (h_saf : Part.saf ∈ L) (h : Evolves L s t) :
    Evolves L s (State.allOff t) := by
  unfold State.allOff
  try dsimp only
  repeat' first
    | with_reducible assumption
    | intro _
    | with_reducible apply ev_putB
    | with_reducible apply ev_outOff
    | with_reducible apply ev_showLen
    | with_reducible apply ev_forAll

theorem ev_setGate {i : Nat} {chB : Bool} {high : Bool} (h_saf : Part.saf ∈ L) (h : Evolves L s t) :
    Evolves L s (State.setGate t i chB high) := by
  unfold State.setGate
  try dsimp only
  repeat' first
    | with_reducible assumption
    | intro _
    | with_reducible apply ev_modSaf
    | split
    | (show _ = true; first | assumption | rfl)
    | (rename_i hw; rw [Saf.wf_iff] at hw ⊢; obtain ⟨wa, wb, wc, wd, we, wg⟩ := hw; refine ⟨?_, ?_, ?_, ?_, ?_, ?_⟩ <;> first | assumption | rfl | (exact sparseWf_set _ _ (by assumption)))

theorem ev_clearOut {o : Nat} (h_regs : Part.regs ∈ L) (h_host : Part.host ∈ L) (h_saf : Part.saf ∈ L) (h : Evolves L s t) :
    Evolves L s (State.clearOut t o) := by
  unfold State.clearOut
  try dsimp only
  repeat' first
    | with_reducible assumption
    | intro _
    | with_reducible apply ev_bump
    | with_reducible apply ev_putB
    | with_reducible apply ev_modOut
    | with_reducible apply ev_outEvent
    | split

theorem ev_clearOuts {outs : Nat} (h_regs : Part.regs ∈ L) (h_host : Part.host ∈ L) (h_saf : Part.saf ∈ L) (h : Evolves L s t) :
    Evolves L s (State.clearOuts t outs) := by
  unfold State.clearOuts
  try dsimp only
  repeat' first
    | with_reducible assumption
    | intro _
    | with_reducible apply ev_clearOut
    | with_reducible apply ev_forAll

theorem ev_clearLen (h_regs : Part.regs ∈ L) (h_host : Part.host ∈ L) (h_saf : Part.saf ∈ L) (h : Evolves L s t) :
    Evolves L s (State.clearLen t) := by
  unfold State.clearLen
  try dsimp only
  repeat' first
    | with_reducible assumption
    | intro _
    | with_reducible apply ev_putB
    | with_reducible apply ev_lenEvent
    | with_reducible apply ev_doIf

theorem ev_safWrite {q : Src} {a : Nat} {f : State → State} (h_regs : Part.regs ∈ L) (h_host : Part.host ∈ L) (h_flt : Part.flt ∈ L) (hf_f : ∀ u, Evolves L s u → Evolves L s (f u)) (h : Evolves L s t) :
    Evolves L s (State.safWrite t q a f) := by
  unfold State.safWrite
  try dsimp only
  repeat' first
    | with_reducible assumption
    | intro _
    | with_reducible apply ev_refuseWrite
    | with_reducible apply ev_doIf
    | with_reducible apply hf_f
    | split

end Sys2Proof.Machine
end

