-- ==== Sys2Proof/Laws/EvPairs.lean ====
section
/-! SUPPORT. What each operation of Machine/Pairs.lean may change, and that it keeps the invariant. -/

namespace Sys2Proof.Machine

variable {L : List Part} {s t : State}

theorem ev_samplePair {p : SafPins} {i : Nat} (h_saf : Part.saf ∈ L) (h : Evolves L s t) :
    Evolves L s (State.samplePair t p i) := by
  unfold State.samplePair
  try dsimp only
  repeat' first
    | with_reducible assumption
    | intro _
    | with_reducible apply ev_modPair

theorem ev_sampleGate {p : SafPins} (h_saf : Part.saf ∈ L) (h : Evolves L s t) :
    Evolves L s (State.sampleGate t p) := by
  unfold State.sampleGate
  try dsimp only
  repeat' first
    | with_reducible assumption
    | intro _
    | with_reducible apply ev_setGate
    | with_reducible apply ev_forAll
    | with_reducible apply ev_doIf

theorem ev_sampleSrst {high : Bool} (h_saf : Part.saf ∈ L) (h : Evolves L s t) :
    Evolves L s (State.sampleSrst t high) := by
  unfold State.sampleSrst
  try dsimp only
  repeat' first
    | with_reducible assumption
    | intro _
    | with_reducible apply ev_modSaf
    | split
    | (show _ = true; first | assumption | rfl)
    | (rename_i hw; rw [Saf.wf_iff] at hw ⊢; obtain ⟨wa, wb, wc, wd, we, wg⟩ := hw; refine ⟨?_, ?_, ?_, ?_, ?_, ?_⟩ <;> first | assumption | rfl | (exact sparseWf_set _ _ (by assumption)))

theorem ev_endTestPulse {n : Nat} (h_regs : Part.regs ∈ L) (h_host : Part.host ∈ L) (h_saf : Part.saf ∈ L) (h : Evolves L s t) :
    Evolves L s (State.endTestPulse t n) := by
  unfold State.endTestPulse
  try dsimp only
  repeat' first
    | with_reducible assumption
    | intro _
    | with_reducible apply ev_modPair
    | with_reducible apply ev_modSto
    | with_reducible apply ev_showLen
    | with_reducible apply ev_forAll

theorem ev_showPair {i : Nat} (h_regs : Part.regs ∈ L) (h : Evolves L s t) :
    Evolves L s (State.showPair t i) := by
  unfold State.showPair
  try dsimp only
  repeat' first
    | with_reducible assumption
    | intro _
    | with_reducible apply ev_putB

theorem ev_pairFault {i : Nat} {cause : Nat} (h_regs : Part.regs ∈ L) (h_host : Part.host ∈ L) (h_saf : Part.saf ∈ L) (h_flt : Part.flt ∈ L) (h_free : Part.free ∈ L) (h : Evolves L s t) :
    Evolves L s (State.pairFault t i cause) := by
  unfold State.pairFault
  try dsimp only
  repeat' first
    | with_reducible assumption
    | intro _
    | with_reducible apply ev_put
    | with_reducible apply ev_modPair
    | with_reducible apply ev_safEvent
    | with_reducible apply ev_safLog

theorem ev_letIn {i : Nat} (h_regs : Part.regs ∈ L) (h : Evolves L s t) :
    Evolves L s (State.letIn t i) := by
  unfold State.letIn
  try dsimp only
  repeat' first
    | with_reducible assumption
    | intro _
    | with_reducible apply ev_put
    | split

theorem ev_recoverPair {i : Nat} (h_regs : Part.regs ∈ L) (h_saf : Part.saf ∈ L) (h : Evolves L s t) :
    Evolves L s (State.recoverPair t i) := by
  unfold State.recoverPair
  try dsimp only
  repeat' first
    | with_reducible assumption
    | intro _
    | with_reducible apply ev_modPair
    | with_reducible apply ev_put
    | with_reducible apply ev_doIf
    | split

theorem ev_pairStep {i : Nat} (h_regs : Part.regs ∈ L) (h_saf : Part.saf ∈ L) (h : Evolves L s t) :
    Evolves L s (State.pairStep t i) := by
  unfold State.pairStep
  try dsimp only
  repeat' first
    | with_reducible assumption
    | intro _
    | with_reducible apply ev_modPair
    | with_reducible apply ev_letIn
    | with_reducible apply ev_put
    | with_reducible apply ev_recoverPair
    | with_reducible apply ev_doIf
    | split

theorem ev_evalPair {i : Nat} (h_regs : Part.regs ∈ L) (h_host : Part.host ∈ L) (h_saf : Part.saf ∈ L) (h_flt : Part.flt ∈ L) (h_free : Part.free ∈ L) (h : Evolves L s t) :
    Evolves L s (State.evalPair t i) := by
  unfold State.evalPair
  try dsimp only
  repeat' first
    | with_reducible assumption
    | intro _
    | with_reducible apply ev_bump
    | with_reducible apply ev_modPair
    | with_reducible apply ev_pairStep
    | with_reducible apply ev_pairFault
    | with_reducible apply ev_showPair
    | with_reducible apply ev_doIf
    | split

theorem ev_tickPairs (h_regs : Part.regs ∈ L) (h_host : Part.host ∈ L) (h_saf : Part.saf ∈ L) (h_flt : Part.flt ∈ L) (h_free : Part.free ∈ L) (h : Evolves L s t) :
    Evolves L s (State.tickPairs t) := by
  unfold State.tickPairs
  try dsimp only
  repeat' first
    | with_reducible assumption
    | intro _
    | with_reducible apply ev_evalPair
    | with_reducible apply ev_modSaf
    | with_reducible apply ev_forAll
    | (show _ = true; first | assumption | rfl)
    | (rename_i hw; rw [Saf.wf_iff] at hw ⊢; obtain ⟨wa, wb, wc, wd, we, wg⟩ := hw; refine ⟨?_, ?_, ?_, ?_, ?_, ?_⟩ <;> first | assumption | rfl | (exact sparseWf_set _ _ (by assumption)))

theorem ev_startPairs (h_regs : Part.regs ∈ L) (h_saf : Part.saf ∈ L) (h : Evolves L s t) :
    Evolves L s (State.startPairs t) := by
  unfold State.startPairs
  try dsimp only
  repeat' first
    | with_reducible assumption
    | intro _
    | with_reducible apply ev_put
    | with_reducible apply ev_modPair
    | with_reducible apply ev_showPair
    | with_reducible apply ev_modSaf
    | with_reducible apply ev_forAll
    | (show _ = true; first | assumption | rfl)
    | (rename_i hw; rw [Saf.wf_iff] at hw ⊢; obtain ⟨wa, wb, wc, wd, we, wg⟩ := hw; refine ⟨?_, ?_, ?_, ?_, ?_, ?_⟩ <;> first | assumption | rfl | (exact sparseWf_set _ _ (by assumption)))

theorem ev_askReset {pairs : BitVec 8} (h_saf : Part.saf ∈ L) (h : Evolves L s t) :
    Evolves L s (State.askReset t pairs) := by
  unfold State.askReset
  try dsimp only
  repeat' first
    | with_reducible assumption
    | intro _
    | with_reducible apply ev_modSaf
    | (show _ = true; first | assumption | rfl)
    | (rename_i hw; rw [Saf.wf_iff] at hw ⊢; obtain ⟨wa, wb, wc, wd, we, wg⟩ := hw; refine ⟨?_, ?_, ?_, ?_, ?_, ?_⟩ <;> first | assumption | rfl | (exact sparseWf_set _ _ (by assumption)))

end Sys2Proof.Machine
end

