-- ==== Sys2Proof/Laws/EvZones.lean ====
section
/-! SUPPORT. What each operation of Machine/Zones.lean may change, and that it keeps the invariant. -/

namespace Sys2Proof.Machine

variable {L : List Part} {s t : State}

theorem ev_closeSummary (h_saf : Part.saf ∈ L) (h : Evolves L s t) :
    Evolves L s (State.closeSummary t) := by
  unfold State.closeSummary
  try dsimp only
  repeat' first
    | with_reducible assumption
    | intro _
    | with_reducible apply ev_modSaf
    | split
    | (show _ = true; first | assumption | rfl)
    | (rename_i hw; rw [Saf.wf_iff] at hw ⊢; obtain ⟨wa, wb, wc, wd, we, wg⟩ := hw; refine ⟨?_, ?_, ?_, ?_, ?_, ?_⟩ <;> first | assumption | rfl | (exact sparseWf_set _ _ (by assumption)))

theorem ev_dataNote {kind : Nat} {chk : Nat} {ct : FRef} (h_regs : Part.regs ∈ L) (h_host : Part.host ∈ L) (h_saf : Part.saf ∈ L) (h_flt : Part.flt ∈ L) (h_free : Part.free ∈ L) (h : Evolves L s t) :
    Evolves L s (State.dataNote t kind chk ct) := by
  unfold State.dataNote
  try dsimp only
  repeat' first
    | with_reducible assumption
    | intro _
    | with_reducible apply ev_bump
    | with_reducible apply ev_safEvent
    | with_reducible apply ev_safLog

theorem ev_dataFault {kind : Nat} {chk : Nat} {ct : FRef} (h_regs : Part.regs ∈ L) (h_host : Part.host ∈ L) (h_saf : Part.saf ∈ L) (h_flt : Part.flt ∈ L) (h_free : Part.free ∈ L) (h : Evolves L s t) :
    Evolves L s (State.dataFault t kind chk ct) := by
  unfold State.dataFault
  try dsimp only
  repeat' first
    | with_reducible assumption
    | intro _
    | with_reducible apply ev_modZone
    | with_reducible apply ev_dataNote
    | with_reducible apply ev_forAll

theorem ev_takeZone {m : Summary} {z : Nat} (h_regs : Part.regs ∈ L) (h_saf : Part.saf ∈ L) (h : Evolves L s t) :
    Evolves L s (State.takeZone t m z) := by
  unfold State.takeZone
  try dsimp only
  repeat' first
    | with_reducible assumption
    | intro _
    | with_reducible apply ev_modZone
    | with_reducible apply ev_put
    | split

theorem ev_checkSummary {m : Summary} {b : List ZRet} {crcOk : Bool} (h_regs : Part.regs ∈ L) (h_host : Part.host ∈ L) (h_saf : Part.saf ∈ L) (h_flt : Part.flt ∈ L) (h_free : Part.free ∈ L) (h : Evolves L s t) :
    Evolves L s (State.checkSummary t m b crcOk) := by
  unfold State.checkSummary
  try dsimp only
  repeat' first
    | with_reducible assumption
    | intro _
    | with_reducible apply ev_modSaf
    | with_reducible apply ev_dataFault
    | with_reducible apply ev_detect
    | with_reducible apply ev_takeZone
    | with_reducible apply ev_doIf
    | with_reducible apply ev_forAll
    | split
    | (show _ = true; first | assumption | rfl)
    | (rename_i hw; rw [Saf.wf_iff] at hw ⊢; obtain ⟨wa, wb, wc, wd, we, wg⟩ := hw; refine ⟨?_, ?_, ?_, ?_, ?_, ?_⟩ <;> first | assumption | rfl | (exact sparseWf_set _ _ (by assumption)))

theorem ev_popSummary {m : Summary} (h_saf : Part.saf ∈ L) (h : Evolves L s t) :
    Evolves L s (State.popSummary t m) := by
  unfold State.popSummary
  try dsimp only
  repeat' first
    | with_reducible assumption
    | intro _
    | with_reducible apply ev_modSaf
    | (show _ = true; first | assumption | rfl)
    | (rename_i hw; rw [Saf.wf_iff] at hw ⊢; obtain ⟨wa, wb, wc, wd, we, wg⟩ := hw; refine ⟨?_, ?_, ?_, ?_, ?_, ?_⟩ <;> first | assumption | rfl | (exact sparseWf_set _ _ (by assumption)))

theorem ev_zoneEvent {z : Nat} (h_regs : Part.regs ∈ L) (h_host : Part.host ∈ L) (h_saf : Part.saf ∈ L) (h : Evolves L s t) :
    Evolves L s (State.zoneEvent t z) := by
  unfold State.zoneEvent
  try dsimp only
  repeat' first
    | with_reducible assumption
    | intro _
    | with_reducible apply ev_safEvent

theorem ev_zoneTo {z : Nat} {st : Nat} (h_regs : Part.regs ∈ L) (h_host : Part.host ∈ L) (h_saf : Part.saf ∈ L) (h : Evolves L s t) :
    Evolves L s (State.zoneTo t z st) := by
  unfold State.zoneTo
  try dsimp only
  repeat' first
    | with_reducible assumption
    | intro _
    | with_reducible apply ev_put
    | with_reducible apply ev_zoneEvent

theorem ev_showZone {z : Nat} (h_regs : Part.regs ∈ L) (h_host : Part.host ∈ L) (h_saf : Part.saf ∈ L) (h_flt : Part.flt ∈ L) (h_free : Part.free ∈ L) (h : Evolves L s t) :
    Evolves L s (State.showZone t z) := by
  unfold State.showZone
  try dsimp only
  repeat' first
    | with_reducible assumption
    | intro _
    | with_reducible apply ev_zoneEvent
    | with_reducible apply ev_put
    | with_reducible apply ev_putB
    | with_reducible apply ev_dataFault
    | with_reducible apply ev_doIf

theorem ev_evalZone {z : Nat} (h_regs : Part.regs ∈ L) (h_host : Part.host ∈ L) (h_saf : Part.saf ∈ L) (h_flt : Part.flt ∈ L) (h_free : Part.free ∈ L) (h : Evolves L s t) :
    Evolves L s (State.evalZone t z) := by
  unfold State.evalZone
  try dsimp only
  repeat' first
    | with_reducible assumption
    | intro _
    | with_reducible apply ev_modZone
    | with_reducible apply ev_put
    | with_reducible apply ev_showZone
    | with_reducible apply ev_zoneTo
    | with_reducible apply ev_doIf
    | split

theorem ev_showZones (h_regs : Part.regs ∈ L) (h : Evolves L s t) :
    Evolves L s (State.showZones t) := by
  unfold State.showZones
  try dsimp only
  repeat' first
    | with_reducible assumption
    | intro _
    | with_reducible apply ev_put
    | split

theorem ev_evalZones (h_regs : Part.regs ∈ L) (h_host : Part.host ∈ L) (h_saf : Part.saf ∈ L) (h_flt : Part.flt ∈ L) (h_free : Part.free ∈ L) (h : Evolves L s t) :
    Evolves L s (State.evalZones t) := by
  unfold State.evalZones
  try dsimp only
  repeat' first
    | with_reducible assumption
    | intro _
    | with_reducible apply ev_evalZone
    | with_reducible apply ev_showZones
    | with_reducible apply ev_forAll

theorem ev_declareTimeout (h_regs : Part.regs ∈ L) (h_host : Part.host ∈ L) (h_saf : Part.saf ∈ L) (h_flt : Part.flt ∈ L) (h_free : Part.free ∈ L) (h : Evolves L s t) :
    Evolves L s (State.declareTimeout t) := by
  unfold State.declareTimeout
  try dsimp only
  repeat' first
    | with_reducible assumption
    | intro _
    | with_reducible apply ev_dataNote
    | with_reducible apply ev_modSaf
    | (show _ = true; first | assumption | rfl)
    | (rename_i hw; rw [Saf.wf_iff] at hw ⊢; obtain ⟨wa, wb, wc, wd, we, wg⟩ := hw; refine ⟨?_, ?_, ?_, ?_, ?_, ?_⟩ <;> first | assumption | rfl | (exact sparseWf_set _ _ (by assumption)))

theorem ev_tickZones (h_regs : Part.regs ∈ L) (h_host : Part.host ∈ L) (h_saf : Part.saf ∈ L) (h_flt : Part.flt ∈ L) (h_free : Part.free ∈ L) (h : Evolves L s t) :
    Evolves L s (State.tickZones t) := by
  unfold State.tickZones
  try dsimp only
  repeat' first
    | with_reducible assumption
    | intro _
    | with_reducible apply ev_putB
    | with_reducible apply ev_modSaf
    | with_reducible apply ev_evalZones
    | (show _ = true; first | assumption | rfl)
    | (rename_i hw; rw [Saf.wf_iff] at hw ⊢; obtain ⟨wa, wb, wc, wd, we, wg⟩ := hw; refine ⟨?_, ?_, ?_, ?_, ?_, ?_⟩ <;> first | assumption | rfl | (exact sparseWf_set _ _ (by assumption)))

theorem ev_tickTimeout (h_regs : Part.regs ∈ L) (h_host : Part.host ∈ L) (h_saf : Part.saf ∈ L) (h_flt : Part.flt ∈ L) (h_free : Part.free ∈ L) (h : Evolves L s t) :
    Evolves L s (State.tickTimeout t) := by
  unfold State.tickTimeout
  try dsimp only
  repeat' first
    | with_reducible assumption
    | intro _
    | with_reducible apply ev_declareTimeout
    | with_reducible apply ev_evalZones
    | with_reducible apply ev_modSaf
    | with_reducible apply ev_doIf
    | split
    | (show _ = true; first | assumption | rfl)
    | (rename_i hw; rw [Saf.wf_iff] at hw ⊢; obtain ⟨wa, wb, wc, wd, we, wg⟩ := hw; refine ⟨?_, ?_, ?_, ?_, ?_, ?_⟩ <;> first | assumption | rfl | (exact sparseWf_set _ _ (by assumption)))

theorem ev_clearZones (h_regs : Part.regs ∈ L) (h_host : Part.host ∈ L) (h_saf : Part.saf ∈ L) (h_flt : Part.flt ∈ L) (h_free : Part.free ∈ L) (h : Evolves L s t) :
    Evolves L s (State.clearZones t) := by
  unfold State.clearZones
  try dsimp only
  repeat' first
    | with_reducible assumption
    | intro _
    | with_reducible apply ev_modZone
    | with_reducible apply ev_evalZones
    | with_reducible apply ev_forAll

theorem ev_startZones (h_regs : Part.regs ∈ L) (h_saf : Part.saf ∈ L) (h : Evolves L s t) :
    Evolves L s (State.startZones t) := by
  unfold State.startZones
  try dsimp only
  repeat' first
    | with_reducible assumption
    | intro _
    | with_reducible apply ev_setReg
    | with_reducible apply ev_modZone
    | with_reducible apply ev_modSaf
    | with_reducible apply ev_showZones
    | with_reducible apply ev_forAll
    | (show _ = true; first | assumption | rfl)
    | (rename_i hw; rw [Saf.wf_iff] at hw ⊢; obtain ⟨wa, wb, wc, wd, we, wg⟩ := hw; refine ⟨?_, ?_, ?_, ?_, ?_, ?_⟩ <;> first | assumption | rfl | (exact sparseWf_set _ _ (by assumption)))

end Sys2Proof.Machine
end

