-- ==== Sys2Proof/Laws/EvSafetyBlock.lean ====
section
/-! SUPPORT. What each operation of Machine/SafetyBlock.lean may change, and that it keeps the invariant. -/

namespace Sys2Proof.Machine

variable {L : List Part} {s t : State}

theorem ev_report {typ : Nat} (h_regs : Part.regs ∈ L) (h_host : Part.host ∈ L) (h_saf : Part.saf ∈ L) (h : Evolves L s t) :
    Evolves L s (State.report t typ) := by
  unfold State.report
  try dsimp only
  repeat' first
    | with_reducible assumption
    | intro _
    | with_reducible apply ev_modSaf
    | with_reducible apply ev_sendFabric
    | with_reducible apply ev_doIf
    | (show _ = true; first | assumption | rfl)
    | (rename_i hw; rw [Saf.wf_iff] at hw ⊢; obtain ⟨wa, wb, wc, wd, we, wg⟩ := hw; refine ⟨?_, ?_, ?_, ?_, ?_, ?_⟩ <;> first | assumption | rfl | (exact sparseWf_set _ _ (by assumption)))

theorem ev_tickReport (h_regs : Part.regs ∈ L) (h_host : Part.host ∈ L) (h_saf : Part.saf ∈ L) (h : Evolves L s t) :
    Evolves L s (State.tickReport t) := by
  unfold State.tickReport
  try dsimp only
  repeat' first
    | with_reducible assumption
    | intro _
    | with_reducible apply ev_report
    | with_reducible apply ev_modSaf
    | with_reducible apply ev_doIf
    | (show _ = true; first | assumption | rfl)
    | (rename_i hw; rw [Saf.wf_iff] at hw ⊢; obtain ⟨wa, wb, wc, wd, we, wg⟩ := hw; refine ⟨?_, ?_, ?_, ?_, ?_, ?_⟩ <;> first | assumption | rfl | (exact sparseWf_set _ _ (by assumption)))

theorem ev_tickDeadlines {late : List Nat} (h_regs : Part.regs ∈ L) (h_host : Part.host ∈ L) (h_saf : Part.saf ∈ L) (h_flt : Part.flt ∈ L) (h_free : Part.free ∈ L) (h : Evolves L s t) :
    Evolves L s (State.tickDeadlines t late) := by
  unfold State.tickDeadlines
  try dsimp only
  repeat' first
    | with_reducible assumption
    | intro _
    | with_reducible apply ev_pairFault
    | with_reducible apply ev_tickTimeout
    | with_reducible apply ev_forAll

theorem ev_safetyTick (h_regs : Part.regs ∈ L) (h_host : Part.host ∈ L) (h_saf : Part.saf ∈ L) (h_flt : Part.flt ∈ L) (h_free : Part.free ∈ L) (h : Evolves L s t) :
    Evolves L s (State.safetyTick t) := by
  unfold State.safetyTick
  try dsimp only
  repeat' first
    | with_reducible assumption
    | intro _
    | with_reducible apply ev_wrapInc
    | with_reducible apply ev_tickPairs
    | with_reducible apply ev_tickZones
    | with_reducible apply ev_tickDeadlines
    | with_reducible apply ev_formDemands
    | with_reducible apply ev_driveDemands
    | with_reducible apply ev_tickReport

theorem ev_internalFault {code : Nat} (h_regs : Part.regs ∈ L) (h_host : Part.host ∈ L) (h_saf : Part.saf ∈ L) (h_flt : Part.flt ∈ L) (h : Evolves L s t) :
    Evolves L s (State.internalFault t code) := by
  unfold State.internalFault
  try dsimp only
  repeat' first
    | with_reducible assumption
    | intro _
    | with_reducible apply ev_put
    | with_reducible apply ev_allOff
    | with_reducible apply ev_safEvent
    | with_reducible apply ev_log
    | with_reducible apply ev_doIf

theorem ev_diagnosticFails {d : Diagnostic} (h_regs : Part.regs ∈ L) (h_host : Part.host ∈ L) (h_saf : Part.saf ∈ L) (h_flt : Part.flt ∈ L) (h : Evolves L s t) :
    Evolves L s (State.diagnosticFails t d) := by
  unfold State.diagnosticFails
  try dsimp only
  repeat' first
    | with_reducible assumption
    | intro _
    | with_reducible apply ev_putB
    | with_reducible apply ev_internalFault
    | with_reducible apply ev_doIf

theorem ev_startUp (h_regs : Part.regs ∈ L) (h_saf : Part.saf ∈ L) (h : Evolves L s t) :
    Evolves L s (State.startUp t) := by
  unfold State.startUp
  try dsimp only
  repeat' first
    | with_reducible assumption
    | intro _
    | with_reducible apply ev_startPairs
    | with_reducible apply ev_startZones

theorem ev_configEvent {abandoned : Bool} (h_regs : Part.regs ∈ L) (h_host : Part.host ∈ L) (h_saf : Part.saf ∈ L) (h : Evolves L s t) :
    Evolves L s (State.configEvent t abandoned) := by
  unfold State.configEvent
  try dsimp only
  repeat' first
    | with_reducible assumption
    | intro _
    | with_reducible apply ev_safEvent

theorem ev_cstat {v : Nat} (h_regs : Part.regs ∈ L) (h_host : Part.host ∈ L) (h_saf : Part.saf ∈ L) (h : Evolves L s t) :
    Evolves L s (State.cstat t v) := by
  unfold State.cstat
  try dsimp only
  repeat' first
    | with_reducible assumption
    | intro _
    | with_reducible apply ev_put
    | with_reducible apply ev_configEvent

theorem ev_enterConfig {q : Src} (h_regs : Part.regs ∈ L) (h_host : Part.host ∈ L) (h_saf : Part.saf ∈ L) (h : Evolves L s t) :
    Evolves L s (State.enterConfig t q) := by
  unfold State.enterConfig
  try dsimp only
  repeat' first
    | with_reducible assumption
    | intro _
    | with_reducible apply ev_cstat
    | with_reducible apply ev_put
    | with_reducible apply ev_allOff
    | with_reducible apply ev_modSaf
    | split
    | (show _ = true; first | assumption | rfl)
    | (rename_i hw; rw [Saf.wf_iff] at hw ⊢; obtain ⟨wa, wb, wc, wd, we, wg⟩ := hw; refine ⟨?_, ?_, ?_, ?_, ?_, ?_⟩ <;> first | assumption | rfl | (exact sparseWf_set _ _ (by assumption)))

theorem ev_unlockKey {q : Src} {key : Nat} (h_regs : Part.regs ∈ L) (h_host : Part.host ∈ L) (h_saf : Part.saf ∈ L) (h : Evolves L s t) :
    Evolves L s (State.unlockKey t q key) := by
  unfold State.unlockKey
  try dsimp only
  repeat' first
    | with_reducible assumption
    | intro _
    | with_reducible apply ev_modSaf
    | with_reducible apply ev_enterConfig
    | with_reducible apply ev_doIf
    | split
    | (show _ = true; first | assumption | rfl)
    | (rename_i hw; rw [Saf.wf_iff] at hw ⊢; obtain ⟨wa, wb, wc, wd, we, wg⟩ := hw; refine ⟨?_, ?_, ?_, ?_, ?_, ?_⟩ <;> first | assumption | rfl | (exact sparseWf_set _ _ (by assumption)))

theorem ev_leaveConfig (h_regs : Part.regs ∈ L) (h_saf : Part.saf ∈ L) (h : Evolves L s t) :
    Evolves L s (State.leaveConfig t) := by
  unfold State.leaveConfig
  try dsimp only
  repeat' first
    | with_reducible assumption
    | intro _
    | with_reducible apply ev_put
    | with_reducible apply ev_startUp
    | split

theorem ev_abandonConfig (h_regs : Part.regs ∈ L) (h_host : Part.host ∈ L) (h_saf : Part.saf ∈ L) (h : Evolves L s t) :
    Evolves L s (State.abandonConfig t) := by
  unfold State.abandonConfig
  try dsimp only
  repeat' first
    | with_reducible assumption
    | intro _
    | with_reducible apply ev_leaveConfig
    | with_reducible apply ev_configEvent
    | with_reducible apply ev_doIf

theorem ev_activate {m : Sparse Word} {crc : Word} {src : Bool} (h_regs : Part.regs ∈ L) (h_saf : Part.saf ∈ L) (hm : t.saf.wf = true → sparseWf resetWord m = true) (h : Evolves L s t) :
    Evolves L s (State.activate t m crc src) := by
  unfold State.activate
  refine ev_putB h_regs (ev_putB h_regs (ev_setReg h_regs (ev_withSaf h_saf (fun w => ?_) h)))
  have hm := hm w
  rw [Saf.wf_iff] at w ⊢
  exact ⟨hm, w.2⟩

theorem ev_commitSet {crc : Word} (h_regs : Part.regs ∈ L) (h_host : Part.host ∈ L) (h_saf : Part.saf ∈ L) (h : Evolves L s t) :
    Evolves L s (State.commitSet t crc) := by
  unfold State.commitSet
  dsimp only
  split
  · exact h
  split
  · exact ev_cstat h_regs h_host h_saf h
  split
  · exact ev_cstat h_regs h_host h_saf h
  · exact ev_cstat h_regs h_host h_saf (ev_leaveConfig h_regs h_saf (ev_activate h_regs h_saf (fun w => (Saf.wf_iff.1 w).2.1) h))

theorem ev_otpKey {q : Src} {key : Nat} (h_saf : Part.saf ∈ L) (h : Evolves L s t) :
    Evolves L s (State.otpKey t q key) := by
  unfold State.otpKey
  try dsimp only
  repeat' first
    | with_reducible assumption
    | intro _
    | with_reducible apply ev_modSaf
    | split
    | (show _ = true; first | assumption | rfl)
    | (rename_i hw; rw [Saf.wf_iff] at hw ⊢; obtain ⟨wa, wb, wc, wd, we, wg⟩ := hw; refine ⟨?_, ?_, ?_, ?_, ?_, ?_⟩ <;> first | assumption | rfl | (exact sparseWf_set _ _ (by assumption)))

theorem ev_loadSet (h_regs : Part.regs ∈ L) (h_host : Part.host ∈ L) (h_saf : Part.saf ∈ L) (h_flt : Part.flt ∈ L) (h : Evolves L s t) :
    Evolves L s (State.loadSet t) := by
  unfold State.loadSet
  split
  · exact ev_put h_regs h
  · split
    · exact ev_startUp h_regs h_saf (ev_put h_regs (ev_put h_regs (ev_activate h_regs h_saf
        (fun _ => sparseWf_foldl (dflt := resetWord) _ (fun p : Nat × Word => p.1) (fun p => p.2) rfl) h)))
    · exact ev_log h_regs h_host h_flt (ev_put h_regs (ev_put h_regs h))

end Sys2Proof.Machine
end

