-- ==== Sys2Proof/Laws/EvLinks.lean ====
section
/-! SUPPORT. What each operation of Machine/Links.lean may change, and that it keeps the invariant. -/

namespace Sys2Proof.Machine

variable {L : List Part} {s t : State}

theorem ev_dropRecs {f : Func} (h_regs : Part.regs ∈ L) (h_host : Part.host ∈ L) (h_flt : Part.flt ∈ L) (h : Evolves L s t) :
    Evolves L s (State.dropRecs t f) := by
  unfold State.dropRecs
  try dsimp only
  repeat' first
    | with_reducible assumption
    | intro _
    | with_reducible apply ev_modHost
    | with_reducible apply ev_log
    | with_reducible apply ev_doIf
    | (show _ = true; first | assumption | rfl)

theorem ev_dropRings {f : Func} (h_host : Part.host ∈ L) (h_rings : Part.rings ∈ L) (h : Evolves L s t) :
    Evolves L s (State.dropRings t f) := by
  unfold State.dropRings
  try dsimp only
  repeat' first
    | with_reducible assumption
    | intro _
    | with_reducible apply ev_modRing
    | with_reducible apply ev_modHost
    | with_reducible apply ev_forAll
    | (show _ = true; first | assumption | rfl)

theorem ev_dropCmds {f : Func} (h_regs : Part.regs ∈ L) (h_host : Part.host ∈ L) (h : Evolves L s t) :
    Evolves L s (State.dropCmds t f) := by
  unfold State.dropCmds
  try dsimp only
  repeat' first
    | with_reducible assumption
    | intro _
    | with_reducible apply ev_modHost
    | with_reducible apply ev_put
    | (show _ = true; first | assumption | rfl)

theorem ev_resetFn {f : Func} (h_regs : Part.regs ∈ L) (h_host : Part.host ∈ L) (h : Evolves L s t) :
    Evolves L s (State.resetFn t f) := by
  unfold State.resetFn
  try dsimp only
  repeat' first
    | with_reducible assumption
    | intro _
    | with_reducible apply ev_setFn
    | with_reducible apply ev_setReg
    | with_reducible apply ev_put
    | exact fn_msix_wf (by assumption) _
    | (show sparseWf _ _ = true; rfl)

theorem ev_orphanCrates (h_crates : Part.crates ∈ L) (h_chans : Part.chans ∈ L) (h : Evolves L s t) :
    Evolves L s (State.orphanCrates t) := by
  unfold State.orphanCrates
  try dsimp only
  repeat' first
    | with_reducible assumption
    | intro _
    | with_reducible apply ev_modCrate
    | with_reducible apply ev_modChan
    | with_reducible apply ev_forAll

theorem ev_stopForReset (h_regs : Part.regs ∈ L) (h_bank : Part.bank ∈ L) (h_crates : Part.crates ∈ L) (h_chans : Part.chans ∈ L) (h_shot : Part.shot ∈ L) (h_host : Part.host ∈ L) (h : Evolves L s t) :
    Evolves L s (State.stopForReset t) := by
  unfold State.stopForReset
  try dsimp only
  repeat' first
    | with_reducible assumption
    | intro _
    | with_reducible apply ev_modShot
    | with_reducible apply ev_showShot
    | with_reducible apply ev_stopEngine
    | split

theorem ev_functionReset {f : Func} (h_regs : Part.regs ∈ L) (h_bank : Part.bank ∈ L) (h_crates : Part.crates ∈ L) (h_chans : Part.chans ∈ L) (h_shot : Part.shot ∈ L) (h_host : Part.host ∈ L) (h_rings : Part.rings ∈ L) (h_saf : Part.saf ∈ L) (h_flt : Part.flt ∈ L) (h : Evolves L s t) :
    Evolves L s (State.functionReset t f) := by
  unfold State.functionReset
  try dsimp only
  repeat' first
    | with_reducible assumption
    | intro _
    | with_reducible apply ev_dropRings
    | with_reducible apply ev_dropRecs
    | with_reducible apply ev_dropCmds
    | with_reducible apply ev_resetFn
    | with_reducible apply ev_modShot
    | with_reducible apply ev_orphanCrates
    | with_reducible apply ev_stopForReset
    | with_reducible apply ev_modSaf
    | with_reducible apply ev_abandonConfig
    | split
    | (show _ = true; first | assumption | rfl)
    | (rename_i hw; rw [Saf.wf_iff] at hw ⊢; obtain ⟨wa, wb, wc, wd, we, wg⟩ := hw; refine ⟨?_, ?_, ?_, ?_, ?_, ?_⟩ <;> first | assumption | rfl | (exact sparseWf_set _ _ (by assumption)))

theorem ev_linkReset (h_regs : Part.regs ∈ L) (h_bank : Part.bank ∈ L) (h_crates : Part.crates ∈ L) (h_chans : Part.chans ∈ L) (h_shot : Part.shot ∈ L) (h_host : Part.host ∈ L) (h_rings : Part.rings ∈ L) (h_saf : Part.saf ∈ L) (h_flt : Part.flt ∈ L) (h : Evolves L s t) :
    Evolves L s (State.linkReset t) := by
  unfold State.linkReset
  try dsimp only
  repeat' first
    | with_reducible assumption
    | intro _
    | with_reducible apply ev_functionReset
    | with_reducible apply ev_setReg
    | with_reducible apply ev_setReady

end Sys2Proof.Machine
end

