-- ==== Sys2Proof/Laws/EvTxn.lean ====
section
/-! SUPPORT. What each operation of Machine/Txn.lean may change, and that it keeps the invariant. -/

namespace Sys2Proof.Machine

variable {L : List Part} {s t : State}

theorem ev_txnWrite {w : TxnWrite} (h_regs : Part.regs ∈ L) (h : Evolves L s t) :
    Evolves L s (State.txnWrite t w) := by
  unfold State.txnWrite
  try dsimp only
  repeat' first
    | with_reducible assumption
    | intro _
    | with_reducible apply ev_setReg
    | split

theorem ev_txnResult {ws : List TxnWrite} (h_regs : Part.regs ∈ L) (h : Evolves L s t) :
    Evolves L s (State.txnResult t ws) := by
  unfold State.txnResult
  try dsimp only
  repeat' first
    | with_reducible assumption
    | intro _
    | with_reducible apply ev_txnWrite
    | with_reducible apply ev_forAll

theorem ev_showTxns (h_regs : Part.regs ∈ L) (h : Evolves L s t) :
    Evolves L s (State.showTxns t) := by
  unfold State.showTxns
  try dsimp only
  repeat' first
    | with_reducible assumption
    | intro _
    | with_reducible apply ev_put

theorem ev_txnEnd {x : Txn} {status : Nat} {shots : Nat} (h_regs : Part.regs ∈ L) (h_host : Part.host ∈ L) (h : Evolves L s t) :
    Evolves L s (State.txnEnd t x status shots) := by
  unfold State.txnEnd
  try dsimp only
  repeat' first
    | with_reducible assumption
    | intro _
    | with_reducible apply ev_put
    | with_reducible apply ev_complete
    | with_reducible apply ev_putB
    | split

theorem ev_txnReject {x : Txn} {status : Nat} {idx : Nat} (h_regs : Part.regs ∈ L) (h_host : Part.host ∈ L) (h : Evolves L s t) :
    Evolves L s (State.txnReject t x status idx) := by
  unfold State.txnReject
  try dsimp only
  repeat' first
    | with_reducible assumption
    | intro _
    | with_reducible apply ev_bump
    | with_reducible apply ev_post
    | with_reducible apply ev_txnEnd

theorem ev_submit {x : Txn} (h_regs : Part.regs ∈ L) (h_host : Part.host ∈ L) (h : Evolves L s t) :
    Evolves L s (State.submit t x) := by
  unfold State.submit
  try dsimp only
  repeat' first
    | with_reducible assumption
    | intro _
    | with_reducible apply ev_txnReject
    | with_reducible apply ev_openCmd
    | with_reducible apply ev_modHost
    | with_reducible apply ev_showTxns
    | split
    | (show _ = true; first | assumption | rfl)

theorem ev_stxnGo {q : Src} {value : Word} (h_regs : Part.regs ∈ L) (h_host : Part.host ∈ L) (h_flt : Part.flt ∈ L) (h : Evolves L s t) :
    Evolves L s (State.stxnGo t q value) := by
  unfold State.stxnGo
  try dsimp only
  repeat' first
    | with_reducible assumption
    | intro _
    | with_reducible apply ev_refuseWrite
    | with_reducible apply ev_put
    | with_reducible apply ev_putB
    | with_reducible apply ev_submit
    | split

theorem ev_showPins (h_regs : Part.regs ∈ L) (h : Evolves L s t) :
    Evolves L s (State.showPins t) := by
  unfold State.showPins
  try dsimp only
  repeat' first
    | with_reducible assumption
    | intro _
    | with_reducible apply ev_put
    | with_reducible apply ev_putB
    | split

theorem ev_txnActs {before : State} {ws : List TxnWrite} (h_regs : Part.regs ∈ L) (h_crates : Part.crates ∈ L) (h_chans : Part.chans ∈ L) (h_shot : Part.shot ∈ L) (h_host : Part.host ∈ L) (h_hk : Part.hk ∈ L) (h_flt : Part.flt ∈ L) (h : Evolves L s t) :
    Evolves L s (State.txnActs t before ws) := by
  unfold State.txnActs
  try dsimp only
  repeat' first
    | with_reducible assumption
    | intro _
    | with_reducible apply ev_setReg
    | with_reducible apply ev_modShot
    | with_reducible apply ev_requestRestore
    | with_reducible apply ev_clearSuspect
    | with_reducible apply ev_modeChange
    | with_reducible apply ev_modCrate
    | with_reducible apply ev_dacChanges
    | with_reducible apply ev_hkApply
    | with_reducible apply ev_forAll
    | with_reducible apply ev_doIf
    | split

theorem ev_txnApply {x : Txn} (h_regs : Part.regs ∈ L) (h_crates : Part.crates ∈ L) (h_chans : Part.chans ∈ L) (h_shot : Part.shot ∈ L) (h_host : Part.host ∈ L) (h_hk : Part.hk ∈ L) (h_flt : Part.flt ∈ L) (h : Evolves L s t) :
    Evolves L s (State.txnApply t x) := by
  unfold State.txnApply
  try dsimp only
  repeat' first
    | with_reducible assumption
    | intro _
    | with_reducible apply ev_modHost
    | with_reducible apply ev_showTxns
    | with_reducible apply ev_txnReject
    | with_reducible apply ev_txnResult
    | with_reducible apply ev_txnActs
    | with_reducible apply ev_bumpEpoch
    | with_reducible apply ev_txnEnd
    | split
    | (show _ = true; first | assumption | rfl)

theorem ev_fmChange {f : FmChange} (h_regs : Part.regs ∈ L) (h_crates : Part.crates ∈ L) (h_chans : Part.chans ∈ L) (h_host : Part.host ∈ L) (h_flt : Part.flt ∈ L) (h : Evolves L s t) :
    Evolves L s (State.fmChange t f) := by
  unfold State.fmChange
  try dsimp only
  repeat' first
    | with_reducible assumption
    | intro _
    | with_reducible apply ev_retire
    | with_reducible apply ev_removeChan
    | with_reducible apply ev_failAmbient
    | with_reducible apply ev_applyTie
    | with_reducible apply ev_applyRestore
    | split

theorem ev_fmChanges (h_regs : Part.regs ∈ L) (h_crates : Part.crates ∈ L) (h_chans : Part.chans ∈ L) (h_host : Part.host ∈ L) (h_flt : Part.flt ∈ L) (h : Evolves L s t) :
    Evolves L s (State.fmChanges t) := by
  unfold State.fmChanges
  try dsimp only
  repeat' first
    | with_reducible assumption
    | intro _
    | with_reducible apply ev_fmChange
    | with_reducible apply ev_modFlt
    | with_reducible apply ev_showPend
    | with_reducible apply ev_bumpEpoch
    | with_reducible apply ev_forAll
    | split
    | (show _ = true; first | assumption | rfl)

theorem ev_applyTick (h_regs : Part.regs ∈ L) (h_chans : Part.chans ∈ L) (h_chgs : Part.chgs ∈ L) (h_mons : Part.mons ∈ L) (h_host : Part.host ∈ L) (h_free : Part.free ∈ L) (h : Evolves L s t) :
    Evolves L s (State.applyTick t) := by
  unfold State.applyTick
  try dsimp only
  repeat' first
    | with_reducible assumption
    | intro _
    | with_reducible apply ev_applyMon
    | with_reducible apply ev_applyChg
    | with_reducible apply ev_applyCrate
    | with_reducible apply ev_showPins
    | with_reducible apply ev_forAll

theorem ev_applyInstant (h_regs : Part.regs ∈ L) (h_crates : Part.crates ∈ L) (h_chans : Part.chans ∈ L) (h_shot : Part.shot ∈ L) (h_chgs : Part.chgs ∈ L) (h_mons : Part.mons ∈ L) (h_host : Part.host ∈ L) (h_hk : Part.hk ∈ L) (h_flt : Part.flt ∈ L) (h_free : Part.free ∈ L) (h : Evolves L s t) :
    Evolves L s (State.applyInstant t) := by
  unfold State.applyInstant
  try dsimp only
  repeat' first
    | with_reducible assumption
    | intro _
    | with_reducible apply ev_dueSwap
    | with_reducible apply ev_txnApply
    | with_reducible apply ev_fmChanges
    | with_reducible apply ev_applyTick
    | with_reducible apply ev_forAll

theorem ev_strobe {x : Snap} (h_host : Part.host ∈ L) (h : Evolves L s t) :
    Evolves L s (State.strobe t x) := by
  unfold State.strobe
  try dsimp only
  repeat' first
    | with_reducible assumption
    | intro _
    | with_reducible apply ev_modHost
    | with_reducible apply ev_pushRec
    | with_reducible apply ev_complete
    | split
    | (show _ = true; first | assumption | rfl)

end Sys2Proof.Machine
end

