-- ==== Sys2Proof/Laws/EvRegisters.lean ====
section
/-! SUPPORT. What each operation of Machine/Registers.lean may change, and that it keeps the invariant. -/

namespace Sys2Proof.Machine

variable {L : List Part} {s t : State}

theorem ev_setupWrite {q : Src} {d : RegDesc} {a : Nat} {value : Word} (h_regs : Part.regs ∈ L) (h_crates : Part.crates ∈ L) (h_chans : Part.chans ∈ L) (h_motor : Part.motor ∈ L) (h_host : Part.host ∈ L) (h_saf : Part.saf ∈ L) (h_flt : Part.flt ∈ L) (h : Evolves L s t) :
    Evolves L s (State.setupWrite t q d a value) := by
  unfold State.setupWrite
  try dsimp only
  repeat' first
    | with_reducible assumption
    | intro _
    | with_reducible apply ev_modSaf
    | with_reducible apply ev_motCfgWrite
    | with_reducible apply ev_feModeWrite
    | with_reducible apply ev_setReg
    | split
    | (show _ = true; first | assumption | rfl)
    | (rename_i hw; rw [Saf.wf_iff] at hw ⊢; obtain ⟨wa, wb, wc, wd, we, wg⟩ := hw; refine ⟨?_, ?_, ?_, ?_, ?_, ?_⟩ <;> first | assumption | rfl | (exact sparseWf_set _ _ (by assumption)))

theorem ev_unlockWrite {q : Src} {value : Word} (h_regs : Part.regs ∈ L) (h_host : Part.host ∈ L) (h_saf : Part.saf ∈ L) (h : Evolves L s t) :
    Evolves L s (State.unlockWrite t q value) := by
  unfold State.unlockWrite
  try dsimp only
  repeat' first
    | with_reducible assumption
    | intro _
    | with_reducible apply ev_unlockKey
    | with_reducible apply ev_abandonConfig
    | with_reducible apply ev_doIf

theorem ev_safCmdWrite {value : Word} (h_regs : Part.regs ∈ L) (h_host : Part.host ∈ L) (h_saf : Part.saf ∈ L) (h_flt : Part.flt ∈ L) (h_free : Part.free ∈ L) (h : Evolves L s t) :
    Evolves L s (State.safCmdWrite t value) := by
  unfold State.safCmdWrite
  try dsimp only
  repeat' first
    | with_reducible assumption
    | intro _
    | with_reducible apply ev_clearLen
    | with_reducible apply ev_clearZones
    | with_reducible apply ev_askReset
    | with_reducible apply ev_clearOuts
    | with_reducible apply ev_doIf

theorem ev_hkCtlWrite {value : Word} (h_regs : Part.regs ∈ L) (h_crates : Part.crates ∈ L) (h_host : Part.host ∈ L) (h_hk : Part.hk ∈ L) (h : Evolves L s t) :
    Evolves L s (State.hkCtlWrite t value) := by
  unfold State.hkCtlWrite
  try dsimp only
  repeat' first
    | with_reducible assumption
    | intro _
    | with_reducible apply ev_hkResetBank
    | with_reducible apply ev_hkAskRestart
    | with_reducible apply ev_doIf

theorem ev_pageWrite {q : Src} {value : Word} (h_reqs : Part.reqs ∈ L) (h : Evolves L s t) :
    Evolves L s (State.pageWrite t q value) := by
  unfold State.pageWrite
  try dsimp only
  repeat' first
    | with_reducible assumption
    | intro _
    | with_reducible apply ev_modReq

theorem ev_commandWrite {q : Src} {d : RegDesc} {a : Nat} {value : Word} (h_regs : Part.regs ∈ L) (h_bank : Part.bank ∈ L) (h_crates : Part.crates ∈ L) (h_chans : Part.chans ∈ L) (h_slices : Part.slices ∈ L) (h_host : Part.host ∈ L) (h_reqs : Part.reqs ∈ L) (h_hk : Part.hk ∈ L) (h_saf : Part.saf ∈ L) (h_flt : Part.flt ∈ L) (h_free : Part.free ∈ L) (h : Evolves L s t) :
    Evolves L s (State.commandWrite t q d a value) := by
  unfold State.commandWrite
  refine ev_ite (ev_safWrite h_regs h_host h_flt (fun _ hu => ev_unlockWrite h_regs h_host h_saf hu) h) ?_
  refine ev_ite (ev_safWrite h_regs h_host h_flt (fun _ hu => ev_commitSet h_regs h_host h_saf hu) h) ?_
  refine ev_ite (ev_safWrite h_regs h_host h_flt (fun _ hu => ev_otpKey h_saf hu) h) ?_
  refine ev_ite (ev_safWrite h_regs h_host h_flt (fun _ hu => ev_safCmdWrite h_regs h_host h_saf h_flt h_free hu) h) ?_
  refine ev_ite (ev_hkCtlWrite h_regs h_crates h_host h_hk h) ?_
  refine ev_ite (ev_cnowWrite h_regs h_host h_hk h_flt h) ?_
  refine ev_ite (ev_fltCtlWrite h_regs h_host h_flt h) ?_
  refine ev_ite (ev_logSelect h_reqs h) ?_
  refine ev_ite (ev_pageWrite h_reqs h) ?_
  refine ev_ite (ev_cratePowerWrite h_regs h_bank h_crates h_chans h_slices h_host h_flt h) ?_
  refine ev_ite (ev_stxnGo h_regs h_host h_flt h) ?_
  split
  · exact ev_toneWrite h_regs h_crates h_chans h_host h_flt h
  · exact ev_ite (ev_refuseWrite h_regs h_host h_flt h) (ev_setReg h_regs h)

theorem ev_busWrite {q : Src} {a : Nat} {value : Word} (h_regs : Part.regs ∈ L) (h_bank : Part.bank ∈ L) (h_crates : Part.crates ∈ L) (h_chans : Part.chans ∈ L) (h_slices : Part.slices ∈ L) (h_eye : Part.eye ∈ L) (h_motor : Part.motor ∈ L) (h_host : Part.host ∈ L) (h_reqs : Part.reqs ∈ L) (h_hk : Part.hk ∈ L) (h_saf : Part.saf ∈ L) (h_flt : Part.flt ∈ L) (h_free : Part.free ∈ L) (h : Evolves L s t) :
    Evolves L s (State.busWrite t q a value) := by
  unfold State.busWrite
  try dsimp only
  repeat' first
    | with_reducible assumption
    | intro _
    | with_reducible apply ev_refuseWrite
    | with_reducible apply ev_setReg
    | with_reducible apply ev_setupWrite
    | with_reducible apply ev_commandWrite
    | with_reducible apply ev_eyeKey
    | split

theorem ev_answer {q : Src} {w : Word} (h_reqs : Part.reqs ∈ L) (h : Evolves L s t) :
    Evolves L s (State.answer t q w) := by
  unfold State.answer
  try dsimp only
  repeat' first
    | with_reducible assumption
    | intro _
    | with_reducible apply ev_modReq

theorem ev_diagRead {q : Src} {a : Nat} {ecc : Ecc} (h_regs : Part.regs ∈ L) (h_chans : Part.chans ∈ L) (h_reqs : Part.reqs ∈ L) (h_flt : Part.flt ∈ L) (h : Evolves L s t) :
    Evolves L s (State.diagRead t q a ecc) := by
  unfold State.diagRead
  try dsimp only
  repeat' first
    | with_reducible assumption
    | intro _
    | with_reducible apply ev_eccRead
    | with_reducible apply ev_modReq
    | with_reducible apply ev_answer
    | with_reducible apply ev_doIf
    | split

theorem ev_sizedRead {q : Src} {x : ReadAccess} {f : State → State} (h_host : Part.host ∈ L) (h_reqs : Part.reqs ∈ L) (hf_f : ∀ u, Evolves L s u → Evolves L s (f u)) (h : Evolves L s t) :
    Evolves L s (State.sizedRead t q x f) := by
  unfold State.sizedRead
  try dsimp only
  repeat' first
    | with_reducible assumption
    | intro _
    | with_reducible apply ev_modReq
    | with_reducible apply ev_noteUnsupported
    | with_reducible apply hf_f
    | split

theorem ev_evqRead {q : Src} (h_regs : Part.regs ∈ L) (h_host : Part.host ∈ L) (h_reqs : Part.reqs ∈ L) (h : Evolves L s t) :
    Evolves L s (State.evqRead t q) := by
  unfold State.evqRead
  try dsimp only
  repeat' first
    | with_reducible assumption
    | intro _
    | with_reducible apply ev_answer
    | with_reducible apply ev_modHost
    | with_reducible apply ev_showEvq
    | split
    | (show _ = true; first | assumption | rfl)
    | (rename_i hw; rw [HostIf.wf_iff] at hw ⊢; refine ⟨hw.1, hw.2.1, ?_⟩; simp only [List.length_tail]; omega)

theorem ev_loRead {q : Src} {lo : Nat} {hi : Nat} (h_reqs : Part.reqs ∈ L) (h : Evolves L s t) :
    Evolves L s (State.loRead t q lo hi) := by
  unfold State.loRead
  try dsimp only
  repeat' first
    | with_reducible assumption
    | intro _
    | with_reducible apply ev_modReq

theorem ev_rcRead {q : Src} {a : Nat} (h_regs : Part.regs ∈ L) (h_reqs : Part.reqs ∈ L) (h : Evolves L s t) :
    Evolves L s (State.rcRead t q a) := by
  unfold State.rcRead
  try dsimp only
  repeat' first
    | with_reducible assumption
    | intro _
    | with_reducible apply ev_answer
    | with_reducible apply ev_setReg
    | split

theorem ev_busRead {q : Src} {a : Nat} {ecc : Ecc} (h_regs : Part.regs ∈ L) (h_chans : Part.chans ∈ L) (h_host : Part.host ∈ L) (h_reqs : Part.reqs ∈ L) (h_flt : Part.flt ∈ L) (h : Evolves L s t) :
    Evolves L s (State.busRead t q a ecc) := by
  unfold State.busRead
  try dsimp only
  repeat' first
    | with_reducible assumption
    | intro _
    | with_reducible apply ev_diagRead
    | with_reducible apply ev_evqRead
    | with_reducible apply ev_motStatusRead
    | with_reducible apply ev_answer
    | with_reducible apply ev_logRead
    | with_reducible apply ev_loRead
    | with_reducible apply ev_hkResultRead
    | with_reducible apply ev_rcRead
    | split

theorem ev_drive {bs : List Byte} (h_host : Part.host ∈ L) (h : Evolves L s t) :
    Evolves L s (State.drive t bs) := by
  unfold State.drive
  try dsimp only
  repeat' first
    | with_reducible assumption
    | intro _
    | with_reducible apply ev_modHost
    | (show _ = true; first | assumption | rfl)

theorem ev_spiAbort (h_regs : Part.regs ∈ L) (h_host : Part.host ∈ L) (h : Evolves L s t) :
    Evolves L s (State.spiAbort t) := by
  unfold State.spiAbort
  try dsimp only
  repeat' first
    | with_reducible assumption
    | intro _
    | with_reducible apply ev_bump
    | with_reducible apply ev_drive

theorem ev_spiStatus {st : Nat} (h_host : Part.host ∈ L) (h : Evolves L s t) :
    Evolves L s (State.spiStatus t st) := by
  unfold State.spiStatus
  try dsimp only
  repeat' first
    | with_reducible assumption
    | intro _
    | with_reducible apply ev_drive

theorem ev_spiData {data : Word} {st : Nat} (h_host : Part.host ∈ L) (h : Evolves L s t) :
    Evolves L s (State.spiData t data st) := by
  unfold State.spiData
  try dsimp only
  repeat' first
    | with_reducible assumption
    | intro _
    | with_reducible apply ev_drive

theorem ev_spiWrite {bs : List Byte} (h_regs : Part.regs ∈ L) (h_bank : Part.bank ∈ L) (h_crates : Part.crates ∈ L) (h_chans : Part.chans ∈ L) (h_slices : Part.slices ∈ L) (h_eye : Part.eye ∈ L) (h_motor : Part.motor ∈ L) (h_host : Part.host ∈ L) (h_reqs : Part.reqs ∈ L) (h_hk : Part.hk ∈ L) (h_saf : Part.saf ∈ L) (h_flt : Part.flt ∈ L) (h_free : Part.free ∈ L) (h : Evolves L s t) :
    Evolves L s (State.spiWrite t bs) := by
  unfold State.spiWrite
  try dsimp only
  repeat' first
    | with_reducible assumption
    | intro _
    | with_reducible apply ev_spiAbort
    | with_reducible apply ev_bump
    | with_reducible apply ev_spiStatus
    | with_reducible apply ev_busWrite
    | split

theorem ev_spiRead {bs : List Byte} {x : FabricAnswer} (h_regs : Part.regs ∈ L) (h_chans : Part.chans ∈ L) (h_host : Part.host ∈ L) (h_reqs : Part.reqs ∈ L) (h_flt : Part.flt ∈ L) (h_free : Part.free ∈ L) (h : Evolves L s t) :
    Evolves L s (State.spiRead t bs x) := by
  unfold State.spiRead
  try dsimp only
  repeat' first
    | with_reducible assumption
    | intro _
    | with_reducible apply ev_spiAbort
    | with_reducible apply ev_bump
    | with_reducible apply ev_takeFreeWord
    | with_reducible apply ev_spiData
    | with_reducible apply ev_busRead
    | with_reducible apply ev_takeFree
    | with_reducible apply ev_doIf
    | split

end Sys2Proof.Machine
end

