-- ==== Sys2Proof/Laws/ExChurn.lean ====
section
/-! SUPPORT. What each command of Machine/Churn.lean may change, and that it keeps the invariant. -/

namespace Sys2Proof.Machine

variable {L : List Part} {s t : State}

theorem ev_execScrub {c : CrateId} {word : BitVec 13} {ecc : Ecc} (h_regs : Part.regs ∈ L) (h_chans : Part.chans ∈ L) (h_flt : Part.flt ∈ L) (hx : execScrub c word ecc s = .next t) :
    Evolves L s t := by
  have h : Evolves L s s := ev_refl
  simp only [execScrub, Host.Outcome.next.injEq] at hx
  subst hx
  repeat' first
    | with_reducible assumption
    | intro _
    | with_reducible apply ev_eccRead
    | with_reducible apply ev_doIf

theorem ev_execDescriptorRead {c : CrateId} (h_regs : Part.regs ∈ L) (h_crates : Part.crates ∈ L) (h_chans : Part.chans ∈ L) (h_host : Part.host ∈ L) (hx : execDescriptorRead c s = .next t) :
    Evolves L s t := by
  have h : Evolves L s s := ev_refl
  simp only [execDescriptorRead, Host.Outcome.next.injEq] at hx
  subst hx
  repeat' first
    | with_reducible assumption
    | intro _
    | with_reducible apply ev_readDescr
    | with_reducible apply ev_doIf
    | split

theorem ev_execEventAccumulate {c : CrateId} {ecc : List Ecc} (h_regs : Part.regs ∈ L) (h_bank : Part.bank ∈ L) (h_crates : Part.crates ∈ L) (h_chans : Part.chans ∈ L) (h_flt : Part.flt ∈ L) (hx : execEventAccumulate c ecc s = .next t) :
    Evolves L s t := by
  have h : Evolves L s s := ev_refl
  simp only [execEventAccumulate, Host.Outcome.next.injEq] at hx
  subst hx
  repeat' first
    | with_reducible assumption
    | intro _
    | with_reducible apply ev_takeEvent
    | with_reducible apply ev_doIf
    | split

theorem ev_execWindowCloseRead {c : CrateId} (h_regs : Part.regs ∈ L) (h_crates : Part.crates ∈ L) (h_chans : Part.chans ∈ L) (hx : execWindowCloseRead c s = .next t) :
    Evolves L s t := by
  have h : Evolves L s s := ev_refl
  simp only [execWindowCloseRead, Host.Outcome.next.injEq] at hx
  subst hx
  repeat' first
    | with_reducible assumption
    | intro _
    | with_reducible apply ev_readWindowClose
    | with_reducible apply ev_doIf
    | split

theorem ev_execChurnDwellBoundary {c : CrateId} (h_regs : Part.regs ∈ L) (h_bank : Part.bank ∈ L) (h_crates : Part.crates ∈ L) (h_chans : Part.chans ∈ L) (h_shot : Part.shot ∈ L) (h_host : Part.host ∈ L) (h_saf : Part.saf ∈ L) (hx : execChurnDwellBoundary c s = .next t) :
    Evolves L s t := by
  have h : Evolves L s s := ev_refl
  simp only [execChurnDwellBoundary, Host.Outcome.next.injEq] at hx
  subst hx
  repeat' first
    | with_reducible assumption
    | intro _
    | with_reducible apply ev_dwellBoundary
    | with_reducible apply ev_doIf
    | split

theorem ev_execHistDump {ref : CmdRef} (h_regs : Part.regs ∈ L) (h_crates : Part.crates ∈ L) (h_host : Part.host ∈ L) (hx : execHistDump ref s = .next t) :
    Evolves L s t := by
  have h : Evolves L s s := ev_refl
  simp only [execHistDump, Host.Outcome.next.injEq] at hx
  subst hx
  repeat' first
    | with_reducible assumption
    | intro _
    | with_reducible apply ev_histDump
    | with_reducible apply ev_doIf
    | split

theorem ev_execRawCapture {ref : CmdRef} (h_crates : Part.crates ∈ L) (h_host : Part.host ∈ L) (hx : execRawCapture ref s = .next t) :
    Evolves L s t := by
  have h : Evolves L s s := ev_refl
  simp only [execRawCapture, Host.Outcome.next.injEq] at hx
  subst hx
  repeat' first
    | with_reducible assumption
    | intro _
    | with_reducible apply ev_rawCapture
    | with_reducible apply ev_doIf
    | split

theorem ev_execRawDrain {d : RawReads} (h_regs : Part.regs ∈ L) (h_bank : Part.bank ∈ L) (h_crates : Part.crates ∈ L) (h_chans : Part.chans ∈ L) (h_host : Part.host ∈ L) (h_flt : Part.flt ∈ L) (hx : execRawDrain d s = .next t) :
    Evolves L s t := by
  have h : Evolves L s s := ev_refl
  simp only [execRawDrain, Host.Outcome.next.injEq] at hx
  subst hx
  repeat' first
    | with_reducible assumption
    | intro _
    | with_reducible apply ev_drainReads
    | with_reducible apply ev_rawDrain
    | with_reducible apply ev_doIf
    | split

end Sys2Proof.Machine
end

