-- ==== Sys2Proof/Laws/ExClocks.lean ====
section
/-! SUPPORT. What each command of Machine/Clocks.lean may change, and that it keeps the invariant. -/

namespace Sys2Proof.Machine

variable {L : List Part} {s t : State}

theorem ev_execPowerOn (h_regs : Part.regs ∈ L) (h_bank : Part.bank ∈ L) (h_clk : Part.clk ∈ L) (h_tap : Part.tap ∈ L) (h_crates : Part.crates ∈ L) (h_chans : Part.chans ∈ L) (h_slices : Part.slices ∈ L) (h_shot : Part.shot ∈ L) (h_emits : Part.emits ∈ L) (h_classes : Part.classes ∈ L) (h_chgs : Part.chgs ∈ L) (h_mons : Part.mons ∈ L) (h_eye : Part.eye ∈ L) (h_motor : Part.motor ∈ L) (h_host : Part.host ∈ L) (h_reqs : Part.reqs ∈ L) (h_rings : Part.rings ∈ L) (h_hk : Part.hk ∈ L) (h_saf : Part.saf ∈ L) (h_flt : Part.flt ∈ L) (hx : execPowerOn s = .next t) :
    Evolves L s t := by
  have h : Evolves L s s := ev_refl
  simp only [execPowerOn, Host.Outcome.next.injEq] at hx
  subst hx
  repeat' first
    | with_reducible assumption
    | intro _
    | with_reducible apply ev_deviceReset
    | with_reducible apply ev_setReg
    | with_reducible apply ev_modTap

theorem ev_execResetNAssert {lowNs : Nat} (h_regs : Part.regs ∈ L) (h_bank : Part.bank ∈ L) (h_clk : Part.clk ∈ L) (h_crates : Part.crates ∈ L) (h_chans : Part.chans ∈ L) (h_slices : Part.slices ∈ L) (h_shot : Part.shot ∈ L) (h_emits : Part.emits ∈ L) (h_classes : Part.classes ∈ L) (h_chgs : Part.chgs ∈ L) (h_mons : Part.mons ∈ L) (h_eye : Part.eye ∈ L) (h_motor : Part.motor ∈ L) (h_host : Part.host ∈ L) (h_reqs : Part.reqs ∈ L) (h_rings : Part.rings ∈ L) (h_hk : Part.hk ∈ L) (h_saf : Part.saf ∈ L) (h_flt : Part.flt ∈ L) (h_free : Part.free ∈ L) (hx : execResetNAssert lowNs s = .next t) :
    Evolves L s t := by
  have h : Evolves L s s := ev_refl
  simp only [execResetNAssert, Host.Outcome.next.injEq] at hx
  subst hx
  repeat' first
    | with_reducible assumption
    | intro _
    | with_reducible apply ev_putB
    | with_reducible apply ev_deviceReset
    | with_reducible apply ev_skipFree
    | with_reducible apply ev_doIf
    | split

theorem ev_execResetNRelease (h_regs : Part.regs ∈ L) (h_clk : Part.clk ∈ L) (h_flt : Part.flt ∈ L) (hx : execResetNRelease s = .next t) :
    Evolves L s t := by
  have h : Evolves L s s := ev_refl
  simp only [execResetNRelease, Host.Outcome.next.injEq] at hx
  subst hx
  repeat' first
    | with_reducible assumption
    | intro _
    | with_reducible apply ev_modClk
    | with_reducible apply ev_checkLog
    | with_reducible apply ev_loadEye
    | with_reducible apply ev_showOtp
    | with_reducible apply ev_doIf

theorem ev_execSupplyFall {dip : SupplyDip} (h_regs : Part.regs ∈ L) (h_bank : Part.bank ∈ L) (h_clk : Part.clk ∈ L) (h_tap : Part.tap ∈ L) (h_crates : Part.crates ∈ L) (h_chans : Part.chans ∈ L) (h_slices : Part.slices ∈ L) (h_shot : Part.shot ∈ L) (h_emits : Part.emits ∈ L) (h_classes : Part.classes ∈ L) (h_chgs : Part.chgs ∈ L) (h_mons : Part.mons ∈ L) (h_eye : Part.eye ∈ L) (h_motor : Part.motor ∈ L) (h_host : Part.host ∈ L) (h_reqs : Part.reqs ∈ L) (h_rings : Part.rings ∈ L) (h_hk : Part.hk ∈ L) (h_saf : Part.saf ∈ L) (h_flt : Part.flt ∈ L) (hx : execSupplyFall dip s = .next t) :
    Evolves L s t := by
  have h : Evolves L s s := ev_refl
  simp only [execSupplyFall, Host.Outcome.next.injEq] at hx
  subst hx
  repeat' first
    | with_reducible assumption
    | intro _
    | with_reducible apply ev_diagnosticFails
    | with_reducible apply ev_loseRetention
    | with_reducible apply ev_deviceReset
    | with_reducible apply ev_modClk
    | with_reducible apply ev_modTap
    | with_reducible apply ev_doIf

theorem ev_execFabricPllLock (h_regs : Part.regs ∈ L) (h_host : Part.host ∈ L) (h_saf : Part.saf ∈ L) (h_flt : Part.flt ∈ L) (hx : execFabricPllLock s = .next t) :
    Evolves L s t := by
  have h : Evolves L s s := ev_refl
  simp only [execFabricPllLock, Host.Outcome.next.injEq] at hx
  subst hx
  repeat' first
    | with_reducible assumption
    | intro _
    | with_reducible apply ev_owedLogs
    | with_reducible apply ev_putB
    | with_reducible apply ev_flushItems
    | with_reducible apply ev_doIf

theorem ev_execRegisterFabricReady (h_regs : Part.regs ∈ L) (h_host : Part.host ∈ L) (hx : execRegisterFabricReady s = .next t) :
    Evolves L s t := by
  have h : Evolves L s s := ev_refl
  simp only [execRegisterFabricReady, Host.Outcome.next.injEq] at hx
  subst hx
  repeat' first
    | with_reducible assumption
    | intro _
    | with_reducible apply ev_setReady
    | with_reducible apply ev_linkReady
    | with_reducible apply ev_doIf

theorem ev_execChurnReady (h_regs : Part.regs ∈ L) (h_bank : Part.bank ∈ L) (h_host : Part.host ∈ L) (hx : execChurnReady s = .next t) :
    Evolves L s t := by
  have h : Evolves L s s := ev_refl
  simp only [execChurnReady, Host.Outcome.next.injEq] at hx
  subst hx
  repeat' first
    | with_reducible assumption
    | intro _
    | with_reducible apply ev_clearBanks
    | with_reducible apply ev_setReady
    | with_reducible apply ev_doIf

theorem ev_execRefclkLost (h_regs : Part.regs ∈ L) (h_bank : Part.bank ∈ L) (h_clk : Part.clk ∈ L) (h_crates : Part.crates ∈ L) (h_chans : Part.chans ∈ L) (h_shot : Part.shot ∈ L) (h_emits : Part.emits ∈ L) (h_chgs : Part.chgs ∈ L) (h_motor : Part.motor ∈ L) (h_host : Part.host ∈ L) (h_flt : Part.flt ∈ L) (hx : execRefclkLost s = .next t) :
    Evolves L s t := by
  have h : Evolves L s s := ev_refl
  simp only [execRefclkLost, Host.Outcome.next.injEq] at hx
  subst hx
  repeat' first
    | with_reducible assumption
    | intro _
    | with_reducible apply ev_refclkLoss
    | with_reducible apply ev_modClk
    | with_reducible apply ev_doIf
    | split

theorem ev_execRefclkGateEnd {edges : Nat} (h_regs : Part.regs ∈ L) (h_bank : Part.bank ∈ L) (h_clk : Part.clk ∈ L) (h_crates : Part.crates ∈ L) (h_chans : Part.chans ∈ L) (h_shot : Part.shot ∈ L) (h_emits : Part.emits ∈ L) (h_chgs : Part.chgs ∈ L) (h_motor : Part.motor ∈ L) (h_host : Part.host ∈ L) (h_flt : Part.flt ∈ L) (hx : execRefclkGateEnd edges s = .next t) :
    Evolves L s t := by
  have h : Evolves L s s := ev_refl
  simp only [execRefclkGateEnd, Host.Outcome.next.injEq] at hx
  subst hx
  repeat' first
    | with_reducible assumption
    | intro _
    | with_reducible apply ev_modClk
    | with_reducible apply ev_refclkLoss
    | with_reducible apply ev_refclkFound
    | with_reducible apply ev_doIf
    | split

theorem ev_execEarlyDwellClose (h_regs : Part.regs ∈ L) (h_clk : Part.clk ∈ L) (h_crates : Part.crates ∈ L) (h_chans : Part.chans ∈ L) (h_flt : Part.flt ∈ L) (hx : execEarlyDwellClose s = .next t) :
    Evolves L s t := by
  have h : Evolves L s s := ev_refl
  simp only [execEarlyDwellClose, Host.Outcome.next.injEq] at hx
  subst hx
  repeat' first
    | with_reducible assumption
    | intro _
    | with_reducible apply ev_closeAllEarly
    | with_reducible apply ev_modClk
    | with_reducible apply ev_doIf
    | with_reducible apply ev_forAll

theorem ev_execXtalLost (h_regs : Part.regs ∈ L) (h_clk : Part.clk ∈ L) (h_crates : Part.crates ∈ L) (h_chans : Part.chans ∈ L) (h_shot : Part.shot ∈ L) (h_emits : Part.emits ∈ L) (h_chgs : Part.chgs ∈ L) (h_motor : Part.motor ∈ L) (h_host : Part.host ∈ L) (hx : execXtalLost s = .next t) :
    Evolves L s t := by
  have h : Evolves L s s := ev_refl
  simp only [execXtalLost, Host.Outcome.next.injEq] at hx
  subst hx
  repeat' first
    | with_reducible assumption
    | intro _
    | with_reducible apply ev_xtalLoss
    | with_reducible apply ev_doIf

theorem ev_execCratePowerRequest {q : Src} {value : Word} (h_regs : Part.regs ∈ L) (h_bank : Part.bank ∈ L) (h_crates : Part.crates ∈ L) (h_chans : Part.chans ∈ L) (h_slices : Part.slices ∈ L) (h_host : Part.host ∈ L) (h_flt : Part.flt ∈ L) (hx : execCratePowerRequest q value s = .next t) :
    Evolves L s t := by
  have h : Evolves L s s := ev_refl
  simp only [execCratePowerRequest, Host.Outcome.next.injEq] at hx
  subst hx
  repeat' first
    | with_reducible assumption
    | intro _
    | with_reducible apply ev_cratePowerWrite
    | with_reducible apply ev_doIf

theorem ev_execCratePowerUpStart {c : CrateId} (h_regs : Part.regs ∈ L) (h_bank : Part.bank ∈ L) (h_clk : Part.clk ∈ L) (h_crates : Part.crates ∈ L) (h_chans : Part.chans ∈ L) (hx : execCratePowerUpStart c s = .next t) :
    Evolves L s t := by
  have h : Evolves L s s := ev_refl
  simp only [execCratePowerUpStart, Host.Outcome.next.injEq] at hx
  subst hx
  repeat' first
    | with_reducible assumption
    | intro _
    | with_reducible apply ev_resetRange
    | with_reducible apply ev_modChan
    | with_reducible apply ev_put
    | with_reducible apply ev_putB
    | with_reducible apply ev_clearBank
    | with_reducible apply ev_showHeld
    | with_reducible apply ev_modClk
    | with_reducible apply ev_doIf
    | with_reducible apply ev_forAll

theorem ev_execCrateStartingDone {c : CrateId} {tests : List SelfTest} (h_regs : Part.regs ∈ L) (h_crates : Part.crates ∈ L) (h_chans : Part.chans ∈ L) (h_slices : Part.slices ∈ L) (h_shot : Part.shot ∈ L) (h_host : Part.host ∈ L) (h_flt : Part.flt ∈ L) (hx : execCrateStartingDone c tests s = .next t) :
    Evolves L s t := by
  have h : Evolves L s s := ev_refl
  simp only [execCrateStartingDone, Host.Outcome.next.injEq] at hx
  subst hx
  repeat' first
    | with_reducible assumption
    | intro _
    | with_reducible apply ev_testSlice
    | with_reducible apply ev_put
    | with_reducible apply ev_modCrate
    | with_reducible apply ev_seedAtReady
    | with_reducible apply ev_setCratesReady
    | with_reducible apply ev_applyCrate
    | with_reducible apply ev_doIf
    | with_reducible apply ev_forAll

theorem ev_execCrateStoppingDone {c : CrateId} (h_regs : Part.regs ∈ L) (h_crates : Part.crates ∈ L) (hx : execCrateStoppingDone c s = .next t) :
    Evolves L s t := by
  have h : Evolves L s s := ev_refl
  simp only [execCrateStoppingDone, Host.Outcome.next.injEq] at hx
  subst hx
  repeat' first
    | with_reducible assumption
    | intro _
    | with_reducible apply ev_crateTurnsOff
    | with_reducible apply ev_doIf

theorem ev_execTimingPllLock (h_regs : Part.regs ∈ L) (h_bank : Part.bank ∈ L) (h_clk : Part.clk ∈ L) (h_crates : Part.crates ∈ L) (h_chans : Part.chans ∈ L) (h_slices : Part.slices ∈ L) (h_chgs : Part.chgs ∈ L) (h_host : Part.host ∈ L) (h_flt : Part.flt ∈ L) (hx : execTimingPllLock s = .next t) :
    Evolves L s t := by
  have h : Evolves L s s := ev_refl
  simp only [execTimingPllLock, Host.Outcome.next.injEq] at hx
  subst hx
  repeat' first
    | with_reducible assumption
    | intro _
    | with_reducible apply ev_timingLock
    | with_reducible apply ev_doIf

theorem ev_execDeviceTimeSync (h_clk : Part.clk ∈ L) (hx : execDeviceTimeSync s = .next t) :
    Evolves L s t := by
  have h : Evolves L s s := ev_refl
  simp only [execDeviceTimeSync, Host.Outcome.next.injEq] at hx
  subst hx
  repeat' first
    | with_reducible assumption
    | intro _
    | with_reducible apply ev_modClk
    | with_reducible apply ev_doIf
    | split

theorem ev_execTapReset (h_tap : Part.tap ∈ L) (hx : execTapReset s = .next t) :
    Evolves L s t := by
  have h : Evolves L s s := ev_refl
  simp only [execTapReset, Host.Outcome.next.injEq] at hx
  subst hx
  repeat' first
    | with_reducible assumption
    | intro _
    | with_reducible apply ev_modTap
    | with_reducible apply ev_doIf

theorem ev_execJtagExtest {scan : Option BoundaryScan} (h_tap : Part.tap ∈ L) (hx : execJtagExtest scan s = .next t) :
    Evolves L s t := by
  have h : Evolves L s s := ev_refl
  simp only [execJtagExtest, Host.Outcome.next.injEq] at hx
  subst hx
  repeat' first
    | with_reducible assumption
    | intro _
    | with_reducible apply ev_modTap
    | with_reducible apply ev_scanCells
    | with_reducible apply ev_doIf
    | split

theorem ev_execJtagSamplePreload {pins : List Bool} {preload : List Bool} (h_tap : Part.tap ∈ L) (hx : execJtagSamplePreload pins preload s = .next t) :
    Evolves L s t := by
  have h : Evolves L s s := ev_refl
  simp only [execJtagSamplePreload, Host.Outcome.next.injEq] at hx
  subst hx
  repeat' first
    | with_reducible assumption
    | intro _
    | with_reducible apply ev_modTap
    | with_reducible apply ev_scanCells
    | with_reducible apply ev_doIf

theorem ev_execJtagIdcode (h_tap : Part.tap ∈ L) (hx : execJtagIdcode s = .next t) :
    Evolves L s t := by
  have h : Evolves L s s := ev_refl
  simp only [execJtagIdcode, Host.Outcome.next.injEq] at hx
  subst hx
  repeat' first
    | with_reducible assumption
    | intro _
    | with_reducible apply ev_modTap
    | with_reducible apply ev_doIf

theorem ev_execJtagBypass (h_tap : Part.tap ∈ L) (hx : execJtagBypass s = .next t) :
    Evolves L s t := by
  have h : Evolves L s s := ev_refl
  simp only [execJtagBypass, Host.Outcome.next.injEq] at hx
  subst hx
  repeat' first
    | with_reducible assumption
    | intro _
    | with_reducible apply ev_modTap
    | with_reducible apply ev_doIf

end Sys2Proof.Machine
end

