-- ==== Sys2Proof/Laws/ExCommands.lean ====
section
/-! SUPPORT. What each command of Machine/Commands.lean may change, and that it keeps the invariant. -/

namespace Sys2Proof.Machine

variable {L : List Part} {s t : State}

theorem ev_execDescriptorFetch (h_regs : Part.regs ∈ L) (h_hostMem : Part.hostMem ∈ L) (h_host : Part.host ∈ L) (h_rings : Part.rings ∈ L) (h_free : Part.free ∈ L) (hx : execDescriptorFetch s = .next t) :
    Evolves L s t := by
  have h : Evolves L s s := ev_refl
  simp only [execDescriptorFetch, Host.Outcome.next.injEq] at hx
  subst hx
  repeat' first
    | with_reducible assumption
    | intro _
    | with_reducible apply ev_fetchAgain
    | with_reducible apply ev_modRing
    | with_reducible apply ev_acceptDescr
    | with_reducible apply ev_touchHit
    | with_reducible apply ev_modHost
    | with_reducible apply ev_askRead
    | with_reducible apply ev_doIf
    | split
    | (show _ = true; first | assumption | rfl)

theorem ev_execHostReadCompletion {reply : ReadReply} (h_regs : Part.regs ∈ L) (h_hostMem : Part.hostMem ∈ L) (h_host : Part.host ∈ L) (h_rings : Part.rings ∈ L) (h_free : Part.free ∈ L) (hx : execHostReadCompletion reply s = .next t) :
    Evolves L s t := by
  have h : Evolves L s s := ev_refl
  simp only [execHostReadCompletion, Host.Outcome.next.injEq] at hx
  subst hx
  repeat' first
    | with_reducible assumption
    | intro _
    | with_reducible apply ev_dropRead
    | with_reducible apply ev_readData
    | with_reducible apply ev_noteAer
    | with_reducible apply ev_readFails
    | with_reducible apply ev_doIf
    | split

theorem ev_execCompletionTimeout (h_regs : Part.regs ∈ L) (h_hostMem : Part.hostMem ∈ L) (h_host : Part.host ∈ L) (h_rings : Part.rings ∈ L) (h_flt : Part.flt ∈ L) (h_free : Part.free ∈ L) (hx : execCompletionTimeout s = .next t) :
    Evolves L s t := by
  have h : Evolves L s s := ev_refl
  simp only [execCompletionTimeout, Host.Outcome.next.injEq] at hx
  subst hx
  repeat' first
    | with_reducible assumption
    | intro _
    | with_reducible apply ev_dropRead
    | with_reducible apply ev_noteAer
    | with_reducible apply ev_bump
    | with_reducible apply ev_readFails
    | with_reducible apply ev_detect
    | with_reducible apply ev_doIf
    | split

theorem ev_execNop {ref : CmdRef} (h_host : Part.host ∈ L) (hx : execNop ref s = .next t) :
    Evolves L s t := by
  have h : Evolves L s s := ev_refl
  simp only [execNop, Host.Outcome.next.injEq] at hx
  subst hx
  repeat' first
    | with_reducible assumption
    | intro _
    | with_reducible apply ev_complete
    | with_reducible apply ev_doIf
    | split

theorem ev_execFence {ref : CmdRef} (h_regs : Part.regs ∈ L) (h_hostMem : Part.hostMem ∈ L) (h_host : Part.host ∈ L) (h_rings : Part.rings ∈ L) (h_free : Part.free ∈ L) (hx : execFence ref s = .next t) :
    Evolves L s t := by
  have h : Evolves L s s := ev_refl
  simp only [execFence, Host.Outcome.next.injEq] at hx
  subst hx
  repeat' first
    | with_reducible assumption
    | intro _
    | with_reducible apply ev_fetchAgain
    | with_reducible apply ev_touchHit
    | with_reducible apply ev_takeDescr
    | with_reducible apply ev_fail
    | with_reducible apply ev_doIf
    | split

theorem ev_execCompletionWrite (h_regs : Part.regs ∈ L) (h_hostMem : Part.hostMem ∈ L) (h_host : Part.host ∈ L) (h_rings : Part.rings ∈ L) (h_free : Part.free ∈ L) (hx : execCompletionWrite s = .next t) :
    Evolves L s t := by
  have h : Evolves L s s := ev_refl
  simp only [execCompletionWrite, Host.Outcome.next.injEq] at hx
  subst hx
  repeat' first
    | with_reducible assumption
    | intro _
    | with_reducible apply ev_modHost
    | with_reducible apply ev_fetchAgain
    | with_reducible apply ev_bump
    | with_reducible apply ev_put
    | with_reducible apply ev_modRing
    | with_reducible apply ev_touchHit
    | with_reducible apply ev_ringWrite
    | with_reducible apply ev_doIf
    | split
    | (show _ = true; first | assumption | rfl)

end Sys2Proof.Machine
end

