-- ==== Sys2Proof/Laws/ExEmission.lean ====
section
/-! SUPPORT. What each command of Machine/Emission.lean may change, and that it keeps the invariant. -/

namespace Sys2Proof.Machine

variable {L : List Part} {s t : State}

theorem ev_execEmitterFire {e : EmitId} (h_regs : Part.regs ∈ L) (h_emits : Part.emits ∈ L) (h_chgs : Part.chgs ∈ L) (h_hk : Part.hk ∈ L) (hx : execEmitterFire e s = .next t) :
    Evolves L s t := by
  have h : Evolves L s s := ev_refl
  simp only [execEmitterFire, Host.Outcome.next.injEq] at hx
  subst hx
  repeat' first
    | with_reducible assumption
    | intro _
    | with_reducible apply ev_fire
    | with_reducible apply ev_doIf

theorem ev_execChargeCycleStart {e : EmitId} (h_chgs : Part.chgs ∈ L) (hx : execChargeCycleStart e s = .next t) :
    Evolves L s t := by
  have h : Evolves L s s := ev_refl
  simp only [execChargeCycleStart, Host.Outcome.next.injEq] at hx
  subst hx
  repeat' first
    | with_reducible assumption
    | intro _
    | with_reducible apply ev_startCycle
    | with_reducible apply ev_doIf

theorem ev_execCurrentLimitTrip {e : EmitId} (h_chgs : Part.chgs ∈ L) (hx : execCurrentLimitTrip e s = .next t) :
    Evolves L s t := by
  have h : Evolves L s s := ev_refl
  simp only [execCurrentLimitTrip, Host.Outcome.next.injEq] at hx
  subst hx
  repeat' first
    | with_reducible assumption
    | intro _
    | with_reducible apply ev_gateOff
    | with_reducible apply ev_doIf

theorem ev_execCycleEndSwitchOff {e : EmitId} (h_chgs : Part.chgs ∈ L) (hx : execCycleEndSwitchOff e s = .next t) :
    Evolves L s t := by
  have h : Evolves L s s := ev_refl
  simp only [execCycleEndSwitchOff, Host.Outcome.next.injEq] at hx
  subst hx
  repeat' first
    | with_reducible assumption
    | intro _
    | with_reducible apply ev_gateOff
    | with_reducible apply ev_doIf

theorem ev_execChargeDone {e : EmitId} (h_regs : Part.regs ∈ L) (h_chgs : Part.chgs ∈ L) (hx : execChargeDone e s = .next t) :
    Evolves L s t := by
  have h : Evolves L s s := ev_refl
  simp only [execChargeDone, Host.Outcome.next.injEq] at hx
  subst hx
  repeat' first
    | with_reducible assumption
    | intro _
    | with_reducible apply ev_setChgState
    | with_reducible apply ev_modChg
    | with_reducible apply ev_doIf

theorem ev_execTopUp {e : EmitId} (h_regs : Part.regs ∈ L) (h_chgs : Part.chgs ∈ L) (hx : execTopUp e s = .next t) :
    Evolves L s t := by
  have h : Evolves L s s := ev_refl
  simp only [execTopUp, Host.Outcome.next.injEq] at hx
  subst hx
  repeat' first
    | with_reducible assumption
    | intro _
    | with_reducible apply ev_bump
    | with_reducible apply ev_startCycle
    | with_reducible apply ev_doIf

theorem ev_execRestEnd {e : EmitId} (h_regs : Part.regs ∈ L) (h_chgs : Part.chgs ∈ L) (hx : execRestEnd e s = .next t) :
    Evolves L s t := by
  have h : Evolves L s s := ev_refl
  simp only [execRestEnd, Host.Outcome.next.injEq] at hx
  subst hx
  repeat' first
    | with_reducible assumption
    | intro _
    | with_reducible apply ev_startCharging
    | with_reducible apply ev_doIf

theorem ev_execChargeTimeout {e : EmitId} (h_regs : Part.regs ∈ L) (h_chgs : Part.chgs ∈ L) (h_host : Part.host ∈ L) (h_flt : Part.flt ∈ L) (hx : execChargeTimeout e s = .next t) :
    Evolves L s t := by
  have h : Evolves L s s := ev_refl
  simp only [execChargeTimeout, Host.Outcome.next.injEq] at hx
  subst hx
  repeat' first
    | with_reducible assumption
    | intro _
    | with_reducible apply ev_bump
    | with_reducible apply ev_modChg
    | with_reducible apply ev_post
    | with_reducible apply ev_detect
    | with_reducible apply ev_doIf

theorem ev_execComparatorSettleEnd {b : CmpBlock} {first : CmpSlot} {second : CmpSlot} (h_regs : Part.regs ∈ L) (h_chgs : Part.chgs ∈ L) (h_mons : Part.mons ∈ L) (h_flt : Part.flt ∈ L) (hx : execComparatorSettleEnd b first second s = .next t) :
    Evolves L s t := by
  have h : Evolves L s s := ev_refl
  simp only [execComparatorSettleEnd, Host.Outcome.next.injEq] at hx
  subst hx
  repeat' first
    | with_reducible assumption
    | intro _
    | with_reducible apply ev_bump
    | with_reducible apply ev_modChg
    | with_reducible apply ev_startCharging
    | with_reducible apply ev_modMon
    | with_reducible apply ev_slotFailed
    | with_reducible apply ev_doIf
    | split

theorem ev_execComparatorSelfTest {b : CmpBlock} {first : CmpSlot} {second : CmpSlot} (h_regs : Part.regs ∈ L) (h_chgs : Part.chgs ∈ L) (h_flt : Part.flt ∈ L) (hx : execComparatorSelfTest b first second s = .next t) :
    Evolves L s t := by
  have h : Evolves L s s := ev_refl
  simp only [execComparatorSelfTest, Host.Outcome.next.injEq] at hx
  subst hx
  repeat' first
    | with_reducible assumption
    | intro _
    | with_reducible apply ev_modChg
    | with_reducible apply ev_bump
    | with_reducible apply ev_slotFailed
    | with_reducible apply ev_doIf
    | split

theorem ev_execWindowMonitorChange {m : MonId} {level : MonLevel} {held : Nat} {mv : BitVec 16} (h_regs : Part.regs ∈ L) (h_host : Part.host ∈ L) (hx : execWindowMonitorChange m level held mv s = .next t) :
    Evolves L s t := by
  have h : Evolves L s s := ev_refl
  simp only [execWindowMonitorChange, Host.Outcome.next.injEq] at hx
  subst hx
  repeat' first
    | with_reducible assumption
    | intro _
    | with_reducible apply ev_monState
    | with_reducible apply ev_doIf

theorem ev_execAccountantBinRoll {long : Bool} (h_emits : Part.emits ∈ L) (h_classes : Part.classes ∈ L) (h_eye : Part.eye ∈ L) (hx : execAccountantBinRoll long s = .next t) :
    Evolves L s t := by
  have h : Evolves L s s := ev_refl
  simp only [execAccountantBinRoll, Host.Outcome.next.injEq] at hx
  subst hx
  repeat' first
    | with_reducible assumption
    | intro _
    | with_reducible apply ev_rollLong
    | with_reducible apply ev_rollShort
    | split

theorem ev_execEyeLockKey {q : Src} {value : Word} (h_regs : Part.regs ∈ L) (h_eye : Part.eye ∈ L) (h_host : Part.host ∈ L) (h_flt : Part.flt ∈ L) (hx : execEyeLockKey q value s = .next t) :
    Evolves L s t := by
  have h : Evolves L s s := ev_refl
  simp only [execEyeLockKey, Host.Outcome.next.injEq] at hx
  subst hx
  repeat' first
    | with_reducible assumption
    | intro _
    | with_reducible apply ev_eyeKey
    | with_reducible apply ev_doIf

theorem ev_execEyeLockKeyTimeout (h_eye : Part.eye ∈ L) (hx : execEyeLockKeyTimeout s = .next t) :
    Evolves L s t := by
  have h : Evolves L s s := ev_refl
  simp only [execEyeLockKeyTimeout, Host.Outcome.next.injEq] at hx
  subst hx
  repeat' first
    | with_reducible assumption
    | intro _
    | with_reducible apply ev_modEye
    | with_reducible apply ev_doIf

theorem ev_execEyeLockBurnDone (h_regs : Part.regs ∈ L) (h_eye : Part.eye ∈ L) (h_otp : Part.otp ∈ L) (hx : execEyeLockBurnDone s = .next t) :
    Evolves L s t := by
  have h : Evolves L s s := ev_refl
  simp only [execEyeLockBurnDone, Host.Outcome.next.injEq] at hx
  subst hx
  repeat' first
    | with_reducible assumption
    | intro _
    | with_reducible apply ev_modEye
    | with_reducible apply ev_modOtp
    | with_reducible apply ev_put
    | with_reducible apply ev_doIf

end Sys2Proof.Machine
end

