-- ==== Sys2Proof/Laws/ExExtract.lean ====
section
/-! SUPPORT. What each command of Machine/Extract.lean may change, and that it keeps the invariant. -/

namespace Sys2Proof.Machine

variable {L : List Part} {s t : State}

theorem ev_execChannelExtractionDone {c : CrateId} {k : ChanId} {ecc : List Ecc} (h_regs : Part.regs ∈ L) (h_bank : Part.bank ∈ L) (h_crates : Part.crates ∈ L) (h_chans : Part.chans ∈ L) (h_host : Part.host ∈ L) (h_saf : Part.saf ∈ L) (h_flt : Part.flt ∈ L) (h_free : Part.free ∈ L) (hx : execChannelExtractionDone c k ecc s = .next t) :
    Evolves L s t := by
  have h : Evolves L s s := ev_refl
  simp only [execChannelExtractionDone, Host.Outcome.next.injEq] at hx
  subst hx
  repeat' first
    | with_reducible assumption
    | intro _
    | with_reducible apply ev_eccReads
    | with_reducible apply ev_endExtraction
    | with_reducible apply ev_stallExtractor
    | with_reducible apply ev_doIf
    | split

theorem ev_execDumpChannel {c : CrateId} {k : ChanId} {ecc : List Ecc} (h_regs : Part.regs ∈ L) (h_bank : Part.bank ∈ L) (h_crates : Part.crates ∈ L) (h_chans : Part.chans ∈ L) (h_host : Part.host ∈ L) (h_flt : Part.flt ∈ L) (hx : execDumpChannel c k ecc s = .next t) :
    Evolves L s t := by
  have h : Evolves L s s := ev_refl
  simp only [execDumpChannel, Host.Outcome.next.injEq] at hx
  subst hx
  repeat' first
    | with_reducible assumption
    | intro _
    | with_reducible apply ev_eccReads
    | with_reducible apply ev_dumpBuf
    | with_reducible apply ev_doIf
    | split

end Sys2Proof.Machine
end

