-- ==== Sys2Proof/Laws/ExFaults.lean ====
section
/-! SUPPORT. What each command of Machine/Faults.lean may change, and that it keeps the invariant. -/

namespace Sys2Proof.Machine

variable {L : List Part} {s t : State}

theorem ev_execStrike (h_regs : Part.regs ∈ L) (h_crates : Part.crates ∈ L) (h_chans : Part.chans ∈ L) (h_chgs : Part.chgs ∈ L) (h_host : Part.host ∈ L) (h_hk : Part.hk ∈ L) (h_flt : Part.flt ∈ L) (h_free : Part.free ∈ L) (hx : execStrike s = .next t) :
    Evolves L s t := by
  have h : Evolves L s s := ev_refl
  simp only [execStrike, Host.Outcome.next.injEq] at hx
  subst hx
  repeat' first
    | with_reducible assumption
    | intro _
    | with_reducible apply ev_strike
    | with_reducible apply ev_doIf
    | split

theorem ev_execFltLogClear {q : Src} {value : Word} (h_regs : Part.regs ∈ L) (h_host : Part.host ∈ L) (h_flt : Part.flt ∈ L) (hx : execFltLogClear q value s = .next t) :
    Evolves L s t := by
  have h : Evolves L s s := ev_refl
  simp only [execFltLogClear, Host.Outcome.next.injEq] at hx
  subst hx
  repeat' first
    | with_reducible assumption
    | intro _
    | with_reducible apply ev_fltCtlWrite
    | with_reducible apply ev_doIf

theorem ev_execFltLogSelect {q : Src} {value : Word} (h_reqs : Part.reqs ∈ L) (hx : execFltLogSelect q value s = .next t) :
    Evolves L s t := by
  have h : Evolves L s s := ev_refl
  simp only [execFltLogSelect, Host.Outcome.next.injEq] at hx
  subst hx
  repeat' first
    | with_reducible assumption
    | intro _
    | with_reducible apply ev_logSelect
    | with_reducible apply ev_doIf

theorem ev_execFltLogRead {q : Src} (h_reqs : Part.reqs ∈ L) (hx : execFltLogRead q s = .next t) :
    Evolves L s t := by
  have h : Evolves L s s := ev_refl
  simp only [execFltLogRead, Host.Outcome.next.injEq] at hx
  subst hx
  repeat' first
    | with_reducible assumption
    | intro _
    | with_reducible apply ev_logRead
    | with_reducible apply ev_doIf

end Sys2Proof.Machine
end

