-- ==== Sys2Proof/Laws/ExFrontEnd.lean ====
section
/-! SUPPORT. What each command of Machine/FrontEnd.lean may change, and that it keeps the invariant. -/

namespace Sys2Proof.Machine

variable {L : List Part} {s t : State}

theorem ev_execFeModeWrite {q : Src} {c : CrateId} {value : Word} (h_regs : Part.regs ∈ L) (h_crates : Part.crates ∈ L) (h_chans : Part.chans ∈ L) (h_host : Part.host ∈ L) (h_flt : Part.flt ∈ L) (hx : execFeModeWrite q c value s = .next t) :
    Evolves L s t := by
  have h : Evolves L s s := ev_refl
  simp only [execFeModeWrite, Host.Outcome.next.injEq] at hx
  subst hx
  repeat' first
    | with_reducible assumption
    | intro _
    | with_reducible apply ev_feModeWrite
    | with_reducible apply ev_doIf

theorem ev_execCrateSettleEnd {c : CrateId} (h_regs : Part.regs ∈ L) (hx : execCrateSettleEnd c s = .next t) :
    Evolves L s t := by
  have h : Evolves L s s := ev_refl
  simp only [execCrateSettleEnd, Host.Outcome.next.injEq] at hx
  subst hx
  repeat' first
    | with_reducible assumption
    | intro _
    | with_reducible apply ev_putB
    | with_reducible apply ev_doIf

theorem ev_execChannelSettleEnd {c : CrateId} {k : ChanId} (h_chans : Part.chans ∈ L) (hx : execChannelSettleEnd c k s = .next t) :
    Evolves L s t := by
  have h : Evolves L s s := ev_refl
  simp only [execChannelSettleEnd, Host.Outcome.next.injEq] at hx
  subst hx
  repeat' first
    | with_reducible assumption
    | intro _
    | with_reducible apply ev_modChan
    | with_reducible apply ev_doIf

theorem ev_execAmbientFrameEnd {means : List AmbientMean} (h_regs : Part.regs ∈ L) (h_chans : Part.chans ∈ L) (h_flt : Part.flt ∈ L) (hx : execAmbientFrameEnd means s = .next t) :
    Evolves L s t := by
  have h : Evolves L s s := ev_refl
  simp only [execAmbientFrameEnd, Host.Outcome.next.injEq] at hx
  subst hx
  repeat' first
    | with_reducible assumption
    | intro _
    | with_reducible apply ev_ambientResult
    | with_reducible apply ev_doIf
    | with_reducible apply ev_forAll

theorem ev_execToneStart {q : Src} {c : CrateId} {value : Word} (h_regs : Part.regs ∈ L) (h_crates : Part.crates ∈ L) (h_chans : Part.chans ∈ L) (h_host : Part.host ∈ L) (h_flt : Part.flt ∈ L) (hx : execToneStart q c value s = .next t) :
    Evolves L s t := by
  have h : Evolves L s s := ev_refl
  simp only [execToneStart, Host.Outcome.next.injEq] at hx
  subst hx
  repeat' first
    | with_reducible assumption
    | intro _
    | with_reducible apply ev_toneWrite
    | with_reducible apply ev_doIf

theorem ev_execToneCheckEnd {c : CrateId} {meas : List ToneMeas} (h_regs : Part.regs ∈ L) (h_crates : Part.crates ∈ L) (h_chans : Part.chans ∈ L) (h_host : Part.host ∈ L) (h_flt : Part.flt ∈ L) (hx : execToneCheckEnd c meas s = .next t) :
    Evolves L s t := by
  have h : Evolves L s s := ev_refl
  simp only [execToneCheckEnd, Host.Outcome.next.injEq] at hx
  subst hx
  repeat' first
    | with_reducible assumption
    | intro _
    | with_reducible apply ev_toneResult
    | with_reducible apply ev_putB
    | with_reducible apply ev_modCrate
    | with_reducible apply ev_showPend
    | with_reducible apply ev_doIf
    | with_reducible apply ev_forAll
    | split

end Sys2Proof.Machine
end

