-- ==== Sys2Proof/Laws/ExHousekeeping.lean ====
section
/-! SUPPORT. What each command of Machine/Housekeeping.lean may change, and that it keeps the invariant. -/

namespace Sys2Proof.Machine

variable {L : List Part} {s t : State}

theorem ev_execHkConvert {ref : CmdRef} (h_regs : Part.regs ∈ L) (h_host : Part.host ∈ L) (h_hk : Part.hk ∈ L) (hx : execHkConvert ref s = .next t) :
    Evolves L s t := by
  have h : Evolves L s s := ev_refl
  simp only [execHkConvert, Host.Outcome.next.injEq] at hx
  subst hx
  repeat' first
    | with_reducible assumption
    | intro _
    | with_reducible apply ev_fail
    | with_reducible apply ev_openCmd
    | with_reducible apply ev_hkRequest
    | with_reducible apply ev_doIf
    | split

theorem ev_execHkCnowGo {q : Src} {value : Word} (h_regs : Part.regs ∈ L) (h_host : Part.host ∈ L) (h_hk : Part.hk ∈ L) (h_flt : Part.flt ∈ L) (hx : execHkCnowGo q value s = .next t) :
    Evolves L s t := by
  have h : Evolves L s s := ev_refl
  simp only [execHkCnowGo, Host.Outcome.next.injEq] at hx
  subst hx
  repeat' first
    | with_reducible assumption
    | intro _
    | with_reducible apply ev_cnowWrite
    | with_reducible apply ev_doIf

theorem ev_execHkConversionEnd {conv : HkConv} (h_regs : Part.regs ∈ L) (h_crates : Part.crates ∈ L) (h_host : Part.host ∈ L) (h_hk : Part.hk ∈ L) (h_flt : Part.flt ∈ L) (h_free : Part.free ∈ L) (hx : execHkConversionEnd conv s = .next t) :
    Evolves L s t := by
  have h : Evolves L s s := ev_refl
  simp only [execHkConversionEnd, Host.Outcome.next.injEq] at hx
  subst hx
  repeat' first
    | with_reducible assumption
    | intro _
    | with_reducible apply ev_hkBoundary
    | with_reducible apply ev_hkConversion
    | with_reducible apply ev_doIf

theorem ev_execHkLeadEnd (h_regs : Part.regs ∈ L) (h_host : Part.host ∈ L) (h_hk : Part.hk ∈ L) (hx : execHkLeadEnd s = .next t) :
    Evolves L s t := by
  have h : Evolves L s s := ev_refl
  simp only [execHkLeadEnd, Host.Outcome.next.injEq] at hx
  subst hx
  repeat' first
    | with_reducible assumption
    | intro _
    | with_reducible apply ev_hkRun
    | with_reducible apply ev_hkAbandon
    | with_reducible apply ev_hkFrom
    | with_reducible apply ev_hkBegin
    | with_reducible apply ev_doIf
    | split

theorem ev_execHkToneCheckEnd {z : Nat} (h_regs : Part.regs ∈ L) (h_crates : Part.crates ∈ L) (h_host : Part.host ∈ L) (h_hk : Part.hk ∈ L) (hx : execHkToneCheckEnd z s = .next t) :
    Evolves L s t := by
  have h : Evolves L s s := ev_refl
  simp only [execHkToneCheckEnd, Host.Outcome.next.injEq] at hx
  subst hx
  repeat' first
    | with_reducible assumption
    | intro _
    | with_reducible apply ev_hkThen
    | with_reducible apply ev_modHk
    | with_reducible apply ev_setReg
    | with_reducible apply ev_resultWritten
    | with_reducible apply ev_doIf
    | split
    | (show _ = true; first | assumption | rfl)
    | (rename_i hw; exact sparseWf_set _ _ hw)

theorem ev_execItempConversionEnd {temp : Int} (h_regs : Part.regs ∈ L) (h_hk : Part.hk ∈ L) (hx : execItempConversionEnd temp s = .next t) :
    Evolves L s t := by
  have h : Evolves L s s := ev_refl
  simp only [execItempConversionEnd, Host.Outcome.next.injEq] at hx
  subst hx
  repeat' first
    | with_reducible assumption
    | intro _
    | with_reducible apply ev_putInt
    | with_reducible apply ev_putB
    | with_reducible apply ev_modHk
    | with_reducible apply ev_doIf
    | (show _ = true; first | assumption | rfl)
    | (rename_i hw; exact sparseWf_set _ _ hw)

theorem ev_execDacReadbackDue (h_regs : Part.regs ∈ L) (h_host : Part.host ∈ L) (h_hk : Part.hk ∈ L) (hx : execDacReadbackDue s = .next t) :
    Evolves L s t := by
  have h : Evolves L s s := ev_refl
  simp only [execDacReadbackDue, Host.Outcome.next.injEq] at hx
  subst hx
  repeat' first
    | with_reducible assumption
    | intro _
    | with_reducible apply ev_hkRequest
    | with_reducible apply ev_doIf
    | split

theorem ev_execDacReadbackDone {code : Int} (h_regs : Part.regs ∈ L) (h_host : Part.host ∈ L) (h_hk : Part.hk ∈ L) (h_flt : Part.flt ∈ L) (hx : execDacReadbackDone code s = .next t) :
    Evolves L s t := by
  have h : Evolves L s s := ev_refl
  simp only [execDacReadbackDone, Host.Outcome.next.injEq] at hx
  subst hx
  repeat' first
    | with_reducible assumption
    | intro _
    | with_reducible apply ev_hkBoundary
    | with_reducible apply ev_judgeReadback
    | with_reducible apply ev_bump
    | with_reducible apply ev_hkRun
    | with_reducible apply ev_doIf
    | split

theorem ev_execHkRestart {q : Src} (h_regs : Part.regs ∈ L) (h_hk : Part.hk ∈ L) (hx : execHkRestart q s = .next t) :
    Evolves L s t := by
  have h : Evolves L s s := ev_refl
  simp only [execHkRestart, Host.Outcome.next.injEq] at hx
  subst hx
  repeat' first
    | with_reducible assumption
    | intro _
    | with_reducible apply ev_hkAskRestart
    | with_reducible apply ev_doIf

theorem ev_execHkSyncEdge {falling : Bool} (h_regs : Part.regs ∈ L) (h_hk : Part.hk ∈ L) (hx : execHkSyncEdge falling s = .next t) :
    Evolves L s t := by
  have h : Evolves L s s := ev_refl
  simp only [execHkSyncEdge, Host.Outcome.next.injEq] at hx
  subst hx
  repeat' first
    | with_reducible assumption
    | intro _
    | with_reducible apply ev_hkAskRestart
    | with_reducible apply ev_doIf

theorem ev_execHkReset {q : Src} (h_regs : Part.regs ∈ L) (h_crates : Part.crates ∈ L) (h_host : Part.host ∈ L) (h_hk : Part.hk ∈ L) (hx : execHkReset q s = .next t) :
    Evolves L s t := by
  have h : Evolves L s s := ev_refl
  simp only [execHkReset, Host.Outcome.next.injEq] at hx
  subst hx
  repeat' first
    | with_reducible assumption
    | intro _
    | with_reducible apply ev_hkResetBank
    | with_reducible apply ev_doIf

theorem ev_execHkResetDone (h_regs : Part.regs ∈ L) (h_host : Part.host ∈ L) (h_hk : Part.hk ∈ L) (hx : execHkResetDone s = .next t) :
    Evolves L s t := by
  have h : Evolves L s s := ev_refl
  simp only [execHkResetDone, Host.Outcome.next.injEq] at hx
  subst hx
  repeat' first
    | with_reducible assumption
    | intro _
    | with_reducible apply ev_hkStart
    | with_reducible apply ev_doIf

theorem ev_execHousekeepingReady (h_regs : Part.regs ∈ L) (h_host : Part.host ∈ L) (h_hk : Part.hk ∈ L) (hx : execHousekeepingReady s = .next t) :
    Evolves L s t := by
  have h : Evolves L s s := ev_refl
  simp only [execHousekeepingReady, Host.Outcome.next.injEq] at hx
  subst hx
  repeat' first
    | with_reducible assumption
    | intro _
    | with_reducible apply ev_hkStart
    | with_reducible apply ev_doIf

theorem ev_execHkResultRead {q : Src} {j : HkId} (h_reqs : Part.reqs ∈ L) (hx : execHkResultRead q j s = .next t) :
    Evolves L s t := by
  have h : Evolves L s s := ev_refl
  simp only [execHkResultRead, Host.Outcome.next.injEq] at hx
  subst hx
  repeat' first
    | with_reducible assumption
    | intro _
    | with_reducible apply ev_hkResultRead
    | with_reducible apply ev_doIf

end Sys2Proof.Machine
end

