-- ==== Sys2Proof/Laws/ExLinks.lean ====
section
/-! SUPPORT. What each command of Machine/Links.lean may change, and that it keeps the invariant. -/

namespace Sys2Proof.Machine

variable {L : List Part} {s t : State}

theorem ev_execFunctionLevelReset {f : Func} (h_regs : Part.regs ∈ L) (h_bank : Part.bank ∈ L) (h_crates : Part.crates ∈ L) (h_chans : Part.chans ∈ L) (h_shot : Part.shot ∈ L) (h_host : Part.host ∈ L) (h_rings : Part.rings ∈ L) (h_saf : Part.saf ∈ L) (h_flt : Part.flt ∈ L) (hx : execFunctionLevelReset f s = .next t) :
    Evolves L s t := by
  have h : Evolves L s s := ev_refl
  simp only [execFunctionLevelReset, Host.Outcome.next.injEq] at hx
  subst hx
  repeat' first
    | with_reducible assumption
    | intro _
    | with_reducible apply ev_bump
    | with_reducible apply ev_functionReset
    | with_reducible apply ev_doIf

theorem ev_execPerstN (h_regs : Part.regs ∈ L) (h_bank : Part.bank ∈ L) (h_crates : Part.crates ∈ L) (h_chans : Part.chans ∈ L) (h_shot : Part.shot ∈ L) (h_host : Part.host ∈ L) (h_rings : Part.rings ∈ L) (h_saf : Part.saf ∈ L) (h_flt : Part.flt ∈ L) (hx : execPerstN s = .next t) :
    Evolves L s t := by
  have h : Evolves L s s := ev_refl
  simp only [execPerstN, Host.Outcome.next.injEq] at hx
  subst hx
  repeat' first
    | with_reducible assumption
    | intro _
    | with_reducible apply ev_linkReset
    | with_reducible apply ev_doIf

end Sys2Proof.Machine
end

