-- ==== Sys2Proof/Laws/ExMotor.lean ====
section
/-! SUPPORT. What each command of Machine/Motor.lean may change, and that it keeps the invariant. -/

namespace Sys2Proof.Machine

variable {L : List Part} {s t : State}

theorem ev_execHallCodeChange {code : BitVec 3} {held : Nat} (h_regs : Part.regs ∈ L) (h_motor : Part.motor ∈ L) (h_host : Part.host ∈ L) (hx : execHallCodeChange code held s = .next t) :
    Evolves L s t := by
  have h : Evolves L s s := ev_refl
  simp only [execHallCodeChange, Host.Outcome.next.injEq] at hx
  subst hx
  repeat' first
    | with_reducible assumption
    | intro _
    | with_reducible apply ev_hallAccept
    | with_reducible apply ev_refreshMotor
    | with_reducible apply ev_motorEvents
    | with_reducible apply ev_doIf

theorem ev_execIndexEdge {level : Bool} {held : Nat} (h_regs : Part.regs ∈ L) (h_motor : Part.motor ∈ L) (h_host : Part.host ∈ L) (hx : execIndexEdge level held s = .next t) :
    Evolves L s t := by
  have h : Evolves L s s := ev_refl
  simp only [execIndexEdge, Host.Outcome.next.injEq] at hx
  subst hx
  repeat' first
    | with_reducible assumption
    | intro _
    | with_reducible apply ev_idxAccept
    | with_reducible apply ev_indexAlign
    | with_reducible apply ev_refreshMotor
    | with_reducible apply ev_motorEvents
    | with_reducible apply ev_doIf
    | split

theorem ev_execFrameSyncEdge {level : Bool} {held : Nat} (h_regs : Part.regs ∈ L) (h_motor : Part.motor ∈ L) (h_host : Part.host ∈ L) (hx : execFrameSyncEdge level held s = .next t) :
    Evolves L s t := by
  have h : Evolves L s s := ev_refl
  simp only [execFrameSyncEdge, Host.Outcome.next.injEq] at hx
  subst hx
  repeat' first
    | with_reducible assumption
    | intro _
    | with_reducible apply ev_idxAccept
    | with_reducible apply ev_fsyncAlign
    | with_reducible apply ev_refreshMotor
    | with_reducible apply ev_motorEvents
    | with_reducible apply ev_doIf
    | split

theorem ev_execIndexMissing (h_regs : Part.regs ∈ L) (h_motor : Part.motor ∈ L) (h_host : Part.host ∈ L) (hx : execIndexMissing s = .next t) :
    Evolves L s t := by
  have h : Evolves L s s := ev_refl
  simp only [execIndexMissing, Host.Outcome.next.injEq] at hx
  subst hx
  repeat' first
    | with_reducible assumption
    | intro _
    | with_reducible apply ev_bump
    | with_reducible apply ev_motorEvents
    | with_reducible apply ev_modMotor
    | with_reducible apply ev_doIf

theorem ev_execStandstillTimeout (h_regs : Part.regs ∈ L) (h_motor : Part.motor ∈ L) (h_host : Part.host ∈ L) (hx : execStandstillTimeout s = .next t) :
    Evolves L s t := by
  have h : Evolves L s s := ev_refl
  simp only [execStandstillTimeout, Host.Outcome.next.injEq] at hx
  subst hx
  repeat' first
    | with_reducible assumption
    | intro _
    | with_reducible apply ev_put
    | with_reducible apply ev_modMotor
    | with_reducible apply ev_bump
    | with_reducible apply ev_refreshMotor
    | with_reducible apply ev_motorEvents
    | with_reducible apply ev_doIf

theorem ev_execSerrPwmPeriod (h_regs : Part.regs ∈ L) (hx : execSerrPwmPeriod s = .next t) :
    Evolves L s t := by
  have h : Evolves L s s := ev_refl
  simp only [execSerrPwmPeriod, Host.Outcome.next.injEq] at hx
  subst hx
  repeat' first
    | with_reducible assumption
    | intro _
    | with_reducible apply ev_put
    | with_reducible apply ev_doIf

theorem ev_execMotCfgWrite {q : Src} {value : Word} (h_regs : Part.regs ∈ L) (h_motor : Part.motor ∈ L) (h_host : Part.host ∈ L) (h_flt : Part.flt ∈ L) (hx : execMotCfgWrite q value s = .next t) :
    Evolves L s t := by
  have h : Evolves L s s := ev_refl
  simp only [execMotCfgWrite, Host.Outcome.next.injEq] at hx
  subst hx
  repeat' first
    | with_reducible assumption
    | intro _
    | with_reducible apply ev_motCfgWrite
    | with_reducible apply ev_doIf

theorem ev_execMotStatusRead {q : Src} (h_reqs : Part.reqs ∈ L) (hx : execMotStatusRead q s = .next t) :
    Evolves L s t := by
  have h : Evolves L s s := ev_refl
  simp only [execMotStatusRead, Host.Outcome.next.injEq] at hx
  subst hx
  repeat' first
    | with_reducible assumption
    | intro _
    | with_reducible apply ev_motStatusRead
    | with_reducible apply ev_doIf

end Sys2Proof.Machine
end

