-- ==== Sys2Proof/Laws/ExPairs.lean ====
section
/-! SUPPORT. What each command of Machine/Pairs.lean may change, and that it keeps the invariant. -/

namespace Sys2Proof.Machine

variable {L : List Part} {s t : State}

theorem ev_execSafetySample {pins : SafPins} (h_regs : Part.regs ∈ L) (h_host : Part.host ∈ L) (h_saf : Part.saf ∈ L) (h_flt : Part.flt ∈ L) (h_free : Part.free ∈ L) (hx : execSafetySample pins s = .next t) :
    Evolves L s t := by
  have h : Evolves L s s := ev_refl
  simp only [execSafetySample, Host.Outcome.next.injEq] at hx
  subst hx
  repeat' first
    | with_reducible assumption
    | intro _
    | with_reducible apply ev_samplePair
    | with_reducible apply ev_sampleGate
    | with_reducible apply ev_sampleSrst
    | with_reducible apply ev_sampleOut
    | with_reducible apply ev_nextPulse
    | with_reducible apply ev_sampleLen
    | with_reducible apply ev_showLen
    | with_reducible apply ev_modSto
    | with_reducible apply ev_modSaf
    | with_reducible apply ev_doIf
    | with_reducible apply ev_forAll
    | (show _ = true; first | assumption | rfl)
    | (rename_i hw; rw [Saf.wf_iff] at hw ⊢; obtain ⟨wa, wb, wc, wd, we, wg⟩ := hw; refine ⟨?_, ?_, ?_, ?_, ?_, ?_⟩ <;> first | assumption | rfl | (exact sparseWf_set _ _ (by assumption)))

theorem ev_execTestPulse {n : StoId} {begins : Bool} (h_regs : Part.regs ∈ L) (h_host : Part.host ∈ L) (h_saf : Part.saf ∈ L) (hx : execTestPulse n begins s = .next t) :
    Evolves L s t := by
  have h : Evolves L s s := ev_refl
  simp only [execTestPulse, Host.Outcome.next.injEq] at hx
  subst hx
  repeat' first
    | with_reducible assumption
    | intro _
    | with_reducible apply ev_modSto
    | with_reducible apply ev_showLen
    | with_reducible apply ev_endTestPulse
    | with_reducible apply ev_doIf
    | split

theorem ev_execCurtainIgnoreEnd {i : PairId} {chB : Bool} (h_saf : Part.saf ∈ L) (hx : execCurtainIgnoreEnd i chB s = .next t) :
    Evolves L s t := by
  have h : Evolves L s s := ev_refl
  simp only [execCurtainIgnoreEnd, Host.Outcome.next.injEq] at hx
  subst hx
  repeat' first
    | with_reducible assumption
    | intro _
    | with_reducible apply ev_modPair
    | with_reducible apply ev_doIf
    | split

theorem ev_execCurtainPulseTimeout {i : PairId} {chB : Bool} (h_saf : Part.saf ∈ L) (hx : execCurtainPulseTimeout i chB s = .next t) :
    Evolves L s t := by
  have h : Evolves L s s := ev_refl
  simp only [execCurtainPulseTimeout, Host.Outcome.next.injEq] at hx
  subst hx
  repeat' first
    | with_reducible assumption
    | intro _
    | with_reducible apply ev_modPair
    | with_reducible apply ev_doIf
    | split

theorem ev_execPairStartupDone {i : PairId} (h_regs : Part.regs ∈ L) (hx : execPairStartupDone i s = .next t) :
    Evolves L s t := by
  have h : Evolves L s s := ev_refl
  simp only [execPairStartupDone, Host.Outcome.next.injEq] at hx
  subst hx
  repeat' first
    | with_reducible assumption
    | intro _
    | with_reducible apply ev_letIn
    | with_reducible apply ev_doIf

theorem ev_execDiscrepancyTimeout {i : PairId} (h_regs : Part.regs ∈ L) (h_host : Part.host ∈ L) (h_saf : Part.saf ∈ L) (h_flt : Part.flt ∈ L) (h_free : Part.free ∈ L) (hx : execDiscrepancyTimeout i s = .next t) :
    Evolves L s t := by
  have h : Evolves L s s := ev_refl
  simp only [execDiscrepancyTimeout, Host.Outcome.next.injEq] at hx
  subst hx
  repeat' first
    | with_reducible assumption
    | intro _
    | with_reducible apply ev_modPair
    | with_reducible apply ev_pairFault
    | with_reducible apply ev_doIf

theorem ev_execSrstRelease (h_regs : Part.regs ∈ L) (hx : execSrstRelease s = .next t) :
    Evolves L s t := by
  have h : Evolves L s s := ev_refl
  simp only [execSrstRelease, Host.Outcome.next.injEq] at hx
  subst hx
  repeat' first
    | with_reducible assumption
    | intro _
    | with_reducible apply ev_put
    | with_reducible apply ev_doIf
    | with_reducible apply ev_forAll

theorem ev_execSafPairReset {q : Src} {pairs : BitVec 8} (h_regs : Part.regs ∈ L) (h_host : Part.host ∈ L) (h_saf : Part.saf ∈ L) (h_flt : Part.flt ∈ L) (hx : execSafPairReset q pairs s = .next t) :
    Evolves L s t := by
  have h : Evolves L s s := ev_refl
  simp only [execSafPairReset, Host.Outcome.next.injEq] at hx
  subst hx
  repeat' first
    | with_reducible assumption
    | intro _
    | with_reducible apply ev_safWrite
    | with_reducible apply ev_askReset

end Sys2Proof.Machine
end

