-- ==== Sys2Proof/Laws/ExRegisters.lean ====
section
/-! SUPPORT. What each command of Machine/Registers.lean may change, and that it keeps the invariant. -/

namespace Sys2Proof.Machine

variable {L : List Part} {s t : State}

theorem ev_execRegisterWrite {q : Src} {addr : BitVec 20} {size : Nat} {value : Word} (h_regs : Part.regs ∈ L) (h_bank : Part.bank ∈ L) (h_crates : Part.crates ∈ L) (h_chans : Part.chans ∈ L) (h_slices : Part.slices ∈ L) (h_eye : Part.eye ∈ L) (h_motor : Part.motor ∈ L) (h_host : Part.host ∈ L) (h_reqs : Part.reqs ∈ L) (h_hk : Part.hk ∈ L) (h_saf : Part.saf ∈ L) (h_flt : Part.flt ∈ L) (h_free : Part.free ∈ L) (hx : execRegisterWrite q addr size value s = .next t) :
    Evolves L s t := by
  have h : Evolves L s s := ev_refl
  simp only [execRegisterWrite, Host.Outcome.next.injEq] at hx
  subst hx
  repeat' first
    | with_reducible assumption
    | intro _
    | with_reducible apply ev_log
    | with_reducible apply ev_busWrite
    | with_reducible apply ev_doIf
    | split

theorem ev_execGlbDiagPageWrite {q : Src} {value : Word} (h_reqs : Part.reqs ∈ L) (hx : execGlbDiagPageWrite q value s = .next t) :
    Evolves L s t := by
  have h : Evolves L s s := ev_refl
  simp only [execGlbDiagPageWrite, Host.Outcome.next.injEq] at hx
  subst hx
  repeat' first
    | with_reducible assumption
    | intro _
    | with_reducible apply ev_pageWrite
    | with_reducible apply ev_doIf

theorem ev_execDiagWindowRead {q : Src} {x : ReadAccess} (h_regs : Part.regs ∈ L) (h_chans : Part.chans ∈ L) (h_host : Part.host ∈ L) (h_reqs : Part.reqs ∈ L) (h_flt : Part.flt ∈ L) (hx : execDiagWindowRead q x s = .next t) :
    Evolves L s t := by
  have h : Evolves L s s := ev_refl
  simp only [execDiagWindowRead, Host.Outcome.next.injEq] at hx
  subst hx
  repeat' first
    | with_reducible assumption
    | intro _
    | with_reducible apply ev_sizedRead
    | with_reducible apply ev_diagRead
    | with_reducible apply ev_doIf

theorem ev_execEventQueueRead {q : Src} (h_regs : Part.regs ∈ L) (h_host : Part.host ∈ L) (h_reqs : Part.reqs ∈ L) (hx : execEventQueueRead q s = .next t) :
    Evolves L s t := by
  have h : Evolves L s s := ev_refl
  simp only [execEventQueueRead, Host.Outcome.next.injEq] at hx
  subst hx
  repeat' first
    | with_reducible assumption
    | intro _
    | with_reducible apply ev_evqRead
    | with_reducible apply ev_doIf

theorem ev_execLoRegisterRead {q : Src} {x : ReadAccess} (h_regs : Part.regs ∈ L) (h_chans : Part.chans ∈ L) (h_host : Part.host ∈ L) (h_reqs : Part.reqs ∈ L) (h_flt : Part.flt ∈ L) (hx : execLoRegisterRead q x s = .next t) :
    Evolves L s t := by
  have h : Evolves L s s := ev_refl
  simp only [execLoRegisterRead, Host.Outcome.next.injEq] at hx
  subst hx
  repeat' first
    | with_reducible assumption
    | intro _
    | with_reducible apply ev_sizedRead
    | with_reducible apply ev_busRead
    | with_reducible apply ev_doIf

theorem ev_execRcFieldRead {q : Src} {x : ReadAccess} (h_regs : Part.regs ∈ L) (h_chans : Part.chans ∈ L) (h_host : Part.host ∈ L) (h_reqs : Part.reqs ∈ L) (h_flt : Part.flt ∈ L) (hx : execRcFieldRead q x s = .next t) :
    Evolves L s t := by
  have h : Evolves L s s := ev_refl
  simp only [execRcFieldRead, Host.Outcome.next.injEq] at hx
  subst hx
  repeat' first
    | with_reducible assumption
    | intro _
    | with_reducible apply ev_sizedRead
    | with_reducible apply ev_busRead
    | with_reducible apply ev_doIf

theorem ev_execSpiWriteFrame {bytes : List Byte} (h_regs : Part.regs ∈ L) (h_bank : Part.bank ∈ L) (h_crates : Part.crates ∈ L) (h_chans : Part.chans ∈ L) (h_slices : Part.slices ∈ L) (h_eye : Part.eye ∈ L) (h_motor : Part.motor ∈ L) (h_host : Part.host ∈ L) (h_reqs : Part.reqs ∈ L) (h_hk : Part.hk ∈ L) (h_saf : Part.saf ∈ L) (h_flt : Part.flt ∈ L) (h_free : Part.free ∈ L) (hx : execSpiWriteFrame bytes s = .next t) :
    Evolves L s t := by
  have h : Evolves L s s := ev_refl
  simp only [execSpiWriteFrame, Host.Outcome.next.injEq] at hx
  subst hx
  repeat' first
    | with_reducible assumption
    | intro _
    | with_reducible apply ev_spiWrite
    | with_reducible apply ev_spiStatus
    | with_reducible apply ev_doIf
    | split

theorem ev_execSpiReadFrame {bytes : List Byte} {answer : FabricAnswer} (h_regs : Part.regs ∈ L) (h_chans : Part.chans ∈ L) (h_host : Part.host ∈ L) (h_reqs : Part.reqs ∈ L) (h_flt : Part.flt ∈ L) (h_free : Part.free ∈ L) (hx : execSpiReadFrame bytes answer s = .next t) :
    Evolves L s t := by
  have h : Evolves L s s := ev_refl
  simp only [execSpiReadFrame, Host.Outcome.next.injEq] at hx
  subst hx
  repeat' first
    | with_reducible assumption
    | intro _
    | with_reducible apply ev_spiRead
    | with_reducible apply ev_spiStatus
    | with_reducible apply ev_doIf
    | split

theorem ev_execSpiFrameAbort (h_regs : Part.regs ∈ L) (h_host : Part.host ∈ L) (hx : execSpiFrameAbort s = .next t) :
    Evolves L s t := by
  have h : Evolves L s s := ev_refl
  simp only [execSpiFrameAbort, Host.Outcome.next.injEq] at hx
  subst hx
  repeat' first
    | with_reducible assumption
    | intro _
    | with_reducible apply ev_spiAbort
    | with_reducible apply ev_doIf

end Sys2Proof.Machine
end

