-- ==== Sys2Proof/Laws/ExReject.lean ====
section
/-! SUPPORT. What each command of Machine/Reject.lean may change, and that it keeps the invariant. -/

namespace Sys2Proof.Machine

variable {L : List Part} {s t : State}

theorem ev_execSkimmerFrameProcess (h_regs : Part.regs ∈ L) (h_crates : Part.crates ∈ L) (h_chans : Part.chans ∈ L) (h_host : Part.host ∈ L) (hx : execSkimmerFrameProcess s = .next t) :
    Evolves L s t := by
  have h : Evolves L s s := ev_refl
  simp only [execSkimmerFrameProcess, Host.Outcome.next.injEq] at hx
  subst hx
  repeat' first
    | with_reducible assumption
    | intro _
    | with_reducible apply ev_skimChannel
    | with_reducible apply ev_takeAmbient
    | with_reducible apply ev_settingsStrobe
    | with_reducible apply ev_doIf
    | with_reducible apply ev_forAll

end Sys2Proof.Machine
end

