-- ==== Sys2Proof/Laws/ExRings.lean ====
section
/-! SUPPORT. What each command of Machine/Rings.lean may change, and that it keeps the invariant. -/

namespace Sys2Proof.Machine

variable {L : List Part} {s t : State}

theorem ev_execDoorbellEnable {f : Func} {r : RingId} {index : Word} {arm : Bool} (h_regs : Part.regs ∈ L) (h_hostMem : Part.hostMem ∈ L) (h_host : Part.host ∈ L) (h_rings : Part.rings ∈ L) (h_free : Part.free ∈ L) (hx : execDoorbellEnable f r index arm s = .next t) :
    Evolves L s t := by
  have h : Evolves L s s := ev_refl
  simp only [execDoorbellEnable, Host.Outcome.next.injEq] at hx
  subst hx
  repeat' first
    | with_reducible assumption
    | intro _
    | with_reducible apply ev_bell
    | with_reducible apply ev_doIf

theorem ev_execDoorbellDisable {f : Func} {r : RingId} {index : Word} {arm : Bool} (h_regs : Part.regs ∈ L) (h_hostMem : Part.hostMem ∈ L) (h_host : Part.host ∈ L) (h_rings : Part.rings ∈ L) (h_free : Part.free ∈ L) (hx : execDoorbellDisable f r index arm s = .next t) :
    Evolves L s t := by
  have h : Evolves L s s := ev_refl
  simp only [execDoorbellDisable, Host.Outcome.next.injEq] at hx
  subst hx
  repeat' first
    | with_reducible assumption
    | intro _
    | with_reducible apply ev_bell
    | with_reducible apply ev_doIf

theorem ev_execDoorbellReload {f : Func} {r : RingId} {index : Word} {arm : Bool} (h_regs : Part.regs ∈ L) (h_hostMem : Part.hostMem ∈ L) (h_host : Part.host ∈ L) (h_rings : Part.rings ∈ L) (h_free : Part.free ∈ L) (hx : execDoorbellReload f r index arm s = .next t) :
    Evolves L s t := by
  have h : Evolves L s s := ev_refl
  simp only [execDoorbellReload, Host.Outcome.next.injEq] at hx
  subst hx
  repeat' first
    | with_reducible assumption
    | intro _
    | with_reducible apply ev_bell
    | with_reducible apply ev_doIf

theorem ev_execDoorbellArm {f : Func} {r : RingId} {index : Word} (h_regs : Part.regs ∈ L) (h_hostMem : Part.hostMem ∈ L) (h_host : Part.host ∈ L) (h_rings : Part.rings ∈ L) (h_free : Part.free ∈ L) (hx : execDoorbellArm f r index s = .next t) :
    Evolves L s t := by
  have h : Evolves L s s := ev_refl
  simp only [execDoorbellArm, Host.Outcome.next.injEq] at hx
  subst hx
  repeat' first
    | with_reducible assumption
    | intro _
    | with_reducible apply ev_bell
    | with_reducible apply ev_doIf

theorem ev_execDoorbellIndex {f : Func} {r : RingId} {index : Word} (h_regs : Part.regs ∈ L) (h_hostMem : Part.hostMem ∈ L) (h_host : Part.host ∈ L) (h_rings : Part.rings ∈ L) (h_free : Part.free ∈ L) (hx : execDoorbellIndex f r index s = .next t) :
    Evolves L s t := by
  have h : Evolves L s s := ev_refl
  simp only [execDoorbellIndex, Host.Outcome.next.injEq] at hx
  subst hx
  repeat' first
    | with_reducible assumption
    | intro _
    | with_reducible apply ev_bell
    | with_reducible apply ev_doIf

theorem ev_execBar2BadWrite {f : Func} (h_regs : Part.regs ∈ L) (hx : execBar2BadWrite f s = .next t) :
    Evolves L s t := by
  have h : Evolves L s s := ev_refl
  simp only [execBar2BadWrite, Host.Outcome.next.injEq] at hx
  subst hx
  repeat' first
    | with_reducible assumption
    | intro _
    | with_reducible apply ev_badBell
    | with_reducible apply ev_doIf

theorem ev_execContextFetchDone {r : RingId} (h_regs : Part.regs ∈ L) (h_hostMem : Part.hostMem ∈ L) (h_host : Part.host ∈ L) (h_rings : Part.rings ∈ L) (h_free : Part.free ∈ L) (hx : execContextFetchDone r s = .next t) :
    Evolves L s t := by
  have h : Evolves L s s := ev_refl
  simp only [execContextFetchDone, Host.Outcome.next.injEq] at hx
  subst hx
  repeat' first
    | with_reducible assumption
    | intro _
    | with_reducible apply ev_ctxArrives
    | with_reducible apply ev_doIf

theorem ev_execRingDrainDone {r : RingId} (h_regs : Part.regs ∈ L) (h_hostMem : Part.hostMem ∈ L) (h_host : Part.host ∈ L) (h_rings : Part.rings ∈ L) (h_free : Part.free ∈ L) (hx : execRingDrainDone r s = .next t) :
    Evolves L s t := by
  have h : Evolves L s s := ev_refl
  simp only [execRingDrainDone, Host.Outcome.next.injEq] at hx
  subst hx
  repeat' first
    | with_reducible assumption
    | intro _
    | with_reducible apply ev_fetchAgain
    | with_reducible apply ev_touchHit
    | with_reducible apply ev_ringDisabled
    | with_reducible apply ev_doIf
    | split

theorem ev_execRecordWrite (h_regs : Part.regs ∈ L) (h_hostMem : Part.hostMem ∈ L) (h_host : Part.host ∈ L) (h_rings : Part.rings ∈ L) (h_free : Part.free ∈ L) (hx : execRecordWrite s = .next t) :
    Evolves L s t := by
  have h : Evolves L s s := ev_refl
  simp only [execRecordWrite, Host.Outcome.next.injEq] at hx
  subst hx
  repeat' first
    | with_reducible assumption
    | intro _
    | with_reducible apply ev_recordWrite
    | with_reducible apply ev_doIf

theorem ev_execRingLoss {r : RingId} (h_regs : Part.regs ∈ L) (h_hostMem : Part.hostMem ∈ L) (h_host : Part.host ∈ L) (h_rings : Part.rings ∈ L) (h_free : Part.free ∈ L) (hx : execRingLoss r s = .next t) :
    Evolves L s t := by
  have h : Evolves L s s := ev_refl
  simp only [execRingLoss, Host.Outcome.next.injEq] at hx
  subst hx
  repeat' first
    | with_reducible assumption
    | intro _
    | with_reducible apply ev_fetchAgain
    | with_reducible apply ev_touchHit
    | with_reducible apply ev_modRing
    | with_reducible apply ev_queueEvent
    | with_reducible apply ev_ringWrite
    | with_reducible apply ev_ringDiscard
    | with_reducible apply ev_lossNowhere
    | with_reducible apply ev_doIf
    | split

theorem ev_execWriteBack {r : RingId} (h_regs : Part.regs ∈ L) (h_hostMem : Part.hostMem ∈ L) (h_host : Part.host ∈ L) (h_rings : Part.rings ∈ L) (h_free : Part.free ∈ L) (hx : execWriteBack r s = .next t) :
    Evolves L s t := by
  have h : Evolves L s s := ev_refl
  simp only [execWriteBack, Host.Outcome.next.injEq] at hx
  subst hx
  repeat' first
    | with_reducible assumption
    | intro _
    | with_reducible apply ev_fetchAgain
    | with_reducible apply ev_touchHit
    | with_reducible apply ev_writeBack
    | with_reducible apply ev_doIf
    | split

theorem ev_execInterruptSend {r : RingId} (h_regs : Part.regs ∈ L) (h_hostMem : Part.hostMem ∈ L) (h_host : Part.host ∈ L) (h_rings : Part.rings ∈ L) (h_free : Part.free ∈ L) (hx : execInterruptSend r s = .next t) :
    Evolves L s t := by
  have h : Evolves L s s := ev_refl
  simp only [execInterruptSend, Host.Outcome.next.injEq] at hx
  subst hx
  repeat' first
    | with_reducible assumption
    | intro _
    | with_reducible apply ev_sendIrq
    | with_reducible apply ev_doIf

theorem ev_execMsixTableWrite {f : Func} {v : BitVec 11} {entry : MsixEntry} (h_host : Part.host ∈ L) (hx : execMsixTableWrite f v entry s = .next t) :
    Evolves L s t := by
  have h : Evolves L s s := ev_refl
  simp only [execMsixTableWrite, Host.Outcome.next.injEq] at hx
  subst hx
  repeat' first
    | with_reducible assumption
    | intro _
    | with_reducible apply ev_setFn
    | with_reducible apply ev_sendPending
    | with_reducible apply ev_doIf
    | exact fn_msix_wf (by assumption) _
    | (show sparseWf _ _ = true; rfl)
    | exact sparseWf_set _ _ (fn_msix_wf (by assumption) _)

theorem ev_execHostLinkUp {width : BitVec 4} {speed : BitVec 4} (h_regs : Part.regs ∈ L) (h_host : Part.host ∈ L) (hx : execHostLinkUp width speed s = .next t) :
    Evolves L s t := by
  have h : Evolves L s s := ev_refl
  simp only [execHostLinkUp, Host.Outcome.next.injEq] at hx
  subst hx
  repeat' first
    | with_reducible assumption
    | intro _
    | with_reducible apply ev_putB
    | with_reducible apply ev_put
    | with_reducible apply ev_setReady
    | with_reducible apply ev_showFn
    | with_reducible apply ev_issueReads
    | with_reducible apply ev_doIf

theorem ev_execLinkDown (h_regs : Part.regs ∈ L) (h_host : Part.host ∈ L) (hx : execLinkDown s = .next t) :
    Evolves L s t := by
  have h : Evolves L s s := ev_refl
  simp only [execLinkDown, Host.Outcome.next.injEq] at hx
  subst hx
  repeat' first
    | with_reducible assumption
    | intro _
    | with_reducible apply ev_putB
    | with_reducible apply ev_put
    | with_reducible apply ev_setReady
    | with_reducible apply ev_showFn
    | with_reducible apply ev_doIf

theorem ev_execConfigSpaceWrite {f : Func} {cfg : CfgSpace} (h_regs : Part.regs ∈ L) (h_host : Part.host ∈ L) (hx : execConfigSpaceWrite f cfg s = .next t) :
    Evolves L s t := by
  have h : Evolves L s s := ev_refl
  simp only [execConfigSpaceWrite, Host.Outcome.next.injEq] at hx
  subst hx
  repeat' first
    | with_reducible assumption
    | intro _
    | with_reducible apply ev_setFn
    | with_reducible apply ev_showFn
    | with_reducible apply ev_sendPending
    | with_reducible apply ev_issueReads
    | with_reducible apply ev_doIf
    | exact fn_msix_wf (by assumption) _
    | (show sparseWf _ _ = true; rfl)
    | exact sparseWf_set _ _ (fn_msix_wf (by assumption) _)

end Sys2Proof.Machine
end

