-- ==== Sys2Proof/Laws/ExSafOut.lean ====
section
/-! SUPPORT. What each command of Machine/SafOut.lean may change, and that it keeps the invariant. -/

namespace Sys2Proof.Machine

variable {L : List Part} {s t : State}

theorem ev_execOutputReadbackTimeout {o : OutId} (h_regs : Part.regs ∈ L) (h_host : Part.host ∈ L) (h_saf : Part.saf ∈ L) (h_flt : Part.flt ∈ L) (h_free : Part.free ∈ L) (hx : execOutputReadbackTimeout o s = .next t) :
    Evolves L s t := by
  have h : Evolves L s s := ev_refl
  simp only [execOutputReadbackTimeout, Host.Outcome.next.injEq] at hx
  subst hx
  repeat' first
    | with_reducible assumption
    | intro _
    | with_reducible apply ev_nextPulse
    | with_reducible apply ev_outExpire
    | with_reducible apply ev_doIf

theorem ev_execOffPulseStart {o : OutId} (h_regs : Part.regs ∈ L) (h_saf : Part.saf ∈ L) (hx : execOffPulseStart o s = .next t) :
    Evolves L s t := by
  have h : Evolves L s s := ev_refl
  simp only [execOffPulseStart, Host.Outcome.next.injEq] at hx
  subst hx
  repeat' first
    | with_reducible assumption
    | intro _
    | with_reducible apply ev_modOut
    | with_reducible apply ev_nextPulse
    | with_reducible apply ev_doIf

theorem ev_execOffPulseEnd {o : OutId} (h_regs : Part.regs ∈ L) (h_host : Part.host ∈ L) (h_saf : Part.saf ∈ L) (h_flt : Part.flt ∈ L) (h_free : Part.free ∈ L) (hx : execOffPulseEnd o s = .next t) :
    Evolves L s t := by
  have h : Evolves L s s := ev_refl
  simp only [execOffPulseEnd, Host.Outcome.next.injEq] at hx
  subst hx
  repeat' first
    | with_reducible assumption
    | intro _
    | with_reducible apply ev_endPulse
    | with_reducible apply ev_nextPulse
    | with_reducible apply ev_doIf

theorem ev_execLenReadbackTimeout (h_regs : Part.regs ∈ L) (h_host : Part.host ∈ L) (h_saf : Part.saf ∈ L) (h_flt : Part.flt ∈ L) (h_free : Part.free ∈ L) (hx : execLenReadbackTimeout s = .next t) :
    Evolves L s t := by
  have h : Evolves L s s := ev_refl
  simp only [execLenReadbackTimeout, Host.Outcome.next.injEq] at hx
  subst hx
  repeat' first
    | with_reducible assumption
    | intro _
    | with_reducible apply ev_lenFault
    | with_reducible apply ev_doIf

theorem ev_execLenProof (h_regs : Part.regs ∈ L) (h_host : Part.host ∈ L) (h_saf : Part.saf ∈ L) (hx : execLenProof s = .next t) :
    Evolves L s t := by
  have h : Evolves L s s := ev_refl
  simp only [execLenProof, Host.Outcome.next.injEq] at hx
  subst hx
  repeat' first
    | with_reducible assumption
    | intro _
    | with_reducible apply ev_modSaf
    | with_reducible apply ev_safEvent
    | with_reducible apply ev_doIf
    | (show _ = true; first | assumption | rfl)
    | (rename_i hw; rw [Saf.wf_iff] at hw ⊢; obtain ⟨wa, wb, wc, wd, we, wg⟩ := hw; refine ⟨?_, ?_, ?_, ?_, ?_, ?_⟩ <;> first | assumption | rfl | (exact sparseWf_set _ _ (by assumption)))

theorem ev_execEstopGateOpen {i : PairId} {chB : Bool} (h_regs : Part.regs ∈ L) (h_host : Part.host ∈ L) (h_saf : Part.saf ∈ L) (hx : execEstopGateOpen i chB s = .next t) :
    Evolves L s t := by
  have h : Evolves L s s := ev_refl
  simp only [execEstopGateOpen, Host.Outcome.next.injEq] at hx
  subst hx
  repeat' first
    | with_reducible assumption
    | intro _
    | with_reducible apply ev_setGate
    | with_reducible apply ev_showLen
    | with_reducible apply ev_doIf

theorem ev_execEstopGateClose {i : PairId} {chB : Bool} (h_regs : Part.regs ∈ L) (h_host : Part.host ∈ L) (h_saf : Part.saf ∈ L) (hx : execEstopGateClose i chB s = .next t) :
    Evolves L s t := by
  have h : Evolves L s s := ev_refl
  simp only [execEstopGateClose, Host.Outcome.next.injEq] at hx
  subst hx
  repeat' first
    | with_reducible assumption
    | intro _
    | with_reducible apply ev_setGate
    | with_reducible apply ev_showLen
    | with_reducible apply ev_doIf

theorem ev_execClrOut {q : Src} {outs : BitVec 4} (h_regs : Part.regs ∈ L) (h_host : Part.host ∈ L) (h_saf : Part.saf ∈ L) (h_flt : Part.flt ∈ L) (hx : execClrOut q outs s = .next t) :
    Evolves L s t := by
  have h : Evolves L s s := ev_refl
  simp only [execClrOut, Host.Outcome.next.injEq] at hx
  subst hx
  repeat' first
    | with_reducible assumption
    | intro _
    | with_reducible apply ev_safWrite
    | with_reducible apply ev_clearOuts

theorem ev_execClrLen {q : Src} (h_regs : Part.regs ∈ L) (h_host : Part.host ∈ L) (h_saf : Part.saf ∈ L) (h_flt : Part.flt ∈ L) (hx : execClrLen q s = .next t) :
    Evolves L s t := by
  have h : Evolves L s s := ev_refl
  simp only [execClrLen, Host.Outcome.next.injEq] at hx
  subst hx
  repeat' first
    | with_reducible assumption
    | intro _
    | with_reducible apply ev_safWrite
    | with_reducible apply ev_clearLen

end Sys2Proof.Machine
end

