-- ==== Sys2Proof/Laws/ExSafetyBlock.lean ====
section
/-! SUPPORT. What each command of Machine/SafetyBlock.lean may change, and that it keeps the invariant. -/

namespace Sys2Proof.Machine

variable {L : List Part} {s t : State}

theorem ev_execSafetyReport (h_regs : Part.regs ∈ L) (h_host : Part.host ∈ L) (h_saf : Part.saf ∈ L) (hx : execSafetyReport s = .next t) :
    Evolves L s t := by
  have h : Evolves L s s := ev_refl
  simp only [execSafetyReport, Host.Outcome.next.injEq] at hx
  subst hx
  repeat' first
    | with_reducible assumption
    | intro _
    | with_reducible apply ev_report
    | with_reducible apply ev_doIf

theorem ev_execSafetyTick (h_regs : Part.regs ∈ L) (h_host : Part.host ∈ L) (h_saf : Part.saf ∈ L) (h_flt : Part.flt ∈ L) (h_free : Part.free ∈ L) (hx : execSafetyTick s = .next t) :
    Evolves L s t := by
  have h : Evolves L s s := ev_refl
  simp only [execSafetyTick, Host.Outcome.next.injEq] at hx
  subst hx
  repeat' first
    | with_reducible assumption
    | intro _
    | with_reducible apply ev_safetyTick
    | with_reducible apply ev_doIf

theorem ev_execSafetyDiagnostic {d : Diagnostic} {passed : Bool} (h_regs : Part.regs ∈ L) (h_host : Part.host ∈ L) (h_saf : Part.saf ∈ L) (h_flt : Part.flt ∈ L) (hx : execSafetyDiagnostic d passed s = .next t) :
    Evolves L s t := by
  have h : Evolves L s s := ev_refl
  simp only [execSafetyDiagnostic, Host.Outcome.next.injEq] at hx
  subst hx
  repeat' first
    | with_reducible assumption
    | intro _
    | with_reducible apply ev_diagnosticFails
    | with_reducible apply ev_doIf

theorem ev_execSafUnlockKey {q : Src} {value : Word} (h_regs : Part.regs ∈ L) (h_host : Part.host ∈ L) (h_saf : Part.saf ∈ L) (h_flt : Part.flt ∈ L) (hx : execSafUnlockKey q value s = .next t) :
    Evolves L s t := by
  have h : Evolves L s s := ev_refl
  simp only [execSafUnlockKey, Host.Outcome.next.injEq] at hx
  subst hx
  repeat' first
    | with_reducible assumption
    | intro _
    | with_reducible apply ev_safWrite
    | with_reducible apply ev_unlockKey

theorem ev_execSafUnlockKeyTimeout (h_saf : Part.saf ∈ L) (hx : execSafUnlockKeyTimeout s = .next t) :
    Evolves L s t := by
  have h : Evolves L s s := ev_refl
  simp only [execSafUnlockKeyTimeout, Host.Outcome.next.injEq] at hx
  subst hx
  repeat' first
    | with_reducible assumption
    | intro _
    | with_reducible apply ev_modSaf
    | (show _ = true; first | assumption | rfl)
    | (rename_i hw; rw [Saf.wf_iff] at hw ⊢; obtain ⟨wa, wb, wc, wd, we, wg⟩ := hw; refine ⟨?_, ?_, ?_, ?_, ?_, ?_⟩ <;> first | assumption | rfl | (exact sparseWf_set _ _ (by assumption)))

theorem ev_execSafUnlockAbort {q : Src} (h_regs : Part.regs ∈ L) (h_host : Part.host ∈ L) (h_saf : Part.saf ∈ L) (h_flt : Part.flt ∈ L) (hx : execSafUnlockAbort q s = .next t) :
    Evolves L s t := by
  have h : Evolves L s s := ev_refl
  simp only [execSafUnlockAbort, Host.Outcome.next.injEq] at hx
  subst hx
  repeat' first
    | with_reducible assumption
    | intro _
    | with_reducible apply ev_safWrite
    | with_reducible apply ev_abandonConfig

theorem ev_execConfigTimeout (h_regs : Part.regs ∈ L) (h_host : Part.host ∈ L) (h_saf : Part.saf ∈ L) (hx : execConfigTimeout s = .next t) :
    Evolves L s t := by
  have h : Evolves L s s := ev_refl
  simp only [execConfigTimeout, Host.Outcome.next.injEq] at hx
  subst hx
  repeat' first
    | with_reducible assumption
    | intro _
    | with_reducible apply ev_abandonConfig
    | with_reducible apply ev_doIf

theorem ev_execSafCommit {q : Src} {crc : Word} (h_regs : Part.regs ∈ L) (h_host : Part.host ∈ L) (h_saf : Part.saf ∈ L) (h_flt : Part.flt ∈ L) (hx : execSafCommit q crc s = .next t) :
    Evolves L s t := by
  have h : Evolves L s s := ev_refl
  simp only [execSafCommit, Host.Outcome.next.injEq] at hx
  subst hx
  repeat' first
    | with_reducible assumption
    | intro _
    | with_reducible apply ev_safWrite
    | with_reducible apply ev_commitSet

theorem ev_execSafOtpKey {q : Src} {key : Byte} (h_regs : Part.regs ∈ L) (h_host : Part.host ∈ L) (h_saf : Part.saf ∈ L) (h_flt : Part.flt ∈ L) (hx : execSafOtpKey q key s = .next t) :
    Evolves L s t := by
  have h : Evolves L s s := ev_refl
  simp only [execSafOtpKey, Host.Outcome.next.injEq] at hx
  subst hx
  repeat' first
    | with_reducible assumption
    | intro _
    | with_reducible apply ev_safWrite
    | with_reducible apply ev_otpKey

theorem ev_execSafOtpKeyTimeout (h_saf : Part.saf ∈ L) (hx : execSafOtpKeyTimeout s = .next t) :
    Evolves L s t := by
  have h : Evolves L s s := ev_refl
  simp only [execSafOtpKeyTimeout, Host.Outcome.next.injEq] at hx
  subst hx
  repeat' first
    | with_reducible assumption
    | intro _
    | with_reducible apply ev_modSaf
    | (show _ = true; first | assumption | rfl)
    | (rename_i hw; rw [Saf.wf_iff] at hw ⊢; obtain ⟨wa, wb, wc, wd, we, wg⟩ := hw; refine ⟨?_, ?_, ?_, ?_, ?_, ?_⟩ <;> first | assumption | rfl | (exact sparseWf_set _ _ (by assumption)))

theorem ev_execSafOtpBurnDone (h_regs : Part.regs ∈ L) (h_saf : Part.saf ∈ L) (h_otp : Part.otp ∈ L) (hx : execSafOtpBurnDone s = .next t) :
    Evolves L s t := by
  have h : Evolves L s s := ev_refl
  simp only [execSafOtpBurnDone, Host.Outcome.next.injEq] at hx
  subst hx
  repeat' first
    | with_reducible assumption
    | intro _
    | with_reducible apply ev_modOtp
    | with_reducible apply ev_modSaf
    | with_reducible apply ev_put
    | split
    | (show _ = true; first | assumption | rfl)
    | (rename_i hw; rw [Saf.wf_iff] at hw ⊢; obtain ⟨wa, wb, wc, wd, we, wg⟩ := hw; refine ⟨?_, ?_, ?_, ?_, ?_, ?_⟩ <;> first | assumption | rfl | (exact sparseWf_set _ _ (by assumption)))

theorem ev_execSafetyBlockReady (h_regs : Part.regs ∈ L) (h_host : Part.host ∈ L) (h_saf : Part.saf ∈ L) (h_flt : Part.flt ∈ L) (hx : execSafetyBlockReady s = .next t) :
    Evolves L s t := by
  have h : Evolves L s s := ev_refl
  simp only [execSafetyBlockReady, Host.Outcome.next.injEq] at hx
  subst hx
  repeat' first
    | with_reducible assumption
    | intro _
    | with_reducible apply ev_loadSet
    | with_reducible apply ev_modSaf
    | with_reducible apply ev_setReady
    | with_reducible apply ev_doIf
    | (show _ = true; first | assumption | rfl)
    | (rename_i hw; rw [Saf.wf_iff] at hw ⊢; obtain ⟨wa, wb, wc, wd, we, wg⟩ := hw; refine ⟨?_, ?_, ?_, ?_, ?_, ?_⟩ <;> first | assumption | rfl | (exact sparseWf_set _ _ (by assumption)))

end Sys2Proof.Machine
end

