-- ==== Sys2Proof/Laws/ExShot.lean ====
section
/-! SUPPORT. What each command of Machine/Shot.lean may change, and that it keeps the invariant. -/

namespace Sys2Proof.Machine

variable {L : List Part} {s t : State}

theorem ev_execLoadShotTable {ref : CmdRef} (h_regs : Part.regs ∈ L) (h_shot : Part.shot ∈ L) (h_host : Part.host ∈ L) (hx : execLoadShotTable ref s = .next t) :
    Evolves L s t := by
  have h : Evolves L s s := ev_refl
  simp only [execLoadShotTable, Host.Outcome.next.injEq] at hx
  subst hx
  repeat' first
    | with_reducible assumption
    | intro _
    | with_reducible apply ev_loadTable
    | with_reducible apply ev_doIf
    | split

theorem ev_execStart {ref : CmdRef} (h_regs : Part.regs ∈ L) (h_shot : Part.shot ∈ L) (h_emits : Part.emits ∈ L) (h_chgs : Part.chgs ∈ L) (h_host : Part.host ∈ L) (h_hk : Part.hk ∈ L) (hx : execStart ref s = .next t) :
    Evolves L s t := by
  have h : Evolves L s s := ev_refl
  simp only [execStart, Host.Outcome.next.injEq] at hx
  subst hx
  repeat' first
    | with_reducible assumption
    | intro _
    | with_reducible apply ev_fail
    | with_reducible apply ev_startEngine
    | with_reducible apply ev_doIf
    | split

theorem ev_execStop {ref : CmdRef} (h_regs : Part.regs ∈ L) (h_bank : Part.bank ∈ L) (h_crates : Part.crates ∈ L) (h_chans : Part.chans ∈ L) (h_shot : Part.shot ∈ L) (h_host : Part.host ∈ L) (hx : execStop ref s = .next t) :
    Evolves L s t := by
  have h : Evolves L s s := ev_refl
  simp only [execStop, Host.Outcome.next.injEq] at hx
  subst hx
  repeat' first
    | with_reducible assumption
    | intro _
    | with_reducible apply ev_complete
    | with_reducible apply ev_openCmd
    | with_reducible apply ev_modShot
    | with_reducible apply ev_stopEngine
    | with_reducible apply ev_doIf
    | split

theorem ev_execMainWindowClose (h_regs : Part.regs ∈ L) (h_bank : Part.bank ∈ L) (h_crates : Part.crates ∈ L) (h_chans : Part.chans ∈ L) (h_shot : Part.shot ∈ L) (h_host : Part.host ∈ L) (hx : execMainWindowClose s = .next t) :
    Evolves L s t := by
  have h : Evolves L s s := ev_refl
  simp only [execMainWindowClose, Host.Outcome.next.injEq] at hx
  subst hx
  repeat' first
    | with_reducible assumption
    | intro _
    | with_reducible apply ev_closeRepeat
    | with_reducible apply ev_doIf
    | split

theorem ev_execShotCommit {binEcc : Ecc} (h_regs : Part.regs ∈ L) (h_bank : Part.bank ∈ L) (h_crates : Part.crates ∈ L) (h_chans : Part.chans ∈ L) (h_shot : Part.shot ∈ L) (h_emits : Part.emits ∈ L) (h_classes : Part.classes ∈ L) (h_chgs : Part.chgs ∈ L) (h_eye : Part.eye ∈ L) (h_host : Part.host ∈ L) (h_hk : Part.hk ∈ L) (h_saf : Part.saf ∈ L) (h_flt : Part.flt ∈ L) (hx : execShotCommit binEcc s = .next t) :
    Evolves L s t := by
  have h : Evolves L s s := ev_refl
  simp only [execShotCommit, Host.Outcome.next.injEq] at hx
  subst hx
  repeat' first
    | with_reducible assumption
    | intro _
    | with_reducible apply ev_rollShort
    | with_reducible apply ev_rollLong
    | with_reducible apply ev_accountantEcc
    | with_reducible apply ev_commitRepeat
    | with_reducible apply ev_holdEngine
    | with_reducible apply ev_doIf
    | split

theorem ev_execRoundBoundary (h_regs : Part.regs ∈ L) (h_shot : Part.shot ∈ L) (h_chgs : Part.chgs ∈ L) (h_motor : Part.motor ∈ L) (h_host : Part.host ∈ L) (h_hk : Part.hk ∈ L) (h_saf : Part.saf ∈ L) (hx : execRoundBoundary s = .next t) :
    Evolves L s t := by
  have h : Evolves L s s := ev_refl
  simp only [execRoundBoundary, Host.Outcome.next.injEq] at hx
  subst hx
  repeat' first
    | with_reducible assumption
    | intro _
    | with_reducible apply ev_roundBoundary
    | with_reducible apply ev_doIf

theorem ev_execSweepBoundary (h_shot : Part.shot ∈ L) (h_motor : Part.motor ∈ L) (h_saf : Part.saf ∈ L) (hx : execSweepBoundary s = .next t) :
    Evolves L s t := by
  have h : Evolves L s s := ev_refl
  simp only [execSweepBoundary, Host.Outcome.next.injEq] at hx
  subst hx
  repeat' first
    | with_reducible assumption
    | intro _
    | with_reducible apply ev_sweepBoundary
    | with_reducible apply ev_doIf

theorem ev_execAngleTrigger (h_regs : Part.regs ∈ L) (h_shot : Part.shot ∈ L) (h_chgs : Part.chgs ∈ L) (h_motor : Part.motor ∈ L) (h_host : Part.host ∈ L) (h_hk : Part.hk ∈ L) (h_saf : Part.saf ∈ L) (hx : execAngleTrigger s = .next t) :
    Evolves L s t := by
  have h : Evolves L s s := ev_refl
  simp only [execAngleTrigger, Host.Outcome.next.injEq] at hx
  subst hx
  repeat' first
    | with_reducible assumption
    | intro _
    | with_reducible apply ev_roundBoundary
    | with_reducible apply ev_angleTrigger
    | with_reducible apply ev_doIf

theorem ev_execDelayTrigger (h_regs : Part.regs ∈ L) (h_shot : Part.shot ∈ L) (hx : execDelayTrigger s = .next t) :
    Evolves L s t := by
  have h : Evolves L s s := ev_refl
  simp only [execDelayTrigger, Host.Outcome.next.injEq] at hx
  subst hx
  repeat' first
    | with_reducible assumption
    | intro _
    | with_reducible apply ev_modShot
    | with_reducible apply ev_startEntry
    | with_reducible apply ev_doIf
    | split

theorem ev_execCreditRefill {e : Option EmitId} (h_shot : Part.shot ∈ L) (h_emits : Part.emits ∈ L) (hx : execCreditRefill e s = .next t) :
    Evolves L s t := by
  have h : Evolves L s s := ev_refl
  simp only [execCreditRefill, Host.Outcome.next.injEq] at hx
  subst hx
  repeat' first
    | with_reducible assumption
    | intro _
    | with_reducible apply ev_modEmit
    | with_reducible apply ev_modShot
    | with_reducible apply ev_doIf
    | split

theorem ev_execLaserPermitChange (h_regs : Part.regs ∈ L) (h_shot : Part.shot ∈ L) (h_chgs : Part.chgs ∈ L) (h_host : Part.host ∈ L) (h_hk : Part.hk ∈ L) (hx : execLaserPermitChange s = .next t) :
    Evolves L s t := by
  have h : Evolves L s s := ev_refl
  simp only [execLaserPermitChange, Host.Outcome.next.injEq] at hx
  subst hx
  repeat' first
    | with_reducible assumption
    | intro _
    | with_reducible apply ev_showPermit
    | with_reducible apply ev_resumeEngine
    | with_reducible apply ev_doIf

end Sys2Proof.Machine
end

