-- ==== Sys2Proof/Laws/ExSpare.lean ====
section
/-! SUPPORT. What each command of Machine/Spare.lean may change, and that it keeps the invariant. -/

namespace Sys2Proof.Machine

variable {L : List Part} {s t : State}

theorem ev_execDwellClose {c : CrateId} {retest : RetestMeas} (h_regs : Part.regs ∈ L) (h_bank : Part.bank ∈ L) (h_crates : Part.crates ∈ L) (h_chans : Part.chans ∈ L) (h_slices : Part.slices ∈ L) (h_flt : Part.flt ∈ L) (hx : execDwellClose c retest s = .next t) :
    Evolves L s t := by
  have h : Evolves L s s := ev_refl
  simp only [execDwellClose, Host.Outcome.next.injEq] at hx
  subst hx
  repeat' first
    | with_reducible assumption
    | intro _
    | with_reducible apply ev_closeDwell
    | with_reducible apply ev_doIf
    | split

theorem ev_execChargeConversionDone {c : CrateId} {k : ChanId} (h_regs : Part.regs ∈ L) (h_crates : Part.crates ∈ L) (h_chans : Part.chans ∈ L) (h_slices : Part.slices ∈ L) (h_flt : Part.flt ∈ L) (hx : execChargeConversionDone c k s = .next t) :
    Evolves L s t := by
  have h : Evolves L s s := ev_refl
  simp only [execChargeConversionDone, Host.Outcome.next.injEq] at hx
  subst hx
  repeat' first
    | with_reducible assumption
    | intro _
    | with_reducible apply ev_convert
    | with_reducible apply ev_stopDwell
    | with_reducible apply ev_doIf
    | split

theorem ev_execChargeCalDue {c : CrateId} (h_crates : Part.crates ∈ L) (hx : execChargeCalDue c s = .next t) :
    Evolves L s t := by
  have h : Evolves L s s := ev_refl
  simp only [execChargeCalDue, Host.Outcome.next.injEq] at hx
  subst hx
  repeat' first
    | with_reducible assumption
    | intro _
    | with_reducible apply ev_modCrate
    | with_reducible apply ev_doIf

theorem ev_execChargeCalDone {c : CrateId} {i : SliceId} {meas : Option ChargeCal} (h_crates : Part.crates ∈ L) (h_slices : Part.slices ∈ L) (h_flt : Part.flt ∈ L) (hx : execChargeCalDone c i meas s = .next t) :
    Evolves L s t := by
  have h : Evolves L s s := ev_refl
  simp only [execChargeCalDone, Host.Outcome.next.injEq] at hx
  subst hx
  repeat' first
    | with_reducible assumption
    | intro _
    | with_reducible apply ev_chargeCalDone
    | with_reducible apply ev_doIf

theorem ev_execCdBatchEnd {c : CrateId} {i : SliceId} (h_regs : Part.regs ∈ L) (h_slices : Part.slices ∈ L) (h_flt : Part.flt ∈ L) (hx : execCdBatchEnd c i s = .next t) :
    Evolves L s t := by
  have h : Evolves L s s := ev_refl
  simp only [execCdBatchEnd, Host.Outcome.next.injEq] at hx
  subst hx
  repeat' first
    | with_reducible assumption
    | intro _
    | with_reducible apply ev_modSlice
    | with_reducible apply ev_bump
    | with_reducible apply ev_detect
    | with_reducible apply ev_doIf
    | split

theorem ev_execTieBreakEnd {c : CrateId} {meas : TieMeas} (h_regs : Part.regs ∈ L) (h_crates : Part.crates ∈ L) (h_flt : Part.flt ∈ L) (hx : execTieBreakEnd c meas s = .next t) :
    Evolves L s t := by
  have h : Evolves L s s := ev_refl
  simp only [execTieBreakEnd, Host.Outcome.next.injEq] at hx
  subst hx
  repeat' first
    | with_reducible assumption
    | intro _
    | with_reducible apply ev_tieMeasure
    | with_reducible apply ev_modCrate
    | with_reducible apply ev_modFlt
    | with_reducible apply ev_showPend
    | with_reducible apply ev_doIf
    | split
    | (show _ = true; first | assumption | rfl)

end Sys2Proof.Machine
end

