-- ==== Sys2Proof/Laws/ExTxn.lean ====
section
/-! SUPPORT. What each command of Machine/Txn.lean may change, and that it keeps the invariant. -/

namespace Sys2Proof.Machine

variable {L : List Part} {s t : State}

theorem ev_execCfgTxn {ref : CmdRef} (h_regs : Part.regs ∈ L) (h_host : Part.host ∈ L) (hx : execCfgTxn ref s = .next t) :
    Evolves L s t := by
  have h : Evolves L s s := ev_refl
  simp only [execCfgTxn, Host.Outcome.next.injEq] at hx
  subst hx
  repeat' first
    | with_reducible assumption
    | intro _
    | with_reducible apply ev_submit
    | with_reducible apply ev_doIf
    | split

theorem ev_execSpiTxnGo {q : Src} {value : Word} (h_regs : Part.regs ∈ L) (h_host : Part.host ∈ L) (h_flt : Part.flt ∈ L) (hx : execSpiTxnGo q value s = .next t) :
    Evolves L s t := by
  have h : Evolves L s s := ev_refl
  simp only [execSpiTxnGo, Host.Outcome.next.injEq] at hx
  subst hx
  repeat' first
    | with_reducible assumption
    | intro _
    | with_reducible apply ev_stxnGo
    | with_reducible apply ev_doIf

theorem ev_execApplyInstant (h_regs : Part.regs ∈ L) (h_crates : Part.crates ∈ L) (h_chans : Part.chans ∈ L) (h_shot : Part.shot ∈ L) (h_chgs : Part.chgs ∈ L) (h_mons : Part.mons ∈ L) (h_host : Part.host ∈ L) (h_hk : Part.hk ∈ L) (h_flt : Part.flt ∈ L) (h_free : Part.free ∈ L) (hx : execApplyInstant s = .next t) :
    Evolves L s t := by
  have h : Evolves L s s := ev_refl
  simp only [execApplyInstant, Host.Outcome.next.injEq] at hx
  subst hx
  repeat' first
    | with_reducible assumption
    | intro _
    | with_reducible apply ev_applyInstant
    | with_reducible apply ev_doIf

theorem ev_execSnapshot {ref : CmdRef} (h_host : Part.host ∈ L) (hx : execSnapshot ref s = .next t) :
    Evolves L s t := by
  have h : Evolves L s s := ev_refl
  simp only [execSnapshot, Host.Outcome.next.injEq] at hx
  subst hx
  repeat' first
    | with_reducible assumption
    | intro _
    | with_reducible apply ev_openCmd
    | with_reducible apply ev_modHost
    | with_reducible apply ev_fail
    | with_reducible apply ev_doIf
    | split
    | (show _ = true; first | assumption | rfl)

theorem ev_execSnapshotStrobe (h_host : Part.host ∈ L) (hx : execSnapshotStrobe s = .next t) :
    Evolves L s t := by
  have h : Evolves L s s := ev_refl
  simp only [execSnapshotStrobe, Host.Outcome.next.injEq] at hx
  subst hx
  repeat' first
    | with_reducible assumption
    | intro _
    | with_reducible apply ev_strobe
    | with_reducible apply ev_doIf
    | split

end Sys2Proof.Machine
end

