-- ==== Sys2Proof/Laws/ExWindow.lean ====
section
/-! SUPPORT. What each command of Machine/Window.lean may change, and that it keeps the invariant. -/

namespace Sys2Proof.Machine

variable {L : List Part} {s t : State}

theorem ev_execPreWindowOpen {c : CrateId} {cals : List (Option RingCal)} (h_regs : Part.regs ∈ L) (h_crates : Part.crates ∈ L) (h_chans : Part.chans ∈ L) (h_slices : Part.slices ∈ L) (h_flt : Part.flt ∈ L) (hx : execPreWindowOpen c cals s = .next t) :
    Evolves L s t := by
  have h : Evolves L s s := ev_refl
  simp only [execPreWindowOpen, Host.Outcome.next.injEq] at hx
  subst hx
  repeat' first
    | with_reducible assumption
    | intro _
    | with_reducible apply ev_openWindow
    | with_reducible apply ev_doIf
    | split

theorem ev_execStartEdge {c : CrateId} {lsb : Nat} {caps : List Capture} (h_regs : Part.regs ∈ L) (h_crates : Part.crates ∈ L) (h_chans : Part.chans ∈ L) (h_slices : Part.slices ∈ L) (hx : execStartEdge c lsb caps s = .next t) :
    Evolves L s t := by
  have h : Evolves L s s := ev_refl
  simp only [execStartEdge, Host.Outcome.next.injEq] at hx
  subst hx
  repeat' first
    | with_reducible assumption
    | intro _
    | with_reducible apply ev_startEdge
    | with_reducible apply ev_doIf
    | split

theorem ev_execStartTimeout {c : CrateId} (h_regs : Part.regs ∈ L) (h_crates : Part.crates ∈ L) (h_chans : Part.chans ∈ L) (h_flt : Part.flt ∈ L) (hx : execStartTimeout c s = .next t) :
    Evolves L s t := by
  have h : Evolves L s s := ev_refl
  simp only [execStartTimeout, Host.Outcome.next.injEq] at hx
  subst hx
  repeat' first
    | with_reducible assumption
    | intro _
    | with_reducible apply ev_closeWindow
    | with_reducible apply ev_detect
    | with_reducible apply ev_doIf
    | split

theorem ev_execBlankingEnd {c : CrateId} {above : BitVec 16} (h_regs : Part.regs ∈ L) (h_chans : Part.chans ∈ L) (hx : execBlankingEnd c above s = .next t) :
    Evolves L s t := by
  have h : Evolves L s s := ev_refl
  simp only [execBlankingEnd, Host.Outcome.next.injEq] at hx
  subst hx
  repeat' first
    | with_reducible assumption
    | intro _
    | with_reducible apply ev_bump
    | with_reducible apply ev_modChan
    | with_reducible apply ev_doIf
    | with_reducible apply ev_forAll

theorem ev_execDiscriminatorCrossing {c : CrateId} {k : ChanId} {lsb : Nat} {cap : Capture} {spareCap : Option Capture} (h_regs : Part.regs ∈ L) (h_crates : Part.crates ∈ L) (h_chans : Part.chans ∈ L) (h_slices : Part.slices ∈ L) (hx : execDiscriminatorCrossing c k lsb cap spareCap s = .next t) :
    Evolves L s t := by
  have h : Evolves L s s := ev_refl
  simp only [execDiscriminatorCrossing, Host.Outcome.next.injEq] at hx
  subst hx
  repeat' first
    | with_reducible assumption
    | intro _
    | with_reducible apply ev_crossing
    | with_reducible apply ev_doIf
    | split

theorem ev_execDiscriminatorFall {c : CrateId} {k : ChanId} (h_chans : Part.chans ∈ L) (hx : execDiscriminatorFall c k s = .next t) :
    Evolves L s t := by
  have h : Evolves L s s := ev_refl
  simp only [execDiscriminatorFall, Host.Outcome.next.injEq] at hx
  subst hx
  repeat' first
    | with_reducible assumption
    | intro _
    | with_reducible apply ev_modChan
    | with_reducible apply ev_doIf
    | split

theorem ev_execRangeSelect {c : CrateId} {k : ChanId} {levelAc : Nat} (h_chans : Part.chans ∈ L) (hx : execRangeSelect c k levelAc s = .next t) :
    Evolves L s t := by
  have h : Evolves L s s := ev_refl
  simp only [execRangeSelect, Host.Outcome.next.injEq] at hx
  subst hx
  repeat' first
    | with_reducible assumption
    | intro _
    | with_reducible apply ev_modChan
    | with_reducible apply ev_doIf
    | split

theorem ev_execChargeGateEnd {c : CrateId} {k : ChanId} {heldAc : Int} (h_chans : Part.chans ∈ L) (hx : execChargeGateEnd c k heldAc s = .next t) :
    Evolves L s t := by
  have h : Evolves L s s := ev_refl
  simp only [execChargeGateEnd, Host.Outcome.next.injEq] at hx
  subst hx
  repeat' first
    | with_reducible assumption
    | intro _
    | with_reducible apply ev_modChan
    | with_reducible apply ev_doIf

theorem ev_execChargePathReady {c : CrateId} {k : ChanId} (h_regs : Part.regs ∈ L) (h_crates : Part.crates ∈ L) (h_chans : Part.chans ∈ L) (hx : execChargePathReady c k s = .next t) :
    Evolves L s t := by
  have h : Evolves L s s := ev_refl
  simp only [execChargePathReady, Host.Outcome.next.injEq] at hx
  subst hx
  repeat' first
    | with_reducible assumption
    | intro _
    | with_reducible apply ev_modChan
    | with_reducible apply ev_release
    | with_reducible apply ev_doIf

end Sys2Proof.Machine
end

