-- ==== Sys2Proof/Laws/ExZones.lean ====
section
/-! SUPPORT. What each command of Machine/Zones.lean may change, and that it keeps the invariant. -/

namespace Sys2Proof.Machine

variable {L : List Part} {s t : State}

theorem ev_execZoneSummaryClose (h_saf : Part.saf ∈ L) (hx : execZoneSummaryClose s = .next t) :
    Evolves L s t := by
  have h : Evolves L s s := ev_refl
  simp only [execZoneSummaryClose, Host.Outcome.next.injEq] at hx
  subst hx
  repeat' first
    | with_reducible assumption
    | intro _
    | with_reducible apply ev_closeSummary
    | with_reducible apply ev_doIf

theorem ev_execZoneSummaryArrival {crcOk : Bool} (h_regs : Part.regs ∈ L) (h_host : Part.host ∈ L) (h_saf : Part.saf ∈ L) (h_flt : Part.flt ∈ L) (h_free : Part.free ∈ L) (hx : execZoneSummaryArrival crcOk s = .next t) :
    Evolves L s t := by
  have h : Evolves L s s := ev_refl
  simp only [execZoneSummaryArrival, Host.Outcome.next.injEq] at hx
  subst hx
  repeat' first
    | with_reducible assumption
    | intro _
    | with_reducible apply ev_popSummary
    | with_reducible apply ev_checkSummary
    | with_reducible apply ev_doIf
    | split

theorem ev_execSweepTimeout (h_regs : Part.regs ∈ L) (h_host : Part.host ∈ L) (h_saf : Part.saf ∈ L) (h_flt : Part.flt ∈ L) (h_free : Part.free ∈ L) (hx : execSweepTimeout s = .next t) :
    Evolves L s t := by
  have h : Evolves L s s := ev_refl
  simp only [execSweepTimeout, Host.Outcome.next.injEq] at hx
  subst hx
  repeat' first
    | with_reducible assumption
    | intro _
    | with_reducible apply ev_declareTimeout
    | with_reducible apply ev_modSaf
    | with_reducible apply ev_evalZones
    | with_reducible apply ev_doIf
    | (show _ = true; first | assumption | rfl)
    | (rename_i hw; rw [Saf.wf_iff] at hw ⊢; obtain ⟨wa, wb, wc, wd, we, wg⟩ := hw; refine ⟨?_, ?_, ?_, ?_, ?_, ?_⟩ <;> first | assumption | rfl | (exact sparseWf_set _ _ (by assumption)))

theorem ev_execClrZone {q : Src} (h_regs : Part.regs ∈ L) (h_host : Part.host ∈ L) (h_saf : Part.saf ∈ L) (h_flt : Part.flt ∈ L) (h_free : Part.free ∈ L) (hx : execClrZone q s = .next t) :
    Evolves L s t := by
  have h : Evolves L s s := ev_refl
  simp only [execClrZone, Host.Outcome.next.injEq] at hx
  subst hx
  repeat' first
    | with_reducible assumption
    | intro _
    | with_reducible apply ev_safWrite
    | with_reducible apply ev_clearZones

end Sys2Proof.Machine
end

