-- ==== Sys2Proof/Laws/Operands.lean ====
section
/-! SUPPORT. What the arithmetic helpers give, for the proofs that cite them in place of their definitions. -/

namespace Sys2Proof.Machine

/-- One digit of a square root at a time: from r with r² ≤ n < (r + 2ᵏ)², k further digits leave the root rounded down. -/
theorem isqrt_digits (n : Nat) (f : Nat → Nat → Nat)
    (hf : ∀ i x, f i x = if (x + 2 ^ i) * (x + 2 ^ i) ≤ n then x + 2 ^ i else x) : ∀ (k r : Nat), r * r ≤ n →
    n < (r + 2 ^ k) * (r + 2 ^ k) → (List.range k).foldr f r * (List.range k).foldr f r ≤ n
      ∧ n < ((List.range k).foldr f r + 1) * ((List.range k).foldr f r + 1)
  | 0, r, lo, hi => by simpa using And.intro lo hi
  | k + 1, r, lo, hi => by
    have e : (List.range (k + 1)).foldr f r = (List.range k).foldr f (f k r) := by simp [List.range_succ]
    rw [e, hf]
    by_cases h : (r + 2 ^ k) * (r + 2 ^ k) ≤ n
    · rw [if_pos h]
      exact isqrt_digits n f hf k _ h (hi.trans_eq (by ring))
    · rw [if_neg h]
      exact isqrt_digits n f hf k r lo (by omega)

/-- The root squared is at most the number (R308). -/
theorem isqrt_le (n : Nat) (h : n < 2 ^ 80) : isqrt n * isqrt n ≤ n :=
  (isqrt_digits n _ (fun _ _ => rfl) 40 0 (by omega) (by omega)).1

/-- The next root squared is more (R308). -/
theorem lt_isqrt_succ (n : Nat) (h : n < 2 ^ 80) : n < (isqrt n + 1) * (isqrt n + 1) :=
  (isqrt_digits n _ (fun _ _ => rfl) 40 0 (by omega) (by omega)).2

/-- A number whose square is at most n, and whose successor's is not, is the root (R308). -/
theorem isqrt_eq (n q : Nat) (h : n < 2 ^ 80) (lo : q * q ≤ n) (hi : n < (q + 1) * (q + 1)) : isqrt n = q := by
  have a := isqrt_le n h
  have b := lt_isqrt_succ n h
  have c : isqrt n < q + 1 := Nat.mul_self_lt_mul_self_iff.1 (a.trans_lt hi)
  have d : q < isqrt n + 1 := Nat.mul_self_lt_mul_self_iff.1 (lo.trans_lt b)
  omega

end Sys2Proof.Machine
end

