-- ==== Sys2Proof/Laws/State.lean ====
section
/-! SUPPORT. The small lemmas of State: what each named update leaves as it was (one lemma per update, every clause true by
unfolding), what a field reads after a field was written, and the same for elements of tables. -/

namespace Sys2Proof.Machine

variable {s : State}

/-- What setReg leaves as it was. -/
@[simp] theorem State.setReg_keeps {a : Nat} {w : Word} :
    (s.setReg a w).bank = s.bank ∧ (s.setReg a w).hostMem = s.hostMem ∧ (s.setReg a w).clk = s.clk ∧
    (s.setReg a w).tap = s.tap ∧ (s.setReg a w).crates = s.crates ∧ (s.setReg a w).chans = s.chans ∧
    (s.setReg a w).slices = s.slices ∧ (s.setReg a w).shot = s.shot ∧ (s.setReg a w).emits = s.emits ∧
    (s.setReg a w).classes = s.classes ∧ (s.setReg a w).chgs = s.chgs ∧ (s.setReg a w).mons = s.mons ∧
    (s.setReg a w).eye = s.eye ∧ (s.setReg a w).motor = s.motor ∧ (s.setReg a w).host = s.host ∧ (s.setReg a w).reqs = s.reqs ∧
    (s.setReg a w).rings = s.rings ∧ (s.setReg a w).hk = s.hk ∧ (s.setReg a w).saf = s.saf ∧ (s.setReg a w).flt = s.flt ∧
    (s.setReg a w).otp = s.otp ∧ (s.setReg a w).free = s.free ∧ (s.setReg a w).pending = s.pending ∧
    (∀ x : Nat, (s.setReg a w).crate x = s.crate x) ∧ (∀ x y : Nat, (s.setReg a w).chan x y = s.chan x y) ∧
    (∀ x y : Nat, (s.setReg a w).slice x y = s.slice x y) ∧ (∀ x : Nat, (s.setReg a w).emit x = s.emit x) ∧
    (∀ x : Nat, (s.setReg a w).chg x = s.chg x) ∧ (∀ x : Nat, (s.setReg a w).mon x = s.mon x) ∧
    (∀ x : RingId, (s.setReg a w).ring x = s.ring x) ∧ (∀ x : Src, (s.setReg a w).req x = s.req x) ∧
    (∀ x : Nat, (s.setReg a w).pair x = s.pair x) ∧ (∀ x : Nat, (s.setReg a w).out x = s.out x) ∧
    (∀ x : Nat, (s.setReg a w).sto x = s.sto x) ∧ (∀ x : Nat, (s.setReg a w).zone x = s.zone x) ∧
    (∀ x : Nat, (s.setReg a w).hostByte x = s.hostByte x) ∧ (∀ x y : Nat, (s.setReg a w).bankByte x y = s.bankByte x y) ∧
    (s.setReg a w).running = s.running :=
  ⟨rfl, rfl, rfl, rfl, rfl, rfl, rfl, rfl, rfl, rfl, rfl, rfl, rfl, rfl, rfl, rfl, rfl, rfl, rfl, rfl, rfl, rfl, rfl,
   fun _ => rfl, fun _ _ => rfl, fun _ _ => rfl, fun _ => rfl, fun _ => rfl, fun _ => rfl, fun _ => rfl, fun _ => rfl,
   fun _ => rfl, fun _ => rfl, fun _ => rfl, fun _ => rfl, fun _ => rfl, fun _ _ => rfl, rfl⟩

/-- What put leaves as it was. -/
@[simp] theorem State.put_keeps {f : FRef} {v : Nat} :
    (s.put f v).bank = s.bank ∧ (s.put f v).hostMem = s.hostMem ∧ (s.put f v).clk = s.clk ∧ (s.put f v).tap = s.tap ∧
    (s.put f v).crates = s.crates ∧ (s.put f v).chans = s.chans ∧ (s.put f v).slices = s.slices ∧ (s.put f v).shot = s.shot ∧
    (s.put f v).emits = s.emits ∧ (s.put f v).classes = s.classes ∧ (s.put f v).chgs = s.chgs ∧ (s.put f v).mons = s.mons ∧
    (s.put f v).eye = s.eye ∧ (s.put f v).motor = s.motor ∧ (s.put f v).host = s.host ∧ (s.put f v).reqs = s.reqs ∧
    (s.put f v).rings = s.rings ∧ (s.put f v).hk = s.hk ∧ (s.put f v).saf = s.saf ∧ (s.put f v).flt = s.flt ∧
    (s.put f v).otp = s.otp ∧ (s.put f v).free = s.free ∧ (s.put f v).pending = s.pending ∧
    (∀ x : Nat, (s.put f v).crate x = s.crate x) ∧ (∀ x y : Nat, (s.put f v).chan x y = s.chan x y) ∧
    (∀ x y : Nat, (s.put f v).slice x y = s.slice x y) ∧ (∀ x : Nat, (s.put f v).emit x = s.emit x) ∧
    (∀ x : Nat, (s.put f v).chg x = s.chg x) ∧ (∀ x : Nat, (s.put f v).mon x = s.mon x) ∧
    (∀ x : RingId, (s.put f v).ring x = s.ring x) ∧ (∀ x : Src, (s.put f v).req x = s.req x) ∧
    (∀ x : Nat, (s.put f v).pair x = s.pair x) ∧ (∀ x : Nat, (s.put f v).out x = s.out x) ∧
    (∀ x : Nat, (s.put f v).sto x = s.sto x) ∧ (∀ x : Nat, (s.put f v).zone x = s.zone x) ∧
    (∀ x : Nat, (s.put f v).hostByte x = s.hostByte x) ∧ (∀ x y : Nat, (s.put f v).bankByte x y = s.bankByte x y) ∧
    (s.put f v).running = s.running :=
  ⟨rfl, rfl, rfl, rfl, rfl, rfl, rfl, rfl, rfl, rfl, rfl, rfl, rfl, rfl, rfl, rfl, rfl, rfl, rfl, rfl, rfl, rfl, rfl,
   fun _ => rfl, fun _ _ => rfl, fun _ _ => rfl, fun _ => rfl, fun _ => rfl, fun _ => rfl, fun _ => rfl, fun _ => rfl,
   fun _ => rfl, fun _ => rfl, fun _ => rfl, fun _ => rfl, fun _ => rfl, fun _ _ => rfl, rfl⟩

/-- What putB leaves as it was. -/
@[simp] theorem State.putB_keeps {f : FRef} {b : Bool} :
    (s.putB f b).bank = s.bank ∧ (s.putB f b).hostMem = s.hostMem ∧ (s.putB f b).clk = s.clk ∧ (s.putB f b).tap = s.tap ∧
    (s.putB f b).crates = s.crates ∧ (s.putB f b).chans = s.chans ∧ (s.putB f b).slices = s.slices ∧
    (s.putB f b).shot = s.shot ∧ (s.putB f b).emits = s.emits ∧ (s.putB f b).classes = s.classes ∧ (s.putB f b).chgs = s.chgs ∧
    (s.putB f b).mons = s.mons ∧ (s.putB f b).eye = s.eye ∧ (s.putB f b).motor = s.motor ∧ (s.putB f b).host = s.host ∧
    (s.putB f b).reqs = s.reqs ∧ (s.putB f b).rings = s.rings ∧ (s.putB f b).hk = s.hk ∧ (s.putB f b).saf = s.saf ∧
    (s.putB f b).flt = s.flt ∧ (s.putB f b).otp = s.otp ∧ (s.putB f b).free = s.free ∧ (s.putB f b).pending = s.pending ∧
    (∀ x : Nat, (s.putB f b).crate x = s.crate x) ∧ (∀ x y : Nat, (s.putB f b).chan x y = s.chan x y) ∧
    (∀ x y : Nat, (s.putB f b).slice x y = s.slice x y) ∧ (∀ x : Nat, (s.putB f b).emit x = s.emit x) ∧
    (∀ x : Nat, (s.putB f b).chg x = s.chg x) ∧ (∀ x : Nat, (s.putB f b).mon x = s.mon x) ∧
    (∀ x : RingId, (s.putB f b).ring x = s.ring x) ∧ (∀ x : Src, (s.putB f b).req x = s.req x) ∧
    (∀ x : Nat, (s.putB f b).pair x = s.pair x) ∧ (∀ x : Nat, (s.putB f b).out x = s.out x) ∧
    (∀ x : Nat, (s.putB f b).sto x = s.sto x) ∧ (∀ x : Nat, (s.putB f b).zone x = s.zone x) ∧
    (∀ x : Nat, (s.putB f b).hostByte x = s.hostByte x) ∧ (∀ x y : Nat, (s.putB f b).bankByte x y = s.bankByte x y) ∧
    (s.putB f b).running = s.running :=
  ⟨rfl, rfl, rfl, rfl, rfl, rfl, rfl, rfl, rfl, rfl, rfl, rfl, rfl, rfl, rfl, rfl, rfl, rfl, rfl, rfl, rfl, rfl, rfl,
   fun _ => rfl, fun _ _ => rfl, fun _ _ => rfl, fun _ => rfl, fun _ => rfl, fun _ => rfl, fun _ => rfl, fun _ => rfl,
   fun _ => rfl, fun _ => rfl, fun _ => rfl, fun _ => rfl, fun _ => rfl, fun _ _ => rfl, rfl⟩

/-- What putInt leaves as it was. -/
@[simp] theorem State.putInt_keeps {f : FRef} {i : Int} :
    (s.putInt f i).bank = s.bank ∧ (s.putInt f i).hostMem = s.hostMem ∧ (s.putInt f i).clk = s.clk ∧
    (s.putInt f i).tap = s.tap ∧ (s.putInt f i).crates = s.crates ∧ (s.putInt f i).chans = s.chans ∧
    (s.putInt f i).slices = s.slices ∧ (s.putInt f i).shot = s.shot ∧ (s.putInt f i).emits = s.emits ∧
    (s.putInt f i).classes = s.classes ∧ (s.putInt f i).chgs = s.chgs ∧ (s.putInt f i).mons = s.mons ∧
    (s.putInt f i).eye = s.eye ∧ (s.putInt f i).motor = s.motor ∧ (s.putInt f i).host = s.host ∧ (s.putInt f i).reqs = s.reqs ∧
    (s.putInt f i).rings = s.rings ∧ (s.putInt f i).hk = s.hk ∧ (s.putInt f i).saf = s.saf ∧ (s.putInt f i).flt = s.flt ∧
    (s.putInt f i).otp = s.otp ∧ (s.putInt f i).free = s.free ∧ (s.putInt f i).pending = s.pending ∧
    (∀ x : Nat, (s.putInt f i).crate x = s.crate x) ∧ (∀ x y : Nat, (s.putInt f i).chan x y = s.chan x y) ∧
    (∀ x y : Nat, (s.putInt f i).slice x y = s.slice x y) ∧ (∀ x : Nat, (s.putInt f i).emit x = s.emit x) ∧
    (∀ x : Nat, (s.putInt f i).chg x = s.chg x) ∧ (∀ x : Nat, (s.putInt f i).mon x = s.mon x) ∧
    (∀ x : RingId, (s.putInt f i).ring x = s.ring x) ∧ (∀ x : Src, (s.putInt f i).req x = s.req x) ∧
    (∀ x : Nat, (s.putInt f i).pair x = s.pair x) ∧ (∀ x : Nat, (s.putInt f i).out x = s.out x) ∧
    (∀ x : Nat, (s.putInt f i).sto x = s.sto x) ∧ (∀ x : Nat, (s.putInt f i).zone x = s.zone x) ∧
    (∀ x : Nat, (s.putInt f i).hostByte x = s.hostByte x) ∧ (∀ x y : Nat, (s.putInt f i).bankByte x y = s.bankByte x y) ∧
    (s.putInt f i).running = s.running :=
  ⟨rfl, rfl, rfl, rfl, rfl, rfl, rfl, rfl, rfl, rfl, rfl, rfl, rfl, rfl, rfl, rfl, rfl, rfl, rfl, rfl, rfl, rfl, rfl,
   fun _ => rfl, fun _ _ => rfl, fun _ _ => rfl, fun _ => rfl, fun _ => rfl, fun _ => rfl, fun _ => rfl, fun _ => rfl,
   fun _ => rfl, fun _ => rfl, fun _ => rfl, fun _ => rfl, fun _ => rfl, fun _ _ => rfl, rfl⟩

/-- What bump leaves as it was. -/
@[simp] theorem State.bump_keeps {f : FRef} {n : Nat} :
    (s.bump f n).bank = s.bank ∧ (s.bump f n).hostMem = s.hostMem ∧ (s.bump f n).clk = s.clk ∧ (s.bump f n).tap = s.tap ∧
    (s.bump f n).crates = s.crates ∧ (s.bump f n).chans = s.chans ∧ (s.bump f n).slices = s.slices ∧
    (s.bump f n).shot = s.shot ∧ (s.bump f n).emits = s.emits ∧ (s.bump f n).classes = s.classes ∧ (s.bump f n).chgs = s.chgs ∧
    (s.bump f n).mons = s.mons ∧ (s.bump f n).eye = s.eye ∧ (s.bump f n).motor = s.motor ∧ (s.bump f n).host = s.host ∧
    (s.bump f n).reqs = s.reqs ∧ (s.bump f n).rings = s.rings ∧ (s.bump f n).hk = s.hk ∧ (s.bump f n).saf = s.saf ∧
    (s.bump f n).flt = s.flt ∧ (s.bump f n).otp = s.otp ∧ (s.bump f n).free = s.free ∧ (s.bump f n).pending = s.pending ∧
    (∀ x : Nat, (s.bump f n).crate x = s.crate x) ∧ (∀ x y : Nat, (s.bump f n).chan x y = s.chan x y) ∧
    (∀ x y : Nat, (s.bump f n).slice x y = s.slice x y) ∧ (∀ x : Nat, (s.bump f n).emit x = s.emit x) ∧
    (∀ x : Nat, (s.bump f n).chg x = s.chg x) ∧ (∀ x : Nat, (s.bump f n).mon x = s.mon x) ∧
    (∀ x : RingId, (s.bump f n).ring x = s.ring x) ∧ (∀ x : Src, (s.bump f n).req x = s.req x) ∧
    (∀ x : Nat, (s.bump f n).pair x = s.pair x) ∧ (∀ x : Nat, (s.bump f n).out x = s.out x) ∧
    (∀ x : Nat, (s.bump f n).sto x = s.sto x) ∧ (∀ x : Nat, (s.bump f n).zone x = s.zone x) ∧
    (∀ x : Nat, (s.bump f n).hostByte x = s.hostByte x) ∧ (∀ x y : Nat, (s.bump f n).bankByte x y = s.bankByte x y) ∧
    (s.bump f n).running = s.running :=
  ⟨rfl, rfl, rfl, rfl, rfl, rfl, rfl, rfl, rfl, rfl, rfl, rfl, rfl, rfl, rfl, rfl, rfl, rfl, rfl, rfl, rfl, rfl, rfl,
   fun _ => rfl, fun _ _ => rfl, fun _ _ => rfl, fun _ => rfl, fun _ => rfl, fun _ => rfl, fun _ => rfl, fun _ => rfl,
   fun _ => rfl, fun _ => rfl, fun _ => rfl, fun _ => rfl, fun _ => rfl, fun _ _ => rfl, rfl⟩

/-- What wrapInc leaves as it was. -/
@[simp] theorem State.wrapInc_keeps {f : FRef} :
    (s.wrapInc f).bank = s.bank ∧ (s.wrapInc f).hostMem = s.hostMem ∧ (s.wrapInc f).clk = s.clk ∧ (s.wrapInc f).tap = s.tap ∧
    (s.wrapInc f).crates = s.crates ∧ (s.wrapInc f).chans = s.chans ∧ (s.wrapInc f).slices = s.slices ∧
    (s.wrapInc f).shot = s.shot ∧ (s.wrapInc f).emits = s.emits ∧ (s.wrapInc f).classes = s.classes ∧
    (s.wrapInc f).chgs = s.chgs ∧ (s.wrapInc f).mons = s.mons ∧ (s.wrapInc f).eye = s.eye ∧ (s.wrapInc f).motor = s.motor ∧
    (s.wrapInc f).host = s.host ∧ (s.wrapInc f).reqs = s.reqs ∧ (s.wrapInc f).rings = s.rings ∧ (s.wrapInc f).hk = s.hk ∧
    (s.wrapInc f).saf = s.saf ∧ (s.wrapInc f).flt = s.flt ∧ (s.wrapInc f).otp = s.otp ∧ (s.wrapInc f).free = s.free ∧
    (s.wrapInc f).pending = s.pending ∧ (∀ x : Nat, (s.wrapInc f).crate x = s.crate x) ∧
    (∀ x y : Nat, (s.wrapInc f).chan x y = s.chan x y) ∧ (∀ x y : Nat, (s.wrapInc f).slice x y = s.slice x y) ∧
    (∀ x : Nat, (s.wrapInc f).emit x = s.emit x) ∧ (∀ x : Nat, (s.wrapInc f).chg x = s.chg x) ∧
    (∀ x : Nat, (s.wrapInc f).mon x = s.mon x) ∧ (∀ x : RingId, (s.wrapInc f).ring x = s.ring x) ∧
    (∀ x : Src, (s.wrapInc f).req x = s.req x) ∧ (∀ x : Nat, (s.wrapInc f).pair x = s.pair x) ∧
    (∀ x : Nat, (s.wrapInc f).out x = s.out x) ∧ (∀ x : Nat, (s.wrapInc f).sto x = s.sto x) ∧
    (∀ x : Nat, (s.wrapInc f).zone x = s.zone x) ∧ (∀ x : Nat, (s.wrapInc f).hostByte x = s.hostByte x) ∧
    (∀ x y : Nat, (s.wrapInc f).bankByte x y = s.bankByte x y) ∧ (s.wrapInc f).running = s.running :=
  ⟨rfl, rfl, rfl, rfl, rfl, rfl, rfl, rfl, rfl, rfl, rfl, rfl, rfl, rfl, rfl, rfl, rfl, rfl, rfl, rfl, rfl, rfl, rfl,
   fun _ => rfl, fun _ _ => rfl, fun _ _ => rfl, fun _ => rfl, fun _ => rfl, fun _ => rfl, fun _ => rfl, fun _ => rfl,
   fun _ => rfl, fun _ => rfl, fun _ => rfl, fun _ => rfl, fun _ => rfl, fun _ _ => rfl, rfl⟩

/-- What raise leaves as it was. -/
@[simp] theorem State.raise_keeps {f : FRef} {v : Nat} :
    (s.raise f v).bank = s.bank ∧ (s.raise f v).hostMem = s.hostMem ∧ (s.raise f v).clk = s.clk ∧ (s.raise f v).tap = s.tap ∧
    (s.raise f v).crates = s.crates ∧ (s.raise f v).chans = s.chans ∧ (s.raise f v).slices = s.slices ∧
    (s.raise f v).shot = s.shot ∧ (s.raise f v).emits = s.emits ∧ (s.raise f v).classes = s.classes ∧
    (s.raise f v).chgs = s.chgs ∧ (s.raise f v).mons = s.mons ∧ (s.raise f v).eye = s.eye ∧ (s.raise f v).motor = s.motor ∧
    (s.raise f v).host = s.host ∧ (s.raise f v).reqs = s.reqs ∧ (s.raise f v).rings = s.rings ∧ (s.raise f v).hk = s.hk ∧
    (s.raise f v).saf = s.saf ∧ (s.raise f v).flt = s.flt ∧ (s.raise f v).otp = s.otp ∧ (s.raise f v).free = s.free ∧
    (s.raise f v).pending = s.pending ∧ (∀ x : Nat, (s.raise f v).crate x = s.crate x) ∧
    (∀ x y : Nat, (s.raise f v).chan x y = s.chan x y) ∧ (∀ x y : Nat, (s.raise f v).slice x y = s.slice x y) ∧
    (∀ x : Nat, (s.raise f v).emit x = s.emit x) ∧ (∀ x : Nat, (s.raise f v).chg x = s.chg x) ∧
    (∀ x : Nat, (s.raise f v).mon x = s.mon x) ∧ (∀ x : RingId, (s.raise f v).ring x = s.ring x) ∧
    (∀ x : Src, (s.raise f v).req x = s.req x) ∧ (∀ x : Nat, (s.raise f v).pair x = s.pair x) ∧
    (∀ x : Nat, (s.raise f v).out x = s.out x) ∧ (∀ x : Nat, (s.raise f v).sto x = s.sto x) ∧
    (∀ x : Nat, (s.raise f v).zone x = s.zone x) ∧ (∀ x : Nat, (s.raise f v).hostByte x = s.hostByte x) ∧
    (∀ x y : Nat, (s.raise f v).bankByte x y = s.bankByte x y) ∧ (s.raise f v).running = s.running :=
  ⟨rfl, rfl, rfl, rfl, rfl, rfl, rfl, rfl, rfl, rfl, rfl, rfl, rfl, rfl, rfl, rfl, rfl, rfl, rfl, rfl, rfl, rfl, rfl,
   fun _ => rfl, fun _ _ => rfl, fun _ _ => rfl, fun _ => rfl, fun _ => rfl, fun _ => rfl, fun _ => rfl, fun _ => rfl,
   fun _ => rfl, fun _ => rfl, fun _ => rfl, fun _ => rfl, fun _ => rfl, fun _ _ => rfl, rfl⟩

/-- What dropRegs leaves as it was. -/
@[simp] theorem State.dropRegs_keeps {p : Nat → Bool} :
    (s.dropRegs p).bank = s.bank ∧ (s.dropRegs p).hostMem = s.hostMem ∧ (s.dropRegs p).clk = s.clk ∧
    (s.dropRegs p).tap = s.tap ∧ (s.dropRegs p).crates = s.crates ∧ (s.dropRegs p).chans = s.chans ∧
    (s.dropRegs p).slices = s.slices ∧ (s.dropRegs p).shot = s.shot ∧ (s.dropRegs p).emits = s.emits ∧
    (s.dropRegs p).classes = s.classes ∧ (s.dropRegs p).chgs = s.chgs ∧ (s.dropRegs p).mons = s.mons ∧
    (s.dropRegs p).eye = s.eye ∧ (s.dropRegs p).motor = s.motor ∧ (s.dropRegs p).host = s.host ∧ (s.dropRegs p).reqs = s.reqs ∧
    (s.dropRegs p).rings = s.rings ∧ (s.dropRegs p).hk = s.hk ∧ (s.dropRegs p).saf = s.saf ∧ (s.dropRegs p).flt = s.flt ∧
    (s.dropRegs p).otp = s.otp ∧ (s.dropRegs p).free = s.free ∧ (s.dropRegs p).pending = s.pending ∧
    (∀ x : Nat, (s.dropRegs p).crate x = s.crate x) ∧ (∀ x y : Nat, (s.dropRegs p).chan x y = s.chan x y) ∧
    (∀ x y : Nat, (s.dropRegs p).slice x y = s.slice x y) ∧ (∀ x : Nat, (s.dropRegs p).emit x = s.emit x) ∧
    (∀ x : Nat, (s.dropRegs p).chg x = s.chg x) ∧ (∀ x : Nat, (s.dropRegs p).mon x = s.mon x) ∧
    (∀ x : RingId, (s.dropRegs p).ring x = s.ring x) ∧ (∀ x : Src, (s.dropRegs p).req x = s.req x) ∧
    (∀ x : Nat, (s.dropRegs p).pair x = s.pair x) ∧ (∀ x : Nat, (s.dropRegs p).out x = s.out x) ∧
    (∀ x : Nat, (s.dropRegs p).sto x = s.sto x) ∧ (∀ x : Nat, (s.dropRegs p).zone x = s.zone x) ∧
    (∀ x : Nat, (s.dropRegs p).hostByte x = s.hostByte x) ∧ (∀ x y : Nat, (s.dropRegs p).bankByte x y = s.bankByte x y) ∧
    (s.dropRegs p).running = s.running :=
  ⟨rfl, rfl, rfl, rfl, rfl, rfl, rfl, rfl, rfl, rfl, rfl, rfl, rfl, rfl, rfl, rfl, rfl, rfl, rfl, rfl, rfl, rfl, rfl,
   fun _ => rfl, fun _ _ => rfl, fun _ _ => rfl, fun _ => rfl, fun _ => rfl, fun _ => rfl, fun _ => rfl, fun _ => rfl,
   fun _ => rfl, fun _ => rfl, fun _ => rfl, fun _ => rfl, fun _ => rfl, fun _ _ => rfl, rfl⟩

/-- What setCrate leaves as it was. -/
@[simp] theorem State.setCrate_keeps {c : Nat} {v : Crate} :
    (s.setCrate c v).regs = s.regs ∧ (s.setCrate c v).bank = s.bank ∧ (s.setCrate c v).hostMem = s.hostMem ∧
    (s.setCrate c v).clk = s.clk ∧ (s.setCrate c v).tap = s.tap ∧ (s.setCrate c v).chans = s.chans ∧
    (s.setCrate c v).slices = s.slices ∧ (s.setCrate c v).shot = s.shot ∧ (s.setCrate c v).emits = s.emits ∧
    (s.setCrate c v).classes = s.classes ∧ (s.setCrate c v).chgs = s.chgs ∧ (s.setCrate c v).mons = s.mons ∧
    (s.setCrate c v).eye = s.eye ∧ (s.setCrate c v).motor = s.motor ∧ (s.setCrate c v).host = s.host ∧
    (s.setCrate c v).reqs = s.reqs ∧ (s.setCrate c v).rings = s.rings ∧ (s.setCrate c v).hk = s.hk ∧
    (s.setCrate c v).saf = s.saf ∧ (s.setCrate c v).flt = s.flt ∧ (s.setCrate c v).otp = s.otp ∧
    (s.setCrate c v).free = s.free ∧ (s.setCrate c v).pending = s.pending ∧ (∀ x : Nat, (s.setCrate c v).reg x = s.reg x) ∧
    (∀ x : FRef, (s.setCrate c v).rd x = s.rd x) ∧ (∀ x : FRef, (s.setCrate c v).flag x = s.flag x) ∧
    (∀ x : FRef, (s.setCrate c v).rdInt x = s.rdInt x) ∧ (∀ x y : Nat, (s.setCrate c v).chan x y = s.chan x y) ∧
    (∀ x y : Nat, (s.setCrate c v).slice x y = s.slice x y) ∧ (∀ x : Nat, (s.setCrate c v).emit x = s.emit x) ∧
    (∀ x : Nat, (s.setCrate c v).chg x = s.chg x) ∧ (∀ x : Nat, (s.setCrate c v).mon x = s.mon x) ∧
    (∀ x : RingId, (s.setCrate c v).ring x = s.ring x) ∧ (∀ x : Src, (s.setCrate c v).req x = s.req x) ∧
    (∀ x : Nat, (s.setCrate c v).pair x = s.pair x) ∧ (∀ x : Nat, (s.setCrate c v).out x = s.out x) ∧
    (∀ x : Nat, (s.setCrate c v).sto x = s.sto x) ∧ (∀ x : Nat, (s.setCrate c v).zone x = s.zone x) ∧
    (∀ x : Nat, (s.setCrate c v).hostByte x = s.hostByte x) ∧ (∀ x y : Nat, (s.setCrate c v).bankByte x y = s.bankByte x y) ∧
    (s.setCrate c v).running = s.running :=
  ⟨rfl, rfl, rfl, rfl, rfl, rfl, rfl, rfl, rfl, rfl, rfl, rfl, rfl, rfl, rfl, rfl, rfl, rfl, rfl, rfl, rfl, rfl, rfl,
   fun _ => rfl, fun _ => rfl, fun _ => rfl, fun _ => rfl, fun _ _ => rfl, fun _ _ => rfl, fun _ => rfl, fun _ => rfl,
   fun _ => rfl, fun _ => rfl, fun _ => rfl, fun _ => rfl, fun _ => rfl, fun _ => rfl, fun _ => rfl, fun _ => rfl,
   fun _ _ => rfl, rfl⟩

/-- What modCrate leaves as it was. -/
@[simp] theorem State.modCrate_keeps {c : Nat} {f : Crate → Crate} :
    (s.modCrate c f).regs = s.regs ∧ (s.modCrate c f).bank = s.bank ∧ (s.modCrate c f).hostMem = s.hostMem ∧
    (s.modCrate c f).clk = s.clk ∧ (s.modCrate c f).tap = s.tap ∧ (s.modCrate c f).chans = s.chans ∧
    (s.modCrate c f).slices = s.slices ∧ (s.modCrate c f).shot = s.shot ∧ (s.modCrate c f).emits = s.emits ∧
    (s.modCrate c f).classes = s.classes ∧ (s.modCrate c f).chgs = s.chgs ∧ (s.modCrate c f).mons = s.mons ∧
    (s.modCrate c f).eye = s.eye ∧ (s.modCrate c f).motor = s.motor ∧ (s.modCrate c f).host = s.host ∧
    (s.modCrate c f).reqs = s.reqs ∧ (s.modCrate c f).rings = s.rings ∧ (s.modCrate c f).hk = s.hk ∧
    (s.modCrate c f).saf = s.saf ∧ (s.modCrate c f).flt = s.flt ∧ (s.modCrate c f).otp = s.otp ∧
    (s.modCrate c f).free = s.free ∧ (s.modCrate c f).pending = s.pending ∧ (∀ x : Nat, (s.modCrate c f).reg x = s.reg x) ∧
    (∀ x : FRef, (s.modCrate c f).rd x = s.rd x) ∧ (∀ x : FRef, (s.modCrate c f).flag x = s.flag x) ∧
    (∀ x : FRef, (s.modCrate c f).rdInt x = s.rdInt x) ∧ (∀ x y : Nat, (s.modCrate c f).chan x y = s.chan x y) ∧
    (∀ x y : Nat, (s.modCrate c f).slice x y = s.slice x y) ∧ (∀ x : Nat, (s.modCrate c f).emit x = s.emit x) ∧
    (∀ x : Nat, (s.modCrate c f).chg x = s.chg x) ∧ (∀ x : Nat, (s.modCrate c f).mon x = s.mon x) ∧
    (∀ x : RingId, (s.modCrate c f).ring x = s.ring x) ∧ (∀ x : Src, (s.modCrate c f).req x = s.req x) ∧
    (∀ x : Nat, (s.modCrate c f).pair x = s.pair x) ∧ (∀ x : Nat, (s.modCrate c f).out x = s.out x) ∧
    (∀ x : Nat, (s.modCrate c f).sto x = s.sto x) ∧ (∀ x : Nat, (s.modCrate c f).zone x = s.zone x) ∧
    (∀ x : Nat, (s.modCrate c f).hostByte x = s.hostByte x) ∧ (∀ x y : Nat, (s.modCrate c f).bankByte x y = s.bankByte x y) ∧
    (s.modCrate c f).running = s.running :=
  ⟨rfl, rfl, rfl, rfl, rfl, rfl, rfl, rfl, rfl, rfl, rfl, rfl, rfl, rfl, rfl, rfl, rfl, rfl, rfl, rfl, rfl, rfl, rfl,
   fun _ => rfl, fun _ => rfl, fun _ => rfl, fun _ => rfl, fun _ _ => rfl, fun _ _ => rfl, fun _ => rfl, fun _ => rfl,
   fun _ => rfl, fun _ => rfl, fun _ => rfl, fun _ => rfl, fun _ => rfl, fun _ => rfl, fun _ => rfl, fun _ => rfl,
   fun _ _ => rfl, rfl⟩

/-- What setChan leaves as it was. -/
@[simp] theorem State.setChan_keeps {c k : Nat} {v : Chan} :
    (s.setChan c k v).regs = s.regs ∧ (s.setChan c k v).bank = s.bank ∧ (s.setChan c k v).hostMem = s.hostMem ∧
    (s.setChan c k v).clk = s.clk ∧ (s.setChan c k v).tap = s.tap ∧ (s.setChan c k v).crates = s.crates ∧
    (s.setChan c k v).slices = s.slices ∧ (s.setChan c k v).shot = s.shot ∧ (s.setChan c k v).emits = s.emits ∧
    (s.setChan c k v).classes = s.classes ∧ (s.setChan c k v).chgs = s.chgs ∧ (s.setChan c k v).mons = s.mons ∧
    (s.setChan c k v).eye = s.eye ∧ (s.setChan c k v).motor = s.motor ∧ (s.setChan c k v).host = s.host ∧
    (s.setChan c k v).reqs = s.reqs ∧ (s.setChan c k v).rings = s.rings ∧ (s.setChan c k v).hk = s.hk ∧
    (s.setChan c k v).saf = s.saf ∧ (s.setChan c k v).flt = s.flt ∧ (s.setChan c k v).otp = s.otp ∧
    (s.setChan c k v).free = s.free ∧ (s.setChan c k v).pending = s.pending ∧ (∀ x : Nat, (s.setChan c k v).reg x = s.reg x) ∧
    (∀ x : FRef, (s.setChan c k v).rd x = s.rd x) ∧ (∀ x : FRef, (s.setChan c k v).flag x = s.flag x) ∧
    (∀ x : FRef, (s.setChan c k v).rdInt x = s.rdInt x) ∧ (∀ x : Nat, (s.setChan c k v).crate x = s.crate x) ∧
    (∀ x y : Nat, (s.setChan c k v).slice x y = s.slice x y) ∧ (∀ x : Nat, (s.setChan c k v).emit x = s.emit x) ∧
    (∀ x : Nat, (s.setChan c k v).chg x = s.chg x) ∧ (∀ x : Nat, (s.setChan c k v).mon x = s.mon x) ∧
    (∀ x : RingId, (s.setChan c k v).ring x = s.ring x) ∧ (∀ x : Src, (s.setChan c k v).req x = s.req x) ∧
    (∀ x : Nat, (s.setChan c k v).pair x = s.pair x) ∧ (∀ x : Nat, (s.setChan c k v).out x = s.out x) ∧
    (∀ x : Nat, (s.setChan c k v).sto x = s.sto x) ∧ (∀ x : Nat, (s.setChan c k v).zone x = s.zone x) ∧
    (∀ x : Nat, (s.setChan c k v).hostByte x = s.hostByte x) ∧ (∀ x y : Nat, (s.setChan c k v).bankByte x y = s.bankByte x y) ∧
    (s.setChan c k v).running = s.running :=
  ⟨rfl, rfl, rfl, rfl, rfl, rfl, rfl, rfl, rfl, rfl, rfl, rfl, rfl, rfl, rfl, rfl, rfl, rfl, rfl, rfl, rfl, rfl, rfl,
   fun _ => rfl, fun _ => rfl, fun _ => rfl, fun _ => rfl, fun _ => rfl, fun _ _ => rfl, fun _ => rfl, fun _ => rfl,
   fun _ => rfl, fun _ => rfl, fun _ => rfl, fun _ => rfl, fun _ => rfl, fun _ => rfl, fun _ => rfl, fun _ => rfl,
   fun _ _ => rfl, rfl⟩

/-- What modChan leaves as it was. -/
@[simp] theorem State.modChan_keeps {c k : Nat} {f : Chan → Chan} :
    (s.modChan c k f).regs = s.regs ∧ (s.modChan c k f).bank = s.bank ∧ (s.modChan c k f).hostMem = s.hostMem ∧
    (s.modChan c k f).clk = s.clk ∧ (s.modChan c k f).tap = s.tap ∧ (s.modChan c k f).crates = s.crates ∧
    (s.modChan c k f).slices = s.slices ∧ (s.modChan c k f).shot = s.shot ∧ (s.modChan c k f).emits = s.emits ∧
    (s.modChan c k f).classes = s.classes ∧ (s.modChan c k f).chgs = s.chgs ∧ (s.modChan c k f).mons = s.mons ∧
    (s.modChan c k f).eye = s.eye ∧ (s.modChan c k f).motor = s.motor ∧ (s.modChan c k f).host = s.host ∧
    (s.modChan c k f).reqs = s.reqs ∧ (s.modChan c k f).rings = s.rings ∧ (s.modChan c k f).hk = s.hk ∧
    (s.modChan c k f).saf = s.saf ∧ (s.modChan c k f).flt = s.flt ∧ (s.modChan c k f).otp = s.otp ∧
    (s.modChan c k f).free = s.free ∧ (s.modChan c k f).pending = s.pending ∧ (∀ x : Nat, (s.modChan c k f).reg x = s.reg x) ∧
    (∀ x : FRef, (s.modChan c k f).rd x = s.rd x) ∧ (∀ x : FRef, (s.modChan c k f).flag x = s.flag x) ∧
    (∀ x : FRef, (s.modChan c k f).rdInt x = s.rdInt x) ∧ (∀ x : Nat, (s.modChan c k f).crate x = s.crate x) ∧
    (∀ x y : Nat, (s.modChan c k f).slice x y = s.slice x y) ∧ (∀ x : Nat, (s.modChan c k f).emit x = s.emit x) ∧
    (∀ x : Nat, (s.modChan c k f).chg x = s.chg x) ∧ (∀ x : Nat, (s.modChan c k f).mon x = s.mon x) ∧
    (∀ x : RingId, (s.modChan c k f).ring x = s.ring x) ∧ (∀ x : Src, (s.modChan c k f).req x = s.req x) ∧
    (∀ x : Nat, (s.modChan c k f).pair x = s.pair x) ∧ (∀ x : Nat, (s.modChan c k f).out x = s.out x) ∧
    (∀ x : Nat, (s.modChan c k f).sto x = s.sto x) ∧ (∀ x : Nat, (s.modChan c k f).zone x = s.zone x) ∧
    (∀ x : Nat, (s.modChan c k f).hostByte x = s.hostByte x) ∧ (∀ x y : Nat, (s.modChan c k f).bankByte x y = s.bankByte x y) ∧
    (s.modChan c k f).running = s.running :=
  ⟨rfl, rfl, rfl, rfl, rfl, rfl, rfl, rfl, rfl, rfl, rfl, rfl, rfl, rfl, rfl, rfl, rfl, rfl, rfl, rfl, rfl, rfl, rfl,
   fun _ => rfl, fun _ => rfl, fun _ => rfl, fun _ => rfl, fun _ => rfl, fun _ _ => rfl, fun _ => rfl, fun _ => rfl,
   fun _ => rfl, fun _ => rfl, fun _ => rfl, fun _ => rfl, fun _ => rfl, fun _ => rfl, fun _ => rfl, fun _ => rfl,
   fun _ _ => rfl, rfl⟩

/-- What setSlice leaves as it was. -/
@[simp] theorem State.setSlice_keeps {c i : Nat} {v : Slice} :
    (s.setSlice c i v).regs = s.regs ∧ (s.setSlice c i v).bank = s.bank ∧ (s.setSlice c i v).hostMem = s.hostMem ∧
    (s.setSlice c i v).clk = s.clk ∧ (s.setSlice c i v).tap = s.tap ∧ (s.setSlice c i v).crates = s.crates ∧
    (s.setSlice c i v).chans = s.chans ∧ (s.setSlice c i v).shot = s.shot ∧ (s.setSlice c i v).emits = s.emits ∧
    (s.setSlice c i v).classes = s.classes ∧ (s.setSlice c i v).chgs = s.chgs ∧ (s.setSlice c i v).mons = s.mons ∧
    (s.setSlice c i v).eye = s.eye ∧ (s.setSlice c i v).motor = s.motor ∧ (s.setSlice c i v).host = s.host ∧
    (s.setSlice c i v).reqs = s.reqs ∧ (s.setSlice c i v).rings = s.rings ∧ (s.setSlice c i v).hk = s.hk ∧
    (s.setSlice c i v).saf = s.saf ∧ (s.setSlice c i v).flt = s.flt ∧ (s.setSlice c i v).otp = s.otp ∧
    (s.setSlice c i v).free = s.free ∧ (s.setSlice c i v).pending = s.pending ∧
    (∀ x : Nat, (s.setSlice c i v).reg x = s.reg x) ∧ (∀ x : FRef, (s.setSlice c i v).rd x = s.rd x) ∧
    (∀ x : FRef, (s.setSlice c i v).flag x = s.flag x) ∧ (∀ x : FRef, (s.setSlice c i v).rdInt x = s.rdInt x) ∧
    (∀ x : Nat, (s.setSlice c i v).crate x = s.crate x) ∧ (∀ x y : Nat, (s.setSlice c i v).chan x y = s.chan x y) ∧
    (∀ x : Nat, (s.setSlice c i v).emit x = s.emit x) ∧ (∀ x : Nat, (s.setSlice c i v).chg x = s.chg x) ∧
    (∀ x : Nat, (s.setSlice c i v).mon x = s.mon x) ∧ (∀ x : RingId, (s.setSlice c i v).ring x = s.ring x) ∧
    (∀ x : Src, (s.setSlice c i v).req x = s.req x) ∧ (∀ x : Nat, (s.setSlice c i v).pair x = s.pair x) ∧
    (∀ x : Nat, (s.setSlice c i v).out x = s.out x) ∧ (∀ x : Nat, (s.setSlice c i v).sto x = s.sto x) ∧
    (∀ x : Nat, (s.setSlice c i v).zone x = s.zone x) ∧ (∀ x : Nat, (s.setSlice c i v).hostByte x = s.hostByte x) ∧
    (∀ x y : Nat, (s.setSlice c i v).bankByte x y = s.bankByte x y) ∧ (s.setSlice c i v).running = s.running :=
  ⟨rfl, rfl, rfl, rfl, rfl, rfl, rfl, rfl, rfl, rfl, rfl, rfl, rfl, rfl, rfl, rfl, rfl, rfl, rfl, rfl, rfl, rfl, rfl,
   fun _ => rfl, fun _ => rfl, fun _ => rfl, fun _ => rfl, fun _ => rfl, fun _ _ => rfl, fun _ => rfl, fun _ => rfl,
   fun _ => rfl, fun _ => rfl, fun _ => rfl, fun _ => rfl, fun _ => rfl, fun _ => rfl, fun _ => rfl, fun _ => rfl,
   fun _ _ => rfl, rfl⟩

/-- What modSlice leaves as it was. -/
@[simp] theorem State.modSlice_keeps {c i : Nat} {f : Slice → Slice} :
    (s.modSlice c i f).regs = s.regs ∧ (s.modSlice c i f).bank = s.bank ∧ (s.modSlice c i f).hostMem = s.hostMem ∧
    (s.modSlice c i f).clk = s.clk ∧ (s.modSlice c i f).tap = s.tap ∧ (s.modSlice c i f).crates = s.crates ∧
    (s.modSlice c i f).chans = s.chans ∧ (s.modSlice c i f).shot = s.shot ∧ (s.modSlice c i f).emits = s.emits ∧
    (s.modSlice c i f).classes = s.classes ∧ (s.modSlice c i f).chgs = s.chgs ∧ (s.modSlice c i f).mons = s.mons ∧
    (s.modSlice c i f).eye = s.eye ∧ (s.modSlice c i f).motor = s.motor ∧ (s.modSlice c i f).host = s.host ∧
    (s.modSlice c i f).reqs = s.reqs ∧ (s.modSlice c i f).rings = s.rings ∧ (s.modSlice c i f).hk = s.hk ∧
    (s.modSlice c i f).saf = s.saf ∧ (s.modSlice c i f).flt = s.flt ∧ (s.modSlice c i f).otp = s.otp ∧
    (s.modSlice c i f).free = s.free ∧ (s.modSlice c i f).pending = s.pending ∧
    (∀ x : Nat, (s.modSlice c i f).reg x = s.reg x) ∧ (∀ x : FRef, (s.modSlice c i f).rd x = s.rd x) ∧
    (∀ x : FRef, (s.modSlice c i f).flag x = s.flag x) ∧ (∀ x : FRef, (s.modSlice c i f).rdInt x = s.rdInt x) ∧
    (∀ x : Nat, (s.modSlice c i f).crate x = s.crate x) ∧ (∀ x y : Nat, (s.modSlice c i f).chan x y = s.chan x y) ∧
    (∀ x : Nat, (s.modSlice c i f).emit x = s.emit x) ∧ (∀ x : Nat, (s.modSlice c i f).chg x = s.chg x) ∧
    (∀ x : Nat, (s.modSlice c i f).mon x = s.mon x) ∧ (∀ x : RingId, (s.modSlice c i f).ring x = s.ring x) ∧
    (∀ x : Src, (s.modSlice c i f).req x = s.req x) ∧ (∀ x : Nat, (s.modSlice c i f).pair x = s.pair x) ∧
    (∀ x : Nat, (s.modSlice c i f).out x = s.out x) ∧ (∀ x : Nat, (s.modSlice c i f).sto x = s.sto x) ∧
    (∀ x : Nat, (s.modSlice c i f).zone x = s.zone x) ∧ (∀ x : Nat, (s.modSlice c i f).hostByte x = s.hostByte x) ∧
    (∀ x y : Nat, (s.modSlice c i f).bankByte x y = s.bankByte x y) ∧ (s.modSlice c i f).running = s.running :=
  ⟨rfl, rfl, rfl, rfl, rfl, rfl, rfl, rfl, rfl, rfl, rfl, rfl, rfl, rfl, rfl, rfl, rfl, rfl, rfl, rfl, rfl, rfl, rfl,
   fun _ => rfl, fun _ => rfl, fun _ => rfl, fun _ => rfl, fun _ => rfl, fun _ _ => rfl, fun _ => rfl, fun _ => rfl,
   fun _ => rfl, fun _ => rfl, fun _ => rfl, fun _ => rfl, fun _ => rfl, fun _ => rfl, fun _ => rfl, fun _ => rfl,
   fun _ _ => rfl, rfl⟩

/-- What modEmit leaves as it was. -/
@[simp] theorem State.modEmit_keeps {e : Nat} {f : Emit → Emit} :
    (s.modEmit e f).regs = s.regs ∧ (s.modEmit e f).bank = s.bank ∧ (s.modEmit e f).hostMem = s.hostMem ∧
    (s.modEmit e f).clk = s.clk ∧ (s.modEmit e f).tap = s.tap ∧ (s.modEmit e f).crates = s.crates ∧
    (s.modEmit e f).chans = s.chans ∧ (s.modEmit e f).slices = s.slices ∧ (s.modEmit e f).shot = s.shot ∧
    (s.modEmit e f).classes = s.classes ∧ (s.modEmit e f).chgs = s.chgs ∧ (s.modEmit e f).mons = s.mons ∧
    (s.modEmit e f).eye = s.eye ∧ (s.modEmit e f).motor = s.motor ∧ (s.modEmit e f).host = s.host ∧
    (s.modEmit e f).reqs = s.reqs ∧ (s.modEmit e f).rings = s.rings ∧ (s.modEmit e f).hk = s.hk ∧ (s.modEmit e f).saf = s.saf ∧
    (s.modEmit e f).flt = s.flt ∧ (s.modEmit e f).otp = s.otp ∧ (s.modEmit e f).free = s.free ∧
    (s.modEmit e f).pending = s.pending ∧ (∀ x : Nat, (s.modEmit e f).reg x = s.reg x) ∧
    (∀ x : FRef, (s.modEmit e f).rd x = s.rd x) ∧ (∀ x : FRef, (s.modEmit e f).flag x = s.flag x) ∧
    (∀ x : FRef, (s.modEmit e f).rdInt x = s.rdInt x) ∧ (∀ x : Nat, (s.modEmit e f).crate x = s.crate x) ∧
    (∀ x y : Nat, (s.modEmit e f).chan x y = s.chan x y) ∧ (∀ x y : Nat, (s.modEmit e f).slice x y = s.slice x y) ∧
    (∀ x : Nat, (s.modEmit e f).chg x = s.chg x) ∧ (∀ x : Nat, (s.modEmit e f).mon x = s.mon x) ∧
    (∀ x : RingId, (s.modEmit e f).ring x = s.ring x) ∧ (∀ x : Src, (s.modEmit e f).req x = s.req x) ∧
    (∀ x : Nat, (s.modEmit e f).pair x = s.pair x) ∧ (∀ x : Nat, (s.modEmit e f).out x = s.out x) ∧
    (∀ x : Nat, (s.modEmit e f).sto x = s.sto x) ∧ (∀ x : Nat, (s.modEmit e f).zone x = s.zone x) ∧
    (∀ x : Nat, (s.modEmit e f).hostByte x = s.hostByte x) ∧ (∀ x y : Nat, (s.modEmit e f).bankByte x y = s.bankByte x y) ∧
    (s.modEmit e f).running = s.running :=
  ⟨rfl, rfl, rfl, rfl, rfl, rfl, rfl, rfl, rfl, rfl, rfl, rfl, rfl, rfl, rfl, rfl, rfl, rfl, rfl, rfl, rfl, rfl, rfl,
   fun _ => rfl, fun _ => rfl, fun _ => rfl, fun _ => rfl, fun _ => rfl, fun _ _ => rfl, fun _ _ => rfl, fun _ => rfl,
   fun _ => rfl, fun _ => rfl, fun _ => rfl, fun _ => rfl, fun _ => rfl, fun _ => rfl, fun _ => rfl, fun _ => rfl,
   fun _ _ => rfl, rfl⟩

/-- What modChg leaves as it was. -/
@[simp] theorem State.modChg_keeps {e : Nat} {f : Chg → Chg} :
    (s.modChg e f).regs = s.regs ∧ (s.modChg e f).bank = s.bank ∧ (s.modChg e f).hostMem = s.hostMem ∧
    (s.modChg e f).clk = s.clk ∧ (s.modChg e f).tap = s.tap ∧ (s.modChg e f).crates = s.crates ∧
    (s.modChg e f).chans = s.chans ∧ (s.modChg e f).slices = s.slices ∧ (s.modChg e f).shot = s.shot ∧
    (s.modChg e f).emits = s.emits ∧ (s.modChg e f).classes = s.classes ∧ (s.modChg e f).mons = s.mons ∧
    (s.modChg e f).eye = s.eye ∧ (s.modChg e f).motor = s.motor ∧ (s.modChg e f).host = s.host ∧ (s.modChg e f).reqs = s.reqs ∧
    (s.modChg e f).rings = s.rings ∧ (s.modChg e f).hk = s.hk ∧ (s.modChg e f).saf = s.saf ∧ (s.modChg e f).flt = s.flt ∧
    (s.modChg e f).otp = s.otp ∧ (s.modChg e f).free = s.free ∧ (s.modChg e f).pending = s.pending ∧
    (∀ x : Nat, (s.modChg e f).reg x = s.reg x) ∧ (∀ x : FRef, (s.modChg e f).rd x = s.rd x) ∧
    (∀ x : FRef, (s.modChg e f).flag x = s.flag x) ∧ (∀ x : FRef, (s.modChg e f).rdInt x = s.rdInt x) ∧
    (∀ x : Nat, (s.modChg e f).crate x = s.crate x) ∧ (∀ x y : Nat, (s.modChg e f).chan x y = s.chan x y) ∧
    (∀ x y : Nat, (s.modChg e f).slice x y = s.slice x y) ∧ (∀ x : Nat, (s.modChg e f).emit x = s.emit x) ∧
    (∀ x : Nat, (s.modChg e f).mon x = s.mon x) ∧ (∀ x : RingId, (s.modChg e f).ring x = s.ring x) ∧
    (∀ x : Src, (s.modChg e f).req x = s.req x) ∧ (∀ x : Nat, (s.modChg e f).pair x = s.pair x) ∧
    (∀ x : Nat, (s.modChg e f).out x = s.out x) ∧ (∀ x : Nat, (s.modChg e f).sto x = s.sto x) ∧
    (∀ x : Nat, (s.modChg e f).zone x = s.zone x) ∧ (∀ x : Nat, (s.modChg e f).hostByte x = s.hostByte x) ∧
    (∀ x y : Nat, (s.modChg e f).bankByte x y = s.bankByte x y) ∧ (s.modChg e f).running = s.running :=
  ⟨rfl, rfl, rfl, rfl, rfl, rfl, rfl, rfl, rfl, rfl, rfl, rfl, rfl, rfl, rfl, rfl, rfl, rfl, rfl, rfl, rfl, rfl, rfl,
   fun _ => rfl, fun _ => rfl, fun _ => rfl, fun _ => rfl, fun _ => rfl, fun _ _ => rfl, fun _ _ => rfl, fun _ => rfl,
   fun _ => rfl, fun _ => rfl, fun _ => rfl, fun _ => rfl, fun _ => rfl, fun _ => rfl, fun _ => rfl, fun _ => rfl,
   fun _ _ => rfl, rfl⟩

/-- What modMon leaves as it was. -/
@[simp] theorem State.modMon_keeps {m : Nat} {f : Mon → Mon} :
    (s.modMon m f).regs = s.regs ∧ (s.modMon m f).bank = s.bank ∧ (s.modMon m f).hostMem = s.hostMem ∧
    (s.modMon m f).clk = s.clk ∧ (s.modMon m f).tap = s.tap ∧ (s.modMon m f).crates = s.crates ∧
    (s.modMon m f).chans = s.chans ∧ (s.modMon m f).slices = s.slices ∧ (s.modMon m f).shot = s.shot ∧
    (s.modMon m f).emits = s.emits ∧ (s.modMon m f).classes = s.classes ∧ (s.modMon m f).chgs = s.chgs ∧
    (s.modMon m f).eye = s.eye ∧ (s.modMon m f).motor = s.motor ∧ (s.modMon m f).host = s.host ∧ (s.modMon m f).reqs = s.reqs ∧
    (s.modMon m f).rings = s.rings ∧ (s.modMon m f).hk = s.hk ∧ (s.modMon m f).saf = s.saf ∧ (s.modMon m f).flt = s.flt ∧
    (s.modMon m f).otp = s.otp ∧ (s.modMon m f).free = s.free ∧ (s.modMon m f).pending = s.pending ∧
    (∀ x : Nat, (s.modMon m f).reg x = s.reg x) ∧ (∀ x : FRef, (s.modMon m f).rd x = s.rd x) ∧
    (∀ x : FRef, (s.modMon m f).flag x = s.flag x) ∧ (∀ x : FRef, (s.modMon m f).rdInt x = s.rdInt x) ∧
    (∀ x : Nat, (s.modMon m f).crate x = s.crate x) ∧ (∀ x y : Nat, (s.modMon m f).chan x y = s.chan x y) ∧
    (∀ x y : Nat, (s.modMon m f).slice x y = s.slice x y) ∧ (∀ x : Nat, (s.modMon m f).emit x = s.emit x) ∧
    (∀ x : Nat, (s.modMon m f).chg x = s.chg x) ∧ (∀ x : RingId, (s.modMon m f).ring x = s.ring x) ∧
    (∀ x : Src, (s.modMon m f).req x = s.req x) ∧ (∀ x : Nat, (s.modMon m f).pair x = s.pair x) ∧
    (∀ x : Nat, (s.modMon m f).out x = s.out x) ∧ (∀ x : Nat, (s.modMon m f).sto x = s.sto x) ∧
    (∀ x : Nat, (s.modMon m f).zone x = s.zone x) ∧ (∀ x : Nat, (s.modMon m f).hostByte x = s.hostByte x) ∧
    (∀ x y : Nat, (s.modMon m f).bankByte x y = s.bankByte x y) ∧ (s.modMon m f).running = s.running :=
  ⟨rfl, rfl, rfl, rfl, rfl, rfl, rfl, rfl, rfl, rfl, rfl, rfl, rfl, rfl, rfl, rfl, rfl, rfl, rfl, rfl, rfl, rfl, rfl,
   fun _ => rfl, fun _ => rfl, fun _ => rfl, fun _ => rfl, fun _ => rfl, fun _ _ => rfl, fun _ _ => rfl, fun _ => rfl,
   fun _ => rfl, fun _ => rfl, fun _ => rfl, fun _ => rfl, fun _ => rfl, fun _ => rfl, fun _ => rfl, fun _ => rfl,
   fun _ _ => rfl, rfl⟩

/-- What setRing leaves as it was. -/
@[simp] theorem State.setRing_keeps {r : RingId} {v : Ring} :
    (s.setRing r v).regs = s.regs ∧ (s.setRing r v).bank = s.bank ∧ (s.setRing r v).hostMem = s.hostMem ∧
    (s.setRing r v).clk = s.clk ∧ (s.setRing r v).tap = s.tap ∧ (s.setRing r v).crates = s.crates ∧
    (s.setRing r v).chans = s.chans ∧ (s.setRing r v).slices = s.slices ∧ (s.setRing r v).shot = s.shot ∧
    (s.setRing r v).emits = s.emits ∧ (s.setRing r v).classes = s.classes ∧ (s.setRing r v).chgs = s.chgs ∧
    (s.setRing r v).mons = s.mons ∧ (s.setRing r v).eye = s.eye ∧ (s.setRing r v).motor = s.motor ∧
    (s.setRing r v).host = s.host ∧ (s.setRing r v).reqs = s.reqs ∧ (s.setRing r v).hk = s.hk ∧ (s.setRing r v).saf = s.saf ∧
    (s.setRing r v).flt = s.flt ∧ (s.setRing r v).otp = s.otp ∧ (s.setRing r v).free = s.free ∧
    (s.setRing r v).pending = s.pending ∧ (∀ x : Nat, (s.setRing r v).reg x = s.reg x) ∧
    (∀ x : FRef, (s.setRing r v).rd x = s.rd x) ∧ (∀ x : FRef, (s.setRing r v).flag x = s.flag x) ∧
    (∀ x : FRef, (s.setRing r v).rdInt x = s.rdInt x) ∧ (∀ x : Nat, (s.setRing r v).crate x = s.crate x) ∧
    (∀ x y : Nat, (s.setRing r v).chan x y = s.chan x y) ∧ (∀ x y : Nat, (s.setRing r v).slice x y = s.slice x y) ∧
    (∀ x : Nat, (s.setRing r v).emit x = s.emit x) ∧ (∀ x : Nat, (s.setRing r v).chg x = s.chg x) ∧
    (∀ x : Nat, (s.setRing r v).mon x = s.mon x) ∧ (∀ x : Src, (s.setRing r v).req x = s.req x) ∧
    (∀ x : Nat, (s.setRing r v).pair x = s.pair x) ∧ (∀ x : Nat, (s.setRing r v).out x = s.out x) ∧
    (∀ x : Nat, (s.setRing r v).sto x = s.sto x) ∧ (∀ x : Nat, (s.setRing r v).zone x = s.zone x) ∧
    (∀ x : Nat, (s.setRing r v).hostByte x = s.hostByte x) ∧ (∀ x y : Nat, (s.setRing r v).bankByte x y = s.bankByte x y) ∧
    (s.setRing r v).running = s.running :=
  ⟨rfl, rfl, rfl, rfl, rfl, rfl, rfl, rfl, rfl, rfl, rfl, rfl, rfl, rfl, rfl, rfl, rfl, rfl, rfl, rfl, rfl, rfl, rfl,
   fun _ => rfl, fun _ => rfl, fun _ => rfl, fun _ => rfl, fun _ => rfl, fun _ _ => rfl, fun _ _ => rfl, fun _ => rfl,
   fun _ => rfl, fun _ => rfl, fun _ => rfl, fun _ => rfl, fun _ => rfl, fun _ => rfl, fun _ => rfl, fun _ => rfl,
   fun _ _ => rfl, rfl⟩

/-- What modRing leaves as it was. -/
@[simp] theorem State.modRing_keeps {r : RingId} {f : Ring → Ring} :
    (s.modRing r f).regs = s.regs ∧ (s.modRing r f).bank = s.bank ∧ (s.modRing r f).hostMem = s.hostMem ∧
    (s.modRing r f).clk = s.clk ∧ (s.modRing r f).tap = s.tap ∧ (s.modRing r f).crates = s.crates ∧
    (s.modRing r f).chans = s.chans ∧ (s.modRing r f).slices = s.slices ∧ (s.modRing r f).shot = s.shot ∧
    (s.modRing r f).emits = s.emits ∧ (s.modRing r f).classes = s.classes ∧ (s.modRing r f).chgs = s.chgs ∧
    (s.modRing r f).mons = s.mons ∧ (s.modRing r f).eye = s.eye ∧ (s.modRing r f).motor = s.motor ∧
    (s.modRing r f).host = s.host ∧ (s.modRing r f).reqs = s.reqs ∧ (s.modRing r f).hk = s.hk ∧ (s.modRing r f).saf = s.saf ∧
    (s.modRing r f).flt = s.flt ∧ (s.modRing r f).otp = s.otp ∧ (s.modRing r f).free = s.free ∧
    (s.modRing r f).pending = s.pending ∧ (∀ x : Nat, (s.modRing r f).reg x = s.reg x) ∧
    (∀ x : FRef, (s.modRing r f).rd x = s.rd x) ∧ (∀ x : FRef, (s.modRing r f).flag x = s.flag x) ∧
    (∀ x : FRef, (s.modRing r f).rdInt x = s.rdInt x) ∧ (∀ x : Nat, (s.modRing r f).crate x = s.crate x) ∧
    (∀ x y : Nat, (s.modRing r f).chan x y = s.chan x y) ∧ (∀ x y : Nat, (s.modRing r f).slice x y = s.slice x y) ∧
    (∀ x : Nat, (s.modRing r f).emit x = s.emit x) ∧ (∀ x : Nat, (s.modRing r f).chg x = s.chg x) ∧
    (∀ x : Nat, (s.modRing r f).mon x = s.mon x) ∧ (∀ x : Src, (s.modRing r f).req x = s.req x) ∧
    (∀ x : Nat, (s.modRing r f).pair x = s.pair x) ∧ (∀ x : Nat, (s.modRing r f).out x = s.out x) ∧
    (∀ x : Nat, (s.modRing r f).sto x = s.sto x) ∧ (∀ x : Nat, (s.modRing r f).zone x = s.zone x) ∧
    (∀ x : Nat, (s.modRing r f).hostByte x = s.hostByte x) ∧ (∀ x y : Nat, (s.modRing r f).bankByte x y = s.bankByte x y) ∧
    (s.modRing r f).running = s.running :=
  ⟨rfl, rfl, rfl, rfl, rfl, rfl, rfl, rfl, rfl, rfl, rfl, rfl, rfl, rfl, rfl, rfl, rfl, rfl, rfl, rfl, rfl, rfl, rfl,
   fun _ => rfl, fun _ => rfl, fun _ => rfl, fun _ => rfl, fun _ => rfl, fun _ _ => rfl, fun _ _ => rfl, fun _ => rfl,
   fun _ => rfl, fun _ => rfl, fun _ => rfl, fun _ => rfl, fun _ => rfl, fun _ => rfl, fun _ => rfl, fun _ => rfl,
   fun _ _ => rfl, rfl⟩

/-- What modReq leaves as it was. -/
@[simp] theorem State.modReq_keeps {q : Src} {f : Req → Req} :
    (s.modReq q f).regs = s.regs ∧ (s.modReq q f).bank = s.bank ∧ (s.modReq q f).hostMem = s.hostMem ∧
    (s.modReq q f).clk = s.clk ∧ (s.modReq q f).tap = s.tap ∧ (s.modReq q f).crates = s.crates ∧
    (s.modReq q f).chans = s.chans ∧ (s.modReq q f).slices = s.slices ∧ (s.modReq q f).shot = s.shot ∧
    (s.modReq q f).emits = s.emits ∧ (s.modReq q f).classes = s.classes ∧ (s.modReq q f).chgs = s.chgs ∧
    (s.modReq q f).mons = s.mons ∧ (s.modReq q f).eye = s.eye ∧ (s.modReq q f).motor = s.motor ∧ (s.modReq q f).host = s.host ∧
    (s.modReq q f).rings = s.rings ∧ (s.modReq q f).hk = s.hk ∧ (s.modReq q f).saf = s.saf ∧ (s.modReq q f).flt = s.flt ∧
    (s.modReq q f).otp = s.otp ∧ (s.modReq q f).free = s.free ∧ (s.modReq q f).pending = s.pending ∧
    (∀ x : Nat, (s.modReq q f).reg x = s.reg x) ∧ (∀ x : FRef, (s.modReq q f).rd x = s.rd x) ∧
    (∀ x : FRef, (s.modReq q f).flag x = s.flag x) ∧ (∀ x : FRef, (s.modReq q f).rdInt x = s.rdInt x) ∧
    (∀ x : Nat, (s.modReq q f).crate x = s.crate x) ∧ (∀ x y : Nat, (s.modReq q f).chan x y = s.chan x y) ∧
    (∀ x y : Nat, (s.modReq q f).slice x y = s.slice x y) ∧ (∀ x : Nat, (s.modReq q f).emit x = s.emit x) ∧
    (∀ x : Nat, (s.modReq q f).chg x = s.chg x) ∧ (∀ x : Nat, (s.modReq q f).mon x = s.mon x) ∧
    (∀ x : RingId, (s.modReq q f).ring x = s.ring x) ∧ (∀ x : Nat, (s.modReq q f).pair x = s.pair x) ∧
    (∀ x : Nat, (s.modReq q f).out x = s.out x) ∧ (∀ x : Nat, (s.modReq q f).sto x = s.sto x) ∧
    (∀ x : Nat, (s.modReq q f).zone x = s.zone x) ∧ (∀ x : Nat, (s.modReq q f).hostByte x = s.hostByte x) ∧
    (∀ x y : Nat, (s.modReq q f).bankByte x y = s.bankByte x y) ∧ (s.modReq q f).running = s.running :=
  ⟨rfl, rfl, rfl, rfl, rfl, rfl, rfl, rfl, rfl, rfl, rfl, rfl, rfl, rfl, rfl, rfl, rfl, rfl, rfl, rfl, rfl, rfl, rfl,
   fun _ => rfl, fun _ => rfl, fun _ => rfl, fun _ => rfl, fun _ => rfl, fun _ _ => rfl, fun _ _ => rfl, fun _ => rfl,
   fun _ => rfl, fun _ => rfl, fun _ => rfl, fun _ => rfl, fun _ => rfl, fun _ => rfl, fun _ => rfl, fun _ => rfl,
   fun _ _ => rfl, rfl⟩

/-- What modPair leaves as it was. -/
@[simp] theorem State.modPair_keeps {i : Nat} {f : Pair → Pair} :
    (s.modPair i f).regs = s.regs ∧ (s.modPair i f).bank = s.bank ∧ (s.modPair i f).hostMem = s.hostMem ∧
    (s.modPair i f).clk = s.clk ∧ (s.modPair i f).tap = s.tap ∧ (s.modPair i f).crates = s.crates ∧
    (s.modPair i f).chans = s.chans ∧ (s.modPair i f).slices = s.slices ∧ (s.modPair i f).shot = s.shot ∧
    (s.modPair i f).emits = s.emits ∧ (s.modPair i f).classes = s.classes ∧ (s.modPair i f).chgs = s.chgs ∧
    (s.modPair i f).mons = s.mons ∧ (s.modPair i f).eye = s.eye ∧ (s.modPair i f).motor = s.motor ∧
    (s.modPair i f).host = s.host ∧ (s.modPair i f).reqs = s.reqs ∧ (s.modPair i f).rings = s.rings ∧
    (s.modPair i f).hk = s.hk ∧ (s.modPair i f).flt = s.flt ∧ (s.modPair i f).otp = s.otp ∧ (s.modPair i f).free = s.free ∧
    (s.modPair i f).pending = s.pending ∧ (∀ x : Nat, (s.modPair i f).reg x = s.reg x) ∧
    (∀ x : FRef, (s.modPair i f).rd x = s.rd x) ∧ (∀ x : FRef, (s.modPair i f).flag x = s.flag x) ∧
    (∀ x : FRef, (s.modPair i f).rdInt x = s.rdInt x) ∧ (∀ x : Nat, (s.modPair i f).crate x = s.crate x) ∧
    (∀ x y : Nat, (s.modPair i f).chan x y = s.chan x y) ∧ (∀ x y : Nat, (s.modPair i f).slice x y = s.slice x y) ∧
    (∀ x : Nat, (s.modPair i f).emit x = s.emit x) ∧ (∀ x : Nat, (s.modPair i f).chg x = s.chg x) ∧
    (∀ x : Nat, (s.modPair i f).mon x = s.mon x) ∧ (∀ x : RingId, (s.modPair i f).ring x = s.ring x) ∧
    (∀ x : Src, (s.modPair i f).req x = s.req x) ∧ (∀ x : Nat, (s.modPair i f).hostByte x = s.hostByte x) ∧
    (∀ x y : Nat, (s.modPair i f).bankByte x y = s.bankByte x y) ∧ (s.modPair i f).running = s.running :=
  ⟨rfl, rfl, rfl, rfl, rfl, rfl, rfl, rfl, rfl, rfl, rfl, rfl, rfl, rfl, rfl, rfl, rfl, rfl, rfl, rfl, rfl, rfl, rfl,
   fun _ => rfl, fun _ => rfl, fun _ => rfl, fun _ => rfl, fun _ => rfl, fun _ _ => rfl, fun _ _ => rfl, fun _ => rfl,
   fun _ => rfl, fun _ => rfl, fun _ => rfl, fun _ => rfl, fun _ => rfl, fun _ _ => rfl, rfl⟩

/-- What modOut leaves as it was. -/
@[simp] theorem State.modOut_keeps {o : Nat} {f : Out → Out} :
    (s.modOut o f).regs = s.regs ∧ (s.modOut o f).bank = s.bank ∧ (s.modOut o f).hostMem = s.hostMem ∧
    (s.modOut o f).clk = s.clk ∧ (s.modOut o f).tap = s.tap ∧ (s.modOut o f).crates = s.crates ∧
    (s.modOut o f).chans = s.chans ∧ (s.modOut o f).slices = s.slices ∧ (s.modOut o f).shot = s.shot ∧
    (s.modOut o f).emits = s.emits ∧ (s.modOut o f).classes = s.classes ∧ (s.modOut o f).chgs = s.chgs ∧
    (s.modOut o f).mons = s.mons ∧ (s.modOut o f).eye = s.eye ∧ (s.modOut o f).motor = s.motor ∧ (s.modOut o f).host = s.host ∧
    (s.modOut o f).reqs = s.reqs ∧ (s.modOut o f).rings = s.rings ∧ (s.modOut o f).hk = s.hk ∧ (s.modOut o f).flt = s.flt ∧
    (s.modOut o f).otp = s.otp ∧ (s.modOut o f).free = s.free ∧ (s.modOut o f).pending = s.pending ∧
    (∀ x : Nat, (s.modOut o f).reg x = s.reg x) ∧ (∀ x : FRef, (s.modOut o f).rd x = s.rd x) ∧
    (∀ x : FRef, (s.modOut o f).flag x = s.flag x) ∧ (∀ x : FRef, (s.modOut o f).rdInt x = s.rdInt x) ∧
    (∀ x : Nat, (s.modOut o f).crate x = s.crate x) ∧ (∀ x y : Nat, (s.modOut o f).chan x y = s.chan x y) ∧
    (∀ x y : Nat, (s.modOut o f).slice x y = s.slice x y) ∧ (∀ x : Nat, (s.modOut o f).emit x = s.emit x) ∧
    (∀ x : Nat, (s.modOut o f).chg x = s.chg x) ∧ (∀ x : Nat, (s.modOut o f).mon x = s.mon x) ∧
    (∀ x : RingId, (s.modOut o f).ring x = s.ring x) ∧ (∀ x : Src, (s.modOut o f).req x = s.req x) ∧
    (∀ x : Nat, (s.modOut o f).hostByte x = s.hostByte x) ∧ (∀ x y : Nat, (s.modOut o f).bankByte x y = s.bankByte x y) ∧
    (s.modOut o f).running = s.running :=
  ⟨rfl, rfl, rfl, rfl, rfl, rfl, rfl, rfl, rfl, rfl, rfl, rfl, rfl, rfl, rfl, rfl, rfl, rfl, rfl, rfl, rfl, rfl, rfl,
   fun _ => rfl, fun _ => rfl, fun _ => rfl, fun _ => rfl, fun _ => rfl, fun _ _ => rfl, fun _ _ => rfl, fun _ => rfl,
   fun _ => rfl, fun _ => rfl, fun _ => rfl, fun _ => rfl, fun _ => rfl, fun _ _ => rfl, rfl⟩

/-- What modSto leaves as it was. -/
@[simp] theorem State.modSto_keeps {n : Nat} {f : Sto → Sto} :
    (s.modSto n f).regs = s.regs ∧ (s.modSto n f).bank = s.bank ∧ (s.modSto n f).hostMem = s.hostMem ∧
    (s.modSto n f).clk = s.clk ∧ (s.modSto n f).tap = s.tap ∧ (s.modSto n f).crates = s.crates ∧
    (s.modSto n f).chans = s.chans ∧ (s.modSto n f).slices = s.slices ∧ (s.modSto n f).shot = s.shot ∧
    (s.modSto n f).emits = s.emits ∧ (s.modSto n f).classes = s.classes ∧ (s.modSto n f).chgs = s.chgs ∧
    (s.modSto n f).mons = s.mons ∧ (s.modSto n f).eye = s.eye ∧ (s.modSto n f).motor = s.motor ∧ (s.modSto n f).host = s.host ∧
    (s.modSto n f).reqs = s.reqs ∧ (s.modSto n f).rings = s.rings ∧ (s.modSto n f).hk = s.hk ∧ (s.modSto n f).flt = s.flt ∧
    (s.modSto n f).otp = s.otp ∧ (s.modSto n f).free = s.free ∧ (s.modSto n f).pending = s.pending ∧
    (∀ x : Nat, (s.modSto n f).reg x = s.reg x) ∧ (∀ x : FRef, (s.modSto n f).rd x = s.rd x) ∧
    (∀ x : FRef, (s.modSto n f).flag x = s.flag x) ∧ (∀ x : FRef, (s.modSto n f).rdInt x = s.rdInt x) ∧
    (∀ x : Nat, (s.modSto n f).crate x = s.crate x) ∧ (∀ x y : Nat, (s.modSto n f).chan x y = s.chan x y) ∧
    (∀ x y : Nat, (s.modSto n f).slice x y = s.slice x y) ∧ (∀ x : Nat, (s.modSto n f).emit x = s.emit x) ∧
    (∀ x : Nat, (s.modSto n f).chg x = s.chg x) ∧ (∀ x : Nat, (s.modSto n f).mon x = s.mon x) ∧
    (∀ x : RingId, (s.modSto n f).ring x = s.ring x) ∧ (∀ x : Src, (s.modSto n f).req x = s.req x) ∧
    (∀ x : Nat, (s.modSto n f).hostByte x = s.hostByte x) ∧ (∀ x y : Nat, (s.modSto n f).bankByte x y = s.bankByte x y) ∧
    (s.modSto n f).running = s.running :=
  ⟨rfl, rfl, rfl, rfl, rfl, rfl, rfl, rfl, rfl, rfl, rfl, rfl, rfl, rfl, rfl, rfl, rfl, rfl, rfl, rfl, rfl, rfl, rfl,
   fun _ => rfl, fun _ => rfl, fun _ => rfl, fun _ => rfl, fun _ => rfl, fun _ _ => rfl, fun _ _ => rfl, fun _ => rfl,
   fun _ => rfl, fun _ => rfl, fun _ => rfl, fun _ => rfl, fun _ => rfl, fun _ _ => rfl, rfl⟩

/-- What modZone leaves as it was. -/
@[simp] theorem State.modZone_keeps {z : Nat} {f : Zone → Zone} :
    (s.modZone z f).regs = s.regs ∧ (s.modZone z f).bank = s.bank ∧ (s.modZone z f).hostMem = s.hostMem ∧
    (s.modZone z f).clk = s.clk ∧ (s.modZone z f).tap = s.tap ∧ (s.modZone z f).crates = s.crates ∧
    (s.modZone z f).chans = s.chans ∧ (s.modZone z f).slices = s.slices ∧ (s.modZone z f).shot = s.shot ∧
    (s.modZone z f).emits = s.emits ∧ (s.modZone z f).classes = s.classes ∧ (s.modZone z f).chgs = s.chgs ∧
    (s.modZone z f).mons = s.mons ∧ (s.modZone z f).eye = s.eye ∧ (s.modZone z f).motor = s.motor ∧
    (s.modZone z f).host = s.host ∧ (s.modZone z f).reqs = s.reqs ∧ (s.modZone z f).rings = s.rings ∧
    (s.modZone z f).hk = s.hk ∧ (s.modZone z f).flt = s.flt ∧ (s.modZone z f).otp = s.otp ∧ (s.modZone z f).free = s.free ∧
    (s.modZone z f).pending = s.pending ∧ (∀ x : Nat, (s.modZone z f).reg x = s.reg x) ∧
    (∀ x : FRef, (s.modZone z f).rd x = s.rd x) ∧ (∀ x : FRef, (s.modZone z f).flag x = s.flag x) ∧
    (∀ x : FRef, (s.modZone z f).rdInt x = s.rdInt x) ∧ (∀ x : Nat, (s.modZone z f).crate x = s.crate x) ∧
    (∀ x y : Nat, (s.modZone z f).chan x y = s.chan x y) ∧ (∀ x y : Nat, (s.modZone z f).slice x y = s.slice x y) ∧
    (∀ x : Nat, (s.modZone z f).emit x = s.emit x) ∧ (∀ x : Nat, (s.modZone z f).chg x = s.chg x) ∧
    (∀ x : Nat, (s.modZone z f).mon x = s.mon x) ∧ (∀ x : RingId, (s.modZone z f).ring x = s.ring x) ∧
    (∀ x : Src, (s.modZone z f).req x = s.req x) ∧ (∀ x : Nat, (s.modZone z f).hostByte x = s.hostByte x) ∧
    (∀ x y : Nat, (s.modZone z f).bankByte x y = s.bankByte x y) ∧ (s.modZone z f).running = s.running :=
  ⟨rfl, rfl, rfl, rfl, rfl, rfl, rfl, rfl, rfl, rfl, rfl, rfl, rfl, rfl, rfl, rfl, rfl, rfl, rfl, rfl, rfl, rfl, rfl,
   fun _ => rfl, fun _ => rfl, fun _ => rfl, fun _ => rfl, fun _ => rfl, fun _ _ => rfl, fun _ _ => rfl, fun _ => rfl,
   fun _ => rfl, fun _ => rfl, fun _ => rfl, fun _ => rfl, fun _ => rfl, fun _ _ => rfl, rfl⟩

/-- What modClk leaves as it was. -/
@[simp] theorem State.modClk_keeps {f : Clk → Clk} :
    (s.modClk f).regs = s.regs ∧ (s.modClk f).bank = s.bank ∧ (s.modClk f).hostMem = s.hostMem ∧ (s.modClk f).clk = f s.clk ∧
    (s.modClk f).tap = s.tap ∧ (s.modClk f).crates = s.crates ∧ (s.modClk f).chans = s.chans ∧ (s.modClk f).slices = s.slices ∧
    (s.modClk f).shot = s.shot ∧ (s.modClk f).emits = s.emits ∧ (s.modClk f).classes = s.classes ∧ (s.modClk f).chgs = s.chgs ∧
    (s.modClk f).mons = s.mons ∧ (s.modClk f).eye = s.eye ∧ (s.modClk f).motor = s.motor ∧ (s.modClk f).host = s.host ∧
    (s.modClk f).reqs = s.reqs ∧ (s.modClk f).rings = s.rings ∧ (s.modClk f).hk = s.hk ∧ (s.modClk f).saf = s.saf ∧
    (s.modClk f).flt = s.flt ∧ (s.modClk f).otp = s.otp ∧ (s.modClk f).free = s.free ∧ (s.modClk f).pending = s.pending ∧
    (∀ x : Nat, (s.modClk f).reg x = s.reg x) ∧ (∀ x : FRef, (s.modClk f).rd x = s.rd x) ∧
    (∀ x : FRef, (s.modClk f).flag x = s.flag x) ∧ (∀ x : FRef, (s.modClk f).rdInt x = s.rdInt x) ∧
    (∀ x : Nat, (s.modClk f).crate x = s.crate x) ∧ (∀ x y : Nat, (s.modClk f).chan x y = s.chan x y) ∧
    (∀ x y : Nat, (s.modClk f).slice x y = s.slice x y) ∧ (∀ x : Nat, (s.modClk f).emit x = s.emit x) ∧
    (∀ x : Nat, (s.modClk f).chg x = s.chg x) ∧ (∀ x : Nat, (s.modClk f).mon x = s.mon x) ∧
    (∀ x : RingId, (s.modClk f).ring x = s.ring x) ∧ (∀ x : Src, (s.modClk f).req x = s.req x) ∧
    (∀ x : Nat, (s.modClk f).pair x = s.pair x) ∧ (∀ x : Nat, (s.modClk f).out x = s.out x) ∧
    (∀ x : Nat, (s.modClk f).sto x = s.sto x) ∧ (∀ x : Nat, (s.modClk f).zone x = s.zone x) ∧
    (∀ x : Nat, (s.modClk f).hostByte x = s.hostByte x) ∧ (∀ x y : Nat, (s.modClk f).bankByte x y = s.bankByte x y) :=
  ⟨rfl, rfl, rfl, rfl, rfl, rfl, rfl, rfl, rfl, rfl, rfl, rfl, rfl, rfl, rfl, rfl, rfl, rfl, rfl, rfl, rfl, rfl, rfl, rfl,
   fun _ => rfl, fun _ => rfl, fun _ => rfl, fun _ => rfl, fun _ => rfl, fun _ _ => rfl, fun _ _ => rfl, fun _ => rfl,
   fun _ => rfl, fun _ => rfl, fun _ => rfl, fun _ => rfl, fun _ => rfl, fun _ => rfl, fun _ => rfl, fun _ => rfl,
   fun _ => rfl, fun _ _ => rfl⟩

/-- What modShot leaves as it was. -/
@[simp] theorem State.modShot_keeps {f : Shot → Shot} :
    (s.modShot f).regs = s.regs ∧ (s.modShot f).bank = s.bank ∧ (s.modShot f).hostMem = s.hostMem ∧ (s.modShot f).clk = s.clk ∧
    (s.modShot f).tap = s.tap ∧ (s.modShot f).crates = s.crates ∧ (s.modShot f).chans = s.chans ∧
    (s.modShot f).slices = s.slices ∧ (s.modShot f).shot = f s.shot ∧ (s.modShot f).emits = s.emits ∧
    (s.modShot f).classes = s.classes ∧ (s.modShot f).chgs = s.chgs ∧ (s.modShot f).mons = s.mons ∧ (s.modShot f).eye = s.eye ∧
    (s.modShot f).motor = s.motor ∧ (s.modShot f).host = s.host ∧ (s.modShot f).reqs = s.reqs ∧ (s.modShot f).rings = s.rings ∧
    (s.modShot f).hk = s.hk ∧ (s.modShot f).saf = s.saf ∧ (s.modShot f).flt = s.flt ∧ (s.modShot f).otp = s.otp ∧
    (s.modShot f).free = s.free ∧ (s.modShot f).pending = s.pending ∧ (∀ x : Nat, (s.modShot f).reg x = s.reg x) ∧
    (∀ x : FRef, (s.modShot f).rd x = s.rd x) ∧ (∀ x : FRef, (s.modShot f).flag x = s.flag x) ∧
    (∀ x : FRef, (s.modShot f).rdInt x = s.rdInt x) ∧ (∀ x : Nat, (s.modShot f).crate x = s.crate x) ∧
    (∀ x y : Nat, (s.modShot f).chan x y = s.chan x y) ∧ (∀ x y : Nat, (s.modShot f).slice x y = s.slice x y) ∧
    (∀ x : Nat, (s.modShot f).emit x = s.emit x) ∧ (∀ x : Nat, (s.modShot f).chg x = s.chg x) ∧
    (∀ x : Nat, (s.modShot f).mon x = s.mon x) ∧ (∀ x : RingId, (s.modShot f).ring x = s.ring x) ∧
    (∀ x : Src, (s.modShot f).req x = s.req x) ∧ (∀ x : Nat, (s.modShot f).pair x = s.pair x) ∧
    (∀ x : Nat, (s.modShot f).out x = s.out x) ∧ (∀ x : Nat, (s.modShot f).sto x = s.sto x) ∧
    (∀ x : Nat, (s.modShot f).zone x = s.zone x) ∧ (∀ x : Nat, (s.modShot f).hostByte x = s.hostByte x) ∧
    (∀ x y : Nat, (s.modShot f).bankByte x y = s.bankByte x y) ∧ (s.modShot f).running = s.running :=
  ⟨rfl, rfl, rfl, rfl, rfl, rfl, rfl, rfl, rfl, rfl, rfl, rfl, rfl, rfl, rfl, rfl, rfl, rfl, rfl, rfl, rfl, rfl, rfl, rfl,
   fun _ => rfl, fun _ => rfl, fun _ => rfl, fun _ => rfl, fun _ => rfl, fun _ _ => rfl, fun _ _ => rfl, fun _ => rfl,
   fun _ => rfl, fun _ => rfl, fun _ => rfl, fun _ => rfl, fun _ => rfl, fun _ => rfl, fun _ => rfl, fun _ => rfl,
   fun _ => rfl, fun _ _ => rfl, rfl⟩

/-- What modMotor leaves as it was. -/
@[simp] theorem State.modMotor_keeps {f : Motor → Motor} :
    (s.modMotor f).regs = s.regs ∧ (s.modMotor f).bank = s.bank ∧ (s.modMotor f).hostMem = s.hostMem ∧
    (s.modMotor f).clk = s.clk ∧ (s.modMotor f).tap = s.tap ∧ (s.modMotor f).crates = s.crates ∧
    (s.modMotor f).chans = s.chans ∧ (s.modMotor f).slices = s.slices ∧ (s.modMotor f).shot = s.shot ∧
    (s.modMotor f).emits = s.emits ∧ (s.modMotor f).classes = s.classes ∧ (s.modMotor f).chgs = s.chgs ∧
    (s.modMotor f).mons = s.mons ∧ (s.modMotor f).eye = s.eye ∧ (s.modMotor f).motor = f s.motor ∧
    (s.modMotor f).host = s.host ∧ (s.modMotor f).reqs = s.reqs ∧ (s.modMotor f).rings = s.rings ∧ (s.modMotor f).hk = s.hk ∧
    (s.modMotor f).saf = s.saf ∧ (s.modMotor f).flt = s.flt ∧ (s.modMotor f).otp = s.otp ∧ (s.modMotor f).free = s.free ∧
    (s.modMotor f).pending = s.pending ∧ (∀ x : Nat, (s.modMotor f).reg x = s.reg x) ∧
    (∀ x : FRef, (s.modMotor f).rd x = s.rd x) ∧ (∀ x : FRef, (s.modMotor f).flag x = s.flag x) ∧
    (∀ x : FRef, (s.modMotor f).rdInt x = s.rdInt x) ∧ (∀ x : Nat, (s.modMotor f).crate x = s.crate x) ∧
    (∀ x y : Nat, (s.modMotor f).chan x y = s.chan x y) ∧ (∀ x y : Nat, (s.modMotor f).slice x y = s.slice x y) ∧
    (∀ x : Nat, (s.modMotor f).emit x = s.emit x) ∧ (∀ x : Nat, (s.modMotor f).chg x = s.chg x) ∧
    (∀ x : Nat, (s.modMotor f).mon x = s.mon x) ∧ (∀ x : RingId, (s.modMotor f).ring x = s.ring x) ∧
    (∀ x : Src, (s.modMotor f).req x = s.req x) ∧ (∀ x : Nat, (s.modMotor f).pair x = s.pair x) ∧
    (∀ x : Nat, (s.modMotor f).out x = s.out x) ∧ (∀ x : Nat, (s.modMotor f).sto x = s.sto x) ∧
    (∀ x : Nat, (s.modMotor f).zone x = s.zone x) ∧ (∀ x : Nat, (s.modMotor f).hostByte x = s.hostByte x) ∧
    (∀ x y : Nat, (s.modMotor f).bankByte x y = s.bankByte x y) ∧ (s.modMotor f).running = s.running :=
  ⟨rfl, rfl, rfl, rfl, rfl, rfl, rfl, rfl, rfl, rfl, rfl, rfl, rfl, rfl, rfl, rfl, rfl, rfl, rfl, rfl, rfl, rfl, rfl, rfl,
   fun _ => rfl, fun _ => rfl, fun _ => rfl, fun _ => rfl, fun _ => rfl, fun _ _ => rfl, fun _ _ => rfl, fun _ => rfl,
   fun _ => rfl, fun _ => rfl, fun _ => rfl, fun _ => rfl, fun _ => rfl, fun _ => rfl, fun _ => rfl, fun _ => rfl,
   fun _ => rfl, fun _ _ => rfl, rfl⟩

/-- What modHost leaves as it was. -/
@[simp] theorem State.modHost_keeps {f : HostIf → HostIf} :
    (s.modHost f).regs = s.regs ∧ (s.modHost f).bank = s.bank ∧ (s.modHost f).hostMem = s.hostMem ∧ (s.modHost f).clk = s.clk ∧
    (s.modHost f).tap = s.tap ∧ (s.modHost f).crates = s.crates ∧ (s.modHost f).chans = s.chans ∧
    (s.modHost f).slices = s.slices ∧ (s.modHost f).shot = s.shot ∧ (s.modHost f).emits = s.emits ∧
    (s.modHost f).classes = s.classes ∧ (s.modHost f).chgs = s.chgs ∧ (s.modHost f).mons = s.mons ∧ (s.modHost f).eye = s.eye ∧
    (s.modHost f).motor = s.motor ∧ (s.modHost f).host = f s.host ∧ (s.modHost f).reqs = s.reqs ∧
    (s.modHost f).rings = s.rings ∧ (s.modHost f).hk = s.hk ∧ (s.modHost f).saf = s.saf ∧ (s.modHost f).flt = s.flt ∧
    (s.modHost f).otp = s.otp ∧ (s.modHost f).free = s.free ∧ (s.modHost f).pending = s.pending ∧
    (∀ x : Nat, (s.modHost f).reg x = s.reg x) ∧ (∀ x : FRef, (s.modHost f).rd x = s.rd x) ∧
    (∀ x : FRef, (s.modHost f).flag x = s.flag x) ∧ (∀ x : FRef, (s.modHost f).rdInt x = s.rdInt x) ∧
    (∀ x : Nat, (s.modHost f).crate x = s.crate x) ∧ (∀ x y : Nat, (s.modHost f).chan x y = s.chan x y) ∧
    (∀ x y : Nat, (s.modHost f).slice x y = s.slice x y) ∧ (∀ x : Nat, (s.modHost f).emit x = s.emit x) ∧
    (∀ x : Nat, (s.modHost f).chg x = s.chg x) ∧ (∀ x : Nat, (s.modHost f).mon x = s.mon x) ∧
    (∀ x : RingId, (s.modHost f).ring x = s.ring x) ∧ (∀ x : Src, (s.modHost f).req x = s.req x) ∧
    (∀ x : Nat, (s.modHost f).pair x = s.pair x) ∧ (∀ x : Nat, (s.modHost f).out x = s.out x) ∧
    (∀ x : Nat, (s.modHost f).sto x = s.sto x) ∧ (∀ x : Nat, (s.modHost f).zone x = s.zone x) ∧
    (∀ x : Nat, (s.modHost f).hostByte x = s.hostByte x) ∧ (∀ x y : Nat, (s.modHost f).bankByte x y = s.bankByte x y) ∧
    (s.modHost f).running = s.running :=
  ⟨rfl, rfl, rfl, rfl, rfl, rfl, rfl, rfl, rfl, rfl, rfl, rfl, rfl, rfl, rfl, rfl, rfl, rfl, rfl, rfl, rfl, rfl, rfl, rfl,
   fun _ => rfl, fun _ => rfl, fun _ => rfl, fun _ => rfl, fun _ => rfl, fun _ _ => rfl, fun _ _ => rfl, fun _ => rfl,
   fun _ => rfl, fun _ => rfl, fun _ => rfl, fun _ => rfl, fun _ => rfl, fun _ => rfl, fun _ => rfl, fun _ => rfl,
   fun _ => rfl, fun _ _ => rfl, rfl⟩

/-- What modHk leaves as it was. -/
@[simp] theorem State.modHk_keeps {f : Hk → Hk} :
    (s.modHk f).regs = s.regs ∧ (s.modHk f).bank = s.bank ∧ (s.modHk f).hostMem = s.hostMem ∧ (s.modHk f).clk = s.clk ∧
    (s.modHk f).tap = s.tap ∧ (s.modHk f).crates = s.crates ∧ (s.modHk f).chans = s.chans ∧ (s.modHk f).slices = s.slices ∧
    (s.modHk f).shot = s.shot ∧ (s.modHk f).emits = s.emits ∧ (s.modHk f).classes = s.classes ∧ (s.modHk f).chgs = s.chgs ∧
    (s.modHk f).mons = s.mons ∧ (s.modHk f).eye = s.eye ∧ (s.modHk f).motor = s.motor ∧ (s.modHk f).host = s.host ∧
    (s.modHk f).reqs = s.reqs ∧ (s.modHk f).rings = s.rings ∧ (s.modHk f).hk = f s.hk ∧ (s.modHk f).saf = s.saf ∧
    (s.modHk f).flt = s.flt ∧ (s.modHk f).otp = s.otp ∧ (s.modHk f).free = s.free ∧ (s.modHk f).pending = s.pending ∧
    (∀ x : Nat, (s.modHk f).reg x = s.reg x) ∧ (∀ x : FRef, (s.modHk f).rd x = s.rd x) ∧
    (∀ x : FRef, (s.modHk f).flag x = s.flag x) ∧ (∀ x : FRef, (s.modHk f).rdInt x = s.rdInt x) ∧
    (∀ x : Nat, (s.modHk f).crate x = s.crate x) ∧ (∀ x y : Nat, (s.modHk f).chan x y = s.chan x y) ∧
    (∀ x y : Nat, (s.modHk f).slice x y = s.slice x y) ∧ (∀ x : Nat, (s.modHk f).emit x = s.emit x) ∧
    (∀ x : Nat, (s.modHk f).chg x = s.chg x) ∧ (∀ x : Nat, (s.modHk f).mon x = s.mon x) ∧
    (∀ x : RingId, (s.modHk f).ring x = s.ring x) ∧ (∀ x : Src, (s.modHk f).req x = s.req x) ∧
    (∀ x : Nat, (s.modHk f).pair x = s.pair x) ∧ (∀ x : Nat, (s.modHk f).out x = s.out x) ∧
    (∀ x : Nat, (s.modHk f).sto x = s.sto x) ∧ (∀ x : Nat, (s.modHk f).zone x = s.zone x) ∧
    (∀ x : Nat, (s.modHk f).hostByte x = s.hostByte x) ∧ (∀ x y : Nat, (s.modHk f).bankByte x y = s.bankByte x y) ∧
    (s.modHk f).running = s.running :=
  ⟨rfl, rfl, rfl, rfl, rfl, rfl, rfl, rfl, rfl, rfl, rfl, rfl, rfl, rfl, rfl, rfl, rfl, rfl, rfl, rfl, rfl, rfl, rfl, rfl,
   fun _ => rfl, fun _ => rfl, fun _ => rfl, fun _ => rfl, fun _ => rfl, fun _ _ => rfl, fun _ _ => rfl, fun _ => rfl,
   fun _ => rfl, fun _ => rfl, fun _ => rfl, fun _ => rfl, fun _ => rfl, fun _ => rfl, fun _ => rfl, fun _ => rfl,
   fun _ => rfl, fun _ _ => rfl, rfl⟩

/-- What modSaf leaves as it was. -/
@[simp] theorem State.modSaf_keeps {f : Saf → Saf} :
    (s.modSaf f).regs = s.regs ∧ (s.modSaf f).bank = s.bank ∧ (s.modSaf f).hostMem = s.hostMem ∧ (s.modSaf f).clk = s.clk ∧
    (s.modSaf f).tap = s.tap ∧ (s.modSaf f).crates = s.crates ∧ (s.modSaf f).chans = s.chans ∧ (s.modSaf f).slices = s.slices ∧
    (s.modSaf f).shot = s.shot ∧ (s.modSaf f).emits = s.emits ∧ (s.modSaf f).classes = s.classes ∧ (s.modSaf f).chgs = s.chgs ∧
    (s.modSaf f).mons = s.mons ∧ (s.modSaf f).eye = s.eye ∧ (s.modSaf f).motor = s.motor ∧ (s.modSaf f).host = s.host ∧
    (s.modSaf f).reqs = s.reqs ∧ (s.modSaf f).rings = s.rings ∧ (s.modSaf f).hk = s.hk ∧ (s.modSaf f).saf = f s.saf ∧
    (s.modSaf f).flt = s.flt ∧ (s.modSaf f).otp = s.otp ∧ (s.modSaf f).free = s.free ∧ (s.modSaf f).pending = s.pending ∧
    (∀ x : Nat, (s.modSaf f).reg x = s.reg x) ∧ (∀ x : FRef, (s.modSaf f).rd x = s.rd x) ∧
    (∀ x : FRef, (s.modSaf f).flag x = s.flag x) ∧ (∀ x : FRef, (s.modSaf f).rdInt x = s.rdInt x) ∧
    (∀ x : Nat, (s.modSaf f).crate x = s.crate x) ∧ (∀ x y : Nat, (s.modSaf f).chan x y = s.chan x y) ∧
    (∀ x y : Nat, (s.modSaf f).slice x y = s.slice x y) ∧ (∀ x : Nat, (s.modSaf f).emit x = s.emit x) ∧
    (∀ x : Nat, (s.modSaf f).chg x = s.chg x) ∧ (∀ x : Nat, (s.modSaf f).mon x = s.mon x) ∧
    (∀ x : RingId, (s.modSaf f).ring x = s.ring x) ∧ (∀ x : Src, (s.modSaf f).req x = s.req x) ∧
    (∀ x : Nat, (s.modSaf f).hostByte x = s.hostByte x) ∧ (∀ x y : Nat, (s.modSaf f).bankByte x y = s.bankByte x y) ∧
    (s.modSaf f).running = s.running :=
  ⟨rfl, rfl, rfl, rfl, rfl, rfl, rfl, rfl, rfl, rfl, rfl, rfl, rfl, rfl, rfl, rfl, rfl, rfl, rfl, rfl, rfl, rfl, rfl, rfl,
   fun _ => rfl, fun _ => rfl, fun _ => rfl, fun _ => rfl, fun _ => rfl, fun _ _ => rfl, fun _ _ => rfl, fun _ => rfl,
   fun _ => rfl, fun _ => rfl, fun _ => rfl, fun _ => rfl, fun _ => rfl, fun _ _ => rfl, rfl⟩

/-- What modFlt leaves as it was. -/
@[simp] theorem State.modFlt_keeps {f : Flt → Flt} :
    (s.modFlt f).regs = s.regs ∧ (s.modFlt f).bank = s.bank ∧ (s.modFlt f).hostMem = s.hostMem ∧ (s.modFlt f).clk = s.clk ∧
    (s.modFlt f).tap = s.tap ∧ (s.modFlt f).crates = s.crates ∧ (s.modFlt f).chans = s.chans ∧ (s.modFlt f).slices = s.slices ∧
    (s.modFlt f).shot = s.shot ∧ (s.modFlt f).emits = s.emits ∧ (s.modFlt f).classes = s.classes ∧ (s.modFlt f).chgs = s.chgs ∧
    (s.modFlt f).mons = s.mons ∧ (s.modFlt f).eye = s.eye ∧ (s.modFlt f).motor = s.motor ∧ (s.modFlt f).host = s.host ∧
    (s.modFlt f).reqs = s.reqs ∧ (s.modFlt f).rings = s.rings ∧ (s.modFlt f).hk = s.hk ∧ (s.modFlt f).saf = s.saf ∧
    (s.modFlt f).flt = f s.flt ∧ (s.modFlt f).otp = s.otp ∧ (s.modFlt f).free = s.free ∧ (s.modFlt f).pending = s.pending ∧
    (∀ x : Nat, (s.modFlt f).reg x = s.reg x) ∧ (∀ x : FRef, (s.modFlt f).rd x = s.rd x) ∧
    (∀ x : FRef, (s.modFlt f).flag x = s.flag x) ∧ (∀ x : FRef, (s.modFlt f).rdInt x = s.rdInt x) ∧
    (∀ x : Nat, (s.modFlt f).crate x = s.crate x) ∧ (∀ x y : Nat, (s.modFlt f).chan x y = s.chan x y) ∧
    (∀ x y : Nat, (s.modFlt f).slice x y = s.slice x y) ∧ (∀ x : Nat, (s.modFlt f).emit x = s.emit x) ∧
    (∀ x : Nat, (s.modFlt f).chg x = s.chg x) ∧ (∀ x : Nat, (s.modFlt f).mon x = s.mon x) ∧
    (∀ x : RingId, (s.modFlt f).ring x = s.ring x) ∧ (∀ x : Src, (s.modFlt f).req x = s.req x) ∧
    (∀ x : Nat, (s.modFlt f).pair x = s.pair x) ∧ (∀ x : Nat, (s.modFlt f).out x = s.out x) ∧
    (∀ x : Nat, (s.modFlt f).sto x = s.sto x) ∧ (∀ x : Nat, (s.modFlt f).zone x = s.zone x) ∧
    (∀ x : Nat, (s.modFlt f).hostByte x = s.hostByte x) ∧ (∀ x y : Nat, (s.modFlt f).bankByte x y = s.bankByte x y) ∧
    (s.modFlt f).running = s.running :=
  ⟨rfl, rfl, rfl, rfl, rfl, rfl, rfl, rfl, rfl, rfl, rfl, rfl, rfl, rfl, rfl, rfl, rfl, rfl, rfl, rfl, rfl, rfl, rfl, rfl,
   fun _ => rfl, fun _ => rfl, fun _ => rfl, fun _ => rfl, fun _ => rfl, fun _ _ => rfl, fun _ _ => rfl, fun _ => rfl,
   fun _ => rfl, fun _ => rfl, fun _ => rfl, fun _ => rfl, fun _ => rfl, fun _ => rfl, fun _ => rfl, fun _ => rfl,
   fun _ => rfl, fun _ _ => rfl, rfl⟩

/-- What modEye leaves as it was. -/
@[simp] theorem State.modEye_keeps {f : EyeLock → EyeLock} :
    (s.modEye f).regs = s.regs ∧ (s.modEye f).bank = s.bank ∧ (s.modEye f).hostMem = s.hostMem ∧ (s.modEye f).clk = s.clk ∧
    (s.modEye f).tap = s.tap ∧ (s.modEye f).crates = s.crates ∧ (s.modEye f).chans = s.chans ∧ (s.modEye f).slices = s.slices ∧
    (s.modEye f).shot = s.shot ∧ (s.modEye f).emits = s.emits ∧ (s.modEye f).classes = s.classes ∧ (s.modEye f).chgs = s.chgs ∧
    (s.modEye f).mons = s.mons ∧ (s.modEye f).eye = f s.eye ∧ (s.modEye f).motor = s.motor ∧ (s.modEye f).host = s.host ∧
    (s.modEye f).reqs = s.reqs ∧ (s.modEye f).rings = s.rings ∧ (s.modEye f).hk = s.hk ∧ (s.modEye f).saf = s.saf ∧
    (s.modEye f).flt = s.flt ∧ (s.modEye f).otp = s.otp ∧ (s.modEye f).free = s.free ∧ (s.modEye f).pending = s.pending ∧
    (∀ x : Nat, (s.modEye f).reg x = s.reg x) ∧ (∀ x : FRef, (s.modEye f).rd x = s.rd x) ∧
    (∀ x : FRef, (s.modEye f).flag x = s.flag x) ∧ (∀ x : FRef, (s.modEye f).rdInt x = s.rdInt x) ∧
    (∀ x : Nat, (s.modEye f).crate x = s.crate x) ∧ (∀ x y : Nat, (s.modEye f).chan x y = s.chan x y) ∧
    (∀ x y : Nat, (s.modEye f).slice x y = s.slice x y) ∧ (∀ x : Nat, (s.modEye f).emit x = s.emit x) ∧
    (∀ x : Nat, (s.modEye f).chg x = s.chg x) ∧ (∀ x : Nat, (s.modEye f).mon x = s.mon x) ∧
    (∀ x : RingId, (s.modEye f).ring x = s.ring x) ∧ (∀ x : Src, (s.modEye f).req x = s.req x) ∧
    (∀ x : Nat, (s.modEye f).pair x = s.pair x) ∧ (∀ x : Nat, (s.modEye f).out x = s.out x) ∧
    (∀ x : Nat, (s.modEye f).sto x = s.sto x) ∧ (∀ x : Nat, (s.modEye f).zone x = s.zone x) ∧
    (∀ x : Nat, (s.modEye f).hostByte x = s.hostByte x) ∧ (∀ x y : Nat, (s.modEye f).bankByte x y = s.bankByte x y) ∧
    (s.modEye f).running = s.running :=
  ⟨rfl, rfl, rfl, rfl, rfl, rfl, rfl, rfl, rfl, rfl, rfl, rfl, rfl, rfl, rfl, rfl, rfl, rfl, rfl, rfl, rfl, rfl, rfl, rfl,
   fun _ => rfl, fun _ => rfl, fun _ => rfl, fun _ => rfl, fun _ => rfl, fun _ _ => rfl, fun _ _ => rfl, fun _ => rfl,
   fun _ => rfl, fun _ => rfl, fun _ => rfl, fun _ => rfl, fun _ => rfl, fun _ => rfl, fun _ => rfl, fun _ => rfl,
   fun _ => rfl, fun _ _ => rfl, rfl⟩

/-- What modOtp leaves as it was. -/
@[simp] theorem State.modOtp_keeps {f : Otp → Otp} :
    (s.modOtp f).regs = s.regs ∧ (s.modOtp f).bank = s.bank ∧ (s.modOtp f).hostMem = s.hostMem ∧ (s.modOtp f).clk = s.clk ∧
    (s.modOtp f).tap = s.tap ∧ (s.modOtp f).crates = s.crates ∧ (s.modOtp f).chans = s.chans ∧ (s.modOtp f).slices = s.slices ∧
    (s.modOtp f).shot = s.shot ∧ (s.modOtp f).emits = s.emits ∧ (s.modOtp f).classes = s.classes ∧ (s.modOtp f).chgs = s.chgs ∧
    (s.modOtp f).mons = s.mons ∧ (s.modOtp f).eye = s.eye ∧ (s.modOtp f).motor = s.motor ∧ (s.modOtp f).host = s.host ∧
    (s.modOtp f).reqs = s.reqs ∧ (s.modOtp f).rings = s.rings ∧ (s.modOtp f).hk = s.hk ∧ (s.modOtp f).saf = s.saf ∧
    (s.modOtp f).flt = s.flt ∧ (s.modOtp f).otp = f s.otp ∧ (s.modOtp f).free = s.free ∧ (s.modOtp f).pending = s.pending ∧
    (∀ x : Nat, (s.modOtp f).reg x = s.reg x) ∧ (∀ x : FRef, (s.modOtp f).rd x = s.rd x) ∧
    (∀ x : FRef, (s.modOtp f).flag x = s.flag x) ∧ (∀ x : FRef, (s.modOtp f).rdInt x = s.rdInt x) ∧
    (∀ x : Nat, (s.modOtp f).crate x = s.crate x) ∧ (∀ x y : Nat, (s.modOtp f).chan x y = s.chan x y) ∧
    (∀ x y : Nat, (s.modOtp f).slice x y = s.slice x y) ∧ (∀ x : Nat, (s.modOtp f).emit x = s.emit x) ∧
    (∀ x : Nat, (s.modOtp f).chg x = s.chg x) ∧ (∀ x : Nat, (s.modOtp f).mon x = s.mon x) ∧
    (∀ x : RingId, (s.modOtp f).ring x = s.ring x) ∧ (∀ x : Src, (s.modOtp f).req x = s.req x) ∧
    (∀ x : Nat, (s.modOtp f).pair x = s.pair x) ∧ (∀ x : Nat, (s.modOtp f).out x = s.out x) ∧
    (∀ x : Nat, (s.modOtp f).sto x = s.sto x) ∧ (∀ x : Nat, (s.modOtp f).zone x = s.zone x) ∧
    (∀ x : Nat, (s.modOtp f).hostByte x = s.hostByte x) ∧ (∀ x y : Nat, (s.modOtp f).bankByte x y = s.bankByte x y) ∧
    (s.modOtp f).running = s.running :=
  ⟨rfl, rfl, rfl, rfl, rfl, rfl, rfl, rfl, rfl, rfl, rfl, rfl, rfl, rfl, rfl, rfl, rfl, rfl, rfl, rfl, rfl, rfl, rfl, rfl,
   fun _ => rfl, fun _ => rfl, fun _ => rfl, fun _ => rfl, fun _ => rfl, fun _ _ => rfl, fun _ _ => rfl, fun _ => rfl,
   fun _ => rfl, fun _ => rfl, fun _ => rfl, fun _ => rfl, fun _ => rfl, fun _ => rfl, fun _ => rfl, fun _ => rfl,
   fun _ => rfl, fun _ _ => rfl, rfl⟩

/-- What modTap leaves as it was. -/
@[simp] theorem State.modTap_keeps {f : Tap → Tap} :
    (s.modTap f).regs = s.regs ∧ (s.modTap f).bank = s.bank ∧ (s.modTap f).hostMem = s.hostMem ∧ (s.modTap f).clk = s.clk ∧
    (s.modTap f).tap = f s.tap ∧ (s.modTap f).crates = s.crates ∧ (s.modTap f).chans = s.chans ∧
    (s.modTap f).slices = s.slices ∧ (s.modTap f).shot = s.shot ∧ (s.modTap f).emits = s.emits ∧
    (s.modTap f).classes = s.classes ∧ (s.modTap f).chgs = s.chgs ∧ (s.modTap f).mons = s.mons ∧ (s.modTap f).eye = s.eye ∧
    (s.modTap f).motor = s.motor ∧ (s.modTap f).host = s.host ∧ (s.modTap f).reqs = s.reqs ∧ (s.modTap f).rings = s.rings ∧
    (s.modTap f).hk = s.hk ∧ (s.modTap f).saf = s.saf ∧ (s.modTap f).flt = s.flt ∧ (s.modTap f).otp = s.otp ∧
    (s.modTap f).free = s.free ∧ (s.modTap f).pending = s.pending ∧ (∀ x : Nat, (s.modTap f).reg x = s.reg x) ∧
    (∀ x : FRef, (s.modTap f).rd x = s.rd x) ∧ (∀ x : FRef, (s.modTap f).flag x = s.flag x) ∧
    (∀ x : FRef, (s.modTap f).rdInt x = s.rdInt x) ∧ (∀ x : Nat, (s.modTap f).crate x = s.crate x) ∧
    (∀ x y : Nat, (s.modTap f).chan x y = s.chan x y) ∧ (∀ x y : Nat, (s.modTap f).slice x y = s.slice x y) ∧
    (∀ x : Nat, (s.modTap f).emit x = s.emit x) ∧ (∀ x : Nat, (s.modTap f).chg x = s.chg x) ∧
    (∀ x : Nat, (s.modTap f).mon x = s.mon x) ∧ (∀ x : RingId, (s.modTap f).ring x = s.ring x) ∧
    (∀ x : Src, (s.modTap f).req x = s.req x) ∧ (∀ x : Nat, (s.modTap f).pair x = s.pair x) ∧
    (∀ x : Nat, (s.modTap f).out x = s.out x) ∧ (∀ x : Nat, (s.modTap f).sto x = s.sto x) ∧
    (∀ x : Nat, (s.modTap f).zone x = s.zone x) ∧ (∀ x : Nat, (s.modTap f).hostByte x = s.hostByte x) ∧
    (∀ x y : Nat, (s.modTap f).bankByte x y = s.bankByte x y) ∧ (s.modTap f).running = s.running :=
  ⟨rfl, rfl, rfl, rfl, rfl, rfl, rfl, rfl, rfl, rfl, rfl, rfl, rfl, rfl, rfl, rfl, rfl, rfl, rfl, rfl, rfl, rfl, rfl, rfl,
   fun _ => rfl, fun _ => rfl, fun _ => rfl, fun _ => rfl, fun _ => rfl, fun _ _ => rfl, fun _ _ => rfl, fun _ => rfl,
   fun _ => rfl, fun _ => rfl, fun _ => rfl, fun _ => rfl, fun _ => rfl, fun _ => rfl, fun _ => rfl, fun _ => rfl,
   fun _ => rfl, fun _ _ => rfl, rfl⟩

/-- What clearBanks leaves as it was. -/
@[simp] theorem State.clearBanks_keeps  :
    s.clearBanks.regs = s.regs ∧ s.clearBanks.bank = [] ∧ s.clearBanks.hostMem = s.hostMem ∧ s.clearBanks.clk = s.clk ∧
    s.clearBanks.tap = s.tap ∧ s.clearBanks.crates = s.crates ∧ s.clearBanks.chans = s.chans ∧ s.clearBanks.slices = s.slices ∧
    s.clearBanks.shot = s.shot ∧ s.clearBanks.emits = s.emits ∧ s.clearBanks.classes = s.classes ∧ s.clearBanks.chgs = s.chgs ∧
    s.clearBanks.mons = s.mons ∧ s.clearBanks.eye = s.eye ∧ s.clearBanks.motor = s.motor ∧ s.clearBanks.host = s.host ∧
    s.clearBanks.reqs = s.reqs ∧ s.clearBanks.rings = s.rings ∧ s.clearBanks.hk = s.hk ∧ s.clearBanks.saf = s.saf ∧
    s.clearBanks.flt = s.flt ∧ s.clearBanks.otp = s.otp ∧ s.clearBanks.free = s.free ∧ s.clearBanks.pending = s.pending ∧
    (∀ x : Nat, s.clearBanks.reg x = s.reg x) ∧ (∀ x : FRef, s.clearBanks.rd x = s.rd x) ∧
    (∀ x : FRef, s.clearBanks.flag x = s.flag x) ∧ (∀ x : FRef, s.clearBanks.rdInt x = s.rdInt x) ∧
    (∀ x : Nat, s.clearBanks.crate x = s.crate x) ∧ (∀ x y : Nat, s.clearBanks.chan x y = s.chan x y) ∧
    (∀ x y : Nat, s.clearBanks.slice x y = s.slice x y) ∧ (∀ x : Nat, s.clearBanks.emit x = s.emit x) ∧
    (∀ x : Nat, s.clearBanks.chg x = s.chg x) ∧ (∀ x : Nat, s.clearBanks.mon x = s.mon x) ∧
    (∀ x : RingId, s.clearBanks.ring x = s.ring x) ∧ (∀ x : Src, s.clearBanks.req x = s.req x) ∧
    (∀ x : Nat, s.clearBanks.pair x = s.pair x) ∧ (∀ x : Nat, s.clearBanks.out x = s.out x) ∧
    (∀ x : Nat, s.clearBanks.sto x = s.sto x) ∧ (∀ x : Nat, s.clearBanks.zone x = s.zone x) ∧
    (∀ x : Nat, s.clearBanks.hostByte x = s.hostByte x) ∧ s.clearBanks.running = s.running :=
  ⟨rfl, rfl, rfl, rfl, rfl, rfl, rfl, rfl, rfl, rfl, rfl, rfl, rfl, rfl, rfl, rfl, rfl, rfl, rfl, rfl, rfl, rfl, rfl, rfl,
   fun _ => rfl, fun _ => rfl, fun _ => rfl, fun _ => rfl, fun _ => rfl, fun _ _ => rfl, fun _ _ => rfl, fun _ => rfl,
   fun _ => rfl, fun _ => rfl, fun _ => rfl, fun _ => rfl, fun _ => rfl, fun _ => rfl, fun _ => rfl, fun _ => rfl,
   fun _ => rfl, rfl⟩

/-- What setClass leaves as it was. -/
@[simp] theorem State.setClass_keeps {q : Nat} {b : List Nat} :
    (s.setClass q b).regs = s.regs ∧ (s.setClass q b).bank = s.bank ∧ (s.setClass q b).hostMem = s.hostMem ∧
    (s.setClass q b).clk = s.clk ∧ (s.setClass q b).tap = s.tap ∧ (s.setClass q b).crates = s.crates ∧
    (s.setClass q b).chans = s.chans ∧ (s.setClass q b).slices = s.slices ∧ (s.setClass q b).shot = s.shot ∧
    (s.setClass q b).emits = s.emits ∧ (s.setClass q b).chgs = s.chgs ∧ (s.setClass q b).mons = s.mons ∧
    (s.setClass q b).eye = s.eye ∧ (s.setClass q b).motor = s.motor ∧ (s.setClass q b).host = s.host ∧
    (s.setClass q b).reqs = s.reqs ∧ (s.setClass q b).rings = s.rings ∧ (s.setClass q b).hk = s.hk ∧
    (s.setClass q b).saf = s.saf ∧ (s.setClass q b).flt = s.flt ∧ (s.setClass q b).otp = s.otp ∧
    (s.setClass q b).free = s.free ∧ (s.setClass q b).pending = s.pending ∧ (∀ x : Nat, (s.setClass q b).reg x = s.reg x) ∧
    (∀ x : FRef, (s.setClass q b).rd x = s.rd x) ∧ (∀ x : FRef, (s.setClass q b).flag x = s.flag x) ∧
    (∀ x : FRef, (s.setClass q b).rdInt x = s.rdInt x) ∧ (∀ x : Nat, (s.setClass q b).crate x = s.crate x) ∧
    (∀ x y : Nat, (s.setClass q b).chan x y = s.chan x y) ∧ (∀ x y : Nat, (s.setClass q b).slice x y = s.slice x y) ∧
    (∀ x : Nat, (s.setClass q b).emit x = s.emit x) ∧ (∀ x : Nat, (s.setClass q b).chg x = s.chg x) ∧
    (∀ x : Nat, (s.setClass q b).mon x = s.mon x) ∧ (∀ x : RingId, (s.setClass q b).ring x = s.ring x) ∧
    (∀ x : Src, (s.setClass q b).req x = s.req x) ∧ (∀ x : Nat, (s.setClass q b).pair x = s.pair x) ∧
    (∀ x : Nat, (s.setClass q b).out x = s.out x) ∧ (∀ x : Nat, (s.setClass q b).sto x = s.sto x) ∧
    (∀ x : Nat, (s.setClass q b).zone x = s.zone x) ∧ (∀ x : Nat, (s.setClass q b).hostByte x = s.hostByte x) ∧
    (∀ x y : Nat, (s.setClass q b).bankByte x y = s.bankByte x y) ∧ (s.setClass q b).running = s.running :=
  ⟨rfl, rfl, rfl, rfl, rfl, rfl, rfl, rfl, rfl, rfl, rfl, rfl, rfl, rfl, rfl, rfl, rfl, rfl, rfl, rfl, rfl, rfl, rfl,
   fun _ => rfl, fun _ => rfl, fun _ => rfl, fun _ => rfl, fun _ => rfl, fun _ _ => rfl, fun _ _ => rfl, fun _ => rfl,
   fun _ => rfl, fun _ => rfl, fun _ => rfl, fun _ => rfl, fun _ => rfl, fun _ => rfl, fun _ => rfl, fun _ => rfl,
   fun _ => rfl, fun _ _ => rfl, rfl⟩

/-- What writeHost leaves as it was. -/
@[simp] theorem State.writeHost_keeps {a : Nat} {bs : List Byte} :
    (s.writeHost a bs).regs = s.regs ∧ (s.writeHost a bs).bank = s.bank ∧ (s.writeHost a bs).clk = s.clk ∧
    (s.writeHost a bs).tap = s.tap ∧ (s.writeHost a bs).crates = s.crates ∧ (s.writeHost a bs).chans = s.chans ∧
    (s.writeHost a bs).slices = s.slices ∧ (s.writeHost a bs).shot = s.shot ∧ (s.writeHost a bs).emits = s.emits ∧
    (s.writeHost a bs).classes = s.classes ∧ (s.writeHost a bs).chgs = s.chgs ∧ (s.writeHost a bs).mons = s.mons ∧
    (s.writeHost a bs).eye = s.eye ∧ (s.writeHost a bs).motor = s.motor ∧ (s.writeHost a bs).host = s.host ∧
    (s.writeHost a bs).reqs = s.reqs ∧ (s.writeHost a bs).rings = s.rings ∧ (s.writeHost a bs).hk = s.hk ∧
    (s.writeHost a bs).saf = s.saf ∧ (s.writeHost a bs).flt = s.flt ∧ (s.writeHost a bs).otp = s.otp ∧
    (s.writeHost a bs).free = s.free ∧ (s.writeHost a bs).pending = s.pending ∧
    (∀ x : Nat, (s.writeHost a bs).reg x = s.reg x) ∧ (∀ x : FRef, (s.writeHost a bs).rd x = s.rd x) ∧
    (∀ x : FRef, (s.writeHost a bs).flag x = s.flag x) ∧ (∀ x : FRef, (s.writeHost a bs).rdInt x = s.rdInt x) ∧
    (∀ x : Nat, (s.writeHost a bs).crate x = s.crate x) ∧ (∀ x y : Nat, (s.writeHost a bs).chan x y = s.chan x y) ∧
    (∀ x y : Nat, (s.writeHost a bs).slice x y = s.slice x y) ∧ (∀ x : Nat, (s.writeHost a bs).emit x = s.emit x) ∧
    (∀ x : Nat, (s.writeHost a bs).chg x = s.chg x) ∧ (∀ x : Nat, (s.writeHost a bs).mon x = s.mon x) ∧
    (∀ x : RingId, (s.writeHost a bs).ring x = s.ring x) ∧ (∀ x : Src, (s.writeHost a bs).req x = s.req x) ∧
    (∀ x : Nat, (s.writeHost a bs).pair x = s.pair x) ∧ (∀ x : Nat, (s.writeHost a bs).out x = s.out x) ∧
    (∀ x : Nat, (s.writeHost a bs).sto x = s.sto x) ∧ (∀ x : Nat, (s.writeHost a bs).zone x = s.zone x) ∧
    (∀ x y : Nat, (s.writeHost a bs).bankByte x y = s.bankByte x y) ∧ (s.writeHost a bs).running = s.running :=
  ⟨rfl, rfl, rfl, rfl, rfl, rfl, rfl, rfl, rfl, rfl, rfl, rfl, rfl, rfl, rfl, rfl, rfl, rfl, rfl, rfl, rfl, rfl, rfl,
   fun _ => rfl, fun _ => rfl, fun _ => rfl, fun _ => rfl, fun _ => rfl, fun _ _ => rfl, fun _ _ => rfl, fun _ => rfl,
   fun _ => rfl, fun _ => rfl, fun _ => rfl, fun _ => rfl, fun _ => rfl, fun _ => rfl, fun _ => rfl, fun _ => rfl,
   fun _ _ => rfl, rfl⟩

/-- What setBankByte leaves as it was. -/
@[simp] theorem State.setBankByte_keeps {c b : Nat} {v : Byte} :
    (s.setBankByte c b v).regs = s.regs ∧ (s.setBankByte c b v).hostMem = s.hostMem ∧ (s.setBankByte c b v).clk = s.clk ∧
    (s.setBankByte c b v).tap = s.tap ∧ (s.setBankByte c b v).crates = s.crates ∧ (s.setBankByte c b v).chans = s.chans ∧
    (s.setBankByte c b v).slices = s.slices ∧ (s.setBankByte c b v).shot = s.shot ∧ (s.setBankByte c b v).emits = s.emits ∧
    (s.setBankByte c b v).classes = s.classes ∧ (s.setBankByte c b v).chgs = s.chgs ∧ (s.setBankByte c b v).mons = s.mons ∧
    (s.setBankByte c b v).eye = s.eye ∧ (s.setBankByte c b v).motor = s.motor ∧ (s.setBankByte c b v).host = s.host ∧
    (s.setBankByte c b v).reqs = s.reqs ∧ (s.setBankByte c b v).rings = s.rings ∧ (s.setBankByte c b v).hk = s.hk ∧
    (s.setBankByte c b v).saf = s.saf ∧ (s.setBankByte c b v).flt = s.flt ∧ (s.setBankByte c b v).otp = s.otp ∧
    (s.setBankByte c b v).free = s.free ∧ (s.setBankByte c b v).pending = s.pending ∧
    (∀ x : Nat, (s.setBankByte c b v).reg x = s.reg x) ∧ (∀ x : FRef, (s.setBankByte c b v).rd x = s.rd x) ∧
    (∀ x : FRef, (s.setBankByte c b v).flag x = s.flag x) ∧ (∀ x : FRef, (s.setBankByte c b v).rdInt x = s.rdInt x) ∧
    (∀ x : Nat, (s.setBankByte c b v).crate x = s.crate x) ∧ (∀ x y : Nat, (s.setBankByte c b v).chan x y = s.chan x y) ∧
    (∀ x y : Nat, (s.setBankByte c b v).slice x y = s.slice x y) ∧ (∀ x : Nat, (s.setBankByte c b v).emit x = s.emit x) ∧
    (∀ x : Nat, (s.setBankByte c b v).chg x = s.chg x) ∧ (∀ x : Nat, (s.setBankByte c b v).mon x = s.mon x) ∧
    (∀ x : RingId, (s.setBankByte c b v).ring x = s.ring x) ∧ (∀ x : Src, (s.setBankByte c b v).req x = s.req x) ∧
    (∀ x : Nat, (s.setBankByte c b v).pair x = s.pair x) ∧ (∀ x : Nat, (s.setBankByte c b v).out x = s.out x) ∧
    (∀ x : Nat, (s.setBankByte c b v).sto x = s.sto x) ∧ (∀ x : Nat, (s.setBankByte c b v).zone x = s.zone x) ∧
    (∀ x : Nat, (s.setBankByte c b v).hostByte x = s.hostByte x) ∧ (s.setBankByte c b v).running = s.running :=
  ⟨rfl, rfl, rfl, rfl, rfl, rfl, rfl, rfl, rfl, rfl, rfl, rfl, rfl, rfl, rfl, rfl, rfl, rfl, rfl, rfl, rfl, rfl, rfl,
   fun _ => rfl, fun _ => rfl, fun _ => rfl, fun _ => rfl, fun _ => rfl, fun _ _ => rfl, fun _ _ => rfl, fun _ => rfl,
   fun _ => rfl, fun _ => rfl, fun _ => rfl, fun _ => rfl, fun _ => rfl, fun _ => rfl, fun _ => rfl, fun _ => rfl,
   fun _ => rfl, rfl⟩

/-- What clearBank leaves as it was. -/
@[simp] theorem State.clearBank_keeps {c b n : Nat} :
    (s.clearBank c b n).regs = s.regs ∧ (s.clearBank c b n).hostMem = s.hostMem ∧ (s.clearBank c b n).clk = s.clk ∧
    (s.clearBank c b n).tap = s.tap ∧ (s.clearBank c b n).crates = s.crates ∧ (s.clearBank c b n).chans = s.chans ∧
    (s.clearBank c b n).slices = s.slices ∧ (s.clearBank c b n).shot = s.shot ∧ (s.clearBank c b n).emits = s.emits ∧
    (s.clearBank c b n).classes = s.classes ∧ (s.clearBank c b n).chgs = s.chgs ∧ (s.clearBank c b n).mons = s.mons ∧
    (s.clearBank c b n).eye = s.eye ∧ (s.clearBank c b n).motor = s.motor ∧ (s.clearBank c b n).host = s.host ∧
    (s.clearBank c b n).reqs = s.reqs ∧ (s.clearBank c b n).rings = s.rings ∧ (s.clearBank c b n).hk = s.hk ∧
    (s.clearBank c b n).saf = s.saf ∧ (s.clearBank c b n).flt = s.flt ∧ (s.clearBank c b n).otp = s.otp ∧
    (s.clearBank c b n).free = s.free ∧ (s.clearBank c b n).pending = s.pending ∧
    (∀ x : Nat, (s.clearBank c b n).reg x = s.reg x) ∧ (∀ x : FRef, (s.clearBank c b n).rd x = s.rd x) ∧
    (∀ x : FRef, (s.clearBank c b n).flag x = s.flag x) ∧ (∀ x : FRef, (s.clearBank c b n).rdInt x = s.rdInt x) ∧
    (∀ x : Nat, (s.clearBank c b n).crate x = s.crate x) ∧ (∀ x y : Nat, (s.clearBank c b n).chan x y = s.chan x y) ∧
    (∀ x y : Nat, (s.clearBank c b n).slice x y = s.slice x y) ∧ (∀ x : Nat, (s.clearBank c b n).emit x = s.emit x) ∧
    (∀ x : Nat, (s.clearBank c b n).chg x = s.chg x) ∧ (∀ x : Nat, (s.clearBank c b n).mon x = s.mon x) ∧
    (∀ x : RingId, (s.clearBank c b n).ring x = s.ring x) ∧ (∀ x : Src, (s.clearBank c b n).req x = s.req x) ∧
    (∀ x : Nat, (s.clearBank c b n).pair x = s.pair x) ∧ (∀ x : Nat, (s.clearBank c b n).out x = s.out x) ∧
    (∀ x : Nat, (s.clearBank c b n).sto x = s.sto x) ∧ (∀ x : Nat, (s.clearBank c b n).zone x = s.zone x) ∧
    (∀ x : Nat, (s.clearBank c b n).hostByte x = s.hostByte x) ∧ (s.clearBank c b n).running = s.running :=
  ⟨rfl, rfl, rfl, rfl, rfl, rfl, rfl, rfl, rfl, rfl, rfl, rfl, rfl, rfl, rfl, rfl, rfl, rfl, rfl, rfl, rfl, rfl, rfl,
   fun _ => rfl, fun _ => rfl, fun _ => rfl, fun _ => rfl, fun _ => rfl, fun _ _ => rfl, fun _ _ => rfl, fun _ => rfl,
   fun _ => rfl, fun _ => rfl, fun _ => rfl, fun _ => rfl, fun _ => rfl, fun _ => rfl, fun _ => rfl, fun _ => rfl,
   fun _ => rfl, rfl⟩

/-- What skipFree leaves as it was. -/
@[simp] theorem State.skipFree_keeps {n : Nat} :
    (s.skipFree n).regs = s.regs ∧ (s.skipFree n).bank = s.bank ∧ (s.skipFree n).hostMem = s.hostMem ∧
    (s.skipFree n).clk = s.clk ∧ (s.skipFree n).tap = s.tap ∧ (s.skipFree n).crates = s.crates ∧
    (s.skipFree n).chans = s.chans ∧ (s.skipFree n).slices = s.slices ∧ (s.skipFree n).shot = s.shot ∧
    (s.skipFree n).emits = s.emits ∧ (s.skipFree n).classes = s.classes ∧ (s.skipFree n).chgs = s.chgs ∧
    (s.skipFree n).mons = s.mons ∧ (s.skipFree n).eye = s.eye ∧ (s.skipFree n).motor = s.motor ∧ (s.skipFree n).host = s.host ∧
    (s.skipFree n).reqs = s.reqs ∧ (s.skipFree n).rings = s.rings ∧ (s.skipFree n).hk = s.hk ∧ (s.skipFree n).saf = s.saf ∧
    (s.skipFree n).flt = s.flt ∧ (s.skipFree n).otp = s.otp ∧ (s.skipFree n).free = s.free + n ∧
    (s.skipFree n).pending = s.pending ∧ (∀ x : Nat, (s.skipFree n).reg x = s.reg x) ∧
    (∀ x : FRef, (s.skipFree n).rd x = s.rd x) ∧ (∀ x : FRef, (s.skipFree n).flag x = s.flag x) ∧
    (∀ x : FRef, (s.skipFree n).rdInt x = s.rdInt x) ∧ (∀ x : Nat, (s.skipFree n).crate x = s.crate x) ∧
    (∀ x y : Nat, (s.skipFree n).chan x y = s.chan x y) ∧ (∀ x y : Nat, (s.skipFree n).slice x y = s.slice x y) ∧
    (∀ x : Nat, (s.skipFree n).emit x = s.emit x) ∧ (∀ x : Nat, (s.skipFree n).chg x = s.chg x) ∧
    (∀ x : Nat, (s.skipFree n).mon x = s.mon x) ∧ (∀ x : RingId, (s.skipFree n).ring x = s.ring x) ∧
    (∀ x : Src, (s.skipFree n).req x = s.req x) ∧ (∀ x : Nat, (s.skipFree n).pair x = s.pair x) ∧
    (∀ x : Nat, (s.skipFree n).out x = s.out x) ∧ (∀ x : Nat, (s.skipFree n).sto x = s.sto x) ∧
    (∀ x : Nat, (s.skipFree n).zone x = s.zone x) ∧ (∀ x : Nat, (s.skipFree n).hostByte x = s.hostByte x) ∧
    (∀ x y : Nat, (s.skipFree n).bankByte x y = s.bankByte x y) ∧ (s.skipFree n).running = s.running :=
  ⟨rfl, rfl, rfl, rfl, rfl, rfl, rfl, rfl, rfl, rfl, rfl, rfl, rfl, rfl, rfl, rfl, rfl, rfl, rfl, rfl, rfl, rfl, rfl, rfl,
   fun _ => rfl, fun _ => rfl, fun _ => rfl, fun _ => rfl, fun _ => rfl, fun _ _ => rfl, fun _ _ => rfl, fun _ => rfl,
   fun _ => rfl, fun _ => rfl, fun _ => rfl, fun _ => rfl, fun _ => rfl, fun _ => rfl, fun _ => rfl, fun _ => rfl,
   fun _ => rfl, fun _ _ => rfl, rfl⟩

/-! ## Fields of a word -/

/-- A field of a 32-bit register. -/
abbrev FRef.fits (f : FRef) : Prop := f.lsb + f.width ≤ 32

/-- Two fields of one register have no bit in common. -/
abbrev FRef.apart (f g : FRef) : Prop := f.lsb + f.width ≤ g.lsb ∨ g.lsb + g.width ≤ f.lsb

theorem FRef.getLsbD_mask (f : FRef) (i : Nat) : f.mask.getLsbD i = (decide (i < 32) && decide (i < f.width)) := by
  simp [FRef.mask, BitVec.getLsbD_ofNat, Nat.testBit_two_pow_sub_one]

theorem FRef.testBit_get (f : FRef) (w : Word) (i : Nat) :
    (f.get w).testBit i = (w.getLsbD (f.lsb + i) && (decide (i < 32) && decide (i < f.width))) := by
  unfold FRef.get
  rw [← BitVec.getLsbD.eq_1, BitVec.getLsbD_and, BitVec.getLsbD_ushiftRight, FRef.getLsbD_mask]

theorem FRef.getLsbD_set (f : FRef) (v : Nat) (w : Word) (i : Nat) (hi : i < 32) :
    (f.set v w).getLsbD i =
      if f.lsb ≤ i ∧ i < f.lsb + f.width then v.testBit (i - f.lsb) else w.getLsbD i := by
  unfold FRef.set
  simp only [BitVec.getLsbD_or, BitVec.getLsbD_and, BitVec.getLsbD_not, BitVec.getLsbD_shiftLeft, FRef.getLsbD_mask,
    BitVec.getLsbD_ofNat, hi, decide_true, Bool.true_and]
  by_cases h1 : f.lsb ≤ i
  · by_cases h2 : i < f.lsb + f.width
    · have a1 : i - f.lsb < 32 := by omega
      have a2 : i - f.lsb < f.width := by omega
      have a3 : ¬ i < f.lsb := by omega
      simp [h1, h2, a1, a2, a3]
    · have a2 : ¬ i - f.lsb < f.width := by omega
      simp [h1, h2, a2]
  · have a3 : i < f.lsb := by omega
    simp [h1, a3]

/-- A field reads what was written into it, cut to its width. -/
theorem FRef.get_set_same {f : FRef} (hf : f.fits) (v : Nat) (w : Word) : f.get (f.set v w) = v % 2 ^ f.width := by
  unfold FRef.fits at hf
  apply Nat.eq_of_testBit_eq
  intro i
  rw [FRef.testBit_get, Nat.testBit_mod_two_pow]
  by_cases h : i < f.width
  · have a1 : i < 32 := by omega
    have a2 : f.lsb + i < 32 := by omega
    rw [FRef.getLsbD_set _ _ _ _ a2]
    have a3 : f.lsb + i < f.lsb + f.width := by omega
    simp [h, a1, a3]
  · simp [h]

/-- A field keeps its value where a field apart from it is written. -/
theorem FRef.get_set_apart {f g : FRef} (h : f.apart g) (v : Nat) (w : Word) : f.get (g.set v w) = f.get w := by
  unfold FRef.apart at h
  apply Nat.eq_of_testBit_eq
  intro i
  rw [FRef.testBit_get, FRef.testBit_get]
  by_cases hi : i < f.width
  · by_cases h32 : f.lsb + i < 32
    · rw [FRef.getLsbD_set _ _ _ _ h32]
      have : ¬ (g.lsb ≤ f.lsb + i ∧ f.lsb + i < g.lsb + g.width) := by omega
      simp [this]
    · rw [BitVec.getLsbD_of_ge _ _ (by omega), BitVec.getLsbD_of_ge _ _ (by omega)]
  · simp [hi]

/-! ## Registers after a write -/

@[simp] theorem State.reg_setReg_same {a : Nat} {w : Word} : (s.setReg a w).reg a = w := sparseGet_set_same ..

theorem State.reg_setReg_ne {a b : Nat} {w : Word} (h : a ≠ b) : (s.setReg a w).reg b = s.reg b := sparseGet_set_ne _ _ h

theorem State.reg_setReg {a b : Nat} {w : Word} : (s.setReg a w).reg b = if a = b then w else s.reg b := by
  split
  · rename_i h; subst h; exact State.reg_setReg_same
  · rename_i h; exact State.reg_setReg_ne h

theorem State.reg_dropRegs {p : Nat → Bool} {a : Nat} : (s.dropRegs p).reg a = if p a then resetWord a else s.reg a := by
  unfold State.dropRegs State.reg
  rw [sparseGet_filter (fun i => !p i)]
  cases p a <;> rfl

theorem State.reg_put_ne {f : FRef} {v b : Nat} (h : f.addr ≠ b) : (s.put f v).reg b = s.reg b := State.reg_setReg_ne h
theorem State.reg_putB_ne {f : FRef} {v : Bool} {b : Nat} (h : f.addr ≠ b) : (s.putB f v).reg b = s.reg b :=
  State.reg_setReg_ne h
theorem State.reg_putInt_ne {f : FRef} {i : Int} {b : Nat} (h : f.addr ≠ b) : (s.putInt f i).reg b = s.reg b :=
  State.reg_setReg_ne h
theorem State.reg_bump_ne {f : FRef} {n b : Nat} (h : f.addr ≠ b) : (s.bump f n).reg b = s.reg b := State.reg_setReg_ne h
theorem State.reg_wrapInc_ne {f : FRef} {b : Nat} (h : f.addr ≠ b) : (s.wrapInc f).reg b = s.reg b := State.reg_setReg_ne h
theorem State.reg_raise_ne {f : FRef} {v b : Nat} (h : f.addr ≠ b) : (s.raise f v).reg b = s.reg b := State.reg_setReg_ne h

theorem State.rd_put_same {f : FRef} {v : Nat} (hf : f.fits) : (s.put f v).rd f = v % 2 ^ f.width := by
  unfold State.rd State.put
  rw [State.reg_setReg_same, FRef.get_set_same hf]

theorem State.rd_put_apart {f g : FRef} {v : Nat} (h : g.addr ≠ f.addr ∨ f.apart g) : (s.put g v).rd f = s.rd f := by
  unfold State.rd State.put
  by_cases ha : g.addr = f.addr
  · have hap : f.apart g := h.resolve_left (fun hn => hn ha)
    rw [← ha, State.reg_setReg_same, FRef.get_set_apart hap]
  · rw [State.reg_setReg_ne ha]

theorem State.rd_putB_same {f : FRef} {b : Bool} (hf : f.fits) (hw : f.width = 1) : (s.putB f b).rd f = b.toNat := by
  unfold State.putB
  rw [State.rd_put_same hf, hw]
  cases b <;> rfl

theorem State.rd_putB_apart {f g : FRef} {b : Bool} (h : g.addr ≠ f.addr ∨ f.apart g) : (s.putB g b).rd f = s.rd f :=
  State.rd_put_apart h

theorem State.flag_putB_same {f : FRef} {b : Bool} (hf : f.fits) (hw : f.width = 1) : (s.putB f b).flag f = b := by
  unfold State.flag
  rw [State.rd_putB_same hf hw]
  cases b <;> rfl

/-- A field reads below 2 to its width. -/
theorem State.rd_lt {f : FRef} : s.rd f < 2 ^ f.width := by
  unfold State.rd
  refine Nat.lt_pow_two_of_testBit _ (fun i hi => ?_)
  rw [FRef.testBit_get]
  simp [Nat.not_lt.mpr hi]

/-! ## Elements after a write -/

@[simp] theorem State.crate_setCrate_same {c : Nat} {v : Crate} : (s.setCrate c v).crate c = v := sparseGet_set_same ..
theorem State.crate_setCrate_ne {c d : Nat} {v : Crate} (h : c ≠ d) : (s.setCrate c v).crate d = s.crate d :=
  sparseGet_set_ne _ _ h
@[simp] theorem State.crate_modCrate_same {c : Nat} {f : Crate → Crate} : (s.modCrate c f).crate c = f (s.crate c) :=
  sparseGet_set_same ..
theorem State.crate_modCrate_ne {c d : Nat} {f : Crate → Crate} (h : c ≠ d) : (s.modCrate c f).crate d = s.crate d :=
  sparseGet_set_ne _ _ h
@[simp] theorem State.chan_modChan_same {c k : Nat} {f : Chan → Chan} : (s.modChan c k f).chan c k = f (s.chan c k) :=
  sparseGet_set_same ..
theorem State.chan_modChan_ne {c k d j : Nat} {f : Chan → Chan} (h : 16 * c + k ≠ 16 * d + j) :
    (s.modChan c k f).chan d j = s.chan d j := sparseGet_set_ne _ _ h
@[simp] theorem State.slice_modSlice_same {c i : Nat} {f : Slice → Slice} : (s.modSlice c i f).slice c i = f (s.slice c i) :=
  sparseGet_set_same ..
theorem State.slice_modSlice_ne {c i d j : Nat} {f : Slice → Slice} (h : 17 * c + i ≠ 17 * d + j) :
    (s.modSlice c i f).slice d j = s.slice d j := sparseGet_set_ne _ _ h
@[simp] theorem State.emit_modEmit_same {e : Nat} {f : Emit → Emit} : (s.modEmit e f).emit e = f (s.emit e) :=
  sparseGet_set_same ..
theorem State.emit_modEmit_ne {e d : Nat} {f : Emit → Emit} (h : e ≠ d) : (s.modEmit e f).emit d = s.emit d :=
  sparseGet_set_ne _ _ h
@[simp] theorem State.chg_modChg_same {e : Nat} {f : Chg → Chg} : (s.modChg e f).chg e = f (s.chg e) := sparseGet_set_same ..
theorem State.chg_modChg_ne {e d : Nat} {f : Chg → Chg} (h : e ≠ d) : (s.modChg e f).chg d = s.chg d :=
  sparseGet_set_ne _ _ h
@[simp] theorem State.mon_modMon_same {m : Nat} {f : Mon → Mon} : (s.modMon m f).mon m = f (s.mon m) := sparseGet_set_same ..
theorem State.mon_modMon_ne {m d : Nat} {f : Mon → Mon} (h : m ≠ d) : (s.modMon m f).mon d = s.mon d :=
  sparseGet_set_ne _ _ h
@[simp] theorem State.ring_setRing_same {r : RingId} {v : Ring} : (s.setRing r v).ring r = v := sparseGet_set_same ..
theorem State.ring_setRing_ne {r q : RingId} {v : Ring} (h : r ≠ q) : (s.setRing r v).ring q = s.ring q :=
  sparseGet_set_ne _ _ (fun e => h (BitVec.eq_of_toNat_eq e))
@[simp] theorem State.ring_modRing_same {r : RingId} {f : Ring → Ring} : (s.modRing r f).ring r = f (s.ring r) :=
  sparseGet_set_same ..
theorem State.ring_modRing_ne {r q : RingId} {f : Ring → Ring} (h : r ≠ q) : (s.modRing r f).ring q = s.ring q :=
  State.ring_setRing_ne h
@[simp] theorem State.req_modReq_same {q : Src} {f : Req → Req} : (s.modReq q f).req q = f (s.req q) := sparseGet_set_same ..
theorem State.req_modReq_ne {q p : Src} {f : Req → Req} (h : q ≠ p) : (s.modReq q f).req p = s.req p :=
  sparseGet_set_ne _ _ (fun e => h (by cases q <;> cases p <;> first | rfl | cases e))
@[simp] theorem State.pair_modPair_same {i : Nat} {f : Pair → Pair} : (s.modPair i f).pair i = f (s.pair i) :=
  sparseGet_set_same ..
theorem State.pair_modPair_ne {i j : Nat} {f : Pair → Pair} (h : i ≠ j) : (s.modPair i f).pair j = s.pair j :=
  sparseGet_set_ne _ _ h
@[simp] theorem State.out_modOut_same {o : Nat} {f : Out → Out} : (s.modOut o f).out o = f (s.out o) := sparseGet_set_same ..
theorem State.out_modOut_ne {o p : Nat} {f : Out → Out} (h : o ≠ p) : (s.modOut o f).out p = s.out p :=
  sparseGet_set_ne _ _ h
@[simp] theorem State.sto_modSto_same {n : Nat} {f : Sto → Sto} : (s.modSto n f).sto n = f (s.sto n) := sparseGet_set_same ..
theorem State.sto_modSto_ne {n p : Nat} {f : Sto → Sto} (h : n ≠ p) : (s.modSto n f).sto p = s.sto p :=
  sparseGet_set_ne _ _ h
@[simp] theorem State.zone_modZone_same {z : Nat} {f : Zone → Zone} : (s.modZone z f).zone z = f (s.zone z) :=
  sparseGet_set_same ..
theorem State.zone_modZone_ne {z y : Nat} {f : Zone → Zone} (h : z ≠ y) : (s.modZone z f).zone y = s.zone y :=
  sparseGet_set_ne _ _ h

/-! ## Control -/

@[simp] theorem doIf_true {f : State → State} : doIf true f s = f s := rfl
@[simp] theorem doIf_false {f : State → State} : doIf false f s = s := rfl
@[simp] theorem forAll_nil {α : Type} {f : State → α → State} : forAll [] f s = s := rfl
@[simp] theorem forAll_cons {α : Type} {x : α} {l : List α} {f : State → α → State} :
    forAll (x :: l) f s = forAll l f (f s x) := rfl

end Sys2Proof.Machine
end

