-- ==== Sys2Proof/Laws/Regs.lean ====
section
/-! SUPPORT. Which registers each shared operation may write, in a form that chains (from s to t, then on). -/

namespace Sys2Proof.Machine

variable {l : List Nat} {a : Nat} {s t : State}

theorem onlyRegs_refl : OnlyRegs l s s := fun _ _ => rfl

theorem onlyRegs_trans {u : State} (h : OnlyRegs l s t) (g : OnlyRegs l t u) : OnlyRegs l s u :=
  fun b hb => (g b hb).trans (h b hb)

theorem onlyRegs_mono {m : List Nat} (hm : ∀ b ∈ l, b ∈ m) (h : OnlyRegs l s t) : OnlyRegs m s t :=
  fun b hb => h b (fun hl => hb (hm b hl))

/-- A field at an unlisted address reads as before. -/
theorem OnlyRegs.rd (h : OnlyRegs l s t) {f : FRef} (hf : f.addr ∉ l) : t.rd f = s.rd f := by
  unfold State.rd; rw [h _ hf]

theorem OnlyRegs.flag (h : OnlyRegs l s t) {f : FRef} (hf : f.addr ∉ l) : t.flag f = s.flag f := by
  unfold State.flag; rw [h.rd hf]

/-! ## The plain updates -/

theorem regs_setReg (ha : a ∈ l) {w : Word} (h : OnlyRegs l s t) : OnlyRegs l s (t.setReg a w) := by
  intro b hb
  have hne : a ≠ b := by rintro rfl; exact hb ha
  rw [State.reg_setReg_ne hne]
  exact h b hb
theorem regs_put {f : FRef} {v : Nat} (ha : f.addr ∈ l) (h : OnlyRegs l s t) : OnlyRegs l s (t.put f v) :=
  regs_setReg ha h
theorem regs_putB {f : FRef} {b : Bool} (ha : f.addr ∈ l) (h : OnlyRegs l s t) : OnlyRegs l s (t.putB f b) :=
  regs_setReg ha h
theorem regs_putInt {f : FRef} {i : Int} (ha : f.addr ∈ l) (h : OnlyRegs l s t) : OnlyRegs l s (t.putInt f i) :=
  regs_setReg ha h
theorem regs_bump {f : FRef} {n : Nat} (ha : f.addr ∈ l) (h : OnlyRegs l s t) : OnlyRegs l s (t.bump f n) :=
  regs_setReg ha h
theorem regs_wrapInc {f : FRef} (ha : f.addr ∈ l) (h : OnlyRegs l s t) : OnlyRegs l s (t.wrapInc f) :=
  regs_setReg ha h
theorem regs_raise {f : FRef} {v : Nat} (ha : f.addr ∈ l) (h : OnlyRegs l s t) : OnlyRegs l s (t.raise f v) :=
  regs_setReg ha h
theorem regs_setCrate {c : Nat} {v : Crate} (h : OnlyRegs l s t) : OnlyRegs l s (t.setCrate c v) := h
theorem regs_modCrate {c : Nat} {f : Crate → Crate} (h : OnlyRegs l s t) : OnlyRegs l s (t.modCrate c f) := h
theorem regs_setChan {c k : Nat} {v : Chan} (h : OnlyRegs l s t) : OnlyRegs l s (t.setChan c k v) := h
theorem regs_modChan {c k : Nat} {f : Chan → Chan} (h : OnlyRegs l s t) : OnlyRegs l s (t.modChan c k f) := h
theorem regs_setSlice {c i : Nat} {v : Slice} (h : OnlyRegs l s t) : OnlyRegs l s (t.setSlice c i v) := h
theorem regs_modSlice {c i : Nat} {f : Slice → Slice} (h : OnlyRegs l s t) : OnlyRegs l s (t.modSlice c i f) := h
theorem regs_modEmit {e : Nat} {f : Emit → Emit} (h : OnlyRegs l s t) : OnlyRegs l s (t.modEmit e f) := h
theorem regs_modChg {e : Nat} {f : Chg → Chg} (h : OnlyRegs l s t) : OnlyRegs l s (t.modChg e f) := h
theorem regs_modMon {m : Nat} {f : Mon → Mon} (h : OnlyRegs l s t) : OnlyRegs l s (t.modMon m f) := h
theorem regs_setRing {r : RingId} {v : Ring} (h : OnlyRegs l s t) : OnlyRegs l s (t.setRing r v) := h
theorem regs_modRing {r : RingId} {f : Ring → Ring} (h : OnlyRegs l s t) : OnlyRegs l s (t.modRing r f) := h
theorem regs_modReq {q : Src} {f : Req → Req} (h : OnlyRegs l s t) : OnlyRegs l s (t.modReq q f) := h
theorem regs_modPair {i : Nat} {f : Pair → Pair} (h : OnlyRegs l s t) : OnlyRegs l s (t.modPair i f) := h
theorem regs_modOut {o : Nat} {f : Out → Out} (h : OnlyRegs l s t) : OnlyRegs l s (t.modOut o f) := h
theorem regs_modSto {n : Nat} {f : Sto → Sto} (h : OnlyRegs l s t) : OnlyRegs l s (t.modSto n f) := h
theorem regs_modZone {z : Nat} {f : Zone → Zone} (h : OnlyRegs l s t) : OnlyRegs l s (t.modZone z f) := h
theorem regs_modClk {f : Clk → Clk} (h : OnlyRegs l s t) : OnlyRegs l s (t.modClk f) := h
theorem regs_modShot {f : Shot → Shot} (h : OnlyRegs l s t) : OnlyRegs l s (t.modShot f) := h
theorem regs_modMotor {f : Motor → Motor} (h : OnlyRegs l s t) : OnlyRegs l s (t.modMotor f) := h
theorem regs_modHost {f : HostIf → HostIf} (h : OnlyRegs l s t) : OnlyRegs l s (t.modHost f) := h
theorem regs_modHk {f : Hk → Hk} (h : OnlyRegs l s t) : OnlyRegs l s (t.modHk f) := h
theorem regs_modSaf {f : Saf → Saf} (h : OnlyRegs l s t) : OnlyRegs l s (t.modSaf f) := h
theorem regs_modFlt {f : Flt → Flt} (h : OnlyRegs l s t) : OnlyRegs l s (t.modFlt f) := h
theorem regs_modEye {f : EyeLock → EyeLock} (h : OnlyRegs l s t) : OnlyRegs l s (t.modEye f) := h
theorem regs_modOtp {f : Otp → Otp} (h : OnlyRegs l s t) : OnlyRegs l s (t.modOtp f) := h
theorem regs_modTap {f : Tap → Tap} (h : OnlyRegs l s t) : OnlyRegs l s (t.modTap f) := h
theorem regs_clearBanks  (h : OnlyRegs l s t) : OnlyRegs l s t.clearBanks := h
theorem regs_setClass {q : Nat} {b : List Nat} (h : OnlyRegs l s t) : OnlyRegs l s (t.setClass q b) := h
theorem regs_writeHost {a : Nat} {bs : List Byte} (h : OnlyRegs l s t) : OnlyRegs l s (t.writeHost a bs) := h
theorem regs_setBankByte {c b : Nat} {v : Byte} (h : OnlyRegs l s t) : OnlyRegs l s (t.setBankByte c b v) := h
theorem regs_clearBank {c b n : Nat} (h : OnlyRegs l s t) : OnlyRegs l s (t.clearBank c b n) := h
theorem regs_skipFree {n : Nat} (h : OnlyRegs l s t) : OnlyRegs l s (t.skipFree n) := h

theorem regs_doIf {c : Bool} {f : State → State} (hf : ∀ u, OnlyRegs l s u → OnlyRegs l s (f u)) (h : OnlyRegs l s t) :
    OnlyRegs l s (doIf c f t) := by
  unfold doIf; split
  · exact hf t h
  · exact h

theorem regs_forAll {α : Type} {xs : List α} {f : State → α → State} (hf : ∀ u x, OnlyRegs l s u → OnlyRegs l s (f u x))
    (h : OnlyRegs l s t) : OnlyRegs l s (forAll xs f t) := by
  unfold forAll
  induction xs generalizing t with
  | nil => exact h
  | cons x r ih => exact ih (hf t x h)

theorem regs_ite {c : Prop} [Decidable c] {u v : State} (hu : OnlyRegs l s u) (hv : OnlyRegs l s v) :
    OnlyRegs l s (if c then u else v) := by
  split
  · exact hu
  · exact hv

/-! ## Events, log entries, ready bits, refused writes, completions -/

theorem regs_pushRec {r : Rec} (h : OnlyRegs l s t) : OnlyRegs l s (t.pushRec r) := h

theorem regs_queueEvent {ws : List Word} (hl : ∀ b ∈ eventRegs, b ∈ l) (h : OnlyRegs l s t) :
    OnlyRegs l s (t.queueEvent ws) := by
  unfold State.queueEvent
  refine regs_ite (regs_ite ?_ ?_) h
  · exact regs_putB (hl _ (by simp [eventRegs, HIF_IRQ_STAT_evq])) (regs_put (hl _ (by simp [eventRegs, HIF_EVQ_STAT_fill])) h)
  · exact regs_bump (hl _ (by simp [eventRegs, HIF_EVQ_STAT_lost])) h

theorem regs_eventTo {f : Func} {ws : List Word} (hl : ∀ b ∈ eventRegs, b ∈ l) (h : OnlyRegs l s t) :
    OnlyRegs l s (t.eventTo f ws) := by
  unfold State.eventTo
  refine regs_ite h (regs_bump (hl _ ?_) h)
  cases f <;> simp [eventRegs, HIF_FN_ERR_evt_drop, fnIdx]

/-- Posting an event writes at most the event registers. -/
theorem regs_post {ty kind index : Nat} {d : List Word} (hl : ∀ b ∈ eventRegs, b ∈ l) (h : OnlyRegs l s t) :
    OnlyRegs l s (t.post ty kind index d) := by
  unfold State.post
  exact regs_ite (regs_queueEvent hl (regs_eventTo hl (regs_eventTo hl h))) h

theorem regs_postRing {ty : Nat} {r : RingId} {d : List Word} (hl : ∀ b ∈ eventRegs, b ∈ l) (h : OnlyRegs l s t) :
    OnlyRegs l s (t.postRing ty r d) := by
  unfold State.postRing
  exact regs_ite (regs_queueEvent hl (regs_eventTo hl h)) h

theorem regs_showCrateReady (hl : GLB_READY ∈ l) (h : OnlyRegs l s t) : OnlyRegs l s t.showCrateReady := by
  unfold State.showCrateReady
  exact regs_putB hl (regs_putB hl h)

theorem regs_postReady {n : Nat} (hl : ∀ b ∈ eventRegs, b ∈ l) (h : OnlyRegs l s t) : OnlyRegs l s (t.postReady n) := by
  unfold State.postReady
  refine regs_forAll (fun _ _ hu => regs_post hl hu) (regs_putB (hl _ ?_) h)
  simp [eventRegs, HIF_IRQ_STAT_ready]

theorem regs_changeReady {f : State → State} (hl : ∀ b ∈ readyRegs, b ∈ l)
    (hf : ∀ u, OnlyRegs l s u → OnlyRegs l s (f u)) (h : OnlyRegs l s t) : OnlyRegs l s (t.changeReady f) := by
  unfold State.changeReady
  have h1 : OnlyRegs l s (f t).showCrateReady := regs_showCrateReady (hl _ (by simp [readyRegs])) (hf t h)
  exact regs_ite h1 (regs_doIf (fun _ hu => regs_postReady (fun b hb => hl b (by simp [readyRegs, hb])) hu) h1)

theorem regs_setReady {f : FRef} {v : Bool} (hl : ∀ b ∈ readyRegs, b ∈ l) (hf : f.addr ∈ l) (h : OnlyRegs l s t) :
    OnlyRegs l s (t.setReady f v) := regs_changeReady hl (fun _ hu => regs_putB hf hu) h

/-- A fault-log entry writes at most the log registers. -/
theorem regs_putLog {e : LogEntry} (hl : ∀ b ∈ logRegs, b ∈ l) (h : OnlyRegs l s t) : OnlyRegs l s (t.putLog e) := by
  unfold State.putLog
  refine regs_post (fun b hb => hl b (by simp [logRegs, hb])) (regs_putB (hl _ ?_) (regs_wrapInc (hl _ ?_) (regs_put (hl _ ?_)
    (regs_modFlt h))))
  · simp [logRegs, eventRegs, HIF_IRQ_STAT_fault]
  · simp [logRegs, FLT_LOG_TOTAL_total]
  · simp [logRegs, FLT_LOG_STAT_count]

theorem regs_log {code cls kind index sub strikes value : Nat} (hl : ∀ b ∈ logRegs, b ∈ l) (h : OnlyRegs l s t) :
    OnlyRegs l s (t.log code cls kind index sub strikes value) := by
  unfold State.log
  exact regs_ite (regs_putLog hl h) h

theorem regs_refuseWrite {q : Src} {x : Nat} (hl : ∀ b ∈ refuseRegs, b ∈ l) (h : OnlyRegs l s t) :
    OnlyRegs l s (t.refuseWrite q x) := by
  unfold State.refuseWrite
  refine regs_log (fun b hb => hl b (by simp [refuseRegs, hb])) (regs_doIf (fun u hu => regs_bump (hl _ ?_) hu)
    (regs_put (hl _ ?_) (regs_bump (hl _ ?_) (regs_put (hl _ ?_) h))))
  · simp [refuseRegs, HIF_SPI_STAT_refused]
  all_goals simp [refuseRegs, GLB_WR_REFUSE_addr, GLB_WR_REFUSE_ct, GLB_WR_REFUSE_src]

theorem regs_complete {ref : CmdRef} {st : Nat} {n : DWord} {d : Word} (h : OnlyRegs l s t) :
    OnlyRegs l s (t.complete ref st n d) := by
  unfold State.complete
  split
  · exact h
  · exact h

theorem regs_fail {ref : CmdRef} {st : Nat} (h : OnlyRegs l s t) : OnlyRegs l s (t.fail ref st) := regs_complete h

theorem regs_detect {code kind index sub value elem : Nat} (h : OnlyRegs l s t) :
    OnlyRegs l s (t.detect code kind index sub value elem) := h

theorem regs_openCmd {ref : CmdRef} (h : OnlyRegs l s t) : OnlyRegs l s (t.openCmd ref) := h

end Sys2Proof.Machine
end

