-- ==== Sys2Proof/Laws/Ready.lean ====
section
/-! SUPPORT. What posting, logging and changing ready bits do to the fields that other statements speak of. -/

namespace Sys2Proof.Machine

variable {s t : State}

/-- A field outside the event registers keeps its value when an event is posted. -/
theorem rd_post {f : FRef} {ty kind index : Nat} {d : List Word} (h : f.addr ∉ eventRegs) :
    (s.post ty kind index d).rd f = s.rd f :=
  OnlyRegs.rd (regs_post (fun _ hb => hb) onlyRegs_refl) h

theorem flag_post {f : FRef} {ty kind index : Nat} {d : List Word} (h : f.addr ∉ eventRegs) :
    (s.post ty kind index d).flag f = s.flag f := by
  unfold State.flag; rw [rd_post h]

theorem rd_log {f : FRef} {code cls kind index sub strikes value : Nat} (h : f.addr ∉ logRegs) :
    (s.log code cls kind index sub strikes value).rd f = s.rd f :=
  OnlyRegs.rd (regs_log (fun _ hb => hb) onlyRegs_refl) h

/-- Interrupt flags other than the event queue's keep their value when an event is posted. -/
theorem rd_queueEvent_irq {f : FRef} {ws : List Word} (ha : f.addr = HIF_IRQ_STAT) (hq : f.apart HIF_IRQ_STAT_evq) :
    (s.queueEvent ws).rd f = s.rd f := by
  unfold State.queueEvent State.showEvq
  split
  · split
    · rw [State.rd_putB_apart (Or.inr hq), State.rd_put_apart (Or.inl (by rw [ha]; decide))]
      rfl
    · exact State.rd_put_apart (Or.inl (by rw [ha]; decide))
  · rfl

theorem rd_eventTo_irq {f : FRef} {g : Func} {ws : List Word} (ha : f.addr = HIF_IRQ_STAT) :
    (s.eventTo g ws).rd f = s.rd f := by
  unfold State.eventTo
  split
  · rfl
  · exact State.rd_put_apart (Or.inl (by rw [ha]; cases g <;> decide))

theorem rd_post_irq {f : FRef} {ty kind index : Nat} {d : List Word} (ha : f.addr = HIF_IRQ_STAT)
    (hq : f.apart HIF_IRQ_STAT_evq) : (s.post ty kind index d).rd f = s.rd f := by
  unfold State.post State.postWords
  split
  · rw [rd_queueEvent_irq ha hq, rd_eventTo_irq ha, rd_eventTo_irq ha]
  · rfl

theorem flag_post_irq {f : FRef} {ty kind index : Nat} {d : List Word} (ha : f.addr = HIF_IRQ_STAT)
    (hq : f.apart HIF_IRQ_STAT_evq) : (s.post ty kind index d).flag f = s.flag f := by
  unfold State.flag; rw [rd_post_irq ha hq]

/-- Words no bit of which differs are equal. -/
theorem eq_of_bitsDiffer {v w : Word} (h : bitsDiffer v w = 0) : v = w := by
  apply BitVec.eq_of_getLsbD_eq
  intro i hi
  have := List.countP_eq_zero.1 h i (List.mem_range.2 hi)
  simpa using this

/-- A field outside the event registers keeps its value when READY is posted. -/
theorem rd_postReady {f : FRef} {n : Nat} (h : f.addr ∉ eventRegs) : (s.postReady n).rd f = s.rd f :=
  OnlyRegs.rd (regs_postReady (fun _ hb => hb) onlyRegs_refl) h

theorem flag_postReady {f : FRef} {n : Nat} (h : f.addr ∉ eventRegs) : (s.postReady n).flag f = s.flag f := by
  unfold State.flag; rw [rd_postReady h]

/-- Posting READY raises its interrupt flag (R553). -/
theorem irq_postReady {n : Nat} : (s.postReady n).flag HIF_IRQ_STAT_ready = true := by
  have key : ∀ (l : List Nat) (u : State), u.flag HIF_IRQ_STAT_ready = true →
      (forAll l (fun t _ => t.post 0x15 0 0 [t.reg GLB_READY]) u).flag HIF_IRQ_STAT_ready = true := by
    intro l
    induction l with
    | nil => exact fun _ h => h
    | cons x l ih => exact fun u h => ih _ (by rw [flag_post_irq rfl (by decide)]; exact h)
  exact key _ _ (State.flag_putB_same (by decide) rfl)

/-- A bit of GLB_READY reads what it was set to; the crate summary bits are not set this way. -/
theorem flag_setReady {f : FRef} {v : Bool} (ha : f.addr = GLB_READY) (hf : f.fits) (hw : f.width = 1)
    (h1 : f.apart GLB_READY_crate_any) (h2 : f.apart GLB_READY_crate_all) : (s.setReady f v).flag f = v := by
  have hshow : ((s.putB f v).showCrateReady).flag f = v := by
    unfold State.showCrateReady State.flag
    rw [State.rd_putB_apart (Or.inr h2), State.rd_putB_apart (Or.inr h1), State.rd_putB_same hf hw]
    cases v <;> rfl
  unfold State.setReady State.changeReady
  split
  · exact hshow
  · unfold doIf
    split
    · exact (flag_postReady (by rw [ha]; decide)).trans hshow
    · exact hshow

/-- Another bit of GLB_READY than the one set, and than the crate summary bits, keeps its value. -/
theorem flag_setReady_other {f g : FRef} {v : Bool} (hg : g.addr = GLB_READY)
    (h : g.apart f) (h1 : g.apart GLB_READY_crate_any) (h2 : g.apart GLB_READY_crate_all) :
    (s.setReady f v).flag g = s.flag g := by
  have hshow : ((s.putB f v).showCrateReady).flag g = s.flag g := by
    unfold State.showCrateReady State.flag
    rw [State.rd_putB_apart (Or.inr h2), State.rd_putB_apart (Or.inr h1), State.rd_putB_apart (Or.inr h)]
  unfold State.setReady State.changeReady
  split
  · exact hshow
  · unfold doIf
    split
    · exact (flag_postReady (by rw [hg]; decide)).trans hshow
    · exact hshow

/-- A bit of GLB_READY that changes while the fabric domain runs raises its interrupt flag (R553). -/
theorem irq_setReady {f : FRef} {v : Bool} (ha : f.addr = GLB_READY) (hf : f.fits) (hw : f.width = 1)
    (h1 : f.apart GLB_READY_crate_any) (h2 : f.apart GLB_READY_crate_all) (hv : s.flag f ≠ v) (hl : s.fabricLive = true) :
    (s.setReady f v).flag HIF_IRQ_STAT_ready = true := by
  have hshow : ((s.putB f v).showCrateReady).flag f = v := by
    unfold State.showCrateReady State.flag
    rw [State.rd_putB_apart (Or.inr h2), State.rd_putB_apart (Or.inr h1), State.rd_putB_same hf hw]
    cases v <;> rfl
  have hlive : ((s.putB f v).showCrateReady).fabricLive = true := by
    have e : ∀ x : FRef, x.addr ≠ GLB_READY → ((s.putB f v).showCrateReady).flag x = s.flag x := by
      intro x hx
      unfold State.showCrateReady State.flag
      rw [State.rd_putB_apart (Or.inl (by rw [show GLB_READY_crate_all.addr = GLB_READY from rfl]; exact fun h => hx h.symm)),
        State.rd_putB_apart (Or.inl (by rw [show GLB_READY_crate_any.addr = GLB_READY from rfl]; exact fun h => hx h.symm)),
        State.rd_putB_apart (Or.inl (by rw [ha]; exact fun h => hx h.symm))]
    unfold State.fabricLive at hl ⊢
    rw [e CLK_STAT_fpll (by decide)]
    exact hl
  unfold State.setReady State.changeReady
  split
  · rename_i hsame
    have h3 := eq_of_bitsDiffer (Nat.eq_zero_of_add_eq_zero_right hsame)
    exfalso
    apply hv
    rw [← hshow]
    unfold State.flag State.rd
    rw [ha, h3]
  · rw [hlive]
    exact irq_postReady

end Sys2Proof.Machine
end

