-- ==== Sys2Proof/WellFormed.lean ====
section
/-! DEFINITION. Which commands can come about: the shapes and ranges of their operands. -/

namespace Sys2Proof

/-- A capture register holds one of the 160 tap codes (R84, R92). -/
def Capture.wf (c : Capture) : Bool := decide (c.d < 160)

/-- A self-test makes 16 calibrations (R554). -/
def SelfTest.wf (t : SelfTest) : Bool := t.cals.length == 16

/-- The test tone gives a 12-bit capacitance and an 8-bit conductance (R62, R78). -/
def ToneMeas.wf (m : ToneMeas) : Bool := decide (m.cap < 4096) && decide (m.cond < 256)

/-- A tie-break makes 256 calibrations of each of the two slices (R111). -/
def TieMeas.wf (m : TieMeas) : Bool := m.slice.length == 256 && m.spare.length == 256

/-- A retest makes 256 calibrations of each retested slice (R566). -/
def RetestMeas.wf (m : RetestMeas) : Bool := m.slices.all (fun p => p.2.length == 256)

/-- What a host can write to the fields of configuration space (R353). -/
def CfgSpace.wf (c : CfgSpace) : Bool :=
  [128, 256, 512, 1024, 2048, 4096].contains c.maxPayload && [128, 256, 512, 1024, 2048, 4096].contains c.maxRead
  && decide (0 < c.cplTmoMs)

/-- A read has a size that a request can have, and finds an error of the bank only in the diagnostic window (R257, R285, R358). -/
def ReadAccess.wf (a : ReadAccess) : Bool :=
  [1, 2, 4, 8].contains a.size && (decide (0x80000 ≤ a.addr.toNat) || decide (a.ecc = .clean))

/-- The well-formed commands. -/
def Instr.wf : Instr → Bool
  | .crateStartingDone _ tests => tests.length == 17 && tests.all SelfTest.wf
  | .dwellClose _ m => m.wf
  | .preWindowOpen _ cals => cals.length == 17
  | .startEdge _ _ caps => caps.length == 17 && caps.all Capture.wf
  | .discriminatorCrossing _ _ _ cap sp => cap.wf && sp.all Capture.wf
  | .tieBreakEnd _ m => m.wf
  | .ambientFrameEnd means => means.length == 512
  | .toneCheckEnd _ meas => meas.length == 16 && meas.all ToneMeas.wf
  | .hallCodeChange _ held => decide (0 < held)
  | .indexEdge _ held => decide (0 < held)
  | .frameSyncEdge _ held => decide (0 < held)
  | .windowMonitorChange _ _ held _ => decide (0 < held)
  | .hostLinkUp width speed => [1, 2, 4].contains width.toNat && [1, 2, 3, 4].contains speed.toNat
  | .hostReadCompletion (.data bytes) => decide (0 < bytes.length) && decide (bytes.length ≤ 4096) && bytes.length % 4 == 0
  | .configSpaceWrite _ cfg => cfg.wf
  | .registerWrite _ _ size _ => [1, 2, 4, 8].contains size
  | .diagWindowRead _ access => decide (0x80000 ≤ access.addr.toNat) && access.wf
  | .loRegisterRead _ access => access.wf
  | .rcFieldRead _ access => access.wf
  | .spiWriteFrame bytes => decide (10 ≤ bytes.length)
  | .spiReadFrame bytes _ => decide (12 ≤ bytes.length)
  | _ => true

end Sys2Proof
end

