-- ==== Sys2Proof/Tests/Slice0.lean ====
section
/-! SUPPORT. The model's own tests: for each statement a state and operands that meet the hypotheses of each of its clauses;
ill-formed commands that each check refuses; and single commands whose outcome the manual states. -/

namespace Sys2Proof.Tests

open Sys2Proof Sys2Proof.Machine

set_option Elab.async false

/-- Several fields written in turn. -/
def pokes (l : List (FRef × Nat)) (s : State) : State := l.foldl (fun t p => t.put p.1 p.2) s
/-- A function that its host has enabled. -/
def fnOn : Fn := { Fn.reset with bme := true, mse := true, msixEn := true }
/-- Fabric and timing domain run, the link is up, every block is ready. -/
def up : State :=
  pokes [(CLK_STAT_fpll, 1), (CLK_STAT_xtal, 1), (CLK_STAT_refclk, 1), (CLK_STAT_tpll, 1), (GLB_READY_fabric, 1),
    (GLB_READY_tpll, 1), (GLB_READY_churn, 1), (GLB_READY_hk, 1), (GLB_READY_safety, 1), (GLB_READY_link, 1),
    (GLB_READY_crate_any, 1), (HIF_LINK_up, 1)] { State.reset with host := { HostIf.reset with pf0 := fnOn, pf1 := fnOn } }
/-- A field of the active safety set. -/
def safPut (f : FRef) (v : Nat) (s : State) : State := s.modSaf (fun x => { x with
  active := sparseSet resetWord x.active f.addr (f.set v (sparseGet resetWord x.active f.addr)) })
/-- The reference of the command that a test speaks of. -/
def cref : CmdRef := ⟨0, 1, 0⟩
/-- A command of PF0 whose list has been read. -/
def cmdOf (ws list : List Word) : Cmd := ⟨cref, 1, .pf0, ws, list, .readyList, false, SeqTrack.none⟩
/-- That command is the only one. -/
def withCmd (ws list : List Word) (s : State) : State := s.modHost (fun h => { h with cmds := [cmdOf ws list] })
/-- Words of an event ring's context, of 2^12 units. -/
def ctxE : List Word := [0x080000C3, 0x00010000, 0, 0, 0x20000000, 0, 0x30000000, 0]
/-- Words of a CMD ring's context, its completion ring 1. -/
def ctxC : List Word := [0x00000080, 1, 0, 0, 0x21000000, 0, 0x31000000, 0]
/-- Words of a return ring's context, of 2^10 units. -/
def ctxP : List Word := [0x080200A1, 0x00040000, 100, 0, 0x22000000, 0, 0x32000000, 0]
/-- A ring enabled with a context. -/
def ringOn (r : RingId) (ctx : List Word) (s : State) : State := s.modRing r (fun g => { g with st := .enabled, ctx := ctx })
/-- The CMD ring 0, the event ring 1 and the return ring 16 of PF0, their contexts cached. -/
def rings3 (s : State) : State :=
  ((ringOn 0x10 ctxP (ringOn 1 ctxE (ringOn 0 ctxC s))).put (HIF_FN_CFG_evt_ring 0) 1).modHost
    (fun h => { h with lru := [0, 1, 0x10] })
/-- A dwell that every channel takes part in, each served by its own slice. -/
def dw : Dwell :=
  ⟨3, false, 1, 0, 1, List.replicate 16 0, 0, 0xFFFF, (List.range 16).map some, none, [], false, false, false, false, [], []⟩
/-- A window of group 2, its trigger at LSB 8,000. -/
def win0 : Win := ⟨2, 8000, 0, 10, 40000, 3904, 4704, none, none, false⟩
/-- An event of channel 5. -/
def evt0 : Evt := ⟨5, 1000, 100, false, 1, false, false, false, false, false, 0⟩
/-- An event that opened a charge gate. -/
def pend0 : Pend := ⟨evt0, 256, 0, none, true, false, false, false, 0⟩
/-- A DELAY entry that names emitter 18. -/
def entD : Entry := ⟨257, 0xA00, 320, 0x01280010⟩
/-- The same entry with the ANGLE trigger. -/
def entA : Entry := ⟨0x100, 0xA00, 320, 0x01280010⟩
/-- The same entry with four repeats. -/
def ent4 : Entry := ⟨257, 0x30A00, 2000, 0x01280010⟩
/-- A running entry. -/
def run0 (e : Entry) (committed closed : Nat) : Run := ⟨0, e, 5000, 0, 0, 0, committed, closed, 0, 6000, [], false⟩
/-- Every condition of the laser permit. -/
def permitOn (s : State) : State := pokes [(EYE_LOCK_state, 1), (MOT_STATUS_state, 3), (MOT_PERIOD_period, 100000),
  (SAF_STAT_len_drv, 1), (SAF_STAT_len_rb, 1), (EYE_SPD_min, 0), (EYE_SPD_max, 100000)] s
/-- A dwell descriptor for every channel. -/
def des0 : Descr := ⟨2, 0, 0, 5, 100, 10, 3, false, 0x10, 1, 0, 0, 0, 0xFFFF, 0, false, 0, none, 0, 0, []⟩
/-- A dwell-close marker. -/
def mark0 : CloseMark := ⟨4, 0, none, List.replicate 16 0, 4, 0⟩
/-- A buffer of a dwell. -/
def buf0 (st : BufState) : Buf := { Buf.reset with st := st, dwell := some des0, mark := some mark0 }
/-- The row of the register table at an address. -/
def descOf (a : Nat) : RegDesc := (regDescAt a).getD ⟨0, [], .status, .any, []⟩
/-- A comparator slot that passes. -/
def okS : CmpSlot := ⟨true, false, false, true, true⟩
/-- An SPI write frame. -/
def wrFrame (a : List Byte) : List Byte := (0x02 :: a ++ [0, 0, 0, 7]) ++ [crc8 (0x02 :: a ++ [0, 0, 0, 7]), 0]
/-- An SPI read frame with room for the answer. -/
def rdFrame (a : List Byte) : List Byte := (0x03 :: a) ++ [crc8 (0x03 :: a)] ++ List.replicate 30 0
/-- The safety block in RUN. -/
def safOn (s : State) : State := pokes [(SAF_STAT_state, 2), (SAF_STAT_cfg_valid, 1)] s
/-- A detection of a charge controller. -/
def det0 : Detect := ⟨0x05, 3, 7, 0, 0, elemChg 7⟩
/-- A word differs from its complement. -/
theorem ne_compl (x : Word) : x ≠ ~~~x := fun h => by
  have := congrArg (fun w : Word => w.getLsbD 0) h
  simp at this
/-- With the lower limits 0 an impedance above 0 is too low, whatever the reference resistor. -/
theorem verdict_low (s : State) (w : Word) (h : s.hkLimit HK_TONE_zs = 0) (k : s.hkLimit HK_TONE_zo = 0) :
    s.hkVerdict w 1 = 1 := by
  simp [State.hkVerdict, h, k]
/-- With the shorted limit 0 an impedance of 0 passes, whatever the reference resistor. -/
theorem verdict_ok (s : State) (w : Word) (h : s.hkLimit HK_TONE_zs = 0) : s.hkVerdict w 0 = 0 := by
  simp [State.hkVerdict, h]
/-- An extraction gives at most 4 returns, so an empty record FIFO has room. -/
theorem empty_fifo (s : State) (c k : Nat) (x : Bool) (b : Buf) (d : Descr) (m : CloseMark) (h : s.host.recs.length = 0) :
    s.host.recs.length + (s.extract c k x b d m).returns.length ≤ 1024 := by
  have : (s.extract c k x b d m).returns.length ≤ 4 := List.length_take_le _ _
  omega
/-- The next state of an outcome; the reset state where there is none. -/
def outState (o : Host.Outcome State Fault Refusal) : State :=
  match o with
  | .next t => t
  | _ => State.reset
/-- The motor runs aligned; the angle of the tick before lies behind the present one, or at it. -/
def turning (prev : Nat) (s : State) : State :=
  (pokes [(MOT_STATUS_state, 3), (MOT_STATUS_aligned, 1), (MOT_ANGLE_valid, 1), (MOT_ANGLE_angle, 5)] s).modMotor (fun m => { m with prevAngle := some prev })
/-- On an empty queue nothing waits. -/
theorem none_waits {P : Instr → Prop} {s : State} (h : s.pending = []) : ∀ c r, s.pending = c :: r → P c := fun _ _ k => by
  rw [h] at k
  cases k
/-- A buffer that is to be extracted: three usable charges in coarse block 2, one event with settle. -/
def bufX : Buf := { buf0 .extract with accs := [(2, ⟨900, 3, 0, 1⟩)] }
/-- Channel 5 of crate 2 has that buffer, with 400 events in coarse bin 79. -/
def peaked (s : State) : State :=
  (s.modChan 2 5 (fun h => { h with buf0 := bufX })).setBankHalf 2 (coarseAt 5 false 79) 400
/-- The first return of that channel. -/
def ret0 : Cand := ⟨79, 6400, 6400, 255, 50790400, 51200, 15872, none, false, false, false⟩
/-- The Skimmer's laws set, a valid result delivered for channel 5 of crate 2. -/
def skimmed (a : Nat) (s : State) : State :=
  (pokes [(cratePwrField 2, 2), (CHN_AMB_valid 2 5, 1), (CHN_AMB_amb 2 5, a), (SKM_SUN_ON_sun_on, 1000), (SKM_SUN_ON_sun_step, 50),
    (SKM_CFG_sun_en, 1), (SKM_CFG_bias_en, 1), (SKM_CFG_thr_en, 1), (SKM_THR_LAW_knee, 16), (SKM_THR_LAW_gain, 100),
    (SKM_RATE_dmax, 200), (SKM_BIAS_LAW_bknee, 20), (SKM_BIAS_LAW_bgain, 200), (SKM_LIM_bmax, 30)] s).modChan 2 5
      (fun h => { h with ambDelivered := true })
/-- A dump of the command that a test speaks of, of two dwells, with its dwells seen and the channels it waits for. -/
def dump0 (started : Bool) (seen : Nat) (due : List (Nat × BitVec 16)) : Dump :=
  ⟨some cref, false, 0xFFFF, 2, 0x10, started, seen, 3, 1, due⟩
/-- That dump is under way in crate 2, whose dwell closes. -/
def dumping (u : Dump) (s : State) : State :=
  s.modCrate 2 (fun g => { g with fifo := [.dwellClose mark0], cur := some des0, dump := some u })
/-- A context that no cache holds, and nothing on its way. -/
def uncached (l : List Nat) (s : State) : State := (rings3 s).modHost (fun h => { h with lru := l, readQ := [], reads := [] })
/-- That return is the extraction's first. -/
theorem peaked_return : ((peaked up).extract 2 5 false bufX des0 mark0).returns[0]? = some ret0 := by decide +kernel
/-- Sorting by time brings in no other candidate. -/
theorem mem_insertTau {x y : Cand} {l : List Cand} (h : y ∈ insertTau x l) : y = x ∨ y ∈ l := by
  induction l with
  | nil => simpa [insertTau] using h
  | cons z t ih =>
    simp only [insertTau] at h
    split at h
    · simpa using h
    · rcases List.mem_cons.1 h with h | h
      · exact .inr (h ▸ List.mem_cons_self ..)
      · exact (ih h).imp id (List.mem_cons_of_mem _)
/-- A return is a candidate. -/
theorem cand_of_return {s : State} {c k i : Nat} {x : Bool} {b : Buf} {d : Descr} {m : CloseMark} {y : Cand}
    (h : (s.extract c k x b d m).returns[i]? = some y) : y ∈ (s.extract c k x b d m).cands := by
  have sub : ∀ l : List Cand, y ∈ l.foldr insertTau [] → y ∈ l := fun l => by
    induction l with
    | nil => simp
    | cons z t ih => exact fun g => (mem_insertTau g).elim (fun e => e ▸ List.mem_cons_self ..) (fun g => List.mem_cons_of_mem _ (ih g))
  exact (List.mem_filter.1 (sub _ (List.mem_of_mem_take (List.mem_of_getElem? h)))).1

/-! ## The hypotheses of the statements can be met -/

/-- States and operands that meet the hypotheses of `Obligations.ResetCommands`, clause by clause. -/
theorem witness_ResetCommands :
    (∃ (n : Nat) (s : State), s.clk.phase = .running ∧ 10000 ≤ n)
    ∧ (∃ (n : Nat), n < 1000)
    ∧ (∃ (s : State), s.running = true ∧ s.fabricLive = true ∧ s.rd SAF_STAT_state ≠ 4)
    ∧ (∃ (s : State), s.running = true ∧ s.fabricLive = false ∧ s.rd SAF_STAT_state ≠ 4)
    ∧ (∃ (s : State), s.running = true ∧ s.rd SAF_STAT_state = 4) :=
  ⟨⟨20000, up, by decide +kernel⟩,
   ⟨500, by decide +kernel⟩,
   ⟨safOn up, by decide +kernel⟩,
   ⟨safOn (up.putB CLK_STAT_fpll false), by decide +kernel⟩,
   ⟨up.put SAF_STAT_state 4, by decide +kernel⟩⟩

/-- States and operands that meet the hypotheses of `Obligations.ResetRelease`, clause by clause. -/
theorem witness_ResetRelease :
    (∃ (s : State), s.clk.phase = .inReset ∧ s.flt.logIntact = true ∧ s.otp.eye = none)
    ∧ (∃ (s : State), s.clk.phase = .inReset ∧ s.flt.logIntact = false)
    ∧ (∃ (s : State) (ws : List Word) (crc : BitVec 16), s.clk.phase = .inReset ∧ s.otp.eye = some (ws, crc) ∧
      ws.length = 37) :=
  ⟨⟨up.modClk (fun k => { k with phase := .inReset }), by decide +kernel⟩,
   ⟨(up.modClk (fun k => { k with phase := .inReset })).modFlt (fun x => { x with logIntact := false }),
      by decide +kernel⟩,
   ⟨(up.modClk (fun k => { k with phase := .inReset })).modOtp (fun x =>
      { x with eye := some (List.replicate 37 1, 5) }), List.replicate 37 1, 5, by decide +kernel⟩⟩

/-- States and operands that meet the hypotheses of `Obligations.StartUp`, clause by clause. -/
theorem witness_StartUp :
    (∃ (s : State), s.running = true ∧ s.clk.xtalLost = false ∧ s.rd EYE_LOCK_state ≠ 2 ∧ s.rd SAF_CTL_otp_state ≠ 2
      ∧ s.rd SAF_STAT_ifault = 0)
    ∧ (∃ (s : State), s.running = true ∧ s.clk.xtalLost = false ∧ s.flag CLK_STAT_fpll = false ∧ s.rd EYE_LOCK_state
      = 2 ∧ s.rd SAF_CTL_otp_state ≠ 2 ∧ s.rd SAF_STAT_ifault = 0)
    ∧ (∃ (s : State), s.fabricLive = true)
    ∧ (∃ (s : State), s.fabricReady = true ∧ s.flag GLB_READY_churn = false)
    ∧ (∃ (s : State), s.running = true ∧ s.flag GLB_READY_safety = false)
    ∧ (∃ (s : State), s.fabricReady = true ∧ s.flag GLB_READY_hk = false ∧ s.hk.resetting = false)
    ∧ (∃ (ws : List (Nat × Word)) (crc : Word) (s : State), s.running = true ∧ s.flag GLB_READY_safety = false ∧ s.rd
      SAF_STAT_state = 0 ∧ s.otp.saf = some (ws, crc) ∧ setCrc (setTable ws) = crc)
    ∧ (∃ (ws : List (Nat × Word)) (crc : Word) (s : State), s.running = true ∧ s.flag GLB_READY_safety = false ∧
      s.fabricLive = true ∧ s.rd SAF_STAT_state = 0 ∧ s.otp.saf = some (ws, crc) ∧ setCrc (setTable ws) ≠ crc)
    ∧ (∃ (ws : List (Nat × Word)) (crc : Word) (s : State), s.running = true ∧ s.flag GLB_READY_safety = false ∧
      s.fabricLive = false ∧ s.rd SAF_STAT_state = 0 ∧ s.otp.saf = some (ws, crc) ∧ setCrc (setTable ws) ≠ crc)
    ∧ (∃ (s : State), s.running = true ∧ s.clk.xtalLost = false ∧ s.flag CLK_STAT_fpll = false ∧ s.rd EYE_LOCK_state
      ≠ 2 ∧ s.rd SAF_CTL_otp_state = 2 ∧ s.rd SAF_STAT_ifault = 0)
    ∧ (∃ (s : State), s.running = true ∧ s.clk.xtalLost = false ∧ s.flag CLK_STAT_fpll = false ∧ s.rd EYE_LOCK_state
      ≠ 2 ∧ s.rd SAF_CTL_otp_state ≠ 2 ∧ s.rd SAF_STAT_ifault ≠ 0)
    ∧ (∃ (s : State), s.running = true ∧ s.clk.xtalLost = false ∧ s.flag CLK_STAT_fpll = false ∧ s.rd EYE_LOCK_state
      = 2 ∧ s.rd SAF_CTL_otp_state = 2 ∧ s.rd SAF_STAT_ifault ≠ 0 ∧ s.flt.log.length < 254) :=
  ⟨⟨up.putB CLK_STAT_fpll false, by decide +kernel⟩,
   ⟨(up.putB CLK_STAT_fpll false).put EYE_LOCK_state 2, by decide +kernel⟩,
   ⟨up.putB GLB_READY_fabric false, by decide +kernel⟩,
   ⟨up.putB GLB_READY_churn false, by decide +kernel⟩,
   ⟨up.putB GLB_READY_safety false, by decide +kernel⟩,
   ⟨up.putB GLB_READY_hk false, by decide +kernel⟩,
   ⟨[(4, 5)], setCrc (setTable [(4, 5)]), (up.putB GLB_READY_safety false).modOtp (fun x =>
      { x with saf := some ([(4, 5)], setCrc (setTable [(4, 5)])) }), by decide +kernel, by decide +kernel,
      by decide +kernel, rfl, rfl⟩,
   ⟨[(4, 5)], ~~~(setCrc (setTable [(4, 5)])), (up.putB GLB_READY_safety false).modOtp (fun x =>
      { x with saf := some ([(4, 5)],~~~ (setCrc (setTable [(4, 5)]))) }), by decide +kernel, by decide +kernel,
      by decide +kernel, by decide +kernel, rfl, ne_compl _⟩,
   ⟨[(4, 5)], ~~~(setCrc (setTable [(4, 5)])), ((up.putB GLB_READY_safety false).putB CLK_STAT_fpll false).modOtp
      (fun x => { x with saf := some ([(4, 5)],~~~ (setCrc (setTable [(4, 5)]))) }), by decide +kernel,
      by decide +kernel, by decide +kernel, by decide +kernel, rfl, ne_compl _⟩,
   ⟨pokes [(CLK_STAT_fpll, 0), (SAF_CTL_otp_state, 2)] up, by decide +kernel⟩,
   ⟨pokes [(CLK_STAT_fpll, 0), (SAF_STAT_ifault, 3)] up, by decide +kernel⟩,
   ⟨pokes [(CLK_STAT_fpll, 0), (SAF_CTL_otp_state, 2), (SAF_STAT_ifault, 3), (EYE_LOCK_state, 2)] up,
      by decide +kernel⟩⟩

/-- States and operands that meet the hypotheses of `Obligations.RefclkMonitors`, clause by clause. -/
theorem witness_RefclkMonitors :
    (∃ (n : Nat) (s : State), s.fabricLive = true ∧ s.flag CLK_STAT_refclk = false ∧ 245 ≤ n ∧ n ≤ 255 ∧
      s.clk.goodRun < 24)
    ∧ (∃ (n : Nat) (s : State), s.fabricLive = true ∧ s.flag CLK_STAT_refclk = false ∧ (n < 245 ∨ 255 < n))
    ∧ (∃ (n : Nat) (s : State), s.fabricLive = true ∧ s.flag CLK_STAT_refclk = false ∧ 245 ≤ n ∧ n ≤ 255 ∧
      s.clk.goodRun = 24 ∧ s.clk.everPresent = false)
    ∧ (∃ (n : Nat) (s : State), s.fabricLive = true ∧ s.flag CLK_STAT_refclk = true ∧ (n < 245 ∨ 255 < n) ∧
      s.clk.badRun = 0)
    ∧ (∃ (s : State), s.running = true ∧ s.flag CLK_STAT_refclk = true)
    ∧ (∃ (n : Nat) (s : State), s.fabricLive = true ∧ s.flag CLK_STAT_refclk = true ∧ (n < 245 ∨ 255 < n) ∧ 1 ≤
      s.clk.badRun) :=
  ⟨⟨250, up.putB CLK_STAT_refclk false, by decide +kernel⟩,
   ⟨244, up.putB CLK_STAT_refclk false, by decide +kernel⟩,
   ⟨255, (up.putB CLK_STAT_refclk false).modClk (fun k => { k with goodRun := 24 }), by decide +kernel⟩,
   ⟨256, up, by decide +kernel⟩,
   ⟨up, by decide +kernel⟩,
   ⟨100, up.modClk (fun k => { k with badRun := 1 }), by decide +kernel⟩⟩

/-- States and operands that meet the hypotheses of `Obligations.TimingDomain`, clause by clause. -/
theorem witness_TimingDomain :
    (∃ (s : State), s.fabricReady = true ∧ s.flag CLK_STAT_refclk = true ∧ s.flag GLB_READY_tpll = false ∧
      s.clk.everLocked = false ∧ (∀ c, c < 32 → s.cratePwr c = 0 ∧ (s.crate c).modeDue = false) ∧ (∀ e, e < 32 →
      s.flag (CHG_CFG_en e) = false ∧ s.chgState e = 0))
    ∧ (∃ (s : State) (c : CrateId), s.fabricReady = true ∧ s.flag CLK_STAT_refclk = true ∧ s.flag GLB_READY_tpll =
      false ∧ s.cratePwr c = 2 ∧ s.flag (crateReqField c) = true)
    ∧ (∃ (s : State) (c : CrateId), s.fabricReady = true ∧ s.flag CLK_STAT_refclk = true ∧ s.flag GLB_READY_tpll =
      false ∧ s.clk.everLocked = true ∧ s.cratePwr c = 2 ∧ s.flag (crateReqField c) = true)
    ∧ (∃ (s : State), s.fabricLive = true ∧ s.timingLive = true ∧ s.clk.devCopy ≤ s.clk.devTime)
    ∧ (∃ (s : State), s.fabricLive = true ∧ s.timingLive = true ∧ s.clk.devTime < s.clk.devCopy)
    ∧ (∃ (s : State), s.fabricLive = true ∧ s.clk.earlyClose = true)
    ∧ (∃ (s : State), s.running = true ∧ s.clk.xtalLost = false)
    ∧ (∃ (s : State) (t : State), s.clk.xtalLost = true ∧ (∀ c r, s.pending = c :: r → c ≠ .powerOn ∧ (∀ n, c ≠
      .resetNAssert n) ∧ (∀ d, c ≠ .supplyFall d)) ∧ step s = .next t) :=
  ⟨⟨up.putB GLB_READY_tpll false, by decide +kernel⟩,
   ⟨pokes [(cratePwrField 2, 2), (crateReqField 2, 1)] (up.putB GLB_READY_tpll false), 2, by decide +kernel⟩,
   ⟨(pokes [(cratePwrField 2, 2), (crateReqField 2, 1)] (up.putB GLB_READY_tpll false)).modClk (fun k =>
      { k with everLocked := true }), 2, by decide +kernel⟩,
   ⟨up.modClk (fun k => { k with devTime := 5, devCopy := 3 }), by decide +kernel⟩,
   ⟨up.modClk (fun k => { k with devTime := 3, devCopy := 5 }), by decide +kernel⟩,
   ⟨(up.modClk (fun k => { k with earlyClose := true })).modCrate 2 (fun g => { g with dwell := some dw }),
      by decide +kernel⟩,
   ⟨up, by decide +kernel⟩,
   ⟨up.modClk (fun k => { k with xtalLost := true }), (up.modClk (fun k => { k with xtalLost := true })).idleTick,
      by decide +kernel, none_waits rfl, rfl⟩⟩

/-- States and operands that meet the hypotheses of `Obligations.CratePower`, clause by clause. -/
theorem witness_CratePower :
    (∃ (q : Src) (s : State), s.serves q = true ∧ s.timingLive = false)
    ∧ (∃ (q : Src) (v : Word) (s : State) (c : CrateId), s.serves q = true ∧ s.timingLive = true ∧ s.cratePwr c = 2 ∧
      v.getLsbD c = false)
    ∧ (∃ (c : CrateId) (s : State), s.cratePwr c = 0 ∧ s.flag (crateReqField c) = true ∧ s.timingLive = true ∧ s.flag
      GLB_READY_churn = true ∧ (∀ d, d < c.val → s.mayLeave d = false) ∧ (∀ p, s.clk.lastLeft = some p → p.1 = c.val
      ∨ p.2 + 10000 ≤ s.clk.tick))
    ∧ (∃ (c : CrateId) (s : State) (p : Nat × Nat), s.clk.lastLeft = some p ∧ p.1 ≠ c.val ∧ s.clk.tick < p.2 + 10000)
    ∧ (∃ (c : CrateId) (s : State), s.timingLive = true ∧ s.cratePwr c = 1)
    ∧ (∃ (c : CrateId) (s : State), s.timingLive = true ∧ s.cratePwr c = 3 ∧ (s.crate c).fifo = [] ∧ (s.crate c).cur
      = none ∧ (s.crate c).descQ = [] ∧ (s.crate c).xq = [] ∧ (s.crate c).dwell = none ∧ (∀ k, k < 16 → (s.chan c
      k).pend = [])) :=
  ⟨⟨.pf0, up.putB GLB_READY_tpll false, by decide +kernel⟩,
   ⟨.pf0, 0, up.put (cratePwrField 2) 2, 2, by decide +kernel⟩,
   ⟨2, (up.put (cratePwrField 2) 0).setReg CLK_CRT_PWR 4, by decide +kernel⟩,
   ⟨2, up.modClk (fun k => { k with tick := 60, lastLeft := some (3, 50) }), (3, 50), by decide +kernel⟩,
   ⟨2, up.put (cratePwrField 2) 1, by decide +kernel⟩,
   ⟨2, up.put (cratePwrField 2) 3, by decide +kernel⟩⟩

/-- States and operands that meet the hypotheses of `Obligations.TestAccessPort`, clause by clause. -/
theorem witness_TestAccessPort :
    (∃ (s : State), s.clk.phase ≠ .unpowered)
    ∧ (∃ (s : State), s.clk.phase ≠ .unpowered)
    ∧ (∃ (s : State), s.clk.phase ≠ .unpowered)
    ∧ (∃ (s : State), s.clk.phase ≠ .unpowered)
    ∧ (∃ (s : State), s.clk.phase ≠ .unpowered) :=
  ⟨⟨up, by decide +kernel⟩,
   ⟨up, by decide +kernel⟩,
   ⟨up, by decide +kernel⟩,
   ⟨up, by decide +kernel⟩,
   ⟨up, by decide +kernel⟩⟩

/-- States and operands that meet the hypotheses of `Obligations.FrontEndMode`, clause by clause. -/
theorem witness_FrontEndMode :
    (∃ (q : Src) (c : CrateId) (v : Word) (s : State), s.serves q = true ∧ s.quiesced c = true ∧ s.timingLive = true
      ∧ s.cratePowered c = true ∧ (CRT_FE_fe_mode c).get v ≠ s.rd (CRT_FE_fe_mode c))
    ∧ (∃ (q : Src) (c : CrateId) (v : Word) (s : State), s.serves q = true ∧ s.quiesced c = true ∧ s.timingLive =
      true ∧ s.cratePwr c = 0 ∧ (CRT_FE_fe_mode c).get v ≠ s.rd (CRT_FE_fe_mode c))
    ∧ (∃ (q : Src) (c : CrateId) (v : Word) (s : State), s.serves q = true ∧ s.quiesced c = true ∧ s.timingLive =
      false ∧ (CRT_FE_fe_mode c).get v ≠ s.rd (CRT_FE_fe_mode c))
    ∧ (∃ (q : Src) (c : CrateId) (v : Word) (s : State), s.serves q = true ∧ s.quiesced c = true ∧ (s.crate
      c).modeDue = false ∧ (CRT_FE_fe_mode c).get v = s.rd (CRT_FE_fe_mode c))
    ∧ (∃ (q : Src) (c : CrateId) (s : State), s.serves q = true ∧ s.quiesced c = false)
    ∧ (∃ (c : CrateId) (s : State), s.cratePwr c = 0)
    ∧ (∃ (c : CrateId) (s : State), s.timingLive = true ∧ s.cratePwr c ≠ 0)
    ∧ (∃ (c : CrateId) (k : ChanId) (s : State), s.timingLive = true ∧ (s.chan c k).st = .settling) :=
  ⟨⟨.pf0, 2, (CRT_FE_fe_mode 2).set 1 0, (up.put (cratePwrField 2) 2), by decide +kernel⟩,
   ⟨.pf0, 2, (CRT_FE_fe_mode 2).set 1 0, up, by decide +kernel⟩,
   ⟨.spi, 2, (CRT_FE_fe_mode 2).set 1 0, up.putB GLB_READY_tpll false, by decide +kernel⟩,
   ⟨.pf1, 2, 0, up, by decide +kernel⟩,
   ⟨.pf1, 2, up.putB (CRT_CTRL_arm_en 2) true, by decide +kernel⟩,
   ⟨2, up, by decide +kernel⟩,
   ⟨2, (up.put (cratePwrField 2) 2), by decide +kernel⟩,
   ⟨2, 5, up.modChan 2 5 (fun h => { h with st := .settling }), by decide +kernel⟩⟩

/-- States and operands that meet the hypotheses of `Obligations.AmbientFrames`, clause by clause. -/
theorem witness_AmbientFrames :
    (∃ (m : List AmbientMean) (s : State) (c : CrateId) (k : ChanId), s.fabricLive = true ∧ s.cratePowered c = true ∧
      (s.chan c k).st ≠ .off ∧ 0 ≤ m.getD (16 * c.val + k.val) 0 ∧ m.getD (16 * c.val + k.val) 0 < 2000 * 2 ^ 20)
    ∧ (∃ (m : List AmbientMean) (s : State) (c : CrateId) (k : ChanId), s.fabricLive = true ∧ s.cratePowered c = true
      ∧ (s.chan c k).st ≠ .off ∧ 2000 * 2 ^ 20 ≤ m.getD (16 * c.val + k.val) 0)
    ∧ (∃ (s : State) (c : CrateId) (k : ChanId), s.fabricLive = true ∧ s.cratePowered c = true ∧ (s.chan c k).st =
      .off)
    ∧ (∃ (m : List AmbientMean) (s : State) (c : CrateId) (k : ChanId), s.fabricLive = true ∧ s.cratePowered c = true
      ∧ (s.chan c k).st ≠ .off ∧ -2000 ≤ m.getD (16 * c.val + k.val) 0 ∧ m.getD (16 * c.val + k.val) 0 < 0)
    ∧ (∃ (m : List AmbientMean) (s : State) (c : CrateId) (k : ChanId), s.fabricLive = true ∧ s.cratePowered c = true
      ∧ (s.chan c k).st ≠ .off ∧ m.getD (16 * c.val + k.val) 0 < -2000) :=
  ⟨⟨List.replicate 512 4000, (up.put (cratePwrField 2) 2).modChan 2 5 (fun h => { h with st := .idle }), 2, 5,
      by decide +kernel⟩,
   ⟨List.replicate 512 2097152000, (up.put (cratePwrField 2) 2).modChan 2 5 (fun h => { h with st := .idle }), 2, 5,
      by decide +kernel⟩,
   ⟨up.put (cratePwrField 2) 2, 2, 5, by decide +kernel⟩,
   ⟨List.replicate 512 (-1000), (up.put (cratePwrField 2) 2).modChan 2 5 (fun h => { h with st := .idle }), 2, 5,
      by decide +kernel⟩,
   ⟨List.replicate 512 (-3000), (up.put (cratePwrField 2) 2).modChan 2 5 (fun h => { h with st := .idle }), 2, 5,
      by decide +kernel⟩⟩

/-- States and operands that meet the hypotheses of `Obligations.TestTone`, clause by clause. -/
theorem witness_TestTone :
    (∃ (q : Src) (c : CrateId) (v : Word) (s : State), s.serves q = true ∧ (CRT_TONE_CTL_start c).get v = 1 ∧ s.flag
      (CRT_TONE_CTL_busy c) = false ∧ s.quiesced c = true ∧ s.cratePwr c ≠ 0)
    ∧ (∃ (c : CrateId) (k : ChanId) (g : Nat) (s : State), (s.crate c).tone = some g ∧ (s.chan c k).st ≠ .off)
    ∧ (∃ (c : CrateId) (k : ChanId) (s : State), ((s.crate c).tone = none ∨ (s.chan c k).st = .off))
    ∧ (∃ (q : Src) (c : CrateId) (v : Word) (s : State), s.serves q = true ∧ (CRT_TONE_CTL_start c).get v = 1 ∧
      s.flag (CRT_TONE_CTL_busy c) = false ∧ s.quiesced c = true ∧ s.cratePwr c = 0)
    ∧ (∃ (c : CrateId) (s : State), (s.crate c).tone = none)
    ∧ (∃ (q : Src) (c : CrateId) (v : Word) (s : State), s.serves q = true ∧ (CRT_TONE_CTL_start c).get v = 1 ∧
      s.flag (CRT_TONE_CTL_busy c) = true)
    ∧ (∃ (c : CrateId) (g : Nat) (s : State), s.fabricLive = true ∧ (s.crate c).tone = some g)
    ∧ (∃ (q : Src) (c : CrateId) (v : Word) (s : State), s.serves q = true ∧ (CRT_TONE_CTL_start c).get v = 1 ∧
      s.flag (CRT_TONE_CTL_busy c) = false ∧ s.quiesced c = false) :=
  ⟨⟨.pf0, 2, 0x1401, (up.put (cratePwrField 2) 2), by decide +kernel⟩,
   ⟨2, 5, 20, ((up.put (cratePwrField 2) 2).modCrate 2 (fun g => { g with tone := some 20 })).modChan 2 5 (fun h =>
      { h with st := .idle }), by decide +kernel⟩,
   ⟨2, 5, up, by decide +kernel⟩,
   ⟨.pf0, 2, 0x1401, up, by decide +kernel⟩,
   ⟨2, up, by decide +kernel⟩,
   ⟨.pf0, 2, 0x1401, up.putB (CRT_TONE_CTL_busy 2) true, by decide +kernel⟩,
   ⟨2, 20, ((up.put (cratePwrField 2) 2).modCrate 2 (fun g => { g with tone := some 20 })).modChan 2 5 (fun h =>
      { h with st := .idle }), by decide +kernel⟩,
   ⟨.pf0, 2, 0x1401, (up.put (cratePwrField 2) 2).putB (CRT_CTRL_arm_en 2) true, by decide +kernel⟩⟩

/-- States and operands that meet the hypotheses of `Obligations.WindowOpening`, clause by clause. -/
theorem witness_WindowOpening :
    (∃ (c : CrateId) (w : Win) (s : State), s.timingLive = true ∧ (s.crate c).armNext = some w ∧ (s.crate c).win =
      none ∧ (s.crate c).lastClose = none)
    ∧ (∃ (c : CrateId) (w : Win) (l : Nat) (s : State), s.timingLive = true ∧ (s.crate c).armNext = some w ∧ (s.crate
      c).win = none ∧ (s.crate c).lastClose = some l ∧ w.trig - lsbPre < l + 160)
    ∧ (∃ (c : CrateId) (w : Win) (s : State), s.timingLive = true ∧ (s.crate c).win = some w ∧ w.start = none)
    ∧ (∃ (c : CrateId) (cals : List (Option RingCal)) (w : Win) (i : Nat) (m : RingCal) (a : Nat) (s : State),
      s.timingLive = true ∧ (s.crate c).armNext = some w ∧ (s.crate c).win = none ∧ (s.crate c).lastClose = none ∧ i
      < 17 ∧ s.calibrates c i = true ∧ cals.getD i none = some m ∧ 96 + m.n1 ≤ m.n2 ∧ m.n2 ≤ 156 + m.n1 ∧ 2 * m.n1 ≤
      m.n2 ∧ m.n2 ≤ 40 + 2 * m.n1 ∧ a = (if (s.slice c i).firstCal then 0 else s.cfgRd c (CRT_TDC_CFG_cal_avg c)))
    ∧ (∃ (c : CrateId) (cals : List (Option RingCal)) (w : Win) (i : Nat) (s : State), s.timingLive = true ∧ (s.crate
      c).armNext = some w ∧ (s.crate c).win = none ∧ (s.crate c).lastClose = none ∧ i < 17 ∧ s.calibrates c i = true
      ∧ (∀ m, cals.getD i none = some m → m.n2 < 96 + m.n1 ∨ 156 + m.n1 < m.n2 ∨ m.n2 < 2 * m.n1 ∨ 40 + 2 * m.n1 <
      m.n2)) :=
  ⟨⟨2, win0, up.modCrate 2 (fun g => { g with dwell := some dw, armNext := some win0 }), by decide +kernel⟩,
   ⟨2, win0, 5000, up.modCrate 2 (fun g =>
      { g with dwell := some dw, armNext := some win0, lastClose := some 5000 }), by decide +kernel⟩,
   ⟨2, win0, (up.modCrate 2 (fun g => { g with dwell := some dw, win := some win0 })).modChan 2 5 (fun h =>
      { h with st := .pre, preStops := [⟨5, 4800, none, 0, 0, 1, false⟩] }), by decide +kernel⟩,
   ⟨2, List.replicate 17 (some ⟨110, 222⟩), win0, 5, ⟨110, 222⟩, (if (up.slice 2 5).firstCal then 0 else up.cfgRd 2
      (CRT_TDC_CFG_cal_avg 2)), up.modCrate 2 (fun g => { g with dwell := some dw, armNext := some win0 }),
      by decide +kernel⟩,
   ⟨2, List.replicate 17 (some ⟨10, 222⟩), win0, 5, up.modCrate 2 (fun g =>
      { g with dwell := some dw, armNext := some win0 }), by decide +kernel⟩⟩

/-- States and operands that meet the hypotheses of `Obligations.WindowStart`, clause by clause. -/
theorem witness_WindowStart :
    (∃ (c : CrateId) (lsb : Nat) (w : Win) (s : State), s.timingLive = true ∧ (s.crate c).win = some w ∧ w.start =
      none ∧ w.closed = false ∧ s.startInTime c lsb w = true)
    ∧ (∃ (c : CrateId) (lsb : Nat) (w : Win) (s : State), (s.crate c).win = some w ∧ s.startInTime c lsb w = false)
    ∧ (∃ (c : CrateId) (w : Win) (s : State), s.timingLive = true ∧ (s.crate c).win = some w) :=
  ⟨⟨2, 8000, win0, (up.modCrate 2 (fun g => { g with dwell := some dw, win := some win0 })).modChan 2 5 (fun h =>
      { h with st := .pre, preStops := [⟨5, 4800, none, 0, 0, 1, false⟩] }), by decide +kernel⟩,
   ⟨2, 1000000, win0, up.modCrate 2 (fun g => { g with win := some win0 }), by decide +kernel⟩,
   ⟨2, win0, (up.modCrate 2 (fun g => { g with dwell := some dw, win := some win0 })).modChan 2 5 (fun h =>
      { h with st := .blank }), by decide +kernel⟩⟩

/-- States and operands that meet the hypotheses of `Obligations.Crossings`, clause by clause. -/
theorem witness_Crossings :
    (∃ (c : CrateId) (k : ChanId) (lsb : Nat) (cap : Capture) (w : Win) (i : Nat) (st : Int) (s : State),
      s.timingLive = true ∧ (s.crate c).win = some w ∧ s.canCross c k = true ∧ s.server c k = some i ∧ (s.chan c
      k).st = .main ∧ (s.slice c i).start = some st ∧ cap.k ≤ 65535 ∧ (s.chan c k).deadAt lsb = false ∧ -16 < s.stamp
      c i cap + skewOf c i k - st ∧ (s.chan c k).stops < 8 ∧ (s.chan c k).pathBusy = false ∧ (s.chan c k).pend = [] ∧
      (s.crate c).closing = [])
    ∧ (∃ (c : CrateId) (k : ChanId) (lsb : Nat) (cap : Capture) (w : Win) (i : Nat) (st : Int) (s : State),
      s.timingLive = true ∧ (s.crate c).win = some w ∧ s.canCross c k = true ∧ s.server c k = some i ∧ (s.chan c
      k).st = .main ∧ (s.slice c i).start = some st ∧ cap.k ≤ 65535 ∧ (s.chan c k).deadAt lsb = true ∧ (s.chan c
      k).pend = [] ∧ (s.crate c).closing = [] ∧ (s.shadows c k = false ∨ i ≠ 16))
    ∧ (∃ (c : CrateId) (k : ChanId) (lsb : Nat) (cap : Capture) (w : Win) (i : Nat) (p : Pend) (s : State),
      s.timingLive = true ∧ (s.crate c).win = some w ∧ s.canCross c k = true ∧ s.server c k = some i ∧ (s.chan c
      k).st = .pre ∧ (s.chan c k).pend = [p] ∧ p.owner = true ∧ (s.chan c k).pathBusy = true ∧ cap.k ≤ 65535 ∧
      w.accept ≤ lsb ∧ w.trig ≤ lsb ∧ (s.chan c k).deadAt lsb = false)
    ∧ (∃ (c : CrateId) (k : ChanId) (s : State), s.rd (CHN_THR_thr_eff c k) = 0)
    ∧ (∃ (c : CrateId) (k : ChanId) (s : State), s.timingLive = true ∧ (s.chan c k).hold = none)
    ∧ (∃ (c : CrateId) (k : ChanId) (b : Bool) (s : State), s.timingLive = true ∧ (s.chan c k).hold = some ⟨true, b⟩
      ∧ (s.chan c k).active = true) :=
  ⟨⟨2, 5, 20000, ⟨250, 5⟩, { win0 with start := some 8000 }, 5, 100000, (((up.modCrate 2 (fun g =>
      { g with dwell := some dw, win := some { win0 with start := some 8000 } })).modChan 2 5 (fun h =>
      { h with st := .main })).modSlice 2 5 (fun v => { v with start := some 100000 })).put (CHN_THR_thr_eff 2 5) 24,
      by decide +kernel⟩,
   ⟨2, 5, 20000, ⟨250, 5⟩, { win0 with start := some 8000 }, 5, 100000, (((up.modCrate 2 (fun g =>
      { g with dwell := some dw, win := some { win0 with start := some 8000 } })).modChan 2 5 (fun h =>
      { h with st := .main, lastStop := some 19990 })).modSlice 2 5 (fun v => { v with start := some 100000 })).put
      (CHN_THR_thr_eff 2 5) 24, by decide +kernel⟩,
   ⟨2, 5, 9000, ⟨113, 5⟩, win0, 5, pend0, (up.modCrate 2 (fun g =>
      { g with dwell := some dw, win := some win0 })).modChan 2 5 (fun h =>
      { h with st := .pre, resetting := true, pend := [pend0] }), by decide +kernel⟩,
   ⟨2, 5, up.put (CHN_THR_thr_eff 2 5) 0, by decide +kernel⟩,
   ⟨2, 5, up.modChan 2 5 (fun h => { h with active := true }), by decide +kernel⟩,
   ⟨2, 5, true, up.modChan 2 5 (fun h => { h with active := true, hold := some ⟨true, true⟩ }), by decide +kernel⟩⟩

/-- States and operands that meet the hypotheses of `Obligations.ChargePath`, clause by clause. -/
theorem witness_ChargePath :
    (∃ (c : CrateId) (k : ChanId) (p : Pend) (s : State), s.timingLive = true ∧ s.autoranging c = true ∧ (s.chan c
      k).pend = [p] ∧ p.owner = true ∧ p.sel = false)
    ∧ (∃ (c : CrateId) (k : ChanId) (p : Pend) (s : State), s.timingLive = true ∧ (s.chan c k).pend = [p] ∧ p.owner =
      true ∧ p.sel = true ∧ p.held = none ∧ (s.chan c k).hold = some ⟨false, true⟩)
    ∧ (∃ (c : CrateId) (k : ChanId) (q : Int) (p : Pend) (s : State), s.timingLive = true ∧ s.autoranging c = true ∧
      (s.chan c k).pend = [p] ∧ p.held = some q ∧ p.ready = false ∧ p.drop = false ∧ (s.chan c k).st = .drain ∧
      (s.chan c k).pathBusy = false ∧ (s.crate c).fifo.length < 254 ∧ (s.crate c).closing = [] ∧ (s.crate
      c).nextOpened = false ∧ (s.crate c).stopDue = false)
    ∧ (∃ (c : CrateId) (k : ChanId) (q : Int) (p : Pend) (s : State), s.timingLive = true ∧ s.autoranging c = false ∧
      (s.chan c k).pend = [p] ∧ p.held = some q ∧ p.ready = false ∧ p.drop = false ∧ (s.chan c k).st = .drain ∧
      (s.chan c k).pathBusy = false ∧ (s.crate c).fifo.length < 254 ∧ (s.crate c).closing = [] ∧ (s.crate
      c).nextOpened = false ∧ (s.crate c).stopDue = false)
    ∧ (∃ (c : CrateId) (k : ChanId) (q : Int) (p : Pend) (d : Dwell) (s : State), s.timingLive = true ∧ (s.chan c
      k).pend = [p] ∧ p.held = some q ∧ p.ready = false ∧ p.owner = true ∧ (s.chan c k).pathBusy = true ∧ (s.crate
      c).dwell = some d ∧ d.ended = false ∧ (s.crate c).closing = [] ∧ (s.crate c).stopDue = false)
    ∧ (∃ (c : CrateId) (k : ChanId) (s : State), s.timingLive = true ∧ (s.chan c k).resetting = true ∧ (s.chan c
      k).pend = [] ∧ (s.chan c k).st = .main ∧ (s.crate c).closing = []) :=
  ⟨⟨2, 5, pend0, (up.putB (CRT_FE_fe_mode 2) true).modChan 2 5 (fun h =>
      { h with pend := [pend0], prevRange := some 0 }), by decide +kernel⟩,
   ⟨2, 5, { pend0 with sel := true }, up.modChan 2 5 (fun h =>
      { h with pend := [{ pend0 with sel := true }], hold := some ⟨false, true⟩ }), by decide +kernel⟩,
   ⟨2, 5, 3000000, { pend0 with sel := true, held := some 3000000 }, (up.putB (CRT_FE_fe_mode 2) true).modChan 2 5
      (fun h => { h with st := .drain, pend := [{ pend0 with sel := true, held := some 3000000 }] }),
      by decide +kernel⟩,
   ⟨2, 5, 3000000, { pend0 with sel := true, held := some 3000000 }, up.modChan 2 5 (fun h =>
      { h with st := .drain, pend := [{ pend0 with sel := true, held := some 3000000 }] }), by decide +kernel⟩,
   ⟨2, 5, 3000000, { pend0 with sel := true, held := some 3000000, owner := true }, dw, (up.modCrate 2 (fun g =>
      { g with dwell := some dw })).modChan 2 5 (fun h =>
      { h with st := .drain, resetting := true, pend := [{ pend0 with sel := true, held := some 3000000, owner := true }] }),
      by decide +kernel⟩,
   ⟨2, 5, up.modChan 2 5 (fun h => { h with st := .main, resetting := true }), by decide +kernel⟩⟩

/-- States and operands that meet the hypotheses of `Obligations.DwellCloses`, clause by clause. -/
theorem witness_DwellCloses :
    (∃ (c : CrateId) (d : Dwell) (s : State), s.timingLive = true ∧ (s.crate c).dwell = some d ∧ (s.crate c).closing
      = [] ∧ (s.crate c).stopDue = false ∧ ((s.crate c).nextOpened = true ∨ ((s.crate c).win = none ∧ ((s.crate
      c).dwellNext.isSome = true ∨ (d.ended = true ∧ (s.crate c).armNext = none)))) ∧ (∀ k, k < 16 → (s.chan c
      k).pend = []))
    ∧ (∃ (c : CrateId) (w : Win) (s : State), (s.crate c).win = some w ∧ (s.crate c).nextOpened = false) :=
  ⟨⟨2, dw, up.modCrate 2 (fun g => { g with dwell := some dw, dwellNext := some { dw with part := 7 } }),
      by decide +kernel⟩,
   ⟨2, win0, up.modCrate 2 (fun g => { g with dwell := some dw, win := some win0 }), by decide +kernel⟩⟩

/-- States and operands that meet the hypotheses of `Obligations.SliceCalibration`, clause by clause. -/
theorem witness_SliceCalibration :
    (∃ (c : CrateId) (s : State), s.timingLive = true ∧ s.crateReady c = true ∧ s.flag (CRT_SPR_CFG_ccal_en c) =
      true)
    ∧ (∃ (c : CrateId) (i : SliceId) (m : ChargeCal) (s : State), s.timingLive = true ∧ (s.crate c).calSlice = some
      i.val ∧ (s.crate c).calPending = true ∧ chargeAccepted m = true)
    ∧ (∃ (c : CrateId) (i : SliceId) (m : Option ChargeCal) (s : State), s.timingLive = true ∧ (s.crate c).calSlice =
      some i.val ∧ (s.crate c).calPending = true ∧ m.all (fun x => !chargeAccepted x) = true)
    ∧ (∃ (c : CrateId) (i : SliceId) (s : State), s.timingLive = true ∧ s.cratePwr c ≠ 0 ∧ 2 ^ s.cfgRd c
      (CRT_TDC_CFG_cd_batch c) ≤ (s.slice c i).batchStops ∧ s.batchAccepted c i = true)
    ∧ (∃ (c : CrateId) (i : SliceId) (s : State), s.timingLive = true ∧ s.cratePwr c ≠ 0 ∧ 2 ^ s.cfgRd c
      (CRT_TDC_CFG_cd_batch c) ≤ (s.slice c i).batchStops ∧ s.batchAccepted c i = false)
    ∧ (∃ (c : CrateId) (j : Nat) (s : State), s.timingLive = true ∧ s.cratePwr c ≠ 0 ∧ (s.crate c).tieRun = some j ∧
      j < 16)
    ∧ (∃ (m : ChargeCal), m.z < m.r)
    ∧ (∃ (l : List (Option RingCal)), none ∈ l)
    ∧ (∃ (c : CrateId) (s : State), s.cratePwr c = 0) :=
  ⟨⟨2, (up.putB (crateReadyField 2) true).putB (CRT_SPR_CFG_ccal_en 2) true, by decide +kernel⟩,
   ⟨2, 3, ⟨0, 9000⟩, up.modCrate 2 (fun g => { g with calSlice := some 3, calPending := true }), by decide +kernel⟩,
   ⟨2, 3, some ⟨0, 90000⟩, up.modCrate 2 (fun g => { g with calSlice := some 3, calPending := true }),
      by decide +kernel⟩,
   ⟨2, 3, (pokes [(cratePwrField 2, 2), (CRT_TDC_CFG_cd_batch 2, 10), (TDC_CAL_p_est 2 3, 512)] up).modSlice 2 3 (fun
      v => { v with batchStops := 2000, hits := [(0, 500), (1, 600)] }), by decide +kernel⟩,
   ⟨2, 3, (pokes [(cratePwrField 2, 2), (CRT_TDC_CFG_cd_batch 2, 10), (TDC_CAL_p_est 2 3, 512)] up).modSlice 2 3 (fun
      v => { v with batchStops := 2000, hits := [(0, 70000)] }), by decide +kernel⟩,
   ⟨2, 3, (up.put (cratePwrField 2) 2).modCrate 2 (fun g => { g with tieRun := some 3 }), by decide +kernel⟩,
   ⟨⟨5, 9000⟩, by decide +kernel⟩,
   ⟨[none], by decide +kernel⟩,
   ⟨2, up.put (cratePwrField 2) 0, by decide +kernel⟩⟩

/-- States and operands that meet the hypotheses of `Obligations.ChargeController`, clause by clause. -/
theorem witness_ChargeController :
    (∃ (e : EmitId) (s : State), s.timingLive = true ∧ s.chgState e = 2 ∧ (s.chg e).cmpValid = true ∧ (s.chg e).gate
      = false ∧ (∀ a, (s.chg e).cycleAt = some a → a + max 50 (s.rd (CHG_CFG_period e)) ≤ s.clk.tick) ∧ (∀ b, (s.chg
      e).offAt = some b → b + 5 ≤ s.clk.tick))
    ∧ (∃ (e : EmitId) (a : Nat) (s : State), s.timingLive = true ∧ (s.chg e).gate = true ∧ (s.chg e).cycleAt = some a
      ∧ a + s.rd (CHG_CFG_leb e) ≤ s.clk.tick)
    ∧ (∃ (e : EmitId) (s : State), s.timingLive = true ∧ s.chgState e = 2)
    ∧ (∃ (e : EmitId) (s : State), s.timingLive = true ∧ s.chgState e = 3 ∧ (s.chg e).gate = false ∧ (∀ a, (s.chg
      e).cycleAt = some a → a + max 50 (s.rd (CHG_CFG_period e)) ≤ s.clk.tick) ∧ (∀ b, (s.chg e).offAt = some b → b +
      5 ≤ s.clk.tick))
    ∧ (∃ (e : EmitId) (s : State), s.timingLive = true ∧ s.chgState e = 4 ∧ (s.chg e).stDue = false)
    ∧ (∃ (e : EmitId) (s : State), s.timingLive = true ∧ s.chgState e = 4 ∧ (s.chg e).stDue = true)
    ∧ (∃ (e : EmitId) (a : Nat) (s : State), s.timingLive = true ∧ (s.chg e).gate = true ∧ (s.chg e).cycleAt = some a
      ∧ a + max 50 (s.rd (CHG_CFG_period e)) ≤ s.clk.tick + 5)
    ∧ (∃ (e : EmitId) (a : Nat) (s : State), (s.chg e).cycleAt = some a ∧ s.clk.tick < a + s.rd (CHG_CFG_leb e))
    ∧ (∃ (e : EmitId) (a : Nat) (s : State), (s.chg e).cycleAt = some a ∧ s.clk.tick + 5 < a + max 50 (s.rd
      (CHG_CFG_period e)))
    ∧ (∃ (e : EmitId) (a : Nat) (s : State), ((s.chg e).cycleAt = some a ∧ s.clk.tick < a + max 50 (s.rd
      (CHG_CFG_period e)) ∨ (s.chg e).offAt = some a ∧ s.clk.tick < a + 5)) :=
  ⟨⟨18, (up.put (CHG_STAT_state 18) 2).modChg 18 (fun g => { g with cmpValid := true }), by decide +kernel⟩,
   ⟨18, 0, (up.modChg 18 (fun g => { g with gate := true, cycleAt := some 0 })).modClk (fun k =>
      { k with tick := 60 }), by decide +kernel⟩,
   ⟨18, (up.put (CHG_STAT_state 18) 2).modChg 18 (fun g => { g with gate := true, target := 300 }),
      by decide +kernel⟩,
   ⟨18, up.put (CHG_STAT_state 18) 3, by decide +kernel⟩,
   ⟨18, (up.put (CHG_STAT_state 18) 4).modChg 18 (fun g => { g with timedOut := true }), by decide +kernel⟩,
   ⟨18, (up.put (CHG_STAT_state 18) 4).modChg 18 (fun g => { g with stDue := true }), by decide +kernel⟩,
   ⟨18, 100, (up.modChg 18 (fun g => { g with gate := true, cycleAt := some 100 })).modClk (fun k =>
      { k with tick := 146 }), by decide +kernel⟩,
   ⟨18, 100, (up.modChg 18 (fun g => { g with gate := true, cycleAt := some 100 })).modClk (fun k =>
      { k with tick := 101 }), by decide +kernel⟩,
   ⟨18, 100, (up.modChg 18 (fun g => { g with gate := true, cycleAt := some 100 })).modClk (fun k =>
      { k with tick := 120 }), by decide +kernel⟩,
   ⟨18, 100, (up.modChg 18 (fun g => { g with offAt := some 100 })).modClk (fun k => { k with tick := 104 }),
      by decide +kernel⟩⟩

/-- States and operands that meet the hypotheses of `Obligations.FiringAndDeadline`, clause by clause. -/
theorem witness_FiringAndDeadline :
    (∃ (e : EmitId) (s : State), s.timingLive = true ∧ (s.emit e).committed = true ∧ (s.chgState e = 2 ∨ s.chgState e
      = 3))
    ∧ (∃ (e : EmitId) (s : State), (s.emit e).committed = false)
    ∧ (∃ (s : State), (s.gateOn = false ∨ s.flag CLK_STAT_refclk = false))
    ∧ (∃ (e : EmitId) (s : State), s.timingLive = true ∧ s.chgState e = 2 ∧ s.flag (CHG_LIM_tmo e) = true ∧ (s.chg
      e).timedOut = false) :=
  ⟨⟨18, ((up.put (CHG_STAT_state 18) 3).modEmit 18 (fun m => { m with committed := true })).modChg 18 (fun g =>
      { g with nextTarget := some 77 }), by decide +kernel⟩,
   ⟨18, up, by decide +kernel⟩,
   ⟨up.putB CLK_STAT_refclk false, by decide +kernel⟩,
   ⟨18, (up.put (CHG_STAT_state 18) 2).putB (CHG_LIM_tmo 18) true, by decide +kernel⟩⟩

/-- States and operands that meet the hypotheses of `Obligations.Comparators`, clause by clause. -/
theorem witness_Comparators :
    (∃ (e : EmitId) (x : CmpSlot) (y : CmpSlot) (s : State), s.timingLive = true ∧ s.chgState e = 1 ∧ slotPasses x y
      = true)
    ∧ (∃ (m : MonId) (x : CmpSlot) (y : CmpSlot) (s : State), s.timingLive = true ∧ s.flag (WMN_CFG_en m) = true ∧
      (s.mon m).cmpValid = false ∧ s.rd (WMN_STAT_state m) ≠ 3 ∧ slotPasses x y = true)
    ∧ (∃ (e : EmitId) (y : CmpSlot) (s : State), s.timingLive = true ∧ s.chgState e = 4 ∧ (s.chg e).stDue = true ∧
      CmpSlotFails y = none)
    ∧ (∃ (e : EmitId) (x : CmpSlot) (y : CmpSlot) (s : State), s.timingLive = true ∧ s.chgState e = 4 ∧ (s.chg
      e).stDue = true ∧ slotPasses x y = true)
    ∧ (∃ (m : MonId) (l : MonLevel) (n : Nat) (s : State), s.timingLive = true ∧ s.flag (WMN_CFG_en m) = true ∧
      (s.mon m).cmpValid = true ∧ s.rd (WMN_STAT_state m) = 0 ∧ l ≠ .inside ∧ s.rd (WMN_CFG_filt m) ≤ n)
    ∧ (∃ (m : MonId) (n : Nat) (s : State), s.timingLive = true ∧ s.flag (WMN_CFG_en m) = true ∧ (s.mon m).cmpValid =
      true ∧ (s.rd (WMN_STAT_state m) = 1 ∨ s.rd (WMN_STAT_state m) = 2) ∧ s.rd (WMN_CFG_filt m) ≤ n)
    ∧ (∃ (m : MonId) (n : Nat) (s : State), n < s.rd (WMN_CFG_filt m))
    ∧ (∃ (s : State), s.timingLive = true ∧ s.clk.tick % 6250 = 0 ∧ s.eye.roll1 < s.clk.tick)
    ∧ (∃ (s : State), s.wf = true ∧ s.timingLive = true ∧ s.clk.tick % 625000 = 0 ∧ s.eye.roll100 < s.clk.tick)
    ∧ (∃ (s : State), (s.clk.tick % 6250 ≠ 0 ∨ s.clk.tick ≤ s.eye.roll1))
    ∧ (∃ (s : State), (s.clk.tick % 625000 ≠ 0 ∨ s.clk.tick ≤ s.eye.roll100)) :=
  ⟨⟨18, okS, okS, up.put (CHG_STAT_state 18) 1, by decide +kernel⟩,
   ⟨2, okS, okS, up.putB (WMN_CFG_en 2) true, by decide +kernel⟩,
   ⟨18, okS, (up.put (CHG_STAT_state 18) 4).modChg 18 (fun g => { g with stDue := true }), by decide +kernel⟩,
   ⟨18, okS, okS, (up.put (CHG_STAT_state 18) 4).modChg 18 (fun g => { g with stDue := true }), by decide +kernel⟩,
   ⟨2, .low, 100000, (pokes [(WMN_CFG_en 2, 1), (WMN_STAT_state 2, 0)] up).modMon 2 (fun x =>
      { x with cmpValid := true }), by decide +kernel⟩,
   ⟨2, 100000, (pokes [(WMN_CFG_en 2, 1), (WMN_STAT_state 2, 1)] up).modMon 2 (fun x => { x with cmpValid := true }),
      by decide +kernel⟩,
   ⟨2, 4, up.put (WMN_CFG_filt 2) 5, by decide +kernel⟩,
   ⟨(up.modEmit 3 (fun m => { m with bins1 := [4, 5] })).modClk (fun k => { k with tick := 6250 }),
      by decide +kernel⟩,
   ⟨(up.modEmit 3 (fun m => { m with bins100 := [4, 5] })).modClk (fun k => { k with tick := 625000 }),
      by decide +kernel⟩,
   ⟨up.modClk (fun k => { k with tick := 6251 }), by decide +kernel⟩,
   ⟨up.modClk (fun k => { k with tick := 625001 }), by decide +kernel⟩⟩

/-- States and operands that meet the hypotheses of `Obligations.LaserPermit`, clause by clause. -/
theorem witness_LaserPermit :
    (∃ (s : State), s.timingLive = true)
    ∧ (∃ (e : EmitId) (s : State), s.timingLive = true ∧ (s.emit e).committed = true ∧ (s.chgState e = 2 ∨ s.chgState
      e = 3) ∧ s.flag EYE_STAT_permit = false)
    ∧ (∃ (s : State), s.timingLive = false)
    ∧ (∃ (s : State), s.timingLive = true)
    ∧ (∃ (s : State), s.running = true ∧ s.flag CLK_STAT_refclk = true) :=
  ⟨⟨permitOn up, by decide +kernel⟩,
   ⟨18, (up.put (CHG_STAT_state 18) 3).modEmit 18 (fun m => { m with committed := true }), by decide +kernel⟩,
   ⟨up.putB GLB_READY_tpll false, by decide +kernel⟩,
   ⟨up, by decide +kernel⟩,
   ⟨permitOn up, by decide +kernel⟩⟩

/-- States and operands that meet the hypotheses of `Obligations.EyeSafetyLock`, clause by clause. -/
theorem witness_EyeSafetyLock :
    (∃ (q : Src) (v : Word) (s : State), s.serves q = true ∧ s.eyeWritable q = true ∧ s.eye.burning = false ∧
      EYE_LOCK_key.get v = 0x4B)
    ∧ (∃ (q : Src) (v : Word) (s : State), s.serves q = true ∧ s.eyeWritable q = true ∧ s.eye.burning = false ∧
      EYE_LOCK_key.get v = 0xB4 ∧ s.eye.armed = true)
    ∧ (∃ (q : Src) (v : Word) (s : State), s.serves q = true ∧ s.eyeWritable q = true ∧ s.eye.burning = false ∧
      EYE_LOCK_key.get v ≠ 0x4B ∧ (EYE_LOCK_key.get v = 0xB4 → s.eye.armed = false))
    ∧ (∃ (q : Src) (s : State), s.serves q = true ∧ (s.eyeWritable q = false ∨ s.eye.burning = true))
    ∧ (∃ (s : State), s.fabricLive = true)
    ∧ (∃ (s : State), s.fabricLive = false)
    ∧ (∃ (s : State), s.fabricLive = true ∧ s.eye.burning = true) :=
  ⟨⟨.pf1, EYE_LOCK_key.set 0x4B 0, up, by decide +kernel⟩,
   ⟨.spi, EYE_LOCK_key.set 0xB4 0, up.modEye (fun y => { y with armed := true }), by decide +kernel⟩,
   ⟨.spi, EYE_LOCK_key.set 0x11 0, up.modEye (fun y => { y with armed := true }), by decide +kernel⟩,
   ⟨.pf0, up, by decide +kernel⟩,
   ⟨up, by decide +kernel⟩,
   ⟨up.putB CLK_STAT_fpll false, by decide +kernel⟩,
   ⟨up.modEye (fun y => { y with burning := true }), by decide +kernel⟩⟩

/-- States and operands that meet the hypotheses of `Obligations.ShotTables`, clause by clause. -/
theorem witness_ShotTables :
    (∃ (ref : CmdRef) (c : Cmd) (st : Nat) (s : State), s.fabricReady = true ∧ s.waits ref 0x01 = some c ∧
      s.loadStatus (decodeEntries (bitsOf (wordAt c.words 1) 0 14) c.list) = some st)
    ∧ (∃ (ref : CmdRef) (c : Cmd) (es : List Entry) (s : State), s.fabricReady = true ∧ s.waits ref 0x01 = some c ∧
      es = decodeEntries (bitsOf (wordAt c.words 1) 0 14) c.list ∧ s.loadStatus es = none ∧ bitsOf (wordAt c.words 1)
      16 2 = 0)
    ∧ (∃ (ref : CmdRef) (c : Cmd) (es : List Entry) (s : State), s.fabricReady = true ∧ s.waits ref 0x01 = some c ∧
      es = decodeEntries (bitsOf (wordAt c.words 1) 0 14) c.list ∧ s.loadStatus es = none ∧ bitsOf (wordAt c.words 1)
      16 2 = 2 ∧ s.engine ≠ 0)
    ∧ (∃ (ref : CmdRef) (c : Cmd) (es : List Entry) (s : State), s.fabricReady = true ∧ s.waits ref 0x01 = some c ∧
      es = decodeEntries (bitsOf (wordAt c.words 1) 0 14) c.list ∧ s.loadStatus es = none ∧ bitsOf (wordAt c.words 1)
      16 2 = 1 ∧ s.timingLive = true ∧ s.engine = 0 ∧ s.shot.run = none ∧ s.host.snaps = []) :=
  ⟨⟨cref, cmdOf [1] [], stNO_TABLE, withCmd [1] [] up, by decide +kernel⟩,
   ⟨cref, cmdOf [1, 1] [257, 0xA00, 320, 0x01280010], [entD], withCmd [1, 1] [257, 0xA00, 320, 0x01280010] up,
      by decide +kernel⟩,
   ⟨cref, cmdOf [1, 0x20001, 7] [257, 0xA00, 320, 0x01280010], [entD], (withCmd [1, 0x20001, 7] [257, 0xA00, 320,
      0x01280010] up).put SHT_STATUS_state 1, by decide +kernel⟩,
   ⟨cref, cmdOf [1, 0x10001] [257, 0xA00, 320, 0x01280010], [entD], withCmd [1, 0x10001] [257, 0xA00, 320,
      0x01280010] up, by decide +kernel⟩⟩

/-- States and operands that meet the hypotheses of `Obligations.StartAndStop`, clause by clause. -/
theorem witness_StartAndStop :
    (∃ (ref : CmdRef) (c : Cmd) (st : Nat) (s : State), s.fabricReady = true ∧ s.waits ref 0x02 = some c ∧
      s.startStatus = some st)
    ∧ (∃ (ref : CmdRef) (c : Cmd) (s : State), s.fabricReady = true ∧ s.waits ref 0x02 = some c ∧ s.startStatus =
      none ∧ s.shot.swap = none ∧ (s.activeBank[0]?).all (fun e => e.trig != 2) = true)
    ∧ (∃ (ref : CmdRef) (c : Cmd) (s : State), s.fabricReady = true ∧ s.waits ref 0x03 = some c ∧ s.engine = 0)
    ∧ (∃ (ref : CmdRef) (c : Cmd) (r : Run) (s : State), s.fabricReady = true ∧ s.waits ref 0x03 = some c ∧ (s.engine
      = 1 ∨ s.engine = 2 ∨ s.engine = 3) ∧ s.shot.run = some r ∧ 0 < r.committed)
    ∧ (∃ (ref : CmdRef) (c : Cmd) (s : State), s.fabricReady = true ∧ s.waits ref 0x03 = some c ∧ (s.engine = 1 ∨
      s.engine = 2 ∨ s.engine = 3) ∧ s.shot.run.all (fun r => r.committed == 0) = true) :=
  ⟨⟨cref, cmdOf [2] [], stBUSY, (withCmd [2] [] up).put SHT_STATUS_state 1, by decide +kernel⟩,
   ⟨cref, cmdOf [2] [], (permitOn (withCmd [2] [] up)).modShot (fun x =>
      { x with bank0 := [entD], bank1 := [entD] }), by decide +kernel⟩,
   ⟨cref, cmdOf [3] [], withCmd [3] [] up, by decide +kernel⟩,
   ⟨cref, cmdOf [3] [], run0 ent4 2 1, ((withCmd [3] [] up).put SHT_STATUS_state 2).modShot (fun x =>
      { x with run := some (run0 ent4 2 1) }), by decide +kernel⟩,
   ⟨cref, cmdOf [3] [], (withCmd [3] [] up).put SHT_STATUS_state 1, by decide +kernel⟩⟩

/-- States and operands that meet the hypotheses of `Obligations.Triggers`, clause by clause. -/
theorem witness_Triggers :
    (∃ (e : Entry) (s : State), s.watches 0 = true ∧ s.roundDue = false ∧ s.angleMatches = true ∧ s.shot.run = none ∧
      s.nextEntry = some e)
    ∧ (∃ (r : Run) (s : State), s.watches 0 = true ∧ s.roundDue = false ∧ s.angleMatches = true ∧ s.shot.run = some
      r)
    ∧ (∃ (s : State), s.roundDue = false ∧ s.angleMatches = false)
    ∧ (∃ (s : State), s.roundDue = true)
    ∧ (∃ (e : Entry) (s : State), s.watches 1 = true ∧ s.shot.run = none ∧ s.nextEntry = some e)
    ∧ (∃ (r : Run) (s : State), s.watches 1 = true ∧ s.shot.run = some r)
    ∧ (∃ (s : State), s.timingLive = true)
    ∧ (∃ (s : State), s.timingLive = true) :=
  ⟨⟨entA, ((turning 16000000 (up.put SHT_STATUS_state 1)).modMotor (fun m => { m with passTick := some 0 })).modShot
      (fun x => { x with bank0 := [entA, entD], bank1 := [entA] }), by decide +kernel⟩,
   ⟨run0 ent4 2 1, ((turning 16000000 (up.put SHT_STATUS_state 2)).modMotor (fun m =>
      { m with passTick := some 0 })).modShot (fun x =>
      { x with bank0 := [entA, entD], bank1 := [entA], run := some (run0 ent4 2 1) }), by decide +kernel⟩,
   ⟨up, by decide +kernel⟩,
   ⟨turning 16000000 up, by decide +kernel⟩,
   ⟨entD, (up.put SHT_STATUS_state 1).modShot (fun x => { x with bank0 := [entD, entA], bank1 := [entD] }),
      by decide +kernel⟩,
   ⟨run0 ent4 2 1, (up.put SHT_STATUS_state 2).modShot (fun x =>
      { x with bank0 := [entD, entA], bank1 := [entD], run := some (run0 ent4 2 1) }), by decide +kernel⟩,
   ⟨up, by decide +kernel⟩,
   ⟨up, by decide +kernel⟩⟩

/-- States and operands that meet the hypotheses of `Obligations.Repeats`, clause by clause. -/
theorem witness_Repeats :
    (∃ (r : Run) (s : State), s.timingLive = true ∧ s.shot.run = some r ∧ s.commitDue r = true ∧ s.permitNow = true)
    ∧ (∃ (r : Run) (e : Nat) (s : State), s.timingLive = true ∧ s.shot.run = some r ∧ s.commitDue r = true ∧
      s.permitNow = true ∧ 0 < r.committed ∧ r.entry.emitterList = [e] ∧ s.flag (EMT_CFG_en e) = true ∧ s.chgState e
      = 3 ∧ 0 < (s.emit e).credits ∧ 0 < s.shot.aggregate ∧ s.vetoOf e = none ∧ s.binEnds 6250 s.eye.roll1 = false ∧
      s.binEnds 625000 s.eye.roll100 = false)
    ∧ (∃ (r : Run) (s : State), s.timingLive = true ∧ s.shot.run = some r ∧ s.commitDue r = true ∧ s.permitNow =
      false ∧ r.committed = 0 ∧ (s.engine = 1 ∨ s.engine = 2) ∧ s.shot.swap.all (fun w => !w.due) = true ∧ s.binEnds
      6250 s.eye.roll1 = false ∧ s.binEnds 625000 s.eye.roll100 = false)
    ∧ (∃ (r : Run) (w : Swap) (s : State), s.timingLive = true ∧ s.shot.run = some r ∧ s.commitDue r = true ∧
      s.permitNow = false ∧ 0 < r.committed ∧ r.closed ≠ r.committed ∧ s.engine = 2 ∧ s.shot.swap = some w ∧ w.due =
      true)
    ∧ (∃ (r : Run) (s : State), s.timingLive = true ∧ s.shot.run = some r ∧ r.closed + 1 < r.committed)
    ∧ (∃ (r : Run) (s : State), s.timingLive = true ∧ s.shot.run = some r ∧ r.closed + 1 = r.committed ∧ r.entry.reps
      < r.committed ∧ s.engine = 2 ∧ s.shot.swap = none ∧ s.shot.delayDue = false ∧ s.nextEntry.all (fun e => e.trig
      != 2) = true)
    ∧ (∃ (r : Run) (e : Entry) (s : State), s.timingLive = true ∧ s.shot.run = some r ∧ r.closed + 1 = r.committed ∧
      r.entry.reps < r.committed ∧ s.engine = 2 ∧ s.shot.swap = none ∧ s.shot.delayDue = true ∧ s.nextEntry = some e)
    ∧ (∃ (s : State), s.shot.run = none)
    ∧ (∃ (r : Run) (e : Nat) (s : State), s.timingLive = true ∧ s.shot.run = some r ∧ s.commitDue r = true ∧
      s.permitNow = true ∧ r.entry.emitterList = [e] ∧ s.flag (EMT_CFG_en e) = false ∧ s.binEnds 6250 s.eye.roll1 =
      false ∧ s.binEnds 625000 s.eye.roll100 = false)
    ∧ (∃ (r : Run) (e : Nat) (s : State), s.timingLive = true ∧ s.shot.run = some r ∧ s.commitDue r = true ∧
      s.permitNow = true ∧ r.entry.emitterList = [e] ∧ s.flag (EMT_CFG_en e) = true ∧ s.chgState e ≠ 3 ∧ s.binEnds
      6250 s.eye.roll1 = false ∧ s.binEnds 625000 s.eye.roll100 = false)
    ∧ (∃ (r : Run) (e : Nat) (s : State), s.timingLive = true ∧ s.shot.run = some r ∧ s.commitDue r = true ∧
      s.permitNow = true ∧ r.entry.emitterList = [e] ∧ s.flag (EMT_CFG_en e) = true ∧ s.chgState e = 3 ∧ ((s.emit
      e).credits = 0 ∨ s.shot.aggregate = 0) ∧ s.binEnds 6250 s.eye.roll1 = false ∧ s.binEnds 625000 s.eye.roll100 =
      false)
    ∧ (∃ (r : Run) (e : Nat) (f : FRef) (s : State), s.timingLive = true ∧ s.shot.run = some r ∧ s.commitDue r = true
      ∧ s.permitNow = true ∧ r.entry.emitterList = [e] ∧ s.flag (EMT_CFG_en e) = true ∧ s.chgState e = 3 ∧ 0 <
      (s.emit e).credits ∧ 0 < s.shot.aggregate ∧ s.vetoOf e = some f ∧ s.binEnds 6250 s.eye.roll1 = false ∧
      s.binEnds 625000 s.eye.roll100 = false)
    ∧ (∃ (r : Run) (e : Nat) (s : State), s.timingLive = true ∧ s.shot.run = some r ∧ s.commitDue r = true ∧
      s.permitNow = true ∧ r.committed = 0 ∧ r.entry.emitterList = [e] ∧ s.flag (EMT_CFG_en e) = true ∧ s.chgState e
      = 3 ∧ 0 < (s.emit e).credits ∧ 0 < s.shot.aggregate ∧ s.vetoOf e = none ∧ s.binEnds 6250 s.eye.roll1 = false ∧
      s.binEnds 625000 s.eye.roll100 = false)
    ∧ (∃ (r : Run) (s : State), s.timingLive = true ∧ s.shot.run = some r ∧ s.commitDue r = true) :=
  ⟨⟨run0 ent4 0 0, (permitOn (pokes [(SHT_STATUS_state, 2), (EMT_CRATE_MAP_none 18, 1)] up)).modShot (fun x =>
      { x with bank0 := [ent4], bank1 := [ent4], run := some (run0 ent4 0 0) }), by decide +kernel⟩,
   ⟨run0 ent4 1 0, 18, (((permitOn (pokes [(SHT_STATUS_state, 2), (EMT_CFG_en 18, 1), (CHG_STAT_state 18, 3),
      (EYE_LIM_1MS_lim, 1000), (EYE_LIM_100MS_lim, 1000), (EYE_LIM_SEC_lim, 1000)] up)).modShot (fun x =>
      { x with bank0 := [ent4], bank1 := [ent4], run := some (run0 ent4 1 0), aggregate := 9 })).modEmit 18 (fun m =>
      { m with credits := 4 })), by decide +kernel⟩,
   ⟨run0 ent4 0 0, (up.put SHT_STATUS_state 1).modShot (fun x =>
      { x with bank0 := [ent4], bank1 := [ent4], run := some (run0 ent4 0 0) }), by decide +kernel⟩,
   ⟨run0 ent4 2 1, ⟨none, none, true, 1⟩, (up.put SHT_STATUS_state 2).modShot (fun x =>
      { x with bank0 := [ent4], bank1 := [ent4], run := some (run0 ent4 2 1), swap := some ⟨none, none, true, 1⟩ }),
      by decide +kernel⟩,
   ⟨run0 ent4 2 0, (up.put SHT_STATUS_state 2).modShot (fun x =>
      { x with bank0 := [ent4], bank1 := [ent4], run := some (run0 ent4 2 0) }), by decide +kernel⟩,
   ⟨run0 ent4 4 3, (up.put SHT_STATUS_state 2).modShot (fun x =>
      { x with bank0 := [ent4], bank1 := [ent4], run := some (run0 ent4 4 3) }), by decide +kernel⟩,
   ⟨run0 ent4 4 3, entD, (up.put SHT_STATUS_state 2).modShot (fun x =>
      { x with bank0 := [ent4, entD], bank1 := [ent4], run := some (run0 ent4 4 3), delayDue := true, next := 1 }),
      by decide +kernel⟩,
   ⟨up, by decide +kernel⟩,
   ⟨run0 ent4 1 0, 18, (((permitOn (pokes [(SHT_STATUS_state, 2), (EMT_CFG_en 18, 0), (CHG_STAT_state 18, 3),
      (EYE_LIM_1MS_lim, 1000), (EYE_LIM_100MS_lim, 1000), (EYE_LIM_SEC_lim, 1000)] up)).modShot (fun x =>
      { x with bank0 := [ent4], bank1 := [ent4], run := some (run0 ent4 1 0), aggregate := 9 })).modEmit 18 (fun m =>
      { m with credits := 4 })), by decide +kernel⟩,
   ⟨run0 ent4 1 0, 18, (((permitOn (pokes [(SHT_STATUS_state, 2), (EMT_CFG_en 18, 1), (CHG_STAT_state 18, 2),
      (EYE_LIM_1MS_lim, 1000), (EYE_LIM_100MS_lim, 1000), (EYE_LIM_SEC_lim, 1000)] up)).modShot (fun x =>
      { x with bank0 := [ent4], bank1 := [ent4], run := some (run0 ent4 1 0), aggregate := 9 })).modEmit 18 (fun m =>
      { m with credits := 4 })), by decide +kernel⟩,
   ⟨run0 ent4 1 0, 18, (((permitOn (pokes [(SHT_STATUS_state, 2), (EMT_CFG_en 18, 1), (CHG_STAT_state 18, 3),
      (EYE_LIM_1MS_lim, 1000), (EYE_LIM_100MS_lim, 1000), (EYE_LIM_SEC_lim, 1000)] up)).modShot (fun x =>
      { x with bank0 := [ent4], bank1 := [ent4], run := some (run0 ent4 1 0), aggregate := 0 })).modEmit 18 (fun m =>
      { m with credits := 4 })), by decide +kernel⟩,
   ⟨run0 ent4 1 0, 18, EYE_VETO_w1, (((permitOn (pokes [(SHT_STATUS_state, 2), (EMT_CFG_en 18, 1), (CHG_STAT_state
      18, 3), (EYE_LIM_1MS_lim, 0), (EYE_LIM_100MS_lim, 1000), (EYE_LIM_SEC_lim, 1000)] up)).modShot (fun x =>
      { x with bank0 := [ent4], bank1 := [ent4], run := some (run0 ent4 1 0), aggregate := 9 })).modEmit 18 (fun m =>
      { m with credits := 4, bins1 := [5] })), by decide +kernel⟩,
   ⟨run0 ent4 0 0, 18, (((permitOn (pokes [(SHT_STATUS_state, 2), (EMT_CFG_en 18, 1), (CHG_STAT_state 18, 3),
      (EYE_LIM_1MS_lim, 1000), (EYE_LIM_100MS_lim, 1000), (EYE_LIM_SEC_lim, 1000)] up)).modShot (fun x =>
      { x with bank0 := [ent4], bank1 := [ent4], run := some (run0 ent4 0 0), aggregate := 9 })).modEmit 18 (fun m =>
      { m with credits := 4 })), by decide +kernel⟩,
   ⟨run0 ent4 0 0, (up.put SHT_STATUS_state 1).modShot (fun x =>
      { x with bank0 := [ent4], bank1 := [ent4], run := some (run0 ent4 0 0) }), by decide +kernel⟩⟩

/-- States and operands that meet the hypotheses of `Obligations.Boundaries`, clause by clause. -/
theorem witness_Boundaries :
    (∃ (s : State), s.roundDue = true ∧ s.motor.sweepTick ≠ some s.clk.tick ∧ s.shot.swap = none)
    ∧ (∃ (w : Swap) (r : Run) (s : State), s.roundDue = true ∧ s.engine ≠ 0 ∧ s.shot.swap = some w ∧ w.due = false ∧
      w.atRound = none ∧ s.shot.run = some r ∧ 0 < r.committed)
    ∧ (∃ (w : Swap) (s : State), s.roundDue = true ∧ s.engine ≠ 0 ∧ s.shot.swap = some w ∧ w.due = false ∧ w.atRound
      = some (BitVec.ofNat 16 (s.rd MOT_ROUND_round + 1)) ∧ s.shot.run = none ∧ s.host.snaps = [] ∧ (s.engine = 1 →
      (s.stagedBank[0]?).all (fun e => e.trig != 2) = true))
    ∧ (∃ (s : State), s.sweepDue = true)
    ∧ (∃ (s : State), s.roundDue = false)
    ∧ (∃ (s : State), s.sweepDue = false)
    ∧ (∃ (w : Swap) (e : Entry) (s : State), s.roundDue = true ∧ s.engine = 1 ∧ s.shot.swap = some w ∧ w.due = false
      ∧ w.atRound = none ∧ s.shot.run = none ∧ s.host.snaps = [] ∧ s.stagedBank[0]? = some e ∧ e.trig = 2)
    ∧ (∃ (w : Swap) (r : Run) (s : State), s.roundDue = true ∧ s.engine = 2 ∧ s.shot.swap = some w ∧ w.due = false ∧
      w.atRound = none ∧ s.shot.run = some r ∧ r.committed = 0 ∧ s.host.snaps = [] ∧ (s.stagedBank[0]?).all (fun e =>
      e.trig != 2) = true) :=
  ⟨⟨turning 16000000 (up.put SHT_SYNC_mode 1), by decide +kernel⟩,
   ⟨⟨none, none, false, 0⟩, run0 ent4 2 1, (turning 16000000 (up.put SHT_STATUS_state 2)).modShot (fun x =>
      { x with bank0 := [ent4], bank1 := [entA], run := some (run0 ent4 2 1), swap := some ⟨none, none, false, 0⟩ }),
      by decide +kernel⟩,
   ⟨⟨none, some 8, false, 0⟩, (turning 16000000 (pokes [(SHT_STATUS_state, 1), (MOT_ROUND_round, 7)] up)).modShot
      (fun x => { x with bank0 := [ent4], bank1 := [entA], swap := some ⟨none, some 8, false, 0⟩ }),
      by decide +kernel⟩,
   ⟨turning 16000000 up, by decide +kernel⟩,
   ⟨up, by decide +kernel⟩,
   ⟨up, by decide +kernel⟩,
   ⟨⟨none, none, false, 0⟩, { entA with w0 := 0x202 }, (turning 16000000 (pokes [(SHT_STATUS_state, 1),
      (MOT_ROUND_round, 7)] up)).modShot (fun x =>
      { x with bank0 := [ent4], bank1 := [{ entA with w0 := 0x202 }], swap := some ⟨none, none, false, 0⟩ }),
      by decide +kernel⟩,
   ⟨⟨none, none, false, 0⟩, run0 ent4 0 0, (turning 16000000 (pokes [(SHT_STATUS_state, 2), (MOT_ROUND_round, 7)]
      up)).modShot (fun x =>
      { x with bank0 := [ent4], bank1 := [entA], run := some (run0 ent4 0 0), swap := some ⟨none, none, false, 0⟩ }),
      by decide +kernel⟩⟩

/-- States and operands that meet the hypotheses of `Obligations.HallCodes`, clause by clause. -/
theorem witness_HallCodes :
    (∃ (code : BitVec 3) (held : Nat) (p : Nat) (s : State), s.timingLive = true ∧ s.rd MOT_FILT_n_hall ≤ held ∧
      s.motor.code = none ∧ s.motor.everCode = false ∧ s.motor.lines.all (fun o => decide (linesChanged o code ≤ 1))
      = true ∧ hallPos code = some p)
    ∧ (∃ (old : BitVec 3) (code : BitVec 3) (held : Nat) (s : State), s.timingLive = true ∧ s.rd MOT_FILT_n_hall ≤
      held ∧ s.motor.code = none ∧ s.motor.lines = some old ∧ 1 < linesChanged old code)
    ∧ (∃ (old : BitVec 3) (code : BitVec 3) (held : Nat) (s : State), s.timingLive = true ∧ s.rd MOT_FILT_n_hall ≤
      held ∧ s.motor.code = none ∧ s.motor.lines = some old ∧ linesChanged old code = 1 ∧ hallPos code = none)
    ∧ (∃ (old : BitVec 3) (code : BitVec 3) (held : Nat) (a : Nat) (b : Nat) (s : State), s.timingLive = true ∧ s.rd
      MOT_FILT_n_hall ≤ held ∧ s.motor.code = some old ∧ linesChanged old code = 1 ∧ hallPos old = some a ∧ hallPos
      code = some b)
    ∧ (∃ (old : BitVec 3) (code : BitVec 3) (held : Nat) (s : State), s.timingLive = true ∧ s.rd MOT_FILT_n_hall ≤
      held ∧ s.motor.code = some old ∧ 1 < linesChanged old code)
    ∧ (∃ (old : BitVec 3) (code : BitVec 3) (held : Nat) (s : State), s.timingLive = true ∧ s.rd MOT_FILT_n_hall ≤
      held ∧ s.motor.code = some old ∧ linesChanged old code = 1 ∧ hallPos code = none)
    ∧ (∃ (code : BitVec 3) (held : Nat) (s : State), s.timingLive = true ∧ s.rd MOT_FILT_n_hall ≤ held ∧ s.motor.code
      = some code)
    ∧ (∃ (held : Nat) (s : State), held < s.rd MOT_FILT_n_hall)
    ∧ (∃ (code : BitVec 3) (held : Nat) (p : Nat) (s : State), s.timingLive = true ∧ s.rd MOT_FILT_n_hall ≤ held ∧
      s.motor.code = none ∧ s.motor.everCode = true ∧ s.motor.lines.all (fun o => decide (linesChanged o code ≤ 1)) =
      true ∧ hallPos code = some p)
    ∧ (∃ (old : BitVec 3) (code : BitVec 3) (held : Nat) (a : Nat) (b : Nat) (n : Nat) (p : Nat) (m : Nat) (rev :
      Bool) (jump : Bool) (s : State), s.timingLive = true ∧ n = s.rd MOT_FILT_n_hall ∧ n ≤ held ∧ s.motor.code =
      some old ∧ linesChanged old code = 1 ∧ hallPos old = some a ∧ hallPos code = some b ∧ rev = (((a + 1) % 6 != b)
      != s.flag MOT_CFG_rev) ∧ s.motor.hasEdge = true ∧ p = min (2 ^ 32 - 1) (max 1 (if s.motor.edgeN = n then
      s.clk.tick + 1 - n - s.motor.edgeTime else s.clk.tick - s.motor.edgeAccept)) ∧ m = 60000000000 / (s.segments *
      p) ∧ jump = (decide (s.rd MOT_STATUS_state = 3) && (decide (s.rd MOT_PERIOD_period * (100 + s.rd MOT_TMO_jump)
      < p * 100) || decide (p * (100 + s.rd MOT_TMO_jump) < s.rd MOT_PERIOD_period * 100))))
    ∧ (∃ (s : State), s.pending = [] ∧ s.timingLive = true) :=
  ⟨⟨1, 1000, 0, up, by decide +kernel⟩,
   ⟨0, 3, 1000, up.modMotor (fun m => { m with lines := some 0 }), by decide +kernel⟩,
   ⟨1, 0, 1000, up.modMotor (fun m => { m with lines := some 1 }), by decide +kernel⟩,
   ⟨1, 3, 1000, 0, 1, up.modMotor (fun m => { m with code := some 1 }), by decide +kernel⟩,
   ⟨1, 6, 1000, up.modMotor (fun m => { m with code := some 1 }), by decide +kernel⟩,
   ⟨1, 0, 1000, up.modMotor (fun m => { m with code := some 1 }), by decide +kernel⟩,
   ⟨1, 1000, up.modMotor (fun m => { m with code := some 1 }), by decide +kernel⟩,
   ⟨0, up, by decide +kernel⟩,
   ⟨1, 1000, 0, up.modMotor (fun m => { m with everCode := true }), by decide +kernel⟩,
   ⟨1, 3, 1000, 0, 1, up.rd MOT_FILT_n_hall, (min (2 ^ 32 - 1) (max 1 (if up.motor.edgeN = up.rd MOT_FILT_n_hall then
      up.clk.tick + 1 - up.rd MOT_FILT_n_hall - up.motor.edgeTime else up.clk.tick - up.motor.edgeAccept))),
      (60000000000 / (up.segments * (min (2 ^ 32 - 1) (max 1 (if up.motor.edgeN = up.rd MOT_FILT_n_hall then
      up.clk.tick + 1 - up.rd MOT_FILT_n_hall - up.motor.edgeTime else up.clk.tick - up.motor.edgeAccept))))), (((0 +
      1) % 6 != 1) != up.flag MOT_CFG_rev), (decide (up.rd MOT_STATUS_state = 3) && (decide (up.rd MOT_PERIOD_period
      * (100 + up.rd MOT_TMO_jump) < (min (2 ^ 32 - 1) (max 1 (if up.motor.edgeN = up.rd MOT_FILT_n_hall then
      up.clk.tick + 1 - up.rd MOT_FILT_n_hall - up.motor.edgeTime else up.clk.tick - up.motor.edgeAccept))) * 100) ||
      decide ((min (2 ^ 32 - 1) (max 1 (if up.motor.edgeN = up.rd MOT_FILT_n_hall then up.clk.tick + 1 - up.rd
      MOT_FILT_n_hall - up.motor.edgeTime else up.clk.tick - up.motor.edgeAccept))) * (100 + up.rd MOT_TMO_jump) <
      up.rd MOT_PERIOD_period * 100))), up.modMotor (fun m => { m with code := some 1, hasEdge := true }),
      by decide +kernel⟩,
   ⟨up, by decide +kernel⟩⟩

/-- States and operands that meet the hypotheses of `Obligations.IndexAndStandstill`, clause by clause. -/
theorem witness_IndexAndStandstill :
    (∃ (level : Bool) (held : Nat) (s : State), s.timingLive = true ∧ s.rd MOT_FILT_n_idx ≤ held ∧ s.motor.idxLevel =
      some (!level) ∧ level = !s.flag MOT_IDX_CFG_pol ∧ s.flag MOT_IDX_CFG_idx_en = true ∧ s.idxActs = true)
    ∧ (∃ (level : Bool) (held : Nat) (s : State), s.timingLive = true ∧ s.rd MOT_FILT_n_idx ≤ held ∧ s.motor.idxLevel
      = some (!level) ∧ level = !s.flag MOT_IDX_CFG_pol ∧ s.flag MOT_FSYNC_en = true ∧ s.idxActs = true ∧ s.flag
      MOT_STATUS_aligned = false)
    ∧ (∃ (level : Bool) (held : Nat) (s : State), s.timingLive = true ∧ s.rd MOT_FILT_n_idx ≤ held ∧
      (s.motor.idxLevel = some level ∨ s.idxActs = false))
    ∧ (∃ (s : State), s.timingLive = true ∧ 2 * s.segments ≤ s.motor.fwdCount ∧ s.flag MOT_STATUS_aligned = true)
    ∧ (∃ (s : State), s.motor.fwdCount < 2 * s.segments)
    ∧ (∃ (s : State), s.timingLive = true ∧ (s.rd MOT_STATUS_state = 2 ∨ s.rd MOT_STATUS_state = 3 ∨ s.rd
      MOT_STATUS_state = 4) ∧ 100000 * s.rd MOT_TMO_stand_ms ≤ s.clk.tick - s.motor.standFrom)
    ∧ (∃ (s : State), s.clk.tick - s.motor.standFrom < 100000 * s.rd MOT_TMO_stand_ms) :=
  ⟨⟨true, 1000, (pokes [(MOT_IDX_CFG_idx_en, 1), (MOT_IDX_CFG_pol, 0), (MOT_STATUS_state, 3), (MOT_STATUS_dir, 0)]
      up).modMotor (fun m => { m with idxLevel := some false }), by decide +kernel⟩,
   ⟨true, 1000, (pokes [(MOT_FSYNC_en, 1), (MOT_IDX_CFG_pol, 0), (MOT_STATUS_state, 3), (MOT_STATUS_dir, 0)]
      up).modMotor (fun m => { m with idxLevel := some false }), by decide +kernel⟩,
   ⟨true, 1000, up.modMotor (fun m => { m with idxLevel := some true }), by decide +kernel⟩,
   ⟨(up.putB MOT_STATUS_aligned true).modMotor (fun m => { m with fwdCount := 100000 }), by decide +kernel⟩,
   ⟨up, by decide +kernel⟩,
   ⟨(up.put MOT_STATUS_state 3).modClk (fun k => { k with tick := 10 ^ 9 }), by decide +kernel⟩,
   ⟨up.put MOT_TMO_stand_ms 100, by decide +kernel⟩⟩

/-- States and operands that meet the hypotheses of `Obligations.MotorRegisters`, clause by clause. -/
theorem witness_MotorRegisters :
    (∃ (s : State), s.timingLive = true ∧ (s.clk.tick - s.motor.serrFrom) % 2048 = 0)
    ∧ (∃ (s : State), (s.clk.tick - s.motor.serrFrom) % 2048 ≠ 0)
    ∧ (∃ (s : State), s.timingLive = true)
    ∧ (∃ (q : Src) (s : State), s.serves q = true ∧ s.engine = 0 ∧ s.timingLive = true)
    ∧ (∃ (q : Src) (s : State), s.serves q = true ∧ s.engine = 0 ∧ s.timingLive = false)
    ∧ (∃ (q : Src) (s : State), s.serves q = true ∧ s.engine ≠ 0)
    ∧ (∃ (q : Src) (s : State), s.serves q = true) :=
  ⟨⟨up, by decide +kernel⟩,
   ⟨up.modClk (fun k => { k with tick := 5 }), by decide +kernel⟩,
   ⟨up, by decide +kernel⟩,
   ⟨.pf0, pokes [(MOT_STATUS_state, 3), (MOT_SPEED_spd, 77)] up, by decide +kernel⟩,
   ⟨.pf0, up.putB GLB_READY_tpll false, by decide +kernel⟩,
   ⟨.spi, up.put SHT_STATUS_state 2, by decide +kernel⟩,
   ⟨.pf1, up, by decide +kernel⟩⟩

/-- States and operands that meet the hypotheses of `Obligations.SkimmerFrames`, clause by clause. -/
theorem witness_SkimmerFrames :
    (∃ (c : CrateId) (k : ChanId) (a : Nat) (q : Nat) (w : Nat) (θ : Nat) (β : Nat) (s : State), s.fabricReady = true
      ∧ s.cratePowered c = true ∧ (s.chan c k).ambFailed = false ∧ (s.chan c k).ambDelivered = true ∧ s.flag
      (CHN_AMB_valid c k) = true ∧ s.flag (CHN_AMB_over c k) = false ∧ a = s.rd (CHN_AMB_amb c k) ∧ s.flag
      (SKM_CH_sun c k) = false ∧ a < s.rd SKM_SUN_ON_sun_on ∧ q * q ≤ a ∧ a < (q + 1) * (q + 1) ∧ w * w ≤ s.rd
      SKM_THR_LAW_knee ∧ s.rd SKM_THR_LAW_knee < (w + 1) * (w + 1) ∧ θ = (if s.flag SKM_CFG_thr_en = true ∧ s.rd
      SKM_THR_LAW_knee < a then min (s.rd SKM_RATE_dmax) (s.rd SKM_THR_LAW_gain * (q - w) / 16) else 0) ∧ β = (if
      s.flag SKM_CFG_bias_en = true ∧ s.rd SKM_BIAS_LAW_bknee < a then min (s.rd SKM_LIM_bmax) ((a - s.rd
      SKM_BIAS_LAW_bknee) * s.rd SKM_BIAS_LAW_bgain / 65536) else 0))
    ∧ (∃ (c : CrateId) (k : ChanId) (a : Nat) (q : Nat) (w : Nat) (θ : Nat) (β : Nat) (v : Nat) (o : Bool) (s :
      State), s.fabricReady = true ∧ s.cratePowered c = true ∧ (s.chan c k).ambFailed = false ∧ (s.chan c
      k).ambDelivered = true ∧ s.flag (CHN_AMB_valid c k) = true ∧ o = s.flag (CHN_AMB_over c k) ∧ a = (if o = true
      then 1048575 else s.rd (CHN_AMB_amb c k)) ∧ s.flag (SKM_CH_sun c k) = false ∧ (s.rd SKM_SUN_ON_sun_on ≤ a ∨ o =
      true) ∧ q * q ≤ a ∧ a < (q + 1) * (q + 1) ∧ w * w ≤ s.rd SKM_THR_LAW_knee ∧ s.rd SKM_THR_LAW_knee < (w + 1) *
      (w + 1) ∧ θ = (if s.flag SKM_CFG_thr_en = true ∧ s.rd SKM_THR_LAW_knee < a then min (s.rd SKM_RATE_dmax) (s.rd
      SKM_THR_LAW_gain * (q - w) / 16) else 0) ∧ β = (if s.flag SKM_CFG_bias_en = true ∧ s.rd SKM_BIAS_LAW_bknee < a
      then min (s.rd SKM_LIM_bmax) ((a - s.rd SKM_BIAS_LAW_bknee) * s.rd SKM_BIAS_LAW_bgain / 65536) else 0) ∧ v =
      (if s.flag SKM_CFG_sun_en = true ∧ s.flag SKM_CFG_bias_en = true then max β (s.rd SKM_SUN_ON_sun_step) else β))
    ∧ (∃ (c : CrateId) (k : ChanId) (s : State), s.fabricReady = true ∧ (s.chan c k).ambFailed = false ∧ (s.flag
      (CHN_AMB_valid c k) = false ∨ (s.chan c k).ambDelivered = false))
    ∧ (∃ (c : CrateId) (k : ChanId) (s : State), s.fabricReady = true ∧ s.cratePowered c = true ∧ (s.chan c
      k).ambFailed = true)
    ∧ (∃ (c : CrateId) (k : ChanId) (a : Nat) (q : Nat) (w : Nat) (θ : Nat) (β : Nat) (v : Nat) (s : State),
      s.fabricReady = true ∧ s.cratePowered c = true ∧ (s.chan c k).ambFailed = false ∧ (s.chan c k).ambDelivered =
      true ∧ s.flag (CHN_AMB_valid c k) = true ∧ s.flag (CHN_AMB_over c k) = false ∧ a = s.rd (CHN_AMB_amb c k) ∧
      s.flag (SKM_CH_sun c k) = true ∧ q * q ≤ a ∧ a < (q + 1) * (q + 1) ∧ w * w ≤ s.rd SKM_THR_LAW_knee ∧ s.rd
      SKM_THR_LAW_knee < (w + 1) * (w + 1) ∧ θ = (if s.flag SKM_CFG_thr_en = true ∧ s.rd SKM_THR_LAW_knee < a then
      min (s.rd SKM_RATE_dmax) (s.rd SKM_THR_LAW_gain * (q - w) / 16) else 0) ∧ β = (if s.flag SKM_CFG_bias_en = true
      ∧ s.rd SKM_BIAS_LAW_bknee < a then min (s.rd SKM_LIM_bmax) ((a - s.rd SKM_BIAS_LAW_bknee) * s.rd
      SKM_BIAS_LAW_bgain / 65536) else 0) ∧ v = (if s.flag SKM_CFG_sun_en = true ∧ s.flag SKM_CFG_bias_en = true then
      max β (s.rd SKM_SUN_ON_sun_step) else β))
    ∧ (∃ (c : CrateId) (s : State), s.fabricReady = true ∧ s.cratePowered c = false) :=
  ⟨⟨2, 5, 100, 10, 4, 37, 0, skimmed 100 up, by decide +kernel⟩,
   ⟨2, 5, 1000, 31, 4, 168, 2, 50, false, skimmed 1000 up, by decide +kernel⟩,
   ⟨2, 5, up, by decide +kernel⟩,
   ⟨2, 5, (up.put (cratePwrField 2) 2).modChan 2 5 (fun h => { h with ambFailed := true }), by decide +kernel⟩,
   ⟨2, 5, 1000, 31, 4, 168, 2, 50, pokes [(SKM_CH_sun 2 5, 1), (SKM_SUN_OFF_sun_off, 1000), (SKM_SUN_OFF_sun_hold,
      2)] (skimmed 1000 up), by decide +kernel⟩,
   ⟨2, up.put (cratePwrField 2) 0, by decide +kernel⟩⟩

/-- States and operands that meet the hypotheses of `Obligations.ChurnDwells`, clause by clause. -/
theorem witness_ChurnDwells :
    (∃ (c : CrateId) (d : Descr) (q : List Descr) (s : State), s.churnLive = true ∧ (s.crate c).cur = none ∧ (s.crate
      c).descQ = d :: q)
    ∧ (∃ (c : CrateId) (lost : BitVec 16) (e : Bool) (q : List FifoItem) (d : Descr) (s : State), s.churnLive = true
      ∧ (s.crate c).fifo = .windowClose lost e :: q ∧ (s.crate c).cur = some d ∧ (s.crate c).curWindows + 1 ≠
      d.splitN)
    ∧ (∃ (c : CrateId) (m : CloseMark) (q : List FifoItem) (d : Descr) (s : State), s.churnLive = true ∧ (s.crate
      c).fifo = .dwellClose m :: q ∧ (s.crate c).cur = some d) :=
  ⟨⟨2, des0, [des0], (up.modCrate 2 (fun g => { g with descQ := [des0, des0] })).modChan 2 5 (fun h =>
      { h with buf0 := buf0 .full }), by decide +kernel⟩,
   ⟨2, 0, false, [], des0, up.modCrate 2 (fun g => { g with fifo := [.windowClose 0 false], cur := some des0 }),
      by decide +kernel⟩,
   ⟨2, mark0, [], des0, (up.modCrate 2 (fun g => { g with fifo := [.dwellClose mark0], cur := some des0 })).modChan 2
      5 (fun h => { h with buf0 := buf0 .accum }), by decide +kernel⟩⟩

/-- States and operands that meet the hypotheses of `Obligations.AccumulationAndScrubbing`, clause by clause. -/
theorem witness_AccumulationAndScrubbing :
    (∃ (c : CrateId) (e : Evt) (q : List FifoItem) (d : Descr) (s : State) (x : Bool) (b : Nat), s.churnLive = true ∧
      (s.crate c).fifo = .event e :: q ∧ (s.crate c).cur = some d ∧ (s.crate c).raw = none ∧ e.chan < 16 ∧
      s.accumulates c e.chan d = true ∧ x = (s.chan c e.chan).accBuf ∧ 0 ≤ e.interval ∧ b = (e.interval.toNat + 4096)
      / d.wc ∧ b < 512 ∧ fineOf ((s.chan c e.chan).buf x).fine d.wf e.interval.toNat = none)
    ∧ (∃ (c : CrateId) (e : Evt) (q : List FifoItem) (d : Descr) (s : State), s.churnLive = true ∧ (s.crate c).fifo =
      .event e :: q ∧ (s.crate c).cur = some d ∧ (s.crate c).raw = none ∧ s.accumulates c e.chan d = true ∧ 0 ≤
      e.interval ∧ 512 ≤ (e.interval.toNat + 4096) / d.wc)
    ∧ (∃ (c : CrateId) (e : Evt) (q : List FifoItem) (d : Descr) (s : State) (x : Bool), s.churnLive = true ∧
      (s.crate c).fifo = .event e :: q ∧ (s.crate c).cur = some d ∧ (s.crate c).raw = none ∧ s.accumulates c e.chan d
      = true ∧ e.interval < 0 ∧ x = (s.chan c e.chan).accBuf)
    ∧ (∃ (c : CrateId) (e : Evt) (q : List FifoItem) (d : Descr) (s : State), s.churnLive = true ∧ (s.crate c).fifo =
      .event e :: q ∧ (s.crate c).cur = some d ∧ (s.crate c).raw = none ∧ s.accumulates c e.chan d = false)
    ∧ (∃ (c : CrateId) (e : Evt) (q : List FifoItem) (d : Descr) (r : Raw) (s : State), s.churnLive = true ∧ (s.crate
      c).fifo = .event e :: q ∧ (s.crate c).cur = some d ∧ (s.crate c).raw = some r ∧ s.accumulates c e.chan d =
      false ∧ r.stage = .capturing ∧ r.mask.getLsbD e.chan = true ∧ (r.pre = true ∨ 0 ≤ e.interval) ∧ r.written <
      r.limit ∧ r.count < 4096)
    ∧ (∃ (c : CrateId) (e : Evt) (q : List FifoItem) (d : Descr) (r : Raw) (s : State), s.churnLive = true ∧ (s.crate
      c).fifo = .event e :: q ∧ (s.crate c).cur = some d ∧ (s.crate c).raw = some r ∧ s.accumulates c e.chan d =
      false ∧ r.stage = .capturing ∧ r.mask.getLsbD e.chan = true ∧ (r.pre = true ∨ 0 ≤ e.interval) ∧ r.limit ≤
      r.written)
    ∧ (∃ (c : CrateId) (e : Evt) (q : List FifoItem) (d : Descr) (s : State), s.churnLive = true ∧ (s.crate c).fifo =
      .event e :: q ∧ (s.crate c).cur = some d ∧ (s.crate c).raw = none ∧ s.accumulates c e.chan d = true ∧
      e.interval < 0)
    ∧ (∃ (s : State), s.churnLive = true)
    ∧ (∃ (c : CrateId) (s : State), s.cratePwr c = 0)
    ∧ (∃ (c : CrateId) (s : State), s.churnLive = true ∧ s.cratePwr c ≠ 0)
    ∧ (∃ (c : CrateId) (s : State), s.churnLive = true ∧ s.cratePwr c ≠ 0) :=
  ⟨⟨2, evt0, [], des0, (up.modCrate 2 (fun g => { g with fifo := [.event evt0], cur := some des0 })).modChan 2 5 (fun
      h => { h with buf0 := buf0 .accum }), false, 79, by decide +kernel⟩,
   ⟨2, { evt0 with interval := 30000 }, [], des0, (up.modCrate 2 (fun g =>
      { g with fifo := [.event { evt0 with interval := 30000 }], cur := some des0 })).modChan 2 5 (fun h =>
      { h with buf0 := buf0 .accum }), by decide +kernel⟩,
   ⟨2, { evt0 with interval := -5 }, [], des0, (up.modCrate 2 (fun g =>
      { g with fifo := [.event { evt0 with interval := -5 }], cur := some des0 })).modChan 2 5 (fun h =>
      { h with buf0 := buf0 .accum }), false, by decide +kernel⟩,
   ⟨2, evt0, [], des0, up.modCrate 2 (fun g => { g with fifo := [.event evt0], cur := some des0, late := 0x20 }),
      by decide +kernel⟩,
   ⟨2, evt0, [], des0, ⟨none, true, 0xFFFF, 9, 0x10, .capturing, 300, [], 3, 0, none⟩, (up.modCrate 2 (fun g =>
      { g with fifo := [.event evt0], cur := some des0, late := 0x20, raw := some ⟨none, true, 0xFFFF, 9, 0x10, .capturing, 300, [], 3, 0, none⟩ })),
      by decide +kernel⟩,
   ⟨2, evt0, [], des0, ⟨none, true, 0xFFFF, 9, 0x10, .capturing, 300, [], 9, 0, none⟩, (up.modCrate 2 (fun g =>
      { g with fifo := [.event evt0], cur := some des0, late := 0x20, raw := some ⟨none, true, 0xFFFF, 9, 0x10, .capturing, 300, [], 9, 0, none⟩ })),
      by decide +kernel⟩,
   ⟨2, { evt0 with interval := -5 }, [], des0, (up.modCrate 2 (fun g =>
      { g with fifo := [.event { evt0 with interval := -5 }], cur := some des0 })).modChan 2 5 (fun h =>
      { h with buf0 := buf0 .accum }), by decide +kernel⟩,
   ⟨up, by decide +kernel⟩,
   ⟨2, up, by decide +kernel⟩,
   ⟨2, (up.put (cratePwrField 2) 2), by decide +kernel⟩,
   ⟨2, (up.put (cratePwrField 2) 2), by decide +kernel⟩⟩

/-- States and operands that meet the hypotheses of `Obligations.Extraction`, clause by clause. -/
theorem witness_Extraction :
    (∃ (c : CrateId) (k : ChanId) (x : Bool) (b : Buf) (d : Descr) (m : CloseMark) (s : State), s.churnLive = true ∧
      (s.chan c k).bufIn .extract = some x ∧ b = (s.chan c k).buf x ∧ b.dwell = some d ∧ b.mark = some m ∧
      s.host.recs.length + (s.extract c k x b d m).returns.length ≤ 1024 ∧ b.corrupt = false ∧ b.probe = false ∧
      b.dumpDue = false ∧ d.safety = false)
    ∧ (∃ (c : CrateId) (k : ChanId) (x : Bool) (b : Buf) (d : Descr) (m : CloseMark) (w : ZWait) (s : State),
      s.churnLive = true ∧ (s.chan c k).bufIn .extract = some x ∧ b = (s.chan c k).buf x ∧ b.dwell = some d ∧ b.mark
      = some m ∧ s.host.recs.length + (s.extract c k x b d m).returns.length ≤ 1024 ∧ b.dumpDue = false ∧ d.safety =
      true ∧ s.saf.zoneWait.find? (fun y => decide (y.chan = 16 * c.val + k.val ∧ y.angle = d.angle ∧ y.sweep =
      d.sweep)) = some w ∧ w.inService = true)
    ∧ (∃ (c : CrateId) (k : ChanId) (x : Bool) (b : Buf) (d : Descr) (m : CloseMark) (s : State), s.churnLive = true
      ∧ (s.chan c k).bufIn .extract = some x ∧ b = (s.chan c k).buf x ∧ b.dwell = some d ∧ b.mark = some m ∧
      s.host.recs.length + (s.extract c k x b d m).returns.length ≤ 1024 ∧ b.corrupt = true)
    ∧ (∃ (c : CrateId) (k : ChanId) (x : Bool) (b : Buf) (d : Descr) (m : CloseMark) (wl : Nat) (s : State),
      s.churnLive = true ∧ (s.chan c k).bufIn .extract = some x ∧ b = (s.chan c k).buf x ∧ b.dwell = some d ∧ b.mark
      = some m ∧ s.host.recs.length + (s.extract c k x b d m).returns.length ≤ 1024 ∧ b.probe = true ∧ 0 < m.fired ∧
      s.rd (STR_CH_wl c k) < 65536 ∧ b.probeSum ≤ 65535 ∧ (wl : Int) = s.rd (STR_CH_wl c k) + roundDiv ((if
      b.probeOver = true then 65535 else (b.probeSum : Int)) - s.rd (STR_CH_wl c k)) 16)
    ∧ (∃ (c : CrateId) (k : ChanId) (x : Bool) (b : Buf) (d : Descr) (m : CloseMark) (s : State), (s.chan c k).bufIn
      .extract = some x ∧ b = (s.chan c k).buf x ∧ b.dwell = some d ∧ b.mark = some m ∧ s.churnLive = true ∧
      (s.extract c k x b d m).returns ≠ [] ∧ 1024 < s.host.recs.length + (s.extract c k x b d m).returns.length)
    ∧ (∃ (c : CrateId) (k : ChanId) (x : Bool) (b : Buf) (d : Descr) (m : CloseMark) (v : Scan) (y : Cand) (s :
      State), v = (s.extract c k x b d m).scan ∧ y ∈ (s.extract c k x b d m).cands)
    ∧ (∃ (c : CrateId) (k : ChanId) (x : Bool) (b : Buf) (d : Descr) (m : CloseMark) (y : Cand) (i : Nat) (s :
      State), (s.extract c k x b d m).returns[i]? = some y) :=
  ⟨⟨2, 5, false, buf0 .extract, des0, mark0, up.modChan 2 5 (fun h => { h with buf0 := buf0 .extract }),
      by decide +kernel, by decide +kernel, by decide +kernel, by decide +kernel, by decide +kernel, empty_fifo _ _ _
      _ _ _ _ (by decide +kernel), by decide +kernel, by decide +kernel, by decide +kernel, by decide +kernel⟩,
   ⟨2, 5, false, { buf0 .extract with dwell := some { des0 with safety := true } }, { des0 with safety := true },
      mark0, ⟨37, des0.angle, des0.sweep, true⟩, (up.modChan 2 5 (fun h =>
      { h with buf0 := { buf0 .extract with dwell := some { des0 with safety := true } } })).modSaf (fun x =>
      { x with zoneWait := [⟨37, des0.angle, des0.sweep, true⟩] }), by decide +kernel, by decide +kernel,
      by decide +kernel, by decide +kernel, by decide +kernel, empty_fifo _ _ _ _ _ _ _ (by decide +kernel),
      by decide +kernel, by decide +kernel, by decide +kernel, by decide +kernel⟩,
   ⟨2, 5, false, { buf0 .extract with corrupt := true }, des0, mark0, up.modChan 2 5 (fun h =>
      { h with buf0 := { buf0 .extract with corrupt := true } }), by decide +kernel, by decide +kernel,
      by decide +kernel, by decide +kernel, by decide +kernel, empty_fifo _ _ _ _ _ _ _ (by decide +kernel),
      by decide +kernel⟩,
   ⟨2, 5, false, { buf0 .extract with probe := true, probeSum := 320 }, des0, mark0, 20, up.modChan 2 5 (fun h =>
      { h with buf0 := { buf0 .extract with probe := true, probeSum := 320 } }), by decide +kernel,
      by decide +kernel, by decide +kernel, by decide +kernel, by decide +kernel, empty_fifo _ _ _ _ _ _ _
      (by decide +kernel), by decide +kernel, by decide +kernel, by decide +kernel, by decide +kernel,
      by decide +kernel⟩,
   ⟨2, 5, false, buf0 .extract, des0, mark0, ((up.modChan 2 5 (fun h =>
      { h with buf0 := buf0 .extract })).setBankHalf 2 (coarseAt 5 false 79) 400).modHost (fun h =>
      { h with recs := List.replicate 1024 ⟨.pf0, 9, 1, [], none, 0, false⟩ }), by decide +kernel⟩,
   ⟨2, 5, false, bufX, des0, mark0, ((peaked up).extract 2 5 false bufX des0 mark0).scan, ret0, peaked up, rfl,
      cand_of_return peaked_return⟩,
   ⟨2, 5, false, bufX, des0, mark0, ret0, 0, peaked up, peaked_return⟩⟩

/-- States and operands that meet the hypotheses of `Obligations.DumpsAndCaptures`, clause by clause. -/
theorem witness_DumpsAndCaptures :
    (∃ (ref : CmdRef) (m : Cmd) (c : Nat) (st : Nat) (s : State), s.fabricReady = true ∧ s.waits ref 0x06 = some m ∧
      c = bitsOf (wordAt m.words 1) 0 5 ∧ s.captureStatus c (s.crate c).dump.isSome = some st)
    ∧ (∃ (ref : CmdRef) (m : Cmd) (c : Nat) (s : State), s.fabricReady = true ∧ s.waits ref 0x06 = some m ∧ c =
      bitsOf (wordAt m.words 1) 0 5 ∧ s.captureStatus c (s.crate c).dump.isSome = none)
    ∧ (∃ (ref : CmdRef) (m : Cmd) (c : Nat) (st : Nat) (s : State), s.fabricReady = true ∧ s.waits ref 0x07 = some m
      ∧ c = bitsOf (wordAt m.words 1) 0 5 ∧ s.captureStatus c (s.crate c).raw.isSome = some st)
    ∧ (∃ (ref : CmdRef) (m : Cmd) (c : Nat) (s : State), s.fabricReady = true ∧ s.waits ref 0x07 = some m ∧ c =
      bitsOf (wordAt m.words 1) 0 5 ∧ s.captureStatus c (s.crate c).raw.isSome = none)
    ∧ (∃ (c : CrateId) (k : ChanId) (x : Bool) (u : Dump) (b : Buf) (d : Descr) (m : CloseMark) (s : State),
      s.churnLive = true ∧ (s.chan c k).bufIn .dump = some x ∧ (s.crate c).dump = some u ∧ b = (s.chan c k).buf x ∧
      b.dwell = some d ∧ b.mark = some m ∧ b.corrupt = false ∧ u.reaches b.dwellId k = true ∧ s.host.recs.length <
      1024)
    ∧ (∃ (c : CrateId) (m : CloseMark) (q : List FifoItem) (d : Descr) (r : Raw) (s : State), s.churnLive = true ∧
      (s.crate c).fifo = .dwellClose m :: q ∧ (s.crate c).cur = some d ∧ (s.crate c).raw = some r ∧ r.cmd.isSome =
      true ∧ r.stage = .capturing ∧ r.count < 4096)
    ∧ (∃ (c : CrateId) (r : Raw) (s : State), s.churnLive = true ∧ (s.crate c).raw = some r ∧ r.stage = .draining ∧
      r.count ≤ 4096)
    ∧ (∃ (c : CrateId) (m : CloseMark) (q : List FifoItem) (d : Descr) (u : Dump) (s : State), s.churnLive = true ∧
      (s.crate c).fifo = .dwellClose m :: q ∧ (s.crate c).cur = some d ∧ (s.crate c).dump = some u ∧ u.cmd.isSome =
      true ∧ u.started = false ∧ (s.crate c).raw = none)
    ∧ (∃ (c : CrateId) (m : CloseMark) (q : List FifoItem) (d : Descr) (u : Dump) (w : BitVec 16) (s : State),
      s.churnLive = true ∧ (s.crate c).fifo = .dwellClose m :: q ∧ (s.crate c).cur = some d ∧ (s.crate c).dump = some
      u ∧ u.cmd.isSome = true ∧ u.started = true ∧ u.seen < u.dwells ∧ (∀ k, k < 16 → w.getLsbD k = (s.accumulates c
      k d && u.mask.getLsbD k)) ∧ w ≠ 0 ∧ (s.crate c).raw = none)
    ∧ (∃ (c : CrateId) (m : CloseMark) (q : List FifoItem) (d : Descr) (u : Dump) (ref : CmdRef) (e : Cmd) (s :
      State), s.churnLive = true ∧ (s.crate c).fifo = .dwellClose m :: q ∧ (s.crate c).cur = some d ∧ (s.crate
      c).dump = some u ∧ u.cmd = some ref ∧ s.cmd? ref = some e ∧ u.started = true ∧ u.seen + 1 = u.dwells ∧ u.due =
      [] ∧ (∀ k, k < 16 → s.accumulates c k d = true → u.mask.getLsbD k = false) ∧ (s.crate c).raw = none)
    ∧ (∃ (c : CrateId) (k : ChanId) (x : Bool) (u : Dump) (b : Buf) (d : Descr) (m : CloseMark) (ref : CmdRef) (e :
      Cmd) (s : State), s.churnLive = true ∧ (s.chan c k).bufIn .dump = some x ∧ (s.crate c).dump = some u ∧ b =
      (s.chan c k).buf x ∧ b.dwell = some d ∧ b.mark = some m ∧ b.corrupt = false ∧ s.host.recs.length < 1024 ∧
      u.started = true ∧ u.dwells ≤ u.seen ∧ u.due = [(b.dwellId, BitVec.twoPow 16 k)] ∧ u.cmd = some ref ∧ s.cmd?
      ref = some e) :=
  ⟨⟨cref, cmdOf [6, 0x00FF0002] [], 2, stCRATE_OFF, (withCmd [6, 0x00FF0002] [] up).put (cratePwrField 2) 0,
      by decide +kernel⟩,
   ⟨cref, cmdOf [6, 0x00FF0002, 0x00100003] [], 2, pokes [(cratePwrField 2, 2), (crateReadyField 2, 1)] (withCmd [6,
      0x00FF0002, 0x00100003] [] up), by decide +kernel⟩,
   ⟨cref, cmdOf [7, 0x00FF0002] [], 2, stNOT_READY, (withCmd [7, 0x00FF0002] [] up).put (cratePwrField 2) 2,
      by decide +kernel⟩,
   ⟨cref, cmdOf [7, 0x00FF0002, 0x00100003] [], 2, pokes [(cratePwrField 2, 2), (crateReadyField 2, 1)] (withCmd [7,
      0x00FF0002, 0x00100003] [] up), by decide +kernel⟩,
   ⟨2, 5, true, ⟨none, false, 0xFFFF, 2, 0x10, true, 1, 3, 0, [(0, 0x20), (1, 0x20)]⟩, buf0 .dump, des0, mark0,
      (up.modCrate 2 (fun g =>
      { g with dump := some ⟨none, false, 0xFFFF, 2, 0x10, true, 1, 3, 0, [(0, 0x20), (1, 0x20)]⟩ })).modChan 2 5
      (fun h => { h with buf1 := buf0 .dump }), by decide +kernel⟩,
   ⟨2, mark0, [], des0, ⟨some cref, true, 0xFFFF, 9, 0x10, .capturing, 3, [], 3, 0, none⟩, up.modCrate 2 (fun g =>
      { g with fifo := [.dwellClose mark0], cur := some des0, raw := some ⟨some cref, true, 0xFFFF, 9, 0x10, .capturing, 3, [], 3, 0, none⟩ }),
      by decide +kernel⟩,
   ⟨2, ⟨some cref, false, 0xFFFF, 9, 0x10, .draining, 2, [], 2, 1, none⟩, (withCmd [7] [] up).modCrate 2 (fun g =>
      { g with raw := some ⟨some cref, false, 0xFFFF, 9, 0x10, .draining, 2, [], 2, 1, none⟩ }), by decide +kernel⟩,
   ⟨2, mark0, [], des0, dump0 false 0 [], dumping (dump0 false 0 []) up, by decide +kernel⟩,
   ⟨2, mark0, [], des0, dump0 true 1 [], 0x20, (dumping (dump0 true 1 []) up).modCrate 2 (fun g =>
      { g with late := 0xFFDF }), by decide +kernel⟩,
   ⟨2, mark0, [], des0, dump0 true 1 [], cref, cmdOf [6] [], (dumping (dump0 true 1 []) (withCmd [6] [] up)).modCrate
      2 (fun g => { g with late := 0xFFFF }), by decide +kernel⟩,
   ⟨2, 5, true, dump0 true 2 [(0, 0x20)], buf0 .dump, des0, mark0, cref, cmdOf [6] [], (dumping (dump0 true 2 [(0,
      0x20)]) (withCmd [6] [] up)).modChan 2 5 (fun h => { h with buf1 := buf0 .dump }), by decide +kernel⟩⟩

/-- States and operands that meet the hypotheses of `Obligations.LinkAndFunctions`, clause by clause. -/
theorem witness_LinkAndFunctions :
    (∃ (s : State), s.running = true ∧ s.clk.xtalLost = false ∧ s.fabricReady = true ∧ s.flag HIF_LINK_up = false)
    ∧ (∃ (s : State), s.flag HIF_LINK_up = true ∧ s.clk.xtalLost = false)
    ∧ (∃ (f : Func) (s : State), s.fabricReady = true ∧ s.flag HIF_LINK_up = true ∧ (s.fn f).pba = [])
    ∧ (∃ (f : Func) (v : BitVec 11) (s : State), s.barLive f = true ∧ v.toNat < vectorCount f)
    ∧ (∃ (s : State), s.fabricReady = true ∧ s.flag HIF_LINK_up = true)
    ∧ (∃ (s : State), s.running = true) :=
  ⟨⟨pokes [(HIF_LINK_up, 0), (GLB_READY_link, 0)] up, by decide +kernel⟩,
   ⟨up, by decide +kernel⟩,
   ⟨.pf0, up, by decide +kernel⟩,
   ⟨.pf1, 3, up, by decide +kernel⟩,
   ⟨(rings3 up).modHost (fun h => { h with cmds := [cmdOf [0] []], reads := [⟨.pf0, 0, 32, .descriptor 0 0 1⟩] }),
      by decide +kernel⟩,
   ⟨(rings3 up).modHost (fun h => { h with cmds := [cmdOf [0] []], reads := [⟨.pf0, 0, 32, .descriptor 0 0 1⟩] }),
      by decide +kernel⟩⟩

/-- States and operands that meet the hypotheses of `Obligations.Doorbells`, clause by clause. -/
theorem witness_Doorbells :
    (∃ (f : Func) (r : RingId) (s : State), s.barLive f = true ∧ ringOwner r = f ∧ (s.ring r).st = .disabled)
    ∧ (∃ (f : Func) (r : RingId) (x : Word) (s : State), s.barLive f = true ∧ ringOwner r = f ∧ (s.ring r).st =
      .enabled ∧ s.cached r = true ∧ ({ s.ring r with hostIdx := x } : Ring).inconsistent = false)
    ∧ (∃ (f : Func) (r : RingId) (x : Word) (s : State), s.barLive f = true ∧ ringOwner r = f ∧ (s.ring r).st =
      .enabled ∧ s.cached r = true ∧ ({ s.ring r with hostIdx := x } : Ring).inconsistent = true)
    ∧ (∃ (f : Func) (r : RingId) (x : Word) (s : State), s.barLive f = true ∧ ringOwner r = f ∧ (s.ring r).st =
      .enabled ∧ s.cached r = true ∧ ({ s.ring r with hostIdx := x } : Ring).inconsistent = false ∧ (s.ring
      r).irqCount = 0)
    ∧ (∃ (f : Func) (r : RingId) (s : State), s.barLive f = true ∧ ringOwner r = f ∧ (s.ring r).st = .disabled)
    ∧ (∃ (f : Func) (r : RingId) (s : State), s.barLive f = true ∧ (s.ring r).st = .disabled)
    ∧ (∃ (f : Func) (r : RingId) (s : State), s.barLive f = true ∧ (ringOwner r ≠ f ∨ (s.ring r).st ≠ .disabled))
    ∧ (∃ (f : Func) (s : State), s.barLive f = false)
    ∧ (∃ (f : Func) (r : RingId) (s : State), s.barLive f = true ∧ ringOwner r = f ∧ (s.ring r).st = .enabling)
    ∧ (∃ (f : Func) (r : RingId) (s : State), s.barLive f = true ∧ ringOwner r = f ∧ (s.ring r).st = .draining ∧
      s.cached r = true)
    ∧ (∃ (f : Func) (r : RingId) (s : State), s.barLive f = true ∧ ringOwner r = f ∧ (s.ring r).st = .error ∧
      (s.cached r = true ∨ wordAt (s.ring r).ctx 0 = 0))
    ∧ (∃ (f : Func) (r : RingId) (s : State), s.barLive f = true ∧ ringOwner r = f ∧ ((s.ring r).st = .enabled ∨
      (s.ring r).st = .draining) ∧ s.cached r = false ∧ s.ringBusy r.toNat = false ∧ s.cacheRoom = true)
    ∧ (∃ (f : Func) (r : RingId) (s : State), s.barLive f = true ∧ ringOwner r = f ∧ (s.ring r).st = .error ∧ wordAt
      (s.ring r).ctx 0 ≠ 0 ∧ s.cached r = false ∧ s.ringBusy r.toNat = false ∧ s.cacheRoom = true) :=
  ⟨⟨.pf0, 5, up, by decide +kernel⟩,
   ⟨.pf0, 1, 0, rings3 up, by decide +kernel⟩,
   ⟨.pf0, 1, 5, rings3 up, by decide +kernel⟩,
   ⟨.pf0, 1, 0, rings3 up, by decide +kernel⟩,
   ⟨.pf0, 5, up, by decide +kernel⟩,
   ⟨.pf1, 0xF005, up, by decide +kernel⟩,
   ⟨.pf0, 1, rings3 up, by decide +kernel⟩,
   ⟨.pf0, up.modHost (fun h => { h with pf0 := Fn.reset }), by decide +kernel⟩,
   ⟨.pf0, 1, up.modRing 1 (fun g => { g with st := .enabling }), by decide +kernel⟩,
   ⟨.pf0, 1, (rings3 up).modRing 1 (fun g => { g with st := .draining }), by decide +kernel⟩,
   ⟨.pf0, 1, (rings3 up).modRing 1 (fun g => { g with st := .error }), by decide +kernel⟩,
   ⟨.pf0, 1, (rings3 up).modHost (fun h => { h with lru := [], readQ := [], reads := [] }), by decide +kernel⟩,
   ⟨.pf0, 1, (uncached [] up).modRing 1 (fun g => { g with st := .error }), by decide +kernel⟩⟩

/-- States and operands that meet the hypotheses of `Obligations.RingStates`, clause by clause. -/
theorem witness_RingStates :
    (∃ (r : RingId) (ws : List Word) (s : State), s.fabricReady = true ∧ (s.ring r).st = .enabling ∧ (s.ring
      r).fetchFailed = false ∧ (s.ring r).fetched = some ws ∧ s.ctxWaits (ringOwner r) ws = false ∧ s.ctxValid
      (ringOwner r) ws = true ∧ (s.ring r).held = [] ∧ ({ s.ring r with ctx := ws.take 8 } : Ring).inconsistent =
      false)
    ∧ (∃ (r : RingId) (ws : List Word) (s : State), s.fabricReady = true ∧ (s.ring r).st = .enabling ∧ (s.ring
      r).fetched = some ws ∧ s.ctxWaits (ringOwner r) ws = false ∧ s.ctxValid (ringOwner r) ws = false ∧ (s.ring
      r).held = [])
    ∧ (∃ (r : RingId) (s : State), s.fabricReady = true ∧ (s.ring r).st = .draining ∧ s.cached r = true ∧ (s.ring
      r).lossPending = false ∧ (∀ c, c ∈ s.host.allRecs → c.ring ≠ r) ∧ (∀ c, c ∈ s.host.cpls → c.cplRing ≠ r ∧
      c.cmd.ring ≠ r) ∧ (∀ c, c ∈ s.host.cmds → c.ref.ring ≠ r))
    ∧ (∃ (r : RingId) (c : Cpl) (s : State), (s.ring r).st = .draining ∧ ctxClass (s.ring r).ctx = 0 ∧ c ∈
      s.host.cpls ∧ c.cmd.ring = r)
    ∧ (∃ (r : RingId) (s : State), (s.ring r).st ≠ .draining)
    ∧ (∃ (s : State), s.clk.xtalLost = true)
    ∧ (∃ (r : RingId) (s : State), (s.ring r).st = .draining ∧ (s.ring r).lossPending = true ∧ s.evtRing (ringOwner
      r) ≠ r ∧ leastUnits (ctxClass (s.ring r).ctx) ≤ s.freeUnits r ∧ (s.fn (ringOwner r)).bme = true)
    ∧ (∃ (r : RingId) (s : State), s.fabricReady = true ∧ (s.ring r).st = .draining ∧ s.cached r = false ∧ s.ringBusy
      r.toNat = false ∧ s.cacheRoom = true ∧ (s.ring r).lossPending = false ∧ (∀ c, c ∈ s.host.allRecs → c.ring ≠ r)
      ∧ (∀ c, c ∈ s.host.cpls → c.cplRing ≠ r ∧ c.cmd.ring ≠ r) ∧ (∀ c, c ∈ s.host.cmds → c.ref.ring ≠ r))
    ∧ (∃ (r : RingId) (e : RingId) (ws : List Word) (s : State), s.fabricReady = true ∧ (s.ring r).st = .enabling ∧
      (s.ring r).fetchFailed = false ∧ (s.ring r).fetched = some ws ∧ ctxClass ws = 0 ∧ e = (wordAt ws 1).extractLsb'
      0 16 ∧ ringOwner e = ringOwner r ∧ (s.ring e).st = .enabled ∧ s.cached e = false ∧ s.ringBusy e.toNat = false ∧
      s.cacheRoom = true) :=
  ⟨⟨1, ctxE ++ List.replicate 8 0, up.modRing 1 (fun g =>
      { g with st := .enabling, fetched := some (ctxE ++ List.replicate 8 0), gen := 6 }), by decide +kernel⟩,
   ⟨1, [8], up.modRing 1 (fun g => { g with st := .enabling, fetched := some [8] }), by decide +kernel⟩,
   ⟨1, (rings3 up).modRing 1 (fun g => { g with st := .draining, armed := true }), by decide +kernel⟩,
   ⟨0, ⟨1, 0, [], ⟨0, 1, 0⟩, 0, 0, ⟨noSeq, 0, noSeq, 0⟩, 0⟩, (up.modRing 0 (fun g =>
      { g with st := .draining, ctx := ctxC })).modHost (fun h =>
      { h with cpls := [⟨1, 0, [], ⟨0, 1, 0⟩, 0, 0, ⟨noSeq, 0, noSeq, 0⟩, 0⟩] }), by decide +kernel⟩,
   ⟨1, rings3 up, by decide +kernel⟩,
   ⟨up.modClk (fun k => { k with xtalLost := true }), by decide +kernel⟩,
   ⟨0x10, (rings3 up).modRing 0x10 (fun g => { g with st := .draining, lossPending := true }), by decide +kernel⟩,
   ⟨0x10, ((rings3 up).modRing 0x10 (fun g => { g with st := .draining })).modHost (fun h =>
      { h with lru := [], readQ := [], reads := [] }), by decide +kernel⟩,
   ⟨0, 1, ctxC ++ List.replicate 8 0, (uncached [] up).modRing 0 (fun g =>
      { g with st := .enabling, fetched := some (ctxC ++ List.replicate 8 0) }), by decide +kernel⟩⟩

/-- States and operands that meet the hypotheses of `Obligations.RingRecords`, clause by clause. -/
theorem witness_RingRecords :
    (∃ (c : Rec) (l : List Rec) (s : State), s.fabricReady = true ∧ s.host.recs = c :: l ∧ s.routed c = true ∧ (s.fn
      c.func).bme = true ∧ s.flag HIF_LINK_up = true ∧ unitsOf c.cls c.words ≤ s.freeUnits c.ring ∧ s.owesLoss c.ring
      = false ∧ s.cached c.ring = true)
    ∧ (∃ (c : Rec) (l : List Rec) (ub : Nat) (s : State), s.fabricReady = true ∧ s.host.recs = c :: l ∧ s.routed c =
      true ∧ (s.fn c.func).bme = true ∧ s.flag HIF_LINK_up = true ∧ unitsOf c.cls c.words ≤ s.freeUnits c.ring ∧
      s.owesLoss c.ring = false ∧ s.cached c.ring = true ∧ ub = (if c.cls = 1 then 16 else if c.cls = 4 then 8 else
      32) ∧ bitsOf (wordAt (s.ring c.ring).ctx 0) 4 5 ≤ 20 ∧ (s.ring c.ring).wbBytes + unitBytes c.cls * unitsOf
      c.cls c.words < (s.fn c.func).maxPayload)
    ∧ (∃ (c : Rec) (l : List Rec) (s : State), s.fabricReady = true ∧ s.host.recs = c :: l ∧ s.routed c = false ∧
      s.recWaits c.func c.ring c.kept = false)
    ∧ (∃ (c : Rec) (l : List Rec) (s : State), s.fabricReady = true ∧ s.host.recs = c :: l ∧ s.routed c = true ∧
      (s.fn c.func).bme = true ∧ s.flag HIF_LINK_up = true ∧ s.freeUnits c.ring < unitsOf c.cls c.words ∧ s.cached
      c.ring = true)
    ∧ (∃ (c : Rec) (l : List Rec) (s : State), s.fabricReady = true ∧ s.host.recs = c :: l ∧ s.routed c = true ∧
      (s.fn c.func).bme = true ∧ s.flag HIF_LINK_up = true ∧ s.cached c.ring = false ∧ s.ringBusy c.ring.toNat =
      false ∧ s.cacheRoom = true)
    ∧ (∃ (r : RingId) (e : RingId) (s : State), s.fabricReady = true ∧ s.master (ringOwner r) = true ∧ ((s.ring r).st
      = .enabled ∨ (s.ring r).st = .draining) ∧ s.cached r = true ∧ (s.ring r).lossPending = true ∧ leastUnits
      (ctxClass (s.ring r).ctx) ≤ s.freeUnits r ∧ e = s.evtRing (ringOwner r) ∧ e ≠ r ∧ s.isEvtRing (ringOwner r) e =
      true ∧ s.owesLoss e = false ∧ s.cached e = true ∧ 1 ≤ s.freeUnits e)
    ∧ (∃ (r : RingId) (s : State), s.fabricReady = true ∧ s.master (ringOwner r) = true ∧ (s.ring r).wbDue = true ∧
      (s.ring r).st ≠ .enabling ∧ (s.cached r = true ∨ ((s.ring r).st ≠ .enabled ∧ (s.ring r).st ≠ .draining)))
    ∧ (∃ (r : RingId) (s : State), s.fabricReady = true ∧ s.irqDue r = true ∧ s.master (ringOwner r) = true ∧ (s.fn
      (ringOwner r)).msixEn = true ∧ s.cached r = true ∧ s.vectorMasked (ringOwner r) (ctxVector (s.ring r).ctx) =
      false)
    ∧ (∃ (r : RingId) (s : State), s.irqDue r = false)
    ∧ (∃ (r : RingId) (s : State), s.fabricReady = true ∧ s.master (ringOwner r) = true ∧ ((s.ring r).st = .enabled ∨
      (s.ring r).st = .draining) ∧ s.cached r = false ∧ s.ringBusy r.toNat = false ∧ s.cacheRoom = true)
    ∧ (∃ (r : RingId) (e : RingId) (s : State), s.fabricReady = true ∧ s.master (ringOwner r) = true ∧ ((s.ring r).st
      = .enabled ∨ (s.ring r).st = .draining) ∧ s.cached r = true ∧ (s.ring r).lossPending = true ∧ leastUnits
      (ctxClass (s.ring r).ctx) ≤ s.freeUnits r ∧ e = s.evtRing (ringOwner r) ∧ e ≠ r ∧ s.isEvtRing (ringOwner r) e =
      true ∧ s.cached e = true ∧ s.freeUnits e = 0)
    ∧ (∃ (r : RingId) (e : RingId) (s : State), s.fabricReady = true ∧ s.master (ringOwner r) = true ∧ ((s.ring r).st
      = .enabled ∨ (s.ring r).st = .draining) ∧ s.cached r = true ∧ (s.ring r).lossPending = true ∧ leastUnits
      (ctxClass (s.ring r).ctx) ≤ s.freeUnits r ∧ e = s.evtRing (ringOwner r) ∧ s.isEvtRing (ringOwner r) e = false ∧
      ringOwner e = ringOwner r ∧ s.cached e = true)
    ∧ (∃ (r : RingId) (e : RingId) (s : State), s.fabricReady = true ∧ s.master (ringOwner r) = true ∧ ((s.ring r).st
      = .enabled ∨ (s.ring r).st = .draining) ∧ s.cached r = true ∧ (s.ring r).lossPending = true ∧ leastUnits
      (ctxClass (s.ring r).ctx) ≤ s.freeUnits r ∧ e = s.evtRing (ringOwner r) ∧ ringOwner e = ringOwner r ∧ (s.ring
      e).st = .enabled ∧ s.cached e = false ∧ s.ringBusy e.toNat = false ∧ s.cacheRoom = true) :=
  ⟨⟨⟨.pf0, 0x10, 1, List.replicate 8 5, none, 0, false⟩, [], (rings3 up).modHost (fun h =>
      { h with recs := [⟨.pf0, 0x10, 1, List.replicate 8 5, none, 0, false⟩] }), by decide +kernel⟩,
   ⟨⟨.pf0, 0x10, 1, List.replicate 8 5, none, 0, false⟩, [], 16, (rings3 up).modHost (fun h =>
      { h with recs := [⟨.pf0, 0x10, 1, List.replicate 8 5, none, 0, false⟩] }), by decide +kernel⟩,
   ⟨⟨.pf0, 0x30, 1, List.replicate 8 5, none, 0, false⟩, [], (rings3 up).modHost (fun h =>
      { h with recs := [⟨.pf0, 0x30, 1, List.replicate 8 5, none, 0, false⟩] }), by decide +kernel⟩,
   ⟨⟨.pf0, 0x10, 1, List.replicate 8 5, none, 0, false⟩, [], ((rings3 up).modHost (fun h =>
      { h with recs := [⟨.pf0, 0x10, 1, List.replicate 8 5, none, 0, false⟩] })).modRing 0x10 (fun g =>
      { g with devIdx := 1024 }), by decide +kernel⟩,
   ⟨⟨.pf0, 0x10, 1, List.replicate 8 5, none, 0, false⟩, [], (rings3 up).modHost (fun h =>
      { h with lru := [], recs := [⟨.pf0, 0x10, 1, List.replicate 8 5, none, 0, false⟩] }), by decide +kernel⟩,
   ⟨0x10, 1, (rings3 up).modRing 0x10 (fun g => { g with lossPending := true, drops := 3 }), by decide +kernel⟩,
   ⟨0x10, (rings3 up).modRing 0x10 (fun g => { g with wbDue := true, devIdx := 3 }), by decide +kernel⟩,
   ⟨1, ((rings3 up).modRing 1 (fun g => { g with armed := true, irqCount := 2 })).modHost (fun h =>
      { h with pf0 := { fnOn with msix := [(0, ⟨0xFEE00000, 7, false⟩)] } }), by decide +kernel⟩,
   ⟨1, rings3 up, by decide +kernel⟩,
   ⟨0x10, ((rings3 up).modRing 0x10 (fun g => { g with wbDue := true })).modHost (fun h =>
      { h with lru := [], readQ := [], reads := [] }), by decide +kernel⟩,
   ⟨0x10, 1, ((rings3 up).modRing 0x10 (fun g => { g with lossPending := true, drops := 3 })).modRing 1 (fun g =>
      { g with hostIdx := 0, devIdx := 4096 }), by decide +kernel⟩,
   ⟨0x10, 0, ((rings3 up).modRing 0x10 (fun g => { g with lossPending := true, drops := 3 })).put
      (HIF_FN_CFG_evt_ring 0) 0, by decide +kernel⟩,
   ⟨0x10, 1, (uncached [0x10] up).modRing 0x10 (fun g => { g with lossPending := true, drops := 3 }),
      by decide +kernel⟩⟩

/-- States and operands that meet the hypotheses of `Obligations.DescriptorsAndReads`, clause by clause. -/
theorem witness_DescriptorsAndReads :
    (∃ (n : Nat) (r : RingId) (s : State), s.fabricReady = true ∧ s.nextCmdRing = some n ∧ r = BitVec.ofNat 16 n ∧
      s.cached r = true ∧ s.cached (s.ring r).cplRing = true ∧ (s.ring r).descrHeld = none)
    ∧ (∃ (h : HostRead) (r : RingId) (x : RingId) (bs : List Byte) (ws : List Word) (st : Nat) (s : State),
      s.fabricReady = true ∧ s.oldestRead = some h ∧ s.flag HIF_LINK_up = true ∧ h.purpose = .descriptor r (s.ring
      r).gen x ∧ h.bytes = 32 ∧ bs.length = 32 ∧ ws = bytesWords bs ∧ (s.ring r).st = .enabled ∧ opcodeOf ws ≠ 0x09 ∧
      s.descrNeeds (ringOwner r) ws = none ∧ s.descrStatus (ringOwner r) ws = some st ∧ (∀ c, c ∈ s.host.cmds → c.ref
      ≠ ⟨r, (s.ring r).devIdx, (s.ring r).gen⟩))
    ∧ (∃ (h : HostRead) (r : RingId) (x : RingId) (bs : List Byte) (ws : List Word) (s : State), s.fabricReady = true
      ∧ s.oldestRead = some h ∧ s.flag HIF_LINK_up = true ∧ h.purpose = .descriptor r (s.ring r).gen x ∧ h.bytes = 32
      ∧ bs.length = 32 ∧ ws = bytesWords bs ∧ (s.ring r).st = .enabled ∧ opcodeOf ws ≠ 0x09 ∧ s.descrNeeds (ringOwner
      r) ws = none ∧ s.descrStatus (ringOwner r) ws = none ∧ listWords ws = 0 ∧ (∀ c, c ∈ s.host.cmds → c.ref ≠ ⟨r,
      (s.ring r).devIdx, (s.ring r).gen⟩))
    ∧ (∃ (h : HostRead) (r : RingId) (bs : List Byte) (s : State), s.fabricReady = true ∧ s.oldestRead = some h ∧
      s.flag HIF_LINK_up = true ∧ h.purpose = .context r ∧ bs.length = h.bytes)
    ∧ (∃ (h : HostRead) (r : RingId) (s : State), s.fabricReady = true ∧ s.oldestRead = some h ∧ h.purpose = .context
      r)
    ∧ (∃ (h : HostRead) (ref : CmdRef) (c : Cmd) (s : State), s.fabricReady = true ∧ s.oldestRead = some h ∧ s.flag
      HIF_LINK_up = true ∧ h.purpose = .list ref ∧ s.cmd? ref = some c)
    ∧ (∃ (f : Func) (ws : List Word) (n : Nat) (a : Nat) (v : Nat → Nat), opcodeOf ws ≤ 9 ∧ (f = .pf0 ∨ opcodeOf ws =
      0 ∨ opcodeOf ws = 3 ∨ opcodeOf ws = 4 ∨ opcodeOf ws = 5 ∨ 8 ≤ opcodeOf ws) ∧ (∀ i, v i = (wordAt ws i).toNat) ∧
      n = v 1 % 512 ∧ a = v 4 + 2 ^ 32 * v 5)
    ∧ (∃ (f : Func) (ws : List Word) (r : RingId) (k : Nat) (s : State), ((opcodeOf ws = 5 ∧ r = (wordAt ws
      2).extractLsb' 0 16 ∧ k = 5) ∨ (opcodeOf ws = 6 ∧ r = (wordAt ws 2).extractLsb' 16 16 ∧ k = 2) ∨ (opcodeOf ws =
      7 ∧ r = (wordAt ws 2).extractLsb' 16 16 ∧ k = 4)) ∧ s.descrStatus f ws ≠ some stACCESS_DENIED ∧ s.descrStatus f
      ws ≠ some stBAD_VALUE)
    ∧ (∃ (f : Func) (ws : List Word) (s : State), s.descrStatus f ws = some stBAD_RING)
    ∧ (∃ (s : State), s.oldestRead = none)
    ∧ (∃ (h : HostRead) (r : RingId) (bs : List Byte) (ws : List Word) (s : State), s.fabricReady = true ∧
      s.oldestRead = some h ∧ s.flag HIF_LINK_up = true ∧ h.purpose = .again r (s.ring r).gen ∧ bs.length = h.bytes ∧
      ws = (bytesWords bs).take 8 ∧ ((s.ring r).st = .enabled ∨ (s.ring r).st = .draining) ∧ s.cached r = false ∧
      s.host.lru.length < 512)
    ∧ (∃ (h : HostRead) (r : RingId) (s : State), s.fabricReady = true ∧ s.oldestRead = some h ∧ s.flag HIF_LINK_up =
      true ∧ h.purpose = .again r (s.ring r).gen ∧ ((s.ring r).st = .enabled ∨ (s.ring r).st = .draining) ∧ (s.ring
      r).held = [])
    ∧ (∃ (n : Nat) (r : RingId) (e : RingId) (s : State), s.fabricReady = true ∧ s.nextCmdRing = some n ∧ r =
      BitVec.ofNat 16 n ∧ s.turnNeeds r = some e)
    ∧ (∃ (h : HostRead) (r : RingId) (x : RingId) (e : RingId) (k : Nat) (bs : List Byte) (ws : List Word) (s :
      State), s.fabricReady = true ∧ s.oldestRead = some h ∧ s.flag HIF_LINK_up = true ∧ h.purpose = .descriptor r
      (s.ring r).gen x ∧ h.bytes = 32 ∧ bs.length = 32 ∧ ws = bytesWords bs ∧ (s.ring r).st = .enabled ∧ wordsStatus
      (ringOwner r) ws = none ∧ namedRing ws = some (e, k) ∧ ringOwner e = ringOwner r ∧ (s.ring e).st = .enabled ∧
      s.cached e = false)
    ∧ (∃ (n : Nat) (r : RingId) (ws : List Word) (s : State), s.fabricReady = true ∧ s.nextCmdRing = some n ∧ r =
      BitVec.ofNat 16 n ∧ s.turnNeeds r = none ∧ (s.ring r).descrHeld = some ws ∧ opcodeOf ws ≠ 0x09 ∧ s.descrStatus
      (ringOwner r) ws = none ∧ listWords ws = 0 ∧ (∀ c, c ∈ s.host.cmds → c.ref ≠ ⟨r, (s.ring r).devIdx, (s.ring
      r).gen⟩))
    ∧ (∃ (h : HostRead) (r : RingId) (x : Word) (arm : Bool) (bs : List Byte) (s : State), s.fabricReady = true ∧
      s.oldestRead = some h ∧ s.flag HIF_LINK_up = true ∧ h.purpose = .again r (s.ring r).gen ∧ bs.length = h.bytes ∧
      (s.ring r).st = .error ∧ s.cached r = false ∧ s.host.lru.length < 512 ∧ (s.ring r).held = [⟨x, true, false,
      arm⟩] ∧ s.barLive (ringOwner r) = true) :=
  ⟨⟨0, 0, (rings3 up).modRing 0 (fun g => { g with hostIdx := 1 }), by decide +kernel⟩,
   ⟨⟨.pf0, 0, 32, .descriptor 0 0 1⟩, 0, 1, 0xFF :: List.replicate 31 0, bytesWords (0xFF :: List.replicate 31 0),
      stBAD_OPCODE, (rings3 up).modHost (fun h => { h with reads := [⟨.pf0, 0, 32, .descriptor 0 0 1⟩] }),
      by decide +kernel⟩,
   ⟨⟨.pf0, 0, 32, .descriptor 0 0 1⟩, 0, 1, List.replicate 32 0, bytesWords (List.replicate 32 0), (rings3
      up).modHost (fun h => { h with reads := [⟨.pf0, 0, 32, .descriptor 0 0 1⟩] }), by decide +kernel⟩,
   ⟨⟨.pf0, 0, 64, .context 7⟩, 7, List.replicate 64 3, up.modHost (fun h =>
      { h with reads := [⟨.pf0, 0, 64, .context 7⟩] }), by decide +kernel⟩,
   ⟨⟨.pf0, 0, 64, .context 7⟩, 7, up.modHost (fun h => { h with reads := [⟨.pf0, 0, 64, .context 7⟩] }),
      by decide +kernel⟩,
   ⟨⟨.pf0, 0, 64, .list cref⟩, cref, cmdOf [4] [], (withCmd [4] [] up).modHost (fun h =>
      { h with reads := [⟨.pf0, 0, 64, .list cref⟩] }), by decide +kernel⟩,
   ⟨.pf0, [1, 0x30001, 0, 0, 0x1000], 1, 0x1000, fun i => (wordAt [1, 0x30001, 0, 0, 0x1000] i).toNat,
      by decide +kernel, by decide +kernel, fun _ => rfl, by decide +kernel, by decide +kernel⟩,
   ⟨.pf0, [5, 1, 0x10, 0, 0x1000], 0x10, 5, rings3 up, by decide +kernel⟩,
   ⟨.pf0, [5, 1, 0x10, 0, 0x1000], rings3 up, by decide +kernel⟩,
   ⟨up, by decide +kernel⟩,
   ⟨⟨.pf0, 0, 64, .again 0x10 0⟩, 0x10, List.replicate 64 0, List.replicate 8 0, ((rings3 up).modRing 0x10 (fun g =>
      { g with gen := 0, held := [⟨0, false, false, false⟩] })).modHost (fun h =>
      { h with lru := [], reads := [⟨.pf0, 0, 64, .again 0x10 0⟩] }), by decide +kernel⟩,
   ⟨⟨.pf0, 0, 64, .again 0x10 0⟩, 0x10, ((rings3 up).modRing 0x10 (fun g => { g with gen := 0 })).modHost (fun h =>
      { h with reads := [⟨.pf0, 0, 64, .again 0x10 0⟩] }), by decide +kernel⟩,
   ⟨0, 0, 0, (uncached [] up).modRing 0 (fun g => { g with hostIdx := 1 }), by decide +kernel⟩,
   ⟨⟨.pf0, 0, 32, .descriptor 0 0 1⟩, 0, 1, 0x10, 5, [5, 0, 0, 0, 1, 0, 0, 0, 0x10] ++ List.replicate 23 0,
      bytesWords ([5, 0, 0, 0, 1, 0, 0, 0, 0x10] ++ List.replicate 23 0), (rings3 up).modHost (fun h =>
      { h with lru := [0, 1], reads := [⟨.pf0, 0, 32, .descriptor 0 0 1⟩] }), by decide +kernel⟩,
   ⟨0, 0, List.replicate 8 0, (rings3 up).modRing 0 (fun g => { g with descrHeld := some (List.replicate 8 0) }),
      by decide +kernel⟩,
   ⟨⟨.pf0, 0, 64, .again 0x10 0⟩, 0x10, 4, true, List.replicate 64 0, ((rings3 up).modRing 0x10 (fun g =>
      { g with gen := 0, st := .error, held := [⟨4, true, false, true⟩] })).modHost (fun h =>
      { h with lru := [], reads := [⟨.pf0, 0, 64, .again 0x10 0⟩] }), by decide +kernel⟩⟩

/-- States and operands that meet the hypotheses of `Obligations.Completions`, clause by clause. -/
theorem witness_Completions :
    (∃ (ref : CmdRef) (c : Cmd) (s : State), s.fabricReady = true ∧ s.waits ref 0x00 = some c)
    ∧ (∃ (ref : CmdRef) (c : Cmd) (s : State), s.fabricReady = true ∧ s.waits ref 0x09 = some c ∧ s.fenceClear ref =
      true ∧ s.openCmds c.func < 64 ∧ s.lacksCtx ref.ring = false ∧ s.evicted c.cplRing = false ∧ s.isEvtRing c.func
      c.cplRing = true ∧ 1 ≤ s.freeUnits c.cplRing)
    ∧ (∃ (ref : CmdRef) (s : State), s.fenceClear ref = false)
    ∧ (∃ (p : Cpl) (s : State), s.fabricReady = true ∧ s.host.cpls.find? (fun q => s.cplReady q) = some p ∧ s.routed
      ⟨ringOwner p.cplRing, p.cplRing, 3, p.record, none, 0, true⟩ = true ∧ (s.fn (ringOwner p.cplRing)).bme = true ∧
      s.cached p.cplRing = true)
    ∧ (∃ (p : Cpl) (b : Nat) (s : State), s.fabricReady = true ∧ s.host.cpls.find? (fun q => s.cplReady q) = some p ∧
      s.routed ⟨ringOwner p.cplRing, p.cplRing, 3, p.record, none, 0, true⟩ = true ∧ (s.fn (ringOwner p.cplRing)).bme
      = true ∧ s.cached p.cplRing = true ∧ (s.ring p.cplRing).wbBytes + 32 < (s.fn (ringOwner p.cplRing)).maxPayload
      ∧ b = ctxBase (s.ring p.cplRing).ctx + 32 * ((s.ring p.cplRing).devIdx.toNat % ctxSize (s.ring p.cplRing).ctx))
    ∧ (∃ (ref : CmdRef) (c : Cmd) (s : State), s.waits ref 0x09 = some c ∧ s.isEvtRing c.func c.cplRing = false ∧
      s.lacksCtx ref.ring = false ∧ s.evicted c.cplRing = false)
    ∧ (∃ (p : Cpl) (n : Nat) (s : State), p ∈ s.host.cpls ∧ opcodeOf p.words = 0x09 ∧ p.cmd.gen = (s.ring
      p.cmd.ring).gen ∧ s.nextCmdRing = some n ∧ (s.ring p.cmd.ring).descrHeld = none)
    ∧ (∃ (ref : CmdRef) (c : Cmd) (e : RingId) (s : State), s.fabricReady = true ∧ s.waits ref 0x09 = some c ∧
      s.fenceClear ref = true ∧ s.openCmds c.func < 64 ∧ ((e = ref.ring ∧ s.lacksCtx e = true) ∨ (e = c.cplRing ∧
      s.lacksCtx ref.ring = false ∧ s.evicted e = true)) ∧ s.ringBusy e.toNat = false ∧ s.cacheRoom = true) :=
  ⟨⟨cref, cmdOf [0] [], withCmd [0] [] up, by decide +kernel⟩,
   ⟨cref, cmdOf [9] [], withCmd [9] [] (rings3 up), by decide +kernel⟩,
   ⟨cref, up.modHost (fun h => { h with cmds := [{ cmdOf [0] [] with ref := ⟨0, 0, 0⟩ }, cmdOf [9] []] }),
      by decide +kernel⟩,
   ⟨⟨1, stOK, [0], cref, 0, 0, SeqTrack.none, 4⟩, (rings3 up).modHost (fun h =>
      { h with cpls := [⟨1, stOK, [0], cref, 0, 0, SeqTrack.none, 4⟩] }), by decide +kernel⟩,
   ⟨⟨1, stOK, [0], cref, 0, 0, SeqTrack.none, 4⟩, 0x20000000, (rings3 up).modHost (fun h =>
      { h with cpls := [⟨1, stOK, [0], cref, 0, 0, SeqTrack.none, 4⟩] }), by decide +kernel⟩,
   ⟨cref, cmdOf [9] [], withCmd [9] [] up, by decide +kernel⟩,
   ⟨⟨1, stOK, [9], ⟨0, 1, 0⟩, 0, 0, SeqTrack.none, 4⟩, 2, (ringOn 2 ctxC ((rings3 up).modHost (fun h =>
      { h with cpls := [⟨1, stOK, [9], ⟨0, 1, 0⟩, 0, 0, SeqTrack.none, 4⟩] }))).modRing 2 (fun g =>
      { g with hostIdx := 1 }), by decide +kernel⟩,
   ⟨cref, cmdOf [9] [], 0, withCmd [9] [] (uncached [] up), by decide +kernel⟩⟩

/-- States and operands that meet the hypotheses of `Obligations.Transactions`, clause by clause. -/
theorem witness_Transactions :
    (∃ (ref : CmdRef) (c : Cmd) (x : Txn) (s : State), s.fabricReady = true ∧ s.waits ref 0x04 = some c ∧ x =
      ⟨(match c.func with | .pf0 => .pf0 | .pf1 => .pf1), some ref, (wordAt c.words 0).extractLsb' 16 16, bitsOf
      (wordAt c.words 1) 16 2, (wordAt c.words 2).extractLsb' 0 16, bitsOf (wordAt c.words 1) 16 2 == 0, txnEntries
      (bitsOf (wordAt c.words 1) 0 9) c.list⟩ ∧ s.txnChecks x.src x.writes = none)
    ∧ (∃ (ref : CmdRef) (c : Cmd) (st : Nat) (i : Nat) (s : State), s.fabricReady = true ∧ s.waits ref 0x04 = some c
      ∧ s.txnChecks (match c.func with | .pf0 => .pf0 | .pf1 => .pf1) (txnEntries (bitsOf (wordAt c.words 1) 0 9)
      c.list) = some (st, i))
    ∧ (∃ (v : Word) (x : Txn) (s : State), s.fabricReady = true ∧ HIF_STXN_GO_go.get v = 1 ∧ s.flag
      HIF_STXN_STAT_busy = false ∧ s.rd HIF_STXN_CTL_count ≠ 0 ∧ s.rd HIF_STXN_CTL_count ≤ 256 ∧ s.rd
      HIF_STXN_CTL_apply ≤ 2 ∧ x = ⟨.spi, none, 0, s.rd HIF_STXN_CTL_apply, BitVec.ofNat 16 (s.rd
      HIF_STXN_CTL_round), s.rd HIF_STXN_CTL_apply == 0, s.stagedEntries⟩ ∧ (s.putB HIF_STXN_STAT_busy
      true).txnChecks .spi x.writes = none)
    ∧ (∃ (q : Src) (s : State), s.serves q = true ∧ q ≠ .spi)
    ∧ (∃ (v : Word) (st : Nat) (i : Nat) (s : State), s.fabricReady = true ∧ HIF_STXN_GO_go.get v = 1 ∧ s.flag
      HIF_STXN_STAT_busy = false ∧ s.rd HIF_STXN_CTL_count ≠ 0 ∧ s.rd HIF_STXN_CTL_count ≤ 256 ∧ s.rd
      HIF_STXN_CTL_apply ≤ 2 ∧ (s.putB HIF_STXN_STAT_busy true).txnChecks .spi s.stagedEntries = some (st, i) ∧ st <
      256)
    ∧ (∃ (x : Txn) (a : Nat) (d : RegDesc) (s : State) (s1 : State), s.fabricLive = true ∧ s.timingLive = true ∧
      s.noEntry = true ∧ s.host.snaps = [] ∧ s.host.txns = [x] ∧ x.due = true ∧ s.shot.swap = none ∧ s.flt.changes =
      [] ∧ s1 = (s.modHost (fun h => { h with txns := [] })).showTxns ∧ s1.lateChecks x.writes = none ∧ regDescAt a =
      some d ∧ d.cls = .runTime)
    ∧ (∃ (x : Txn) (st : Nat) (i : Nat) (a : Nat) (d : RegDesc) (s : State) (s1 : State), s.fabricLive = true ∧
      s.timingLive = true ∧ s.noEntry = true ∧ s.host.snaps = [] ∧ s.host.txns = [x] ∧ x.due = true ∧ s.shot.swap =
      none ∧ s.flt.changes = [] ∧ s1 = (s.modHost (fun h => { h with txns := [] })).showTxns ∧ s1.lateChecks x.writes
      = some (st, i) ∧ regDescAt a = some d ∧ d.cls = .runTime)
    ∧ (∃ (x : Txn) (w : TxnWrite) (c : Nat) (k : Nat) (s : State) (s1 : State), s.fabricLive = true ∧ s.timingLive =
      true ∧ s.noEntry = true ∧ s.host.snaps = [] ∧ s.host.txns = [x] ∧ x.due = true ∧ s.shot.swap = none ∧
      s.flt.changes = [] ∧ s1 = (s.modHost (fun h => { h with txns := [] })).showTxns ∧ s1.lateChecks x.writes = none
      ∧ c < 32 ∧ k < 16 ∧ x.writes = [w] ∧ w.addr = CRT_RESTORE c ∧ (w.val &&& w.mask).getLsbD k = true ∧ s.role c k
      = 6)
    ∧ (∃ (l : List FmChange) (s : State), s.fabricLive = true ∧ s.timingLive = true ∧ s.noEntry = true ∧ s.host.snaps
      = [] ∧ s.host.txns = [] ∧ s.shot.swap = none ∧ s.flt.changes = l ∧ l ≠ [])
    ∧ (∃ (s : State), s.host.snaps ≠ [])
    ∧ (∃ (s : State), s.applyDue = false)
    ∧ (∃ (s : State), s.fabricReady = true ∧ s.flag HIF_STXN_STAT_busy = true) :=
  ⟨⟨cref, cmdOf [4, 1] [BitVec.ofNat 32 SKM_RATE, 0xFFFFFF, 0x010203, 0], ⟨.pf0, some cref, 0, 0, 0, true,
      [⟨SKM_RATE, 0xFFFFFF, 0x010203, true, 0⟩]⟩, withCmd [4, 1] [BitVec.ofNat 32 SKM_RATE, 0xFFFFFF, 0x010203, 0]
      up, by decide +kernel⟩,
   ⟨cref, cmdOf [4, 1] [0x3, 0xFF, 1, 0], stBAD_ADDRESS, 0, withCmd [4, 1] [0x3, 0xFF, 1, 0] up, by decide +kernel⟩,
   ⟨HIF_STXN_GO_go.set 1 0, ⟨.spi, none, 0, 0, 0, true, [⟨SKM_RATE, 0xFFFFFF, 0x010203, true, 0⟩]⟩, (pokes
      [(HIF_STXN_CTL_count, 1), (HIF_STXN_ADDR_addr 0, SKM_RATE / 4)] up).setReg (HIF_STXN_MASK 0) 0xFFFFFF |>.setReg
      (HIF_STXN_VAL 0) 0x010203, by decide +kernel⟩,
   ⟨.pf1, up, by decide +kernel⟩,
   ⟨HIF_STXN_GO_go.set 1 0, stPIN_CONFLICT, 0xFFFFFFFF, pokes [(HIF_STXN_CTL_count, 1), (HIF_STXN_CTL_apply, 0),
      (HIF_STXN_ADDR_addr 0, SHT_SYNC / 4)] ((((up.setReg (HIF_STXN_MASK 0) 3).setReg (HIF_STXN_VAL 0)
      (SHT_SYNC_mode.set 1 0)).putB (EMT_CFG_en 31) true)), by decide +kernel⟩,
   ⟨⟨.pf0, some cref, 0, 0, 0, true, [⟨SKM_RATE, 0xFFFFFF, 0x010203, true, 0⟩, ⟨SKM_RATE, 0xFF, 0x44, true, 0⟩]⟩,
      SKM_RATE, descOf SKM_RATE, (withCmd [4, 1] [] up).modHost (fun h =>
      { h with txns := [⟨.pf0, some cref, 0, 0, 0, true, [⟨SKM_RATE, 0xFFFFFF, 0x010203, true, 0⟩, ⟨SKM_RATE, 0xFF, 0x44, true, 0⟩]⟩] }),
      (((withCmd [4, 1] [] up).modHost (fun h =>
      { h with txns := [⟨.pf0, some cref, 0, 0, 0, true, [⟨SKM_RATE, 0xFFFFFF, 0x010203, true, 0⟩, ⟨SKM_RATE, 0xFF, 0x44, true, 0⟩]⟩] })).modHost
      (fun h => { h with txns := [] })).showTxns, by decide +kernel⟩,
   ⟨⟨.pf0, some cref, 0, 0, 0, true, [⟨EMT_CFG 31, 1, 1, true, 0⟩, ⟨SHT_SYNC, 0xFFFFFFFF, SHT_SYNC_mode.set 1 0,
      true, 0⟩]⟩, stPIN_CONFLICT, 0xFFFFFFFF, EMT_CFG 31, descOf (EMT_CFG 31), (withCmd [4, 1] [] up).modHost (fun h
      =>
      { h with txns := [⟨.pf0, some cref, 0, 0, 0, true, [⟨EMT_CFG 31, 1, 1, true, 0⟩, ⟨SHT_SYNC, 0xFFFFFFFF, SHT_SYNC_mode.set 1 0, true, 0⟩]⟩] }),
      (((withCmd [4, 1] [] up).modHost (fun h =>
      { h with txns := [⟨.pf0, some cref, 0, 0, 0, true, [⟨EMT_CFG 31, 1, 1, true, 0⟩, ⟨SHT_SYNC, 0xFFFFFFFF, SHT_SYNC_mode.set 1 0, true, 0⟩]⟩] })).modHost
      (fun h => { h with txns := [] })).showTxns, by decide +kernel⟩,
   ⟨⟨.pf0, none, 0, 0, 0, true, [⟨CRT_RESTORE 2, 0xFFFFFFFF, 0x20, true, 0⟩]⟩, ⟨CRT_RESTORE 2, 0xFFFFFFFF, 0x20,
      true, 0⟩, 2, 5, (up.put (TDC_STATE_role 2 5) 6).modHost (fun h =>
      { h with txns := [⟨.pf0, none, 0, 0, 0, true, [⟨CRT_RESTORE 2, 0xFFFFFFFF, 0x20, true, 0⟩]⟩] }), (((up.put
      (TDC_STATE_role 2 5) 6).modHost (fun h =>
      { h with txns := [⟨.pf0, none, 0, 0, 0, true, [⟨CRT_RESTORE 2, 0xFFFFFFFF, 0x20, true, 0⟩]⟩] })).modHost (fun h
      => { h with txns := [] })).showTxns, by decide +kernel⟩,
   ⟨[.retire 2 5 0], up.modFlt (fun x => { x with changes := [.retire 2 5 0] }), by decide +kernel⟩,
   ⟨up.modHost (fun h => { h with snaps := [⟨cref, 0x20, [0]⟩] }), by decide +kernel⟩,
   ⟨up, by decide +kernel⟩,
   ⟨up.putB HIF_STXN_STAT_busy true, by decide +kernel⟩⟩

/-- States and operands that meet the hypotheses of `Obligations.Snapshots`, clause by clause. -/
theorem witness_Snapshots :
    (∃ (ref : CmdRef) (c : Cmd) (s : State), s.fabricReady = true ∧ s.waits ref 0x05 = some c ∧ c.list.all snapAddrOk
      = true)
    ∧ (∃ (ref : CmdRef) (c : Cmd) (s : State), s.fabricReady = true ∧ s.waits ref 0x05 = some c ∧ c.list.all
      snapAddrOk = false)
    ∧ (∃ (x : Snap) (l : List Snap) (c : Cmd) (q : Src) (s : State), s.fabricReady = true ∧ s.noEntry = true ∧
      s.host.snaps = x :: l ∧ s.host.recs.length < 1024 ∧ s.cmd? x.cmd = some c ∧ q =
      (match c.func with | .pf0 => .pf0 | .pf1 => .pf1))
    ∧ (∃ (s : State), s.host.snaps = []) :=
  ⟨⟨cref, cmdOf [5, 1, 0x20] [BitVec.ofNat 32 SKM_RATE], withCmd [5, 1, 0x20] [BitVec.ofNat 32 SKM_RATE] up,
      by decide +kernel⟩,
   ⟨cref, cmdOf [5, 1, 0x20] [3], withCmd [5, 1, 0x20] [3] up, by decide +kernel⟩,
   ⟨⟨cref, 0x20, [SKM_RATE, GLB_EPOCH]⟩, [], cmdOf [5, 2, 0x20] [], .pf0, (withCmd [5, 2, 0x20] [] up).modHost (fun h
      => { h with snaps := [⟨cref, 0x20, [SKM_RATE, GLB_EPOCH]⟩] }), by decide +kernel⟩,
   ⟨up, by decide +kernel⟩⟩

/-- States and operands that meet the hypotheses of `Obligations.RegisterWrites`, clause by clause. -/
theorem witness_RegisterWrites :
    (∃ (q : Src) (a : BitVec 20) (v : Word) (d : RegDesc) (s : State), s.serves q = true ∧ a.toNat % 4 = 0 ∧ a.toNat
      < 0x80000 ∧ regDescAt a.toNat = some d ∧ d.cls = .setup ∧ d.mayWrite q a.toNat = true ∧ s.setupIdle q a.toNat =
      true ∧ d.inRange d.rwBits v = true ∧ isSafCfg a.toNat = false ∧ a.toNat ≠ MOT_CFG ∧ inFamily a.toNat (CRT_FE 0)
      0x1000 32 = none)
    ∧ (∃ (q : Src) (a : BitVec 20) (d : RegDesc) (s : State), s.serves q = true ∧ a.toNat % 4 = 0 ∧ a.toNat < 0x80000
      ∧ regDescAt a.toNat = some d ∧ d.cls = .status ∧ d.mayWrite q a.toNat = true)
    ∧ (∃ (q : Src) (a : BitVec 20) (d : RegDesc) (s : State), s.serves q = true ∧ a.toNat % 4 = 0 ∧ a.toNat < 0x80000
      ∧ regDescAt a.toNat = some d ∧ (d.mayWrite q a.toNat = false ∨ d.cls = .runTime ∨ (d.cls = .setup ∧ s.setupIdle
      q a.toNat = false)))
    ∧ (∃ (q : Src) (a : BitVec 20) (n : Nat) (s : State), s.serves q = true ∧ q ≠ .spi ∧ (n ≠ 4 ∨ a.toNat % 4 ≠ 0))
    ∧ (∃ (q : Src) (a : BitVec 20) (s : State), s.serves q = true ∧ a.toNat % 4 = 0 ∧ a.toNat < 0x80000 ∧ regDescAt
      a.toNat = none)
    ∧ (∃ (q : Src) (s : State), s.serves q = true)
    ∧ (∃ (q : Src) (s : State), s.serves q = false) :=
  ⟨⟨.pf1, BitVec.ofNat 20 SHT_CFG, 0, descOf SHT_CFG, up, by decide +kernel⟩,
   ⟨.pf1, BitVec.ofNat 20 HIF_IRQ_STAT, descOf HIF_IRQ_STAT, up.setReg HIF_IRQ_STAT 0xFF, by decide +kernel⟩,
   ⟨.spi, BitVec.ofNat 20 SKM_RATE, descOf SKM_RATE, up, by decide +kernel⟩,
   ⟨.pf0, BitVec.ofNat 20 SKM_RATE, 2, up, by decide +kernel⟩,
   ⟨.pf0, 0x7FF00, up, by decide +kernel⟩,
   ⟨.pf0, up, by decide +kernel⟩,
   ⟨.pf0, up.putB HIF_LINK_up false, by decide +kernel⟩⟩

/-- States and operands that meet the hypotheses of `Obligations.RegisterReads`, clause by clause. -/
theorem witness_RegisterReads :
    (∃ (q : Src) (a : BitVec 20) (s : State), s.serves q = true ∧ 0x80000 ≤ a.toNat ∧ a.toNat % 8 = 0)
    ∧ (∃ (q : Src) (a : BitVec 20) (s : State), s.serves q = true ∧ 0x80000 ≤ a.toNat ∧ a.toNat % 8 = 4)
    ∧ (∃ (q : Src) (a : BitVec 20) (n : Nat) (s : State), s.serves q = true ∧ q ≠ .spi ∧ (n ≠ 4 ∨ a.toNat % 4 ≠ 0))
    ∧ (∃ (q : Src) (e : List Word) (l : List (List Word)) (s : State), s.serves q = true ∧ s.host.evq = e :: l ∧
      s.host.evqRead < 7)
    ∧ (∃ (q : Src) (e : List Word) (l : List (List Word)) (s : State), s.serves q = true ∧ s.host.evq = e :: l ∧
      s.host.evqRead = 7 ∧ l.length < 32)
    ∧ (∃ (q : Src) (lo : Nat) (hi : Nat) (s : State), s.serves q = true ∧ (lo, hi) ∈ [(SHT_SHOTS_LO, SHT_SHOTS_HI),
      (GLB_UID_LO, GLB_UID_HI), (HIF_CTX_BASE_LO 0, HIF_CTX_BASE_HI 0), (HIF_CTX_BASE_LO 1, HIF_CTX_BASE_HI 1)])
    ∧ (∃ (q : Src) (s : State), s.serves q = true)
    ∧ (∃ (q : Src) (c : CrateId) (s : State), s.serves q = true ∧ s.cratePowered c = true)
    ∧ (∃ (q : Src) (c : CrateId) (s : State), s.serves q = true ∧ s.cratePowered c = false)
    ∧ (∃ (q : Src) (s : State), s.serves q = true ∧ s.timingLive = false)
    ∧ (∃ (s : State), s.fabricLive = true ∧ s.flag HIF_SPI_CFG_evq_en = true ∧ s.host.evq.length < 32)
    ∧ (∃ (ty : Nat) (k : Nat) (i : Nat) (r : RingId) (d : List Word) (s : State) (t : State), s.fabricLive = true ∧
      s.flag HIF_SPI_CFG_evq_en = true ∧ 32 ≤ s.host.evq.length ∧ (t = s.post ty k i d ∨ t = s.postRing ty r d))
    ∧ (∃ (q : Src) (e : List Word) (l : List (List Word)) (s : State), s.serves q = true ∧ s.host.evq = e :: l ∧
      s.host.evqRead = 0) :=
  ⟨⟨.pf0, 0x80000, up, by decide +kernel⟩,
   ⟨.pf0, 0x80004, up, by decide +kernel⟩,
   ⟨.pf0, 0x80002, 4, up, by decide +kernel⟩,
   ⟨.pf1, [1, 2, 3, 4, 5, 6, 7, 8], [], up.modHost (fun h =>
      { h with evq := [[1, 2, 3, 4, 5, 6, 7, 8]], evqRead := 6 }), by decide +kernel⟩,
   ⟨.pf1, [1, 2, 3, 4, 5, 6, 7, 8], [[9]], up.modHost (fun h =>
      { h with evq := [[1, 2, 3, 4, 5, 6, 7, 8], [9]], evqRead := 7 }), by decide +kernel⟩,
   ⟨.spi, SHT_SHOTS_LO, SHT_SHOTS_HI, up.setReg SHT_SHOTS_HI 9, by decide +kernel⟩,
   ⟨.pf0, up.setReg HIF_SPI_STAT 0x010203, by decide +kernel⟩,
   ⟨.pf0, 2, (up.put (cratePwrField 2) 2).setReg (CHU_ECC 2) 0xFFFFFFFF, by decide +kernel⟩,
   ⟨.pf0, 2, up.put (cratePwrField 2) 0, by decide +kernel⟩,
   ⟨.pf0, up.putB GLB_READY_tpll false, by decide +kernel⟩,
   ⟨up.putB HIF_SPI_CFG_evq_en true, by decide +kernel⟩,
   ⟨3, 1, 2, 1, [5], (up.putB HIF_SPI_CFG_evq_en true).modHost (fun h => { h with evq := List.replicate 32 [7] }),
      ((up.putB HIF_SPI_CFG_evq_en true).modHost (fun h => { h with evq := List.replicate 32 [7] })).post 3 1 2 [5],
      by decide +kernel⟩,
   ⟨.pf1, [1, 2, 3, 4, 5, 6, 7, 8], [[9]], up.modHost (fun h => { h with evq := [[1, 2, 3, 4, 5, 6, 7, 8], [9]] }),
      by decide +kernel⟩⟩

/-- States and operands that meet the hypotheses of `Obligations.SpiFrames`, clause by clause. -/
theorem witness_SpiFrames :
    (∃ (bs : List Byte) (s : State), s.fabricReady = true ∧ bs.head? = some 0x02 ∧ 10 ≤ bs.length ∧ crc8 (bs.take 8)
      = bs.getD 8 0 ∧ spiAddr bs < 0x100000)
    ∧ (∃ (bs : List Byte) (s : State), s.fabricReady = true ∧ bs.head? = some 0x02 ∧ 10 ≤ bs.length ∧ crc8 (bs.take
      8) ≠ bs.getD 8 0)
    ∧ (∃ (bs : List Byte) (s : State), s.fabricReady = true ∧ bs.head? = some 0x02 ∧ 10 ≤ bs.length ∧ crc8 (bs.take
      8) = bs.getD 8 0 ∧ 0x100000 ≤ spiAddr bs)
    ∧ (∃ (bs : List Byte) (s : State), s.fabricReady = true ∧ bs.head? ≠ some 0x02 ∧ bs.head? ≠ some 0x03)
    ∧ (∃ (bs : List Byte) (s : State), s.fabricReady = true ∧ bs.head? = some 0x03 ∧ 11 + s.turnaround ≤ bs.length ∧
      crc8 (bs.take 4) = bs.getD 4 0 ∧ spiAddr bs < 0x100000 ∧ spiAddr bs % 4 = 0)
    ∧ (∃ (s : State), s.fabricReady = true)
    ∧ (∃ (bs : List Byte) (s : State), s.fabricReady = true ∧ bs.head? = some 0x02 ∧ bs.length < 10) :=
  ⟨⟨wrFrame [0, 1, 0x20], up, by decide +kernel⟩,
   ⟨[2, 0, 0, 0, 0, 0, 0, 0, 0x55, 0], up, by decide +kernel⟩,
   ⟨wrFrame [0x10, 0, 0], up, by decide +kernel⟩,
   ⟨[7, 0, 0], up, by decide +kernel⟩,
   ⟨rdFrame [0, 0, 0], up, by decide +kernel⟩,
   ⟨up, by decide +kernel⟩,
   ⟨[2, 0, 0], up, by decide +kernel⟩⟩

/-- States and operands that meet the hypotheses of `Obligations.HousekeepingPasses`, clause by clause. -/
theorem witness_HousekeepingPasses :
    (∃ (s : State), s.hkReady = true ∧ s.rd HK_STAT_state = 3 ∧ s.hk.dirty = false ∧ s.hk.urgNow = none)
    ∧ (∃ (s : State), s.hkConverts = true ∧ s.rd HK_STAT_state = 4 ∧ s.hk.dirty = false ∧ s.hk.urgNow = none ∧
      s.hk.urgQ = [] ∧ s.hk.restart = false ∧ entRes s.hk.entry = false ∧ 0 < s.hk.settle ∧ (HK_ENT_wall 0).get
      s.hk.entry = 0)
    ∧ (∃ (s : State), s.hkConverts = true ∧ s.rd HK_STAT_state = 4 ∧ s.hk.dirty = false ∧ s.hk.urgNow = none ∧
      s.hk.urgQ = [] ∧ s.hk.restart = false ∧ entRes s.hk.entry = false ∧ s.hk.settle = 0 ∧ s.hk.second = false ∧
      (HK_ENT_chk 0).get s.hk.entry = 0 ∧ s.hk.valid + 1 < entReps s.hk.entry)
    ∧ (∃ (s : State), s.hkConverts = true ∧ s.rd HK_STAT_state = 4 ∧ s.hk.dirty = false ∧ s.hk.urgNow = none ∧
      s.hk.urgQ = [] ∧ s.hk.restart = false ∧ entRes s.hk.entry = false ∧ s.hk.settle = 0 ∧ s.hk.second = false ∧
      (HK_ENT_chk 0).get s.hk.entry = 0 ∧ s.hk.valid + 1 = entReps s.hk.entry ∧ entSwap s.hk.entry = false ∧ entCurve
      s.hk.entry = 0 ∧ entMode s.hk.entry ≠ 7 ∧ s.hk.cur < 32)
    ∧ (∃ (z : Nat) (v : Nat) (s : State), s.hkReady = true ∧ s.rd HK_STAT_state = 2 ∧ s.hk.dirty = false ∧ s.hk.urgQ
      = [] ∧ s.hk.restart = false ∧ s.hk.cur < 32 ∧ v = s.hkVerdict s.hk.entry z ∧ v ≠ 0)
    ∧ (∃ (z : Nat) (s : State), s.hkReady = true ∧ s.rd HK_STAT_state = 2 ∧ s.hk.dirty = false ∧ s.hk.urgQ = [] ∧
      s.hk.urgNow = none ∧ s.hk.restart = false ∧ s.hkVerdict s.hk.entry z = 0 ∧ (HK_ENT_delay 0).get s.hk.entry ≠ 0)
    ∧ (∃ (s : State), s.fabricLive = true ∧ s.flag GLB_READY_hk = true)
    ∧ (∃ (q : Src) (s : State), s.serves q = true)
    ∧ (∃ (p : Nat) (n : Nat) (s : State), entMode s.hk.entry = 6 ∧ p = (HK_ENT_p 0).get s.hk.entry ∧ n = (HK_ENT_n
      0).get s.hk.entry ∧ 1 ≤ p ∧ p ≠ n + 2 ∧ s.rd HK_STAT_state ≠ 2)
    ∧ (∃ (p : Nat) (n : Nat) (s : State), p = (HK_ENT_p 0).get s.hk.entry ∧ n = (HK_ENT_n 0).get s.hk.entry ∧ p ≠ n ∧
      s.rd HK_STAT_state = 2) :=
  ⟨⟨up.put HK_STAT_state 3, by decide +kernel⟩,
   ⟨(up.put HK_STAT_state 4).modHk (fun h =>
      { h with inConv := true, settle := 2, entry := (HK_ENT_mode 0).set 1 0 }), by decide +kernel⟩,
   ⟨(up.put HK_STAT_state 4).modHk (fun h =>
      { h with inConv := true, sum1 := 7, entry := (HK_ENT_rep 0).set 3 ((HK_ENT_mode 0).set 1 0) }),
      by decide +kernel⟩,
   ⟨(up.put HK_STAT_state 4).modHk (fun h =>
      { h with inConv := true, sum1 := 7, valid := 3, cur := 6, entry := (HK_ENT_rep 0).set 3 ((HK_ENT_mode 0).set 1 0) }),
      by decide +kernel⟩,
   ⟨1, 1, (up.put HK_STAT_state 2).modHk (fun h => { h with cur := 6, entry := (HK_ENT_mode 0).set 4 0 }),
      by decide +kernel, by decide +kernel, by decide +kernel, by decide +kernel, by decide +kernel,
      by decide +kernel, (verdict_low _ _ (by decide +kernel) (by decide +kernel)).symm, by decide⟩,
   ⟨0, (up.put HK_STAT_state 2).modHk (fun h =>
      { h with cur := 6, entry := (HK_ENT_delay 0).set 3 ((HK_ENT_mode 0).set 4 0) }), by decide +kernel,
      by decide +kernel, by decide +kernel, by decide +kernel, by decide +kernel, by decide +kernel, verdict_ok _ _
      (by decide +kernel), by decide +kernel⟩,
   ⟨up, by decide +kernel⟩,
   ⟨.pf0, up, by decide +kernel⟩,
   ⟨3, 7, up.modHk (fun h =>
      { h with exc := 3, entry := (HK_ENT_p 0).set 3 ((HK_ENT_n 0).set 7 ((HK_ENT_mode 0).set 6 0)) }),
      by decide +kernel⟩,
   ⟨3, 7, (up.put HK_STAT_state 2).modHk (fun h => { h with entry := (HK_ENT_p 0).set 3 ((HK_ENT_n 0).set 7 0) }),
      by decide +kernel⟩⟩

/-- States and operands that meet the hypotheses of `Obligations.HousekeepingUrgent`, clause by clause. -/
theorem witness_HousekeepingUrgent :
    (∃ (ref : CmdRef) (c : Cmd) (s : State), s.fabricReady = true ∧ s.waits ref 0x08 = some c ∧ s.hkReady = false)
    ∧ (∃ (ref : CmdRef) (c : Cmd) (s : State), s.fabricReady = true ∧ s.waits ref 0x08 = some c ∧ s.hkReady = true ∧
      4 ≤ s.hkFill)
    ∧ (∃ (ref : CmdRef) (c : Cmd) (k : Nat) (s : State), s.fabricReady = true ∧ s.waits ref 0x08 = some c ∧ s.hkReady
      = true ∧ s.hk.urgQ = [] ∧ k = bitsOf (wordAt c.words 1) 0 5 ∧ entMode (s.reg (HK_ENT k)) ≠ 0 ∧ s.rd
      HK_STAT_state = 0)
    ∧ (∃ (v : Word) (s : State), s.fabricReady = true ∧ s.hkReady = true ∧ HK_CNOW_go.get v = 1 ∧ HK_CNOW_done.get v
      = 0 ∧ HK_CNOW_aborted.get v = 0 ∧ s.flag HK_CNOW_busy = false ∧ s.hk.urgQ = [] ∧ entMode (s.reg (HK_ENT
      (HK_CNOW_entry.get v))) ≠ 0 ∧ s.rd HK_STAT_state = 0)
    ∧ (∃ (q : Src) (v : Word) (s : State), s.serves q = true ∧ q ≠ .spi ∧ HK_CNOW_go.get v = 1)
    ∧ (∃ (s : State), s.hkReady = true ∧ s.flag CHG_RB_CFG_rb_en = true ∧ s.hk.urgNow = none ∧ s.hk.urgQ = [] ∧ s.rd
      HK_STAT_state = 0)
    ∧ (∃ (d : Int) (n : Nat) (s : State), s.hkReady = true ∧ s.hk.urgNow = some (.readback n) ∧ n < 32 ∧ s.rd
      HK_STAT_state = 5 ∧ s.hk.rbChanged = false ∧ s.hk.urgQ = [] ∧ readbackPasses (clampInt (-8388607) 8388607 d)
      s.hk.rbCode = true)
    ∧ (∃ (d : Int) (n : Nat) (s : State), s.hkReady = true ∧ s.hk.urgNow = some (.readback n) ∧ n < 32 ∧ s.rd
      HK_STAT_state = 5 ∧ s.hk.rbChanged = false ∧ s.hk.urgQ = [] ∧ readbackPasses (clampInt (-8388607) 8388607 d)
      s.hk.rbCode = false) :=
  ⟨⟨cref, cmdOf [8, 6] [], (withCmd [8, 6] [] up).putB GLB_READY_hk false, by decide +kernel⟩,
   ⟨cref, cmdOf [8, 6] [], (withCmd [8, 6] [] up).modHk (fun h =>
      { h with urgQ := List.replicate 4 (.convert 1 none) }), by decide +kernel⟩,
   ⟨cref, cmdOf [8, 6] [], 6, (withCmd [8, 6] [] up).put (HK_ENT_mode 6) 1, by decide +kernel⟩,
   ⟨HK_CNOW_go.set 1 (HK_CNOW_entry.set 6 0), up.put (HK_ENT_mode 6) 1, by decide +kernel⟩,
   ⟨.pf0, HK_CNOW_go.set 1 0, up, by decide +kernel⟩,
   ⟨up.putB CHG_RB_CFG_rb_en true, by decide +kernel⟩,
   ⟨671089, 6, (up.put HK_STAT_state 5).modHk (fun h => { h with urgNow := some (.readback 6), rbCode := 100 }),
      by decide +kernel⟩,
   ⟨9000000, 6, (up.put HK_STAT_state 5).modHk (fun h => { h with urgNow := some (.readback 6), rbCode := 100 }),
      by decide +kernel⟩⟩

/-- States and operands that meet the hypotheses of `Obligations.HousekeepingControl`, clause by clause. -/
theorem witness_HousekeepingControl :
    (∃ (q : Src) (s : State), s.serves q = true ∧ s.hkReady = true ∧ s.hk.restart = false ∧ s.rd HK_STAT_state = 4)
    ∧ (∃ (q : Src) (s : State), s.serves q = true ∧ s.hkReady = true ∧ s.hk.restart = true)
    ∧ (∃ (q : Src) (s : State), s.serves q = true ∧ s.hkReady = true ∧ s.hk.restart = false ∧ s.rd HK_STAT_state = 0
      ∧ (∀ j, j < 32 → entMode (s.reg (HK_ENT j)) = 0))
    ∧ (∃ (b : Bool) (s : State), s.fabricReady = true ∧ s.hkCfg HK_CFG_sync_en = 1 ∧ s.hkCfg HK_CFG_sync_pol =
      b.toNat)
    ∧ (∃ (b : Bool) (s : State), (s.hkCfg HK_CFG_sync_en = 0 ∨ s.hkCfg HK_CFG_sync_pol ≠ b.toNat))
    ∧ (∃ (q : Src) (s : State), s.serves q = true)
    ∧ (∃ (s : State), s.fabricLive = true ∧ s.hk.resetting = true ∧ (∀ j, j < 32 → entMode (s.reg (HK_ENT j)) = 0)) :=
  ⟨⟨.pf0, up.put HK_STAT_state 4, by decide +kernel⟩,
   ⟨.pf0, up.modHk (fun h => { h with restart := true }), by decide +kernel⟩,
   ⟨.pf0, pokes ((List.range 32).map (fun j => (HK_ENT_mode j, 0))) up, by decide +kernel⟩,
   ⟨true, up.modHk (fun h => { h with cfg := HK_CFG_sync_en.set 1 (HK_CFG_sync_pol.set 1 0) }), by decide +kernel⟩,
   ⟨true, up.modHk (fun h => { h with cfg := HK_CFG_sync_en.set 1 0 }), by decide +kernel⟩,
   ⟨.pf0, (withCmd [8, 6] [] up).modHk (fun h => { h with urgNow := some (.convert 6 (some cref)) }),
      by decide +kernel⟩,
   ⟨(pokes ((List.range 32).map (fun j => (HK_ENT_mode j, 0))) up).modHk (fun h => { h with resetting := true }),
      by decide +kernel⟩⟩

/-- States and operands that meet the hypotheses of `Obligations.SafetyOutputs`, clause by clause. -/
theorem witness_SafetyOutputs :
    (∃ (o : OutId) (s : State), s.safetyLive = true ∧ (s.out o).phase = .onChk ∧ s.flag (SAF_OUT_STAT_fault o) =
      false ∧ s.flag (SAF_OUT_STAT_drv o) = true)
    ∧ (∃ (o : OutId) (s : State), s.safetyLive = true ∧ s.mayPulse o = true ∧ (∀ p, p < 4 → (s.out p).pulsing = false
      ∧ (p ≠ o.val → (s.out p).pulseDue = false)))
    ∧ (∃ (o : OutId) (p : Nat) (s : State), s.safetyLive = true ∧ s.mayPulse o = true ∧ p < 4 ∧ p ≠ o.val ∧ (s.out
      p).pulsing = true)
    ∧ (∃ (o : OutId) (s : State), s.safetyLive = true ∧ (s.out o).phase = .pulse ∧ (s.out o).okLow = true ∧ s.flag
      (SAF_OUT_STAT_dem o) = true)
    ∧ (∃ (o : OutId) (s : State), s.safetyLive = true ∧ (s.out o).phase = .pulse ∧ (s.out o).okLow = false ∧ s.flag
      (SAF_OUT_STAT_fault o) = false)
    ∧ (∃ (q : Src) (outs : BitVec 4) (o : Nat) (s : State), s.serves q = true ∧ q ≠ .pf0 ∧ s.safetyLive = true ∧ o <
      4 ∧ outs.getLsbD o = true ∧ s.flag (SAF_OUT_STAT_fault o) = true)
    ∧ (∃ (s : State), s.serves .pf0 = true) :=
  ⟨⟨2, (up.putB (SAF_OUT_STAT_drv 2) true).modOut 2 (fun x => { x with phase := .onChk }), by decide +kernel⟩,
   ⟨2, (up.putB (SAF_OUT_STAT_dem 2) true).modOut 2 (fun x => { x with phase := .on }), by decide +kernel⟩,
   ⟨2, 1, ((up.putB (SAF_OUT_STAT_dem 2) true).modOut 2 (fun x => { x with phase := .on })).modOut 1 (fun x =>
      { x with phase := .pulse }), by decide +kernel⟩,
   ⟨2, (up.putB (SAF_OUT_STAT_dem 2) true).modOut 2 (fun x => { x with phase := .pulse, okLow := true }),
      by decide +kernel⟩,
   ⟨2, (up.putB (SAF_OUT_STAT_dem 2) true).modOut 2 (fun x => { x with phase := .pulse }), by decide +kernel⟩,
   ⟨.spi, 6, 2, pokes [(SAF_OUT_STAT_fault 2, 1), (SAF_OUT_STAT_rb 2, 1)] up, by decide +kernel⟩,
   ⟨up, by decide +kernel⟩⟩

/-- States and operands that meet the hypotheses of `Obligations.LaserEnable`, clause by clause. -/
theorem witness_LaserEnable :
    (∃ (i : PairId) (b : Bool) (s : State), s.running = true ∧ s.ownLow i b = false ∧ bitOf (s.safRd
      SAF_LEN_CFG_gate) i = true)
    ∧ (∃ (s : State), s.running = true)
    ∧ (∃ (n : StoId) (i : PairId) (s : State), s.safetyLive = true ∧ (s.sto n).low = true ∧ s.safRd SAF_STO_CFG_pw ≤
      (s.sto n).n ∧ bitOf (s.safRd SAF_LEN_CFG_gate) i = true ∧ s.srcOf i false = some n.val ∧ s.saf.gateA.getLsbD i
      = false)
    ∧ (∃ (s : State), s.running = true)
    ∧ (∃ (s : State), s.safetyLive = true ∧ s.saf.lenAwait = true ∧ s.flag SAF_STAT_len_fault = false)
    ∧ (∃ (s : State), s.safetyLive = true ∧ s.flag SAF_STAT_len_drv = true ∧ s.safFlag SAF_LEN_CFG_proof_h = true)
    ∧ (∃ (q : Src) (s : State), s.serves q = true ∧ q ≠ .pf0 ∧ s.safetyLive = true ∧ s.flag SAF_STAT_len_fault = true
      ∧ s.flag SAF_STAT_len_rb = false)
    ∧ (∃ (q : Src) (s : State), s.serves q = true ∧ q ≠ .pf0 ∧ s.flag SAF_STAT_len_rb = true) :=
  ⟨⟨3, false, safPut SAF_LEN_CFG_gate 8 (up.putB SAF_STAT_len_drv true), by decide +kernel⟩,
   ⟨up.putB SAF_STAT_len_drv true, by decide +kernel⟩,
   ⟨1, 3, (safPut SAF_LEN_CFG_gate 8 (safPut (SAF_IN_CFG_src_a 3) 1 (safPut (SAF_IN_CFG_type 3) 1 ((safOn up).modSto
      1 (fun x => ⟨true, 100⟩))))).modSaf (fun x => { x with gateA := 0 }), by decide +kernel⟩,
   ⟨up.putB SAF_STAT_len_dem true, by decide +kernel⟩,
   ⟨(up.putB SAF_STAT_len_drv true).modSaf (fun x => { x with lenAwait := true }), by decide +kernel⟩,
   ⟨safPut SAF_LEN_CFG_proof_h 8 (up.putB SAF_STAT_len_drv true), by decide +kernel⟩,
   ⟨.pf1, up.putB SAF_STAT_len_fault true, by decide +kernel⟩,
   ⟨.pf1, pokes [(SAF_STAT_len_fault, 1), (SAF_STAT_len_rb, 1)] up, by decide +kernel⟩⟩

/-- States and operands that meet the hypotheses of `Obligations.SafetyInputs`, clause by clause. -/
theorem witness_SafetyInputs :
    (∃ (s : State), s.safetyLive = true)
    ∧ (∃ (i : PairId) (s : State), s.safetyLive = true ∧ s.pairType i ≠ 0 ∧ s.rd (SAF_PAIR_STAT_state i) = 3 ∧
      (s.pair i).both = false ∧ (s.pair i).dis = none ∧ (s.pair i).a.missed = false ∧ (s.pair i).b.missed = false ∧
      (s.pair i).a.crossed = false ∧ (s.pair i).b.crossed = false)
    ∧ (∃ (i : PairId) (s : State), s.safetyLive = true ∧ s.pairType i ≠ 0)
    ∧ (∃ (s : State), s.safetyLive = true ∧ s.safRun = false)
    ∧ (∃ (i : PairId) (s : State), s.safetyLive = true ∧ s.pairType i ≠ 0 ∧ s.rd (SAF_PAIR_STAT_state i) = 0 ∧
      (s.pair i).both = true ∧ s.cycleMet i = true)
    ∧ (∃ (i : PairId) (n : Nat) (s : State), s.safetyLive = true ∧ s.pairType i ≠ 0 ∧ (s.pair i).dis = some n ∧ n <
      10 * s.safRd (SAF_IN_TIM_disc i))
    ∧ (∃ (i : PairId) (s : State), s.safetyLive = true ∧ s.pairType i ≠ 0 ∧ s.safRd (SAF_IN_CFG_rst i) = 1 ∧ s.rd
      (SAF_PAIR_STAT_state i) = 2 ∧ (s.pair i).both = true)
    ∧ (∃ (q : Src) (s : State), s.serves q = true ∧ q ≠ .pf0 ∧ s.safetyLive = true)
    ∧ (∃ (n : StoId) (s : State), s.safetyLive = true ∧ bitOf (s.safRd SAF_STO_CFG_en) n = true ∧ 0 < s.safRd
      SAF_STO_CFG_per ∧ s.saf.frame % (100 * s.safRd SAF_STO_CFG_per) = n * (100 * s.safRd SAF_STO_CFG_per / 4) ∧ (∀
      m, m < 4 → (s.sto m).low = false))
    ∧ (∃ (m : StoId) (s : State), (s.sto m).low = true)
    ∧ (∃ (n : StoId) (s : State), s.safetyLive = true ∧ (s.sto n).low = true ∧ s.safRd SAF_STO_CFG_pw ≤ (s.sto n).n)
    ∧ (∃ (i : PairId) (s : State), s.safetyLive = true ∧ s.pairType i = 3 ∧ (s.pair i).a.raw = false ∧ (s.pair
      i).b.raw = true)
    ∧ (∃ (i : PairId) (s : State), s.safetyLive = true ∧ s.expectsTp i = true ∧ (s.pair i).b.level = true)
    ∧ (∃ (s : State), s.safetyLive = true)
    ∧ (∃ (i : PairId) (p : SafPins) (limit : Nat) (s : State), s.safetyLive = true ∧ s.expectsTp i = true ∧ (s.pair
      i).a.level = true ∧ s.closedPin i false (p.sinA.getLsbD i) = true ∧ limit = 1000 * s.safRd (SAF_IN_CFG_tp_max
      i)) :=
  ⟨⟨up, by decide +kernel⟩,
   ⟨3, safPut SAF_LEN_CFG_len_map 8 (safPut (SAF_OUT_MAP_pairs 1) 8 (safPut (SAF_IN_CFG_type 3) 1 ((safOn up).put
      (SAF_PAIR_STAT_state 3) 3))), by decide +kernel⟩,
   ⟨3, safPut (SAF_IN_CFG_type 3) 1 up, by decide +kernel⟩,
   ⟨pokes [(SAF_OUT_STAT_drv 2, 1), (SAF_OUT_STAT_dem 2, 1)] up, by decide +kernel⟩,
   ⟨3, (safPut (SAF_IN_CFG_type 3) 1 (safOn up)).modPair 3 (fun p =>
      { p with a := { p.a with level := true, sawTest := true }, b := { p.b with level := true, sawTest := true } }),
      by decide +kernel⟩,
   ⟨3, 5, (safPut (SAF_IN_TIM_disc 3) 2 (safPut (SAF_IN_CFG_type 3) 1 (safOn up))).modPair 3 (fun p =>
      { p with dis := some 5 }), by decide +kernel⟩,
   ⟨3, (safPut (SAF_IN_CFG_rst 3) 1 (safPut (SAF_IN_CFG_type 3) 1 ((safOn up).put (SAF_PAIR_STAT_state 3)
      2))).modPair 3 (fun p => { p with a := { p.a with level := true }, b := { p.b with level := true } }),
      by decide +kernel⟩,
   ⟨.pf1, up, by decide +kernel⟩,
   ⟨1, (safPut SAF_STO_CFG_per 4 (safPut SAF_STO_CFG_en 2 up)).modSaf (fun x => { x with frame := 100 }),
      by decide +kernel⟩,
   ⟨2, up.modSto 2 (fun x => { x with low := true }), by decide +kernel⟩,
   ⟨1, (safPut (SAF_IN_CFG_src_a 3) 1 (safPut (SAF_IN_CFG_type 3) 1 ((safOn up).modSto 1 (fun x => ⟨true,
      100⟩)))).modPair 3 (fun p => { p with a := { p.a with level := true, raw := true } }), by decide +kernel⟩,
   ⟨3, (safPut (SAF_IN_CFG_type 3) 3 up).modPair 3 (fun p =>
      { p with a := { p.a with level := true }, b := { p.b with raw := true } }), by decide +kernel⟩,
   ⟨3, (safPut (SAF_IN_CFG_tp_chk 3) 1 (safPut (SAF_IN_CFG_type 3) 3 up)).modPair 3 (fun p =>
      { p with b := { p.b with level := true } }), by decide +kernel⟩,
   ⟨pokes [(SAF_OUT_STAT_drv 2, 1), (SAF_OUT_STAT_dem 2, 1)] up, by decide +kernel⟩,
   ⟨3, ⟨8, 2, 3, true, false⟩, 1000 * (safPut (SAF_IN_CFG_tp_chk 3) 1 (safPut (SAF_IN_CFG_type 3) 3 up)).safRd
      (SAF_IN_CFG_tp_max 3), (safPut (SAF_IN_CFG_tp_chk 3) 1 (safPut (SAF_IN_CFG_type 3) 3 up)).modPair 3 (fun p =>
      { p with a := { p.a with level := true, sinceTp := 700 } }), by decide +kernel⟩⟩

/-- States and operands that meet the hypotheses of `Obligations.SafetyZones`, clause by clause. -/
theorem witness_SafetyZones :
    (∃ (q : Nat) (l : List Nat) (s : State), s.fabricReady = true ∧ s.saf.closing = q :: l ∧ s.saf.sumFifo.length <
      4)
    ∧ (∃ (s : State), s.saf.closing = [])
    ∧ (∃ (m : Summary) (l : List Summary) (s : State), s.safetyLive = true ∧ s.saf.sumFifo = m :: l)
    ∧ (∃ (m : Summary) (l : List Summary) (s : State), s.safetyLive = true ∧ s.saf.sumFifo = m :: l ∧
      s.saf.lastSeq.all (fun x => m.seq == (x + 1) % 256) = true ∧ s.checkBad m (s.pathBFor m) = false)
    ∧ (∃ (m : Summary) (l : List Summary) (s : State), s.safetyLive = true ∧ s.saf.sumFifo = m :: l ∧
      s.saf.lastSeq.all (fun x => m.seq == (x + 1) % 256) = true ∧ s.checkBad m (s.pathBFor m) = true)
    ∧ (∃ (s : State), (s.safetyLive = false ∨ s.saf.sumFifo = []))
    ∧ (∃ (s : State), s.safetyLive = true ∧ s.flag SAF_STAT_cfg_valid = true ∧ s.saf.timeout = false)
    ∧ (∃ (q : Src) (s : State), s.serves q = true ∧ q ≠ .pf0 ∧ s.safetyLive = true) :=
  ⟨⟨4, [5], up.modSaf (fun x => { x with closing := [4, 5] }), by decide +kernel⟩,
   ⟨up, by decide +kernel⟩,
   ⟨⟨4, none, false, [], 0, 0⟩, [], (safPut (SAF_ZN_CH_en 2) 1 (safOn up)).modSaf (fun x =>
      { x with sumFifo := [⟨4, none, false, [], 0, 0⟩] }), by decide +kernel⟩,
   ⟨⟨4, some 5, false, List.replicate 16 ⟨3, 9, 0, 1, true, 0⟩, 0, 0⟩, [], (safPut (SAF_ZN_CH_en 2) 1 (safOn
      up)).modSaf (fun x =>
      { x with sumFifo := [⟨4, some 5, false, List.replicate 16 ⟨3, 9, 0, 1, true, 0⟩, 0, 0⟩], lastSeq := some 3 }),
      by decide +kernel⟩,
   ⟨⟨4, some 5, true, List.replicate 16 ⟨3, 9, 0, 1, true, 0⟩, 0, 0⟩, [], (safPut (SAF_ZN_CH_en 2) 1 (safOn
      up)).modSaf (fun x =>
      { x with sumFifo := [⟨4, some 5, true, List.replicate 16 ⟨3, 9, 0, 1, true, 0⟩, 0, 0⟩], lastSeq := some 3 }),
      by decide +kernel⟩,
   ⟨up, by decide +kernel⟩,
   ⟨safPut (SAF_ZN_CH_en 2) 1 (safOn up), by decide +kernel⟩,
   ⟨.pf1, up.modZone 2 (fun z => { z with dataFault := true }), by decide +kernel⟩⟩

/-- States and operands that meet the hypotheses of `Obligations.SafetyConfiguration`, clause by clause. -/
theorem witness_SafetyConfiguration :
    (∃ (q : Src) (v : Word) (s : State), s.serves q = true ∧ q ≠ .pf0 ∧ s.safetyLive = true ∧ SAF_UNLOCK_key.get v =
      0x5AF1)
    ∧ (∃ (q : Src) (v : Word) (s : State), s.serves q = true ∧ q ≠ .pf0 ∧ s.safetyLive = true ∧ SAF_UNLOCK_key.get v
      = 0xF15A ∧ s.saf.keyBy = some q ∧ s.sealed = false ∧ (s.rd SAF_STAT_state = 1 ∨ s.rd SAF_STAT_state = 2))
    ∧ (∃ (q : Src) (v : Word) (p : List (Nat × Word) × Word) (s : State), s.serves q = true ∧ q ≠ .pf0 ∧ s.safetyLive
      = true ∧ SAF_UNLOCK_key.get v = 0xF15A ∧ s.saf.keyBy = some q ∧ s.otp.saf = some p ∧ SAF_GLB_seal.get
      (sparseGet resetWord p.1 SAF_GLB) ≠ 0)
    ∧ (∃ (q : Src) (s : State), s.serves q = true ∧ q ≠ .pf0 ∧ s.safetyLive = true ∧ s.rd SAF_STAT_state = 3)
    ∧ (∃ (q : Src) (crc : Word) (s : State), s.serves q = true ∧ q ≠ .pf0 ∧ s.safetyLive = true ∧ s.rd SAF_STAT_state
      = 3 ∧ setCrc s.saf.shadow ≠ crc)
    ∧ (∃ (q : Src) (crc : Word) (s : State), s.serves q = true ∧ q ≠ .pf0 ∧ s.safetyLive = true ∧ s.rd SAF_STAT_state
      = 3 ∧ setCrc s.saf.shadow = crc ∧ (s.modSaf (fun x => { x with active := x.shadow })).setConsistent = true)
    ∧ (∃ (q : Src) (s : State), s.serves q = true ∧ q ≠ .pf0 ∧ s.safetyLive = true ∧ s.rd SAF_CTL_otp_state = 0 ∧
      s.rd SAF_STAT_state = 2 ∧ s.saf.burn = none)
    ∧ (∃ (q : Src) (s : State), s.serves q = true ∧ q ≠ .pf0 ∧ s.safetyLive = true ∧ s.rd SAF_CTL_otp_state = 0 ∧
      s.rd SAF_STAT_state = 2 ∧ s.saf.burn = none ∧ s.saf.otpBy = some q)
    ∧ (∃ (p : List (Nat × Word) × Word) (s : State), s.saf.burn = some p)
    ∧ (∃ (s : State), s.running = true ∧ s.rd SAF_STAT_state ≠ 4)
    ∧ (∃ (s : State), s.safetyLive = true ∧ s.safFlag SAF_GLB_rep_en = true ∧ s.fabricLive = true ∧ s.saf.reps = [] ∧
      s.host.recs.length < 1024) :=
  ⟨⟨.pf1, SAF_UNLOCK_key.set 0x5AF1 0, up, by decide +kernel⟩,
   ⟨.pf1, SAF_UNLOCK_key.set 0xF15A 0, (safOn up).modSaf (fun x => { x with keyBy := some .pf1 }),
      by decide +kernel⟩,
   ⟨.pf1, SAF_UNLOCK_key.set 0xF15A 0, ([(SAF_GLB, SAF_GLB_seal.set 1 0)], 6), ((safOn up).modSaf (fun x =>
      { x with keyBy := some .pf1 })).modOtp (fun x =>
      { x with saf := some ([(SAF_GLB, SAF_GLB_seal.set 1 0)], 6) }), by decide +kernel⟩,
   ⟨.spi, up.put SAF_STAT_state 3, by decide +kernel⟩,
   ⟨.pf1, ~~~(setCrc (up.put SAF_STAT_state 3).saf.shadow), up.put SAF_STAT_state 3, by decide +kernel,
      by decide +kernel, by decide +kernel, by decide +kernel, ne_compl _⟩,
   ⟨.pf1, setCrc (up.put SAF_STAT_state 3).saf.shadow, up.put SAF_STAT_state 3, by decide +kernel, by decide +kernel,
      by decide +kernel, by decide +kernel, rfl, by decide +kernel⟩,
   ⟨.pf1, safOn up, by decide +kernel⟩,
   ⟨.pf1, (safOn up).modSaf (fun x => { x with otpBy := some .pf1 }), by decide +kernel⟩,
   ⟨([(4, 5)], 6), up.modSaf (fun x => { x with burn := some ([(4, 5)], 6) }), by decide +kernel⟩,
   ⟨safOn up, by decide +kernel⟩,
   ⟨safPut SAF_GLB_rep_en 1 up, by decide +kernel⟩⟩

/-- States and operands that meet the hypotheses of `Obligations.FaultManager`, clause by clause. -/
theorem witness_FaultManager :
    (∃ (d : Detect) (held : List Nat) (now : Nat) (s : State), s.fabricLive = true ∧ nextDetect s.flt.detq = some d ∧
      s.elemOut d = false ∧ held = sparseGet (fun _ => []) s.flt.strikes ((if 3 ≤ d.code ∧ d.code ≤ 8 then 3 else
      d.code) * 2 ^ 20 + d.elem) ∧ now = s.clk.ftick / 100000 ∧ d.code ≠ 0x02 ∧ (s.rd FLT_CFG_prob = 0 ∨ sparseGet
      (fun _ => 0) s.flt.probation d.elem = 0 ∨ sparseGet (fun _ => 0) s.flt.probation d.elem + s.rd FLT_CFG_prob *
      100000000 < s.clk.ftick + 1) ∧ (held.length = 2 → held.getD 0 0 + s.rd FLT_CFG_win_s * 1000 < now) ∧
      held.length ≤ 2)
    ∧ (∃ (d : Detect) (held : List Nat) (s : State), s.fabricLive = true ∧ nextDetect s.flt.detq = some d ∧ s.elemOut
      d = false ∧ held = sparseGet (fun _ => []) s.flt.strikes ((if 3 ≤ d.code ∧ d.code ≤ 8 then 3 else d.code) * 2 ^
      20 + d.elem) ∧ held.length ≤ 2 ∧ d.elem < 2 ^ 20 ∧ (d.code = 0x02 ∨ (s.rd FLT_CFG_prob ≠ 0 ∧ sparseGet (fun _
      => 0) s.flt.probation d.elem ≠ 0 ∧ s.clk.ftick + 1 ≤ sparseGet (fun _ => 0) s.flt.probation d.elem + s.rd
      FLT_CFG_prob * 100000000) ∨ (held.length = 2 ∧ s.clk.ftick / 100000 ≤ held.getD 0 0 + s.rd FLT_CFG_win_s *
      1000)))
    ∧ (∃ (l : List Detect) (d : Detect), nextDetect l = some d)
    ∧ (∃ (d : Detect) (s : State), s.fabricLive = true ∧ nextDetect s.flt.detq = some d ∧ s.elemOut d = true)
    ∧ (∃ (s : State), s.flt.detq = [])
    ∧ (∃ (q : Src) (v : Word) (s : State), s.serves q = true ∧ q ≠ .pf0 ∧ FLT_CTL_clear.get v = 1)
    ∧ (∃ (s : State), s.serves .pf0 = true)
    ∧ (∃ (q : Src) (s : State), s.serves q = true)
    ∧ (∃ (q : Src) (s : State), s.serves q = true) :=
  ⟨⟨det0, [], 0, up.modFlt (fun x => { x with detq := [det0] }), by decide +kernel⟩,
   ⟨det0, [3, 4], up.modFlt (fun x => { x with detq := [det0], strikes := [(det0.key, [3, 4])] }),
      by decide +kernel⟩,
   ⟨[det0], det0, by decide +kernel⟩,
   ⟨det0, (up.put (CHG_STAT_state 7) 5).modFlt (fun x => { x with detq := [det0] }), by decide +kernel⟩,
   ⟨up, by decide +kernel⟩,
   ⟨.pf1, FLT_CTL_clear.set 1 0, up.modFlt (fun x => { x with log := [⟨1, 2, 3, 4⟩] }), by decide +kernel⟩,
   ⟨up, by decide +kernel⟩,
   ⟨.pf0, up, by decide +kernel⟩,
   ⟨.pf0, up.modFlt (fun x => { x with log := [⟨1, 2, 3, 4⟩] }), by decide +kernel⟩⟩

/-- States and operands that meet the hypotheses of `Obligations.ReturnValues`, clause by clause. -/
theorem witness_ReturnValues :
    ∃ (c : CrateId) (k : ChanId) (x : Bool) (b : Buf) (d : Descr) (m : CloseMark) (y : Cand) (i : Nat) (range : Nat)
      (intensity : Nat) (flags : Nat) (ofs : Int) (a : Acc) (s : State), s.churnLive = true ∧ (s.chan c k).bufIn
      .extract = some x ∧ b = (s.chan c k).buf x ∧ b.dwell = some d ∧ b.mark = some m ∧ s.host.recs.length +
      (s.extract c k x b d m).returns.length ≤ 1024 ∧ (s.extract c k x b d m).returns[i]? = some y ∧ ofs = d.rdInt
      (CHU_OFS_ofs c k) ∧ (range : Int) = max 0 ((2 * ((y.tau - ofs) * 1534937) + 1048576) / 2097152) ∧ a = (match
      y.win with | some n => b.acc (16 + n) | none => b.acc (y.b / 32)) ∧ intensity = (if 0 < a.overs then 4095 else
      if a.usable = 0 then 0 else max 1 (min 4095 ((2 * a.sum + 16 * a.usable) / (32 * a.usable)))) ∧ flags = (decide
      (m.fired < d.reps) || decide (0 < m.noStart) || m.early.isSome).toNat + 2 * b.lost.toNat + 4 * (decide (0 <
      a.overs)).toNat + 8 * (d.subst.getLsbD k).toNat + 16 * (decide (0 < a.settle)).toNat + 32 * y.foreign.toNat +
      64 * y.weather.toNat + 128 * b.dirtyAt.toNat + 256 * y.win.isSome.toNat + 512 * b.sunAt.toNat + 1024 *
      d.degraded.toNat + 2048 * d.safety.toNat + 4096 * (b.nearBlank.any (fun j => decide (((y.b : Int) - 1) * d.wc -
      4096 ≤ j))).toNat :=
  ⟨2, 5, false, bufX, des0, mark0, ret0, 0, 23234, 19, 16, 0, ⟨900, 3, 0, 1⟩, peaked up, by decide +kernel,
    by decide +kernel, by decide +kernel, by decide +kernel, by decide +kernel, empty_fifo _ _ _ _ _ _ _
    (by decide +kernel), peaked_return, by decide +kernel, by decide +kernel, by decide +kernel, by decide +kernel,
    by decide +kernel⟩

/-- States and operands that meet the hypotheses of `Obligations.HallPositions`, clause by clause. -/
theorem witness_HallPositions :
    ∃ (old : BitVec 3) (code : BitVec 3) (held : Nat) (a : Nat) (b : Nat) (s : State), s.timingLive = true ∧ s.rd
      MOT_FILT_n_hall ≤ held ∧ s.motor.code = some old ∧ hallPos old = some a ∧ hallPos code = some b ∧ (b = (a + 1)
      % 6 ∨ a = (b + 1) % 6) :=
  ⟨1, 5, 1000, 0, 5, up.modMotor (fun m => { m with code := some 1 }), by decide +kernel⟩

/-- States and operands that meet the hypotheses of `Obligations.StepRunsFront`, clause by clause. -/
theorem witness_StepRunsFront :
    (∃ (c : Instr) (rest : List Instr) (s : State), s.pending = c :: rest)
    ∧ (∃ (s : State), s.pending = []) :=
  ⟨⟨.powerOn, [.tapReset], { up with pending := [.powerOn, .tapReset] }, by decide +kernel⟩,
   ⟨up, by decide +kernel⟩⟩

/-- States and operands that meet the hypotheses of `Obligations.StepKeepsInvariant`, clause by clause. -/
theorem witness_StepKeepsInvariant :
    ∃ (s : State) (t : State), s.wf = true ∧ step s = .next t :=
  ⟨up, up.idleTick, by decide +kernel, rfl⟩

/-! ## Ill-formed commands are refused -/

theorem ill_selfTest : Instr.wf (.crateStartingDone 2 []) = false := by decide +kernel
theorem ill_retest : Instr.wf (.dwellClose 2 ⟨[(3, [])], []⟩) = false := by decide +kernel
theorem ill_calibrations : Instr.wf (.preWindowOpen 2 []) = false := by decide +kernel
theorem ill_captures : Instr.wf (.startEdge 2 0 (List.replicate 17 ⟨0, 160⟩)) = false := by decide +kernel
theorem ill_capture : Instr.wf (.discriminatorCrossing 2 5 0 ⟨0, 160⟩ none) = false := by decide +kernel
theorem ill_tieBreak : Instr.wf (.tieBreakEnd 2 ⟨[], []⟩) = false := by decide +kernel
theorem ill_ambient : Instr.wf (.ambientFrameEnd [0]) = false := by decide +kernel
theorem ill_tone : Instr.wf (.toneCheckEnd 2 (List.replicate 16 ⟨4096, 0⟩)) = false := by decide +kernel
theorem ill_hall : Instr.wf (.hallCodeChange 1 0) = false := by decide +kernel
theorem ill_index : Instr.wf (.indexEdge true 0) = false := by decide +kernel
theorem ill_frameSync : Instr.wf (.frameSyncEdge true 0) = false := by decide +kernel
theorem ill_monitor : Instr.wf (.windowMonitorChange 2 .low 0 0) = false := by decide +kernel
theorem ill_link : Instr.wf (.hostLinkUp 3 4) = false := by decide +kernel
theorem ill_completion : Instr.wf (.hostReadCompletion (.data [])) = false := by decide +kernel
theorem ill_configSpace : Instr.wf (.configSpaceWrite .pf0 ⟨true, true, true, false, 50, 100, 512, 0, 0, 0, ⟨0, 0, 0, 0, 0⟩⟩) = false := by decide +kernel
theorem ill_write : Instr.wf (.registerWrite .pf0 0 3 0) = false := by decide +kernel
theorem ill_window : Instr.wf (.diagWindowRead .pf0 ⟨4, 4, .clean⟩) = false := by decide +kernel
theorem ill_low : Instr.wf (.loRegisterRead .pf0 ⟨4, 3, .clean⟩) = false := by decide +kernel
theorem ill_readClear : Instr.wf (.rcFieldRead .pf0 ⟨4, 4, .corrected⟩) = false := by decide +kernel
theorem ill_spiWrite : Instr.wf (.spiWriteFrame [2, 0]) = false := by decide +kernel
theorem ill_spiRead : Instr.wf (.spiReadFrame [3, 0] ⟨true, .clean⟩) = false := by decide +kernel
theorem well_write : Instr.wf (.registerWrite .pf0 0 4 0) = true := by decide +kernel

/-- No row of the table has bits. -/
theorem test_noWord (n w : Nat) : decodeTableWord n w = none := rfl

/-! ## The manual's worked examples -/

/-- The slice of the example under R96: C(30) = 29.71 and C(45) = 44.62. -/
def slice96 : Slice := { Slice.reset with
  width := List.replicate 29 3988 ++ [3992, 4096] ++ List.replicate 13 4070 ++ [4066, 4096] }
/-- That slice in crate 2, with p_est 126.00 and ins_est 14.00. -/
def state96 : State := (pokes [(TDC_CAL_p_est 2 5, 32256), (TDC_CAL_ins_est 2 5, 3584)] up).setSlice 2 5 slice96

/-- Example under R96: the start is stamped at 4,132.25 LSB, the stop at 12,682.75 LSB, the interval is 8,551 LSB. -/
theorem test_stamps : state96.stamp 2 5 ⟨52, 30⟩ = 66116 ∧ state96.stamp 2 5 ⟨159, 45⟩ = 202924
    ∧ (intervalOf (202924 - 66116)).1 = 8551 := by decide +kernel

/-- The table of "Autoranging worked through", events 16, 17, 33 and 34. -/
theorem test_autorange : rawCode 640000 32000 = 20 ∧ autorange 3 15 3 20 false = (2, 0) ∧ autorange 2 0 2 80 false = (2, 1)
    ∧ autorange 1 0 1 320 false = (1, 0) ∧ rawCode 12000000 8000 = 1023 ∧ overRange 12000000 8000 = true
    ∧ autorange 1 0 2 1023 true = (3, 0) := by decide +kernel

/-- The dither of the example under R140: an upper half of 40,000 and D = 1,536 give 339 LSB. -/
theorem test_dither : ditherValue 0x9C400000 1536 = 339 := by decide +kernel

/-- The entry of "A shot told step by step". -/
theorem test_entry : decodeEntries 1 [0x05EB8500, 0x0005BBBB, 0x000A01A0, 0x01280010]
      = [⟨0x05EB8500, 0x0005BBBB, 0x000A01A0, 0x01280010⟩]
    ∧ (⟨0x05EB8500, 0x0005BBBB, 0x000A01A0, 0x01280010⟩ : Entry).emitterList = [3, 11, 19, 27] := by decide +kernel

/-- The same entry's fields. -/
theorem test_entryFields : (⟨0x05EB8500, 0x0005BBBB, 0x000A01A0, 0x01280010⟩ : Entry).trigVal = 387973
    ∧ (⟨0x05EB8500, 0x0005BBBB, 0x000A01A0, 0x01280010⟩ : Entry).reps = 5
    ∧ (⟨0x05EB8500, 0x0005BBBB, 0x000A01A0, 0x01280010⟩ : Entry).level = 2
    ∧ (⟨0x05EB8500, 0x0005BBBB, 0x000A01A0, 0x01280010⟩ : Entry).safety = true := by decide +kernel

/-- The example under R189: 470 pF, ratio 64 and code 625 give 376 nJ. -/
theorem test_energy : (pokes [(EYE_CAP_cap 3, 4700), (EYE_CAP_ratio 3, 64)] up).shotEnergy 3 625 = 376 := by decide +kernel

/-- The example under R227: two pole pairs, segment 3, 100,000 ticks after the edge. -/
theorem test_angle : ((pokes [(MOT_CFG_pp, 1), (MOT_STATUS_seg, 3), (MOT_STATUS_state, 3), (MOT_PERIOD_period, 333333)]
    up).modClk (fun k => { k with tick := 100000 })).rawAngle = 4613734 := by decide +kernel

/-- The example under R239: an error of 50 and a gain of 32 give 1,124 ticks. -/
theorem test_serr : (outState (exec .serrPwmPeriod (pokes [(MOT_SERR_err, 50), (MOT_SERR_CFG_gain, 32)] up))).rd MOT_SERR_high
    = 1124 := by decide +kernel

/-- The confidence, the range and the intensity of "A kerbside dwell from events to a record". -/
theorem test_return : confOf 95 3 = 35 ∧ rangeOf 136827 172 = 200040 ∧ (⟨36000, 6, 0, 0⟩ : Acc).intensity = 375
    ∧ Acc.zero.take { evt0 with code := 150 } (Evt.charge { evt0 with code := 150 } false) = ⟨6000, 1, 0, 0⟩ := by
  decide +kernel

/-- The record words of "Worked through: a threshold change in column 37". -/
theorem test_point : pointWords 200040 184 37 0 0x100 35 17934 0x012F 1000 375 0x2F
    = [0xB8030D68, 0x23080025, 0x012F460E, 0xF17703E8] := by decide +kernel

/-- The Skimmer of the kerbside unit: a = 40,000 gives a threshold target of 44, 655,360 gives 96 and a bias target of 10. -/
theorem test_skimmer : (pokes [(SKM_CFG_thr_en, 1), (SKM_CFG_bias_en, 1), (SKM_THR_LAW_knee, 500), (SKM_THR_LAW_gain, 4),
      (SKM_RATE_dmax, 96)] up).thrTarget 40000 = 44
    ∧ (pokes [(SKM_CFG_thr_en, 1), (SKM_THR_LAW_knee, 500), (SKM_THR_LAW_gain, 4), (SKM_RATE_dmax, 96)] up).thrTarget 655360 = 96
    ∧ (pokes [(SKM_CFG_bias_en, 1), (SKM_BIAS_LAW_bknee, 300000), (SKM_BIAS_LAW_bgain, 2), (SKM_LIM_bmax, 24)]
      up).biasTarget 655360 = 10 := by decide +kernel

/-- Its record ambient value for a = 40,000 is 184. -/
theorem test_ambient : { Chan.reset with lastA := some (40000, false) }.ambientValue = 184 := by decide +kernel

/-- The context word of ring 0x0010 (Host interface): class 1, 2^20 units, vector 2, interrupts on, 4,096 records or 250 µs. -/
theorem test_context : ctxClass [0x08020141] = 1 ∧ ctxSize [0x08020141] = 2 ^ 20 ∧ ctxVector [0x08020141] = 2
    ∧ ctxIrqEn [0x08020141] = true ∧ ctxModCount [0x08020141, 0x10000000] = 4096
    ∧ ctxModTime [0x08020141, 0x10000000, 0xFA] = 250 := by decide +kernel

/-- The entry word 0x6882_6621 of the Housekeeping chapter. -/
theorem test_hkEntry : entMode 0x68826621 = 6 ∧ entSwap 0x68826621 = true ∧ entCurve 0x68826621 = 2
    ∧ entSettle 0x68826621 = 3 ∧ entReps 0x68826621 = 1 ∧ (HK_ENT_exc 0).get 0x68826621 = 4
    ∧ (HK_ENT_delay 0).get 0x68826621 = 2 := by decide +kernel

/-- The log entry of "a slice fails and comes back": words 0x3013_1101 and 0x0000_0063. -/
theorem test_logEntry : ((up.put FLT_LOG_STAT_boot 3).logWords 0x01 1 1 19 6 3 0).w0 = 0x30131101
    ∧ ((up.put FLT_LOG_STAT_boot 3).logWords 0x01 1 1 19 6 3 0).w2 = 0x00000063 := by decide +kernel

/-- The diagnostic read of the Register map chapter: bin 197 of channel 5 stands in the upper half of the word at 0xA_5188. -/
theorem test_diagWindow : ((outState (exec (.diagWindowRead .spi ⟨0xA5188, 4, .clean⟩)
    (up.setBankHalf 2 (coarseAt 5 false 197) 9))).req .spi).rdata = 0x00090000 := by decide +kernel

/-- R402: the eighth read removes the event. -/
theorem test_eventQueue : (outState (exec (.eventQueueRead .pf1)
    (up.modHost (fun h => { h with evq := [[1, 2, 3, 4, 5, 6, 7, 8]], evqRead := 7 })))).host.evq = [] := by decide +kernel

/-- R631: IDCODE. -/
theorem test_idcode : (outState (exec .jtagIdcode up)).tap.dr = 0x25120B67 := by decide +kernel

/-- R126 and R151: a table of one entry is loaded into an idle engine with an immediate swap, and it is then active. -/
theorem test_load : (outState (exec (.loadShotTable cref)
    (withCmd [1, 0x10001] [257, 0xA00, 320, 0x01280010] up))).activeBank = [entD] := by decide +kernel

/-- A step on a queue of one command leaves an empty queue. -/
theorem test_step : (outState (step { up with pending := [.jtagIdcode] })).pending = [] := by decide +kernel

/-- Every ball of R629's table that carries a CMOS or LVDS signal, but the port's own, has its cell. -/
theorem test_boundary : boundaryBalls.length = boundaryCells ∧ boundaryBalls.Nodup := by decide +kernel

/-- R449: 1.25 mV in mode VOLT_G64 is D = 536,871; four-wire leads drive p − 1 and n + 1. -/
theorem test_code : hkCode 3 1250000000 0 = 536871 ∧ hkDrives ((HK_ENT_p 0).set 3 ((HK_ENT_n 0).set 7 ((HK_ENT_mode 0).set 6 0)))
    false = [⟨2, false, true⟩, ⟨8, false, false⟩] := by decide +kernel

/-- The worked example of the Housekeeping chapter: D = 303,896 with Rref 2,000.00 Ω and Pt1000 is 41.0004 °C and reads 41,000. -/
theorem test_pt1000 : ptValue 303896 200000 1000 = ⟨41000, false, false, true, true⟩ := by decide +kernel

end Sys2Proof.Tests
end

section
/-! PROOFS. Direct register writes (spec/15 R606 to R610, spec/09 R358, spec/10 R440): what a fault-log entry and a refused write
leave behind, one equation for each way a direct write goes, and the obligation `Obligations.RegisterWrites`. -/

namespace Sys2Proof.Machine

variable {s : State} {q : Src} {a : Nat} {v : Word} {d : RegDesc}

/-! ## Serving, posting, logging -/

/-- A requester is served only while the fabric domain runs. -/
theorem State.fabricLive_of_serves (h : s.serves q = true) : s.fabricLive = true := by
  cases q <;> simp only [State.serves, State.fabricReady, Bool.and_eq_true] at h
  case pf0 => exact h.1.1.1
  case pf1 => exact h.1.1.1
  case spi => exact h.1

/-- Posting an event leaves the fault manager alone. -/
@[simp] theorem State.flt_post {typ kind index : Nat} {data : List Word} : (s.post typ kind index data).flt = s.flt :=
  (ev_post (L := [.regs, .host]) (by decide) (by decide) ev_refl).1 .flt (by decide)

/-- While the fabric domain runs, logging appends the entry's words to the fault log, behind what has room (R572). -/
theorem State.faultLog_log {code cls kind index sub strikes value : Nat} (h : s.fabricLive = true) :
    (s.log code cls kind index sub strikes value).flt.log
      = logRoom s.flt.log ++ [s.logWords code cls kind index sub strikes value] := by
  unfold State.log
  rw [if_pos h]
  simp [State.putLog, State.modFlt]

/-- The low byte of a log entry's first word is its code (R571). -/
theorem State.logWords_code {code cls kind index sub strikes value : Nat} (h : code < 256) :
    (s.logWords code cls kind index sub strikes value).w0.toNat % 256 = code := by
  simp only [State.logWords, BitVec.toNat_ofNat]
  omega

/-! ## Refused writes (R440, R446) -/

/-- GLB_WR_REFUSE keeps what the refusal recorded in it through the SPI count and the log entry that follow. -/
theorem State.rd_refuseWrite {f : FRef} (hf : f.addr = GLB_WR_REFUSE) :
    (s.refuseWrite q a).rd f
      = (((s.put GLB_WR_REFUSE_src (srcIdx q)).bump GLB_WR_REFUSE_ct 1).put GLB_WR_REFUSE_addr (a / 4)).rd f := by
  unfold State.refuseWrite
  rw [rd_log (by rw [hf]; decide)]
  unfold doIf
  split
  · exact State.rd_put_apart (Or.inl (by rw [hf]; decide))
  · rfl

/-- A refused write records the address of its word. -/
theorem State.rd_refuseWrite_addr (ha : a < 0x80000) : (s.refuseWrite q a).rd GLB_WR_REFUSE_addr = a / 4 := by
  rw [State.rd_refuseWrite rfl, State.rd_put_same (by decide)]
  exact Nat.mod_eq_of_lt (by simp only [GLB_WR_REFUSE_addr]; omega)

/-- A refused write records its requester. -/
theorem State.rd_refuseWrite_src : (s.refuseWrite q a).rd GLB_WR_REFUSE_src = srcIdx q := by
  rw [State.rd_refuseWrite rfl, State.rd_put_apart (Or.inr (by decide)), State.bump, State.rd_put_apart (Or.inr (by decide)),
    State.rd_put_same (by decide)]
  cases q <;> rfl

/-- A refused write counts, up to the counter's largest value. -/
theorem State.rd_refuseWrite_ct :
    (s.refuseWrite q a).rd GLB_WR_REFUSE_ct = min (s.rd GLB_WR_REFUSE_ct + 1) (2 ^ GLB_WR_REFUSE_ct.width - 1) := by
  rw [State.rd_refuseWrite rfl, State.rd_put_apart (Or.inr (by decide)), State.bump, State.rd_put_same (by decide),
    State.rd_put_apart (Or.inr (by decide))]
  exact Nat.mod_eq_of_lt (by simp only [GLB_WR_REFUSE_ct]; omega)

/-- A refused write changes registers, the host interface and the fault log alone. -/
theorem State.onlyChanges_refuseWrite : OnlyChanges [.regs, .host, .flt] s (s.refuseWrite q a) :=
  (ev_refuseWrite (by decide) (by decide) (by decide) ev_refl).1

theorem State.onlyChanges_setReg : OnlyChanges [.regs] s (s.setReg a v) := (ev_setReg (by decide) ev_refl).1

theorem State.onlyRegs_setReg : OnlyRegs [a] s (s.setReg a v) := regs_setReg (List.mem_singleton.2 rfl) onlyRegs_refl

/-! ## The ways of a direct write (R608) -/

theorem State.busWrite_of_regDescAt_none (ha : a < 0x80000) (hd : regDescAt a = none) : s.busWrite q a v = s := by
  simp [State.busWrite, ha, hd]

/-- A status register that the source may write loses the RW1C bits written as 1. -/
theorem State.busWrite_status (ha : a < 0x80000) (hd : regDescAt a = some d) (hc : d.cls = .status)
    (hw : d.mayWrite q a = true) : s.busWrite q a v = s.setReg a (s.reg a &&& ~~~(v &&& d.w1cBits)) := by
  simp [State.busWrite, ha, hd, hw, hc]

/-- A write is refused where its source may not write, and by a run-time register and a setup register of a busy block. -/
theorem State.busWrite_refused (hd : regDescAt a = some d)
    (h : d.mayWrite q a = false ∨ d.cls = .runTime ∨ (d.cls = .setup ∧ s.setupIdle q a = false)) :
    s.busWrite q a v = s.refuseWrite q a := by
  by_cases hw : d.mayWrite q a = true
  · obtain hn | hc | ⟨hc, hi⟩ := h
    · rw [hw] at hn; cases hn
    · simp [State.busWrite, hd, hw, hc]
    · simp [State.busWrite, hd, hw, hc, hi]
  · simp [State.busWrite, hd, hw]

/-- A setup register that belongs to no block with a write of its own takes the RW bits. -/
theorem State.setupWrite_plain (hs : isSafCfg a = false) (hm : a ≠ MOT_CFG) (hf : inFamily a (CRT_FE 0) 0x1000 32 = none) :
    s.setupWrite q d a v = s.setReg a ((s.reg a &&& ~~~ d.rwBits) ||| (v &&& d.rwBits)) := by
  simp [State.setupWrite, RegDesc.merge, hs, hm, hf]

/-- A setup register of an idle block takes a write within its fields' ranges. -/
theorem State.busWrite_setup (ha : a < 0x80000) (hd : regDescAt a = some d) (hc : d.cls = .setup) (hw : d.mayWrite q a = true)
    (hi : s.setupIdle q a = true) (hr : d.inRange d.rwBits v = true) : s.busWrite q a v = s.setupWrite q d a v := by
  simp [State.busWrite, ha, hd, hw, hc, hi, hr]

/-! ## The commands -/

/-- A write of one aligned word by a requester that is served is a direct write. -/
theorem exec_registerWrite_aligned {addr : BitVec 20} (hq : s.serves q = true) (ha : addr.toNat % 4 = 0) :
    exec (.registerWrite q addr 4 v) s = .next (s.busWrite q addr.toNat v) := by
  simp [exec, execRegisterWrite, hq, ha]

/-- A write over BAR0 that is not one aligned word is logged with code 0x31 and does nothing else (R358). -/
theorem exec_registerWrite_malformed {addr : BitVec 20} {n : Nat} (hq : s.serves q = true) (hp : q ≠ .spi)
    (hn : n ≠ 4 ∨ addr.toNat % 4 ≠ 0) :
    exec (.registerWrite q addr n v) s = .next (s.log 0x31 3 6 (srcIdx q) 0 0 (addr.toNat / 4)) := by
  simp only [exec, execRegisterWrite, hq, doIf_true, if_pos (And.intro hp hn)]

theorem exec_registerWrite_unserved {addr : BitVec 20} {n : Nat} (hq : s.serves q = false) :
    exec (.registerWrite q addr n v) s = .next s := by
  simp [exec, execRegisterWrite, hq]

theorem exec_glbDiagPageWrite (hq : s.serves q = true) : exec (.glbDiagPageWrite q v) s = .next (s.pageWrite q v) := by
  simp [exec, execGlbDiagPageWrite, hq]

/-- Settles O43: each clause is one way of a direct write. -/
theorem registerWrites : Obligations.RegisterWrites := by
  unfold Obligations.RegisterWrites
  refine ⟨?setup, ?status, ?refused, ?malformed, ?unmapped, ?page, ?unserved⟩
  case setup =>
    intro q a v d s hq h4 ha hd hc hw hi hr hs hm hf
    exact ⟨_, by rw [exec_registerWrite_aligned hq h4, State.busWrite_setup ha hd hc hw hi hr, State.setupWrite_plain hs hm hf],
      State.reg_setReg_same, State.onlyRegs_setReg, State.onlyChanges_setReg⟩
  case status =>
    intro q a v d s hq h4 ha hd hc hw
    exact ⟨_, by rw [exec_registerWrite_aligned hq h4, State.busWrite_status ha hd hc hw],
      State.reg_setReg_same, State.onlyRegs_setReg, State.onlyChanges_setReg⟩
  case refused =>
    intro q a v d s hq h4 ha hd h
    exact ⟨_, by rw [exec_registerWrite_aligned hq h4, State.busWrite_refused hd h], State.rd_refuseWrite_addr ha,
      State.rd_refuseWrite_src, State.rd_refuseWrite_ct, regs_refuseWrite (fun _ hb => hb) onlyRegs_refl,
      State.onlyChanges_refuseWrite⟩
  case malformed =>
    intro q a n v s hq hp hn
    exact ⟨_, _, exec_registerWrite_malformed hq hp hn, State.faultLog_log (State.fabricLive_of_serves hq),
      State.logWords_code (by decide), regs_log (fun _ hb => hb) onlyRegs_refl⟩
  case unmapped =>
    intro q a v s hq h4 ha hd
    rw [exec_registerWrite_aligned hq h4, State.busWrite_of_regDescAt_none ha hd]
  case page =>
    intro q v s hq
    exact ⟨_, exec_glbDiagPageWrite hq, State.req_modReq_same, fun p hp => State.req_modReq_ne hp.symm,
      (ev_modReq (by decide) ev_refl).1⟩
  case unserved =>
    intro q a n v s hq
    exact exec_registerWrite_unserved hq

end Sys2Proof.Machine
end

section
/-! PROOFS. What an operation leaves of crates, channels, bank bytes and fields where it leaves their part alone, and the chaining
rules of `OnlyCrates` and `OnlyChans`. -/

namespace Sys2Proof.Machine

variable {L : List Part} {s t u : State}

/-! ## Elements of the parts that an operation leaves alone -/

theorem OnlyChanges.crate (h : OnlyChanges L s t) (hp : Part.crates ∉ L) (c : Nat) : t.crate c = s.crate c :=
  congrArg (fun m => sparseGet (fun _ => Crate.reset) m c) (h .crates hp)

theorem OnlyChanges.chan (h : OnlyChanges L s t) (hp : Part.chans ∉ L) (c k : Nat) : t.chan c k = s.chan c k :=
  congrArg (fun m => sparseGet (fun _ => Chan.reset) m (16 * c + k)) (h .chans hp)

theorem OnlyChanges.bankByte (h : OnlyChanges L s t) (hp : Part.bank ∉ L) (c a : Nat) : t.bankByte c a = s.bankByte c a :=
  congrArg (fun m => sparseGet (fun _ => 0) m (65536 * c + a % 65536)) (h .bank hp)

theorem OnlyChanges.onlyCrates (h : OnlyChanges L s t) (hp : Part.crates ∉ L) {l : List Nat} : OnlyCrates l s t :=
  fun c _ => h.crate hp c

theorem OnlyChanges.onlyRegs (h : OnlyChanges L s t) (hp : Part.regs ∉ L) {l : List Nat} : OnlyRegs l s t :=
  fun a _ => congrArg (fun m => sparseGet resetWord m a) (h .regs hp)

theorem OnlyChanges.onlyChans (h : OnlyChanges L s t) (hp : Part.chans ∉ L) {l : List (Nat × Nat)} : OnlyChans l s t :=
  fun c k _ _ => h.chan hp c k

/-! ## Chaining -/

/-- What a state meets, and what f keeps, the state meets after f for every element of a list. -/
theorem forAll_induction {α : Type} {P : State → Prop} {l : List α} {f : State → α → State} (h : P s)
    (hf : ∀ u x, x ∈ l → P u → P (f u x)) : P (forAll l f s) :=
  List.foldlRecOn (motive := P) l f h (fun u hu x hx => hf u x hx hu)

/-- What a state meets, and what f keeps, the state meets after f where f happens. -/
theorem doIf_induction {P : State → Prop} {b : Bool} {f : State → State} (h : P s) (hf : P s → P (f s)) :
    P (doIf b f s) := by
  cases b
  · exact h
  · exact hf h

theorem OnlyCrates.trans {l : List Nat} (h : OnlyCrates l s t) (g : OnlyCrates l t u) : OnlyCrates l s u :=
  fun c hc => (g c hc).trans (h c hc)

theorem OnlyChans.trans {l : List (Nat × Nat)} (h : OnlyChans l s t) (g : OnlyChans l t u) : OnlyChans l s u :=
  fun c k hk hc => (g c k hk hc).trans (h c k hk hc)

theorem onlyCrates_modCrate {c : Nat} {f : Crate → Crate} : OnlyCrates [c] s (s.modCrate c f) :=
  fun _ he => State.crate_modCrate_ne (fun h => he (List.mem_singleton.2 h.symm))

theorem onlyChans_modChan {l : List (Nat × Nat)} {c k : Nat} {f : Chan → Chan} (hk : k < 16) (hl : (c, k) ∈ l) :
    OnlyChans l s (s.modChan c k f) := by
  intro d j hj hd
  refine State.chan_modChan_ne (fun h => hd ?_)
  obtain ⟨rfl, rfl⟩ : c = d ∧ k = j := by omega
  exact hl

end Sys2Proof.Machine
end

section
/-! PROOFS. The close of a dwell (spec/02 R31, spec/03 R102): its marker goes into the FIFO behind its events, what else the
boundary does leaves the FIFO and the crate's dwells alone, and the obligation `Obligations.DwellCloses`. -/

namespace Sys2Proof.Machine

variable {s t u : State} {c : Nat}

/-! ## Operations that leave the crate's dwells alone -/

/-- From s to t crate c kept its FIFO, its dwells and the markers that its closed windows owe, and no other crate changed. -/
structure KeepsDwells (c : Nat) (s t : State) : Prop where
  fifo : (t.crate c).fifo = (s.crate c).fifo
  dwell : (t.crate c).dwell = (s.crate c).dwell
  dwellNext : (t.crate c).dwellNext = (s.crate c).dwellNext
  closing : (t.crate c).closing = (s.crate c).closing
  others : OnlyCrates [c] s t

theorem KeepsDwells.trans (h : KeepsDwells c s t) (g : KeepsDwells c t u) : KeepsDwells c s u where
  fifo := g.fifo.trans h.fifo
  dwell := g.dwell.trans h.dwell
  dwellNext := g.dwellNext.trans h.dwellNext
  closing := g.closing.trans h.closing
  others := h.others.trans g.others

theorem keepsDwells_of_crates (h : t.crates = s.crates) : KeepsDwells c s t := by
  have same : ∀ e, t.crate e = s.crate e := fun e => congrArg (fun m => sparseGet (fun _ => Crate.reset) m e) h
  exact ⟨by rw [same], by rw [same], by rw [same], by rw [same], fun e _ => same e⟩

theorem OnlyChanges.keepsDwells {L : List Part} (h : OnlyChanges L s t) (hp : Part.crates ∉ L) : KeepsDwells c s t :=
  keepsDwells_of_crates (h .crates hp)

theorem keepsDwells_refl : KeepsDwells c s s := ⟨rfl, rfl, rfl, rfl, fun _ _ => rfl⟩

theorem keepsDwells_modCrate {f : Crate → Crate} (h1 : (f (s.crate c)).fifo = (s.crate c).fifo)
    (h2 : (f (s.crate c)).dwell = (s.crate c).dwell) (h3 : (f (s.crate c)).dwellNext = (s.crate c).dwellNext)
    (h4 : (f (s.crate c)).closing = (s.crate c).closing) : KeepsDwells c s (s.modCrate c f) := by
  refine ⟨?_, ?_, ?_, ?_, onlyCrates_modCrate⟩
  all_goals rw [State.crate_modCrate_same]; assumption

theorem keepsDwells_shadowCompare {d : Dwell} : KeepsDwells c s (s.shadowCompare c d) := by
  unfold State.shadowCompare
  dsimp only
  split
  · exact keepsDwells_refl
  · refine doIf_induction keepsDwells_refl (fun _ => ?_)
    split
    · exact (ev_detect (L := [.regs, .flt]) (by decide) (ev_put (by decide) ev_refl)).1.keepsDwells (by decide)
    · exact (keepsDwells_modCrate rfl rfl rfl rfl).trans
        ((ev_detect (L := [.flt]) (by decide) ev_refl).1.keepsDwells (by decide))

theorem keepsDwells_newTables : KeepsDwells c s (s.newTables c) :=
  (ev_newTables (L := [.regs, .slices]) (by decide) (by decide) ev_refl).1.keepsDwells (by decide)

theorem keepsDwells_endCal : KeepsDwells c s (s.endCal c) := by
  unfold State.endCal
  split
  · exact keepsDwells_refl
  · rename_i i _
    have roles : Evolves [.regs] s (doIf (s.role c 16 == 3) (fun t => t.setRole c 16 1 0)
        (doIf (decide (i < 16) && s.role c i == 7) (fun t => t.setRole c i 0 i) s)) :=
      ev_doIf (fun _ h => ev_setRole (by decide) h) (ev_doIf (fun _ h => ev_setRole (by decide) h) ev_refl)
    exact (roles.1.keepsDwells (by decide)).trans (keepsDwells_modCrate rfl rfl rfl rfl)

theorem keepsDwells_settleRoles : KeepsDwells c s (s.settleRoles c) :=
  doIf_induction keepsDwells_refl (fun _ => keepsDwells_endCal)

theorem keepsDwells_endRetest {m : RetestMeas} : KeepsDwells c s (s.endRetest c m) := by
  unfold State.endRetest
  split
  · exact keepsDwells_refl
  · rename_i r _
    split
    · have tested : KeepsDwells c s (s.testAreas c r) :=
        (ev_testAreas (L := [.bank]) (by decide) ev_refl).1.keepsDwells (by decide)
      have outcome : KeepsDwells c (s.testAreas c r) ((s.testAreas c r).modCrate c (fun g =>
          { g with retest := some (s.retestOutcome c r m) })) := keepsDwells_modCrate rfl rfl rfl rfl
      exact (tested.trans outcome).trans (keepsDwells_of_crates rfl)
    · exact keepsDwells_refl

theorem keepsDwells_applyCrate : KeepsDwells c s (s.applyCrate c) :=
  (ev_applyCrate (L := [.regs, .chans]) (by decide) (by decide) ev_refl).1.keepsDwells (by decide)

/-! ## The channels at a dwell boundary -/

/-- From s to t the channels of crate c may have changed, but none of their waiting events; every other channel and every crate
stayed. -/
structure KeepsEvents (c : Nat) (s t : State) : Prop where
  crates : t.crates = s.crates
  pend : ∀ k, (t.chan c k).pend = (s.chan c k).pend
  others : OnlyChans (chanNos.map (fun k => (c, k))) s t

theorem keepsEvents_refl : KeepsEvents c s s := ⟨rfl, fun _ => rfl, fun _ _ _ _ => rfl⟩

theorem KeepsEvents.trans (h : KeepsEvents c s t) (g : KeepsEvents c t u) : KeepsEvents c s u where
  crates := g.crates.trans h.crates
  pend := fun k => (g.pend k).trans (h.pend k)
  others := h.others.trans g.others

/-- A write of registers leaves the channels alone. -/
theorem KeepsEvents.regs (h : KeepsEvents c s t) (g : Evolves [.regs] t u) : KeepsEvents c s u :=
  h.trans ⟨g.1 .crates (by decide), fun k => by rw [g.1.chan (by decide)], g.1.onlyChans (by decide)⟩

theorem KeepsEvents.modChan {k : Nat} {f : Chan → Chan} (h : KeepsEvents c s t) (hk : k < 16)
    (hf : ∀ x, (f x).pend = x.pend) : KeepsEvents c s (t.modChan c k f) := by
  refine h.trans ⟨rfl, fun j => ?_, onlyChans_modChan hk (List.mem_map_of_mem (List.mem_range.2 hk))⟩
  by_cases hj : j = k
  · rw [hj, State.chan_modChan_same, hf]
  · rw [State.chan_modChan_ne (by omega)]

theorem keepsEvents_resetRange {k : Nat} (hk : k < 16) (h : KeepsEvents c s t) : KeepsEvents c s (t.resetRange c k) :=
  (h.regs (ev_put (by decide) (ev_put (by decide) ev_refl))).modChan hk (fun _ => rfl)

theorem keepsEvents_startChan {k : Nat} (hk : k < 16) (h : KeepsEvents c s t) : KeepsEvents c s (t.startChan c k) :=
  doIf_induction ((keepsEvents_resetRange hk h).modChan hk (fun _ => rfl))
    (fun g => (g.regs (ev_setReg (by decide) ev_refl)).modChan hk (fun _ => rfl))

theorem keepsEvents_showBias {k : Nat} (hk : k < 16) (h : KeepsEvents c s t) : KeepsEvents c s (t.showBias c k) := by
  unfold State.showBias
  exact doIf_induction (h.regs (ev_putB (by decide) (ev_put (by decide) ev_refl))) (fun g => g.modChan hk (fun _ => rfl))

theorem keepsEvents_applyChan {k : Nat} (hk : k < 16) (h : KeepsEvents c s t) : KeepsEvents c s (t.applyChan c k) := by
  unfold State.applyChan
  refine keepsEvents_showBias hk (KeepsEvents.regs ?_ (ev_put (by decide) ev_refl))
  split
  · split
    · exact keepsEvents_startChan hk h
    · exact h
  · split
    · exact h
    · exact h.modChan hk (fun _ => rfl)

theorem keepsEvents_toneReturn {k : Nat} (hk : k < 16) (h : KeepsEvents c s t) : KeepsEvents c s (t.toneReturn c k) := by
  unfold State.toneReturn
  refine doIf_induction (P := KeepsEvents c s) h (fun g => ?_)
  have returned : KeepsEvents c s (t.modChan c k (fun h => { h with remTone := false, toneOk := false })) :=
    g.modChan hk (fun _ => rfl)
  exact returned.regs (ev_showRemoved (by decide) ev_refl)

theorem keepsEvents_applyCrate : KeepsEvents c s (s.applyCrate c) := by
  refine (doIf_induction keepsEvents_refl (fun g => ?_)).regs (ev_showQuiet (by decide) ev_refl)
  refine (forAll_induction g (fun u k hk h => ?_)).regs (ev_trackOff (by decide) ev_refl)
  exact keepsEvents_toneReturn (List.mem_range.1 hk) (keepsEvents_applyChan (List.mem_range.1 hk) h)

/-- With no event waiting in the channel, draining it writes none. -/
theorem keepsEvents_drainChan {k : Nat} (hk : k < 16) (hp : (t.chan c k).pend = []) (h : KeepsEvents c s t) :
    KeepsEvents c s (t.drainChan c k) := by
  unfold State.drainChan
  rw [hp]
  exact doIf_induction h (fun g => g.modChan hk (fun _ => rfl))

/-- With no event waiting in the crate and no marker owed, draining it writes nothing. -/
theorem keepsEvents_drainAll (hc : (s.crate c).closing = []) (hp : ∀ k, k < 16 → (s.chan c k).pend = []) :
    KeepsEvents c s (s.drainAll c) := by
  have drained : KeepsEvents c s (forAll chanNos (fun t k => t.drainChan c k) s) :=
    forAll_induction keepsEvents_refl (fun u k hk h => keepsEvents_drainChan (List.mem_range.1 hk)
      ((h.pend k).trans (hp k (List.mem_range.1 hk))) h)
  have nothingOwed : ((forAll chanNos (fun t k => t.drainChan c k) s).crate c).closing = [] := by
    rw [show (forAll chanNos (fun t k => t.drainChan c k) s).crate c = s.crate c from
      congrArg (fun m => sparseGet (fun _ => Crate.reset) m c) drained.crates, hc]
  unfold State.drainAll State.drainCrate State.tryMarker
  simp only [hc, List.length_nil, List.range_succ, List.range_zero, List.nil_append, forAll_cons, forAll_nil, nothingOwed]
  exact drained

/-! ## The close -/

theorem KeepsEvents.keepsDwells (h : KeepsEvents c s t) : KeepsDwells c s t := keepsDwells_of_crates h.crates

theorem State.crate_fifoPut {x : FifoItem} :
    (s.fifoPut c x).crate c = { s.crate c with fifo := (s.crate c).fifo ++ [x] } := by
  unfold State.fifoPut doIf
  dsimp only
  split <;> simp

theorem onlyCrates_fifoPut {x : FifoItem} : OnlyCrates [c] s (s.fifoPut c x) := by
  have shown : ∀ t : State, KeepsDwells c t (doIf (t.timingLive && t.cratePowered c)
      (fun t => t.raise (CRT_EVF_STAT_hwm c) (min 256 (t.crate c).fifo.length)) t) :=
    fun t => doIf_induction keepsDwells_refl (fun _ => (ev_raise (L := [.regs]) (by decide) ev_refl).1.keepsDwells (by decide))
  exact onlyCrates_modCrate.trans (shown _).others

variable {d : Dwell} {m : RetestMeas}

/-- The state in which a dwell has closed, before the roles, the retest and the channels' settings follow (R22, R31, R94). -/
def State.dwellMarked (s : State) (c : Nat) (d : Dwell) : State :=
  (((s.closeMarker c d none 0).shadowCompare c d).newTables c).modCrate c (fun g => { g.dwellGone with
    dwell := g.dwellGone.dwell.map (fun x => { x with oldTab := x.opened }) })

/-- The state in which the roles and the retest have followed too: what is left is for the channels. -/
def State.dwellSettled (s : State) (c : Nat) (d : Dwell) (m : RetestMeas) : State :=
  doIf d.tests (fun t => t.endRetest c m)
    (doIf ((s.dwellMarked c d).crate c).dwell.isNone (fun t => t.settleRoles c) (s.dwellMarked c d))

theorem State.closeDwell_eq : s.closeDwell c d m = ((s.dwellSettled c d m).applyCrate c).drainAll c := rfl

/-- The marker stands behind the events, and the next dwell is the oldest (R22, R31, R102). -/
theorem State.crate_dwellMarked (hc : (s.crate c).closing = []) :
    ((s.dwellMarked c d).crate c).fifo
        = (s.crate c).fifo ++ [.dwellClose ⟨d.fired, d.noStart, none, d.cross, d.accepting, 0⟩]
      ∧ ((s.dwellMarked c d).crate c).dwell = (s.crate c).dwellNext.map (fun x => { x with oldTab := x.opened })
      ∧ ((s.dwellMarked c d).crate c).dwellNext = none ∧ ((s.dwellMarked c d).crate c).closing = [] := by
  have kept : KeepsDwells c (s.closeMarker c d none 0) (((s.closeMarker c d none 0).shadowCompare c d).newTables c) :=
    keepsDwells_shadowCompare.trans keepsDwells_newTables
  have marked : (s.closeMarker c d none 0).crate c = { s.crate c with
      fifo := (s.crate c).fifo ++ [.dwellClose ⟨d.fired, d.noStart, none, d.cross, d.accepting, 0⟩] } := State.crate_fifoPut
  rw [State.dwellMarked, State.crate_modCrate_same]
  simp only [Crate.dwellGone, kept.fifo, kept.dwellNext, kept.closing, marked, hc, List.map_nil,
    and_self]

theorem onlyCrates_dwellMarked : OnlyCrates [c] s (s.dwellMarked c d) :=
  (onlyCrates_fifoPut.trans (keepsDwells_shadowCompare.trans keepsDwells_newTables).others).trans onlyCrates_modCrate

theorem keepsDwells_dwellSettled : KeepsDwells c (s.dwellMarked c d) (s.dwellSettled c d m) := by
  have roles : KeepsDwells c (s.dwellMarked c d)
      (doIf ((s.dwellMarked c d).crate c).dwell.isNone (fun t => t.settleRoles c) (s.dwellMarked c d)) :=
    doIf_induction (P := KeepsDwells c (s.dwellMarked c d)) keepsDwells_refl (fun _ => keepsDwells_settleRoles)
  exact doIf_induction (P := KeepsDwells c (s.dwellMarked c d)) roles (fun h => h.trans keepsDwells_endRetest)

theorem State.chan_dwellSettled (e k : Nat) : (s.dwellSettled c d m).chan e k = s.chan e k := by
  have marked : Evolves [.regs, .bank, .crates, .slices, .flt] s (s.dwellMarked c d) :=
    ev_modCrate (by decide) (ev_newTables (by decide) (by decide) (ev_shadowCompare (by decide) (by decide) (by decide)
      (ev_closeMarker (by decide) (by decide) ev_refl)))
  have settled : Evolves [.regs, .bank, .crates, .slices, .flt] s (s.dwellSettled c d m) :=
    ev_doIf (fun _ h => ev_endRetest (by decide) (by decide) (by decide) (by decide) h)
      (ev_doIf (fun _ h => ev_settleRoles (by decide) (by decide) h) marked)
  exact settled.1.chan (by decide) e k

/-- With its markers and its events written, a dwell whose last window has closed is over. -/
theorem State.dwellOver_of_written (hc : (s.crate c).closing = [])
    (hw : (s.crate c).nextOpened = true ∨ ((s.crate c).win = none
      ∧ ((s.crate c).dwellNext.isSome = true ∨ (d.ended = true ∧ (s.crate c).armNext = none)))) :
    s.dwellOver c d = true := by
  unfold State.dwellOver
  obtain h | ⟨hwin, h | ⟨hend, harm⟩⟩ := hw
  · simp [hc, h]
  · simp [hc, hwin, h]
  · simp [hc, hwin, hend, harm]

theorem State.dwellOver_of_window {w : Win} (hw : (s.crate c).win = some w) (hn : (s.crate c).nextOpened = false) :
    s.dwellOver c d = false := by
  simp [State.dwellOver, hw, hn]

/-- Settles O15: the marker is written first, and nothing that the boundary does after it reaches the FIFO or the dwells. -/
theorem dwellCloses : Obligations.DwellCloses := by
  unfold Obligations.DwellCloses
  refine ⟨?closes, ?runs⟩
  case closes =>
    intro c m d s hlive hd hc hstop hw hp
    have hexec : exec (.dwellClose c m) s = .next (s.closeDwell c d m) := by
      simp [exec, execDwellClose, hd, hlive, hstop, State.dwellOver_of_written hc hw]
    obtain ⟨hfifo, hdwell, hnext, hclosing⟩ := State.crate_dwellMarked (d := d) hc
    have applied : KeepsEvents c (s.dwellSettled c d m) ((s.dwellSettled c d m).applyCrate c) := keepsEvents_applyCrate
    have kept : KeepsDwells c (s.dwellMarked c d) ((s.dwellSettled c d m).applyCrate c) :=
      keepsDwells_dwellSettled.trans applied.keepsDwells
    have drained : KeepsEvents c ((s.dwellSettled c d m).applyCrate c) (s.closeDwell c d m) :=
      keepsEvents_drainAll (kept.closing.trans hclosing) (fun k hk => by
        rw [applied.pend, State.chan_dwellSettled, hp k hk])
    have all : KeepsDwells c (s.dwellMarked c d) (s.closeDwell c d m) := kept.trans drained.keepsDwells
    exact ⟨_, hexec, all.fifo.trans hfifo, all.dwell.trans hdwell, all.dwellNext.trans hnext,
      onlyCrates_dwellMarked.trans all.others,
      fun e k hk he => ((applied.trans drained).others e k hk he).trans (State.chan_dwellSettled e k)⟩
  case runs =>
    intro c m w s hw hn
    have hover : ∀ d, s.dwellOver c d = false := fun d => State.dwellOver_of_window hw hn
    cases hd : (s.crate c).dwell <;> simp [exec, execDwellClose, hd, hover]

end Sys2Proof.Machine
end

section
/-! PROOFS. Candidates and returns (spec/07 R276, R277, R280): what each candidate of an extraction meets, and what the returns
are. -/

namespace Sys2Proof.Machine

variable {d : Descr} {v : Scan} {b : Buf} {x y : Cand}

/-! ## The conditions of a bin (R277) -/

/-- The conditions of R277 on coarse bin b, the first bin of the main window being lo. -/
structure Scan.Peak (v : Scan) (lo minNet b : Nat) : Prop where
  positive : 0 < v.net b
  left : lo < b → v.net (b - 1) < v.net b
  right : b < 511 → v.net (b + 1) ≤ v.net b
  sum : 16 * (minNet : Int) ≤ (if lo < b then max (v.net (b - 1)) 0 else 0) + v.net b
    + (if b < 511 then max (v.net (b + 1)) 0 else 0)

/-- A neighbour counts where there is one, and only with what it has above 0. -/
theorem max_getD_ite {p : Prop} [Decidable p] {z : Int} :
    max ((if p then none else some z).getD 0) 0 = if ¬p then max z 0 else 0 := by
  by_cases h : p <;> simp [h]

theorem Scan.peak_of_candAt {wc lo minNet candMin i : Nat} (hi : i < 512) (h : v.candAt wc lo minNet candMin i = some y) :
    y.b = i ∧ v.Peak lo minNet i := by
  unfold Scan.candAt at h
  obtain ⟨⟨hm, hl, hr, hs, -⟩, hy⟩ := Option.ite_none_right_eq_some.1 h
  refine ⟨by rw [← Option.some.inj hy], hm, fun hlo => ?_, fun hhi => ?_, ?_⟩
  · simpa [Nat.not_le.2 hlo] using hl
  · simpa [Nat.ne_of_lt hhi] using hr
  · have hne : ¬ i = 511 ↔ i < 511 := by omega
    simpa only [max_getD_ite, not_le, hne] using hs

/-! ## The candidates kept (R277) -/

theorem mem_insertCand {l : List Cand} : y ∈ insertCand x l ↔ y = x ∨ y ∈ l := by
  induction l with
  | nil => simp [insertCand]
  | cons z l ih =>
    unfold insertCand
    split
    · simp
    · simp only [List.mem_cons, ih]; tauto

theorem mem_of_mem_ranked {l : List Cand} (h : y ∈ l.foldl (fun r z => insertCand z r) []) : y ∈ l := by
  refine List.foldlRecOn (motive := fun r => ∀ y ∈ r, y ∈ l) l _ (by simp) (fun r hr z hz y hy => ?_) y h
  obtain rfl | hy := mem_insertCand.1 hy
  · exact hz
  · exact hr y hy

theorem natDist_comm (i j : Nat) : natDist i j = natDist j i := Nat.max_comm ..

/-- At most four candidates are kept, each one of the list, any two more than sep bins apart. -/
theorem keepCands_spec (sep : Nat) (l : List Cand) :
    (keepCands sep l).length ≤ 4 ∧ (∀ y ∈ keepCands sep l, y ∈ l)
      ∧ (keepCands sep l).Pairwise (fun y z => sep < natDist y.b z.b) := by
  refine List.foldlRecOn (motive := fun r : List Cand => r.length ≤ 4 ∧ (∀ y ∈ r, y ∈ l)
    ∧ r.Pairwise (fun y z => sep < natDist y.b z.b)) l _ ⟨by simp, by simp, List.Pairwise.nil⟩ ?_
  intro r ⟨hlen, hmem, hsep⟩ x hx
  split
  case isFalse => exact ⟨hlen, hmem, hsep⟩
  case isTrue h =>
    obtain ⟨hroom, hfar⟩ := h
    refine ⟨by simpa using hroom, fun y hy => ?_, List.pairwise_append.2 ⟨hsep, List.pairwise_singleton .., ?_⟩⟩
    · obtain hy | hy := List.mem_append.1 hy
      · exact hmem y hy
      · exact (List.mem_singleton.1 hy) ▸ hx
    · intro y hy z hz
      have far := of_decide_eq_true (List.all_eq_true.1 hfar y hy)
      rwa [List.mem_singleton.1 hz, natDist_comm]

theorem Descr.peak_of_mem_candidates {c : Nat} (h : y ∈ d.candidates c v) :
    binLo d.wc ≤ y.b ∧ y.b < 512 ∧ v.Peak (binLo d.wc) (d.rd (CHU_PEAK_CFG_min_net c)) y.b := by
  obtain ⟨i, hi, hy⟩ := List.mem_filterMap.1 (mem_of_mem_ranked ((keepCands_spec _ _).2.1 y h))
  have hi := List.mem_range.1 hi
  obtain ⟨hb, hp⟩ := Scan.peak_of_candAt (by omega) hy
  rw [hb]
  exact ⟨by omega, by omega, hp⟩

/-! ## Refinement and rejection keep a candidate's bin (R279, R323, R327) -/

@[simp] theorem Cand.b_refine {fine : List (Option Nat)} {bins : Nat → List Nat} {fs fired fhw : Nat} :
    (y.refine d v fine bins fs fired fhw).b = y.b := by
  unfold Cand.refine
  dsimp only
  split
  · rfl
  · split
    · rfl
    · split <;> rfl

@[simp] theorem Cand.b_strain {fired : Nat} : (y.strain d v b fired).b = y.b := rfl

@[simp] theorem Cand.b_separate {fired : Nat} : (y.separate d b fired).b = y.b := rfl

/-! ## Returns in ascending order of time (R280) -/

theorem mem_insertTau {l : List Cand} : y ∈ insertTau x l ↔ y = x ∨ y ∈ l := by
  induction l with
  | nil => simp [insertTau]
  | cons z l ih =>
    unfold insertTau
    split
    · simp
    · simp only [List.mem_cons, ih]; tauto

theorem insertTau_sorted {l : List Cand} (h : l.Pairwise (fun y z => y.tau ≤ z.tau)) :
    (insertTau x l).Pairwise (fun y z => y.tau ≤ z.tau) := by
  induction l with
  | nil => simp [insertTau]
  | cons z l ih =>
    obtain ⟨hz, hl⟩ := List.pairwise_cons.1 h
    unfold insertTau
    split
    case isTrue hlt =>
      refine List.pairwise_cons.2 ⟨fun y hy => ?_, h⟩
      obtain rfl | hy := List.mem_cons.1 hy
      · exact hlt.le
      · exact hlt.le.trans (hz y hy)
    case isFalse hle =>
      refine List.pairwise_cons.2 ⟨fun y hy => ?_, ih hl⟩
      obtain rfl | hy := mem_insertTau.1 hy
      · exact not_lt.1 hle
      · exact hz y hy

theorem mem_sortTau {l : List Cand} : y ∈ l.foldr insertTau [] ↔ y ∈ l := by
  induction l with
  | nil => rfl
  | cons z l ih => rw [List.foldr_cons, mem_insertTau, ih, List.mem_cons]

theorem sortTau_sorted (l : List Cand) : (l.foldr insertTau []).Pairwise (fun y z => y.tau ≤ z.tau) := by
  induction l with
  | nil => exact List.Pairwise.nil
  | cons z l ih => exact insertTau_sorted ih

/-! ## The candidates of an extraction -/

section Extraction

variable {s : State} {c k : Nat} {w : Bool} {m : CloseMark}

/-- The candidates are those of the scan, refined and marked, each in its bin; a corrupt dwell has none (R285). -/
theorem State.cands_extract (s : State) (c k : Nat) (w : Bool) (b : Buf) (d : Descr) (m : CloseMark) :
    ∃ f : Cand → Cand, (∀ y, (f y).b = y.b) ∧ (s.extract c k w b d m).cands
      = (if b.corrupt then [] else d.candidates c (s.extract c k w b d m).scan).map f :=
  ⟨_, fun y => by rw [Cand.b_separate, Cand.b_strain, Cand.b_refine], rfl⟩

theorem State.cands_extract_of_corrupt (h : b.corrupt = true) : (s.extract c k w b d m).cands = [] := by
  obtain ⟨f, -, e⟩ := s.cands_extract c k w b d m
  rw [e, if_pos h, List.map_nil]

theorem State.length_cands_extract : (s.extract c k w b d m).cands.length ≤ 4 := by
  obtain ⟨f, -, e⟩ := s.cands_extract c k w b d m
  rw [e, List.length_map]
  split
  · simp
  · exact (keepCands_spec _ _).1

theorem State.cand_extract_of_mem (h : y ∈ (s.extract c k w b d m).cands) :
    ∃ z ∈ d.candidates c (s.extract c k w b d m).scan, y.b = z.b := by
  obtain ⟨f, hf, e⟩ := s.cands_extract c k w b d m
  rw [e] at h
  obtain ⟨z, hz, rfl⟩ := List.mem_map.1 h
  refine ⟨z, ?_, hf z⟩
  split at hz
  · cases hz
  · exact hz

/-- No two candidates in different bins lie within sep bins (R277). -/
theorem State.cands_extract_apart (hx : x ∈ (s.extract c k w b d m).cands) (hy : y ∈ (s.extract c k w b d m).cands)
    (hne : x.b ≠ y.b) : d.rd (CHU_PEAK_CFG_sep c) < natDist x.b y.b := by
  obtain ⟨x', hx', ex⟩ := State.cand_extract_of_mem hx
  obtain ⟨y', hy', ey⟩ := State.cand_extract_of_mem hy
  rw [ex, ey] at hne ⊢
  have symm : Std.Symm (fun x y : Cand => d.rd (CHU_PEAK_CFG_sep c) < natDist x.b y.b) :=
    ⟨fun x y h => by rwa [natDist_comm]⟩
  exact (keepCands_spec _ _).2.2.forall hx' hy' (fun e => hne (congrArg Cand.b e))

/-- The net count of a coarse bin by the words of the buffer (R276). -/
theorem State.net_scan_extract {j : Nat} (hj : j < 512) : (s.extract c k w b d m).scan.net j
    = 16 * (s.bankHalf c (bufBase k w + 2 * j) : Int) - ((s.extract c k w b d m).scan.bg.getD j 0 : Int) := by
  have hbin : (s.extract c k w b d m).scan.h.getD j 0 = s.bankHalf c (bufBase k w + 2 * j) := by
    simp [State.extract, Descr.scan, State.bins, hj]
  rw [Scan.net, hbin]

/-! ### Its returns (R280) -/

theorem State.mem_returns_extract (h : y ∈ (s.extract c k w b d m).returns) :
    y ∈ (s.extract c k w b d m).cands ∧ y.probed = false ∧ d.rd (CHU_PEAK_CFG_conf_min c) ≤ y.conf := by
  obtain ⟨hc, hkeep⟩ := List.mem_filter.1 (mem_sortTau.1 (List.mem_of_mem_take h))
  simp only [Bool.and_eq_true, Bool.not_eq_true', decide_eq_true_eq] at hkeep
  exact ⟨hc, hkeep⟩

theorem State.returns_extract_sorted :
    (s.extract c k w b d m).returns.Pairwise (fun y z => y.tau ≤ z.tau) :=
  (sortTau_sorted _).sublist (List.take_sublist ..)

theorem State.length_returns_extract : (s.extract c k w b d m).returns.length ≤ 4 := List.length_take_le ..

theorem State.returns_extract_of_corrupt (h : b.corrupt = true) : (s.extract c k w b d m).returns = [] :=
  List.eq_nil_iff_forall_not_mem.2 (fun y hy => by
    have hc := (State.mem_returns_extract hy).1
    rw [State.cands_extract_of_corrupt h] at hc
    cases hc)

end Extraction

end Sys2Proof.Machine
end

section
/-! PROOFS. The buffers of a Churn bank (spec/07 R256, R272, R275): which bytes the clearing of a buffer reaches, and which
buffers an extractor that takes its next channel changes. -/

namespace Sys2Proof.Machine

variable {s : State} {c k : Nat} {x : Bool} {b : Buf}

/-! ## Clearing a bank (R272) -/

/-- Byte a of bank e is one of the n bytes of bank c from byte b up. -/
def bankCovers (c b n e a : Nat) : Bool :=
  decide (65536 * c + b ≤ 65536 * e + a % 65536) && decide (65536 * e + a % 65536 < 65536 * c + b + n)

theorem State.bankByte_clearBank {b n e a : Nat} :
    (s.clearBank c b n).bankByte e a = if bankCovers c b n e a then 0 else s.bankByte e a := by
  unfold State.bankByte State.clearBank
  rw [sparseGet_filter (fun i => !(decide (65536 * c + b ≤ i) && decide (i < 65536 * c + b + n)))]
  cases h : bankCovers c b n e a <;> unfold bankCovers at h <;> simp [h]

theorem State.bankByte_forAll_clearBank {l : List Nat} {g : Nat → Nat} {n e a : Nat} :
    (forAll l (fun t i => t.clearBank c (g i) n) s).bankByte e a
      = if l.any (fun i => bankCovers c (g i) n e a) then 0 else s.bankByte e a := by
  induction l generalizing s with
  | nil => simp
  | cons i l ih =>
    rw [forAll_cons, ih, State.bankByte_clearBank, List.any_cons]
    cases bankCovers c (g i) n e a <;> simp

/-- The fine windows placed in a buffer. -/
def Buf.placed (b : Buf) : List Nat := (List.range 4).filter (fun n => (b.fine.getD n none).isSome)

theorem Buf.mem_placed {n : Nat} : n ∈ b.placed ↔ n < 4 ∧ (b.fine.getD n none).isSome = true := by
  rw [Buf.placed, List.mem_filter, List.mem_range]

theorem bankCovers_iff {b n e a : Nat} : bankCovers c b n e a = true
    ↔ 65536 * c + b ≤ 65536 * e + a % 65536 ∧ 65536 * e + a % 65536 < 65536 * c + b + n := by
  rw [bankCovers, Bool.and_eq_true, decide_eq_true_eq, decide_eq_true_eq]

/-- A buffer's clearing reaches byte a of bank e: a coarse word, or a word of a placed window (R272). -/
def Buf.clears (b : Buf) (c k : Nat) (x : Bool) (e a : Nat) : Bool :=
  bankCovers c (bufBase k x) 1024 e a || b.placed.any (fun n => bankCovers c (fineAt k x n 0) 256 e a)

theorem Buf.clears_iff {e a : Nat} : b.clears c k x e a = true ↔ bankCovers c (bufBase k x) 1024 e a = true
    ∨ ∃ n, (n < 4 ∧ (b.fine.getD n none).isSome = true) ∧ bankCovers c (fineAt k x n 0) 256 e a = true := by
  simp only [Buf.clears, Bool.or_eq_true, List.any_eq_true, Buf.mem_placed]

theorem State.bankByte_freeBuf {e a : Nat} :
    (s.freeBuf c k x).bankByte e a = if ((s.chan c k).buf x).clears c k x e a then 0 else s.bankByte e a := by
  have freed : (s.freeBuf c k x).bankByte e a = ((s.clearBank c (bufBase k x) 1024).clearFine c k x).bankByte e a := rfl
  have cleared : (s.clearBank c (bufBase k x) 1024).clearFine c k x
      = forAll ((s.chan c k).buf x).placed (fun t n => t.clearBank c (fineAt k x n 0) 256)
        (s.clearBank c (bufBase k x) 1024) := rfl
  rw [freed, cleared, State.bankByte_forAll_clearBank, State.bankByte_clearBank, Buf.clears]
  cases bankCovers c (bufBase k x) 1024 e a <;> simp

theorem bufBase_le (hk : k < 16) : bufBase k x ≤ 63488 := by
  unfold bufBase
  cases x <;> simp only [Bool.toNat_false, Bool.toNat_true] <;> omega

theorem Buf.clears_coarse (hk : k < 16) {a : Nat} (ha : a < 1024) : b.clears c k x c (bufBase k x + a) = true := by
  have hb := bufBase_le (x := x) hk
  refine Buf.clears_iff.2 (Or.inl (bankCovers_iff.2 ?_))
  rw [Nat.mod_eq_of_lt (by omega)]
  omega

/-- A placed window is cleared. -/
theorem Buf.clears_fine (hk : k < 16) {n a : Nat} (hn : n < 4) (ha : a < 256) (hp : (b.fine.getD n none).isSome = true) :
    b.clears c k x c (fineAt k x n 0 + a) = true := by
  have hb := bufBase_le (x := x) hk
  refine Buf.clears_iff.2 (Or.inr ⟨n, ⟨hn, hp⟩, bankCovers_iff.2 ?_⟩)
  unfold fineAt
  rw [Nat.mod_eq_of_lt (by omega)]
  omega

/-- A window that is not placed keeps its words, which may be a capture's (R293). -/
theorem Buf.clears_fine_of_none (hk : k < 16) {n a : Nat} (hn : n < 4) (ha : a < 256) (hp : b.fine.getD n none = none) :
    b.clears c k x c (fineAt k x n 0 + a) = false := by
  have hb := bufBase_le (x := x) hk
  have hmod : (fineAt k x n 0 + a) % 65536 = fineAt k x n 0 + a := Nat.mod_eq_of_lt (by unfold fineAt; omega)
  refine Bool.eq_false_iff.2 (fun h => ?_)
  obtain h | ⟨j, ⟨hj, hp'⟩, h⟩ := Buf.clears_iff.1 h
  · rw [bankCovers_iff, hmod] at h
    unfold fineAt at h
    omega
  · have hne : j ≠ n := by
      rintro rfl
      rw [hp] at hp'
      cases hp'
    rw [bankCovers_iff, hmod] at h
    unfold fineAt at h
    omega

/-- No other bank is reached. -/
theorem Buf.clears_other (hk : k < 16) {e a : Nat} (he : e ≠ c) : b.clears c k x e a = false := by
  have hb := bufBase_le (x := x) hk
  have hmod := Nat.mod_lt a (show 0 < 65536 by decide)
  refine Bool.eq_false_iff.2 (fun h => ?_)
  obtain h | ⟨n, ⟨hn, -⟩, h⟩ := Buf.clears_iff.1 h <;> rw [bankCovers_iff] at h
  · omega
  · unfold fineAt at h
    omega

/-! ## Buffers (R256, R272, R275) -/

@[simp] theorem Chan.buf_setBuf_same {h : Chan} : (h.setBuf x b).buf x = b := by
  cases x <;> rfl

theorem Chan.buf_setBuf_ne {h : Chan} {y : Bool} (hy : y ≠ x) : (h.setBuf y b).buf x = h.buf x := by
  cases x <;> cases y <;> first | rfl | exact absurd rfl hy

theorem State.buf_modBuf_same {f : Buf → Buf} : ((s.modBuf c k x f).chan c k).buf x = f ((s.chan c k).buf x) := by
  rw [State.modBuf, State.chan_modChan_same, Chan.buf_setBuf_same]

/-- A buffer that a change does not name stays. -/
theorem State.buf_modBuf_ne {j : Nat} {y : Bool} {f : Buf → Buf} (h : (j, y) ≠ (k, x)) :
    ((s.modBuf c j y f).chan c k).buf x = (s.chan c k).buf x := by
  unfold State.modBuf
  by_cases hj : j = k
  · subst hj
    rw [State.chan_modChan_same, Chan.buf_setBuf_ne (fun hy => h (by rw [hy]))]
  · rw [State.chan_modChan_ne (by omega)]

theorem State.st_freeBuf : (((s.freeBuf c k x).chan c k).buf x).st = .free := by
  rw [State.freeBuf, State.buf_modBuf_same]
  rfl

theorem mem_of_firstFull {l : List (Nat × Nat × Bool)} {p : Nat × Nat × Bool} (h : firstFull l = some p) : p ∈ l := by
  refine List.foldlRecOn (motive := fun best => ∀ p, best = some p → p ∈ l) l _ (by simp) ?_ p h
  intro best hbest q hq p hp
  split at hp
  · exact Option.some.inj hp ▸ hq
  · split at hp
    · exact Option.some.inj hp ▸ hq
    · exact hbest p hp

theorem State.full_of_mem_fullBufs {e : Nat} {p : Nat × Nat × Bool} (h : p ∈ s.fullBufs c e) :
    ((s.chan c p.2.1).buf p.2.2).st = .full := by
  obtain ⟨j, -, hp⟩ := List.mem_flatMap.1 h
  obtain ⟨y, hy, rfl⟩ := List.mem_map.1 hp
  exact of_decide_eq_true (List.mem_filter.1 hy).2

/-- An extractor takes FULL buffers alone (R275). -/
theorem State.buf_nextExtract (h : ((s.chan c k).buf x).st ≠ .full) :
    ((s.nextExtract c).chan c k).buf x = (s.chan c k).buf x := by
  refine forAll_induction (P := fun t => (t.chan c k).buf x = (s.chan c k).buf x) rfl (fun t e _ ht => ?_)
  split
  · exact ht
  · split
    · exact ht
    · rename_i p hp
      rw [State.buf_modBuf_ne, ht]
      intro e
      have full := State.full_of_mem_fullBufs (mem_of_firstFull hp)
      obtain ⟨rfl, rfl⟩ := Prod.mk.inj e
      rw [ht] at full
      exact h full

end Sys2Proof.Machine
end

section
/-! PROOFS. What follows once a channel's results are sent (spec/07 R272, R290, R292, R299, spec/08 R318): the records, registers
and bank bytes that the extractors' progress, the end of a dump and the leaving of a buffer may change. -/

namespace Sys2Proof.Machine

variable {s t u : State} {c k : Nat} {x : Bool} {b : Buf} {d : Descr} {m : CloseMark}

/-! ## Records (R280, R284, R373) -/

/-- A run of pushes, where the FIFO has room for all of them. -/
theorem State.recs_pushRecs {α : Type} {l : List α} {g : α → Rec} (h : s.host.recs.length + l.length ≤ 1024) :
    (forAll l (fun t p => t.pushRec (g p)) s).host.recs = s.host.recs ++ l.map g := by
  induction l generalizing s with
  | nil => simp
  | cons p l ih =>
    rw [List.length_cons] at h
    have room : s.host.recs.length < recFifoSize := by unfold recFifoSize; omega
    have pushed : (s.pushRec (g p)).host.recs = s.host.recs ++ [g p] := by
      simp [State.pushRec, State.modHost, room]
    rw [forAll_cons, ih (by rw [pushed, List.length_append, List.length_singleton]; omega), pushed, List.map_cons,
      List.append_assoc, List.singleton_append]

/-- From s to t the record FIFO gained event records alone (R427). -/
def AddsEvents (s t : State) : Prop := ∃ l, t.host.recs = s.host.recs ++ l ∧ ∀ r ∈ l, r.cls = 3

theorem addsEvents_of_recs (h : t.host.recs = s.host.recs) : AddsEvents s t := ⟨[], by rw [h, List.append_nil], by simp⟩

theorem OnlyChanges.addsEvents {L : List Part} (h : OnlyChanges L s t) (hp : Part.host ∉ L) : AddsEvents s t :=
  addsEvents_of_recs (congrArg HostIf.recs (h .host hp))

theorem AddsEvents.trans (h : AddsEvents s t) (g : AddsEvents t u) : AddsEvents s u := by
  obtain ⟨l, hl, el⟩ := h
  obtain ⟨n, hn, en⟩ := g
  refine ⟨l ++ n, by rw [hn, hl, List.append_assoc], fun r hr => ?_⟩
  obtain hr | hr := List.mem_append.1 hr
  · exact el r hr
  · exact en r hr

theorem addsEvents_ite {p : Prop} [Decidable p] (ht : AddsEvents s t) (hu : AddsEvents s u) :
    AddsEvents s (if p then t else u) := by
  split
  · exact ht
  · exact hu

theorem addsEvents_eventTo {f : Func} {ws : List Word} : AddsEvents s (s.eventTo f ws) := by
  refine addsEvents_ite ?_ (addsEvents_of_recs rfl)
  unfold State.pushRec State.modHost
  by_cases h : s.host.recs.length < recFifoSize
  · exact ⟨[⟨f, s.evtRing f, 3, ws, none, 0, false⟩], by simp [h], by simp⟩
  · exact addsEvents_of_recs (by simp [h])

theorem addsEvents_queueEvent {ws : List Word} : AddsEvents s (s.queueEvent ws) :=
  addsEvents_ite (addsEvents_ite (addsEvents_of_recs rfl) (addsEvents_of_recs rfl)) (addsEvents_of_recs rfl)

theorem addsEvents_post {typ kind index : Nat} {data : List Word} (h : AddsEvents s t) :
    AddsEvents s (t.post typ kind index data) :=
  addsEvents_ite (((h.trans addsEvents_eventTo).trans addsEvents_eventTo).trans addsEvents_queueEvent) h

theorem addsEvents_weather {wet : Nat} : AddsEvents s (s.weather c wet d) :=
  addsEvents_ite (addsEvents_post (addsEvents_of_recs rfl))
    (addsEvents_ite (addsEvents_post (addsEvents_of_recs rfl)) (addsEvents_of_recs rfl))

theorem addsEvents_windowLevel {w : Nat} : AddsEvents s (s.windowLevel c k w d) :=
  addsEvents_ite (addsEvents_post (addsEvents_of_recs rfl))
    (addsEvents_ite (addsEvents_post (addsEvents_of_recs rfl)) (addsEvents_of_recs rfl))

/-- What the end of a channel's extraction can do to the crate's dwells in extraction: nothing, where the dwell is not among them;
a change of the crate; or, with the dwell's last channel, the weather and the extraction time follow too (R299, R318). -/
theorem State.xDone_cases (s : State) (c k id : Nat) (wet : Bool) (clocks : Nat) (d : Descr) : s.xDone c k id wet clocks d = s
    ∨ (∃ f, s.xDone c k id wet clocks d = s.modCrate c f)
    ∨ ∃ n f w e, s.xDone c k id wet clocks d
      = ((((s.skipFree n).modCrate c f).weather c w d).put (CHU_XTIME_last c) e).raise (CHU_XTIME_max c) e := by
  unfold State.xDone
  split
  · exact Or.inl rfl
  · dsimp only
    split
    · exact Or.inr (Or.inr ⟨_, _, _, _, rfl⟩)
    · exact Or.inr (Or.inl ⟨_, rfl⟩)

theorem addsEvents_xDone {id clocks : Nat} {wet : Bool} : AddsEvents s (s.xDone c k id wet clocks d) := by
  obtain h | ⟨f, h⟩ | ⟨n, f, w, e, h⟩ := s.xDone_cases c k id wet clocks d
  · rw [h]; exact addsEvents_of_recs rfl
  · rw [h]; exact addsEvents_of_recs rfl
  · rw [h]
    have weathered : AddsEvents s (((s.skipFree n).modCrate c f).weather c w d) :=
      addsEvents_weather (s := (s.skipFree n).modCrate c f)
    exact weathered

/-! ## The end of a dump (R292) -/

theorem State.recs_completeOpt {ref : Option CmdRef} {status : Nat} {shots : DWord} {dwells : Word} :
    (s.completeOpt ref status shots dwells).host.recs = s.host.recs := by
  unfold State.completeOpt State.complete
  split
  · rfl
  · split <;> rfl

/-- What completing a dump, freeing a buffer and marking one keep, the end of a dump keeps. -/
theorem endDump_induction {P : State → Prop} {status : Nat} (h : P s)
    (hdone : ∀ ref st n w, P (((s.modCrate c (fun g => { g with dump := none })).putB (CHU_DUMP_STAT_dump_active c)
      false).completeOpt ref st n w))
    (hfree : ∀ u j y, P u → P (u.freeBuf c j y)) (hmark : ∀ u j y f, P u → P (u.modBuf c j y f)) :
    P (s.endDump c status) := by
  unfold State.endDump
  split
  · exact h
  · refine forAll_induction (hdone _ _ _ _) (fun u j _ hu => forAll_induction hu (fun v y _ hv => ?_))
    split
    · exact hfree v j y hv
    · exact hmark v j y _ hv

theorem finishDump_induction {P : State → Prop} (h : P s) (hend : P (s.endDump c stOK)) : P (s.finishDump c) := by
  unfold State.finishDump
  split
  · exact h
  · split
    · exact hend
    · exact h

theorem State.recs_endDump {status : Nat} : (s.endDump c status).host.recs = s.host.recs :=
  endDump_induction (P := fun t => t.host.recs = s.host.recs) rfl (fun _ _ _ _ => State.recs_completeOpt)
    (fun _ _ _ hu => hu ▸ congrArg HostIf.recs
      ((ev_freeBuf (L := [.bank, .chans]) (by decide) (by decide) ev_refl).1 .host (by decide)))
    (fun _ _ _ _ hu => hu)

theorem State.recs_dumpLess {id : Nat} : (s.dumpLess c k id).host.recs = s.host.recs :=
  finishDump_induction (P := fun t => t.host.recs = s.host.recs) rfl State.recs_endDump

/-! ## Registers that follow an extraction (R299, R318, R292) -/

/-- The registers that may change once a channel's results are sent: weather, extraction time, the dump's status, those of an
event. -/
def extractionRegs (c : Nat) : List Nat := STR_CRT c :: CHU_XTIME c :: CHU_DUMP_STAT c :: eventRegs

theorem regs_weather {wet : Nat} : OnlyRegs (extractionRegs c) s (s.weather c wet d) := by
  have hcrt : STR_CRT c ∈ extractionRegs c := by simp [extractionRegs]
  have hev : ∀ a ∈ eventRegs, a ∈ extractionRegs c := fun a ha => by simp [extractionRegs, ha]
  have dens : ∀ v, OnlyRegs (extractionRegs c) s (s.put (STR_CRT_dens c) v) := fun v => regs_put hcrt onlyRegs_refl
  unfold State.weather
  exact regs_ite (regs_post hev (regs_putB hcrt (dens _))) (regs_ite (regs_post hev (regs_putB hcrt (dens _))) (dens _))

theorem regs_xDone {id clocks : Nat} {wet : Bool} : OnlyRegs (extractionRegs c) s (s.xDone c k id wet clocks d) := by
  have htime : CHU_XTIME c ∈ extractionRegs c := by simp [extractionRegs]
  obtain h | ⟨f, h⟩ | ⟨n, f, w, e, h⟩ := s.xDone_cases c k id wet clocks d
  · rw [h]; exact onlyRegs_refl
  · rw [h]; exact regs_modCrate onlyRegs_refl
  · rw [h]
    have weathered : OnlyRegs (extractionRegs c) s (((s.skipFree n).modCrate c f).weather c w d) :=
      onlyRegs_trans (regs_modCrate (regs_skipFree onlyRegs_refl)) regs_weather
    exact regs_raise htime (regs_put htime weathered)

theorem regs_freeBuf {l : List Nat} (h : OnlyRegs l s t) : OnlyRegs l s (t.freeBuf c k x) :=
  onlyRegs_trans h ((ev_freeBuf (L := [.bank, .chans]) (by decide) (by decide) ev_refl).1.onlyRegs (by decide))

theorem regs_completeOpt {l : List Nat} {ref : Option CmdRef} {st : Nat} {n : DWord} {w : Word} (h : OnlyRegs l s t) :
    OnlyRegs l s (t.completeOpt ref st n w) :=
  onlyRegs_trans h ((ev_completeOpt (L := [.host]) (by decide) ev_refl).1.onlyRegs (by decide))

theorem regs_dumpLess {id : Nat} : OnlyRegs (extractionRegs c) s (s.dumpLess c k id) := by
  have hstat : CHU_DUMP_STAT c ∈ extractionRegs c := by simp [extractionRegs]
  refine finishDump_induction (P := OnlyRegs (extractionRegs c) s) (regs_modCrate onlyRegs_refl)
    (endDump_induction (P := OnlyRegs (extractionRegs c) s) (regs_modCrate onlyRegs_refl) (fun ref st n w => ?_)
      (fun _ _ _ h => regs_freeBuf h) (fun _ _ _ _ h => regs_modChan h))
  exact regs_completeOpt (regs_putB hstat (regs_modCrate (regs_modCrate onlyRegs_refl)))

/-! ## The buffer after its extraction (R272, R290) -/

theorem State.leaveBuf_of_not_due (h : b.dumpDue = false) : s.leaveBuf c k x b = s.freeBuf c k x := by
  simp [State.leaveBuf, h]

theorem State.leaveBuf_of_corrupt (h : b.corrupt = true) :
    s.leaveBuf c k x b = s.freeBuf c k x ∨ s.leaveBuf c k x b = (s.freeBuf c k x).dumpLess c k b.dwellId := by
  cases hd : b.dumpDue
  · exact Or.inl (State.leaveBuf_of_not_due hd)
  · exact Or.inr (by simp [State.leaveBuf, h, hd])

/-- A buffer is freed, and of a corrupt dwell no longer waited for by the dump; or it is kept for the dump. -/
theorem leaveBuf_induction {P : State → Prop} (hfree : P (s.freeBuf c k x))
    (hless : P ((s.freeBuf c k x).dumpLess c k b.dwellId)) (hkeep : P (s.keepForDump c k x)) : P (s.leaveBuf c k x b) := by
  unfold State.leaveBuf
  split
  · split
    · exact hless
    · exact hkeep
  · exact hfree

theorem regs_leaveBuf : OnlyRegs (extractionRegs c) s (s.leaveBuf c k x b) :=
  leaveBuf_induction (P := OnlyRegs (extractionRegs c) s) (regs_freeBuf onlyRegs_refl)
    (onlyRegs_trans (regs_freeBuf onlyRegs_refl) regs_dumpLess)
    ((ev_keepForDump (L := [.bank, .chans]) (by decide) (by decide) ev_refl).1.onlyRegs (by decide))

theorem addsEvents_leaveBuf : AddsEvents s (s.leaveBuf c k x b) := by
  have freed : AddsEvents s (s.freeBuf c k x) :=
    (ev_freeBuf (L := [.bank, .chans]) (by decide) (by decide) ev_refl).1.addsEvents (by decide)
  exact leaveBuf_induction (P := AddsEvents s) freed (freed.trans (addsEvents_of_recs State.recs_dumpLess))
    ((ev_keepForDump (L := [.bank, .chans]) (by decide) (by decide) ev_refl).1.addsEvents (by decide))

/-- Freeing a buffer writes no byte but 0. -/
theorem State.bankByte_freeBuf_zero {j e a : Nat} {y : Bool} (h : s.bankByte e a = 0) :
    (s.freeBuf c j y).bankByte e a = 0 := by
  rw [State.bankByte_freeBuf, h, ite_self]

theorem State.bankByte_dumpLess_zero {id e a : Nat} (h : s.bankByte e a = 0) : (s.dumpLess c k id).bankByte e a = 0 :=
  finishDump_induction (P := fun t => t.bankByte e a = 0) h
    (endDump_induction (P := fun t => t.bankByte e a = 0) h
      (fun _ _ _ _ => ((ev_completeOpt (L := [.host]) (by decide) ev_refl).1.bankByte (by decide) e a).trans h)
      (fun _ _ _ hu => State.bankByte_freeBuf_zero hu) (fun _ _ _ _ hu => hu))

end Sys2Proof.Machine
end

section
/-! PROOFS. An extractor ends a channel (spec/07 R272, R275, R284, R285, R287, spec/08 R322): where its records, its zone result
and its window level go, how its buffer is left, and the obligation `Obligations.Extraction`. -/

namespace Sys2Proof.Machine

variable {s : State} {c k : Nat} {x : Bool} {b : Buf} {d : Descr} {m : CloseMark}

/-! ## The results of a channel (R280, R284, R287, R322) -/

/-- The fit and the window level of the channel's dwell are noted. -/
def State.scanNoted (s : State) (c k : Nat) (x : Bool) (b : Buf) (d : Descr) (m : CloseMark) : State :=
  doIf (b.probe && decide (0 < m.fired)) (fun t => t.windowLevel c k (if b.probeOver then 65535 else b.probeSum) d)
    (doIf (s.extract c k x b d m).scan.made (fun t => t.putB (STR_CH_fit c k) (s.extract c k x b d m).scan.accepted) s)

/-- Its records are pushed, too. -/
def State.recordsSent (s : State) (c k : Nat) (x : Bool) (b : Buf) (d : Descr) (m : CloseMark) : State :=
  forAll (s.extract c k x b d m).returns.zipIdx (fun t p => t.pushRec (p.1.record b d m c k p.2)) (s.scanNoted c k x b d m)

/-- What zone evaluation gets of a dwell: its returns, or none where it is missing (R285, R287). -/
def State.zoneResult (s : State) (c k : Nat) (x : Bool) (b : Buf) (d : Descr) (m : CloseMark) : Option (List ZRet) :=
  if b.corrupt || missedDwell m then none else some ((s.extract c k x b d m).returns.map (fun y => y.zoneRet b d m c k))

/-- Its zone result is delivered and its coarse times stand for those that refer to them, too. -/
def State.resultsSent (s : State) (c k : Nat) (x : Bool) (b : Buf) (d : Descr) (m : CloseMark) : State :=
  (doIf d.safety (fun t => t.zoneDeliver c k d.angle d.sweep (s.zoneResult c k x b d m))
    (s.recordsSent c k x b d m)).modChan c k (fun h => { h with refs := h.refs.map (fun p =>
      if p.1 = b.dwellId then (p.1, some ((s.extract c k x b d m).cands.map (fun y => y.tau))) else p) })

/-- The results go first; then the extractors have a channel less, the buffer is left, and each idle extractor takes its next. -/
theorem State.endExtraction_eq (s : State) (c k : Nat) (x : Bool) (b : Buf) (d : Descr) (m : CloseMark) :
    ∃ wet clocks, s.endExtraction c k x b d m
    = (((s.resultsSent c k x b d m).xDone c k b.dwellId wet clocks d).leaveBuf c k x b).nextExtract c := ⟨_, _, rfl⟩

theorem evolves_scanNoted : Evolves [.regs, .host] s (s.scanNoted c k x b d m) :=
  ev_doIf (fun _ h => ev_windowLevel (by decide) (by decide) h) (ev_doIf (fun _ h => ev_putB (by decide) h) ev_refl)

theorem evolves_recordsSent : Evolves [.regs, .host] s (s.recordsSent c k x b d m) :=
  ev_forAll (fun _ _ h => ev_pushRec (by decide) h) evolves_scanNoted

theorem evolves_resultsSent : Evolves [.regs, .chans, .host, .saf] s (s.resultsSent c k x b d m) :=
  ev_modChan (by decide) (ev_doIf (fun _ h => ev_zoneDeliver (by decide) h)
    (ev_mono evolves_recordsSent (by decide)))

theorem evolves_xDone {id clocks : Nat} {wet : Bool} :
    Evolves [.regs, .crates, .host, .free] s (s.xDone c k id wet clocks d) :=
  ev_xDone (by decide) (by decide) (by decide) (by decide) ev_refl

theorem evolves_nextExtract : Evolves [.chans] s (s.nextExtract c) := ev_nextExtract (by decide) ev_refl

theorem State.buf_resultsSent : ((s.resultsSent c k x b d m).chan c k).buf x = (s.chan c k).buf x := by
  have delivered : Evolves [.regs, .host, .saf] s (doIf d.safety (fun t => t.zoneDeliver c k d.angle d.sweep
      (s.zoneResult c k x b d m)) (s.recordsSent c k x b d m)) :=
    ev_doIf (fun _ h => ev_zoneDeliver (by decide) h) (ev_mono evolves_recordsSent (by decide))
  rw [State.resultsSent, State.chan_modChan_same, ← delivered.1.chan (by decide) c k]
  cases x <;> rfl

/-! ### Records -/

/-- Without a window level to move, noting the scan sends no event. -/
theorem State.recs_scanNoted (hp : b.probe = false) : (s.scanNoted c k x b d m).host.recs = s.host.recs := by
  rw [State.scanNoted, hp, Bool.false_and, doIf_false]
  exact doIf_induction (P := fun t => t.host.recs = s.host.recs) rfl (fun _ => rfl)

theorem addsEvents_scanNoted : AddsEvents s (s.scanNoted c k x b d m) :=
  doIf_induction (P := AddsEvents s) (doIf_induction (P := AddsEvents s) (addsEvents_of_recs rfl)
    (fun _ => addsEvents_of_recs rfl)) (fun h => h.trans addsEvents_windowLevel)

theorem State.recs_resultsSent_eq : (s.resultsSent c k x b d m).host.recs = (s.recordsSent c k x b d m).host.recs :=
  congrArg HostIf.recs ((ev_modChan (L := [.chans, .saf]) (by decide)
    (ev_doIf (fun _ h => ev_zoneDeliver (by decide) h) ev_refl)).1 .host (by decide))

/-- The records stand behind those that wait (R284). -/
theorem State.recs_resultsSent (hp : b.probe = false)
    (hroom : s.host.recs.length + (s.extract c k x b d m).returns.length ≤ 1024) :
    (s.resultsSent c k x b d m).host.recs
      = s.host.recs ++ (s.extract c k x b d m).returns.zipIdx.map (fun p => p.1.record b d m c k p.2) := by
  have noted := s.recs_scanNoted (c := c) (k := k) (x := x) (d := d) (m := m) hp
  rw [State.recs_resultsSent_eq, State.recordsSent, State.recs_pushRecs, noted]
  rw [noted, List.length_zipIdx]
  exact hroom

theorem State.recordsSent_of_corrupt (h : b.corrupt = true) : s.recordsSent c k x b d m = s.scanNoted c k x b d m := by
  rw [State.recordsSent, State.returns_extract_of_corrupt h]
  rfl

theorem addsEvents_endExtraction : AddsEvents (s.resultsSent c k x b d m) (s.endExtraction c k x b d m) := by
  obtain ⟨wet, clocks, h⟩ := s.endExtraction_eq c k x b d m
  rw [h]
  exact (addsEvents_xDone.trans addsEvents_leaveBuf).trans (evolves_nextExtract.1.addsEvents (by decide))

/-- A corrupt dwell sends no record (R285). -/
theorem addsEvents_endExtraction_of_corrupt (h : b.corrupt = true) : AddsEvents s (s.endExtraction c k x b d m) := by
  have sent : AddsEvents s (s.resultsSent c k x b d m) :=
    addsEvents_scanNoted.trans (addsEvents_of_recs (by rw [State.recs_resultsSent_eq, State.recordsSent_of_corrupt h]))
  exact sent.trans addsEvents_endExtraction

/-! ### Zone evaluation (R287) -/

theorem eraseFirst_eq_eraseP {α : Type} {p : α → Bool} {l : List α} : eraseFirst p l = l.eraseP p := by
  induction l with
  | nil => rfl
  | cons y l ih => cases h : p y <;> simp [eraseFirst, h, ih]

theorem State.saf_zoneDeliver {angle : BitVec 16} {sweep : Nat} {r : Option (List ZRet)} {w : ZWait}
    (hw : s.saf.zoneWait.find? (fun y => y.is (16 * c + k) angle sweep) = some w) (hs : w.inService = true) :
    (s.zoneDeliver c k angle sweep r).saf.zoneRes = s.saf.zoneRes ++ [⟨16 * c + k, angle, sweep, r⟩]
      ∧ (s.zoneDeliver c k angle sweep r).saf.zoneWait.length + 1 = s.saf.zoneWait.length := by
  have hmem := List.mem_of_find?_eq_some hw
  have hpos := List.length_pos_of_mem hmem
  have hsome := List.find?_some hw
  have herase := List.length_eraseP_of_mem (p := fun y => y.is (16 * c + k) angle sweep) hmem hsome
  unfold State.zoneDeliver
  rw [hw]
  simp only [State.modSaf, hs, if_true, eraseFirst_eq_eraseP, herase, true_and]
  omega

theorem State.saf_resultsSent_of_not_safety (h : d.safety = false) : (s.resultsSent c k x b d m).saf = s.saf := by
  have sent : Evolves [.regs, .chans, .host] s (s.resultsSent c k x b d m) := by
    unfold State.resultsSent
    rw [h]
    exact ev_modChan (by decide) (ev_mono evolves_recordsSent (by decide))
  exact sent.1 .saf (by decide)

theorem State.saf_resultsSent (h : d.safety = true) : (s.resultsSent c k x b d m).saf
    = ((s.recordsSent c k x b d m).zoneDeliver c k d.angle d.sweep (s.zoneResult c k x b d m)).saf := by
  unfold State.resultsSent
  rw [h]
  rfl

theorem State.saf_endExtraction : (s.endExtraction c k x b d m).saf = (s.resultsSent c k x b d m).saf := by
  obtain ⟨wet, clocks, h⟩ := s.endExtraction_eq c k x b d m
  rw [h]
  have left : Evolves [.regs, .bank, .crates, .chans, .host, .free] (s.resultsSent c k x b d m)
      ((((s.resultsSent c k x b d m).xDone c k b.dwellId wet clocks d).leaveBuf c k x b).nextExtract c) :=
    ev_nextExtract (by decide) (ev_leaveBuf (by decide) (by decide) (by decide) (by decide) (by decide)
      (ev_mono evolves_xDone (by decide)))
  exact left.1 .saf (by decide)

/-! ### The buffer, the bank and the crates -/

theorem onlyCrates_xDone {id clocks : Nat} {wet : Bool} : OnlyCrates [c] s (s.xDone c k id wet clocks d) := by
  obtain h | ⟨f, h⟩ | ⟨n, f, w, e, h⟩ := s.xDone_cases c k id wet clocks d
  · rw [h]; exact fun _ _ => rfl
  · rw [h]; exact onlyCrates_modCrate
  · rw [h]
    have weathered : OnlyCrates [c] s (((s.skipFree n).modCrate c f).weather c w d) :=
      (onlyCrates_modCrate (s := s.skipFree n)).trans
        ((ev_weather (L := [.regs, .host]) (by decide) (by decide) ev_refl).1.onlyCrates (by decide))
    exact weathered

theorem State.buf_xDone_resultsSent {id clocks : Nat} {wet : Bool} :
    (((s.resultsSent c k x b d m).xDone c k id wet clocks d).chan c k).buf x = (s.chan c k).buf x := by
  rw [evolves_xDone.1.chan (by decide), State.buf_resultsSent]

theorem State.bankByte_xDone_resultsSent {id clocks e a : Nat} {wet : Bool} :
    ((s.resultsSent c k x b d m).xDone c k id wet clocks d).bankByte e a = s.bankByte e a := by
  rw [evolves_xDone.1.bankByte (by decide), evolves_resultsSent.1.bankByte (by decide)]

theorem State.endExtraction_not_due (h : b.dumpDue = false) : ∃ wet clocks, s.endExtraction c k x b d m
    = (((s.resultsSent c k x b d m).xDone c k b.dwellId wet clocks d).freeBuf c k x).nextExtract c := by
  obtain ⟨wet, clocks, e⟩ := s.endExtraction_eq c k x b d m
  exact ⟨wet, clocks, by rw [e, State.leaveBuf_of_not_due h]⟩

theorem State.bankByte_endExtraction {e a : Nat} (h : b.dumpDue = false) : (s.endExtraction c k x b d m).bankByte e a
    = if ((s.chan c k).buf x).clears c k x e a then 0 else s.bankByte e a := by
  obtain ⟨wet, clocks, he⟩ := State.endExtraction_not_due h
  rw [he, evolves_nextExtract.1.bankByte (by decide), State.bankByte_freeBuf, State.buf_xDone_resultsSent,
    State.bankByte_xDone_resultsSent]

theorem State.st_endExtraction (h : b.dumpDue = false) : (((s.endExtraction c k x b d m).chan c k).buf x).st = .free := by
  obtain ⟨wet, clocks, he⟩ := State.endExtraction_not_due h
  rw [he, State.buf_nextExtract (by rw [State.st_freeBuf]; decide), State.st_freeBuf]

theorem onlyCrates_endExtraction (h : b.dumpDue = false) : OnlyCrates [c] s (s.endExtraction c k x b d m) := by
  obtain ⟨wet, clocks, he⟩ := State.endExtraction_not_due h
  rw [he]
  exact ((evolves_resultsSent.1.onlyCrates (by decide)).trans onlyCrates_xDone).trans
    (((ev_nextExtract (L := [.bank, .chans]) (by decide) (ev_freeBuf (by decide) (by decide) ev_refl)).1.onlyCrates
      (by decide)))

/-- A corrupt dwell's coarse words are cleared, whatever waits for them (R285, R290). -/
theorem State.bankByte_endExtraction_of_corrupt (hk : k < 16) (h : b.corrupt = true) {a : Nat} (ha : a < 1024) :
    (s.endExtraction c k x b d m).bankByte c (bufBase k x + a) = 0 := by
  obtain ⟨wet, clocks, he⟩ := s.endExtraction_eq c k x b d m
  have freed : (((s.resultsSent c k x b d m).xDone c k b.dwellId wet clocks d).freeBuf c k x).bankByte c (bufBase k x + a)
      = 0 := by
    rw [State.bankByte_freeBuf, Buf.clears_coarse hk ha, if_pos rfl]
  rw [he, evolves_nextExtract.1.bankByte (by decide)]
  obtain e | e := State.leaveBuf_of_corrupt (s := (s.resultsSent c k x b d m).xDone c k b.dwellId wet clocks d)
    (c := c) (k := k) (x := x) h
  · rw [e, freed]
  · rw [e, State.bankByte_dumpLess_zero freed]

/-! ### The window level (R322) -/

theorem regs_endExtraction : OnlyRegs (extractionRegs c) (s.scanNoted c k x b d m) (s.endExtraction c k x b d m) := by
  obtain ⟨wet, clocks, h⟩ := s.endExtraction_eq c k x b d m
  rw [h]
  have sent : Evolves [.chans, .host, .saf] (s.scanNoted c k x b d m) (s.resultsSent c k x b d m) :=
    ev_modChan (by decide) (ev_doIf (fun _ h => ev_zoneDeliver (by decide) h)
      (ev_forAll (fun _ _ h => ev_pushRec (by decide) h) ev_refl))
  exact onlyRegs_trans (onlyRegs_trans (onlyRegs_trans (sent.1.onlyRegs (by decide)) regs_xDone) regs_leaveBuf)
    (evolves_nextExtract.1.onlyRegs (by decide))

theorem STR_CH_not_mem_eventRegs : STR_CH c k ∉ eventRegs := by
  intro h
  simp only [eventRegs, List.mem_cons, List.not_mem_nil, or_false, STR_CH, HIF_FN_ERR, HIF_EVQ_STAT, HIF_IRQ_STAT] at h
  omega

theorem STR_CH_not_mem_extractionRegs (hk : k < 16) : STR_CH c k ∉ extractionRegs c := by
  rw [extractionRegs, List.mem_cons, List.mem_cons, List.mem_cons, not_or, not_or, not_or]
  refine ⟨?_, ?_, ?_, STR_CH_not_mem_eventRegs⟩
  all_goals simp only [STR_CH, STR_CRT, CHU_XTIME, CHU_DUMP_STAT]; omega

/-- The window level old after a probe dwell whose probe window summed up to w: a sixteenth of the way further (R322). -/
def levelAfter (old w : Nat) : Nat := ((old : Int) + roundDiv ((w : Int) - old) 16).toNat

/-- A level moves within the 16 bits of its field. -/
theorem levelAfter_lt {old w : Nat} (hold : old < 65536) (hw : w ≤ 65535) : levelAfter old w < 65536 := by
  unfold levelAfter roundDiv
  omega

/-- The level moves, and the channel's state follows it with hysteresis (R322). -/
theorem State.windowLevel_eq {w n : Nat} (hn : levelAfter (s.rd (STR_CH_wl c k)) w = n) (hlt : n < 65536) :
    (s.windowLevel c k w d).rd (STR_CH_wl c k) = n
      ∧ (s.windowLevel c k w d).flag (STR_CH_dirty c k) = (if s.flag (STR_CH_dirty c k) = true
          then decide (256 * d.rd STR_WIN_LVL_clean < n) else decide (256 * d.rd STR_WIN_LVL_dirty ≤ n)) := by
  have level : (s.put (STR_CH_wl c k) n).rd (STR_CH_wl c k) = n := by
    rw [State.rd_put_same (by simp [STR_CH_wl])]
    exact Nat.mod_eq_of_lt hlt
  have state : (s.put (STR_CH_wl c k) n).flag (STR_CH_dirty c k) = s.flag (STR_CH_dirty c k) := by
    unfold State.flag
    rw [State.rd_put_apart (Or.inr (Or.inr (by simp [STR_CH_wl, STR_CH_dirty])))]
  have change : ∀ (on : Bool) (data : List Word),
      (((s.put (STR_CH_wl c k) n).putB (STR_CH_dirty c k) on).post 0x22 2 (16 * c + k) data).rd (STR_CH_wl c k) = n
      ∧ (((s.put (STR_CH_wl c k) n).putB (STR_CH_dirty c k) on).post 0x22 2 (16 * c + k) data).flag (STR_CH_dirty c k)
        = on := fun on data => by
    rw [rd_post STR_CH_not_mem_eventRegs, flag_post STR_CH_not_mem_eventRegs,
      State.rd_putB_apart (Or.inr (Or.inl (by simp [STR_CH_wl, STR_CH_dirty]))), level,
      State.flag_putB_same (by simp [STR_CH_dirty]) rfl]
    exact ⟨rfl, rfl⟩
  unfold State.windowLevel
  dsimp only
  rw [show ((s.rd (STR_CH_wl c k) : Int) + roundDiv (w - s.rd (STR_CH_wl c k)) 16).toNat = n from hn]
  cases hf : s.flag (STR_CH_dirty c k)
  · by_cases h : 256 * d.rd STR_WIN_LVL_dirty ≤ n
    · simp [h, change]
    · simp [h, level, state, hf]
  · by_cases h : n ≤ 256 * d.rd STR_WIN_LVL_clean
    · simp [h, change]
    · simp [h, level, state, hf, Nat.not_le.1 h]

/-- A probe dwell that fired moves the channel's window level to the sum of its probe window (R321, R322). -/
theorem State.level_scanNoted (hp : b.probe = true) (hf : 0 < m.fired) (hs : b.probeSum ≤ 65535) {n : Nat}
    (hn : levelAfter (s.rd (STR_CH_wl c k)) (if b.probeOver then 65535 else b.probeSum) = n) :
    (s.scanNoted c k x b d m).rd (STR_CH_wl c k) = n
      ∧ (s.scanNoted c k x b d m).flag (STR_CH_dirty c k) = (if s.flag (STR_CH_dirty c k) = true
          then decide (256 * d.rd STR_WIN_LVL_clean < n) else decide (256 * d.rd STR_WIN_LVL_dirty ≤ n)) := by
  have fitted : ∀ f : FRef, f.apart (STR_CH_fit c k) → (doIf (s.extract c k x b d m).scan.made (fun t =>
      t.putB (STR_CH_fit c k) (s.extract c k x b d m).scan.accepted) s).rd f = s.rd f := fun f h =>
    doIf_induction (P := fun t => t.rd f = s.rd f) rfl (fun _ => State.rd_putB_apart (Or.inr h))
  have level := fitted (STR_CH_wl c k) (Or.inl (by simp [STR_CH_wl, STR_CH_fit]))
  have state := congrArg (· != 0) (fitted (STR_CH_dirty c k) (Or.inl (by simp [STR_CH_dirty, STR_CH_fit])))
  have hlt : n < 65536 := hn ▸ levelAfter_lt State.rd_lt (by split <;> omega)
  rw [State.scanNoted, hp, decide_eq_true hf, Bool.and_self, doIf_true]
  have moved := State.windowLevel_eq (d := d) (level.symm ▸ hn) hlt
  rwa [show State.flag _ _ = s.flag (STR_CH_dirty c k) from state] at moved

/-! ## The command (R275) -/

/-- While Churn works and the record FIFO has room for the channel's records, the extractor ends the channel. -/
theorem exec_channelExtractionDone_room {c : CrateId} {k : ChanId} (hlive : s.churnLive = true)
    (hx : (s.chan c k).bufIn .extract = some x) (hb : b = (s.chan c k).buf x) (hd : b.dwell = some d) (hm : b.mark = some m)
    (hroom : s.host.recs.length + (s.extract c k x b d m).returns.length ≤ 1024) :
    exec (.channelExtractionDone c k []) s = .next (s.endExtraction c k x b d m) := by
  subst hb
  have hroom' : s.host.recs.length + (s.extract c k x ((s.chan c k).buf x) d m).returns.length ≤ recFifoSize := hroom
  simp [exec, execChannelExtractionDone, hx, State.eccReads, hd, hm, hlive, hroom']

/-- Without that room it stalls. -/
theorem exec_channelExtractionDone_full {c : CrateId} {k : ChanId} (hlive : s.churnLive = true)
    (hx : (s.chan c k).bufIn .extract = some x) (hb : b = (s.chan c k).buf x) (hd : b.dwell = some d) (hm : b.mark = some m)
    (hsome : (s.extract c k x b d m).returns ≠ [])
    (hfull : 1024 < s.host.recs.length + (s.extract c k x b d m).returns.length) :
    exec (.channelExtractionDone c k []) s = .next (s.stallExtractor c b.dwellId) := by
  subst hb
  have hfull' : recFifoSize < s.host.recs.length + (s.extract c k x ((s.chan c k).buf x) d m).returns.length := hfull
  simp [exec, execChannelExtractionDone, hx, State.eccReads, hd, hm, hlive, hsome, Nat.not_le.2 hfull']

/-- A missing result, as R287 says it. -/
theorem State.zoneResult_eq {c k : Nat} : s.zoneResult c k x b d m
    = if b.corrupt = true ∨ m.fired = 0 ∨ m.fired ≤ m.noStart then none
      else some ((s.extract c k x b d m).returns.map (fun y => y.zoneRet b d m c k)) := by
  simp [State.zoneResult, missedDwell]

/-- Settles O33: the first four clauses follow one command through `endExtraction_eq`; the last two are what the scan and the
order of the returns give. -/
theorem extraction : Obligations.Extraction := by
  unfold Obligations.Extraction
  refine ⟨?plain, ?safety, ?corrupt, ?probe, ?stall, ?cands, ?returns⟩
  case plain =>
    intro c k x b d m s hlive hx hb hd hm hroom _ hprobe hdue hsafe
    obtain ⟨l, hl, hev⟩ := addsEvents_endExtraction (s := s) (c := c) (k := k) (x := x) (b := b) (d := d) (m := m)
    have bytes := fun e a => s.bankByte_endExtraction (c := c) (k := k) (x := x) (d := d) (m := m) (e := e) (a := a) hdue
    rw [← hb] at bytes
    refine ⟨_, l, exec_channelExtractionDone_room hlive hx hb hd hm hroom, ?_, hev, State.st_endExtraction hdue,
      fun a ha => ?_, fun n a hn hp ha => ?_, fun n a hn hp ha => ?_, fun e a he => ?_, ?_, onlyCrates_endExtraction hdue⟩
    · rw [hl, State.recs_resultsSent hprobe hroom]
    · rw [bytes, Buf.clears_coarse k.isLt ha, if_pos rfl]
    · rw [bytes, Buf.clears_fine k.isLt hn ha hp, if_pos rfl]
    · rw [bytes, Buf.clears_fine_of_none k.isLt hn ha hp]
      rfl
    · rw [bytes, Buf.clears_other k.isLt he]
      rfl
    · rw [State.saf_endExtraction, State.saf_resultsSent_of_not_safety hsafe]
  case safety =>
    intro c k x b d m w s hlive hx hb hd hm hroom hdue hsafe hw hserves
    obtain ⟨l, hl, hev⟩ := addsEvents_endExtraction (s := s) (c := c) (k := k) (x := x) (b := b) (d := d) (m := m)
    have hsaf : (s.recordsSent c k x b d m).saf = s.saf := evolves_recordsSent.1 .saf (by decide)
    have hwait : (s.recordsSent c k x b d m).saf.zoneWait.find? (fun y => y.is (16 * c.val + k.val) d.angle d.sweep)
        = some w := by
      rw [hsaf, ← hw]
      simp only [ZWait.is, Bool.decide_and, Bool.and_assoc]
    obtain ⟨hres, hlen⟩ := State.saf_zoneDeliver (r := s.zoneResult c k x b d m) hwait hserves
    rw [hsaf] at hres hlen
    refine ⟨_, l, exec_channelExtractionDone_room hlive hx hb hd hm hroom, ?_, ?_, fun hprobe => ?_, hev,
      State.st_endExtraction hdue, onlyCrates_endExtraction hdue⟩
    · rw [State.saf_endExtraction, State.saf_resultsSent hsafe, hres, State.zoneResult_eq]
    · rw [State.saf_endExtraction, State.saf_resultsSent hsafe, hlen]
    · rw [hl, State.recs_resultsSent hprobe hroom]
  case corrupt =>
    intro c k x b d m s hlive hx hb hd hm hroom hcorrupt
    obtain ⟨l, hl, hev⟩ := addsEvents_endExtraction_of_corrupt (s := s) (c := c) (k := k) (x := x) (d := d) (m := m) hcorrupt
    exact ⟨State.cands_extract_of_corrupt hcorrupt, State.returns_extract_of_corrupt hcorrupt, _, l,
      exec_channelExtractionDone_room hlive hx hb hd hm hroom, hl, fun r hr => by rw [hev r hr]; decide,
      fun a ha => State.bankByte_endExtraction_of_corrupt k.isLt hcorrupt ha⟩
  case probe =>
    intro c k x b d m wl s hlive hx hb hd hm hroom hprobe hfired _ hsum hwl
    have hn : levelAfter (s.rd (STR_CH_wl c k)) (if b.probeOver then 65535 else b.probeSum) = wl := by
      unfold levelAfter
      rw [Nat.cast_ite, Nat.cast_ofNat, ← hwl, Int.toNat_natCast]
    obtain ⟨hlevel, hstate⟩ := State.level_scanNoted (x := x) (d := d) hprobe hfired hsum hn
    have kept : OnlyRegs (extractionRegs c) (s.scanNoted c k x b d m) (s.endExtraction c k x b d m) := regs_endExtraction
    refine ⟨fun y hy => (State.mem_returns_extract hy).2.1, _, exec_channelExtractionDone_room hlive hx hb hd hm hroom, ?_, ?_⟩
    · rw [kept.rd (STR_CH_not_mem_extractionRegs k.isLt), hlevel]
    · rw [kept.flag (STR_CH_not_mem_extractionRegs k.isLt), hstate]
  case stall =>
    intro c k x b d m s hx hb hd hm hlive hsome hfull
    exact ⟨_, exec_channelExtractionDone_full hlive hx hb hd hm hsome hfull, State.crate_modCrate_same, onlyCrates_modCrate,
      (ev_stallExtractor (by decide) ev_refl).1⟩
  case cands =>
    intro c k x b d m v y s hv hy
    subst hv
    obtain ⟨z, hz, hyz⟩ := State.cand_extract_of_mem hy
    obtain ⟨hlo, hhi, hpeak⟩ := Descr.peak_of_mem_candidates hz
    rw [← hyz] at hlo hhi hpeak
    refine ⟨State.length_cands_extract, hlo, hhi, hpeak.positive, hpeak.left, hpeak.right, hpeak.sum, fun z hz hne => ?_,
      fun j hj => State.net_scan_extract hj⟩
    have apart := State.cands_extract_apart hz hy hne
    unfold natDist at apart
    omega
  case returns =>
    intro c k x b d m y i s hy
    obtain ⟨hi, hiy⟩ := List.getElem?_eq_some_iff.1 hy
    obtain ⟨hcand, hprobed, hconf⟩ := State.mem_returns_extract (List.mem_of_getElem? hy)
    refine ⟨lt_of_lt_of_le hi State.length_returns_extract, hcand, hprobed, hconf, fun z hz => ?_⟩
    obtain ⟨hj, hjz⟩ := List.getElem?_eq_some_iff.1 hz
    rw [← hiy, ← hjz]
    exact List.pairwise_iff_getElem.1 State.returns_extract_sorted i (i + 1) hi hj (Nat.lt_succ_self i)

end Sys2Proof.Machine
end

section
/-! PROOFS. One pass over the channels of a crate, or of the device: each channel has its turn once, and what the turns of the
others leave of it. Beside this the reading rules of fields and flags that the receiver's proofs share. -/

namespace Sys2Proof.Machine

variable {s t u : State} {c k : Nat}

/-! ## Fields -/

theorem FRef.get_lt {f : FRef} {w : Word} : f.get w < 2 ^ f.width := by
  refine Nat.lt_pow_two_of_testBit _ (fun i hi => ?_)
  rw [FRef.testBit_get]
  simp [Nat.not_lt.mpr hi]

/-- A field written with what it holds leaves its word alone. -/
theorem FRef.set_get {f : FRef} {w : Word} : f.set (f.get w) w = w := by
  refine BitVec.eq_of_getLsbD_eq (fun i hi => ?_)
  rw [FRef.getLsbD_set _ _ _ _ hi]
  split
  · rename_i h
    rw [FRef.testBit_get, Nat.add_sub_cancel' h.1]
    simp [show i - f.lsb < 32 by omega, show i - f.lsb < f.width by omega]
  · rfl

/-- A field written with a value that fits it reads that value. -/
theorem State.rd_put_of_lt {f : FRef} {v : Nat} (hf : f.fits) (hv : v < 2 ^ f.width) : (s.put f v).rd f = v := by
  rw [State.rd_put_same hf, Nat.mod_eq_of_lt hv]

theorem State.rd_bump_same {f : FRef} {n : Nat} (hf : f.fits) :
    (s.bump f n).rd f = min (s.rd f + n) (2 ^ f.width - 1) := by
  refine State.rd_put_of_lt hf (lt_of_le_of_lt (Nat.min_le_right ..) ?_)
  have := Nat.two_pow_pos f.width
  omega

/-- Two fields lie beside each other in a word; for given fields this is true by computation. -/
def FRef.beside (f g : FRef) : Bool := (f.lsb + f.width).ble g.lsb || (g.lsb + g.width).ble f.lsb

theorem FRef.apart_of_beside {f g : FRef} (h : f.beside g = true) : f.apart g := by
  unfold FRef.beside at h
  rwa [Bool.or_eq_true, Nat.ble_eq, Nat.ble_eq] at h

theorem State.rd_put_beside {f g : FRef} {v : Nat} (h : f.beside g = true) : (s.put g v).rd f = s.rd f :=
  State.rd_put_apart (.inr (FRef.apart_of_beside h))

theorem State.rd_putB_beside {f g : FRef} {b : Bool} (h : f.beside g = true) : (s.putB g b).rd f = s.rd f :=
  State.rd_put_beside h

theorem State.flag_put_apart {f g : FRef} {v : Nat} (h : g.addr ≠ f.addr ∨ f.apart g) : (s.put g v).flag f = s.flag f := by
  unfold State.flag
  rw [State.rd_put_apart h]

theorem State.flag_put_beside {f g : FRef} {v : Nat} (h : f.beside g = true) : (s.put g v).flag f = s.flag f :=
  State.flag_put_apart (.inr (FRef.apart_of_beside h))

theorem State.flag_putB_beside {f g : FRef} {b : Bool} (h : f.beside g = true) : (s.putB g b).flag f = s.flag f :=
  State.flag_put_beside h

/-- Two states with the same word at a field's address agree in the field. -/
theorem State.rd_congr {f : FRef} (h : t.reg f.addr = s.reg f.addr) : t.rd f = s.rd f := by
  unfold State.rd
  rw [h]

theorem State.flag_congr {f : FRef} (h : t.reg f.addr = s.reg f.addr) : t.flag f = s.flag f := by
  unfold State.flag
  rw [State.rd_congr h]

theorem OnlyChanges.reg {L : List Part} (h : OnlyChanges L s t) (hp : Part.regs ∉ L) (a : Nat) : t.reg a = s.reg a :=
  congrArg (fun m => sparseGet resetWord m a) (h .regs hp)

theorem OnlyChanges.rd {L : List Part} (h : OnlyChanges L s t) (hp : Part.regs ∉ L) (f : FRef) : t.rd f = s.rd f :=
  State.rd_congr (h.reg hp _)

theorem OnlyChanges.flag {L : List Part} (h : OnlyChanges L s t) (hp : Part.regs ∉ L) (f : FRef) : t.flag f = s.flag f :=
  State.flag_congr (h.reg hp _)

/-- The power state of a crate stands in the clock block's registers (R603). -/
theorem cratePwrField_addr_lt : (cratePwrField c).addr < 0x1019 := by
  unfold cratePwrField
  split
  · exact (by decide : CLK_CRT_PWR_LO < 0x1019)
  · exact (by decide : CLK_CRT_PWR_HI < 0x1019)

/-- The registers of the crates and the channels lie above those that an event writes. -/
theorem not_mem_eventRegs {a : Nat} (h : 0x10000 ≤ a) : a ∉ eventRegs := by
  simp only [eventRegs, List.mem_cons, List.not_mem_nil, or_false, HIF_FN_ERR, HIF_EVQ_STAT, HIF_IRQ_STAT]
  omega

/-! ## Passes -/

/-- What leaves the channels alone keeps the ones that stayed. -/
theorem OnlyChans.evolves {L : List Part} {m : List (Nat × Nat)} (h : OnlyChans m s t) (g : Evolves L t u)
    (hp : Part.chans ∉ L) : OnlyChans m s u := h.trans (g.1.onlyChans hp)

theorem onlyChans_refl {m : List (Nat × Nat)} : OnlyChans m s s := fun _ _ _ _ => rfl

/-- A change of a listed channel. -/
theorem OnlyChans.modChan {m : List (Nat × Nat)} {f : Chan → Chan} (h : OnlyChans m s t) (hk : k < 16) (hm : (c, k) ∈ m) :
    OnlyChans m s (t.modChan c k f) := h.trans (onlyChans_modChan hk hm)


/-- A pass over a list without repeats comes to x once; before and after it only the turns of the others act. -/
theorem forAll_turn {ι : Type} {R : State → State → Prop} {l : List ι} {f : State → ι → State} {x : ι}
    (refl : ∀ u, R u u) (trans : ∀ u v w, R u v → R v w → R u w) (nd : l.Nodup) (hx : x ∈ l)
    (other : ∀ u y, y ∈ l → y ≠ x → R u (f u y)) : ∃ u, R s u ∧ R (f u x) (forAll l f s) := by
  obtain ⟨before, after, rfl⟩ := List.append_of_mem hx
  obtain ⟨-, hafter, hbefore⟩ := List.nodup_append.1 nd
  have pass : ∀ (m : List ι) (v : State), (∀ y ∈ m, y ∈ before ++ x :: after ∧ y ≠ x) → R v (forAll m f v) :=
    fun m v hm => forAll_induction (refl v) (fun u y hy h => trans _ _ _ h (other u y (hm y hy).1 (hm y hy).2))
  refine ⟨forAll before f s, pass _ _ (fun y hy => ⟨List.mem_append_left _ hy, fun h => ?_⟩), ?_⟩
  · exact hbefore y hy x (List.mem_cons_self ..) h
  · have split : forAll (before ++ x :: after) f s = forAll after f (f (forAll before f s) x) := List.foldl_append
    rw [split]
    refine pass _ _ (fun y hy => ⟨List.mem_append_right _ (List.mem_cons_of_mem _ hy), fun h => ?_⟩)
    exact (List.nodup_cons.1 hafter).1 (h ▸ hy)

/-- From s to t channel k of crate c stayed, and so did every register but those listed and the registers r of other channels. -/
structure KeepsChan (r : Nat → Nat → Nat) (l : List Nat) (c k : Nat) (s t : State) : Prop where
  chan : t.chan c k = s.chan c k
  regs : ∀ a, a ∉ l → (∀ d j, j < 16 → (d, j) ≠ (c, k) → r d j ≠ a) → t.reg a = s.reg a

section KeepsChan

variable {r : Nat → Nat → Nat} {l : List Nat}

theorem keepsChan_refl : KeepsChan r l c k s s := ⟨rfl, fun _ _ _ => rfl⟩

theorem KeepsChan.trans (h : KeepsChan r l c k s t) (g : KeepsChan r l c k t u) : KeepsChan r l c k s u where
  chan := g.chan.trans h.chan
  regs := fun a ha hr => (g.regs a ha hr).trans (h.regs a ha hr)

/-- The turn of another channel. -/
theorem keepsChan_of_other {d j : Nat} (hk : k < 16) (hj : j < 16) (hne : (d, j) ≠ (c, k)) (hr : OnlyRegs (r d j :: l) s t)
    (hc : OnlyChans [(d, j)] s t) : KeepsChan r l c k s t where
  chan := hc c k hk (fun h => hne (List.mem_singleton.1 h).symm)
  regs := fun a ha h => hr a (fun hm => (List.mem_cons.1 hm).elim (fun e => h d j hj hne e.symm) ha)

/-- A register that no channel's turn reaches. -/
theorem KeepsChan.rd {f : FRef} (h : KeepsChan r l c k s t) (hl : f.addr ∉ l) (hr : ∀ d j, j < 16 → r d j ≠ f.addr) :
    t.rd f = s.rd f := State.rd_congr (h.regs _ hl (fun d j hj _ => hr d j hj))

theorem KeepsChan.flag {f : FRef} (h : KeepsChan r l c k s t) (hl : f.addr ∉ l) (hr : ∀ d j, j < 16 → r d j ≠ f.addr) :
    t.flag f = s.flag f := State.flag_congr (h.regs _ hl (fun d j hj _ => hr d j hj))

/-- The channel's own register among r, where r names a register for each channel. -/
theorem KeepsChan.own (h : KeepsChan r l c k s t) (hl : r c k ∉ l)
    (inj : ∀ d j, j < 16 → r d j = r c k → (d, j) = (c, k)) : t.reg (r c k) = s.reg (r c k) :=
  h.regs _ hl (fun d j hj hne he => hne (inj d j hj he))

/-- A pass over the channels of crate c: what channel k finds at its turn, and what the pass leaves of it. -/
theorem forAll_chanNos_turn {f : State → Nat → State} (hk : k < 16) (hr : ∀ u j, j < 16 → OnlyRegs (r c j :: l) u (f u j))
    (hc : ∀ u j, j < 16 → OnlyChans [(c, j)] u (f u j)) :
    ∃ u, KeepsChan r l c k s u ∧ KeepsChan r l c k (f u k) (forAll chanNos f s) := by
  refine forAll_turn (fun _ => keepsChan_refl) (fun _ _ _ => KeepsChan.trans) List.nodup_range (List.mem_range.2 hk)
    (fun u j hj hne => ?_)
  have hj' : j < 16 := List.mem_range.1 hj
  exact keepsChan_of_other hk hj' (fun h => hne (Prod.mk.inj h).2) (hr u j hj') (hc u j hj')

/-- The same for a pass over the channels of every crate. -/
theorem forAll_crateNos_turn {f : State → Nat → Nat → State} (hd : c < 32) (hk : k < 16)
    (hr : ∀ u d j, j < 16 → OnlyRegs (r d j :: l) u (f u d j)) (hc : ∀ u d j, j < 16 → OnlyChans [(d, j)] u (f u d j)) :
    ∃ u, KeepsChan r l c k s u
      ∧ KeepsChan r l c k (f u c k) (forAll crateNos (fun v d => forAll chanNos (fun w j => f w d j) v) s) := by
  obtain ⟨v, hv, hv'⟩ := forAll_turn (s := s) (R := KeepsChan r l c k) (l := crateNos) (x := c)
    (f := fun v d => forAll chanNos (fun w j => f w d j) v) (fun _ => keepsChan_refl) (fun _ _ _ => KeepsChan.trans)
    List.nodup_range (List.mem_range.2 hd)
    (fun u d _ hne => forAll_induction (P := KeepsChan r l c k u) keepsChan_refl (fun w j hj h =>
      h.trans (keepsChan_of_other hk (List.mem_range.1 hj) (fun e => hne (Prod.mk.inj e).1) (hr w d j (List.mem_range.1 hj))
        (hc w d j (List.mem_range.1 hj)))))
  obtain ⟨u, hu, hu'⟩ := forAll_chanNos_turn (s := v) (f := fun w j => f w c j) hk (fun u j hj => hr u c j hj)
    (fun u j hj => hc u c j hj)
  exact ⟨u, hv.trans hu, hu'.trans hv'⟩

end KeepsChan

theorem regs_forAll_chanNos {f : State → Nat → State} {r : Nat → Nat} (hr : ∀ u j, j < 16 → OnlyRegs [r j] u (f u j)) :
    OnlyRegs (chanNos.map r) s (forAll chanNos f s) :=
  forAll_induction onlyRegs_refl (fun u j hj h => onlyRegs_trans h (onlyRegs_mono (fun b hb => by
    rw [List.mem_singleton.1 hb]
    exact List.mem_map_of_mem hj) (hr u j (List.mem_range.1 hj))))

theorem onlyChans_forAll_chanNos {f : State → Nat → State} (hc : ∀ u j, j < 16 → OnlyChans [(c, j)] u (f u j)) :
    OnlyChans (chanNos.map (fun j => (c, j))) s (forAll chanNos f s) :=
  forAll_induction onlyChans_refl (fun u j hj h => h.trans (fun d i hi hn => hc u j (List.mem_range.1 hj) d i hi (fun hm => by
    rw [List.mem_singleton.1 hm] at hn
    exact hn (List.mem_map_of_mem hj))))

end Sys2Proof.Machine
end

section
/-! PROOFS. Ambient frames (spec/02 R54 to R56): the code of a mean current, what the end of a frame shows of one channel, and the
obligation `Obligations.AmbientFrames`. -/

namespace Sys2Proof.Machine

variable {s t u : State} {c k : Nat} {mean : Int}

/-! ## The code (R54, R55) -/

theorem ambientCode_of_within (h0 : 0 ≤ mean) (h1 : mean < 2000 * 2 ^ 20) :
    ambientCode mean = ((mean / 2000).toNat, false, false) := by
  unfold ambientCode
  rw [if_neg (by omega), if_neg (by omega)]

/-- A mean within the converter's range gives a code of 20 bits. -/
theorem ambientStep_fits (h0 : 0 ≤ mean) (h1 : mean < 2000 * 2 ^ 20) : (((mean / 2000).toNat % 2 ^ 20 : Nat) : Int) = mean / 2000 := by
  rw [Nat.mod_eq_of_lt (by omega), Int.toNat_of_nonneg (by omega)]

theorem ambientCode_of_over (h : 2000 * 2 ^ 20 ≤ mean) : ambientCode mean = (0xFFFFF, true, false) := if_pos h

theorem ambientCode_of_below_zero (h0 : -2000 ≤ mean) (h1 : mean < 0) : ambientCode mean = (0, false, false) := by
  unfold ambientCode
  rw [if_neg (by omega), if_neg (by omega), Int.toNat_eq_zero.2 (by omega)]

theorem ambientCode_of_under (h : mean < -2000) : ambientCode mean = (0, false, true) := by
  unfold ambientCode
  rw [if_neg (by omega), if_pos h]

/-! ## One channel (R54 to R56) -/

/-- A result is written into the channel's own register. -/
theorem regs_ambientResult : OnlyRegs [CHN_AMB c k] s (s.ambientResult c k mean) := by
  have own : ∀ {f : FRef}, f.addr = CHN_AMB c k → f.addr ∈ [CHN_AMB c k] := fun h => List.mem_singleton.2 h
  unfold State.ambientResult
  dsimp only
  refine regs_ite (regs_modChan onlyRegs_refl) (regs_ite (regs_modChan (regs_putB (own rfl) onlyRegs_refl)) ?_)
  exact regs_doIf (fun _ h => regs_detect h) (regs_modChan (regs_putB (own rfl) (regs_putB (own rfl) (regs_putB (own rfl)
    (regs_put (own rfl) onlyRegs_refl)))))

theorem onlyChans_ambientResult (hk : k < 16) : OnlyChans [(c, k)] s (s.ambientResult c k mean) := by
  have own : ∀ {t : State} {f : Chan → Chan}, Evolves [.regs] s t → OnlyChans [(c, k)] s (t.modChan c k f) := fun h =>
    (onlyChans_refl.evolves h (by decide)).modChan hk (List.mem_singleton_self _)
  unfold State.ambientResult
  dsimp only
  split
  · exact own ev_refl
  · split
    · exact own (ev_putB (by decide) ev_refl)
    · have shown := own (f := fun g => { g with ambInvalid := (s.crate c).tone.isSome, ambDelivered := true })
        (ev_putB (f := CHN_AMB_valid c k) (b := !(s.chan c k).ambInvalid) (by decide) (ev_putB (f := CHN_AMB_under c k)
          (b := (ambientCode mean).2.2) (by decide) (ev_putB (f := CHN_AMB_over c k) (b := (ambientCode mean).2.1) (by decide)
            (ev_put (f := CHN_AMB_amb c k) (v := (ambientCode mean).1) (by decide) ev_refl))))
      exact doIf_induction shown (fun h => h.evolves (ev_detect (L := [.flt]) (by decide) ev_refl) (by decide))

/-- The result of a channel that is not OFF, in a crate that is not (R54 to R56). -/
theorem State.ambientResult_shows (hp : s.cratePowered c = true) (hst : (s.chan c k).st ≠ .off) :
    (s.ambientResult c k mean).rd (CHN_AMB_amb c k) = (ambientCode mean).1 % 2 ^ 20
      ∧ (s.ambientResult c k mean).flag (CHN_AMB_over c k) = (ambientCode mean).2.1
      ∧ (s.ambientResult c k mean).flag (CHN_AMB_under c k) = (ambientCode mean).2.2
      ∧ (s.ambientResult c k mean).flag (CHN_AMB_valid c k) = !(s.chan c k).ambInvalid := by
  have shown : (s.ambientResult c k mean).reg (CHN_AMB c k) = ((((s.put (CHN_AMB_amb c k) (ambientCode mean).1).putB
      (CHN_AMB_over c k) (ambientCode mean).2.1).putB (CHN_AMB_under c k) (ambientCode mean).2.2).putB (CHN_AMB_valid c k)
        (!(s.chan c k).ambInvalid)).reg (CHN_AMB c k) := by
    unfold State.ambientResult
    simp only [hp, hst, Bool.not_true, Bool.false_eq_true, if_false]
    refine doIf_induction (P := fun t => t.reg (CHN_AMB c k) = _) ((ev_modChan (L := [.chans]) (by decide) ev_refl).1.reg
      (by decide) _) (fun h => ?_)
    exact ((ev_detect (L := [.flt]) (by decide) ev_refl).1.reg (by decide) _).trans h
  rw [State.rd_congr (f := CHN_AMB_amb c k) shown, State.flag_congr (f := CHN_AMB_over c k) shown,
    State.flag_congr (f := CHN_AMB_under c k) shown, State.flag_congr (f := CHN_AMB_valid c k) shown]
  refine ⟨?code, ?above, ?below, ?valid⟩
  case code =>
    rw [State.rd_putB_beside (by rfl), State.rd_putB_beside (by rfl), State.rd_putB_beside (by rfl), State.rd_put_same (by simp [CHN_AMB_amb])]
    rfl
  case above =>
    rw [State.flag_putB_beside (by rfl), State.flag_putB_beside (by rfl), State.flag_putB_same (by simp [CHN_AMB_over]) rfl]
  case below =>
    rw [State.flag_putB_beside (by rfl), State.flag_putB_same (by simp [CHN_AMB_under]) rfl]
  case valid => exact State.flag_putB_same (by simp [CHN_AMB_valid]) rfl

/-- A channel that is OFF has no valid result, and shows its last one (R54). -/
theorem State.ambientResult_off (hp : s.cratePowered c = true) (hst : (s.chan c k).st = .off) :
    (s.ambientResult c k mean).flag (CHN_AMB_valid c k) = false
      ∧ (s.ambientResult c k mean).rd (CHN_AMB_amb c k) = s.rd (CHN_AMB_amb c k) := by
  have shown : (s.ambientResult c k mean).reg (CHN_AMB c k) = (s.putB (CHN_AMB_valid c k) false).reg (CHN_AMB c k) := by
    unfold State.ambientResult
    simp only [hp, hst, Bool.not_true, Bool.false_eq_true, if_false, if_true]
    exact (ev_modChan (L := [.chans]) (by decide) ev_refl).1.reg (by decide) _
  rw [State.rd_congr (f := CHN_AMB_amb c k) shown, State.flag_congr (f := CHN_AMB_valid c k) shown]
  exact ⟨State.flag_putB_same (by simp [CHN_AMB_valid]) rfl, State.rd_putB_beside (by rfl)⟩

/-! ## The frame -/

theorem CHN_AMB_injective {d j : Nat} (hk : k < 16) (hj : j < 16) (h : CHN_AMB d j = CHN_AMB c k) : (d, j) = (c, k) := by
  simp only [CHN_AMB] at h
  rw [Prod.mk.injEq]
  omega

/-- What a channel finds at its turn is what it held before, and what its turn shows of it stays (R54 to R56). -/
theorem exec_ambientFrameEnd_channel {m : List AmbientMean} {c : CrateId} {k : ChanId} (hlive : s.fabricLive = true) :
    ∃ t u : State, exec (.ambientFrameEnd m) s = .next t ∧ u.chan c k = s.chan c k ∧ u.cratePowered c = s.cratePowered c
      ∧ u.reg (CHN_AMB c k) = s.reg (CHN_AMB c k)
      ∧ t.reg (CHN_AMB c k) = (u.ambientResult c k (m.getD (16 * c.val + k.val) 0)).reg (CHN_AMB c k) := by
  have hexec : exec (.ambientFrameEnd m) s = .next (forAll crateNos (fun u d => forAll chanNos (fun v j =>
      v.ambientResult d j (m.getD (16 * d + j) 0)) u) s) := by simp [exec, execAmbientFrameEnd, hlive]
  obtain ⟨u, before, after⟩ := forAll_crateNos_turn (s := s) (r := CHN_AMB) (l := []) c.isLt k.isLt
    (f := fun v d j => v.ambientResult d j (m.getD (16 * d + j) 0)) (fun _ _ _ _ => regs_ambientResult)
    (fun _ _ _ hj => onlyChans_ambientResult hj)
  have inj : ∀ d j, j < 16 → CHN_AMB d j = CHN_AMB c k → (d, j) = (c.val, k.val) := fun _ _ hj h =>
    CHN_AMB_injective k.isLt hj h
  refine ⟨_, u, hexec, before.chan, ?_, before.own List.not_mem_nil inj, after.own List.not_mem_nil inj⟩
  refine congrArg (· != 0) (before.rd List.not_mem_nil (fun d j _ h => ?_))
  have := cratePwrField_addr_lt (c := c.val)
  simp only [← h, CHN_AMB] at this
  omega

/-- Settles O9: each clause is one row of `ambientCode`, shown at the channel's turn. -/
theorem ambientFrames : Obligations.AmbientFrames := by
  unfold Obligations.AmbientFrames
  have result : ∀ (m : List AmbientMean) (s : State) (c : CrateId) (k : ChanId), s.fabricLive = true →
      s.cratePowered c = true → (s.chan c k).st ≠ .off → ∀ n above below,
      ambientCode (m.getD (16 * c.val + k.val) 0) = (n, above, below) → ∃ t, exec (.ambientFrameEnd m) s = .next t
        ∧ t.rd (CHN_AMB_amb c k) = n % 2 ^ 20 ∧ t.flag (CHN_AMB_over c k) = above ∧ t.flag (CHN_AMB_under c k) = below
        ∧ t.flag (CHN_AMB_valid c k) = !(s.chan c k).ambInvalid := by
    intro m s c k hlive hp hst n above below hcode
    obtain ⟨t, u, hexec, hchan, hpow, -, hreg⟩ := exec_ambientFrameEnd_channel (m := m) (c := c) (k := k) hlive
    obtain ⟨hamb, hover, hunder, hvalid⟩ := State.ambientResult_shows (mean := m.getD (16 * c.val + k.val) 0)
      (hpow.trans hp) (hchan ▸ hst)
    rw [hcode] at hamb hover hunder
    rw [hchan] at hvalid
    exact ⟨t, hexec, (State.rd_congr hreg).trans hamb, (State.flag_congr hreg).trans hover,
      (State.flag_congr hreg).trans hunder, (State.flag_congr hreg).trans hvalid⟩
  refine ⟨?within, ?above, ?off, ?belowZero, ?below⟩
  case within =>
    intro m s c k hlive hp hst h0 h1
    obtain ⟨t, hexec, hamb, hover, hunder, hvalid⟩ := result m s c k hlive hp hst _ _ _ (ambientCode_of_within h0 h1)
    refine ⟨t, hexec, ?_, hover, hunder, hvalid⟩
    rw [hamb, ambientStep_fits h0 h1]
  case above =>
    intro m s c k hlive hp hst h
    obtain ⟨t, hexec, hamb, hover, hunder, -⟩ := result m s c k hlive hp hst _ _ _ (ambientCode_of_over h)
    exact ⟨t, hexec, hamb, hover, hunder⟩
  case off =>
    intro m s c k hlive hp hst
    obtain ⟨t, u, hexec, hchan, hpow, hsame, hreg⟩ := exec_ambientFrameEnd_channel (m := m) (c := c) (k := k) hlive
    obtain ⟨hvalid, hamb⟩ := State.ambientResult_off (mean := m.getD (16 * c.val + k.val) 0) (hpow.trans hp) (hchan ▸ hst)
    exact ⟨t, hexec, (State.flag_congr hreg).trans hvalid,
      ((State.rd_congr hreg).trans hamb).trans (State.rd_congr hsame)⟩
  case belowZero =>
    intro m s c k hlive hp hst h0 h1
    obtain ⟨t, hexec, hamb, hover, hunder, -⟩ := result m s c k hlive hp hst _ _ _ (ambientCode_of_below_zero h0 h1)
    exact ⟨t, hexec, hamb, hover, hunder⟩
  case below =>
    intro m s c k hlive hp hst h
    obtain ⟨t, hexec, hamb, hover, hunder, -⟩ := result m s c k hlive hp hst _ _ _ (ambientCode_of_under h)
    exact ⟨t, hexec, hamb, hover, hunder⟩

end Sys2Proof.Machine
end

section
/-! PROOFS. Front-end mode (spec/02 R31, R32, R39, R56, R58): what a change of mode does to a crate and its channels, the ways of
a write of CRT_FE, and the obligation `Obligations.FrontEndMode`. -/

namespace Sys2Proof.Machine

variable {s t u : State} {c k : Nat} {v : Word}

/-! ## A channel begins a new mode (R39, R56) -/

/-- A channel begins a new mode: range 3, no quiet events, and the running ambient frame not valid. -/
def State.enterMode (s : State) (c k : Nat) : State :=
  (s.resetRange c k).modChan c k (fun h => { h with ambInvalid := true })

theorem regs_enterMode : OnlyRegs [CHN_FE_STAT c k] s (s.enterMode c k) :=
  regs_modChan (regs_modChan (regs_put (List.mem_singleton.2 rfl) (regs_put (List.mem_singleton.2 rfl) onlyRegs_refl)))

theorem evolves_enterMode : Evolves [.regs, .chans] s (s.enterMode c k) :=
  ev_modChan (by decide) (ev_resetRange (by decide) (by decide) ev_refl)

theorem State.chan_enterMode : (s.enterMode c k).chan c k = { s.chan c k with prevRange := none, ambInvalid := true } := by
  simp [State.enterMode, State.resetRange]

theorem onlyChans_enterMode (hk : k < 16) : OnlyChans [(c, k)] s (s.enterMode c k) :=
  ((onlyChans_refl.evolves (ev_put (L := [.regs]) (by decide) (ev_put (by decide) ev_refl)) (by decide)).modChan hk
    (List.mem_singleton_self _)).modChan hk (List.mem_singleton_self _)

theorem State.rd_enterMode : (s.enterMode c k).rd (CHN_FE_STAT_ar_range c k) = 3
    ∧ (s.enterMode c k).rd (CHN_FE_STAT_ar_count c k) = 0 := by
  have shown : (s.enterMode c k).reg (CHN_FE_STAT c k) = ((s.put (CHN_FE_STAT_ar_range c k) 3).put
      (CHN_FE_STAT_ar_count c k) 0).reg (CHN_FE_STAT c k) :=
    (ev_modChan (L := [.chans]) (by decide) (ev_modChan (by decide) ev_refl)).1.reg (by decide) _
  rw [State.rd_congr (f := CHN_FE_STAT_ar_range c k) shown, State.rd_congr (f := CHN_FE_STAT_ar_count c k) shown]
  constructor
  · rw [State.rd_put_beside (by rfl), State.rd_put_same (by simp [CHN_FE_STAT_ar_range])]
    rfl
  · rw [State.rd_put_same (by simp [CHN_FE_STAT_ar_count])]
    rfl

theorem CHN_FE_STAT_injective {d j : Nat} (hk : k < 16) (hj : j < 16) (h : CHN_FE_STAT d j = CHN_FE_STAT c k) :
    (d, j) = (c, k) := by
  simp only [CHN_FE_STAT] at h
  rw [Prod.mk.injEq]
  omega

/-! ## The change reaches the timing domain (R32, R590) -/

/-- The crate with its change of mode taken and, in a powered crate, its settling time begun. -/
def State.modeTaken (s : State) (c : Nat) : State := s.modCrate c (fun g => { g with modeDue := false })

theorem State.modeChange_on (hp : s.cratePowered c = true) : s.modeChange c
    = forAll chanNos (fun u k => u.enterMode c k) ((s.modeTaken c).putB (CRT_FE_STAT_settling c) true) := by
  unfold State.modeChange
  rw [hp]
  rfl

theorem State.modeChange_off (hp : s.cratePowered c = false) : s.modeChange c = s.modeTaken c := by
  unfold State.modeChange
  rw [hp]
  rfl

/-- Settling begins and every channel enters the mode (R32, R39, R56). -/
theorem State.modeChange_shows (hp : s.cratePowered c = true) : (s.modeChange c).flag (CRT_FE_STAT_settling c) = true
    ∧ ∀ k, k < 16 → (s.modeChange c).rd (CHN_FE_STAT_ar_range c k) = 3 ∧ (s.modeChange c).rd (CHN_FE_STAT_ar_count c k) = 0
      ∧ (s.modeChange c).chan c k = { s.chan c k with prevRange := none, ambInvalid := true } := by
  rw [State.modeChange_on hp]
  constructor
  · have begun : ((s.modeTaken c).putB (CRT_FE_STAT_settling c) true).flag (CRT_FE_STAT_settling c) = true :=
      State.flag_putB_same (by simp [CRT_FE_STAT_settling]) rfl
    have kept := regs_forAll_chanNos (s := (s.modeTaken c).putB (CRT_FE_STAT_settling c) true) (r := fun k => CHN_FE_STAT c k)
      (f := fun u k => u.enterMode c k) (fun _ _ _ => regs_enterMode)
    refine (kept.flag (fun h => ?_)).trans begun
    obtain ⟨j, hj, he⟩ := List.mem_map.1 h
    simp only [CHN_FE_STAT, CRT_FE_STAT_settling, CRT_FE_STAT] at he
    omega
  · intro k hk
    obtain ⟨u, before, after⟩ := forAll_chanNos_turn (s := (s.modeTaken c).putB (CRT_FE_STAT_settling c) true)
      (r := CHN_FE_STAT) (l := []) (c := c) (f := fun u k => u.enterMode c k) hk (fun _ _ _ => regs_enterMode)
      (fun _ _ hj => onlyChans_enterMode hj)
    have shown := after.own List.not_mem_nil (fun d j hj h => CHN_FE_STAT_injective hk hj h)
    obtain ⟨hrange, hcount⟩ := State.rd_enterMode (s := u) (c := c) (k := k)
    refine ⟨(State.rd_congr (f := CHN_FE_STAT_ar_range c k) shown).trans hrange,
      (State.rd_congr (f := CHN_FE_STAT_ar_count c k) shown).trans hcount, ?_⟩
    rw [after.chan, State.chan_enterMode, before.chan]
    rfl

theorem regs_modeChange : OnlyRegs (CRT_FE_STAT c :: chanNos.map (fun k => CHN_FE_STAT c k)) s (s.modeChange c) := by
  cases hp : s.cratePowered c
  · rw [State.modeChange_off hp]
    exact regs_modCrate onlyRegs_refl
  · rw [State.modeChange_on hp]
    exact onlyRegs_trans (regs_putB (List.mem_cons_self ..) (regs_modCrate onlyRegs_refl))
      (onlyRegs_mono (fun _ hb => List.mem_cons_of_mem _ hb) (regs_forAll_chanNos (fun _ _ _ => regs_enterMode)))

theorem State.crates_modeChange : (s.modeChange c).crates = (s.modeTaken c).crates := by
  cases hp : s.cratePowered c
  · rw [State.modeChange_off hp]
  · rw [State.modeChange_on hp]
    exact (ev_forAll (L := [.regs, .chans]) (fun _ _ h => ev_trans h evolves_enterMode) (ev_putB (by decide) ev_refl)).1
      .crates (by decide)

theorem onlyChans_modeChange : OnlyChans (chanNos.map (fun k => (c, k))) s (s.modeChange c) := by
  have taken : OnlyChans (chanNos.map (fun k => (c, k))) s (s.modeTaken c) :=
    (ev_modCrate (L := [.crates]) (by decide) ev_refl).1.onlyChans (by decide)
  cases hp : s.cratePowered c
  · rw [State.modeChange_off hp]
    exact taken
  · rw [State.modeChange_on hp]
    exact (taken.evolves (ev_putB (L := [.regs]) (by decide) ev_refl) (by decide)).trans
      (onlyChans_forAll_chanNos (fun _ _ hj => onlyChans_enterMode hj))

/-! ## The write (R31, R590) -/

/-- The mode is stored and waits for the timing domain. -/
def State.modeStored (s : State) (c : Nat) (v : Word) : State :=
  (s.put (CRT_FE_fe_mode c) ((CRT_FE_fe_mode c).get v)).modCrate c (fun g => { g with modeDue := true })

theorem State.rd_modeStored : (s.modeStored c v).rd (CRT_FE_fe_mode c) = (CRT_FE_fe_mode c).get v :=
  State.rd_put_of_lt (by simp [CRT_FE_fe_mode]) FRef.get_lt

theorem regs_modeStored : OnlyRegs [CRT_FE c] s (s.modeStored c v) :=
  regs_modCrate (regs_put (List.mem_singleton.2 rfl) onlyRegs_refl)

theorem evolves_modeStored : Evolves [.regs, .crates] s (s.modeStored c v) :=
  ev_modCrate (by decide) (ev_put (by decide) ev_refl)

theorem State.crate_modeStored : (s.modeStored c v).crate c = { s.crate c with modeDue := true } :=
  State.crate_modCrate_same

theorem onlyCrates_modeStored : OnlyCrates [c] s (s.modeStored c v) := onlyCrates_modCrate

theorem State.timingLive_modeStored : (s.modeStored c v).timingLive = s.timingLive := by
  have flag : (s.modeStored c v).flag GLB_READY_tpll = s.flag GLB_READY_tpll := regs_modeStored.flag (fun h => by
    have := List.mem_singleton.1 h
    simp only [GLB_READY_tpll, GLB_READY, CRT_FE] at this
    omega)
  unfold State.timingLive
  rw [flag]
  rfl

theorem State.cratePowered_modeStored : (s.modeStored c v).cratePowered c = s.cratePowered c := by
  refine congrArg (· != 0) (regs_modeStored.rd (fun h => ?_))
  have hlt := cratePwrField_addr_lt (c := c)
  rw [List.mem_singleton.1 h] at hlt
  simp only [CRT_FE] at hlt
  omega

theorem State.carryMode_due (hd : (s.crate c).modeDue = true) (hl : s.timingLive = true) : s.carryMode c = s.modeChange c := by
  simp [State.carryMode, hd, hl]

theorem State.carryMode_waits (h : (s.crate c).modeDue = false ∨ s.timingLive = false) : s.carryMode c = s := by
  obtain h | h := h <;> simp [State.carryMode, h]

theorem State.feModeWrite_changed (hq : s.quiesced c = true) (hv : (CRT_FE_fe_mode c).get v ≠ s.rd (CRT_FE_fe_mode c)) {q : Src} :
    s.feModeWrite q c v = (s.modeStored c v).carryMode c := by
  rw [State.feModeWrite, if_pos hq, bne_iff_ne.2 hv]
  rfl

/-- A write of the mode in force leaves the register's word as it is. -/
theorem State.feModeWrite_same (hq : s.quiesced c = true) (hv : (CRT_FE_fe_mode c).get v = s.rd (CRT_FE_fe_mode c)) {q : Src} :
    s.feModeWrite q c v = (s.setReg (CRT_FE c) (s.reg (CRT_FE c))).carryMode c := by
  have word : s.put (CRT_FE_fe_mode c) (s.rd (CRT_FE_fe_mode c)) = s.setReg (CRT_FE c) (s.reg (CRT_FE c)) :=
    congrArg (s.setReg (CRT_FE c)) FRef.set_get
  simp [State.feModeWrite, hq, hv, word]

theorem exec_feModeWrite {q : Src} {c : CrateId} (hq : s.serves q = true) :
    exec (.feModeWrite q c v) s = .next (s.feModeWrite q c v) := by
  simp [exec, execFeModeWrite, hq]

/-- The crate's change of mode has been taken, and its crate keeps all else. -/
theorem State.crate_modeTaken_modeStored (h : t.crates = ((s.modeStored c v).modeTaken c).crates) :
    t.crate c = { s.crate c with modeDue := false } ∧ OnlyCrates [c] s t := by
  have same : ∀ e, t.crate e = ((s.modeStored c v).modeTaken c).crate e := fun e =>
    congrArg (fun m => sparseGet (fun _ => Crate.reset) m e) h
  constructor
  · rw [same, State.modeTaken, State.crate_modCrate_same, State.crate_modeStored]
  · intro e he
    rw [same]
    exact (onlyCrates_modeStored.trans onlyCrates_modCrate) e he

/-- Settles O8: a change of mode is stored and then carried over (`carryMode`), and the settling times end by their commands. -/
theorem frontEndMode : Obligations.FrontEndMode := by
  unfold Obligations.FrontEndMode
  refine ⟨?changed, ?unpowered, ?waits, ?same, ?refused, ?offSettle, ?crateSettled, ?chanSettled⟩
  case changed =>
    intro q c v s hs hq hl hp hv
    have due : ((s.modeStored c v).crate c).modeDue = true := by rw [State.crate_modeStored]
    have hexec : exec (.feModeWrite q c v) s = .next ((s.modeStored c v).modeChange c) := by
      rw [exec_feModeWrite hs, State.feModeWrite_changed hq hv, State.carryMode_due due (State.timingLive_modeStored.trans hl)]
    obtain ⟨hsettling, hchans⟩ := State.modeChange_shows (State.cratePowered_modeStored.trans hp : (s.modeStored c v).cratePowered c = true)
    obtain ⟨hcrate, hothers⟩ := State.crate_modeTaken_modeStored (v := v) (State.crates_modeChange (s := s.modeStored c v))
    have stored : OnlyChans (chanNos.map (fun k => (c.val, k))) s (s.modeStored c v) := evolves_modeStored.1.onlyChans (by decide)
    refine ⟨_, hexec, ?_, hsettling, fun k hk => ?_, hcrate, hothers, ?_, stored.trans onlyChans_modeChange⟩
    · refine (regs_modeChange.rd (fun h => ?_)).trans State.rd_modeStored
      obtain h | h := List.mem_cons.1 h
      · simp only [CRT_FE_fe_mode, CRT_FE, CRT_FE_STAT] at h
        omega
      · obtain ⟨j, -, he⟩ := List.mem_map.1 h
        simp only [CRT_FE_fe_mode, CRT_FE, CHN_FE_STAT] at he
        omega
    · obtain ⟨hrange, hcount, hchan⟩ := hchans k hk
      exact ⟨hrange, hcount, hchan.trans (by rw [evolves_modeStored.1.chan (by decide)])⟩
    · exact onlyRegs_trans (onlyRegs_mono (fun b hb => List.mem_singleton.1 hb ▸ List.mem_cons_self ..) regs_modeStored)
        (onlyRegs_mono (fun b hb => List.mem_cons_of_mem _ hb) regs_modeChange)
  case unpowered =>
    intro q c v s hs hq hl hp hv
    have due : ((s.modeStored c v).crate c).modeDue = true := by rw [State.crate_modeStored]
    have unpowered : (s.modeStored c v).cratePowered c = false :=
      State.cratePowered_modeStored.trans (bne_eq_false_iff_eq.2 hp)
    have hexec : exec (.feModeWrite q c v) s = .next ((s.modeStored c v).modeTaken c) := by
      rw [exec_feModeWrite hs, State.feModeWrite_changed hq hv, State.carryMode_due due (State.timingLive_modeStored.trans hl),
        State.modeChange_off unpowered]
    obtain ⟨hcrate, hothers⟩ := State.crate_modeTaken_modeStored (s := s) (c := c) (v := v) rfl
    exact ⟨_, hexec, State.rd_modeStored, hcrate, regs_modCrate regs_modeStored, hothers,
      (ev_modCrate (by decide) evolves_modeStored).1⟩
  case waits =>
    intro q c v s hs hq hl hv
    have hexec : exec (.feModeWrite q c v) s = .next (s.modeStored c v) := by
      rw [exec_feModeWrite hs, State.feModeWrite_changed hq hv,
        State.carryMode_waits (.inr (State.timingLive_modeStored.trans hl))]
    exact ⟨_, hexec, State.rd_modeStored, State.crate_modeStored, regs_modeStored, onlyCrates_modeStored, evolves_modeStored.1⟩
  case same =>
    intro q c v s hs hq hd hv
    have hexec : exec (.feModeWrite q c v) s = .next (s.setReg (CRT_FE c) (s.reg (CRT_FE c))) := by
      have waits : ((s.setReg (CRT_FE c) (s.reg (CRT_FE c))).crate c).modeDue = false := hd
      rw [exec_feModeWrite hs, State.feModeWrite_same hq hv, State.carryMode_waits (.inl waits)]
    refine ⟨_, hexec, fun a _ => ?_, State.onlyChanges_setReg⟩
    rw [State.reg_setReg]
    split
    · rename_i h
      rw [h]
    · rfl
  case refused =>
    intro q c v s hs hq
    have hexec : exec (.feModeWrite q c v) s = .next (s.refuseWrite q (CRT_FE c)) := by
      rw [exec_feModeWrite hs, State.feModeWrite, hq]
      rfl
    have haddr : CRT_FE c < 0x80000 := by
      have := c.isLt
      simp only [CRT_FE]
      omega
    exact ⟨_, hexec, regs_refuseWrite (fun _ hb => hb) onlyRegs_refl, State.rd_refuseWrite_addr haddr, State.rd_refuseWrite_src,
      State.onlyChanges_refuseWrite⟩
  case offSettle =>
    intro c s hp
    have unpowered : s.cratePowered c = false := bne_eq_false_iff_eq.2 hp
    simp [exec, execCrateSettleEnd, unpowered]
  case crateSettled =>
    intro c s hl hp
    have powered : s.cratePowered c = true := bne_iff_ne.2 hp
    have hexec : exec (.crateSettleEnd c) s = .next (s.putB (CRT_FE_STAT_settling c) false) := by
      simp [exec, execCrateSettleEnd, hl, powered]
    exact ⟨_, hexec, State.flag_putB_same (by simp [CRT_FE_STAT_settling]) rfl,
      regs_putB (List.mem_singleton.2 rfl) onlyRegs_refl, (ev_putB (by decide) ev_refl).1⟩
  case chanSettled =>
    intro c k s hl hst
    have hexec : exec (.channelSettleEnd c k) s = .next (s.modChan c k (fun h => { h with st := .idle })) := by
      simp [exec, execChannelSettleEnd, hl, hst]
    exact ⟨_, hexec, State.chan_modChan_same, onlyChans_modChan k.isLt (List.mem_singleton_self _),
      (ev_modChan (by decide) ev_refl).1⟩

end Sys2Proof.Machine
end

section
/-! PROOFS. The test tone (spec/02 R61 to R64): its start, the trim DAC while it runs, what its end shows of one channel, and the
obligation `Obligations.TestTone`. -/

namespace Sys2Proof.Machine

variable {s t u : State} {c k g : Nat} {v : Word} {m : ToneMeas}

/-! ## The result of one channel (R62, R63) -/

/-- The channel's register with the measurements and the verdict written. -/
def State.toneShown (s : State) (c k g : Nat) (m : ToneMeas) : State :=
  (((s.put (CHN_TONE_cap c k) m.cap).put (CHN_TONE_cond c k) m.cond).put (CHN_TONE_verdict c k) (s.toneVerdict c k g m)).putB
    (CHN_TONE_valid c k) true

theorem regs_toneShown : OnlyRegs (CHN_TONE c k :: eventRegs) s (s.toneShown c k g m) := by
  have own : ∀ {f : FRef}, f.addr = CHN_TONE c k → f.addr ∈ CHN_TONE c k :: eventRegs := fun h => h ▸ List.mem_cons_self ..
  exact regs_putB (own rfl) (regs_put (own rfl) (regs_put (own rfl) (regs_put (own rfl) onlyRegs_refl)))

theorem evolves_toneShown : Evolves [.regs] s (s.toneShown c k g m) :=
  ev_putB (by decide) (ev_put (by decide) (ev_put (by decide) (ev_put (by decide) ev_refl)))

/-- What a channel's result can do: nothing for one that is OFF, else its register is written, an OK waits for the channel's
return, and any other verdict is posted and, but for LEAKY, removes the channel. -/
theorem toneResult_induction {P : State → Prop} (hoff : (s.chan c k).st = .off → P s)
    (hok : P ((s.toneShown c k g m).modChan c k (fun h => { h with toneOk := h.remTone || s.toneRemovalDue c k })))
    (hposted : P ((s.toneShown c k g m).post 0x20 2 (16 * c + k) [(s.toneShown c k g m).reg (CHN_TONE c k)]))
    (hremoved : P ((((s.toneShown c k g m).post 0x20 2 (16 * c + k) [(s.toneShown c k g m).reg (CHN_TONE c k)]).modChan c k
      (fun h => { h with toneOk := false })).modFlt (fun f => { f with changes := f.changes ++ [.remove c k 4] }))) :
    P (s.toneResult c k g m) := by
  unfold State.toneResult
  split
  · rename_i hst
    exact hoff hst
  · dsimp only
    split
    · exact hok
    · exact doIf_induction hposted (fun _ => hremoved)

theorem regs_toneResult : OnlyRegs (CHN_TONE c k :: eventRegs) s (s.toneResult c k g m) := by
  have posted : OnlyRegs (CHN_TONE c k :: eventRegs) s
      ((s.toneShown c k g m).post 0x20 2 (16 * c + k) [(s.toneShown c k g m).reg (CHN_TONE c k)]) :=
    regs_post (fun _ hb => List.mem_cons_of_mem _ hb) regs_toneShown
  exact toneResult_induction (fun _ => onlyRegs_refl) (regs_modChan regs_toneShown) posted (regs_modFlt (regs_modChan posted))

theorem onlyChans_toneResult (hk : k < 16) : OnlyChans [(c, k)] s (s.toneResult c k g m) := by
  have shown : OnlyChans [(c, k)] s (s.toneShown c k g m) := onlyChans_refl.evolves evolves_toneShown (by decide)
  have posted : OnlyChans [(c, k)] s
      ((s.toneShown c k g m).post 0x20 2 (16 * c + k) [(s.toneShown c k g m).reg (CHN_TONE c k)]) :=
    shown.evolves (ev_post (L := [.regs, .host]) (by decide) (by decide) ev_refl) (by decide)
  have own : (c, k) ∈ [(c, k)] := List.mem_singleton_self _
  exact toneResult_induction (fun _ => onlyChans_refl) (shown.modChan hk own) posted
    ((posted.modChan hk own).evolves (ev_modFlt (L := [.flt]) (by decide) (fun _ h => h) ev_refl) (by decide))

theorem State.crates_toneResult : (s.toneResult c k g m).crates = s.crates :=
  (ev_toneResult (L := [.regs, .chans, .host, .flt]) (by decide) (by decide) (by decide) (by decide) ev_refl).1 .crates
    (by decide)

/-- The verdict of R63, as the rule orders it. -/
theorem State.toneVerdict_eq : s.toneVerdict c k g m = if m.cap < s.rd (CRT_TONE_CAP_cap_min c) then 1
    else if s.rd (CRT_TONE_CAP_cap_max c) < m.cap ∨ s.flag (CHN_AMB_over c k) = true then 2 else if g < m.cond then 3 else 0 := by
  simp only [State.toneVerdict, Bool.or_eq_true, decide_eq_true_eq]

theorem State.toneVerdict_lt : s.toneVerdict c k g m < 4 := by
  rw [State.toneVerdict_eq]
  split_ifs <;> decide

theorem State.toneResult_shows (hst : (s.chan c k).st ≠ .off) : (s.toneResult c k g m).flag (CHN_TONE_valid c k) = true
    ∧ (s.toneResult c k g m).rd (CHN_TONE_cap c k) = m.cap % 4096
    ∧ (s.toneResult c k g m).rd (CHN_TONE_verdict c k) = s.toneVerdict c k g m := by
  have posted : ((s.toneShown c k g m).post 0x20 2 (16 * c + k) [(s.toneShown c k g m).reg (CHN_TONE c k)]).reg (CHN_TONE c k)
      = (s.toneShown c k g m).reg (CHN_TONE c k) := by
    refine regs_post (l := eventRegs) (fun _ hb => hb) onlyRegs_refl _ (not_mem_eventRegs ?_)
    simp only [CHN_TONE]
    omega
  have shown : (s.toneResult c k g m).reg (CHN_TONE c k) = (s.toneShown c k g m).reg (CHN_TONE c k) := by
    refine toneResult_induction (P := fun t => t.reg (CHN_TONE c k) = (s.toneShown c k g m).reg (CHN_TONE c k))
      (fun h => absurd h hst) ((ev_modChan (L := [.chans]) (by decide) ev_refl).1.reg (by decide) _) posted ?_
    exact ((ev_modFlt (L := [.chans, .flt]) (by decide) (fun _ h => h) (ev_modChan (by decide) ev_refl)).1.reg (by decide)
      _).trans posted
  rw [State.flag_congr (f := CHN_TONE_valid c k) shown, State.rd_congr (f := CHN_TONE_cap c k) shown,
    State.rd_congr (f := CHN_TONE_verdict c k) shown]
  refine ⟨State.flag_putB_same (by simp [CHN_TONE_valid]) rfl, ?_, ?_⟩
  · rw [State.toneShown, State.rd_putB_beside (by rfl), State.rd_put_beside (by rfl), State.rd_put_beside (by rfl),
      State.rd_put_same (by simp [CHN_TONE_cap])]
    rfl
  · rw [State.toneShown, State.rd_putB_beside (by rfl)]
    exact State.rd_put_of_lt (by simp [CHN_TONE_verdict]) State.toneVerdict_lt

theorem CHN_TONE_injective {d j : Nat} (hk : k < 16) (hj : j < 16) (h : CHN_TONE d j = CHN_TONE c k) : (d, j) = (c, k) := by
  simp only [CHN_TONE] at h
  rw [Prod.mk.injEq]
  omega

/-! ## The end of the check (R62 to R64) -/

/-- The check is over and its channels' results are due. -/
def State.toneOver (s : State) (c : Nat) : State :=
  (s.putB (CRT_TONE_CTL_busy c) false).modCrate c (fun h => { h with tone := none })

theorem State.toneOver_shows : (s.toneOver c).flag (CRT_TONE_CTL_busy c) = false
    ∧ (s.toneOver c).crate c = { s.crate c with tone := none } ∧ OnlyCrates [c] s (s.toneOver c) := by
  have freed : Evolves [.regs] s (s.putB (CRT_TONE_CTL_busy c) false) := ev_putB (by decide) ev_refl
  have kept : Evolves [.crates] (s.putB (CRT_TONE_CTL_busy c) false) (s.toneOver c) := ev_modCrate (by decide) ev_refl
  refine ⟨?_, ?_, (freed.1.onlyCrates (by decide)).trans onlyCrates_modCrate⟩
  · rw [kept.1.flag (by decide), State.flag_putB_same (by simp [CRT_TONE_CTL_busy]) rfl]
  · rw [State.toneOver, State.crate_modCrate_same, freed.1.crate (by decide)]

theorem regs_showPend : OnlyRegs [FLT_STAT] s s.showPend := regs_put (List.mem_singleton.2 rfl) onlyRegs_refl

/-- The results of all channels are written. -/
def State.toneResults (s : State) (c g : Nat) (meas : List ToneMeas) : State :=
  forAll chanNos (fun u k => u.toneResult c k g (meas.getD k ⟨0, 0⟩)) (s.toneOver c)

theorem exec_toneCheckEnd {c : CrateId} {meas : List ToneMeas} (hl : s.fabricLive = true) (ht : (s.crate c).tone = some g) :
    exec (.toneCheckEnd c meas) s
      = .next (((s.toneResults c g meas).putB (CRT_TONE_CTL_done c) true).showPend) := by
  simp only [exec, execToneCheckEnd, ht, hl, doIf_true]
  rfl

theorem CHN_TONE_ne {a d j : Nat} (ha : a % 0x1000 < 0x400) (hj : j < 16) : CHN_TONE d j ≠ a := by
  simp only [CHN_TONE]
  omega

/-- The end of a check reaches no register of its crate below its channels' own, but CRT_TONE_CTL. -/
theorem State.flag_toneResults {f : FRef} {meas : List ToneMeas} (h1 : 0x10000 ≤ f.addr) (h2 : f.addr % 0x1000 < 0x400) :
    (s.toneResults c g meas).flag f = (s.toneOver c).flag f :=
  forAll_induction (P := fun t => t.flag f = (s.toneOver c).flag f) rfl (fun u _ hk h =>
    (OnlyRegs.flag (regs_toneResult (s := u)) (fun hm => (List.mem_cons.1 hm).elim
      (fun e => CHN_TONE_ne h2 (List.mem_range.1 hk) e.symm) (not_mem_eventRegs h1))).trans h)

theorem State.crates_toneResults {meas : List ToneMeas} : (s.toneResults c g meas).crates = (s.toneOver c).crates :=
  forAll_induction (P := fun t => t.crates = (s.toneOver c).crates) rfl (fun _ _ _ h => State.crates_toneResult.trans h)

/-- What a channel that is not OFF shows after the pass (R62, R63). -/
theorem State.toneResults_shows {meas : List ToneMeas} (hk : k < 16) (hst : (s.chan c k).st ≠ .off) :
    (s.toneResults c g meas).flag (CHN_TONE_valid c k) = true
      ∧ (s.toneResults c g meas).rd (CHN_TONE_cap c k) = (meas.getD k ⟨0, 0⟩).cap % 4096
      ∧ (s.toneResults c g meas).rd (CHN_TONE_verdict c k) = s.toneVerdict c k g (meas.getD k ⟨0, 0⟩) := by
  obtain ⟨u, before, after⟩ := forAll_chanNos_turn (s := s.toneOver c) (r := CHN_TONE) (l := eventRegs) (c := c)
    (f := fun u k => u.toneResult c k g (meas.getD k ⟨0, 0⟩)) hk (fun _ _ _ => regs_toneResult)
    (fun _ _ hj => onlyChans_toneResult hj)
  have shown : (s.toneResults c g meas).reg (CHN_TONE c k) = (u.toneResult c k g (meas.getD k ⟨0, 0⟩)).reg (CHN_TONE c k) :=
    after.own (not_mem_eventRegs (by simp only [CHN_TONE]; omega)) (fun d j hj h => CHN_TONE_injective hk hj h)
  have hchan : u.chan c k = s.chan c k := before.chan
  have untouched : ∀ a, 0x10000 ≤ a → (∀ d j, j < 16 → CHN_TONE d j ≠ a) → CRT_TONE_CTL c ≠ a → u.reg a = s.reg a :=
    fun a h1 h2 h3 => (before.regs a (not_mem_eventRegs h1) (fun d j hj _ => h2 d j hj)).trans (State.reg_putB_ne h3)
  have hcap : u.reg (CRT_TONE_CAP c) = s.reg (CRT_TONE_CAP c) := by
    refine untouched _ ?_ (fun d j hj => CHN_TONE_ne ?_ hj) ?_
    all_goals simp only [CRT_TONE_CAP, CRT_TONE_CTL]; omega
  have hamb : u.reg (CHN_AMB c k) = s.reg (CHN_AMB c k) := by
    refine untouched _ ?_ (fun d j hj => ?_) ?_
    all_goals simp only [CHN_AMB, CHN_TONE, CRT_TONE_CTL]; omega
  have hverdict : u.toneVerdict c k g (meas.getD k ⟨0, 0⟩) = s.toneVerdict c k g (meas.getD k ⟨0, 0⟩) := by
    unfold State.toneVerdict
    rw [State.rd_congr (f := CRT_TONE_CAP_cap_min c) hcap, State.rd_congr (f := CRT_TONE_CAP_cap_max c) hcap,
      State.flag_congr (f := CHN_AMB_over c k) hamb]
  obtain ⟨hvalid, hcapacity, hver⟩ := State.toneResult_shows (s := u) (c := c) (k := k) (g := g)
    (m := meas.getD k ⟨0, 0⟩) (hchan ▸ hst)
  exact ⟨(State.flag_congr (f := CHN_TONE_valid c k) shown).trans hvalid,
    (State.rd_congr (f := CHN_TONE_cap c k) shown).trans hcapacity,
    ((State.rd_congr (f := CHN_TONE_verdict c k) shown).trans hver).trans hverdict⟩

/-! ## The start (R61) -/

/-- A write of CRT_TONE_CTL that is not refused clears done and takes g_max. -/
def State.toneSet (s : State) (c : Nat) (v : Word) : State :=
  (doIf ((CRT_TONE_CTL_done c).get v == 1) (fun t => t.putB (CRT_TONE_CTL_done c) false) s).put (CRT_TONE_CTL_g_max c)
    ((CRT_TONE_CTL_g_max c).get v)

/-- The check begins in the crate. -/
def State.toneBegun (s : State) (c : Nat) (v : Word) : State :=
  ((s.toneSet c v).putB (CRT_TONE_CTL_busy c) true).modCrate c (fun h => { h with
    tone := some ((CRT_TONE_CTL_g_max c).get v) })

theorem evolves_toneSet : Evolves [.regs] s (s.toneSet c v) :=
  ev_put (by decide) (ev_doIf (fun _ h => ev_putB (by decide) h) ev_refl)

theorem regs_toneSet : OnlyRegs [CRT_TONE_CTL c] s (s.toneSet c v) :=
  regs_put (List.mem_singleton.2 rfl) (regs_doIf (fun _ h => regs_putB (List.mem_singleton.2 rfl) h) onlyRegs_refl)

theorem State.rd_toneSet : (s.toneSet c v).rd (CRT_TONE_CTL_g_max c) = (CRT_TONE_CTL_g_max c).get v :=
  State.rd_put_of_lt (by simp [CRT_TONE_CTL_g_max]) FRef.get_lt

theorem State.busy_toneSet : (s.toneSet c v).flag (CRT_TONE_CTL_busy c) = s.flag (CRT_TONE_CTL_busy c) := by
  rw [State.toneSet, State.flag_put_beside (by rfl)]
  exact doIf_induction (P := fun t => t.flag (CRT_TONE_CTL_busy c) = s.flag (CRT_TONE_CTL_busy c)) rfl
    (fun _ => State.flag_putB_beside (by rfl))

theorem evolves_toneBegun : Evolves [.regs, .crates] s (s.toneBegun c v) :=
  ev_modCrate (by decide) (ev_putB (by decide) (ev_mono evolves_toneSet (by decide)))

theorem State.toneBegun_shows : (s.toneBegun c v).flag (CRT_TONE_CTL_busy c) = true
    ∧ (s.toneBegun c v).rd (CRT_TONE_CTL_g_max c) = (CRT_TONE_CTL_g_max c).get v
    ∧ (s.toneBegun c v).crate c = { s.crate c with tone := some ((CRT_TONE_CTL_g_max c).get v) }
    ∧ OnlyCrates [c] s (s.toneBegun c v) := by
  have set : Evolves [.regs] s ((s.toneSet c v).putB (CRT_TONE_CTL_busy c) true) := ev_putB (by decide) evolves_toneSet
  have kept : Evolves [.crates] ((s.toneSet c v).putB (CRT_TONE_CTL_busy c) true) (s.toneBegun c v) :=
    ev_modCrate (by decide) ev_refl
  refine ⟨?_, ?_, ?_, (set.1.onlyCrates (by decide)).trans onlyCrates_modCrate⟩
  · rw [kept.1.flag (by decide), State.flag_putB_same (by simp [CRT_TONE_CTL_busy]) rfl]
  · rw [kept.1.rd (by decide), State.rd_putB_beside (by rfl), State.rd_toneSet]
  · rw [State.toneBegun, State.crate_modCrate_same, set.1.crate (by decide)]

variable {q : Src}

/-- The crate's write before it is decided whether a check begins. -/
theorem State.toneWrite_accepted (hv : (CRT_TONE_CTL_start c).get v = 1) (hb : s.flag (CRT_TONE_CTL_busy c) = false)
    (hq : s.quiesced c = true) : s.toneWrite q c v = doIf (s.cratePowered c) (fun t =>
      forAll chanNos (fun u k => u.modChan c k (fun h => { h with ambInvalid := true })) ((t.putB (CRT_TONE_CTL_busy c)
        true).modCrate c (fun h => { h with tone := some (t.rd (CRT_TONE_CTL_g_max c)) }))) (s.toneSet c v) := by
  unfold State.toneWrite
  simp only [hv, hb, hq, BEq.rfl, Bool.not_true, Bool.or_false, Bool.and_false, Bool.false_eq_true, if_false, Bool.true_and]
  rfl

theorem State.toneWrite_begins (hv : (CRT_TONE_CTL_start c).get v = 1) (hb : s.flag (CRT_TONE_CTL_busy c) = false)
    (hq : s.quiesced c = true) (hp : s.cratePowered c = true) : s.toneWrite q c v
      = forAll chanNos (fun u k => u.modChan c k (fun h => { h with ambInvalid := true })) (s.toneBegun c v) := by
  rw [State.toneWrite_accepted hv hb hq, hp, doIf_true, State.rd_toneSet]
  rfl

theorem State.toneWrite_off (hv : (CRT_TONE_CTL_start c).get v = 1) (hb : s.flag (CRT_TONE_CTL_busy c) = false)
    (hq : s.quiesced c = true) (hp : s.cratePowered c = false) : s.toneWrite q c v = s.toneSet c v := by
  rw [State.toneWrite_accepted hv hb hq, hp, doIf_false]

theorem State.toneWrite_refused (hv : (CRT_TONE_CTL_start c).get v = 1)
    (h : s.flag (CRT_TONE_CTL_busy c) = true ∨ s.quiesced c = false) : s.toneWrite q c v = s.refuseWrite q (CRT_TONE_CTL c) := by
  unfold State.toneWrite
  obtain h | h := h <;> simp [hv, h]

theorem exec_toneStart {c : CrateId} (hs : s.serves q = true) : exec (.toneStart q c v) s = .next (s.toneWrite q c v) := by
  simp [exec, execToneStart, hs]

/-- Settles O10: the clauses of a start follow `toneWrite`, those of an end the pass over the crate's channels. -/
theorem testTone : Obligations.TestTone := by
  unfold Obligations.TestTone
  refine ⟨?begins, ?dac, ?dacRest, ?unpowered, ?idle, ?busy, ?ends, ?armed⟩
  case begins =>
    intro q c v s hs hv hb hq hp
    have hexec := exec_toneStart (q := q) (c := c) (v := v) hs
    rw [State.toneWrite_begins hv hb hq (bne_iff_ne.2 hp)] at hexec
    have pass : Evolves [.chans] (s.toneBegun c v) (forAll chanNos (fun u k => u.modChan c k (fun h =>
        { h with ambInvalid := true })) (s.toneBegun c v)) := ev_forAll (fun _ _ h => ev_modChan (by decide) h) ev_refl
    obtain ⟨busy, gmax, crate, others⟩ := State.toneBegun_shows (s := s) (c := c.val) (v := v)
    refine ⟨_, hexec, (pass.1.flag (by decide) _).trans busy, (pass.1.rd (by decide) _).trans gmax,
      (pass.1.crate (by decide) _).trans crate, ?_, ?_, ?_⟩
    · exact onlyRegs_trans (regs_modCrate (regs_putB (List.mem_singleton.2 rfl) regs_toneSet)) (pass.1.onlyRegs (by decide))
    · exact others.trans (pass.1.onlyCrates (by decide))
    · exact (evolves_toneBegun.1.onlyChans (by decide)).trans (onlyChans_forAll_chanNos (fun _ _ hj =>
        onlyChans_modChan hj (List.mem_singleton_self _)))
  case dac =>
    intro c k g s ht hst
    simp [State.trimDac, ht, hst]
  case dacRest =>
    intro c k b s h
    obtain h | h := h <;> simp [State.trimDac, h]
  case unpowered =>
    intro q c v s hs hv hb hq hp
    have hexec := exec_toneStart (q := q) (c := c) (v := v) hs
    rw [State.toneWrite_off hv hb hq (bne_eq_false_iff_eq.2 hp)] at hexec
    exact ⟨_, hexec, State.busy_toneSet.trans hb, regs_toneSet, evolves_toneSet.1⟩
  case idle =>
    intro c m s ht
    simp [exec, execToneCheckEnd, ht]
  case busy =>
    intro q c v s hs hv hb
    have hexec := exec_toneStart (q := q) (c := c) (v := v) hs
    rw [State.toneWrite_refused hv (.inl hb)] at hexec
    exact ⟨_, hexec, regs_refuseWrite (fun _ h => h) onlyRegs_refl, State.onlyChanges_refuseWrite⟩
  case ends =>
    intro c m g s hl ht
    obtain ⟨idle, crate, others⟩ := State.toneOver_shows (s := s) (c := c.val)
    have ended : Evolves [.regs] (s.toneResults c g m) (((s.toneResults c g m).putB (CRT_TONE_CTL_done c) true).showPend) :=
      ev_showPend (by decide) (ev_putB (by decide) ev_refl)
    have crates : ∀ e, (((s.toneResults c g m).putB (CRT_TONE_CTL_done c) true).showPend).crate e = (s.toneOver c).crate e :=
      fun e => (ended.1.crate (by decide) e).trans
        (congrArg (fun x => sparseGet (fun _ => Crate.reset) x e) State.crates_toneResults)
    have high : CRT_TONE_CTL c ∉ [FLT_STAT] := by
      simp only [CRT_TONE_CTL, FLT_STAT, List.mem_singleton]
      omega
    have channel : ∀ f : FRef, f.addr ∉ [FLT_STAT] → f.addr ≠ CRT_TONE_CTL c →
        (((s.toneResults c g m).putB (CRT_TONE_CTL_done c) true).showPend).rd f = (s.toneResults c g m).rd f := fun f h1 h2 =>
      (regs_showPend.rd h1).trans (State.rd_putB_apart (.inl h2.symm))
    refine ⟨_, exec_toneCheckEnd hl ht, ?_, ?_, ?_, fun e he => ?_, fun k hk hst => ?_⟩
    · rw [regs_showPend.flag high, State.flag_putB_beside (by rfl), State.flag_toneResults, idle]
      all_goals simp only [CRT_TONE_CTL_busy, CRT_TONE_CTL]; omega
    · rw [regs_showPend.flag high]
      exact State.flag_putB_same (by simp [CRT_TONE_CTL_done]) rfl
    · rw [crates, crate]
    · rw [crates]
      exact others e he
    · obtain ⟨hvalid, hcap, hverdict⟩ := State.toneResults_shows (g := g) (meas := m) hk hst
      have h1 : CHN_TONE c k ∉ [FLT_STAT] := by
        simp only [CHN_TONE, FLT_STAT, List.mem_singleton]
        omega
      have h2 : CHN_TONE c k ≠ CRT_TONE_CTL c := by
        simp only [CHN_TONE, CRT_TONE_CTL]
        omega
      exact ⟨(congrArg (· != 0) (channel (CHN_TONE_valid c k) h1 h2)).trans hvalid, (channel (CHN_TONE_cap c k) h1 h2).trans hcap,
        ((channel (CHN_TONE_verdict c k) h1 h2).trans hverdict).trans State.toneVerdict_eq⟩
  case armed =>
    intro q c v s hs hv hb hq
    have hexec := exec_toneStart (q := q) (c := c) (v := v) hs
    rw [State.toneWrite_refused hv (.inr hq)] at hexec
    have haddr : CRT_TONE_CTL c < 0x80000 := by
      have := c.isLt
      simp only [CRT_TONE_CTL]
      omega
    exact ⟨_, hexec, State.rd_refuseWrite_addr haddr, State.rd_refuseWrite_src,
      regs_refuseWrite (fun _ h => h) onlyRegs_refl, State.onlyChanges_refuseWrite⟩

end Sys2Proof.Machine
end

section
/-! PROOFS. The Skimmer's frame (spec/08 R307, R308, R310, R311, spec/13 R563): what its turn does to one channel, that the turn
looks at nothing of the other channels, and the obligation `Obligations.SkimmerFrames`. -/

namespace Sys2Proof.Machine

variable {s t u : State} {c k a : Nat} {o on : Bool}

/-! ## What a turn may write -/

theorem regs_setSun {l : List Nat} (hl : ∀ b ∈ SKM_CH c k :: eventRegs, b ∈ l) (h : OnlyRegs l s t) :
    OnlyRegs l s (t.setSun c k on a) :=
  regs_post (fun b hb => hl b (List.mem_cons_of_mem _ hb)) (regs_put (hl _ (List.mem_cons_self ..))
    (regs_putB (hl _ (List.mem_cons_self ..)) h))

theorem regs_sunStep : OnlyRegs (SKM_CH c k :: eventRegs) s (s.sunStep c k a o) := by
  have own : ∀ n, OnlyRegs (SKM_CH c k :: eventRegs) s (s.put (SKM_CH_sun_ct c k) n) := fun n =>
    regs_put (List.mem_cons_self ..) onlyRegs_refl
  have moves : ∀ on, OnlyRegs (SKM_CH c k :: eventRegs) s (s.setSun c k on a) := fun _ => regs_setSun (fun _ h => h) onlyRegs_refl
  unfold State.sunStep
  exact regs_ite (regs_ite (regs_modChan (moves _)) onlyRegs_refl)
    (regs_ite (regs_ite (own _) (regs_modChan (moves _))) (own _))

theorem regs_skimChannel : OnlyRegs (SKM_CH c k :: eventRegs) s (s.skimChannel c k) := by
  have held : OnlyRegs (SKM_CH c k :: eventRegs) s (s.holdSun c k) :=
    regs_modChan (regs_doIf (fun _ h => regs_setSun (fun _ hb => hb) h) onlyRegs_refl)
  unfold State.skimChannel
  exact regs_ite onlyRegs_refl (regs_ite held (regs_ite (regs_modChan regs_sunStep) onlyRegs_refl))

theorem onlyChans_setSun {m : List (Nat × Nat)} (h : OnlyChans m s t) : OnlyChans m s (t.setSun c k on a) :=
  h.evolves (ev_setSun (L := [.regs, .host]) (by decide) (by decide) ev_refl) (by decide)

theorem onlyChans_sunStep (hk : k < 16) : OnlyChans [(c, k)] s (s.sunStep c k a o) := by
  have own : ∀ n, OnlyChans [(c, k)] s (s.put (SKM_CH_sun_ct c k) n) := fun n =>
    onlyChans_refl.evolves (ev_put (L := [.regs]) (by decide) ev_refl) (by decide)
  have moves : ∀ {on f}, OnlyChans [(c, k)] s ((s.setSun c k on a).modChan c k f) := fun {_ _} =>
    (onlyChans_setSun onlyChans_refl).modChan hk (List.mem_singleton_self _)
  unfold State.sunStep
  split
  · split
    · exact moves
    · exact onlyChans_refl
  · split
    · split
      · exact own _
      · exact moves
    · exact own _

theorem onlyChans_skimChannel (hk : k < 16) : OnlyChans [(c, k)] s (s.skimChannel c k) := by
  have own : (c, k) ∈ [(c, k)] := List.mem_singleton_self _
  unfold State.skimChannel State.holdSun
  split
  · exact onlyChans_refl
  · split
    · exact OnlyChans.modChan (doIf_induction onlyChans_refl (fun h => onlyChans_setSun h)) hk own
    · split
      · exact (onlyChans_sunStep hk).modChan hk own
      · exact onlyChans_refl

/-! ## A turn looks at its own channel alone -/

/-- Two states agree in the Skimmer's laws. -/
def SkimLaws (s u : State) : Prop := ∀ b, 0x9000 ≤ b ∧ b < 0xA000 → u.reg b = s.reg b

namespace SkimLaws

theorem rd (h : SkimLaws s u) {f : FRef} (hf : 0x9000 ≤ f.addr ∧ f.addr < 0xA000) : u.rd f = s.rd f :=
  State.rd_congr (h _ hf)

theorem sunSteps (h : SkimLaws s u) : u.sunSteps = s.sunSteps := by
  unfold State.sunSteps State.flag
  rw [h.rd (f := SKM_CFG_sun_en) (by decide), h.rd (f := SKM_CFG_bias_en) (by decide)]

theorem thrTarget (h : SkimLaws s u) : u.thrTarget a = s.thrTarget a := by
  unfold State.thrTarget State.flag
  rw [h.rd (f := SKM_CFG_thr_en) (by decide), h.rd (f := SKM_THR_LAW_knee) (by decide), h.rd (f := SKM_RATE_dmax) (by decide),
    h.rd (f := SKM_THR_LAW_gain) (by decide)]

theorem biasTarget (h : SkimLaws s u) : u.biasTarget a = s.biasTarget a := by
  unfold State.biasTarget State.flag
  rw [h.rd (f := SKM_CFG_bias_en) (by decide), h.rd (f := SKM_BIAS_LAW_bknee) (by decide), h.rd (f := SKM_LIM_bmax) (by decide),
    h.rd (f := SKM_BIAS_LAW_bgain) (by decide)]

end SkimLaws

/-- The registers that the Skimmer reads for a channel: its own, its ambient result, the power states, the Skimmer's laws. -/
def skimReads (c k a : Nat) : Prop :=
  a = SKM_CH c k ∨ a = CHN_AMB c k ∨ a = (cratePwrField c).addr ∨ (0x9000 ≤ a ∧ a < 0xA000)

/-- Two states agree in all that the Skimmer reads for a channel. -/
structure SkimAlike (c k : Nat) (s u : State) : Prop where
  chan : u.chan c k = s.chan c k
  regs : ∀ a, skimReads c k a → u.reg a = s.reg a

theorem not_mem_eventRegs_of_skimReads (h : skimReads c k a) : a ∉ eventRegs := by
  intro hm
  have hpwr := cratePwrField_addr_lt (c := c)
  simp only [eventRegs, List.mem_cons, List.not_mem_nil, or_false, HIF_FN_ERR, HIF_EVQ_STAT, HIF_IRQ_STAT] at hm
  simp only [skimReads, SKM_CH, CHN_AMB] at h
  omega

namespace SkimAlike

theorem rd (h : SkimAlike c k s u) {f : FRef} (hf : skimReads c k f.addr) : u.rd f = s.rd f := State.rd_congr (h.regs _ hf)

theorem flag (h : SkimAlike c k s u) {f : FRef} (hf : skimReads c k f.addr) : u.flag f = s.flag f :=
  State.flag_congr (h.regs _ hf)

theorem laws (h : SkimAlike c k s u) : SkimLaws s u := fun b hb => h.regs b (.inr (.inr (.inr hb)))

theorem sun (h : SkimAlike c k s u) : u.flag (SKM_CH_sun c k) = s.flag (SKM_CH_sun c k) := h.flag (.inl rfl)

theorem powered (h : SkimAlike c k s u) : u.cratePowered c = s.cratePowered c :=
  congrArg (· != 0) (h.rd (.inr (.inr (.inl rfl))))

theorem modChan (h : SkimAlike c k s u) {f : Chan → Chan} : SkimAlike c k (s.modChan c k f) (u.modChan c k f) where
  chan := by rw [State.chan_modChan_same, State.chan_modChan_same, h.chan]
  regs := h.regs

theorem put (h : SkimAlike c k s u) {f : FRef} {v : Nat} (hf : skimReads c k f.addr) :
    SkimAlike c k (s.put f v) (u.put f v) where
  chan := h.chan
  regs := fun b hb => by
    unfold State.put
    rw [State.reg_setReg, State.reg_setReg, h.regs _ hf, h.regs _ hb]

theorem post (h : SkimAlike c k s u) {typ kind index : Nat} {data : List Word} :
    SkimAlike c k (s.post typ kind index data) (u.post typ kind index data) := by
  have kept : ∀ v : State, Evolves [.regs, .host] v (v.post typ kind index data) := fun _ =>
    ev_post (by decide) (by decide) ev_refl
  refine ⟨by rw [(kept u).1.chan (by decide), (kept s).1.chan (by decide), h.chan], fun b hb => ?_⟩
  have posted : ∀ v : State, (v.post typ kind index data).reg b = v.reg b := fun v =>
    regs_post (l := eventRegs) (fun _ hm => hm) onlyRegs_refl b (not_mem_eventRegs_of_skimReads hb)
  rw [posted, posted, h.regs b hb]

theorem setSun (h : SkimAlike c k s u) : SkimAlike c k (s.setSun c k on a) (u.setSun c k on a) :=
  ((h.put (.inl rfl)).put (.inl rfl)).post

theorem sunStep (h : SkimAlike c k s u) : SkimAlike c k (s.sunStep c k a o) (u.sunStep c k a o) := by
  unfold State.sunStep
  rw [h.sun, h.laws.sunSteps, h.laws.rd (f := SKM_SUN_ON_sun_on) (by decide), h.laws.rd (f := SKM_SUN_OFF_sun_off) (by decide),
    h.laws.rd (f := SKM_SUN_OFF_sun_hold) (by decide), h.rd (f := SKM_CH_sun_ct c k) (.inl rfl)]
  split
  · split
    · exact h.setSun.modChan
    · exact h
  · split
    · split
      · exact h.put (.inl rfl)
      · exact h.setSun.modChan
    · exact h.put (.inl rfl)

theorem holdSun (h : SkimAlike c k s u) : SkimAlike c k (s.holdSun c k) (u.holdSun c k) := by
  unfold State.holdSun
  rw [h.sun, h.powered, h.chan, h.laws.sunSteps, h.laws.rd (f := SKM_RATE_dmax) (by decide),
    h.laws.rd (f := SKM_SUN_ON_sun_step) (by decide)]
  dsimp only
  refine SkimAlike.modChan ?_
  unfold doIf
  split
  · exact h.setSun
  · exact h

/-- States alike for a channel are alike after its turn. -/
theorem skimChannel (h : SkimAlike c k s u) : SkimAlike c k (s.skimChannel c k) (u.skimChannel c k) := by
  unfold State.skimChannel
  rw [h.powered, h.chan, h.flag (f := CHN_AMB_valid c k) (.inr (.inl rfl)), h.flag (f := CHN_AMB_over c k) (.inr (.inl rfl)),
    h.rd (f := CHN_AMB_amb c k) (.inr (.inl rfl))]
  dsimp only
  rw [h.sunStep.laws.thrTarget, h.sunStep.laws.biasTarget, h.sunStep.laws.sunSteps, h.sunStep.sun,
    h.sunStep.laws.rd (f := SKM_SUN_ON_sun_step) (by decide)]
  split
  · exact h
  · split
    · exact h.holdSun
    · split
      · exact h.sunStep.modChan
      · exact h

end SkimAlike

/-! ## The frame (R307) -/

theorem SKM_CH_injective {d j : Nat} (hk : k < 16) (hj : j < 16) (h : SKM_CH d j = SKM_CH c k) : (d, j) = (c, k) := by
  simp only [SKM_CH] at h
  rw [Prod.mk.injEq]
  omega

theorem evolves_settingsStrobe : Evolves [.crates] s s.settingsStrobe := ev_settingsStrobe (by decide) ev_refl

/-- What a frame leaves of a channel and of its register is what the channel's turn leaves of them. -/
theorem exec_skimmerFrameProcess_channel {c : CrateId} {k : ChanId} (hl : s.fabricReady = true) :
    ∃ t, exec .skimmerFrameProcess s = .next t
      ∧ t.chan c k = { (s.skimChannel c k).chan c k with ambDelivered := false }
      ∧ t.reg (SKM_CH c k) = (s.skimChannel c k).reg (SKM_CH c k) := by
  obtain ⟨u, before, after⟩ := forAll_crateNos_turn (s := s) (r := SKM_CH) (l := eventRegs) c.isLt k.isLt
    (f := fun v d j => (v.skimChannel d j).takeAmbient d j) (fun _ _ _ _ => regs_modChan regs_skimChannel)
    (fun _ _ _ hj => (onlyChans_skimChannel hj).modChan hj (List.mem_singleton_self _))
  have inj : ∀ d j, j < 16 → SKM_CH d j = SKM_CH c k → (d, j) = (c.val, k.val) := fun _ _ hj h =>
    SKM_CH_injective k.isLt hj h
  have alike : SkimAlike c k s u := by
    refine ⟨before.chan, fun a ha => before.regs a (not_mem_eventRegs_of_skimReads ha) (fun d j hj hne he => ?_)⟩
    have hpwr := cratePwrField_addr_lt (c := c.val)
    obtain rfl | rfl | rfl | h := ha
    · exact hne (inj d j hj he)
    all_goals simp only [SKM_CH, CHN_AMB] at he; omega
  have own : SKM_CH c k ∉ eventRegs := not_mem_eventRegs_of_skimReads (.inl rfl)
  have hexec : exec .skimmerFrameProcess s = .next (forAll crateNos (fun v d => forAll chanNos (fun w j =>
      (w.skimChannel d j).takeAmbient d j) v) s).settingsStrobe := by
    simp only [exec, execSkimmerFrameProcess, hl, doIf_true]
  refine ⟨_, hexec, ?_, ?_⟩
  · rw [evolves_settingsStrobe.1.chan (by decide), after.chan, State.takeAmbient, State.chan_modChan_same,
      alike.skimChannel.chan]
  · rw [evolves_settingsStrobe.1.reg (by decide), after.own own inj]
    exact alike.skimChannel.regs _ (.inl rfl)

/-! ## The laws (R308, R310) -/

theorem State.thrTarget_eq {q w : Nat} (ha : a < 2 ^ 20) (hq : q * q ≤ a) (hq' : a < (q + 1) * (q + 1))
    (hw : w * w ≤ s.rd SKM_THR_LAW_knee) (hw' : s.rd SKM_THR_LAW_knee < (w + 1) * (w + 1)) :
    s.thrTarget a = if s.flag SKM_CFG_thr_en = true ∧ s.rd SKM_THR_LAW_knee < a then
      min (s.rd SKM_RATE_dmax) (s.rd SKM_THR_LAW_gain * (q - w) / 16) else 0 := by
  have hknee : s.rd SKM_THR_LAW_knee < 2 ^ 20 := State.rd_lt
  rw [State.thrTarget, isqrt_eq a q (by omega) hq hq', isqrt_eq _ w (by omega) hw hw']

/-! ## The states of R311 -/

theorem State.setSun_shows : (s.setSun c k on a).flag (SKM_CH_sun c k) = on ∧ (s.setSun c k on a).rd (SKM_CH_sun_ct c k) = 0
    ∧ (s.setSun c k on a).chan c k = s.chan c k := by
  have own : SKM_CH c k ∉ eventRegs := not_mem_eventRegs_of_skimReads (.inl rfl)
  refine ⟨?_, ?_, (ev_setSun (L := [.regs, .host]) (by decide) (by decide) ev_refl).1.chan (by decide) c k⟩
  · rw [State.setSun, flag_post own, State.flag_put_beside (by rfl)]
    exact State.flag_putB_same (by simp [SKM_CH_sun]) rfl
  · rw [State.setSun, rd_post own]
    exact State.rd_put_of_lt (by simp [SKM_CH_sun_ct]) (Nat.two_pow_pos _)

theorem State.sunStep_dark (hs : s.flag (SKM_CH_sun c k) = false) (h : ¬(s.rd SKM_SUN_ON_sun_on ≤ a ∨ o = true)) :
    s.sunStep c k a o = s := by
  simp [State.sunStep, hs, h]

theorem State.sunStep_enters (hs : s.flag (SKM_CH_sun c k) = false) (h : s.rd SKM_SUN_ON_sun_on ≤ a ∨ o = true) :
    s.sunStep c k a o = (s.setSun c k true a).modChan c k (fun h => { h with pubSun := h.pubSun || s.sunSteps }) := by
  simp [State.sunStep, hs, h]

theorem State.sunStep_bright (hs : s.flag (SKM_CH_sun c k) = true) (h : s.rd SKM_SUN_OFF_sun_off < a) :
    s.sunStep c k a o = s.put (SKM_CH_sun_ct c k) 0 := by
  simp [State.sunStep, hs, Nat.not_le.2 h]

theorem State.sunStep_counts (hs : s.flag (SKM_CH_sun c k) = true) (h : a ≤ s.rd SKM_SUN_OFF_sun_off)
    (hn : s.rd (SKM_CH_sun_ct c k) + 1 < s.rd SKM_SUN_OFF_sun_hold) :
    s.sunStep c k a o = s.put (SKM_CH_sun_ct c k) (s.rd (SKM_CH_sun_ct c k) + 1) := by
  simp [State.sunStep, hs, h, hn]

theorem State.sunStep_leaves (hs : s.flag (SKM_CH_sun c k) = true) (h : a ≤ s.rd SKM_SUN_OFF_sun_off)
    (hn : ¬s.rd (SKM_CH_sun_ct c k) + 1 < s.rd SKM_SUN_OFF_sun_hold) :
    s.sunStep c k a o = (s.setSun c k false a).modChan c k (fun h => { h with pubSun := false }) := by
  simp [State.sunStep, hs, h, hn]

/-- A write of the count in SUN leaves the channel, and its state SUN. -/
theorem State.put_sun_ct_shows {n : Nat} (hn : n < 2 ^ 8) : (s.put (SKM_CH_sun_ct c k) n).rd (SKM_CH_sun_ct c k) = n
    ∧ (s.put (SKM_CH_sun_ct c k) n).flag (SKM_CH_sun c k) = s.flag (SKM_CH_sun c k) :=
  ⟨State.rd_put_of_lt (by simp [SKM_CH_sun_ct]) hn, State.flag_put_beside (by rfl)⟩

theorem sunStep_laws : SkimLaws s (s.sunStep c k a o) := fun b hb => regs_sunStep b (fun hm => by
  simp only [SKM_CH, eventRegs, List.mem_cons, List.not_mem_nil, or_false, HIF_FN_ERR, HIF_EVQ_STAT, HIF_IRQ_STAT] at hm
  omega)

/-! ## One channel's turn (R307, R563) -/

theorem State.skimChannel_off (hp : s.cratePowered c = false) : s.skimChannel c k = s := by
  simp [State.skimChannel, hp]

theorem State.skimChannel_idle (hf : (s.chan c k).ambFailed = false)
    (h : s.flag (CHN_AMB_valid c k) = false ∨ (s.chan c k).ambDelivered = false) : s.skimChannel c k = s := by
  obtain h | h := h <;> simp [State.skimChannel, hf, h]

theorem State.skimChannel_failed (hp : s.cratePowered c = true) (hf : (s.chan c k).ambFailed = true) :
    s.skimChannel c k = s.holdSun c k := by
  simp [State.skimChannel, hp, hf]

/-- A delivered, valid result of a powered crate's channel whose converter works is used: what the channel holds then, and that
its register is what the state table of R311 leaves. -/
theorem State.skimChannel_used (hp : s.cratePowered c = true) (hf : (s.chan c k).ambFailed = false)
    (hd : (s.chan c k).ambDelivered = true) (hv : s.flag (CHN_AMB_valid c k) = true) (ho : o = s.flag (CHN_AMB_over c k))
    (ha : a = if o = true then 1048575 else s.rd (CHN_AMB_amb c k)) :
    (s.skimChannel c k).chan c k = { (s.sunStep c k a o).chan c k with
        lastA := some (a, o), pubThr := s.thrTarget a
        pubBias := if ((s.sunStep c k a o).flag (SKM_CH_sun c k) && s.sunSteps) = true then
          max (s.biasTarget a) (s.rd SKM_SUN_ON_sun_step) else s.biasTarget a }
      ∧ (s.skimChannel c k).reg (SKM_CH c k) = (s.sunStep c k a o).reg (SKM_CH c k) := by
  have laws : SkimLaws s (s.sunStep c k a o) := sunStep_laws
  have step : s.skimChannel c k = (s.sunStep c k a o).modChan c k (fun h => { h with
      lastA := some (a, o), pubThr := (s.sunStep c k a o).thrTarget a
      pubBias := if ((s.sunStep c k a o).flag (SKM_CH_sun c k) && (s.sunStep c k a o).sunSteps) = true then
        max ((s.sunStep c k a o).biasTarget a) ((s.sunStep c k a o).rd SKM_SUN_ON_sun_step)
        else (s.sunStep c k a o).biasTarget a }) := by
    subst ha ho
    simp [State.skimChannel, hp, hf, hd, hv]
  rw [step]
  refine ⟨?_, rfl⟩
  rw [State.chan_modChan_same, laws.thrTarget, laws.biasTarget, laws.sunSteps, laws.rd (f := SKM_SUN_ON_sun_step) (by decide)]

/-- A used result, as the frame leaves it. -/
theorem exec_skimmerFrameProcess_used {c : CrateId} {k : ChanId} (hl : s.fabricReady = true) (hp : s.cratePowered c = true)
    (hf : (s.chan c k).ambFailed = false) (hd : (s.chan c k).ambDelivered = true) (hv : s.flag (CHN_AMB_valid c k) = true)
    (ho : o = s.flag (CHN_AMB_over c k)) (ha : a = if o = true then 1048575 else s.rd (CHN_AMB_amb c k)) :
    ∃ t, exec .skimmerFrameProcess s = .next t
      ∧ t.chan c k = { (s.sunStep c k a o).chan c k with
          lastA := some (a, o), ambDelivered := false, pubThr := s.thrTarget a
          pubBias := if ((s.sunStep c k a o).flag (SKM_CH_sun c k) && s.sunSteps) = true then
            max (s.biasTarget a) (s.rd SKM_SUN_ON_sun_step) else s.biasTarget a }
      ∧ t.flag (SKM_CH_sun c k) = (s.sunStep c k a o).flag (SKM_CH_sun c k)
      ∧ t.rd (SKM_CH_sun_ct c k) = (s.sunStep c k a o).rd (SKM_CH_sun_ct c k) := by
  obtain ⟨t, hexec, hchan, hreg⟩ := exec_skimmerFrameProcess_channel (c := c) (k := k) hl
  obtain ⟨used, shown⟩ := State.skimChannel_used hp hf hd hv ho ha
  rw [shown] at hreg
  exact ⟨t, hexec, by rw [hchan, used], State.flag_congr (f := SKM_CH_sun c k) hreg,
    State.rd_congr (f := SKM_CH_sun_ct c k) hreg⟩

/-- The targets that hold while the channel's ambient converter has failed (R563). -/
theorem State.holdSun_shows (hp : s.cratePowered c = true) : (s.holdSun c k).flag (SKM_CH_sun c k) = true
    ∧ (s.flag (SKM_CH_sun c k) = true → (s.holdSun c k).reg (SKM_CH c k) = s.reg (SKM_CH c k))
    ∧ (s.holdSun c k).chan c k = { s.chan c k with
        pubThr := s.rd SKM_RATE_dmax
        pubBias := if s.sunSteps = true then s.rd SKM_SUN_ON_sun_step else (s.chan c k).pubBias
        pubSun := (s.chan c k).pubSun || ((!s.flag (SKM_CH_sun c k)) && s.sunSteps) } := by
  unfold State.holdSun
  dsimp only
  rw [State.chan_modChan_same, hp, Bool.and_true]
  cases hs : s.flag (SKM_CH_sun c k)
  · refine ⟨State.setSun_shows.1, fun h => absurd h (by decide), ?_⟩
    rw [Bool.not_false, doIf_true, State.setSun_shows.2.2]
  · exact ⟨hs, fun _ => rfl, rfl⟩

theorem ambient_lt {b : Bool} {f : FRef} (hf : f.width = 20) (ha : a = if b = true then 1048575 else s.rd f) : a < 2 ^ 20 := by
  have hlt : s.rd f < 2 ^ f.width := State.rd_lt
  rw [hf] at hlt
  rw [ha]
  split
  · decide
  · exact hlt

/-- Settles O30: a frame is its channels' turns (`exec_skimmerFrameProcess_channel`), and each clause is one row of R311. -/
theorem skimmerFrames : Obligations.SkimmerFrames := by
  unfold Obligations.SkimmerFrames
  refine ⟨?dark, ?enters, ?unused, ?failed, ?inSun, ?unpowered⟩
  case dark =>
    intro c k a q w θ β s hl hp hf hd hv ho ha hs hon hq hq' hw hw' hθ hβ
    obtain ⟨t, hexec, hchan, hsun, -⟩ := exec_skimmerFrameProcess_used (o := false) hl hp hf hd hv ho.symm ha
    have hthr : s.thrTarget a = θ := (State.thrTarget_eq (ambient_lt (b := false) rfl ha) hq hq' hw hw').trans hθ.symm
    have hbias : s.biasTarget a = β := hβ.symm
    rw [State.sunStep_dark hs (by simp [hon]), hs, hthr, hbias] at hchan
    rw [State.sunStep_dark hs (by simp [hon]), hs] at hsun
    exact ⟨t, hexec, hchan, hsun⟩
  case enters =>
    intro c k a q w θ β v o s hl hp hf hd hv ho ha hs hon hq hq' hw hw' hθ hβ hv'
    obtain ⟨t, hexec, hchan, hsun, hct⟩ := exec_skimmerFrameProcess_used hl hp hf hd hv ho ha
    have hthr : s.thrTarget a = θ := (State.thrTarget_eq (ambient_lt (b := o) rfl ha) hq hq' hw hw').trans hθ.symm
    have hbias : s.biasTarget a = β := hβ.symm
    obtain ⟨on, zero, kept⟩ := State.setSun_shows (s := s) (c := c.val) (k := k.val) (on := true) (a := a)
    have entered : ∀ f, ((s.setSun c k true a).modChan c k f).flag (SKM_CH_sun c k) = true := fun _ => on
    rw [State.sunStep_enters hs hon, State.chan_modChan_same, kept, entered, hthr, hbias] at hchan
    rw [State.sunStep_enters hs hon] at hsun hct
    refine ⟨t, hexec, hsun.trans on, hct.trans zero, ?_⟩
    rw [hchan, hv']
    simp [State.sunSteps]
  case unused =>
    intro c k s hl hf h
    obtain ⟨t, hexec, hchan, hreg⟩ := exec_skimmerFrameProcess_channel (c := c) (k := k) hl
    rw [State.skimChannel_idle hf h] at hchan hreg
    exact ⟨t, hexec, hchan, hreg⟩
  case failed =>
    intro c k s hl hp hf
    obtain ⟨t, hexec, hchan, hreg⟩ := exec_skimmerFrameProcess_channel (c := c) (k := k) hl
    obtain ⟨hsun, hstays, hheld⟩ := State.holdSun_shows (c := c.val) (k := k.val) hp
    rw [State.skimChannel_failed hp hf] at hchan hreg
    rw [hheld] at hchan
    refine ⟨t, hexec, (State.flag_congr (f := SKM_CH_sun c k) hreg).trans hsun, ?_, ?_,
      fun h => ⟨?_, hreg.trans (hstays h)⟩, fun h1 h2 => ?_⟩
    · rw [hchan]
    · rw [hchan]
    · rw [hchan, h]
      simp
    · rw [hchan]
      simp [State.sunSteps, h1, h2]
  case inSun =>
    intro c k a q w θ β v s hl hp hf hd hv ho ha hs hq hq' hw hw' hθ hβ hv'
    obtain ⟨t, hexec, hchan, hsun, hct⟩ := exec_skimmerFrameProcess_used (o := false) hl hp hf hd hv ho.symm ha
    have hthr : s.thrTarget a = θ := (State.thrTarget_eq (ambient_lt (b := false) rfl ha) hq hq' hw hw').trans hθ.symm
    have hbias : s.biasTarget a = β := hβ.symm
    rw [hthr, hbias] at hchan
    have stays : ∀ n, n < 2 ^ 8 → s.sunStep c k a false = s.put (SKM_CH_sun_ct c k) n →
        t.flag (SKM_CH_sun c k) = true ∧ t.rd (SKM_CH_sun_ct c k) = n
        ∧ t.chan c k = { s.chan c k with lastA := some (a, false), ambDelivered := false, pubThr := θ, pubBias := v } := by
      intro n hn step
      obtain ⟨count, sun⟩ := State.put_sun_ct_shows (s := s) (c := c.val) (k := k.val) hn
      rw [step, sun, hs] at hchan hsun
      rw [step, count] at hct
      refine ⟨hsun, hct, ?_⟩
      rw [hchan, hv']
      simp [State.sunSteps]
    refine ⟨t, hexec, fun h => stays 0 (by decide) (State.sunStep_bright hs h), fun h hn => ?_, fun h hn => ?_⟩
    · have hold : s.rd SKM_SUN_OFF_sun_hold < 2 ^ 8 := State.rd_lt
      exact stays _ (by omega) (State.sunStep_counts hs h hn)
    · obtain ⟨off, zero, kept⟩ := State.setSun_shows (s := s) (c := c.val) (k := k.val) (on := false) (a := a)
      have left : ∀ f, ((s.setSun c k false a).modChan c k f).flag (SKM_CH_sun c k) = false := fun _ => off
      have step := State.sunStep_leaves (o := false) hs h (by omega)
      rw [step, State.chan_modChan_same, kept, left] at hchan
      rw [step] at hsun hct
      exact ⟨hsun.trans off, hct.trans zero, hchan⟩
  case unpowered =>
    intro c k s hl hp
    obtain ⟨t, hexec, hchan, hreg⟩ := exec_skimmerFrameProcess_channel (c := c) (k := k) hl
    rw [State.skimChannel_off hp] at hchan hreg
    exact ⟨t, hexec, hchan, hreg⟩

end Sys2Proof.Machine
end

section
/-! PROOFS. The discriminator's crossings and falls (spec/02_receiver_front_end.md R37, R41, R46, R48; spec/03_time_measurement.md
R97, R98, R100, R102): what a channel writes into the FIFO while no marker is owed, and what a crossing leaves in the channel. -/

namespace Sys2Proof.Machine

variable {s t : State} {c k i lsb : Nat} {w : Win} {cap : Capture} {p : Pend}

/-! ## Writing events while no marker is owed (R102) -/

/-- With no marker owed the crate writes none, and only the channel's own events go. -/
theorem State.release_of_closing_nil (h : (s.crate c).closing = []) (hd : ((s.drainChan c k).crate c).closing = []) :
    s.release c k = s.drainChan c k := by
  have none_owed : (s.drainChan c k).tryMarker c = s.drainChan c k := by
    rw [State.tryMarker, hd]
  rw [State.release, h, none_owed]
  rfl

theorem State.releaseOne_of_waits (h : (s.chan c k).mayRelease (s.crate c) = false) : s.releaseOne c k = s := by
  unfold State.releaseOne
  split
  · rfl
  · rw [h]
    rfl

theorem State.drainChan_of_waits (h : (s.chan c k).mayRelease (s.crate c) = false) : s.drainChan c k = s.tryIdle c k := by
  have none_goes : forAll (List.range (s.chan c k).pend.length) (fun t _ => t.releaseOne c k) s = s :=
    forAll_induction (P := fun t => t = s) rfl (fun _ _ _ ht => by rw [ht, State.releaseOne_of_waits h])
  rw [State.drainChan, none_goes]

/-- The first event waits: nothing is written. -/
theorem State.release_of_waits (h : (s.crate c).closing = []) (hw : (s.chan c k).mayRelease (s.crate c) = false) :
    s.release c k = s.tryIdle c k := by
  have drained := State.drainChan_of_waits hw
  have kept : Evolves [.chans] s (s.tryIdle c k) := ev_tryIdle (by decide) ev_refl
  rw [State.release_of_closing_nil h (by rw [drained, kept.1.crate (by decide), h]), drained]

theorem Chan.mayRelease_of_nil {h : Chan} {g : Crate} (hp : h.pend = []) : h.mayRelease g = false := by
  rw [Chan.mayRelease, hp]

/-- An event whose code does not stand waits (R102). -/
theorem Chan.mayRelease_of_not_ready {h : Chan} {g : Crate} (hp : h.pend = [p]) (hr : p.ready = false) :
    h.mayRelease g = false := by
  rw [Chan.mayRelease, hp]
  simp [hr]

/-- Only a channel in DRAIN, or one that has gone OFF, goes to IDLE. -/
theorem State.tryIdle_of_main (h : (s.chan c k).st = .main) : s.tryIdle c k = s := by
  rw [State.tryIdle, h]
  rfl

/-- A channel in its main window whose first event waits: nothing happens. -/
theorem State.release_of_main (h : (s.crate c).closing = []) (hw : (s.chan c k).mayRelease (s.crate c) = false)
    (hm : (s.chan c k).st = .main) : s.release c k = s := by
  rw [State.release_of_waits h hw, State.tryIdle_of_main hm]

/-! ## The parts of a crossing -/

/-- The discriminator's output goes active. -/
def State.crossed (s : State) (c k : Nat) : State := s.modChan c k (fun h => { h with active := true })

theorem State.chan_crossed : (s.crossed c k).chan c k = { s.chan c k with active := true } := State.chan_modChan_same

theorem onlyChans_crossed (hk : k < 16) : OnlyChans [(c, k)] s (s.crossed c k) :=
  onlyChans_modChan hk (List.mem_singleton.2 rfl)

theorem exec_discriminatorCrossing_main {c : CrateId} {k : ChanId} {sp : Option Capture} (hl : s.timingLive = true)
    (hw : (s.crate c).win = some w) (hx : s.canCross c k = true) (hi : s.server c k = some i)
    (hm : (s.chan c k).st = .main) : exec (.discriminatorCrossing c k lsb cap sp) s
      = .next (((s.crossed c k).mainCrossing c k i lsb w cap sp).release c k) := by
  simp [exec, execDiscriminatorCrossing, State.crossing, hw, hl, hx, hi, hm, State.crossed]

theorem exec_discriminatorCrossing_pre {c : CrateId} {k : ChanId} {sp : Option Capture} (hl : s.timingLive = true)
    (hw : (s.crate c).win = some w) (hx : s.canCross c k = true) (hi : s.server c k = some i)
    (hm : (s.chan c k).st = .pre) : exec (.discriminatorCrossing c k lsb cap sp) s
      = .next ((s.crossed c k).preCrossing c k i lsb w cap sp) := by
  simp [exec, execDiscriminatorCrossing, State.crossing, hw, hl, hx, hi, hm, State.crossed]

theorem Crate.closing_modOpen {g : Crate} {f : Dwell → Dwell} : (g.modOpen f).closing = g.closing := by
  unfold Crate.modOpen
  split <;> rfl

theorem State.closing_shadowNote {iv spare : Option Int} : ((s.shadowNote c k iv spare).crate c).closing = (s.crate c).closing :=
  doIf_induction (P := fun t => (t.crate c).closing = (s.crate c).closing) rfl (fun _ => by
    rw [State.crate_modCrate_same, Crate.closing_modOpen])

theorem onlyCrates_shadowNote {iv spare : Option Int} : OnlyCrates [c] s (s.shadowNote c k iv spare) :=
  doIf_induction (P := OnlyCrates [c] s) (fun _ _ => rfl) (fun _ => onlyCrates_modCrate)

/-! ## A crossing of the main window (R46, R97, R98) -/

/-- On a free charge path a crossing opens a gate and waits as an event that owns the path. -/
theorem State.frontEvent_free {iv : Int} {atRes drop : Bool} (hb : (s.chan c k).pathBusy = false) :
    ∃ e : Evt, (e.interval = iv ∧ e.chan = k ∧ e.rep = w.rep ∧ e.merged = false ∧ e.range = s.baseRange c k)
      ∧ s.frontEvent c k i lsb w iv atRes drop = (s.modChan c k (fun g => { g with hold := some ⟨false, false⟩ })).addPend c k i e
          true false (!s.autoranging c) drop := by
  unfold State.frontEvent
  dsimp only
  rw [if_neg (by rw [hb]; decide)]
  exact ⟨_, ⟨rfl, rfl, rfl, rfl, rfl⟩, rfl⟩

theorem onlyChans_frontEvent_free {iv : Int} {atRes drop : Bool} (hk : k < 16) (hb : (s.chan c k).pathBusy = false) :
    OnlyChans [(c, k)] s (s.frontEvent c k i lsb w iv atRes drop) := by
  obtain ⟨e, -, hfront⟩ := State.frontEvent_free (i := i) (lsb := lsb) (w := w) (iv := iv) (atRes := atRes) (drop := drop) hb
  rw [hfront]
  exact (onlyChans_modChan hk (List.mem_singleton.2 rfl)).trans (onlyChans_modChan hk (List.mem_singleton.2 rfl))

/-- The event of a stop that its slice captures, and the channel's count of it, before the spare's comparison. -/
def State.stopTaken (s : State) (c k i lsb : Nat) (w : Win) (iv : Int) (atRes : Bool) : State :=
  (s.frontEvent c k i lsb w iv atRes false).modChan c k (fun g => { g with stops := g.stops + 1, lastStop := some lsb })

section Stop

variable {spare : Option Capture} {sp : Option Int} {iv : Int} {atRes : Bool}

theorem ev_mainStop_stopTaken : Evolves [.slices, .crates] (s.stopTaken c k i lsb w iv atRes)
    (s.mainStop c k i lsb w cap spare sp iv atRes) :=
  ev_shadowNote (by decide) (ev_doIf (fun _ h => ev_spareHit (by decide) (ev_tapHit (by decide) h)) ev_refl)

theorem crates_mainStop : ((s.mainStop c k i lsb w cap spare sp iv atRes).crate c).closing = (s.crate c).closing
    ∧ OnlyCrates [c] s (s.mainStop c k i lsb w cap spare sp iv atRes) := by
  have hits : Evolves [.slices, .chans] s (doIf (s.cfgRd c (CRT_TDC_CFG_cd_src c) == 1)
      (fun t => (t.tapHit c i cap.d).spareHit c k (spare.map (fun x => x.d))) (s.stopTaken c k i lsb w iv atRes)) :=
    ev_doIf (fun _ h => ev_spareHit (by decide) (ev_tapHit (by decide) h))
      (ev_modChan (by decide) (ev_frontEvent (by decide) ev_refl))
  exact ⟨State.closing_shadowNote.trans (congrArg Crate.closing (hits.1.crate (by decide) c)),
    (hits.1.onlyCrates (by decide)).trans onlyCrates_shadowNote⟩

theorem onlyChans_mainStop_free (hk : k < 16) (hb : (s.chan c k).pathBusy = false) :
    OnlyChans [(c, k)] s (s.mainStop c k i lsb w cap spare sp iv atRes) :=
  ((onlyChans_frontEvent_free hk hb).trans (onlyChans_modChan hk (List.mem_singleton.2 rfl))).evolves ev_mainStop_stopTaken
    (by decide)

/-- What a captured stop of the main window leaves of its channel, on a free charge path. -/
theorem State.chan_mainStop_free (hb : (s.chan c k).pathBusy = false) :
    ∃ e : Evt, (e.interval = iv ∧ e.chan = k ∧ e.rep = w.rep ∧ e.merged = false ∧ e.range = s.baseRange c k)
      ∧ (s.mainStop c k i lsb w cap spare sp iv atRes).chan c k = { s.chan c k with
          pend := (s.chan c k).pend
            ++ [⟨e, (s.coeffs c i).1, (s.coeffs c i).2, none, true, false, !s.autoranging c, false, 0⟩]
          hold := some ⟨false, false⟩, stops := (s.chan c k).stops + 1, lastStop := some lsb } := by
  obtain ⟨e, he, hfront⟩ := State.frontEvent_free (i := i) (lsb := lsb) (w := w) (iv := iv) (atRes := atRes) (drop := false) hb
  refine ⟨e, he, ?_⟩
  rw [ev_mainStop_stopTaken.1.chan (by decide), State.stopTaken, hfront, State.chan_modChan_same, State.addPend,
    State.chan_modChan_same, State.chan_modChan_same]
  rfl

end Stop

/-- The shadowing spare's part of a crossing reaches only its own counters. -/
theorem regs_spareMain {spare : Option Capture} : OnlyRegs [TDC_EV_STAT c 16] s (s.spareMain c k lsb spare).1 := by
  unfold State.spareMain
  split
  · exact onlyRegs_refl
  · split
    · exact onlyRegs_refl
    · rename_i f hf
      have own : f.addr = TDC_EV_STAT c 16 := by
        unfold State.spareLoses at hf
        grind [TDC_EV_STAT_coarse_ovf, TDC_EV_STAT_dt_merged, TDC_EV_STAT_early_drop, TDC_EV_STAT_excess]
      exact regs_bump (by rw [own]; simp) onlyRegs_refl

/-- A spare that shadows another channel, or none, has no part. -/
theorem State.spareMain_of_not_shadows {spare : Option Capture} (h : s.shadows c k = false) :
    s.spareMain c k lsb spare = (s, none) := by
  unfold State.spareMain State.spareCapture
  cases spare <;> simp [h]

/-- A crossing in the main window that its slice captures (R97, R98, R100). -/
theorem State.mainCrossing_captured {st : Int} {spare : Option Capture} (hst : (s.slice c i).start = some st)
    (hcap : cap.k ≤ 65535) (hd : (s.chan c k).deadAt lsb = false) (hpos : -16 < s.stamp c i cap + skewOf c i k - st)
    (h8 : (s.chan c k).stops < 8) : ∃ sp, s.mainCrossing c k i lsb w cap spare
      = (s.spareMain c k lsb spare).1.mainStop c k i lsb w cap (s.spareMain c k lsb spare).2 sp
          (intervalOf (s.stamp c i cap + skewOf c i k - st)).1 (intervalOf (s.stamp c i cap + skewOf c i k - st)).2 := by
  unfold State.mainCrossing
  rw [hst]
  dsimp only
  rw [if_neg (by omega), if_neg (by rw [hd]; decide), if_neg (by omega), if_neg (by omega)]
  exact ⟨_, rfl⟩

/-- A crossing in the main window within 1.5 ns of the last captured stop (R98). -/
theorem State.mainCrossing_merged {st : Int} {spare : Option Capture} (hst : (s.slice c i).start = some st)
    (hcap : cap.k ≤ 65535) (hd : (s.chan c k).deadAt lsb = true) :
    s.mainCrossing c k i lsb w cap spare = (s.spareMain c k lsb spare).1.stopCount (TDC_EV_STAT_dt_merged c i) := by
  unfold State.mainCrossing
  rw [hst]
  dsimp only
  rw [if_neg (by omega), if_pos hd]

theorem State.coeffs_congr (hcr : t.crates = s.crates) (hsl : t.slices = s.slices)
    (hr : t.reg (TDC_QCAL c i) = s.reg (TDC_QCAL c i)) : t.coeffs c i = s.coeffs c i := by
  unfold State.coeffs State.slice State.crate State.rdInt
  rw [hcr, hsl, State.rd_congr (f := TDC_QCAL_q_gain c i) hr, State.rd_congr (f := TDC_QCAL_q_off c i) hr]

theorem State.baseRange_congr (hm : t.autoranging c = s.autoranging c) (hr : t.reg (CHN_FE_STAT c k) = s.reg (CHN_FE_STAT c k)) :
    t.baseRange c k = s.baseRange c k := by
  unfold State.baseRange
  rw [hm, State.rd_congr (f := CHN_FE_STAT_ar_range c k) hr]

/-- A spare's part of a crossing changes nothing that the slice's event is made of. -/
theorem State.spareMain_keeps {spare : Option Capture} {j : Nat} : (s.spareMain c k lsb spare).1.coeffs c j = s.coeffs c j
    ∧ (s.spareMain c k lsb spare).1.baseRange c k = s.baseRange c k
    ∧ (s.spareMain c k lsb spare).1.autoranging c = s.autoranging c := by
  have part : Evolves [.regs] s (s.spareMain c k lsb spare).1 := ev_spareMain (by decide) ev_refl
  have mode : (s.spareMain c k lsb spare).1.autoranging c = s.autoranging c :=
    regs_spareMain.flag (by simp [CRT_FE_fe_mode, CRT_FE, TDC_EV_STAT]; omega)
  exact ⟨State.coeffs_congr (part.1 .crates (by decide)) (part.1 .slices (by decide))
      (regs_spareMain _ (by simp [TDC_QCAL, TDC_EV_STAT]; omega)),
    State.baseRange_congr mode (regs_spareMain _ (by simp [CHN_FE_STAT, TDC_EV_STAT]; omega)), mode⟩

/-! ## The event that holds the path (R37, R48) -/

/-- The only waiting event holds the path. -/
theorem modOwner_singleton {f : Pend → Pend} (h : p.owner = true) : modOwner [p] f = [f p] := by
  simp [modOwner, lastOwner, h]

theorem Chan.pend_mergeOwner {h : Chan} (hp : h.pend = [p]) (ho : p.owner = true) :
    h.mergeOwner.pend = [{ p with evt := { p.evt with merged := true } }] := by
  simp only [Chan.mergeOwner, hp, modOwner_singleton ho]

/-- A crossing behind the trigger instant, on a busy path, waits for the start and merges with the event that holds the path. -/
theorem State.preCrossing_waits (hcap : cap.k ≤ 65535) (hacc : w.accept ≤ lsb) (htrig : w.trig ≤ lsb)
    (hd : (s.chan c k).deadAt lsb = false) (hb : (s.chan c k).pathBusy = true) :
    ∃ x : PreStop, (x.merged = true ∧ x.lsb = lsb ∧ x.stamp = s.stamp c i cap)
      ∧ s.preCrossing c k i lsb w cap none
        = s.modChan c k (fun g => { g.mergeOwner with preStops := g.preStops ++ [x] }) := by
  unfold State.preCrossing
  dsimp only
  rw [if_neg (by omega), if_neg (by omega), if_neg (by rw [hd]; decide), if_pos htrig]
  simp only [hb, if_true]
  exact ⟨_, ⟨rfl, rfl, rfl⟩, rfl⟩

theorem Chan.tryEndHold_of_none {h : Chan} (hh : h.hold = none) : h.tryEndHold = h := by
  rw [Chan.tryEndHold, hh]

theorem Chan.tryEndHold_of_ended {h : Chan} (hh : h.hold = some ⟨true, true⟩) :
    h.tryEndHold = { h with hold := none, resetting := true } := by
  rw [Chan.tryEndHold, hh]
  rfl

theorem exec_discriminatorFall {c : CrateId} {k : ChanId} (hl : s.timingLive = true) :
    exec (.discriminatorFall c k) s = .next (s.modChan c k (fun h => ({ h with
      active := false, blankHeld := false
      hold := if h.active then h.hold.map (fun x => { x with fallen := true }) else h.hold } : Chan).tryEndHold)) := by
  simp [exec, execDiscriminatorFall, hl]

/-- A captured stop of the main window opens a gate and waits as an event that owns the path (R46). -/
theorem State.mainCrossing_opens {st : Int} {spare : Option Capture} (hk : k < 16) (hst : (s.slice c i).start = some st)
    (hcap : cap.k ≤ 65535) (hd : (s.chan c k).deadAt lsb = false) (hpos : -16 < s.stamp c i cap + skewOf c i k - st)
    (h8 : (s.chan c k).stops < 8) (hb : (s.chan c k).pathBusy = false) :
    ∃ e : Evt, (e.interval = (intervalOf (s.stamp c i cap + skewOf c i k - st)).1 ∧ e.chan = k ∧ e.rep = w.rep
        ∧ e.merged = false ∧ e.range = s.baseRange c k)
      ∧ (s.mainCrossing c k i lsb w cap spare).chan c k = { s.chan c k with
          pend := (s.chan c k).pend
            ++ [⟨e, (s.coeffs c i).1, (s.coeffs c i).2, none, true, false, !s.autoranging c, false, 0⟩]
          hold := some ⟨false, false⟩, stops := (s.chan c k).stops + 1, lastStop := some lsb }
      ∧ ((s.mainCrossing c k i lsb w cap spare).crate c).closing = (s.crate c).closing
      ∧ OnlyChans [(c, k)] s (s.mainCrossing c k i lsb w cap spare)
      ∧ OnlyCrates [c] s (s.mainCrossing c k i lsb w cap spare) := by
  obtain ⟨sp, hcross⟩ := State.mainCrossing_captured (w := w) (spare := spare) hst hcap hd hpos h8
  have part : Evolves [.regs] s (s.spareMain c k lsb spare).1 := ev_spareMain (by decide) ev_refl
  have kept : (s.spareMain c k lsb spare).1.chan c k = s.chan c k := part.1.chan (by decide) c k
  have hbusy : ((s.spareMain c k lsb spare).1.chan c k).pathBusy = false := by rw [kept, hb]
  obtain ⟨coeffs, range, mode⟩ := State.spareMain_keeps (s := s) (c := c) (k := k) (lsb := lsb) (spare := spare) (j := i)
  obtain ⟨e, he, hleft⟩ := State.chan_mainStop_free (i := i) (lsb := lsb) (w := w) (cap := cap) (sp := sp)
    (spare := (s.spareMain c k lsb spare).2) (iv := (intervalOf (s.stamp c i cap + skewOf c i k - st)).1)
    (atRes := (intervalOf (s.stamp c i cap + skewOf c i k - st)).2) hbusy
  rw [range] at he
  rw [kept, coeffs, mode] at hleft
  rw [hcross]
  refine ⟨e, he, hleft, ?_, ?_, ?_⟩
  · rw [crates_mainStop.1, part.1.crate (by decide)]
  · exact (part.1.onlyChans (by decide)).trans (onlyChans_mainStop_free hk hbusy)
  · exact (part.1.onlyCrates (by decide)).trans crates_mainStop.2

/-- Settles O13: each clause is one branch of the crossing, and with the channel's events waiting nothing is written after it. -/
theorem crossings : Obligations.Crossings := by
  unfold Obligations.Crossings
  refine ⟨?captured, ?merges, ?waits, ?silent, ?falls, ?ends⟩
  case captured =>
    intro c k lsb cap sp w i st s hl hw hx hi hm hst hcap hd hpos h8 hb hp hc
    obtain ⟨e, ⟨hiv, hchan, hrep, hmerged, hrange⟩, hleft, hclosing, hchans, hcrates⟩ :=
      State.mainCrossing_opens (s := s.crossed c k) (c := c) (k := k) (lsb := lsb) (w := w) (spare := sp) k.isLt hst hcap
        (by rw [State.chan_crossed]; exact hd) hpos (by rw [State.chan_crossed]; exact h8) (by rw [State.chan_crossed]; exact hb)
    rw [State.chan_crossed] at hleft
    have waits : (((s.crossed c k).mainCrossing c k i lsb w cap sp).chan c k).mayRelease
        (((s.crossed c k).mainCrossing c k i lsb w cap sp).crate c) = false :=
      Chan.mayRelease_of_not_ready (p := ⟨e, (s.coeffs c i).1, (s.coeffs c i).2, none, true, false, !s.autoranging c, false, 0⟩)
        (by rw [hleft]; exact congrArg (· ++ _) hp) rfl
    have hexec := exec_discriminatorCrossing_main (lsb := lsb) (cap := cap) (sp := sp) hl hw hx hi hm
    rw [State.release_of_main (hclosing.trans hc) waits (by rw [hleft]; exact hm)] at hexec
    refine ⟨_, e, hexec, hiv, hchan, hrep, hmerged, hrange, ?_, ?_, ?_, ?_, ?_,
      (onlyChans_crossed k.isLt).trans hchans, hcrates⟩
    all_goals rw [hleft]
    exact congrArg (· ++ _) hp
  case merges =>
    intro c k lsb cap sp w i st s hl hw hx hi hm hst hcap hd hp hc hsp
    have hexec := exec_discriminatorCrossing_main (lsb := lsb) (cap := cap) (sp := sp) hl hw hx hi hm
    rw [State.mainCrossing_merged (s := s.crossed c k) hst hcap (by rw [State.chan_crossed]; exact hd)] at hexec
    have counted : Evolves [.regs] (s.crossed c k)
        (((s.crossed c k).spareMain c k lsb sp).1.stopCount (TDC_EV_STAT_dt_merged c i)) :=
      ev_stopCount (by decide) (ev_spareMain (by decide) ev_refl)
    have kept := counted.1.chan (by decide) c k
    rw [State.chan_crossed] at kept
    rw [State.release_of_main ((congrArg Crate.closing (counted.1.crate (by decide) c)).trans hc)
      (Chan.mayRelease_of_nil (by rw [kept]; exact hp)) (by rw [kept]; exact hm)] at hexec
    refine ⟨_, hexec, ?_, kept, (onlyChans_crossed k.isLt).evolves counted (by decide)⟩
    have own : ((s.crossed c k).spareMain c k lsb sp).1.rd (TDC_EV_STAT_dt_merged c i) = s.rd (TDC_EV_STAT_dt_merged c i) := by
      obtain hno | hi16 := hsp
      · rw [State.spareMain_of_not_shadows (s := s.crossed c k) hno]
        rfl
      · exact regs_spareMain.rd (by simp [TDC_EV_STAT_dt_merged, TDC_EV_STAT]; omega)
    rw [State.stopCount, State.rd_bump_same (by simp [TDC_EV_STAT_dt_merged, FRef.fits]), own]
  case waits =>
    intro c k lsb cap w i p s hl hw hx hi hm hp ho hb hcap hacc htrig hd
    obtain ⟨x, ⟨hmerged, hlsb, hstamp⟩, hwait⟩ := State.preCrossing_waits (s := s.crossed c k) (i := i) hcap hacc htrig
      (by rw [State.chan_crossed]; exact hd) (by rw [State.chan_crossed]; exact hb)
    have hexec := exec_discriminatorCrossing_pre (lsb := lsb) (cap := cap) (sp := none) hl hw hx hi hm
    rw [hwait] at hexec
    refine ⟨_, x, hexec, ?_, ?_, hmerged, hlsb, hstamp, ?_, ?_⟩
    · rw [State.chan_modChan_same, State.chan_crossed]
      exact Chan.pend_mergeOwner (h := { s.chan c k with active := true }) hp ho
    · rw [State.chan_modChan_same, State.chan_crossed]
    · exact (onlyChans_crossed k.isLt).trans (onlyChans_modChan k.isLt (List.mem_singleton.2 rfl))
    · exact (ev_modChan (L := [.chans]) (by decide) (ev_modChan (by decide) ev_refl)).1
  case silent =>
    intro c k lsb cap sp s h
    have none_given : s.canCross c k = false := by simp [State.canCross, h]
    simp only [exec, execDiscriminatorCrossing, none_given, Bool.and_false, doIf_false]
    split <;> rfl
  case falls =>
    intro c k s hl hh
    refine ⟨_, exec_discriminatorFall hl, ?_, onlyChans_modChan k.isLt (List.mem_singleton.2 rfl),
      (ev_modChan (L := [.chans]) (by decide) ev_refl).1⟩
    rw [State.chan_modChan_same, Chan.tryEndHold_of_none (by simp [hh])]
    simp [hh]
  case ends =>
    intro c k b s hl hh ha
    refine ⟨_, exec_discriminatorFall hl, ?_⟩
    rw [State.chan_modChan_same, Chan.tryEndHold_of_ended (by simp [hh, ha])]

end Sys2Proof.Machine
end

section
/-! PROOFS. The charge path (spec/02_receiver_front_end.md R34 to R38, R46 to R48; spec/03_time_measurement.md R102, R104): range
selection, the end of the gate, the conversion, and the event's way into the FIFO. -/

namespace Sys2Proof.Machine

variable {s t : State} {c k n : Nat} {p : Pend} {q : Int}

/-! ## Into the FIFO (R102) -/

theorem regs_fifoPut {x : FifoItem} : OnlyRegs [CRT_EVF_STAT c] s (s.fifoPut c x) :=
  regs_doIf (fun _ h => regs_raise (List.mem_singleton.2 rfl) h) (regs_modCrate onlyRegs_refl)

theorem Crate.takesEvent_of_length {g : Crate} (h : g.fifo.length < 254) : g.takesEvent = true := by
  have events : g.fifo.countP FifoItem.isEvent ≤ g.fifo.length := List.countP_le_length
  rw [Crate.takesEvent, Bool.and_eq_true, decide_eq_true_eq, decide_eq_true_eq]
  exact ⟨lt_of_le_of_lt events h, by omega⟩

/-- A standing code on a free path goes when it is its dwell's turn and no marker is owed. -/
theorem Chan.mayRelease_of_free {h : Chan} {g : Crate} (hp : h.pend = [p]) (hr : p.ready = true) (hb : h.pathBusy = false)
    (hc : g.closing = []) (hn : g.nextOpened = false) : h.mayRelease g = true := by
  have free : h.heldBack g = false := by
    unfold Chan.heldBack
    rw [show (h.hold.isSome || h.resetting) = false from hb]
    simp
  rw [Chan.mayRelease, hp]
  simp [hr, free, Crate.mayPass, Crate.nextsTurn, hc, hn]

/-- The event that holds a busy path waits until its dwell has ended: a later crossing can still merge with it (R48). -/
theorem Chan.mayRelease_of_held {h : Chan} {g : Crate} {d : Dwell} (hp : h.pend = [p]) (ho : p.owner = true)
    (hb : h.pathBusy = true) (hd : g.dwell = some d) (he : d.ended = false) : h.mayRelease g = false := by
  have held : h.heldBack g = true := by
    unfold Chan.heldBack
    rw [show (h.hold.isSome || h.resetting) = true from hb, hp, hd]
    simp [lastOwner, ho, he]
  rw [Chan.mayRelease, hp]
  simp [held]

/-- The channel's events have left it. -/
def State.eventsGone (s : State) (c k : Nat) : State := s.modChan c k (fun h => { h with pend := [] })

theorem State.chan_eventsGone : (s.eventsGone c k).chan c k = { s.chan c k with pend := [] } := State.chan_modChan_same

theorem onlyChans_eventsGone (hk : k < 16) : OnlyChans [(c, k)] s (s.eventsGone c k) :=
  onlyChans_modChan hk (List.mem_singleton.2 rfl)

/-- The channel's one event goes into the FIFO. -/
theorem State.release_of_event (hc : (s.crate c).closing = []) (hp : (s.chan c k).pend = [p])
    (hm : (s.chan c k).mayRelease (s.crate c) = true) (hdrop : p.drop = false) (hf : (s.crate c).fifo.length < 254) :
    s.release c k = ((s.eventsGone c k).fifoPut c (.event p.evt)).tryIdle c k := by
  have one : s.releaseOne c k = (s.eventsGone c k).fifoPut c (.event p.evt) := by
    unfold State.releaseOne
    rw [hp]
    dsimp only
    rw [if_pos hm, hdrop, Bool.not_false, doIf_true, State.pushEvent]
    exact if_pos (Crate.takesEvent_of_length (g := s.crate c) hf)
  have drained : s.drainChan c k
      = ((s.eventsGone c k).fifoPut c (.event p.evt)).tryIdle c k := by
    rw [State.drainChan, hp]
    simp only [List.length_singleton, List.range_one, forAll_cons, forAll_nil, one]
  have idle : ∀ u : State, Evolves [.chans] u (u.tryIdle c k) := fun u => ev_tryIdle (by decide) ev_refl
  rw [State.release_of_closing_nil hc, drained]
  rw [drained, (idle _).1.crate (by decide), State.crate_fifoPut]
  exact hc

theorem State.chan_tryIdle_drain (h : (s.chan c k).st = .drain) (hp : (s.chan c k).pend = []) :
    (s.tryIdle c k).chan c k = { s.chan c k with st := .idle, converterOn := false } := by
  have idles : s.tryIdle c k = s.modChan c k (fun h => { h with
      st := if h.st = .drain then .idle else h.st, converterOn := false }) := by
    rw [State.tryIdle, h, hp]
    rfl
  rw [idles, State.chan_modChan_same, h]
  rfl

theorem onlyChans_tryIdle (hk : k < 16) : OnlyChans [(c, k)] s (s.tryIdle c k) :=
  doIf_induction (P := OnlyChans [(c, k)] s) onlyChans_refl (fun _ => onlyChans_modChan hk (List.mem_singleton.2 rfl))

theorem State.pend_tryIdle : ((s.tryIdle c k).chan c k).pend = (s.chan c k).pend :=
  doIf_induction (P := fun t => (t.chan c k).pend = (s.chan c k).pend) rfl (fun _ => by rw [State.chan_modChan_same])

/-! ## The conversion (R46, R47, R104) -/

/-- A waiting event with the code of its charge. -/
def Pend.coded (p : Pend) (q : Int) (step : Nat) : Pend := { p with
  ready := true, evt := { p.evt with code := correctCode p.qGain p.qOff (rawCode q step), overRange := overRange q step } }

/-- The autorange update that an event's charge gives (R38). -/
def State.rangeAfter (s : State) (c k : Nat) (p : Pend) (q : Int) : Nat × Nat :=
  autorange (s.rd (CHN_FE_STAT_ar_range c k)) (s.rd (CHN_FE_STAT_ar_count c k)) p.evt.range
    (rawCode q (s.codeStep c p.evt.range)) (overRange q (s.codeStep c p.evt.range))

/-- The state in which a conversion's code stands, before the channel's events go. -/
def State.codeTaken (s : State) (c k n : Nat) (p : Pend) (q : Int) : State :=
  doIf (s.autoranging c) (fun t => (t.put (CHN_FE_STAT_ar_range c k) (s.rangeAfter c k p q).1).put (CHN_FE_STAT_ar_count c k)
      (s.rangeAfter c k p q).2)
    (s.modChan c k (fun h => { h with pend := h.pend.set n (p.coded q (s.codeStep c p.evt.range)) }))

theorem State.convert_eq : s.convert c k n p q = (s.codeTaken c k n p q).release c k := rfl

theorem ev_codeTaken : Evolves [.regs, .chans] s (s.codeTaken c k n p q) :=
  ev_doIf (fun _ h => ev_put (by decide) (ev_put (by decide) h)) (ev_modChan (by decide) ev_refl)

theorem State.chan_codeTaken (hp : (s.chan c k).pend = [p]) : (s.codeTaken c k 0 p q).chan c k
    = { s.chan c k with pend := [p.coded q (s.codeStep c p.evt.range)] } := by
  refine doIf_induction (P := fun t => t.chan c k = { s.chan c k with pend := [p.coded q (s.codeStep c p.evt.range)] }) ?_
    (fun h => h)
  rw [State.chan_modChan_same, hp]
  rfl

theorem onlyChans_codeTaken (hk : k < 16) : OnlyChans [(c, k)] s (s.codeTaken c k n p q) :=
  doIf_induction (P := OnlyChans [(c, k)] s) (onlyChans_modChan hk (List.mem_singleton.2 rfl)) (fun h => h)

theorem regs_codeTaken : OnlyRegs [CHN_FE_STAT c k] s (s.codeTaken c k n p q) :=
  regs_doIf (fun _ h => regs_put (List.mem_singleton.2 rfl) (regs_put (List.mem_singleton.2 rfl) h)) (regs_modChan onlyRegs_refl)

/-- In charge-amplifier mode no range moves (R34). -/
theorem regs_codeTaken_amplifier (h : s.autoranging c = false) : OnlyRegs [] s (s.codeTaken c k n p q) := by
  rw [State.codeTaken, h]
  exact onlyRegs_refl

theorem State.rd_codeTaken_range (h : s.autoranging c = true) :
    (s.codeTaken c k n p q).rd (CHN_FE_STAT_ar_range c k) = (s.rangeAfter c k p q).1 % 4 := by
  rw [State.codeTaken, h, doIf_true, State.rd_put_beside (by rfl),
    State.rd_put_same (by simp [CHN_FE_STAT_ar_range, FRef.fits])]
  rfl

/-- The one waiting event of a channel, whose charge is held, is the one that converts. -/
theorem exec_chargeConversionDone {c : CrateId} {k : ChanId} (hl : s.timingLive = true) (hp : (s.chan c k).pend = [p])
    (hq : p.held = some q) (hr : p.ready = false) :
    exec (.chargeConversionDone c k) s = .next (((s.codeTaken c k 0 p q).release c k).stopDwell c) := by
  simp [exec, execChargeConversionDone, Chan.converting, hp, hq, hr, hl, State.convert_eq]

/-- A crate that is not being powered down closes no dwell. -/
theorem State.stopDwell_of_not_due (h : (s.crate c).stopDue = false) : s.stopDwell c = s := by
  rw [State.stopDwell, h]
  rfl

/-- The conversion of a channel in DRAIN on a free path: its event goes into the FIFO and the channel to IDLE (R46, R58, R102). -/
theorem exec_chargeConversionDone_drain {c : CrateId} {k : ChanId} (hl : s.timingLive = true) (hp : (s.chan c k).pend = [p])
    (hq : p.held = some q) (hr : p.ready = false) (hdrop : p.drop = false) (hst : (s.chan c k).st = .drain)
    (hb : (s.chan c k).pathBusy = false) (hf : (s.crate c).fifo.length < 254) (hc : (s.crate c).closing = [])
    (hn : (s.crate c).nextOpened = false) (hs : (s.crate c).stopDue = false) :
    ∃ t, exec (.chargeConversionDone c k) s = .next t
      ∧ (t.crate c).fifo = (s.crate c).fifo ++ [.event (p.coded q (s.codeStep c p.evt.range)).evt]
      ∧ (t.chan c k).pend = [] ∧ (t.chan c k).st = .idle
      ∧ OnlyRegs [CRT_EVF_STAT c] (s.codeTaken c k 0 p q) t ∧ OnlyChans [(c.val, k.val)] s t ∧ OnlyCrates [c.val] s t := by
  have kept : ∀ d, (s.codeTaken c k 0 p q).crate d = s.crate d := ev_codeTaken.1.crate (by decide)
  have coded : (s.codeTaken c k 0 p q).chan c k = _ := State.chan_codeTaken hp
  have goes : ((s.codeTaken c k 0 p q).chan c k).mayRelease ((s.codeTaken c k 0 p q).crate c) = true := by
    rw [coded, kept]
    exact Chan.mayRelease_of_free (h := { s.chan c k with pend := [p.coded q (s.codeStep c p.evt.range)] }) rfl rfl hb hc hn
  have written := State.release_of_event (p := p.coded q (s.codeStep c p.evt.range)) (by rw [kept, hc]) (by rw [coded]) goes hdrop
    (by rw [kept]; exact hf)
  have put : Evolves [.regs, .crates] ((s.codeTaken c k 0 p q).eventsGone c k)
      (((s.codeTaken c k 0 p q).eventsGone c k).fifoPut c
        (.event (p.coded q (s.codeStep c p.evt.range)).evt)) := ev_fifoPut (by decide) (by decide) ev_refl
  have idle : Evolves [.chans] (((s.codeTaken c k 0 p q).eventsGone c k).fifoPut c
      (.event (p.coded q (s.codeStep c p.evt.range)).evt)) ((s.codeTaken c k 0 p q).release c k) := by
    rw [written]
    exact ev_tryIdle (by decide) ev_refl
  have emptied := put.1.chan (by decide) c k
  rw [State.chan_eventsGone, coded] at emptied
  have left : ((s.codeTaken c k 0 p q).release c k).chan c k = { s.chan c k with pend := [], st := .idle, converterOn := false } := by
    rw [written, State.chan_tryIdle_drain (by rw [emptied]; exact hst) (by rw [emptied]), emptied]
  have crate : ((s.codeTaken c k 0 p q).release c k).crate c = { s.crate c with
      fifo := (s.crate c).fifo ++ [.event (p.coded q (s.codeStep c p.evt.range)).evt] } := by
    rw [idle.1.crate (by decide), State.crate_fifoPut]
    exact congrArg (fun g : Crate => { g with fifo := g.fifo ++ [FifoItem.event (p.coded q (s.codeStep c p.evt.range)).evt] }) (kept c)
  have hexec := exec_chargeConversionDone hl hp hq hr
  rw [State.stopDwell_of_not_due (by rw [crate]; exact hs)] at hexec
  refine ⟨_, hexec, by rw [crate], by rw [left], by rw [left], ?_, ?_, ?_⟩
  · exact onlyRegs_trans (regs_fifoPut (s := (s.codeTaken c k 0 p q).eventsGone c k))
      (idle.1.onlyRegs (by decide))
  · rw [written]
    exact (((onlyChans_codeTaken k.isLt).trans (onlyChans_eventsGone k.isLt)).evolves put (by decide)).trans
      (onlyChans_tryIdle k.isLt)
  · exact ((ev_codeTaken.1.onlyCrates (by decide)).trans
      (onlyCrates_fifoPut (s := (s.codeTaken c k 0 p q).eventsGone c k))).trans
      (idle.1.onlyCrates (by decide))

/-! ## Codes (R34, R46, R47, R104) -/

theorem overRange_amplifier : overRange q 20000 = true ↔ 1023 * 20000 + 10000 < q := by
  rw [overRange, decide_eq_true_eq]
  omega

/-- Halves go up: the code is the step whose middle lies nearest. -/
theorem rawCode_amplifier {x : Nat} (hx : x ≤ 1023) (h1 : 20000 * (x : Int) - 10000 ≤ q) (h2 : q < 20000 * (x : Int) + 10000) :
    rawCode q 20000 = x := by
  unfold rawCode roundDiv
  split <;> omega

/-- A gain of 1 and no offset keep the code. -/
theorem correctCode_neutral {x : Nat} (hx : x ≤ 1023) : correctCode 16384 0 x = x := by
  unfold correctCode roundDiv clampInt
  omega

/-! ## Range selection and the gate (R36, R37, R46) -/

theorem Chan.owner?_of_singleton {h : Chan} (hp : h.pend = [p]) (ho : p.owner = true) : h.owner? = some p := by
  simp [Chan.owner?, hp, ho]

/-- The range that a pre-peak level selects over the base range b (R36). -/
def rangeFor (b level : Nat) : Nat := if prePeak b < level ∧ b < 3 then b + 1 else b

theorem exec_rangeSelect {c : CrateId} {k : ChanId} {level : Nat} (hl : s.timingLive = true) (ha : s.autoranging c = true)
    (hp : (s.chan c k).pend = [p]) (ho : p.owner = true) (hs : p.sel = false) :
    exec (.rangeSelect c k level) s = .next (s.modChan c k (fun h => { h with
      pend := modOwner h.pend (fun p => { p with
        sel := true
        evt := { p.evt with
          range := rangeFor (s.rd (CHN_FE_STAT_ar_range c k)) level
          settle := p.evt.settle || h.prevRange.any (· != rangeFor (s.rd (CHN_FE_STAT_ar_range c k)) level) } })
      prevRange := some (rangeFor (s.rd (CHN_FE_STAT_ar_range c k)) level) })) := by
  simp [exec, execRangeSelect, hl, ha, Chan.owner?_of_singleton hp ho, hs, rangeFor]

theorem exec_chargeGateEnd {c : CrateId} {k : ChanId} (hl : s.timingLive = true) (hp : (s.chan c k).pend = [p])
    (ho : p.owner = true) (hs : p.sel = true) (hh : p.held = none) :
    exec (.chargeGateEnd c k q) s = .next (s.modChan c k (fun h => ({ h with
      pend := modOwner h.pend (fun p => { p with held := some q })
      hold := h.hold.map (fun x => { x with gateEnded := true }) } : Chan).tryEndHold)) := by
  simp [exec, execChargeGateEnd, hl, Chan.owner?_of_singleton hp ho, hs, hh]

/-- The path's reset has ended. -/
def State.pathReady (s : State) (c k : Nat) : State := s.modChan c k (fun h => { h with resetting := false })

theorem State.chan_pathReady : (s.pathReady c k).chan c k = { s.chan c k with resetting := false } := State.chan_modChan_same

theorem exec_chargePathReady {c : CrateId} {k : ChanId} (hl : s.timingLive = true) (hr : (s.chan c k).resetting = true) :
    exec (.chargePathReady c k) s = .next ((s.pathReady c k).release c k) := by
  simp [exec, execChargePathReady, hl, hr, State.pathReady]

/-- Settles O14: each clause is one step of the path, and an event goes into the FIFO exactly where R102 lets it. -/
theorem chargePath : Obligations.ChargePath := by
  unfold Obligations.ChargePath
  refine ⟨?selects, ?gateEnds, ?autoranges, ?amplifier, ?waits, ?ready⟩
  case selects =>
    intro c k level p s hl ha hp ho hs
    refine ⟨_, rangeFor (s.rd (CHN_FE_STAT_ar_range c k)) level, exec_rangeSelect hl ha hp ho hs, rfl, ?_, ?_,
      onlyChans_modChan k.isLt (List.mem_singleton.2 rfl), (ev_modChan (L := [.chans]) (by decide) ev_refl).1⟩
    · rw [State.chan_modChan_same]
    · simp only [State.chan_modChan_same, hp, modOwner_singleton ho]
  case gateEnds =>
    intro c k q p s hl hp ho hs hh hhold
    refine ⟨_, exec_chargeGateEnd hl hp ho hs hh, ?_, onlyChans_modChan k.isLt (List.mem_singleton.2 rfl),
      (ev_modChan (L := [.chans]) (by decide) ev_refl).1⟩
    rw [State.chan_modChan_same, Chan.tryEndHold_of_ended (by simp [hhold])]
    simp only [hp, modOwner_singleton ho]
  case autoranges =>
    intro c k q p s hl ha hp hq hr hdrop hst hb hf hc hn hs
    obtain ⟨t, hexec, hfifo, hpend, hidle, hregs, hchans, hcrates⟩ :=
      exec_chargeConversionDone_drain hl hp hq hr hdrop hst hb hf hc hn hs
    have step : s.codeStep c p.evt.range = 500 * 4 ^ p.evt.range := by simp [State.codeStep, ha]
    refine ⟨t, hexec, ?_, hpend, hidle, ?_, ?_, hchans, hcrates⟩
    · rw [hfifo, step]
      rfl
    · rw [hregs.rd (by simp [CHN_FE_STAT_ar_range, CHN_FE_STAT, CRT_EVF_STAT]; omega), State.rd_codeTaken_range ha,
        State.rangeAfter, step]
    · exact onlyRegs_trans (onlyRegs_mono (by simp) regs_codeTaken) (onlyRegs_mono (by simp) hregs)
  case amplifier =>
    intro c k q p s hl ha hp hq hr hdrop hst hb hf hc hn hs
    obtain ⟨t, hexec, hfifo, hpend, -, hregs, hchans, hcrates⟩ :=
      exec_chargeConversionDone_drain hl hp hq hr hdrop hst hb hf hc hn hs
    have step : s.codeStep c p.evt.range = 20000 := by simp [State.codeStep, ha]
    rw [step] at hfifo
    refine ⟨t, _, hexec, hfifo, rfl, overRange_amplifier, fun x hgain hoff hx h1 h2 => ?_, rfl, hpend, ?_, hchans, hcrates⟩
    · change correctCode p.qGain p.qOff (rawCode q 20000) = x
      rw [hgain, hoff, rawCode_amplifier hx h1 h2, correctCode_neutral hx]
    · exact onlyRegs_trans (onlyRegs_mono (by simp) (regs_codeTaken_amplifier ha)) hregs
  case waits =>
    intro c k q p d s hl hp hq hr ho hb hd he hc hs
    have coded : (s.codeTaken c k 0 p q).chan c k = _ := State.chan_codeTaken hp
    have crates : (s.codeTaken c k 0 p q).crates = s.crates := ev_codeTaken.1 .crates (by decide)
    have crate : (s.codeTaken c k 0 p q).crate c = s.crate c := ev_codeTaken.1.crate (by decide) c
    have held : ((s.codeTaken c k 0 p q).chan c k).mayRelease ((s.codeTaken c k 0 p q).crate c) = false := by
      rw [coded, crate]
      exact Chan.mayRelease_of_held (p := p.coded q (s.codeStep c p.evt.range)) rfl ho hb hd he
    have idle : Evolves [.chans] (s.codeTaken c k 0 p q) ((s.codeTaken c k 0 p q).tryIdle c k) := ev_tryIdle (by decide) ev_refl
    have hexec := exec_chargeConversionDone hl hp hq hr
    rw [State.release_of_waits (by rw [crate, hc]) held,
      State.stopDwell_of_not_due (by rw [idle.1.crate (by decide), crate, hs])] at hexec
    refine ⟨_, p.coded q (s.codeStep c p.evt.range), hexec, ?_, rfl, (idle.1 .crates (by decide)).trans crates⟩
    rw [State.pend_tryIdle, coded]
  case ready =>
    intro c k s hl hr hp hm hc
    have left : (s.pathReady c k).chan c k = { s.chan c k with resetting := false } := State.chan_pathReady
    have hexec := exec_chargePathReady hl hr
    rw [State.release_of_main (s := s.pathReady c k) hc (Chan.mayRelease_of_nil (by rw [left]; exact hp))
      (by rw [left]; exact hm)] at hexec
    exact ⟨_, hexec, left, onlyChans_modChan k.isLt (List.mem_singleton.2 rfl), regs_modChan onlyRegs_refl⟩

end Sys2Proof.Machine
end

section
/-! PROOFS. The start of a window and the end of its blanking (spec/02_receiver_front_end.md R44, R45, R58;
spec/03_time_measurement.md R85, R93, R95): what settling the waiting stops and writing events leaves of the window, of its starts
and of the channels. -/

namespace Sys2Proof.Machine

variable {s t u : State} {c k j i : Nat} {w : Win}

/-! ## Settling and writing leave the window alone -/

/-- The open dwell's participants and the slices that serve them (R29, R107). -/
def Crate.serves (g : Crate) : Option (BitVec 16 × List (Option Nat)) := g.openDwell.map (fun d => (d.part, d.serve))

theorem State.server_eq : s.server c j
    = (s.crate c).serves.bind (fun d => if d.1.getLsbD j then d.2.getD j none else none) := by
  unfold State.server Crate.serves
  cases (s.crate c).openDwell <;> rfl

theorem State.server_congr (h : (t.crate c).serves = (s.crate c).serves) : t.server c j = s.server c j := by
  rw [State.server_eq, State.server_eq, h]

theorem Crate.nextOpened_modOpen {g : Crate} {f : Dwell → Dwell} (ho : ∀ d, (f d).opened = d.opened) :
    (g.modOpen f).nextOpened = g.nextOpened := by
  unfold Crate.modOpen
  split
  · simp [Crate.nextOpened, Option.any_map, ho]
  · rfl

theorem Crate.openDwell_modOpen {g : Crate} {f : Dwell → Dwell} (ho : ∀ d, (f d).opened = d.opened) :
    (g.modOpen f).openDwell = g.openDwell.map f := by
  rw [Crate.openDwell, Crate.nextOpened_modOpen ho, Crate.openDwell, Crate.modOpen]
  cases g.nextOpened <;> rfl

theorem Crate.serves_modOpen {g : Crate} {f : Dwell → Dwell} (ho : ∀ d, (f d).opened = d.opened)
    (hf : ∀ d, ((f d).part, (f d).serve) = (d.part, d.serve)) : (g.modOpen f).serves = g.serves := by
  rw [Crate.serves, Crate.openDwell_modOpen ho, Option.map_map]
  exact congrArg (fun f => g.openDwell.map f) (funext hf)

/-- From s to t crate c settled stops or wrote events: its window, the dwell that serves it and every slice's start stayed, of
channel k its waiting stops and its state, but for the way from DRAIN to IDLE, and every other crate with its channels. -/
structure Settles (c k : Nat) (s t : State) : Prop where
  win : (t.crate c).win = (s.crate c).win
  serves : (t.crate c).serves = (s.crate c).serves
  starts : ∀ i, (t.slice c i).start = (s.slice c i).start
  waiting : (t.chan c k).preStops = (s.chan c k).preStops
  st : (s.chan c k).st ≠ .drain → (t.chan c k).st = (s.chan c k).st
  crates : OnlyCrates [c] s t
  chans : OnlyChans (chanNos.map (fun j => (c, j))) s t

theorem settles_refl : Settles c k s s := ⟨rfl, rfl, fun _ => rfl, rfl, fun _ => rfl, fun _ _ => rfl, onlyChans_refl⟩

namespace Settles

theorem trans (h : Settles c k s t) (g : Settles c k t u) : Settles c k s u where
  win := g.win.trans h.win
  serves := g.serves.trans h.serves
  starts := fun i => (g.starts i).trans (h.starts i)
  waiting := g.waiting.trans h.waiting
  st := fun hd => (g.st (by rw [h.st hd]; exact hd)).trans (h.st hd)
  crates := h.crates.trans g.crates
  chans := h.chans.trans g.chans

/-- A write of registers. -/
theorem regs (h : Settles c k s t) (g : Evolves [.regs] t u) : Settles c k s u := by
  refine h.trans ⟨?_, ?_, fun i => ?_, ?_, fun _ => ?_, g.1.onlyCrates (by decide), g.1.onlyChans (by decide)⟩
  · rw [g.1.crate (by decide)]
  · rw [g.1.crate (by decide)]
  · exact congrArg (fun m => (sparseGet (fun _ => Slice.reset) m (17 * c + i)).start) (g.1 .slices (by decide))
  · rw [g.1.chan (by decide)]
  · rw [g.1.chan (by decide)]

theorem modCrate {f : Crate → Crate} (h : Settles c k s t) (hw : ∀ g, (f g).win = g.win) (hs : ∀ g, (f g).serves = g.serves) :
    Settles c k s (t.modCrate c f) :=
  h.trans ⟨by rw [State.crate_modCrate_same, hw], by rw [State.crate_modCrate_same, hs], fun _ => rfl, rfl, fun _ => rfl,
    onlyCrates_modCrate, fun _ _ _ _ => rfl⟩

theorem modSlice {f : Slice → Slice} (h : Settles c k s t) (hf : ∀ v, (f v).start = v.start) :
    Settles c k s (t.modSlice c j f) := by
  refine h.trans ⟨rfl, rfl, fun i => ?_, rfl, fun _ => rfl, fun _ _ => rfl, fun _ _ _ _ => rfl⟩
  by_cases hi : j = i
  · rw [hi, State.slice_modSlice_same, hf]
  · rw [State.slice_modSlice_ne (by omega)]

/-- A change of a channel that keeps its waiting stops and its state. -/
theorem modChan {f : Chan → Chan} (h : Settles c k s t) (hj : j < 16) (hp : ∀ g, (f g).preStops = g.preStops)
    (hst : ∀ g, g.st ≠ .drain → (f g).st = g.st) : Settles c k s (t.modChan c j f) := by
  have listed : OnlyChans (chanNos.map (fun j => (c, j))) t (t.modChan c j f) :=
    onlyChans_modChan hj (List.mem_map_of_mem (List.mem_range.2 hj))
  by_cases hk : j = k
  · subst hk
    exact h.trans ⟨rfl, rfl, fun _ => rfl, by rw [State.chan_modChan_same, hp],
      fun hd => by rw [State.chan_modChan_same, hst _ hd], fun _ _ => rfl, listed⟩
  · have other : (t.modChan c j f).chan c k = t.chan c k := State.chan_modChan_ne (by omega)
    exact h.trans ⟨rfl, rfl, fun _ => rfl, by rw [other], fun _ => by rw [other], fun _ _ => rfl, listed⟩

/-- Any change of another channel. -/
theorem modOther {f : Chan → Chan} (h : Settles c k s t) (hj : j < 16) (hk : j ≠ k) : Settles c k s (t.modChan c j f) := by
  have other : (t.modChan c j f).chan c k = t.chan c k := State.chan_modChan_ne (by omega)
  exact h.trans ⟨rfl, rfl, fun _ => rfl, by rw [other], fun _ => by rw [other], fun _ _ => rfl,
    onlyChans_modChan hj (List.mem_map_of_mem (List.mem_range.2 hj))⟩

theorem stopCount {f : FRef} (h : Settles c k s t) : Settles c k s (t.stopCount f) := h.regs (ev_stopCount (by decide) ev_refl)

/-! ## Writing events (R102, R103) -/

theorem fifoPut {x : FifoItem} (h : Settles c k s t) : Settles c k s (t.fifoPut c x) := by
  unfold State.fifoPut
  exact doIf_induction (P := Settles c k s) (h.modCrate (fun _ => rfl) (fun _ => rfl))
    (fun g => g.regs (ev_raise (L := [.regs]) (by decide) ev_refl))

theorem pushEvent {e : Evt} (h : Settles c k s t) : Settles c k s (t.pushEvent c e) := by
  unfold State.pushEvent
  split
  · exact h.fifoPut
  · exact (h.regs (ev_bump (by decide) ev_refl)).modCrate (fun _ => rfl) (fun _ => rfl)

theorem releaseOne (h : Settles c k s t) (hj : j < 16) : Settles c k s (t.releaseOne c j) := by
  unfold State.releaseOne
  split
  · exact h
  · split
    · exact doIf_induction (P := Settles c k s) (h.modChan hj (fun _ => rfl) (fun _ _ => rfl)) (fun g => g.pushEvent)
    · exact h

theorem tryIdle (h : Settles c k s t) (hj : j < 16) : Settles c k s (t.tryIdle c j) :=
  doIf_induction (P := Settles c k s) h (fun g => g.modChan hj (fun _ => rfl) (fun _ hd => if_neg hd))

theorem drainChan (h : Settles c k s t) (hj : j < 16) : Settles c k s (t.drainChan c j) :=
  (forAll_induction (P := Settles c k s) h (fun _ _ _ g => g.releaseOne hj)).tryIdle hj

theorem tryMarker (h : Settles c k s t) : Settles c k s (t.tryMarker c) := by
  unfold State.tryMarker
  split
  · exact h
  · split
    · exact h.fifoPut.modCrate (fun _ => rfl) (fun _ => rfl)
    · exact h

theorem drainCrate (h : Settles c k s t) : Settles c k s (t.drainCrate c) :=
  (forAll_induction (P := Settles c k s) h (fun _ _ hj g => g.drainChan (List.mem_range.1 hj))).tryMarker

theorem release (h : Settles c k s t) (hj : j < 16) : Settles c k s (t.release c j) :=
  forAll_induction (P := Settles c k s) (h.drainChan hj).tryMarker (fun _ _ _ g => g.drainCrate)

/-! ## Settling a stop (R93, R96, R99, R100) -/

theorem tapHit {d : Nat} (h : Settles c k s t) : Settles c k s (t.tapHit c i d) :=
  doIf_induction (P := Settles c k s) h (fun g => g.modSlice (fun _ => rfl))

theorem spareHit {d : Option Nat} (h : Settles c k s t) : Settles c k s (t.spareHit c j d) := by
  unfold State.spareHit
  split
  · exact h
  · exact doIf_induction (P := Settles c k s) h (fun g => g.tapHit)

theorem shadowNote {iv spare : Option Int} (h : Settles c k s t) : Settles c k s (t.shadowNote c j iv spare) :=
  doIf_induction (P := Settles c k s) h (fun g => g.modCrate
    (fun x => by unfold Crate.modOpen; split <;> rfl)
    (fun _ => Crate.serves_modOpen (fun _ => rfl) (fun _ => rfl)))

theorem plainStop {e : Evt} (h : Settles c k s t) (hj : j < 16) : Settles c k s (t.plainStop c j i e) := by
  unfold State.plainStop State.addPend
  exact h.modChan hj (fun _ => rfl) (fun _ _ => rfl)

/-- A stop that becomes an event, with its hits and its comparison. -/
theorem eventStop {e : Evt} {b : Bool} {d : Nat} {x : Option Nat} {iv spare : Option Int} (h : Settles c k s t) (hj : j < 16) :
    Settles c k s ((doIf b (fun v => (v.tapHit c i d).spareHit c j x) (t.plainStop c j i e)).shadowNote c j iv spare) :=
  (doIf_induction (P := Settles c k s) (h.plainStop hj) (fun g => g.tapHit.spareHit)).shadowNote

theorem bothCounts {b : Bool} {f g : FRef} (h : Settles c k s t) :
    Settles c k s (doIf b (fun v => v.stopCount f) (t.stopCount g)) :=
  doIf_induction (P := Settles c k s) h.stopCount (fun g => g.stopCount)

theorem atStart {p : PreStop} {d16 : Int} {spare : Option Int} (h : Settles c k s t) (hj : j < 16) :
    Settles c k s (t.atStart c j i w p d16 spare) := by
  unfold State.atStart
  dsimp only
  split
  · exact h.eventStop hj
  · split
    · exact h.bothCounts
    · split
      · exact h.bothCounts
      · refine eventStop (modChan h hj ?_ ?_) hj
        · exact fun _ => rfl
        · exact fun _ _ => rfl

theorem spareAlone {lsb : Nat} {sp : Option Int} (h : Settles c k s t) : Settles c k s (t.spareAlone c j lsb sp).1 :=
  h.regs (ev_spareAlone (by decide) ev_refl)

theorem settleStop {p : PreStop} (h : Settles c k s t) (hj : j < 16) : Settles c k s (t.settleStop c j i w p) := by
  unfold State.settleStop
  split
  · exact h
  · dsimp only
    have spare : ∀ b, Settles c k s (doIf b (fun v => v.stopCount (TDC_EV_STAT_early_drop c 16)) t) :=
      fun b => doIf_induction (P := Settles c k s) h (fun g => g.stopCount)
    split
    · exact (spare _).atStart hj
    · split
      · exact ((spare _).plainStop hj).tapHit.spareHit.shadowNote
      · exact (spare _).spareAlone.stopCount.shadowNote

end Settles

/-! ## The start (R44, R58, R85) -/

/-- What the start makes of a channel: its waiting stops are settled, and blanking begins or is left out. -/
def Chan.atStart (w : Win) (h : Chan) : Chan := ({ h with
  preStops := []
  st := if h.st = .pre then (if w.blank = 0 then .main else .blank) else h.st
  hold := if w.blank ≠ 0 ∧ h.active then h.hold.map (fun x => { x with fallen := true }) else h.hold
  active := h.active && w.blank == 0 } : Chan).tryEndHold

theorem Chan.tryEndHold_keeps {h : Chan} : h.tryEndHold.st = h.st ∧ h.tryEndHold.preStops = h.preStops := by
  unfold Chan.tryEndHold
  split
  · exact ⟨rfl, rfl⟩
  · split <;> exact ⟨rfl, rfl⟩

theorem Chan.atStart_of_pre {h : Chan} (hs : h.st = .pre) :
    (h.atStart w).st = (if w.blank = 0 then .main else .blank) ∧ (h.atStart w).preStops = [] := by
  obtain ⟨st, stops⟩ := Chan.tryEndHold_keeps (h := { h with
    preStops := []
    st := if h.st = .pre then (if w.blank = 0 then .main else .blank) else h.st
    hold := if w.blank ≠ 0 ∧ h.active then h.hold.map (fun x => { x with fallen := true }) else h.hold
    active := h.active && w.blank == 0 })
  exact ⟨st.trans (if_pos hs), stops⟩

/-- A channel with its waiting stops settled. -/
def State.stopsSettled (s : State) (c k i : Nat) (w : Win) : State :=
  forAll (s.chan c k).preStops (fun t p => t.settleStop c k i w p) s

theorem State.startChannel_of_served (hi : s.server c k = some i) : s.startChannel c k w
    = ((s.stopsSettled c k i w).modChan c k (Chan.atStart w)).release c k := by
  rw [State.startChannel, hi]
  rfl

theorem settles_stopsSettled (hj : j < 16) : Settles c k s (s.stopsSettled c j i w) :=
  forAll_induction (P := Settles c k s) settles_refl (fun _ _ _ g => g.settleStop hj)

/-- The start of another channel. -/
theorem settles_startChannel (hj : j < 16) (hne : j ≠ k) : Settles c k s (s.startChannel c j w) := by
  cases hi : s.server c j with
  | none =>
    rw [State.startChannel, hi]
    exact settles_refl
  | some i =>
    rw [State.startChannel_of_served hi]
    exact ((settles_stopsSettled hj).modOther hj hne).release hj

/-- The start of a channel in PRE. -/
theorem State.startChannel_of_pre (hk : k < 16) (hi : (s.server c k).isSome = true) (hs : (s.chan c k).st = .pre) :
    ((s.startChannel c k w).chan c k).st = (if w.blank = 0 then .main else .blank)
      ∧ ((s.startChannel c k w).chan c k).preStops = [] := by
  obtain ⟨i, hi⟩ := Option.isSome_iff_exists.1 hi
  have settled : Settles c k s (s.stopsSettled c k i w) := settles_stopsSettled hk
  have released : Settles c k ((s.stopsSettled c k i w).modChan c k (Chan.atStart w))
      (((s.stopsSettled c k i w).modChan c k (Chan.atStart w)).release c k) := settles_refl.release hk
  obtain ⟨st, stops⟩ := Chan.atStart_of_pre (w := w) ((settled.st (by rw [hs]; decide)).trans hs)
  have running : ((s.stopsSettled c k i w).chan c k |>.atStart w).st ≠ .drain := by
    rw [st]
    split <;> decide
  rw [State.startChannel_of_served hi, released.waiting, released.st (by rwa [State.chan_modChan_same]),
    State.chan_modChan_same]
  exact ⟨st, stops⟩

/-- The pass keeps the window and its starts, whichever channel one looks at: no channel's number is 16. -/
theorem settles_startAll : Settles c 16 s (forAll chanNos (fun t j => t.startChannel c j w) s) :=
  forAll_induction (P := Settles c 16 s) settles_refl (fun _ _ hj g =>
    g.trans (settles_startChannel (List.mem_range.1 hj) (Nat.ne_of_lt (List.mem_range.1 hj))))

theorem State.startAll_of_pre (hk : k < 16) (hi : (s.server c k).isSome = true) (hs : (s.chan c k).st = .pre) :
    ((forAll chanNos (fun t j => t.startChannel c j w) s).chan c k).st = (if w.blank = 0 then .main else .blank)
      ∧ ((forAll chanNos (fun t j => t.startChannel c j w) s).chan c k).preStops = [] := by
  obtain ⟨u, before, after⟩ := forAll_turn (s := s) (R := Settles c k) (l := chanNos) (f := fun t j => t.startChannel c j w) (x := k)
    (fun _ => settles_refl) (fun _ _ _ => Settles.trans) List.nodup_range (List.mem_range.2 hk)
    (fun _ j hj hne => settles_startChannel (List.mem_range.1 hj) hne)
  obtain ⟨st, stops⟩ := State.startChannel_of_pre (w := w) hk (by rw [State.server_congr before.serves]; exact hi)
    ((before.st (by rw [hs]; decide)).trans hs)
  rw [after.waiting, after.st (by rw [st]; split <;> decide)]
  exact ⟨st, stops⟩

/-! ## The stamps of the start (R85, R95) -/

theorem State.stamp_congr {cap : Capture} (h : Evolves [.slices] s t) (hi : t.slice c i = s.slice c i) :
    t.stamp c i cap = s.stamp c i cap := by
  unfold State.stamp State.edgeToCapture State.widths
  rw [hi, h.1.crate (by decide), h.1.rd (by decide), h.1.rd (by decide)]

/-- The slices stamp the start in turn, each from its own tables. -/
theorem State.startStamps_start {caps : List Capture} (hi : i < 17) :
    ((s.startStamps c caps).slice c i).start = some (s.stamp c i (caps.getD i ⟨0, 0⟩)) := by
  obtain ⟨u, ⟨before, slice⟩, -, after⟩ := forAll_turn (s := s) (l := sliceNos)
    (R := fun u v => Evolves [.slices] u v ∧ v.slice c i = u.slice c i)
    (f := fun t i => t.modSlice c i (fun v => { v with start := some (t.stamp c i (caps.getD i ⟨0, 0⟩)) })) (x := i)
    (fun _ => ⟨ev_refl, rfl⟩) (fun _ _ _ h g => ⟨ev_trans h.1 g.1, g.2.trans h.2⟩)
    List.nodup_range (List.mem_range.2 hi)
    (fun _ j _ hne => ⟨ev_modSlice (by decide) ev_refl, State.slice_modSlice_ne (by omega)⟩)
  unfold State.startStamps
  rw [after, State.slice_modSlice_same, State.stamp_congr before slice]

theorem Crate.serves_withWin {g : Crate} {x : Option Win} : ({ g with win := x } : Crate).serves = g.serves := rfl

/-- The window of a crate that has had its start. -/
def Win.withStart (w : Win) (lsb : Nat) : Win := { w with
  start := some lsb, blankEnd := if w.blank = 0 then none else some (coarseEdge lsb + 80 * w.blank) }

/-- The crate's window has its start. -/
def State.started (s : State) (c lsb : Nat) (w : Win) : State :=
  s.modCrate c (fun k => { k with win := some (w.withStart lsb) })

theorem State.started_keeps {lsb : Nat} (h : Evolves [.slices] s t) :
    ((t.started c lsb w).crate c).win = some (w.withStart lsb) ∧ ((t.started c lsb w).crate c).serves = (s.crate c).serves
      ∧ (∀ i, (t.started c lsb w).slice c i = t.slice c i) ∧ (∀ d k, (t.started c lsb w).chan d k = s.chan d k)
      ∧ OnlyCrates [c] s (t.started c lsb w) := by
  unfold State.started
  refine ⟨?_, ?_, fun _ => rfl, h.1.chan (by decide), (h.1.onlyCrates (by decide)).trans onlyCrates_modCrate⟩
  · rw [State.crate_modCrate_same]
  · rw [State.crate_modCrate_same, Crate.serves_withWin, h.1.crate (by decide)]

theorem exec_startEdge {c : CrateId} {lsb : Nat} {caps : List Capture} (hl : s.timingLive = true) (hw : (s.crate c).win = some w)
    (hs : w.start = none) (hc : w.closed = false) (ht : s.startInTime c lsb w = true) :
    exec (.startEdge c lsb caps) s
      = .next (forAll chanNos (fun t k => t.startChannel c k w) ((s.startStamps c caps).started c lsb w)) := by
  simp [exec, execStartEdge, hw, hl, hs, ht, State.startEdge, hc, State.started, Win.withStart]

/-! ## The end of blanking (R44, R45) -/

/-- What the end of blanking makes of one channel. -/
def State.endBlanking (s : State) (c : Nat) (above : BitVec 16) (k : Nat) : State :=
  doIf (decide ((s.chan c k).st = .blank)) (fun v =>
    doIf (above.getLsbD k) (fun x => (x.bump (CHN_FE_STAT_blank_held c k) 1).modChan c k (fun h => { h with
      blankHeld := true })) (v.modChan c k (fun h => { h with st := .main }))) s

variable {above : BitVec 16}

theorem exec_blankingEnd {c : CrateId} (hl : s.timingLive = true) (hw : (s.crate c).win = some w) :
    exec (.blankingEnd c above) s = .next (forAll chanNos (fun t k => t.endBlanking c above k) s) := by
  simp [exec, execBlankingEnd, hl, hw, State.endBlanking]

theorem State.endBlanking_of_other (h : (s.chan c k).st ≠ .blank) : s.endBlanking c above k = s := by
  rw [State.endBlanking, decide_eq_false h, doIf_false]

theorem State.endBlanking_of_blank (h : (s.chan c k).st = .blank) :
    (s.endBlanking c above k).chan c k
        = { s.chan c k with st := .main, blankHeld := above.getLsbD k || (s.chan c k).blankHeld }
      ∧ (s.endBlanking c above k).rd (CHN_FE_STAT_blank_held c k) = (if above.getLsbD k then
          min (s.rd (CHN_FE_STAT_blank_held c k) + 1) (2 ^ (CHN_FE_STAT_blank_held c k).width - 1)
        else s.rd (CHN_FE_STAT_blank_held c k)) := by
  rw [State.endBlanking, decide_eq_true h, doIf_true]
  cases above.getLsbD k
  · exact ⟨by rw [doIf_false, State.chan_modChan_same, Bool.false_or], rfl⟩
  · have counted : Evolves [.regs] (s.modChan c k (fun h => { h with st := .main }))
        ((s.modChan c k (fun h => { h with st := .main })).bump (CHN_FE_STAT_blank_held c k) 1) := ev_bump (by decide) ev_refl
    refine ⟨?_, ?_⟩
    · rw [doIf_true, State.chan_modChan_same, counted.1.chan (by decide), State.chan_modChan_same, Bool.true_or]
    · exact State.rd_bump_same (s := s.modChan c k (fun h => { h with st := .main }))
        (by simp [CHN_FE_STAT_blank_held, FRef.fits])

theorem regs_endBlanking : OnlyRegs [CHN_FE_STAT c k] s (s.endBlanking c above k) :=
  regs_doIf (fun _ h => regs_doIf (fun _ g => regs_modChan (regs_bump (List.mem_singleton.2 rfl) g)) (regs_modChan h)) onlyRegs_refl

theorem ev_endBlanking {L : List Part} (hr : Part.regs ∈ L) (hc : Part.chans ∈ L) (h : Evolves L s t) :
    Evolves L s (t.endBlanking c above k) :=
  ev_doIf (fun _ h => ev_doIf (fun _ g => ev_modChan hc (ev_bump hr g)) (ev_modChan hc h)) h

theorem onlyChans_endBlanking (hk : k < 16) : OnlyChans [(c, k)] s (s.endBlanking c above k) := by
  have held : ∀ u : State, OnlyChans [(c, k)] u ((u.bump (CHN_FE_STAT_blank_held c k) 1).modChan c k (fun h => { h with
      blankHeld := true })) := fun u => onlyChans_modChan (s := u.bump (CHN_FE_STAT_blank_held c k) 1) hk (List.mem_singleton.2 rfl)
  exact doIf_induction (P := OnlyChans [(c, k)] s) onlyChans_refl (fun _ =>
    doIf_induction (P := OnlyChans [(c, k)] s) (onlyChans_modChan hk (List.mem_singleton.2 rfl)) (fun g => g.trans (held _)))

/-- Settles O12: the pass over the channels starts each from what the others leave of it, and so does the end of blanking. -/
theorem windowStart : Obligations.WindowStart := by
  unfold Obligations.WindowStart
  refine ⟨?starts, ?late, ?ends⟩
  case starts =>
    intro c lsb caps w s hl hw hs hc ht
    have stamps : Evolves [.slices] s (s.startStamps c caps) := ev_startStamps (by decide) ev_refl
    have hexec := exec_startEdge (caps := caps) hl hw hs hc ht
    have stamped := fun i => State.startStamps_start (s := s) (c := c) (i := i) (caps := caps)
    generalize s.startStamps c caps = u at stamps hexec stamped
    obtain ⟨win, serves, slices, chans, crates⟩ := State.started_keeps (c := c.val) (w := w) (lsb := lsb) stamps
    have pass := settles_startAll (s := u.started c lsb w) (c := c.val) (w := w)
    refine ⟨_, hexec, pass.win.trans win, fun i hi => ?_, fun k hk hi hst => ?_, crates.trans pass.crates,
      fun d k hk hn => (pass.chans d k hk hn).trans (chans d k)⟩
    · rw [pass.starts, slices, stamped i hi]
    · exact State.startAll_of_pre hk (by rw [State.server_congr serves]; exact hi) (by rw [chans]; exact hst)
  case late =>
    intro c lsb caps w s hw ht
    simp [exec, execStartEdge, hw, ht]
  case ends =>
    intro c above w s hl hw
    have turns : ∀ k, k < 16 → ∃ u, KeepsChan CHN_FE_STAT [] c k s u ∧ KeepsChan CHN_FE_STAT [] c k (u.endBlanking c above k)
        (forAll chanNos (fun t k => t.endBlanking c above k) s) := fun k hk =>
      forAll_chanNos_turn hk (fun _ _ _ => regs_endBlanking) (fun _ _ hj => onlyChans_endBlanking hj)
    refine ⟨_, exec_blankingEnd hl hw, fun k hk hb => ?_, fun k hk hb => ?_, regs_forAll_chanNos (fun _ _ _ => regs_endBlanking),
      onlyChans_forAll_chanNos (fun _ _ hj => onlyChans_endBlanking hj), ?_⟩
    · obtain ⟨u, before, after⟩ := turns k hk
      have inj : ∀ d j, j < 16 → CHN_FE_STAT d j = CHN_FE_STAT c k → (d, j) = (c.val, k) :=
        fun _ _ hj h => CHN_FE_STAT_injective hk hj h
      have own : u.rd (CHN_FE_STAT_blank_held c k) = s.rd (CHN_FE_STAT_blank_held c k) :=
        State.rd_congr (f := CHN_FE_STAT_blank_held c k) (before.own List.not_mem_nil inj)
      obtain ⟨chan, held⟩ := State.endBlanking_of_blank (above := above) (by rw [before.chan]; exact hb)
      rw [before.chan] at chan
      rw [own] at held
      exact ⟨after.chan.trans chan,
        (State.rd_congr (f := CHN_FE_STAT_blank_held c k) (after.own List.not_mem_nil inj)).trans held⟩
    · obtain ⟨u, before, after⟩ := turns k hk
      rw [State.endBlanking_of_other (by rw [before.chan]; exact hb)] at after
      exact after.chan.trans before.chan
    · exact (ev_forAll (fun _ _ h => ev_endBlanking (by decide) (by decide) h) ev_refl).1

end Sys2Proof.Machine
end

section
/-! PROOFS. Firing and the charge deadline (spec/04 R147, R174, spec/05 R178 to R180, R188, spec/12 R506): what a committed emitter's
firing writes, the levels of the trigger outputs, and the obligation `Obligations.FiringAndDeadline`. -/

namespace Sys2Proof.Machine

variable {s t : State} {e : Nat}

/-! ## Charge controllers (R178, R179) -/

theorem onlyChgs_modChg {f : Chg → Chg} : OnlyChgs [e] s (s.modChg e f) :=
  fun _ hd => State.chg_modChg_ne (fun h => hd (List.mem_singleton.2 h.symm))

theorem OnlyChanges.chg {L : List Part} (h : OnlyChanges L s t) (hp : Part.chgs ∉ L) (e : Nat) : t.chg e = s.chg e :=
  congrArg (fun m => sparseGet (fun _ => Chg.reset) m e) (h .chgs hp)

theorem OnlyChanges.emit {L : List Part} (h : OnlyChanges L s t) (hp : Part.emits ∉ L) (e : Nat) : t.emit e = s.emit e :=
  congrArg (fun m => sparseGet (fun _ => Emit.reset) m e) (h .emits hp)

theorem State.chgState_setChgState {n : Nat} (hn : n < 8) : (s.setChgState e n).chgState e = n := by
  unfold State.chgState State.setChgState
  rw [State.rd_putB_beside (by rfl)]
  exact State.rd_put_of_lt (by simp [CHG_STAT_state]) hn

theorem regs_setChgState {l : List Nat} {n : Nat} (hl : CHG_STAT e ∈ l) (h : OnlyRegs l s t) : OnlyRegs l s (t.setChgState e n) :=
  regs_putB hl (regs_put hl h)

/-- The bank notes a changed code exactly where it reads that DAC back (R188). -/
theorem State.dacChanges_eq {d : Nat} {b : Bool} : s.dacChanges d b
    = s.modHk (fun h => { h with rbChanged := h.rbChanged || (b && decide (s.hk.urgNow = some (.readback d))) }) := by
  unfold State.dacChanges
  cases b && decide (s.hk.urgNow = some (.readback d))
  · simp [State.modHk]
  · simp

/-! ## A firing (R147, R174, R178) -/

/-- The target that a controller takes with its emitter's firing (R178). -/
def Chg.targetAfter (g : Chg) : Nat := g.nextTarget.getD g.target

/-- The shot is taken off the emitter, its pulse is placed, and the firing is counted. -/
def State.pulsePlaced (s : State) (e : Nat) : State :=
  ((s.dacChanges e (decide ((s.chg e).target ≠ (s.chg e).targetAfter))).modEmit e (fun m => { m with
    committed := false, pulse := some (s.emitPulse e) })).wrapInc (EMT_FIRED_fired e)

/-- The controller of an emitter that fires, in REST. -/
def State.rested (s : State) (e : Nat) (g : Chg) : Chg := { g.off s.clk.tick with
  target := (s.chg e).targetAfter, nextTarget := none, highest := (s.chg e).targetAfter, firings := g.firings + 1
  stDue := (g.firings + 1) % max 1 (s.rd (CHG_CFG_st_every e)) == 0 }

/-- An emitter that has fired, its controller in REST. -/
def State.fired (s : State) (e : Nat) : State := ((s.pulsePlaced e).setChgState e 4).modChg e (s.rested e)

theorem State.fire_eq (h : s.chgState e = 2 ∨ s.chgState e = 3) :
    s.fire e = s.fired e := by
  unfold State.fire
  exact if_pos h

theorem exec_emitterFire {e : EmitId} (hl : s.timingLive = true) (hc : (s.emit e).committed = true)
    (h : s.chgState e = 2 ∨ s.chgState e = 3) : exec (.emitterFire e) s = .next (s.fired e) := by
  simp only [exec, execEmitterFire, hl, hc, Bool.and_true, doIf_true, State.fire_eq h]

theorem regs_pulsePlaced : OnlyRegs [EMT_FIRED e, CHG_STAT e] s (s.pulsePlaced e) := by
  unfold State.pulsePlaced
  rw [State.dacChanges_eq]
  exact regs_wrapInc (List.mem_cons_self ..) (regs_modEmit (regs_modHk onlyRegs_refl))

theorem regs_fired : OnlyRegs [EMT_FIRED e, CHG_STAT e] s (s.fired e) :=
  regs_modChg (regs_setChgState (List.mem_cons_of_mem _ (List.mem_cons_self ..)) regs_pulsePlaced)

theorem evolves_pulsePlaced : Evolves [.regs, .emits, .hk] s (s.pulsePlaced e) :=
  ev_wrapInc (by decide) (ev_modEmit (by decide) (ev_dacChanges (by decide) ev_refl))

theorem evolves_fired : Evolves [.regs, .emits, .chgs, .hk] s (s.fired e) :=
  ev_modChg (by decide) (ev_setChgState (by decide) (ev_mono evolves_pulsePlaced (by decide)))

theorem evolves_fired_of_pulsePlaced : Evolves [.regs, .chgs] (s.pulsePlaced e) (s.fired e) :=
  ev_modChg (by decide) (ev_setChgState (by decide) ev_refl)

theorem State.emit_fired :
    (s.fired e).emit e = { s.emit e with committed := false, pulse := some (s.emitPulse e) } := by
  rw [evolves_fired_of_pulsePlaced.1.emit (by decide), State.pulsePlaced, State.dacChanges_eq, (ev_wrapInc (L := [.regs])
    (by decide) ev_refl).1.emit (by decide), State.emit_modEmit_same]
  rfl

theorem State.hk_fired : (s.fired e).hk = { s.hk with rbChanged := s.hk.rbChanged
    || (decide ((s.chg e).target ≠ (s.chg e).targetAfter) && decide (s.hk.urgNow = some (.readback e))) } := by
  have noted : Evolves [.regs, .emits] (s.dacChanges e (decide ((s.chg e).target ≠ (s.chg e).targetAfter))) (s.pulsePlaced e) :=
    ev_wrapInc (by decide) (ev_modEmit (by decide) ev_refl)
  rw [evolves_fired_of_pulsePlaced.1 .hk (by decide), noted.1 .hk (by decide), State.dacChanges_eq]
  rfl

/-- Until the controller takes its target the firing leaves the controllers' own records. -/
theorem evolves_atRest : Evolves [.regs, .emits, .hk] s ((s.pulsePlaced e).setChgState e 4) :=
  ev_setChgState (by decide) evolves_pulsePlaced

theorem State.chg_fired : (s.fired e).chg e = s.rested e (s.chg e) := by
  rw [State.fired, State.chg_modChg_same, evolves_atRest.1.chg (by decide)]

theorem onlyChgs_fired : OnlyChgs [e] s (s.fired e) :=
  fun d hd => (onlyChgs_modChg d hd).trans (evolves_atRest.1.chg (by decide) d)

theorem State.chgState_fired : (s.fired e).chgState e = 4 := by
  have kept : Evolves [.chgs] ((s.pulsePlaced e).setChgState e 4) (s.fired e) := ev_modChg (by decide) ev_refl
  exact (kept.1.rd (by decide) _).trans (State.chgState_setChgState (by decide))

/-- A firing is counted, and the count continues from 0 (R174). -/
theorem State.rd_fired : (s.fired e).rd (EMT_FIRED_fired e)
    = (s.rd (EMT_FIRED_fired e) + 1) % 2 ^ (EMT_FIRED_fired e).width := by
  have apart : CHG_STAT e ≠ EMT_FIRED e := by
    simp only [CHG_STAT, EMT_FIRED]
    omega
  have rest : OnlyRegs [CHG_STAT e] (s.pulsePlaced e) (s.fired e) :=
    regs_modChg (regs_setChgState (List.mem_singleton.2 rfl) onlyRegs_refl)
  have noted : ∀ b f, ((s.dacChanges e b).modEmit e f).rd (EMT_FIRED_fired e) = s.rd (EMT_FIRED_fired e) := fun b f =>
    (ev_modEmit (L := [.emits, .hk]) (by decide) (ev_dacChanges (by decide) ev_refl)).1.rd (by decide) _
  rw [rest.rd (fun h => apart (List.mem_singleton.1 h).symm), State.pulsePlaced, State.wrapInc, noted, State.rd_put_same
    (by simp [EMT_FIRED_fired]), Nat.mod_mod]

/-! ## The trigger outputs (R82, R147, R506) -/

theorem State.gateOn_congr (h : t.saf = s.saf) : t.gateOn = s.gateOn := by
  unfold State.gateOn State.ownLow State.srcOf State.safRd State.safWord State.sto
  rw [h]

/-- Without REFCLK or the hardware gate the output buffers are closed (R82, R506). -/
theorem State.triggerActive_closed {x : Int} (h : s.triggerGate = false) : s.triggerActive e x = false := by
  simp [State.triggerActive, h]

theorem State.triggerGate_fired : (s.fired e).triggerGate = s.triggerGate := by
  have refclk : (s.fired e).flag CLK_STAT_refclk = s.flag CLK_STAT_refclk := regs_fired.flag (fun h => by
    simp only [List.mem_cons, List.not_mem_nil, or_false, CLK_STAT_refclk, CLK_STAT, EMT_FIRED, CHG_STAT] at h
    omega)
  unfold State.triggerGate State.running
  rw [refclk, evolves_fired.1 .clk (by decide), State.gateOn_congr (evolves_fired.1 .saf (by decide))]

/-- With the output buffers open, the output is active from the trigger instant plus the skew on (R147). -/
theorem State.triggerActive_fired {x : Int} (hg : s.triggerGate = true) (h0 : (s.emitPulse e).1 ≤ x)
    (h1 : x < (s.emitPulse e).2) : (s.fired e).triggerActive e x = true := by
  simp [State.triggerActive, State.triggerGate_fired, hg, State.emit_fired, inPulse, h0, h1]

/-! ## The charge deadline (R180) -/

/-- The deadline has passed and is counted; it counts once until the controller charges anew. -/
def State.deadlineCounted (s : State) (e : Nat) : State :=
  (s.bump (CHG_STAT_tmo_ct e) 1).modChg e (fun g => { g with timedOut := true })

/-- The deadline posted, and detected. -/
def State.deadlinePassed (s : State) (e : Nat) : State :=
  ((s.deadlineCounted e).post 0x30 3 e [(s.deadlineCounted e).reg (CHG_STAT e)]).detect 0x05 3 e 0 0 (elemChg e)

theorem exec_chargeTimeout {e : EmitId} (hl : s.timingLive = true) (hc : s.chgState e = 2) (hd : s.flag (CHG_LIM_tmo e) = true)
    (ht : (s.chg e).timedOut = false) : exec (.chargeTimeout e) s = .next (s.deadlinePassed e) := by
  simp only [exec, execChargeTimeout, hl, hc, hd, ht, BEq.rfl, Bool.not_false, Bool.and_true, doIf_true]
  rfl

theorem CHG_STAT_not_mem_eventRegs : CHG_STAT e ∉ eventRegs := by
  simp only [eventRegs, List.mem_cons, List.not_mem_nil, or_false, CHG_STAT, HIF_FN_ERR, HIF_EVQ_STAT, HIF_IRQ_STAT]
  omega

theorem evolves_deadlinePassed : Evolves [.regs, .host, .flt] (s.deadlineCounted e) (s.deadlinePassed e) :=
  ev_detect (by decide) (ev_post (by decide) (by decide) ev_refl)

theorem regs_deadlinePassed : OnlyRegs eventRegs (s.deadlineCounted e) (s.deadlinePassed e) :=
  regs_detect (regs_post (fun _ h => h) onlyRegs_refl)

theorem regs_deadlineCounted : OnlyRegs [CHG_STAT e] s (s.deadlineCounted e) :=
  regs_modChg (regs_bump (List.mem_singleton.2 rfl) onlyRegs_refl)

theorem State.deadlineCounted_shows : (s.deadlineCounted e).chgState e = s.chgState e
    ∧ (s.deadlineCounted e).chg e = { s.chg e with timedOut := true }
    ∧ (s.deadlineCounted e).rd (CHG_STAT_tmo_ct e) = min (s.rd (CHG_STAT_tmo_ct e) + 1) (2 ^ (CHG_STAT_tmo_ct e).width - 1) := by
  have kept : Evolves [.chgs] (s.bump (CHG_STAT_tmo_ct e) 1) (s.deadlineCounted e) := ev_modChg (by decide) ev_refl
  have bumped : Evolves [.regs] s (s.bump (CHG_STAT_tmo_ct e) 1) := ev_bump (by decide) ev_refl
  refine ⟨(kept.1.rd (by decide) _).trans (State.rd_put_beside (by rfl)), ?_, (kept.1.rd (by decide) _).trans
    (State.rd_bump_same (by simp [CHG_STAT_tmo_ct]))⟩
  rw [State.deadlineCounted, State.chg_modChg_same, bumped.1.chg (by decide)]

theorem onlyChgs_deadlineCounted : OnlyChgs [e] s (s.deadlineCounted e) := by
  have bumped : Evolves [.regs] s (s.bump (CHG_STAT_tmo_ct e) 1) := ev_bump (by decide) ev_refl
  exact fun d hd => (onlyChgs_modChg d hd).trans (bumped.1.chg (by decide) d)

theorem State.detq_deadlinePassed :
    (s.deadlinePassed e).flt.detq = s.flt.detq ++ [⟨0x05, 3, e, 0, 0, elemChg e⟩] := by
  have posted : ((s.deadlineCounted e).post 0x30 3 e [(s.deadlineCounted e).reg (CHG_STAT e)]).flt = s.flt := State.flt_post
  rw [State.deadlinePassed, State.detect, State.modFlt, posted]

/-- Settles O18: a firing is `State.fired`, a deadline `State.deadlinePassed`, and each clause reads one part of them. -/
theorem firingAndDeadline : Obligations.FiringAndDeadline := by
  unfold Obligations.FiringAndDeadline
  refine ⟨?fires, ?uncommitted, ?closed, ?deadline⟩
  case fires =>
    intro e s hl hc hst
    have target : (s.chg e).targetAfter = (match (s.chg e).nextTarget with | some v => v | none => (s.chg e).target) := by
      unfold Chg.targetAfter
      cases (s.chg e).nextTarget <;> rfl
    have changed : decide ((s.chg e).target ≠ (s.chg e).targetAfter) = (s.chg e).nextTarget.any (· != (s.chg e).target) := by
      unfold Chg.targetAfter
      cases (s.chg e).nextTarget
      · simp
      · simp [bne, beq_eq_decide, eq_comm]
    refine ⟨_, _, exec_emitterFire hl hc hst, rfl, State.emit_fired, State.chgState_fired,
      fun x hg h0 h1 => State.triggerActive_fired hg h0 h1, State.rd_fired, ?_, ?_, ?_, ?_, ?_, onlyChgs_fired, regs_fired,
      evolves_fired.1⟩
    · rw [State.chg_fired]
      rfl
    · rw [State.chg_fired]
      rfl
    · rw [State.chg_fired]
      rfl
    · rw [State.chg_fired]
      exact target
    · rw [State.hk_fired, changed, Bool.and_comm]
  case uncommitted =>
    intro e s h
    simp [exec, execEmitterFire, h]
  case closed =>
    intro e x s h
    exact State.triggerActive_closed (by obtain h | h := h <;> simp [State.triggerGate, h])
  case deadline =>
    intro e s hl hc hd ht
    obtain ⟨state, chg, count⟩ := State.deadlineCounted_shows (s := s) (e := e.val)
    refine ⟨_, exec_chargeTimeout hl hc hd ht, ?_, ?_, ?_, State.detq_deadlinePassed, ?_, ?_⟩
    · exact (regs_deadlinePassed.rd CHG_STAT_not_mem_eventRegs).trans (state.trans hc)
    · exact (evolves_deadlinePassed.1.chg (by decide) _).trans chg
    · exact (regs_deadlinePassed.rd CHG_STAT_not_mem_eventRegs).trans count
    · exact fun d hd => (evolves_deadlinePassed.1.chg (by decide) d).trans (onlyChgs_deadlineCounted d hd)
    · exact onlyRegs_trans (onlyRegs_mono (fun _ h => List.mem_singleton.1 h ▸ List.mem_cons_self ..) regs_deadlineCounted)
        (onlyRegs_mono (fun _ h => List.mem_cons_of_mem _ h) regs_deadlinePassed)

end Sys2Proof.Machine
end

section
/-! PROOFS. Calibration of slices (spec/03 R94, R104, R105, R112): charge calibrations, code-density batches, tie-breaks and the
criteria by which each is accepted or fails, and the obligation `Obligations.SliceCalibration`. -/

namespace Sys2Proof.Machine

variable {s t : State} {c i j n : Nat}

/-! ## Slices -/

theorem OnlyChanges.slice {L : List Part} (h : OnlyChanges L s t) (hp : Part.slices ∉ L) (c i : Nat) : t.slice c i = s.slice c i :=
  congrArg (fun m => sparseGet (fun _ => Slice.reset) m (17 * c + i)) (h .slices hp)

theorem onlySlices_modSlice {f : Slice → Slice} (hi : i < 17) : OnlySlices [(c, i)] s (s.modSlice c i f) := by
  intro d k hk hn
  refine State.slice_modSlice_ne (fun h => hn (List.mem_singleton.2 ?_))
  rw [Prod.mk.injEq]
  omega

theorem roundDiv_nonneg {x : Int} {d : Nat} (h : 0 ≤ x) : 0 ≤ roundDiv x d := Int.ediv_nonneg (by omega) (by omega)

/-! ## Charge calibration (R104, R105) -/

theorem chargeAccepted_iff {m : ChargeCal} : chargeAccepted m = true ↔ m.z < m.r ∧ -256 ≤ m.z ∧ m.z ≤ 256
    ∧ 9 * (m.r - m.z) ≤ 10 * 8192 ∧ 10 * 8192 ≤ 11 * (m.r - m.z) := by
  simp only [chargeAccepted, Bool.and_eq_true, decide_eq_true_eq, and_assoc]
  norm_num

/-- The gain is the nearest to its quotient (R104). -/
theorem chargeGain_nearest {m : ChargeCal} (h : m.z < m.r) :
    -(m.r - m.z) ≤ 2 * (16384 * 8192 - (chargeGain m : Int) * (m.r - m.z))
      ∧ 2 * (16384 * 8192 - (chargeGain m : Int) * (m.r - m.z)) ≤ m.r - m.z := by
  obtain ⟨d, hd⟩ : ∃ d : Nat, m.r - m.z = d := ⟨_, (Int.toNat_of_nonneg (by omega)).symm⟩
  have gain : (chargeGain m : Int) = (2 * 134217728 + d) / (2 * d) := by
    rw [chargeGain, hd, Int.toNat_natCast, Int.toNat_of_nonneg (roundDiv_nonneg (by omega))]
    rfl
  have division := Int.emod_add_mul_ediv (2 * 134217728 + (d : Int)) (2 * d)
  have low := Int.emod_nonneg (2 * 134217728 + (d : Int)) (b := 2 * d) (by omega)
  have high := Int.emod_lt_of_pos (2 * 134217728 + (d : Int)) (b := 2 * d) (by omega)
  rw [gain, hd]
  constructor <;> nlinarith

/-- The crate's calibration is no longer awaited. -/
def State.calOver (s : State) (c : Nat) : State := s.modCrate c (fun g => { g with calPending := false })

theorem exec_chargeCalDone {c : CrateId} {i : SliceId} {m : Option ChargeCal} (hl : s.timingLive = true)
    (hs : (s.crate c).calSlice = some i.val) (hp : (s.crate c).calPending = true) :
    exec (.chargeCalDone c i m) s = .next (s.chargeCalDone c i m) := by
  simp [exec, execChargeCalDone, hl, hs, hp]

theorem State.chargeCalDone_accepted {m : ChargeCal} (h : chargeAccepted m = true) : s.chargeCalDone c i (some m)
    = (s.calOver c).modSlice c i (fun v => { v with newQ := some (chargeGain m, m.z) }) := by
  have left : (some m).filter chargeAccepted = some m := by simp [h]
  simp only [State.chargeCalDone, left]
  rfl

theorem State.chargeCalDone_rejected {m : Option ChargeCal} (h : m.all (fun x => !chargeAccepted x) = true) :
    s.chargeCalDone c i m = (s.calOver c).detect 0x01 1 c i 3 (elemSlice c i) := by
  have none_left : m.filter chargeAccepted = none := by
    cases m with
    | none => rfl
    | some m => simpa using h
  simp only [State.chargeCalDone, none_left]
  rfl

/-! ## Code density (R94) -/

/-- A width of the batch's table, as R94 rounds it. -/
theorem State.batchWidths_getD (hn : n < 160) : ((s.batchWidths c i).getD n 0 : Int)
    = roundDiv (16 * sparseGet (fun _ => 0) (s.slice c i).hits n * s.rd (TDC_CAL_p_est c i))
      (2 ^ s.cfgRd c (CRT_TDC_CFG_cd_batch c)) := by
  rw [State.batchWidths, List.getD_eq_getElem _ _ (by simpa using hn), List.getElem_map, List.getElem_range]
  exact Int.toNat_of_nonneg (roundDiv_nonneg (by positivity))

theorem State.mem_checkedTaps : n ∈ s.checkedTaps c i ↔ n < 160 ∧ n < s.rd (TDC_CAL_p_est c i) / 256 := by
  rw [State.checkedTaps, List.mem_range, lt_min_iff]

theorem State.batchAccepted_iff : s.batchAccepted c i = true ↔ (∀ p, p ∈ (s.slice c i).hits → p.2 < 65535)
    ∧ ∀ n, n < 160 → n < s.rd (TDC_CAL_p_est c i) / 256 → 1024 ≤ (s.batchWidths c i).getD n 0
      ∧ (s.batchWidths c i).getD n 0 ≤ 16384 ∧ ((s.batchWidths c i).getD n 0 : Int)
        = roundDiv (16 * sparseGet (fun _ => 0) (s.slice c i).hits n * s.rd (TDC_CAL_p_est c i))
          (2 ^ s.cfgRd c (CRT_TDC_CFG_cd_batch c)) := by
  simp only [State.batchAccepted, Bool.and_eq_true, List.all_eq_true, decide_eq_true_eq, State.mem_checkedTaps, and_imp]
  refine and_congr_right (fun _ => forall₃_congr (fun n hn _ => ?_))
  exact ⟨fun h => ⟨h.1, h.2, State.batchWidths_getD hn⟩, fun h => ⟨h.1, h.2.1⟩⟩

/-- The batch is over: the next one counts from 0, and a table it gave waits for a dwell boundary. -/
def State.batchOver (s : State) (c i : Nat) (w : Option (List Nat)) : State :=
  s.modSlice c i (fun v => { v with hits := [], batchStops := 0, newWidth := w })

theorem exec_cdBatchEnd_accepted {c : CrateId} {i : SliceId} (hl : s.timingLive = true) (hp : s.cratePwr c ≠ 0)
    (hb : 2 ^ s.cfgRd c (CRT_TDC_CFG_cd_batch c) ≤ (s.slice c i).batchStops) (ha : s.batchAccepted c i = true) :
    exec (.cdBatchEnd c i) s
      = .next ((s.batchOver c i (some (s.batchWidths c i))).bump (TDC_CD_STAT_batches c i) 1) := by
  have powered : s.cratePowered c = true := bne_iff_ne.2 hp
  simp only [exec, execCdBatchEnd, hl, powered, hb, ha, decide_true, Bool.and_true, doIf_true, if_true]
  rfl

theorem exec_cdBatchEnd_rejected {c : CrateId} {i : SliceId} (hl : s.timingLive = true) (hp : s.cratePwr c ≠ 0)
    (hb : 2 ^ s.cfgRd c (CRT_TDC_CFG_cd_batch c) ≤ (s.slice c i).batchStops) (ha : s.batchAccepted c i = false) :
    exec (.cdBatchEnd c i) s = .next (((s.batchOver c i (s.slice c i).newWidth).bump (TDC_CD_STAT_cd_rej c i) 1).detect
      0x01 1 c i 2 (elemSlice c i)) := by
  have powered : s.cratePowered c = true := bne_iff_ne.2 hp
  simp only [exec, execCdBatchEnd, hl, powered, hb, ha, decide_true, Bool.and_true, doIf_true, Bool.false_eq_true, if_false]
  rfl

theorem exec_cdBatchEnd_off {c : CrateId} {i : SliceId} (hp : s.cratePwr c = 0) : exec (.cdBatchEnd c i) s = .next s := by
  have unpowered : s.cratePowered c = false := bne_eq_false_iff_eq.2 hp
  simp [exec, execCdBatchEnd, unpowered]

/-! ## The criteria of a tie-break (R112) -/

/-- The sum over calibrations each of which gave a measurement. -/
theorem calSum_map_some {l : List RingCal} {f : RingCal → Int} : calSum (l.map some) f = (l.map f).sum := by
  have shifted : ∀ (l : List RingCal) (x : Int), l.foldl (fun n m => n + f m) x = x + (l.map f).sum := by
    intro l
    induction l with
    | nil => simp
    | cons m l ih => intro x; rw [List.foldl_cons, ih, List.map_cons, List.sum_cons, add_assoc]
  rw [calSum, List.filterMap_map, Function.id_comp, List.filterMap_some, shifted, zero_add]

theorem calFails_map_some {l : List RingCal} : calFails (l.map some) = true ↔ l = []
    ∨ (l.map calP).sum < 96 * l.length ∨ 156 * l.length < (l.map calP).sum
    ∨ (l.length : Int) ^ 2 < l.length * (l.map (fun m => calP m ^ 2)).sum - (l.map calP).sum ^ 2
    ∨ (l.map calIns).sum < 0 ∨ 40 * l.length < (l.map calIns).sum := by
  have measured : (l.map some).any (fun m => m.isNone) = false := by simp
  simp only [calFails, measured, calSpread, calSum_map_some, List.isEmpty_map, List.length_map, Bool.false_or, Bool.or_eq_true,
    decide_eq_true_eq, List.isEmpty_iff, or_assoc, ← pow_two]

theorem calFails_of_none_mem {l : List (Option RingCal)} (h : none ∈ l) : calFails l = true := by
  have missing : l.any (fun m => m.isNone) = true := List.any_eq_true.2 ⟨none, h, rfl⟩
  simp [calFails, missing]

/-- A width more than 50 % off its factory entry fails the slice (R112). -/
theorem State.cdFails_iff : s.cdFails c i = true ↔ ∃ n f u : Nat, n < 160 ∧ n < s.rd (TDC_CAL_p_est c i) / 256
    ∧ f = (Config.factoryTap c i n).toNat ∧ u = (s.slice c i).width.getD n 0 ∧ (f + f / 2 < u ∨ 2 * u < f) := by
  have off : ∀ f u : Nat, f < 2 * (u - f) ∨ f < 2 * (f - u) ↔ f + f / 2 < u ∨ 2 * u < f := by omega
  simp only [State.cdFails, List.any_eq_true, State.mem_checkedTaps, Bool.or_eq_true, decide_eq_true_eq, off, and_assoc,
    exists_and_left, exists_eq_left]

/-! ## The end of a tie-break (R112, R125) -/

theorem regs_tieMeasure {l : List Nat} {m : List (Option RingCal)} (hb : TDC_TB c i ∈ l) (hs : TDC_STATE c i ∈ l)
    (h : OnlyRegs l s t) : OnlyRegs l s (t.tieMeasure c i m) :=
  regs_putB hs (regs_putB hs (regs_put hb (regs_put hb (regs_put hb h))))

/-- What the tie-break has found (R112). -/
def State.tieFound (s : State) (j c : Nat) (m : TieMeas) : TieRes :=
  ⟨j, calFails m.slice || s.cdFails c j, calFails m.spare || s.cdFails c 16⟩

/-- The measurements of the slice and of the spare are kept. -/
def State.tieMeasured (s : State) (c j : Nat) (m : TieMeas) : State := (s.tieMeasure c j m.slice).tieMeasure c 16 m.spare

/-- The outcome waits for the apply instant. -/
def State.tieOver (s : State) (c j : Nat) (m : TieMeas) : State :=
  (((s.tieMeasured c j m).modCrate c (fun g => { g with tieRun := none, tieRes := some (s.tieFound j c m) })).modFlt (fun f =>
    { f with changes := f.changes ++ [.tie c (s.tieFound j c m)] })).showPend

theorem exec_tieBreakEnd {c : CrateId} {m : TieMeas} (hl : s.timingLive = true) (hp : s.cratePwr c ≠ 0)
    (ht : (s.crate c).tieRun = some j) : exec (.tieBreakEnd c m) s = .next (s.tieOver c j m) := by
  have powered : s.cratePowered c = true := bne_iff_ne.2 hp
  simp only [exec, execTieBreakEnd, ht, hl, powered, Bool.and_true, doIf_true]
  rfl

theorem exec_tieBreakEnd_off {c : CrateId} {m : TieMeas} (hp : s.cratePwr c = 0) : exec (.tieBreakEnd c m) s = .next s := by
  have unpowered : s.cratePowered c = false := bne_eq_false_iff_eq.2 hp
  cases ht : (s.crate c).tieRun <;> simp [exec, execTieBreakEnd, ht, unpowered]

variable {m : TieMeas}

theorem evolves_tieMeasured : Evolves [.regs] s (s.tieMeasured c j m) :=
  ev_tieMeasure (by decide) (ev_tieMeasure (by decide) ev_refl)

/-- Counting the changes that wait touches registers alone. -/
theorem evolves_tieOver : Evolves [.regs, .flt] ((s.tieMeasured c j m).modCrate c (fun g => { g with
    tieRun := none, tieRes := some (s.tieFound j c m) })) (s.tieOver c j m) :=
  ev_showPend (by decide) (ev_modFlt (by decide) (fun _ h => h) ev_refl)

theorem State.crate_tieOver :
    (s.tieOver c j m).crate c = { s.crate c with tieRun := none, tieRes := some (s.tieFound j c m) } := by
  rw [evolves_tieOver.1.crate (by decide), State.crate_modCrate_same, evolves_tieMeasured.1.crate (by decide)]

theorem onlyCrates_tieOver : OnlyCrates [c] s (s.tieOver c j m) :=
  ((evolves_tieMeasured.1.onlyCrates (by decide)).trans onlyCrates_modCrate).trans (evolves_tieOver.1.onlyCrates (by decide))

theorem State.changes_tieOver : (s.tieOver c j m).flt.changes = s.flt.changes ++ [.tie c (s.tieFound j c m)] := by
  have shown : ∀ u : State, u.showPend.flt = u.flt := fun u => (ev_showPend (L := [.regs]) (by decide) ev_refl).1 .flt (by decide)
  have kept : (s.tieMeasured c j m).flt = s.flt := evolves_tieMeasured.1 .flt (by decide)
  rw [State.tieOver, shown, ← kept]
  simp [State.modFlt]

theorem regs_tieOver : OnlyRegs [TDC_TB c j, TDC_TB c 16, TDC_STATE c j, TDC_STATE c 16, FLT_STAT] s (s.tieOver c j m) :=
  regs_put (by simp [FLT_STAT_pend]) (regs_modFlt (regs_modCrate
    (regs_tieMeasure (by simp) (by simp) (regs_tieMeasure (by simp) (by simp) onlyRegs_refl))))

/-- Settles O16: each command's clauses read off the state that its `exec_` lemma names, and each criterion is stated once. -/
theorem sliceCalibration : Obligations.SliceCalibration := by
  unfold Obligations.SliceCalibration
  refine ⟨?visit, ?accepted, ?rejected, ?batchCriterion, ?newTable, ?batchRejected, ?tie, ?chargeCriterion, ?gain, ?tieCriterion,
    ?unmeasured, ?widths, ?unpowered⟩
  case visit =>
    intro c s hl hr hc
    have hexec : exec (.chargeCalDue c) s = .next (s.modCrate c (fun g => { g with visitDue := true })) := by
      simp [exec, execChargeCalDue, hl, hr, hc]
    exact ⟨_, hexec, State.crate_modCrate_same, onlyCrates_modCrate, (ev_modCrate (by decide) ev_refl).1⟩
  case accepted =>
    intro c i m s hl hs hp ha
    have ended : Evolves [.crates] s (s.calOver c) := ev_modCrate (by decide) ev_refl
    have given : Evolves [.slices] (s.calOver c) ((s.calOver c).modSlice c i (fun v => { v with
      newQ := some (chargeGain m, m.z) })) := ev_modSlice (by decide) ev_refl
    refine ⟨_, by rw [exec_chargeCalDone hl hs hp, State.chargeCalDone_accepted ha], ?_, ?_, ?_, ?_, ?_⟩
    · exact (given.1.crate (by decide) _).trans State.crate_modCrate_same
    · rw [State.slice_modSlice_same, ended.1.slice (by decide)]
    · exact onlyCrates_modCrate.trans (given.1.onlyCrates (by decide))
    · exact fun d k hk hn => (onlySlices_modSlice i.isLt d k hk hn).trans (ended.1.slice (by decide) d k)
    · exact (ev_modSlice (by decide) (ev_mono ended (by decide))).1
  case rejected =>
    intro c i m s hl hs hp ha
    have detected : Evolves [.flt] (s.calOver c) ((s.calOver c).detect 0x01 1 c i 3 (elemSlice c i)) :=
      ev_detect (by decide) ev_refl
    refine ⟨_, by rw [exec_chargeCalDone hl hs hp, State.chargeCalDone_rejected ha], ?_, rfl, ?_⟩
    · exact (detected.1.crate (by decide) _).trans State.crate_modCrate_same
    · exact (ev_detect (by decide) (ev_modCrate (by decide) ev_refl)).1
  case batchCriterion =>
    intro c i s
    exact State.batchAccepted_iff
  case newTable =>
    intro c i s hl hp hb ha
    have ended : Evolves [.slices] s (s.batchOver c i (some (s.batchWidths c i))) := ev_modSlice (by decide) ev_refl
    have counted : Evolves [.regs] (s.batchOver c i (some (s.batchWidths c i)))
      ((s.batchOver c i (some (s.batchWidths c i))).bump (TDC_CD_STAT_batches c i) 1) := ev_bump (by decide) ev_refl
    refine ⟨_, exec_cdBatchEnd_accepted hl hp hb ha, ?_, ?_, ?_, ?_, rfl⟩
    · exact (counted.1.slice (by decide) _ _).trans State.slice_modSlice_same
    · rw [State.rd_bump_same (by simp [TDC_CD_STAT_batches]), ended.1.rd (by decide)]
    · exact fun d k hk hn => (counted.1.slice (by decide) d k).trans (onlySlices_modSlice i.isLt d k hk hn)
    · exact regs_bump (List.mem_singleton.2 rfl) (regs_modSlice onlyRegs_refl)
  case batchRejected =>
    intro c i s hl hp hb ha
    have counted : Evolves [.regs, .flt] (s.batchOver c i (s.slice c i).newWidth) (((s.batchOver c i (s.slice c i).newWidth).bump
      (TDC_CD_STAT_cd_rej c i) 1).detect 0x01 1 c i 2 (elemSlice c i)) := ev_detect (by decide) (ev_bump (by decide) ev_refl)
    refine ⟨_, exec_cdBatchEnd_rejected hl hp hb ha, ?_, rfl, ?_⟩
    · exact (counted.1.slice (by decide) _ _).trans State.slice_modSlice_same
    · exact regs_detect (regs_bump (List.mem_singleton.2 rfl) (regs_modSlice onlyRegs_refl))
  case tie =>
    intro c m j s hl hp ht _
    exact ⟨_, _, exec_tieBreakEnd hl hp ht, rfl, State.crate_tieOver, State.changes_tieOver, regs_tieOver, onlyCrates_tieOver⟩
  case chargeCriterion =>
    intro m
    exact chargeAccepted_iff
  case gain =>
    intro m h
    exact chargeGain_nearest h
  case tieCriterion =>
    intro l
    exact calFails_map_some
  case unmeasured =>
    intro l h
    exact calFails_of_none_mem h
  case widths =>
    intro c i s
    exact State.cdFails_iff
  case unpowered =>
    intro c i m s hp
    exact ⟨exec_cdBatchEnd_off hp, exec_tieBreakEnd_off hp⟩

end Sys2Proof.Machine
end

section
/-! PROOFS. Posting and the laser permit (spec/10 R428, spec/05 R194, R211): what a posted event leaves in the queue and among the
records, the seven conditions with their bits of the cause, and what EYE_STAT shows of the permit. -/

namespace Sys2Proof.Machine

variable {s t u : State} {ws : List Word}

/-! ## Posting (R402, R404, R428) -/

/-- Records wait at their sources only while the record FIFO is full (R590). -/
def HostIf.inOrder (h : HostIf) : Prop := h.recs.length < recFifoSize → h.recWait = []

theorem State.allRecs_pushRec {r : Rec} (h : s.host.inOrder) : (s.pushRec r).host.allRecs = s.host.allRecs ++ [r]
    ∧ (s.pushRec r).host.inOrder := by
  unfold State.pushRec State.modHost
  by_cases room : s.host.recs.length < recFifoSize
  · simp [HostIf.allRecs, HostIf.inOrder, room, h room]
  · simp [HostIf.allRecs, HostIf.inOrder, room]

theorem State.eventTo_enabled {f : Func} (h : (s.ring (s.evtRing f)).st = .enabled) :
    s.eventTo f ws = s.pushRec ⟨f, s.evtRing f, 3, ws, none, 0, false⟩ := if_pos h

theorem State.evq_eventTo {f : Func} : (s.eventTo f ws).host.evq = s.host.evq := by
  unfold State.eventTo State.pushRec State.modHost
  split
  · dsimp only
    split <;> rfl
  · rfl

theorem State.evq_queueEvent (hf : s.flag HIF_SPI_CFG_evq_en = true) (hl : s.host.evq.length < 32) :
    (s.queueEvent ws).host.evq = s.host.evq ++ [ws] := by
  unfold State.queueEvent
  rw [if_pos hf, if_pos hl]
  rfl

theorem State.allRecs_queueEvent : (s.queueEvent ws).host.allRecs = s.host.allRecs := by
  unfold State.queueEvent
  split
  · split <;> rfl
  · rfl

theorem regs_eventTo_refl {f : Func} : OnlyRegs eventRegs s (s.eventTo f ws) := regs_eventTo (fun _ h => h) onlyRegs_refl

/-- An event posted while the fabric domain runs is posted in the sense of R402 and R428. -/
theorem posted_postWords : Posted s (s.postWords ws) ws := by
  have sent : OnlyRegs eventRegs s ((s.eventTo .pf0 ws).eventTo .pf1 ws) := onlyRegs_trans regs_eventTo_refl regs_eventTo_refl
  constructor
  · intro hf hl
    have evq : ((s.eventTo .pf0 ws).eventTo .pf1 ws).host.evq = s.host.evq := State.evq_eventTo.trans State.evq_eventTo
    rw [State.postWords, State.evq_queueEvent ((sent.flag (by decide)).trans hf) (by rw [evq]; exact hl), evq]
  · intro h0 h1 hw
    obtain ⟨first, order⟩ := State.allRecs_pushRec (s := s) (r := ⟨.pf0, s.evtRing .pf0, 3, ws, none, 0, false⟩) (fun _ => hw)
    have second := (State.allRecs_pushRec (r := ⟨.pf1, s.evtRing .pf1, 3, ws, none, 0, false⟩) order).1
    have other : (s.pushRec ⟨.pf0, s.evtRing .pf0, 3, ws, none, 0, false⟩).eventTo .pf1 ws
        = (s.pushRec ⟨.pf0, s.evtRing .pf0, 3, ws, none, 0, false⟩).pushRec ⟨.pf1, s.evtRing .pf1, 3, ws, none, 0, false⟩ :=
      State.eventTo_enabled h1
    rw [State.postWords, State.allRecs_queueEvent, State.eventTo_enabled h0, other, second, first, List.append_assoc,
      List.singleton_append]

theorem posted_post {typ kind index : Nat} {data : List Word} (h : s.fabricLive = true) :
    Posted s (s.post typ kind index data) (s.eventWords typ kind index data) := by
  rw [State.post, if_pos h]
  exact posted_postWords

/-- What happens after an event, and leaves the host interface alone. -/
theorem Posted.before {L : List Part} (h : Posted s t ws) (g : OnlyChanges L t u) (hp : Part.host ∉ L) : Posted s u ws := by
  unfold Posted
  rw [g .host hp]
  exact h

/-- What happens before an event, and writes only registers that posting does not read. -/
theorem Posted.after {l : List Nat} (h : Posted u t ws) (g : OnlyRegs l s u) (e : Evolves [.regs] s u) (hspi : HIF_SPI_CFG ∉ l)
    (hring : ∀ f, HIF_FN_CFG (fnIdx f) ∉ l) : Posted s t ws := by
  have ring : ∀ f, u.evtRing f = s.evtRing f := fun f => congrArg (BitVec.ofNat 16)
    (g.rd (f := HIF_FN_CFG_evt_ring (fnIdx f)) (hring f))
  have context : ∀ r, u.ring r = s.ring r := fun r => congrArg (fun m => sparseGet (fun _ => Ring.reset) m r.toNat)
    (e.1 .rings (by decide))
  unfold Posted at h
  rw [g.flag hspi, e.1 .host (by decide), ring, ring, context, context] at h
  exact h

theorem State.eventWords_congr {typ kind index : Nat} {data : List Word} (hc : u.clk = s.clk)
    (he : u.reg GLB_EPOCH = s.reg GLB_EPOCH) : u.eventWords typ kind index data = s.eventWords typ kind index data := by
  unfold State.eventWords State.epoch
  rw [hc, he]

/-! ## The conditions and the cause (R194) -/

/-- Every window monitor 0 to 3 that is a permit source is IN. -/
def State.windowsIn (s : State) : Prop := ∀ m, m < 4 → s.flag (WMN_CFG_permit m) = true → s.rd (WMN_STAT_state m) = 0

/-- The motor's speed is valid, in the configured direction and within its limits. -/
def State.speedIn (s : State) : Prop := s.rd MOT_STATUS_state = 3 ∧ s.rd MOT_STATUS_dir = s.rd EYE_SPD_CFG_dir
  ∧ s.rd EYE_SPD_min ≤ s.speed ∧ s.speed ≤ s.rd EYE_SPD_max

theorem State.speedPermit_iff : s.speedPermit = true ↔ s.speedIn := by
  simp only [State.speedPermit, State.speedValid, State.speedIn, Bool.and_eq_true, beq_iff_eq, decide_eq_true_eq, and_assoc]

/-- The window monitors' condition as the permit forms it. -/
def State.windowPermit (s : State) : Bool :=
  (List.range 4).all (fun m => !s.flag (WMN_CFG_permit m) || s.rd (WMN_STAT_state m) == 0)

theorem State.windowPermit_iff : s.windowPermit = true ↔ s.windowsIn := by
  simp only [State.windowPermit, State.windowsIn, List.all_eq_true, List.mem_range, Bool.or_eq_true, Bool.not_eq_true',
    beq_iff_eq, Decidable.or_iff_not_imp_left, Bool.not_eq_false]

/-- The value of a field with one bit for each condition that fails. -/
def causeOf (l : List Bool) : Nat := (l.zipIdx.map (fun p => if p.1 then 0 else 2 ^ p.2)).sum

theorem causeOf_bits : ∀ a b c d e f g : Bool, causeOf [a, b, c, d, e, f, g] < 2 ^ 7
    ∧ (bitOf (causeOf [a, b, c, d, e, f, g]) 0 = !a) ∧ (bitOf (causeOf [a, b, c, d, e, f, g]) 1 = !b)
    ∧ (bitOf (causeOf [a, b, c, d, e, f, g]) 2 = !c) ∧ (bitOf (causeOf [a, b, c, d, e, f, g]) 3 = !d)
    ∧ (bitOf (causeOf [a, b, c, d, e, f, g]) 4 = !e) ∧ (bitOf (causeOf [a, b, c, d, e, f, g]) 5 = !f)
    ∧ (bitOf (causeOf [a, b, c, d, e, f, g]) 6 = !g) := by decide

/-- Each failing condition sets its bit, and no other does (R194). -/
theorem State.permitCause_bits : s.permitCause < 2 ^ 7 ∧ (bitOf s.permitCause 0 = !s.flag CLK_STAT_refclk)
    ∧ (bitOf s.permitCause 1 = !(s.rd EYE_LOCK_state == 1)) ∧ (bitOf s.permitCause 2 = !s.speedPermit)
    ∧ (bitOf s.permitCause 3 = !(s.flag SAF_STAT_len_drv && s.flag SAF_STAT_len_rb)) ∧ (bitOf s.permitCause 4 = !s.windowPermit)
    ∧ (bitOf s.permitCause 5 = !!s.eye.binEccBad) ∧ (bitOf s.permitCause 6 = !s.flag GLB_READY_tpll) :=
  causeOf_bits _ _ _ _ _ _ _

theorem State.permitNow_iff : s.permitNow = true ↔ s.flag CLK_STAT_refclk = true ∧ s.rd EYE_LOCK_state = 1 ∧ s.speedIn
    ∧ (s.flag SAF_STAT_len_drv = true ∧ s.flag SAF_STAT_len_rb = true) ∧ s.windowsIn ∧ s.eye.binEccBad = false
    ∧ s.flag GLB_READY_tpll = true := by
  rw [← State.speedPermit_iff, ← State.windowPermit_iff]
  simp only [State.permitNow, State.permitConditions, State.windowPermit, List.all_cons, List.all_nil, id, Bool.and_eq_true,
    Bool.and_true, beq_iff_eq, Bool.not_eq_true']

/-! ## EYE_STAT (R194, R211) -/

/-- EYE_STAT with the cause and the permit written. -/
def State.permitShown (s : State) : State := (s.put EYE_STAT_cause s.permitCause).putB EYE_STAT_permit s.permitNow

/-- The same with a withdrawal counted. -/
def State.permitCounted (s : State) : State :=
  doIf (s.flag EYE_STAT_permit) (fun t => t.bump EYE_STAT_wd_ct 1) s.permitShown

theorem State.showPermit_same (h : s.permitNow = s.flag EYE_STAT_permit) : s.showPermit = s.permitShown := by
  simp only [State.showPermit, h, bne_self_eq_false, doIf_false]
  simp only [State.permitShown, h]

theorem State.showPermit_changed (h : s.permitNow ≠ s.flag EYE_STAT_permit) : s.showPermit
    = s.permitCounted.post 0x14 0 0 [w32 (s.permitNow.toNat + 2 * s.permitCause)] := by
  have changed : (s.flag EYE_STAT_permit != s.permitNow) = true := bne_iff_ne.2 h.symm
  simp only [State.showPermit, changed, doIf_true]
  rfl

theorem regs_permitShown : OnlyRegs [EYE_STAT] s s.permitShown :=
  regs_putB (List.mem_singleton.2 rfl) (regs_put (List.mem_singleton.2 rfl) onlyRegs_refl)

theorem evolves_permitShown : Evolves [.regs] s s.permitShown := ev_putB (by decide) (ev_put (by decide) ev_refl)

theorem regs_permitCounted : OnlyRegs [EYE_STAT] s s.permitCounted :=
  regs_doIf (fun _ h => regs_bump (List.mem_singleton.2 rfl) h) regs_permitShown

theorem evolves_permitCounted : Evolves [.regs] s s.permitCounted :=
  ev_doIf (fun _ h => ev_bump (by decide) h) evolves_permitShown

theorem regs_showPermit : OnlyRegs (EYE_STAT :: eventRegs) s s.showPermit := by
  by_cases h : s.permitNow = s.flag EYE_STAT_permit
  · rw [State.showPermit_same h]
    exact onlyRegs_mono (by decide) regs_permitShown
  · rw [State.showPermit_changed h]
    exact regs_post (fun _ hb => List.mem_cons_of_mem _ hb) (onlyRegs_mono (by decide) regs_permitCounted)

theorem State.permitShown_shows : s.permitShown.flag EYE_STAT_permit = s.permitNow
    ∧ s.permitShown.rd EYE_STAT_cause = s.permitCause ∧ s.permitShown.rd EYE_STAT_wd_ct = s.rd EYE_STAT_wd_ct := by
  refine ⟨State.flag_putB_same (by decide) rfl, ?_, ?_⟩
  · rw [State.permitShown, State.rd_putB_beside (by rfl)]
    exact State.rd_put_of_lt (by decide) State.permitCause_bits.1
  · rw [State.permitShown, State.rd_putB_beside (by rfl), State.rd_put_beside (by rfl)]

/-- EYE_STAT follows the permit, and counts each withdrawal (R194, R211). -/
theorem State.showPermit_shows : s.showPermit.flag EYE_STAT_permit = s.permitNow
    ∧ s.showPermit.rd EYE_STAT_cause = s.permitCause
    ∧ s.showPermit.rd EYE_STAT_wd_ct = (if s.flag EYE_STAT_permit = true ∧ s.permitNow = false then
        min (s.rd EYE_STAT_wd_ct + 1) (2 ^ EYE_STAT_wd_ct.width - 1) else s.rd EYE_STAT_wd_ct) := by
  obtain ⟨permit, cause, count⟩ := State.permitShown_shows (s := s)
  by_cases h : s.permitNow = s.flag EYE_STAT_permit
  · rw [State.showPermit_same h]
    refine ⟨permit, cause, count.trans (if_neg (fun hw => ?_)).symm⟩
    rw [hw.1, hw.2] at h
    cases h
  · have outside : EYE_STAT ∉ eventRegs := by decide
    rw [State.showPermit_changed h, flag_post outside, rd_post outside, rd_post outside]
    cases was : s.flag EYE_STAT_permit
    · have granted : s.permitCounted = s.permitShown := by rw [State.permitCounted, was, doIf_false]
      rw [granted]
      exact ⟨permit, cause, count.trans (if_neg (fun hw => Bool.false_ne_true hw.1)).symm⟩
    · have withdrawn : s.permitNow = false := by rw [was] at h; simpa using h
      have counted : s.permitCounted = s.permitShown.bump EYE_STAT_wd_ct 1 := by rw [State.permitCounted, was, doIf_true]
      rw [counted, if_pos ⟨rfl, withdrawn⟩, State.rd_bump_same (by decide), count]
      exact ⟨(State.flag_put_beside (by rfl)).trans permit, (State.rd_put_beside (by rfl)).trans cause, rfl⟩

/-- A change of the permit is posted with the new state and the cause (R194, R428). -/
theorem posted_showPermit (h : s.permitNow ≠ s.flag EYE_STAT_permit) (hl : s.fabricLive = true) :
    Posted s s.showPermit (s.eventWords 0x14 0 0 [w32 (s.permitNow.toNat + 2 * s.permitCause)]) := by
  have live : s.permitCounted.fabricLive = true := by
    have running : s.permitCounted.clk = s.clk := evolves_permitCounted.1 .clk (by decide)
    unfold State.fabricLive State.running at hl ⊢
    rw [running, regs_permitCounted.flag (by decide)]
    exact hl
  rw [State.showPermit_changed h, ← State.eventWords_congr (evolves_permitCounted.1 .clk (by decide))
    (regs_permitCounted _ (by decide))]
  exact (posted_post live).after regs_permitCounted evolves_permitCounted (by decide) (fun f => by cases f <;> decide)

/-- While the timing domain has its clock a read of EYE_STAT gives the permit and its cause as they are (R194). -/
theorem State.live_EYE_STAT {q : Src} (h : s.timingLive = true) : s.live q EYE_STAT
    = EYE_STAT_permit.set s.permitNow.toNat (EYE_STAT_cause.set s.permitCause (s.reg EYE_STAT)) := by
  have plain : isSafCfg EYE_STAT = false := by decide
  simp only [State.live, plain, h, Bool.false_eq_true, if_false, if_true]
  rfl

end Sys2Proof.Machine
end

section
/-! PROOFS. The loss of the timing domain's clock (spec/03 R82, spec/04 R147, R149, R151, spec/14 R598, R647): which registers the
shot engine's abort and the reset of the timing domain write, and what they leave in the emitters, the engine, the ready bits and
the crates. -/

namespace Sys2Proof.Machine

variable {s t u : State} {c e n : Nat} {l : List Nat}

/-! ## Registers of the shot engine and of the charge controllers -/

/-- The registers that show the engine's state, its entry and its banks (R157 to R159). -/
def engineRegs : List Nat := [SHT_STATUS, SHT_BANK_LEN, SHT_SWAP_RND]

/-- The status registers of the charge controllers (R199). -/
def chargerRegs : List Nat := emitterNos.map CHG_STAT

theorem mem_chargerRegs (he : e < 32) : CHG_STAT e ∈ chargerRegs := List.mem_map_of_mem (List.mem_range.2 he)

theorem regs_showShot (hl : ∀ b ∈ engineRegs, b ∈ l) (h : OnlyRegs l s t) : OnlyRegs l s t.showShot := by
  have status : SHT_STATUS ∈ l := hl _ (by decide)
  have lengths : SHT_BANK_LEN ∈ l := hl _ (by decide)
  refine regs_doIf (fun u hu => ?_) h
  have shown := regs_put (f := SHT_BANK_LEN_stg_len) (v := u.stagedBank.length) lengths (regs_put (f := SHT_BANK_LEN_act_len)
    (v := u.activeBank.length) lengths (regs_putB (f := SHT_STATUS_swap_at_rnd) (b := u.shot.swap.any (fun w => w.atRound.isSome))
    status (regs_putB (f := SHT_STATUS_swap_pend) (b := u.shot.swap.isSome) status (regs_put (f := SHT_STATUS_entry)
    (v := match u.shot.run with
      | some r => r.idx
      | none => u.shot.next) status hu))))
  dsimp only
  split
  · exact shown
  · exact regs_put (hl SHT_SWAP_RND (by decide)) shown

theorem regs_setEngine (hl : ∀ b ∈ engineRegs, b ∈ l) (h : OnlyRegs l s t) : OnlyRegs l s (t.setEngine n) :=
  regs_showShot hl (regs_put (hl SHT_STATUS (by decide)) h)

/-- Showing the shot leaves the engine's state as it is. -/
theorem State.engine_showShot : s.showShot.engine = s.engine := by
  refine doIf_induction (P := fun t => t.engine = s.engine) rfl (fun _ => ?_)
  dsimp only
  have shown : ((((((s.put SHT_STATUS_entry (match s.shot.run with
      | some r => r.idx
      | none => s.shot.next)).putB SHT_STATUS_swap_pend s.shot.swap.isSome).putB SHT_STATUS_swap_at_rnd
        (s.shot.swap.any (fun w => w.atRound.isSome))).put SHT_BANK_LEN_act_len s.activeBank.length).put SHT_BANK_LEN_stg_len
          s.stagedBank.length)).engine = s.engine := by
    unfold State.engine
    rw [State.rd_put_apart (.inl (by decide)), State.rd_put_apart (.inl (by decide)), State.rd_putB_beside (by rfl),
      State.rd_putB_beside (by rfl), State.rd_put_beside (by rfl)]
  split
  · exact shown
  · exact (State.rd_put_apart (.inl (by decide))).trans shown

theorem State.engine_setEngine (hn : n < 8) : (s.setEngine n).engine = n :=
  State.engine_showShot.trans (State.rd_put_of_lt (by decide) hn)

theorem Entry.lt_of_mem_emitterList {x : Entry} (h : e ∈ x.emitterList) : e < 32 := by
  obtain ⟨g, hg, he⟩ := List.mem_filterMap.1 h
  have group : g < 4 := List.mem_range.1 hg
  have member : bitsOf x.w1 (4 * g) 3 < 2 ^ 3 := Nat.mod_lt _ (by decide)
  split at he
  · rw [← Option.some.inj he]
    omega
  · cases he

theorem regs_loadTarget {v : Nat} (hl : CHG_STAT e ∈ l) (h : OnlyRegs l s t) : OnlyRegs l s (t.loadTarget e v) := by
  refine regs_doIf (fun _ hu => regs_modChg (regs_setChgState hl hu)) (regs_modChg ?_)
  rw [State.dacChanges_eq]
  exact regs_modHk h

theorem regs_holdNext (hl : ∀ b ∈ chargerRegs, b ∈ l) (h : OnlyRegs l s t) : OnlyRegs l s t.holdNext := by
  unfold State.holdNext
  split
  · exact h
  · refine forAll_induction (P := OnlyRegs l s) h (fun u x hx hu => regs_ite (regs_modChg hu) (regs_loadTarget (hl _ ?_) hu))
    exact mem_chargerRegs (Entry.lt_of_mem_emitterList hx)

theorem regs_startEntry (hl : ∀ b ∈ engineRegs, b ∈ l) (h : OnlyRegs l s t) : OnlyRegs l s (t.startEntry n) := by
  unfold State.startEntry
  split
  · exact h
  · exact regs_setEngine hl (regs_modShot h)

/-- What the engine's return from HOLD writes (R151). -/
theorem regs_resumeEngine (hl : ∀ b ∈ SHT_HOLD :: (engineRegs ++ chargerRegs), b ∈ l) (h : OnlyRegs l s t) :
    OnlyRegs l s t.resumeEngine := by
  have engine : ∀ b ∈ engineRegs, b ∈ l := fun b hb => hl b (List.mem_cons_of_mem _ (List.mem_append_left _ hb))
  have chargers : ∀ b ∈ chargerRegs, b ∈ l := fun b hb => hl b (List.mem_cons_of_mem _ (List.mem_append_right _ hb))
  exact regs_doIf (fun _ hu => regs_startEntry engine hu) (regs_holdNext chargers (regs_setEngine engine (regs_modShot
    (regs_bump (hl SHT_HOLD (List.mem_cons_self ..)) h))))

/-! ## The engine stops (R82, R151, R385, R386) -/

/-- The registers that show which crates' dumps run (R303). -/
def dumpRegs : List Nat := crateNos.map CHU_DUMP_STAT

theorem regs_cancelSwap (hl : ∀ b ∈ engineRegs, b ∈ l) (h : OnlyRegs l s t) : OnlyRegs l s t.cancelSwap := by
  have shown : OnlyRegs l s (t.modShot (fun h => { h with swap := none })).showShot := regs_showShot hl (regs_modShot h)
  unfold State.cancelSwap
  split
  · exact h
  · split
    · exact shown
    · exact regs_complete shown

theorem State.engine_cancelSwap : s.cancelSwap.engine = s.engine := by
  have shown : (s.modShot (fun h => { h with swap := none })).showShot.engine = s.engine := State.engine_showShot
  unfold State.cancelSwap
  split
  · rfl
  · split
    · exact shown
    · exact ((regs_complete (l := []) onlyRegs_refl).rd List.not_mem_nil).trans shown

theorem regs_endCaptures {status : Nat} (hl : CHU_DUMP_STAT c ∈ l) (h : OnlyRegs l s t) :
    OnlyRegs l s (t.endCaptures c status) :=
  regs_modCrate (endDump_induction (P := OnlyRegs l s) h (fun _ _ _ _ => regs_completeOpt (regs_putB hl (regs_modCrate h)))
    (fun _ _ _ hu => regs_freeBuf hu) (fun _ _ _ _ hu => regs_modChan hu))

/-- The engine in IDLE, without an entry and without a swap. -/
def State.idled (s : State) : State :=
  ((s.modShot (fun h => { h with run := none, delayDue := false })).setEngine 0).cancelSwap

theorem regs_idled : OnlyRegs engineRegs s s.idled :=
  regs_cancelSwap (fun _ h => h) (regs_setEngine (fun _ h => h) (regs_modShot onlyRegs_refl))

theorem State.engine_idled : s.idled.engine = 0 := State.engine_cancelSwap.trans (State.engine_setEngine (by decide))

/-- Once the engine is in IDLE, its commands complete and its dumps end. -/
theorem regs_toIdle_of_idled {status : Nat} : OnlyRegs dumpRegs s.idled (s.toIdle status) := by
  have stopped : OnlyRegs dumpRegs s.idled (forAll s.idled.shot.stopCmds (fun t ref => t.complete ref stOK 0 0) s.idled) :=
    regs_forAll (fun _ _ hu => regs_complete hu) onlyRegs_refl
  unfold State.toIdle
  refine forAll_induction (P := OnlyRegs dumpRegs s.idled) (regs_modShot ?_) (fun _ c hc hu =>
    regs_endCaptures (List.mem_map_of_mem hc) hu)
  split
  · exact stopped
  · exact regs_complete stopped

theorem regs_toIdle {status : Nat} : OnlyRegs (engineRegs ++ dumpRegs) s (s.toIdle status) :=
  onlyRegs_trans (onlyRegs_mono (fun _ h => List.mem_append_left _ h) regs_idled)
    (onlyRegs_mono (fun _ h => List.mem_append_right _ h) regs_toIdle_of_idled)

theorem State.engine_toIdle {status : Nat} : (s.toIdle status).engine = 0 :=
  (regs_toIdle_of_idled.rd (by decide)).trans State.engine_idled

/-! ## Every emitter once -/

theorem State.emit_forAll_modEmit {f : Emit → Emit} (he : e < 32) :
    (forAll emitterNos (fun t x => t.modEmit x f) s).emit e = f (s.emit e) := by
  obtain ⟨u, before, after⟩ := forAll_turn (s := s) (R := fun u v : State => v.emit e = u.emit e) (l := emitterNos)
    (f := fun t x => t.modEmit x f) (fun _ => rfl) (fun _ _ _ h g => g.trans h) List.nodup_range (List.mem_range.2 he)
    (fun _ _ _ hne => State.emit_modEmit_ne hne)
  rw [after, State.emit_modEmit_same, before]

/-- No emitter holds a shot any more. -/
def State.disarmed (s : State) : State := forAll emitterNos (fun t e => t.modEmit e (fun m => { m with committed := false })) s

theorem evolves_disarmed : Evolves [.emits] s s.disarmed := ev_forAll (fun _ _ h => ev_modEmit (by decide) h) ev_refl

theorem abortEngine_induction {P : State → Prop} {status : Nat} (hidle : s.disarmed.engine = 0 → P s.disarmed)
    (hbusy : P (s.disarmed.toIdle status)) : P (s.abortEngine status) := by
  unfold State.abortEngine
  dsimp only
  split
  · rename_i h
    refine hidle ((evolves_disarmed.1.rd (by decide) _).trans ?_)
    exact beq_iff_eq.1 h
  · exact hbusy

theorem regs_abortEngine {status : Nat} : OnlyRegs (engineRegs ++ dumpRegs) s (s.abortEngine status) := by
  have disarmed : OnlyRegs (engineRegs ++ dumpRegs) s s.disarmed := evolves_disarmed.1.onlyRegs (by decide)
  exact abortEngine_induction (fun _ => disarmed) (onlyRegs_trans disarmed regs_toIdle)

theorem State.engine_abortEngine {status : Nat} : (s.abortEngine status).engine = 0 :=
  abortEngine_induction (P := fun t => t.engine = 0) id State.engine_toIdle

theorem State.emit_abortEngine {status : Nat} (he : e < 32) :
    (s.abortEngine status).emit e = { s.emit e with committed := false } := by
  have idle : ∀ u : State, Evolves [.regs, .bank, .crates, .chans, .shot, .host] u (u.toIdle status) := fun _ =>
    ev_toIdle (by decide) (by decide) (by decide) (by decide) (by decide) (by decide) ev_refl
  exact abortEngine_induction (P := fun t => t.emit e = { s.emit e with committed := false })
    (fun _ => State.emit_forAll_modEmit he) (((idle _).1.emit (by decide) e).trans (State.emit_forAll_modEmit he))

/-! ## Ready bits (R551) -/

/-- Outside the registers of an event, a change of ready bits leaves what the change itself and the summary bits give. -/
theorem State.reg_changeReady {f : State → State} {a : Nat} (ha : a ∉ eventRegs) :
    (s.changeReady f).reg a = (f s).showCrateReady.reg a := by
  unfold State.changeReady
  split
  · rfl
  · exact doIf_induction (P := fun t => t.reg a = (f s).showCrateReady.reg a) rfl (fun _ =>
      regs_postReady (l := eventRegs) (fun _ h => h) onlyRegs_refl a ha)

theorem State.reg_showCrateReady_ne {a : Nat} (ha : GLB_READY ≠ a) : s.showCrateReady.reg a = s.reg a :=
  (State.reg_putB_ne ha).trans (State.reg_putB_ne ha)

theorem State.flag_showCrateReady {f : FRef} (h1 : GLB_READY ≠ f.addr ∨ f.apart GLB_READY_crate_any)
    (h2 : GLB_READY ≠ f.addr ∨ f.apart GLB_READY_crate_all) : s.showCrateReady.flag f = s.flag f :=
  (State.flag_put_apart h2).trans (State.flag_put_apart h1)

/-- The ready bits that need the timing domain's clock are cleared (R551, R588). -/
theorem State.clearTimingReady_shows : s.clearTimingReady.flag GLB_READY_tpll = false
    ∧ s.clearTimingReady.reg GLB_READY_CRT = 0 ∧ s.clearTimingReady.flag GLB_READY_motor = false := by
  have tpll : ((s.putB GLB_READY_tpll false).setReg GLB_READY_CRT 0).flag GLB_READY_tpll = false :=
    (State.flag_congr (State.reg_setReg_ne (by decide))).trans (State.flag_putB_same (by decide) rfl)
  refine ⟨?_, ?_, ?_⟩
  · rw [State.clearTimingReady, State.flag_congr (State.reg_changeReady (by decide)),
      State.flag_showCrateReady (.inr (by decide)) (.inr (by decide)), State.flag_putB_beside (by rfl), tpll]
  · rw [State.clearTimingReady, State.reg_changeReady (by decide), State.reg_showCrateReady_ne (by decide),
      State.reg_putB_ne (by decide), State.reg_setReg_same]
  · rw [State.clearTimingReady, State.flag_congr (State.reg_changeReady (by decide)),
      State.flag_showCrateReady (.inr (by decide)) (.inr (by decide)), State.flag_putB_same (by decide) rfl]

theorem regs_clearTimingReady (hl : ∀ b ∈ readyRegs, b ∈ l) (h : OnlyRegs l s t) : OnlyRegs l s t.clearTimingReady :=
  regs_changeReady hl (fun _ hu => regs_putB (hl _ (by decide)) (regs_setReg (hl _ (by decide)) (regs_putB (hl _ (by decide)) hu))) h

theorem State.reg_setReady_CRT {f : FRef} {b : Bool} (hf : f.addr = GLB_READY) :
    (s.setReady f b).reg GLB_READY_CRT = s.reg GLB_READY_CRT := by
  rw [State.setReady, State.reg_changeReady (by decide), State.reg_showCrateReady_ne (by decide),
    State.reg_putB_ne (by rw [hf]; decide)]

theorem regs_chargersOff (hl : ∀ b ∈ chargerRegs, b ∈ l) (h : OnlyRegs l s t) : OnlyRegs l s t.chargersOff :=
  forAll_induction (P := OnlyRegs l s) h (fun _ _ hx hu =>
    doIf_induction (P := OnlyRegs l s) hu (fun hv => regs_modChg (regs_setChgState (hl _ (List.mem_map_of_mem hx)) hv)))

/-- The motor interface's registers that its reset writes (R214). -/
def motorResetRegs : List Nat := MOT_STATUS :: MOT_ANGLE :: MOT_SPEED :: readyRegs

theorem regs_resetMotor (hl : ∀ b ∈ motorResetRegs, b ∈ l) (h : OnlyRegs l s t) : OnlyRegs l s t.resetMotor := by
  have status : MOT_STATUS ∈ l := hl _ (by decide)
  have dropped : OnlyRegs l s t.dropMotor := regs_setReady (fun b hb => hl b (by simp [motorResetRegs, hb])) (hl _ (by decide))
    (regs_modMotor (regs_putB status (regs_put status h)))
  exact regs_modMotor (regs_putB status (regs_putInt (hl MOT_SPEED (by decide)) (regs_putB status (regs_putB
    (hl MOT_ANGLE (by decide)) (regs_put status dropped)))))

/-- The reset of the motor interface clears its ready bit and no other (R214). -/
theorem State.resetMotor_shows : s.resetMotor.flag GLB_READY_motor = false
    ∧ s.resetMotor.flag GLB_READY_tpll = s.flag GLB_READY_tpll ∧ s.resetMotor.reg GLB_READY_CRT = s.reg GLB_READY_CRT := by
  have written : OnlyRegs [MOT_STATUS, MOT_ANGLE, MOT_SPEED] s.dropMotor s.resetMotor :=
    regs_modMotor (regs_putB (by decide) (regs_putInt (by decide) (regs_putB (by decide) (regs_putB (by decide)
      (regs_put (by decide) onlyRegs_refl)))))
  have before : OnlyRegs [MOT_STATUS] s (((s.put MOT_STATUS_state 0).putB MOT_STATUS_aligned false).modMotor (fun m => { m with
      code := none, everCode := false, hasEdge := false, sEdge := 0, hold := none, prevAngle := none, fwdCount := 0 })) :=
    regs_modMotor (regs_putB (by decide) (regs_put (by decide) onlyRegs_refl))
  refine ⟨?_, ?_, ?_⟩
  · exact (written.flag (by decide)).trans (flag_setReady rfl (by decide) rfl (by decide) (by decide))
  · exact (written.flag (by decide)).trans ((flag_setReady_other rfl (by decide) (by decide) (by decide)).trans
      (before.flag (by decide)))
  · exact (written _ (by decide)).trans ((State.reg_setReady_CRT rfl).trans (before _ (by decide)))

/-! ## Crates that lose their clock (R647) -/

/-- From s to t crate c kept its power state, and its test tone with its busy bit. -/
structure KeepsPower (c : Nat) (s t : State) : Prop where
  pwr : t.cratePwr c = s.cratePwr c
  busy : t.flag (CRT_TONE_CTL_busy c) = s.flag (CRT_TONE_CTL_busy c)
  tone : (t.crate c).tone = (s.crate c).tone

theorem KeepsPower.trans (h : KeepsPower c s t) (g : KeepsPower c t u) : KeepsPower c s u where
  pwr := g.pwr.trans h.pwr
  busy := g.busy.trans h.busy
  tone := g.tone.trans h.tone

theorem cratePwrField_apart {d : Nat} (h : d ≠ c) :
    (cratePwrField d).addr ≠ (cratePwrField c).addr ∨ (cratePwrField c).apart (cratePwrField d) := by
  unfold cratePwrField
  split <;> split
  · right; simp only [FRef.apart]; omega
  · exact .inl (by decide : CLK_CRT_PWR_LO ≠ CLK_CRT_PWR_HI)
  · exact .inl (by decide : CLK_CRT_PWR_HI ≠ CLK_CRT_PWR_LO)
  · right; simp only [FRef.apart]; omega

theorem CRT_TONE_CTL_ne_cratePwrField {d : Nat} : CRT_TONE_CTL d ≠ (cratePwrField c).addr := by
  have := cratePwrField_addr_lt (c := c)
  simp only [CRT_TONE_CTL]
  omega

/-- The registers that the crates' loss of their clock writes. -/
def crateOffRegs : List Nat := CLK_CRT_PWR_LO :: CLK_CRT_PWR_HI :: crateNos.map CRT_TONE_CTL

theorem evolves_abortWindows : Evolves [.crates, .chans] s (s.abortWindows c) := ev_abortWindows (by decide) (by decide) ev_refl

/-- A crate that loses its clock goes to OFF from STARTING and STOPPING, and has its windows ended from any state. -/
theorem crateLosesClock_induction {P : State → Prop} (hstay : P (s.abortWindows c))
    (hoff : P ((s.abortWindows c).crateTurnsOff c)) : P (s.crateLosesClock c) :=
  doIf_induction hstay (fun _ => hoff)

theorem regs_crateLosesClock (hl : ∀ b ∈ crateOffRegs, b ∈ l) (hc : c ∈ crateNos) (h : OnlyRegs l s t) :
    OnlyRegs l s (t.crateLosesClock c) := by
  have power : (cratePwrField c).addr ∈ l := by
    unfold cratePwrField
    split
    · exact hl CLK_CRT_PWR_LO (by decide)
    · exact hl CLK_CRT_PWR_HI (by decide)
  have tone : CRT_TONE_CTL c ∈ l := hl _ (List.mem_cons_of_mem _ (List.mem_cons_of_mem _ (List.mem_map_of_mem hc)))
  have aborted : OnlyRegs l s (t.abortWindows c) := onlyRegs_trans h (evolves_abortWindows.1.onlyRegs (by decide))
  exact crateLosesClock_induction aborted (regs_modCrate (regs_putB tone (regs_put power aborted)))

/-- A crate that turns off is OFF, and its test tone is at an end (R603, R647). -/
theorem State.crateTurnsOff_shows (hc : c < 32) : (s.crateTurnsOff c).cratePwr c = 0
    ∧ (s.crateTurnsOff c).flag (CRT_TONE_CTL_busy c) = false ∧ ((s.crateTurnsOff c).crate c).tone = none := by
  have kept : Evolves [.crates] ((s.put (cratePwrField c) 0).putB (CRT_TONE_CTL_busy c) false) (s.crateTurnsOff c) :=
    ev_modCrate (by decide) ev_refl
  refine ⟨?_, ?_, ?_⟩
  · have fits : (cratePwrField c).fits := by
      unfold cratePwrField
      split <;> (simp only [FRef.fits]; omega)
    refine (kept.1.rd (by decide) _).trans ((State.rd_putB_apart (.inl CRT_TONE_CTL_ne_cratePwrField)).trans ?_)
    exact State.rd_put_of_lt fits (Nat.two_pow_pos _)
  · rw [kept.1.flag (by decide)]
    exact State.flag_putB_same (by simp [CRT_TONE_CTL_busy]) rfl
  · rw [State.crateTurnsOff, State.crate_modCrate_same]

theorem onlyCrates_abortWindows : OnlyCrates [c] s (s.abortWindows c) := by
  have ended : OnlyCrates [c] s (s.endWindows c) := by
    unfold State.endWindows
    dsimp only
    split
    · exact onlyCrates_modCrate
    · exact OnlyCrates.trans onlyCrates_modCrate onlyCrates_modCrate
  exact forAll_induction (P := OnlyCrates [c] s) (ended.trans onlyCrates_modCrate) (fun _ _ _ h =>
    h.trans ((ev_modChan (L := [.chans]) (by decide) ev_refl).1.onlyCrates (by decide)))

/-- The turn of another crate. -/
theorem keepsPower_crateLosesClock {d : Nat} (h : d ≠ c) : KeepsPower c s (s.crateLosesClock d) := by
  have other : c ∉ [d] := fun hm => h (List.mem_singleton.1 hm).symm
  have aborted : KeepsPower c s (s.abortWindows d) := ⟨evolves_abortWindows.1.rd (by decide) _,
    evolves_abortWindows.1.flag (by decide) _, by rw [onlyCrates_abortWindows c other]⟩
  have off : ∀ u : State, KeepsPower c u (u.crateTurnsOff d) := fun u => by
    have kept : Evolves [.crates] ((u.put (cratePwrField d) 0).putB (CRT_TONE_CTL_busy d) false) (u.crateTurnsOff d) :=
      ev_modCrate (by decide) ev_refl
    have written : Evolves [.regs] u ((u.put (cratePwrField d) 0).putB (CRT_TONE_CTL_busy d) false) :=
      ev_putB (by decide) (ev_put (by decide) ev_refl)
    have tones : CRT_TONE_CTL d ≠ CRT_TONE_CTL c := by
      simp only [CRT_TONE_CTL]
      omega
    refine ⟨?_, ?_, ?_⟩
    · exact (kept.1.rd (by decide) _).trans ((State.rd_putB_apart (.inl CRT_TONE_CTL_ne_cratePwrField)).trans
        (State.rd_put_apart (cratePwrField_apart h)))
    · exact (kept.1.flag (by decide) _).trans ((State.flag_put_apart (.inl tones)).trans
        (State.flag_put_apart (.inl CRT_TONE_CTL_ne_cratePwrField.symm)))
    · rw [State.crateTurnsOff, onlyCrates_modCrate c other, written.1.crate (by decide)]
  exact crateLosesClock_induction aborted (aborted.trans (off _))

theorem State.crateLosesClock_of_changing (h : s.cratePwr c = 1 ∨ s.cratePwr c = 3) :
    s.crateLosesClock c = (s.abortWindows c).crateTurnsOff c := by
  have changing : State.crateLosesClock.t1 c s = true := by
    unfold State.crateLosesClock.t1
    unfold State.cratePwr at h
    obtain h | h := h <;> simp [h]
  rw [State.crateLosesClock, changing, doIf_true]

/-- Every crate has lost its clock. -/
def State.cratesLost (s : State) : State := forAll crateNos (fun t c => t.crateLosesClock c) s

theorem evolves_cratesLost : Evolves [.regs, .crates, .chans] s s.cratesLost :=
  ev_forAll (fun _ _ h => ev_crateLosesClock (by decide) (by decide) (by decide) h) ev_refl

theorem regs_cratesLost : OnlyRegs crateOffRegs s s.cratesLost :=
  forAll_induction (P := OnlyRegs crateOffRegs s) onlyRegs_refl (fun _ _ hc h => regs_crateLosesClock (fun _ hb => hb) hc h)

/-- A crate in STARTING or STOPPING is OFF once all crates have lost their clock (R647). -/
theorem State.cratesLost_shows (hc : c < 32) (h : s.cratePwr c = 1 ∨ s.cratePwr c = 3) : s.cratesLost.cratePwr c = 0
    ∧ s.cratesLost.flag (CRT_TONE_CTL_busy c) = false ∧ (s.cratesLost.crate c).tone = none := by
  obtain ⟨u, before, after⟩ := forAll_turn (s := s) (R := KeepsPower c) (l := crateNos)
    (f := fun t d => t.crateLosesClock d) (fun _ => ⟨rfl, rfl, rfl⟩) (fun _ _ _ => KeepsPower.trans) List.nodup_range
    (List.mem_range.2 hc) (fun _ _ _ hne => keepsPower_crateLosesClock hne)
  rw [State.crateLosesClock_of_changing (by rw [before.pwr]; exact h)] at after
  obtain ⟨pwr, busy, tone⟩ := State.crateTurnsOff_shows (s := u.abortWindows c) hc
  exact ⟨after.pwr.trans pwr, after.busy.trans busy, after.tone.trans tone⟩

/-! ## The timing domain's reset (R82, R588, R598) -/

/-- The ready bits, the charge controllers and the pulses end with the clock. -/
def State.timingStopped (s : State) : State := (s.putB CLK_STAT_tpll false).clearTimingReady.chargersOff.endPulses

theorem State.timingReset_eq : s.timingReset = s.timingStopped.cratesLost.resetMotor.modClk (fun k => { k with
    lastLeft := none, motorWas := if s.flag GLB_READY_tpll then s.flag GLB_READY_motor else k.motorWas }) := rfl

/-- The registers that the timing domain's reset writes, beside CLK_STAT. -/
def timingRegs : List Nat := chargerRegs ++ (crateOffRegs ++ motorResetRegs)

theorem regs_timingStopped : OnlyRegs (chargerRegs ++ readyRegs) (s.putB CLK_STAT_tpll false) s.timingStopped := by
  have ended : ∀ u : State, OnlyRegs (chargerRegs ++ readyRegs) u u.endPulses := fun u =>
    (ev_endPulses (L := [.shot, .emits]) (by decide) (by decide) ev_refl).1.onlyRegs (by decide)
  exact onlyRegs_trans (regs_chargersOff (fun _ h => List.mem_append_left _ h) (regs_clearTimingReady
    (fun _ h => List.mem_append_right _ h) onlyRegs_refl)) (ended _)

theorem regs_timingReset : OnlyRegs timingRegs (s.putB CLK_STAT_tpll false) s.timingReset := by
  have stopped : ∀ b ∈ chargerRegs ++ readyRegs, b ∈ timingRegs := fun b hb => (List.mem_append.1 hb).elim
    (fun h => List.mem_append_left _ h)
    (fun h => List.mem_append_right _ (List.mem_append_right _ (by simp [motorResetRegs, h])))
  have lost : ∀ b ∈ crateOffRegs, b ∈ timingRegs := fun b hb => List.mem_append_right _ (List.mem_append_left _ hb)
  rw [State.timingReset_eq]
  exact regs_modClk (regs_resetMotor (fun b hb => List.mem_append_right _ (List.mem_append_right _ hb))
    (onlyRegs_trans (onlyRegs_mono stopped regs_timingStopped) (onlyRegs_mono lost regs_cratesLost)))

/-- No ready bit that needs the timing domain's clock is left (R551, R588). -/
theorem State.timingReset_ready : s.timingReset.flag GLB_READY_tpll = false ∧ s.timingReset.reg GLB_READY_CRT = 0
    ∧ s.timingReset.flag GLB_READY_motor = false := by
  have after : OnlyRegs (chargerRegs ++ crateOffRegs) (s.putB CLK_STAT_tpll false).clearTimingReady
      s.timingStopped.cratesLost := by
    have ended := (ev_endPulses (L := [.shot, .emits]) (s := (s.putB CLK_STAT_tpll false).clearTimingReady.chargersOff)
      (by decide) (by decide) ev_refl).1.onlyRegs (by decide) (l := chargerRegs)
    exact onlyRegs_trans (onlyRegs_mono (fun _ h => List.mem_append_left _ h) (onlyRegs_trans
      (regs_chargersOff (fun _ h => h) onlyRegs_refl) ended)) (onlyRegs_mono (fun _ h => List.mem_append_right _ h)
        regs_cratesLost)
  obtain ⟨tpll, crates, -⟩ := State.clearTimingReady_shows (s := s.putB CLK_STAT_tpll false)
  obtain ⟨motor, same, sameCrates⟩ := State.resetMotor_shows (s := s.timingStopped.cratesLost)
  have last : Evolves [.clk] s.timingStopped.cratesLost.resetMotor s.timingReset := by
    rw [State.timingReset_eq]
    exact ev_modClk (by decide) ev_refl
  exact ⟨(last.1.flag (by decide) _).trans (same.trans ((after.flag (by decide)).trans tpll)),
    (last.1.reg (by decide) _).trans (sameCrates.trans ((after _ (by decide)).trans crates)),
    (last.1.flag (by decide) _).trans motor⟩

theorem evolves_timingStopped : Evolves [.regs, .chgs, .host, .shot, .emits] s s.timingStopped :=
  ev_endPulses (by decide) (by decide) (ev_chargersOff (by decide) (by decide) (ev_clearTimingReady (by decide) (by decide)
    (ev_putB (by decide) ev_refl)))

theorem evolves_timingReset_of_cratesLost :
    Evolves [.regs, .motor, .host, .clk] s.timingStopped.cratesLost s.timingReset := by
  rw [State.timingReset_eq]
  exact ev_modClk (by decide) (ev_resetMotor (by decide) (by decide) (by decide) ev_refl)

/-- From the end of the pulses on, the reset leaves the engine and the emitters alone. -/
theorem evolves_timingReset_of_timingStopped :
    Evolves [.regs, .motor, .host, .clk, .crates, .chans] s.timingStopped s.timingReset :=
  ev_trans (ev_mono evolves_cratesLost (by decide)) (ev_mono evolves_timingReset_of_cratesLost (by decide))

/-- No pulse outlasts the timing domain's clock (R147, R149, R598). -/
theorem State.emit_timingReset (he : e < 32) : s.timingReset.emit e = { s.emit e with pulse := none } := by
  have before : Evolves [.regs, .chgs, .host] s (s.putB CLK_STAT_tpll false).clearTimingReady.chargersOff :=
    ev_chargersOff (by decide) (by decide) (ev_clearTimingReady (by decide) (by decide) (ev_putB (by decide) ev_refl))
  have ended : ∀ u : State, Evolves [.shot] (forAll emitterNos (fun t e => t.modEmit e (fun m => { m with pulse := none })) u)
      u.endPulses := fun _ => ev_modShot (by decide) ev_refl
  rw [evolves_timingReset_of_timingStopped.1.emit (by decide), State.timingStopped, (ended _).1.emit (by decide),
    State.emit_forAll_modEmit he, before.1.emit (by decide)]

theorem State.syncPulse_timingReset : s.timingReset.shot.syncPulse = none := by
  rw [evolves_timingReset_of_timingStopped.1 .shot (by decide)]
  rfl

theorem State.clk_timingReset : s.timingReset.clk = { s.clk with
    lastLeft := none, motorWas := if s.flag GLB_READY_tpll then s.flag GLB_READY_motor else s.clk.motorWas } := by
  have before : Evolves [.regs, .chgs, .host, .shot, .emits, .crates, .chans, .motor] s s.timingStopped.cratesLost.resetMotor :=
    ev_resetMotor (by decide) (by decide) (by decide) (ev_trans (ev_mono evolves_timingStopped (by decide))
      (ev_mono evolves_cratesLost (by decide)))
  rw [State.timingReset_eq, State.modClk, before.1 .clk (by decide)]

/-- The reset of the timing domain after the crates' turns leaves the crates' power and test tones. -/
theorem keepsPower_timingReset (hc : c < 32) : KeepsPower c s.timingStopped.cratesLost s.timingReset := by
  have written : OnlyRegs motorResetRegs s.timingStopped.cratesLost s.timingReset := by
    rw [State.timingReset_eq]
    exact regs_modClk (regs_resetMotor (fun _ h => h) onlyRegs_refl)
  have low : ∀ b ∈ motorResetRegs, b < 0x10000 ∧ b ≠ CLK_CRT_PWR_LO ∧ b ≠ CLK_CRT_PWR_HI := by decide
  refine ⟨written.rd (fun h => ?_), written.flag (fun h => ?_), by rw [evolves_timingReset_of_cratesLost.1.crate (by decide)]⟩
  · obtain ⟨-, lo, hi⟩ := low _ h
    unfold cratePwrField at lo hi
    split at lo
    · exact lo rfl
    · rename_i hge
      rw [if_neg hge] at hi
      exact hi rfl
  · have := (low _ h).1
    simp only [CRT_TONE_CTL_busy, CRT_TONE_CTL] at this
    omega

end Sys2Proof.Machine
end

section
/-! PROOFS. The REFCLK monitors (spec/03 R80 to R82): the gates' verdicts, what the loss of REFCLK leaves of CLK_STAT, the engine, the
emitters and the crates, and the obligation `Obligations.RefclkMonitors`. -/

namespace Sys2Proof.Machine

variable {s : State} {c e n : Nat}

/-! ## The loss (R82, R594) -/

/-- REFCLK is noted as lost, and the loss is counted. -/
def State.lossNoted (s : State) : State :=
  ((s.putB CLK_STAT_refclk false).bump CLK_STAT_ref_loss 1).modClk (fun k => { k with goodRun := 0, badRun := 0, earlyClose := true })

/-- The engine has stopped, and device time is held over. -/
def State.lossHeld (s : State) : State := (s.lossNoted.abortEngine stREFCLK_LOST).putB CLK_STAT_holdover true

/-- The timing domain has stopped; what is left is to show the permit, to post and to log. -/
def State.lossStopped (s : State) : State := s.lossHeld.timingReset

theorem State.refclkLoss_eq :
    s.refclkLoss = (s.lossStopped.showPermit.post 0x12 0 0 []).log 0x60 6 0 0 0 0 0 := rfl

theorem exec_refclkLost (hr : s.running = true) (hp : s.flag CLK_STAT_refclk = true) :
    exec .refclkLost s = .next s.refclkLoss := by
  simp only [exec, execRefclkLost, hr, hp, doIf_true, if_true]

theorem regs_lossHeld : OnlyRegs (CLK_STAT :: (engineRegs ++ dumpRegs)) s s.lossHeld := by
  have noted : OnlyRegs (CLK_STAT :: (engineRegs ++ dumpRegs)) s s.lossNoted :=
    regs_modClk (regs_bump (List.mem_cons_self ..) (regs_putB (List.mem_cons_self ..) onlyRegs_refl))
  exact regs_putB (List.mem_cons_self ..) (onlyRegs_trans noted (onlyRegs_mono (fun _ h => List.mem_cons_of_mem _ h)
    regs_abortEngine))

/-- The registers that a loss of REFCLK writes before the permit is shown. -/
def lossRegs : List Nat := CLK_STAT :: (engineRegs ++ dumpRegs ++ timingRegs)

theorem regs_lossStopped : OnlyRegs lossRegs s s.lossStopped := by
  have held : ∀ b ∈ CLK_STAT :: (engineRegs ++ dumpRegs), b ∈ lossRegs := fun b hb => (List.mem_cons.1 hb).elim
    (fun h => h ▸ List.mem_cons_self ..) (fun h => List.mem_cons_of_mem _ (List.mem_append_left _ h))
  exact onlyRegs_trans (onlyRegs_mono held (regs_putB (List.mem_cons_self ..) regs_lossHeld))
    (onlyRegs_mono (fun _ h => List.mem_cons_of_mem _ (List.mem_append_right _ h)) regs_timingReset)

theorem regs_refclkLoss_of_lossStopped : OnlyRegs (EYE_STAT :: logRegs) s.lossStopped s.refclkLoss := by
  rw [State.refclkLoss_eq]
  exact regs_log (fun _ h => List.mem_cons_of_mem _ h) (regs_post (fun _ h => List.mem_cons_of_mem _ (by simp [logRegs, h]))
    (onlyRegs_mono (by decide) regs_showPermit))

theorem evolves_refclkLoss_of_lossStopped : Evolves [.regs, .host, .flt] s.lossStopped s.refclkLoss := by
  rw [State.refclkLoss_eq]
  exact ev_log (by decide) (by decide) (by decide) (ev_post (by decide) (by decide) (ev_showPermit (by decide) (by decide)
    ev_refl))

/-! ## CLK_STAT (R82) -/

/-- What the loss writes into CLK_STAT, in its order; nothing else of it reaches the register. -/
theorem State.reg_refclkLoss_CLK_STAT : s.refclkLoss.reg CLK_STAT = ((((s.putB CLK_STAT_refclk false).bump CLK_STAT_ref_loss
    1).putB CLK_STAT_holdover true).putB CLK_STAT_tpll false).reg CLK_STAT := by
  have again : ∀ {u v : State} {f : FRef} {b : Bool}, f.addr = CLK_STAT → u.reg CLK_STAT = v.reg CLK_STAT →
      (u.putB f b).reg CLK_STAT = (v.putB f b).reg CLK_STAT := fun {u v f b} ha h => by
    rw [State.putB, State.putB, State.put, State.put, ha, State.reg_setReg_same, State.reg_setReg_same, h]
  have aborted : (s.lossNoted.abortEngine stREFCLK_LOST).reg CLK_STAT
      = ((s.putB CLK_STAT_refclk false).bump CLK_STAT_ref_loss 1).reg CLK_STAT :=
    (regs_abortEngine CLK_STAT (by decide)).trans ((ev_modClk (L := [.clk]) (by decide) ev_refl).1.reg (by decide) _)
  exact (regs_refclkLoss_of_lossStopped CLK_STAT (by decide)).trans ((regs_timingReset CLK_STAT (by decide)).trans
    (again rfl (again rfl aborted)))

theorem State.refclkLoss_clkStat : s.refclkLoss.flag CLK_STAT_refclk = false ∧ s.refclkLoss.flag CLK_STAT_tpll = false
    ∧ s.refclkLoss.flag CLK_STAT_holdover = true
    ∧ s.refclkLoss.rd CLK_STAT_ref_loss = min (s.rd CLK_STAT_ref_loss + 1) 255 := by
  rw [State.flag_congr (f := CLK_STAT_refclk) State.reg_refclkLoss_CLK_STAT, State.flag_congr (f := CLK_STAT_tpll)
    State.reg_refclkLoss_CLK_STAT, State.flag_congr (f := CLK_STAT_holdover) State.reg_refclkLoss_CLK_STAT, State.rd_congr
    (f := CLK_STAT_ref_loss) State.reg_refclkLoss_CLK_STAT]
  refine ⟨?refclk, State.flag_putB_same (by decide) rfl, ?holdover, ?count⟩
  case refclk =>
    rw [State.flag_putB_beside (by rfl), State.flag_putB_beside (by rfl), State.bump, State.flag_put_beside (by rfl)]
    exact State.flag_putB_same (by decide) rfl
  case holdover =>
    rw [State.flag_putB_beside (by rfl)]
    exact State.flag_putB_same (by decide) rfl
  case count =>
    rw [State.rd_putB_beside (by rfl), State.rd_putB_beside (by rfl), State.rd_bump_same (by decide), State.rd_putB_beside (by rfl)]
    rfl

/-! ## What the loss leaves (R82, R147, R149, R551, R647) -/

theorem State.refclkLoss_ready : s.refclkLoss.flag GLB_READY_tpll = false ∧ s.refclkLoss.reg GLB_READY_CRT = 0
    ∧ s.refclkLoss.flag GLB_READY_motor = false := by
  obtain ⟨tpll, crates, motor⟩ := State.timingReset_ready (s := s.lossHeld)
  exact ⟨(regs_refclkLoss_of_lossStopped.flag (by decide)).trans tpll, (regs_refclkLoss_of_lossStopped _ (by decide)).trans crates,
    (regs_refclkLoss_of_lossStopped.flag (by decide)).trans motor⟩

theorem State.engine_refclkLoss : s.refclkLoss.engine = 0 := by
  have outside : SHT_STATUS ∉ timingRegs := by decide
  have held : s.lossHeld.engine = (s.lossNoted.abortEngine stREFCLK_LOST).engine := State.rd_putB_apart (.inl (by decide))
  have stopped : s.lossStopped.engine = s.lossHeld.engine :=
    (regs_timingReset.rd outside).trans (State.rd_putB_apart (.inl (by decide)))
  exact (regs_refclkLoss_of_lossStopped.rd (by decide)).trans (stopped.trans (held.trans State.engine_abortEngine))

theorem State.earlyClose_refclkLoss : s.refclkLoss.clk.earlyClose = true := by
  have held : Evolves [.regs, .bank, .crates, .chans, .shot, .emits, .host] s.lossNoted s.lossHeld :=
    ev_putB (by decide) (ev_abortEngine (by decide) (by decide) (by decide) (by decide) (by decide) (by decide) (by decide) ev_refl)
  rw [evolves_refclkLoss_of_lossStopped.1 .clk (by decide), State.lossStopped, State.clk_timingReset, held.1 .clk (by decide)]
  rfl

/-- No emitter holds a shot, and no pulse is left. -/
theorem State.emit_refclkLoss (he : e < 32) :
    s.refclkLoss.emit e = { s.emit e with committed := false, pulse := none } := by
  have held : Evolves [.regs] (s.lossNoted.abortEngine stREFCLK_LOST) s.lossHeld := ev_putB (by decide) ev_refl
  have noted : Evolves [.regs, .clk] s s.lossNoted := ev_modClk (by decide) (ev_bump (by decide) (ev_putB (by decide) ev_refl))
  rw [evolves_refclkLoss_of_lossStopped.1.emit (by decide), State.lossStopped, State.emit_timingReset he,
    held.1.emit (by decide), State.emit_abortEngine he, noted.1.emit (by decide)]

theorem State.syncPulse_refclkLoss : s.refclkLoss.shot.syncPulse = none := by
  rw [evolves_refclkLoss_of_lossStopped.1 .shot (by decide)]
  exact State.syncPulse_timingReset

theorem State.cratePwr_timingStopped_lossHeld : s.lossHeld.timingStopped.cratePwr c = s.cratePwr c := by
  have high : ∀ a, a = CLK_CRT_PWR_LO ∨ a = CLK_CRT_PWR_HI → s.lossHeld.timingStopped.reg a = s.reg a := fun a ha => by
    have stopped := regs_timingStopped (s := s.lossHeld) a (by obtain rfl | rfl := ha <;> decide)
    have held := regs_lossHeld (s := s) a (by obtain rfl | rfl := ha <;> decide)
    exact stopped.trans ((State.reg_putB_ne (by obtain rfl | rfl := ha <;> decide)).trans held)
  refine State.rd_congr (high _ ?_)
  unfold cratePwrField
  split
  · exact .inl rfl
  · exact .inr rfl

/-- A crate in STARTING or STOPPING is OFF, its test tone at an end (R647). -/
theorem State.crate_refclkLoss (hc : c < 32) (h : s.cratePwr c = 1 ∨ s.cratePwr c = 3) : s.refclkLoss.cratePwr c = 0
    ∧ s.refclkLoss.flag (CRT_TONE_CTL_busy c) = false ∧ (s.refclkLoss.crate c).tone = none := by
  obtain ⟨pwr, busy, tone⟩ := State.cratesLost_shows (s := s.lossHeld.timingStopped) hc
    (by rw [State.cratePwr_timingStopped_lossHeld]; exact h)
  have reset : KeepsPower c _ s.lossStopped := keepsPower_timingReset (s := s.lossHeld) hc
  have low : ∀ b ∈ EYE_STAT :: logRegs, b < 0x10000 ∧ 0x1019 ≤ b := by decide
  refine ⟨?_, ?_, ?_⟩
  · refine (regs_refclkLoss_of_lossStopped.rd (fun hm => ?_)).trans (reset.pwr.trans pwr)
    have := (low _ hm).2
    have := cratePwrField_addr_lt (c := c)
    omega
  · refine (regs_refclkLoss_of_lossStopped.flag (fun hm => ?_)).trans (reset.busy.trans busy)
    have := (low _ hm).1
    simp only [CRT_TONE_CTL_busy, CRT_TONE_CTL] at this
    omega
  · rw [evolves_refclkLoss_of_lossStopped.1.crate (by decide)]
    exact reset.tone.trans tone

/-! ## The gates (R81) -/

/-- A gate of 245 to 255 edges is good. -/
def gateGood (n : Nat) : Bool := decide (245 ≤ n) && decide (n ≤ 255)

theorem gateGood_true (h0 : 245 ≤ n) (h1 : n ≤ 255) : gateGood n = true := by simp [gateGood, h0, h1]

theorem gateGood_false (h : n < 245 ∨ 255 < n) : gateGood n = false := by
  simp only [gateGood, Bool.and_eq_false_iff, decide_eq_false_iff_not]
  omega

theorem exec_refclkGateEnd (h : s.fabricLive = true) : exec (.refclkGateEnd n) s = .next (
    if s.flag CLK_STAT_refclk then
      if gateGood n then s.modClk (fun k => { k with badRun := 0 })
      else if 1 ≤ s.clk.badRun then s.refclkLoss
      else s.modClk (fun k => { k with badRun := 1 })
    else if !gateGood n then s.modClk (fun k => { k with goodRun := 0 })
    else if 24 ≤ s.clk.goodRun then s.refclkFound
    else s.modClk (fun k => { k with goodRun := k.goodRun + 1 })) := by
  simp only [exec, execRefclkGateEnd, h, doIf_true]
  rfl

theorem State.running_of_fabricLive (h : s.fabricLive = true) : s.running = true := by
  simp only [State.fabricLive, Bool.and_eq_true] at h
  exact h.1.1

/-- Settles O4: the gates' clauses are the branches of `exec_refclkGateEnd`, the loss is `State.refclkLoss` in both commands. -/
theorem refclkMonitors : Obligations.RefclkMonitors := by
  unfold Obligations.RefclkMonitors
  refine ⟨?counts, ?restarts, ?found, ?noted, ?lost, ?gateLost⟩
  case counts =>
    intro n s hl hr h0 h1 hg
    refine ⟨_, ?_, rfl, (ev_modClk (f := fun k => { k with goodRun := k.goodRun + 1 }) (by decide) ev_refl).1⟩
    rw [exec_refclkGateEnd hl, hr, gateGood_true h0 h1, if_neg Bool.false_ne_true, if_neg (by decide), if_neg (by omega)]
  case restarts =>
    intro n s hl hr hb
    refine ⟨_, ?_, rfl, (ev_modClk (f := fun k => { k with goodRun := 0 }) (by decide) ev_refl).1⟩
    rw [exec_refclkGateEnd hl, hr, gateGood_false hb, if_neg Bool.false_ne_true, Bool.not_false, if_pos rfl]
  case found =>
    intro n s hl hr h0 h1 hg he
    have hexec : exec (.refclkGateEnd n) s = .next ((s.putB CLK_STAT_refclk true).modClk (fun k => { k with
        goodRun := 0, badRun := 0, everPresent := true })) := by
      rw [exec_refclkGateEnd hl, hr, gateGood_true h0 h1, if_neg Bool.false_ne_true, if_neg (by decide), if_pos (by omega),
        State.refclkFound, he]
      rfl
    have kept : Evolves [.clk] (s.putB CLK_STAT_refclk true) ((s.putB CLK_STAT_refclk true).modClk (fun k => { k with
        goodRun := 0, badRun := 0, everPresent := true })) := ev_modClk (by decide) ev_refl
    exact ⟨_, hexec, (kept.1.flag (by decide) _).trans (State.flag_putB_same (by decide) rfl), rfl,
      regs_modClk (regs_putB (List.mem_singleton.2 rfl) onlyRegs_refl), rfl⟩
  case noted =>
    intro n s hl hr hb hg
    refine ⟨_, ?_, rfl, (ev_modClk (f := fun k => { k with badRun := 1 }) (by decide) ev_refl).1⟩
    rw [exec_refclkGateEnd hl, hr, gateGood_false hb, if_pos rfl, if_neg Bool.false_ne_true, if_neg (by omega)]
  case lost =>
    intro s hr hp
    obtain ⟨refclk, tpll, holdover, count⟩ := State.refclkLoss_clkStat (s := s)
    obtain ⟨ready, crates, motor⟩ := State.refclkLoss_ready (s := s)
    refine ⟨_, exec_refclkLost hr hp, refclk, tpll, ?_, crates, motor, State.engine_refclkLoss, State.earlyClose_refclkLoss,
      holdover, count, fun e he => ?_, State.syncPulse_refclkLoss, fun c hc h => State.crate_refclkLoss hc h⟩
    · simp [State.timingLive, ready]
    · rw [State.emit_refclkLoss he]
      exact ⟨rfl, rfl⟩
  case gateLost =>
    intro n s hl hr hb hg
    rw [exec_refclkGateEnd hl, exec_refclkLost (State.running_of_fabricLive hl) hr, hr, gateGood_false hb, if_pos rfl,
      if_neg Bool.false_ne_true, if_pos hg]

end Sys2Proof.Machine
end

section
/-! PROOFS. The laser permit's commands (spec/05 R194, R211, spec/03 R82, spec/04 R147): a change of the permit with the engine's return
from HOLD behind it, its withdrawal by a loss of REFCLK, and the obligation `Obligations.LaserPermit`. -/

namespace Sys2Proof.Machine

variable {s : State}

/-! ## A judgement of the permit (R151, R194) -/

/-- EYE_STAT follows the permit, and an engine in HOLD goes on with a permit that has come back. -/
def State.permitJudged (s : State) : State :=
  doIf (s.showPermit.engine == 3 && s.showPermit.permitNow) (fun t => t.resumeEngine) s.showPermit

theorem exec_laserPermitChange (h : s.timingLive = true) : exec .laserPermitChange s = .next s.permitJudged := by
  simp only [exec, execLaserPermitChange, h, doIf_true]
  rfl

theorem exec_laserPermitChange_stopped (h : s.timingLive = false) : exec .laserPermitChange s = .next s := by
  simp only [exec, execLaserPermitChange, h, doIf_false]

theorem State.permitJudged_of_not_held (h : s.engine ≠ 3) : s.permitJudged = s.showPermit := by
  have engine : s.showPermit.engine = s.engine := regs_showPermit.rd (by decide)
  rw [State.permitJudged, engine, beq_false_of_ne h, Bool.false_and, doIf_false]

theorem regs_permitJudged : OnlyRegs (SHT_HOLD :: (engineRegs ++ chargerRegs)) s.showPermit s.permitJudged :=
  regs_doIf (fun _ h => regs_resumeEngine (fun _ hb => hb) h) onlyRegs_refl

theorem evolves_permitJudged : Evolves [.regs, .shot, .chgs, .hk] s.showPermit s.permitJudged :=
  ev_doIf (fun _ h => ev_resumeEngine (by decide) (by decide) (by decide) (by decide) h) ev_refl

/-- The engine's return from HOLD leaves what EYE_STAT shows. -/
theorem State.permitJudged_shows : s.permitJudged.flag EYE_STAT_permit = s.permitNow
    ∧ s.permitJudged.rd EYE_STAT_cause = s.permitCause
    ∧ s.permitJudged.rd EYE_STAT_wd_ct = (if s.flag EYE_STAT_permit = true ∧ s.permitNow = false then
        min (s.rd EYE_STAT_wd_ct + 1) (2 ^ EYE_STAT_wd_ct.width - 1) else s.rd EYE_STAT_wd_ct) := by
  have outside : EYE_STAT ∉ SHT_HOLD :: (engineRegs ++ chargerRegs) := by decide
  rw [regs_permitJudged.flag outside, regs_permitJudged.rd outside, regs_permitJudged.rd outside]
  exact State.showPermit_shows

/-! ## Its withdrawal by a loss of REFCLK (R82) -/

/-- The loss of REFCLK reaches EYE_STAT by showing the permit alone. -/
theorem State.permit_refclkLoss : s.refclkLoss.flag EYE_STAT_permit = false
    ∧ s.refclkLoss.rd EYE_STAT_cause = s.lossStopped.permitCause
    ∧ s.refclkLoss.rd EYE_STAT_wd_ct = (if s.flag EYE_STAT_permit = true then
        min (s.rd EYE_STAT_wd_ct + 1) (2 ^ EYE_STAT_wd_ct.width - 1) else s.rd EYE_STAT_wd_ct) := by
  have reported : OnlyRegs logRegs s.lossStopped.showPermit s.refclkLoss :=
    regs_log (fun _ h => h) (regs_post (fun _ h => by simp [logRegs, h]) onlyRegs_refl)
  have outside : EYE_STAT ∉ lossRegs := by decide
  have withdrawn : s.lossStopped.permitNow = false := by
    have ready : s.lossStopped.flag GLB_READY_tpll = false := State.timingReset_ready.1
    refine Bool.eq_false_iff.2 (fun h => ?_)
    obtain ⟨-, -, -, -, -, -, tpll⟩ := State.permitNow_iff.1 h
    rw [ready] at tpll
    cases tpll
  obtain ⟨permit, cause, count⟩ := State.showPermit_shows (s := s.lossStopped)
  rw [regs_lossStopped.flag outside, regs_lossStopped.rd outside, withdrawn] at count
  exact ⟨(reported.flag (by decide)).trans (permit.trans withdrawn), (reported.rd (by decide)).trans cause,
    (reported.rd (by decide)).trans (by simpa using count)⟩

/-- Settles O20: the permit and its cause are those of `State.permitNow_iff` and `State.permitCause_bits`, shown by
`State.showPermit`; a firing and a loss of REFCLK are those of O18 and O4. -/
theorem laserPermit : Obligations.LaserPermit := by
  unfold Obligations.LaserPermit
  refine ⟨?judged, ?fires, ?stopped, ?reads, ?lost⟩
  case judged =>
    intro s hl
    obtain ⟨permit, cause, count⟩ := State.permitJudged_shows (s := s)
    obtain ⟨-, refclk, lock, speed, laser, windows, bins, tpll⟩ := State.permitCause_bits (s := s)
    refine ⟨s.permitJudged, s.windowsIn, exec_laserPermitChange hl, Iff.rfl, ?_, permit, ?_, ?_, ?_, ?_, ?_, ?_, ?_, ?_, ?_, ?_,
      ?_, ?_⟩
    · rw [permit]
      exact State.permitNow_iff
    · rw [cause, refclk, Bool.not_eq_true']
    · rw [cause, lock, Bool.not_eq_true', beq_eq_false_iff_ne]
    · rw [cause, speed, Bool.not_eq_true', ← Bool.not_eq_true, State.speedPermit_iff]
      rfl
    · rw [cause, laser, Bool.not_eq_true', ← Bool.not_eq_true, Bool.and_eq_true]
    · rw [cause, windows, Bool.not_eq_true', ← Bool.not_eq_true, State.windowPermit_iff]
    · rw [cause, bins, Bool.not_not]
    · rw [cause, tpll, Bool.not_eq_true']
    · rw [count, permit]
    · intro hc hf
      rw [permit] at hc ⊢
      rw [cause]
      exact (posted_showPermit hc hf).before evolves_permitJudged.1 (by decide)
    · intro hc
      rw [permit] at hc
      rw [evolves_permitJudged.1 .host (by decide), State.showPermit_same hc]
      exact evolves_permitShown.1 .host (by decide)
    · intro he _
      rw [State.permitJudged_of_not_held he]
      exact regs_showPermit
    · intro he hc
      rw [permit] at hc
      rw [State.permitJudged_of_not_held he, State.showPermit_same hc]
      exact ⟨regs_permitShown, evolves_permitShown.1⟩
  case fires =>
    intro e s hl hc hst _
    refine ⟨_, _, exec_emitterFire hl hc hst, rfl, State.rd_fired, ?_, fun x hg h0 h1 => State.triggerActive_fired hg h0 h1⟩
    rw [State.emit_fired]
    rfl
  case stopped =>
    intro s hl
    exact exec_laserPermitChange_stopped hl
  case reads =>
    intro q s hl
    rw [State.live_EYE_STAT hl, FRef.get_set_same (by decide), FRef.get_set_apart (by decide), FRef.get_set_same (by decide)]
    refine ⟨?_, Nat.mod_eq_of_lt State.permitCause_bits.1⟩
    cases s.permitNow <;> decide
  case lost =>
    intro s hr hp
    obtain ⟨permit, cause, count⟩ := State.permit_refclkLoss (s := s)
    obtain ⟨-, refclk, -, -, -, -, -, tpll⟩ := State.permitCause_bits (s := s.lossStopped)
    have gone : s.lossStopped.flag CLK_STAT_refclk = false :=
      (regs_refclkLoss_of_lossStopped.flag (by decide)).symm.trans State.refclkLoss_clkStat.1
    have ready : s.lossStopped.flag GLB_READY_tpll = false := State.timingReset_ready.1
    refine ⟨_, exec_refclkLost hr hp, permit, ?_, ?_, count⟩
    · rw [cause, refclk, gone]
      rfl
    · rw [cause, tpll, ready]
      rfl

end Sys2Proof.Machine
end

section
/-! PROOFS. Round and sweep boundaries (spec/04 R132, R149, R154, spec/06 R235, spec/10 R433, R434, spec/12 R511): a bank swap that
takes place, the entries that give way to it or follow it, what the sync pulse and the end of a zone sweep write, and the obligation
`Obligations.Boundaries`. -/

namespace Sys2Proof.Machine

variable {s t : State} {w : Swap}

/-! ## What the engine's parts depend on -/

theorem State.timingLive_congr (hc : t.clk = s.clk) (hr : t.reg GLB_READY = s.reg GLB_READY) : t.timingLive = s.timingLive := by
  have ready : t.flag GLB_READY_tpll = s.flag GLB_READY_tpll := State.flag_congr hr
  unfold State.timingLive State.running
  rw [hc, ready]

theorem State.nowLsb_congr (hc : t.clk = s.clk) : t.nowLsb = s.nowLsb := by
  unfold State.nowLsb
  rw [hc]

theorem State.noEntry_congr (hr : t.shot.run = s.shot.run) : t.noEntry = s.noEntry := by
  unfold State.noEntry
  rw [hr]

theorem State.noEntry_of_run_none (hr : s.shot.run = none) : s.noEntry = true := by
  simp [State.noEntry, hr]

theorem State.noEntry_of_run_some {r : Run} (hr : s.shot.run = some r) : s.noEntry = (r.committed == 0) := by
  simp [State.noEntry, hr]

theorem State.stagedBank_congr (hf : t.flag SHT_STATUS_act_bank = s.flag SHT_STATUS_act_bank)
    (h0 : t.shot.bank0 = s.shot.bank0) (h1 : t.shot.bank1 = s.shot.bank1) : t.stagedBank = s.stagedBank := by
  unfold State.stagedBank
  rw [hf, h0, h1]

/-- With the banks exchanged the staged bank is the active one (R126, R154). -/
theorem State.activeBank_exchanged (hf : t.flag SHT_STATUS_act_bank = !s.flag SHT_STATUS_act_bank)
    (h0 : t.shot.bank0 = s.shot.bank0) (h1 : t.shot.bank1 = s.shot.bank1) : t.activeBank = s.stagedBank := by
  unfold State.activeBank State.stagedBank
  rw [hf, h0, h1]
  cases s.flag SHT_STATUS_act_bank <;> rfl

/-- Showing the shot leaves which bank is the active one. -/
theorem State.actBank_showShot : s.showShot.flag SHT_STATUS_act_bank = s.flag SHT_STATUS_act_bank := by
  have shown : ∀ (i m n : Nat) (a b : Bool), (((((s.put SHT_STATUS_entry i).putB SHT_STATUS_swap_pend a).putB
      SHT_STATUS_swap_at_rnd b).put SHT_BANK_LEN_act_len m).put SHT_BANK_LEN_stg_len n).flag SHT_STATUS_act_bank
        = s.flag SHT_STATUS_act_bank := fun _ _ _ _ _ => by
    rw [State.flag_put_apart (.inl (by decide)), State.flag_put_apart (.inl (by decide)), State.flag_putB_beside (by rfl),
      State.flag_putB_beside (by rfl), State.flag_put_beside (by rfl)]
  refine doIf_induction (P := fun v => v.flag SHT_STATUS_act_bank = s.flag SHT_STATUS_act_bank) rfl (fun _ => ?_)
  dsimp only
  split
  · exact shown ..
  · exact (State.flag_put_apart (.inl (by decide))).trans (shown ..)

theorem State.actBank_setEngine {n : Nat} : (s.setEngine n).flag SHT_STATUS_act_bank = s.flag SHT_STATUS_act_bank :=
  State.actBank_showShot.trans (State.flag_put_beside (by rfl))

theorem State.rd_wrapInc_same {f : FRef} (hf : f.fits) : (s.wrapInc f).rd f = (s.rd f + 1) % 2 ^ f.width := by
  rw [State.wrapInc, State.rd_put_same hf, Nat.mod_mod]

/-! ## The swap takes place (R154, R155, R435) -/

/-- The banks exchanged and the epoch counted, the load not yet completed. -/
def State.banksExchanged (s : State) : State :=
  (((s.putB SHT_STATUS_act_bank (!s.flag SHT_STATUS_act_bank)).modShot (fun h => { h with swap := none })).showShot
    ).bumpEpoch 3 0 0 0

theorem evolves_doSwap_of_banksExchanged (hw : s.shot.swap = some w) : Evolves [.host] s.banksExchanged s.doSwap := by
  unfold State.doSwap
  rw [hw]
  dsimp only
  split
  · exact ev_refl
  · exact ev_complete (by decide) ev_refl

theorem evolves_banksExchanged : Evolves [.regs, .shot, .host] s s.banksExchanged :=
  ev_bumpEpoch (by decide) (by decide) (ev_showShot (by decide) (ev_modShot (by decide) (ev_putB (by decide) ev_refl)))

theorem State.shot_banksExchanged : s.banksExchanged.shot = { s.shot with swap := none } := by
  have counted : Evolves [.regs, .host] ((s.putB SHT_STATUS_act_bank (!s.flag SHT_STATUS_act_bank)).modShot
      (fun h => { h with swap := none })) s.banksExchanged :=
    ev_bumpEpoch (by decide) (by decide) (ev_showShot (by decide) ev_refl)
  exact counted.1 .shot (by decide)

theorem regs_bumpEpoch {cause tag ring writes : Nat} :
    OnlyRegs (GLB_EPOCH :: eventRegs) s (s.bumpEpoch cause tag ring writes) :=
  regs_post (fun _ h => List.mem_cons_of_mem _ h) (regs_wrapInc (List.mem_cons_self ..) onlyRegs_refl)

theorem State.epoch_bumpEpoch {cause tag ring writes : Nat} : (s.bumpEpoch cause tag ring writes).rd GLB_EPOCH_epoch
    = (s.rd GLB_EPOCH_epoch + 1) % 2 ^ GLB_EPOCH_epoch.width :=
  (rd_post (by decide)).trans (State.rd_wrapInc_same (by decide))

/-- The exchange makes the other bank the active one, and shows the next epoch. -/
theorem State.banksExchanged_shows : s.banksExchanged.flag SHT_STATUS_act_bank = !s.flag SHT_STATUS_act_bank
    ∧ s.banksExchanged.rd GLB_EPOCH_epoch = (s.rd GLB_EPOCH_epoch + 1) % 2 ^ GLB_EPOCH_epoch.width := by
  have shown : OnlyRegs engineRegs s ((s.putB SHT_STATUS_act_bank (!s.flag SHT_STATUS_act_bank)).modShot
      (fun h => { h with swap := none })).showShot :=
    regs_showShot (fun _ h => h) (regs_modShot (regs_putB (by decide) onlyRegs_refl))
  constructor
  · exact (regs_bumpEpoch.flag (by decide)).trans (State.actBank_showShot.trans (State.flag_putB_same (by decide) rfl))
  · rw [State.banksExchanged, State.epoch_bumpEpoch, shown.rd (by decide)]

/-- A swap that fell due takes place where no entry runs and no snapshot waits (R434, R435, R442). -/
theorem State.dueSwap_takes (hl : s.timingLive = true) (hs : s.host.snaps = []) (hn : s.noEntry = true)
    (hw : s.shot.swap = some w) (hd : w.due = true) :
    s.dueSwap = doIf (s.engine == 1) (fun t => t.chainNow) s.doSwap := by
  simp only [State.dueSwap, hl, hs, hn, hw, hd, List.isEmpty_nil, Option.any_some, Bool.and_self, doIf_true]

theorem State.dueSwap_waits (hn : s.noEntry = false) : s.dueSwap = s := by
  simp only [State.dueSwap, hn, Bool.and_false, Bool.false_and, doIf_false]

/-! ## A swap at its round boundary (R153, R154) -/

/-- An engine that runs has a swap pending that waits for the round or for the next boundary. -/
structure State.SwapWaits (s : State) (w : Swap) (round : BitVec 16) : Prop where
  busy : s.engine ≠ 0
  swap : s.shot.swap = some w
  pending : w.due = false
  atRound : w.atRound = none ∨ w.atRound = some round

/-- The swap due, and entry 0 next: an entry without a commit is dropped. -/
def State.swapMarked (s : State) : State :=
  s.dropStarted.modShot (fun h => { h with
    swap := h.swap.map (fun w => { w with due := true }), next := 0, resumeAt := none, delayDue := false })

/-- The swap has taken place. -/
def State.swapTaken (s : State) : State := s.swapMarked.doSwap

theorem State.swapAtRound_of_waits (h : s.SwapWaits w (BitVec.ofNat 16 (s.rd MOT_ROUND_round))) :
    s.swapAtRound = s.swapMarked.dueSwap.showShot.holdNext := by
  have busy : s.engineIdle = false := beq_false_of_ne h.busy
  obtain soon | round := h.atRound
  · simp only [State.swapAtRound, busy, h.swap, h.pending, soon, Option.any_some, Bool.not_false, Bool.and_self, doIf_true]
    rfl
  · simp only [State.swapAtRound, busy, h.swap, h.pending, round, Option.any_some, Bool.not_false, decide_true, Bool.and_self,
      doIf_true]
    rfl

theorem State.swapAtRound_of_none (h : s.shot.swap = none) : s.swapAtRound = s := by
  simp only [State.swapAtRound, h, Option.any_none, Bool.and_false, doIf_false]

theorem State.dropStarted_of_not_started (h : s.shot.run.any (fun r => r.committed == 0) = false) : s.dropStarted = s := by
  rw [State.dropStarted, h, doIf_false]

theorem evolves_dropStarted : Evolves [.regs, .shot] s s.dropStarted := ev_dropStarted (by decide) (by decide) ev_refl

theorem regs_dropStarted : OnlyRegs engineRegs s s.dropStarted :=
  regs_doIf (fun _ h => regs_setEngine (fun _ hb => hb) (regs_modShot h)) onlyRegs_refl

theorem State.actBank_dropStarted : s.dropStarted.flag SHT_STATUS_act_bank = s.flag SHT_STATUS_act_bank :=
  doIf_induction (P := fun v => v.flag SHT_STATUS_act_bank = s.flag SHT_STATUS_act_bank) rfl
    (fun _ => State.actBank_setEngine)

/-- Where no entry runs, none is left that has started. -/
theorem State.shot_dropStarted (hn : s.noEntry = true) : s.dropStarted.shot = { s.shot with run := none } := by
  cases hr : s.shot.run with
  | none =>
    rw [State.dropStarted_of_not_started (by rw [hr]; rfl), ← hr]
  | some r =>
    have started : (r.committed == 0) = true := (State.noEntry_of_run_some hr).symm.trans hn
    have dropped : Evolves [.regs] (s.modShot (fun h => { h with run := none })) s.dropStarted := by
      rw [State.dropStarted, hr, Option.any_some, started, doIf_true]
      exact ev_setEngine (by decide) ev_refl
    exact dropped.1 .shot (by decide)

theorem evolves_swapMarked : Evolves [.regs, .shot] s s.swapMarked := ev_modShot (by decide) evolves_dropStarted

theorem regs_swapMarked : OnlyRegs engineRegs s s.swapMarked := regs_modShot regs_dropStarted

theorem State.shot_swapMarked (hn : s.noEntry = true) (hw : s.shot.swap = some w) : s.swapMarked.shot = { s.shot with
    run := none, swap := some { w with due := true }, next := 0, resumeAt := none, delayDue := false } := by
  rw [State.swapMarked, State.modShot, State.shot_dropStarted hn]
  dsimp only
  rw [hw]
  rfl

theorem State.actBank_swapMarked : s.swapMarked.flag SHT_STATUS_act_bank = s.flag SHT_STATUS_act_bank :=
  State.actBank_dropStarted

/-- An entry that has committed a repeat runs on, and the swap waits for its end (R154). -/
theorem State.swapMarked_of_running {r : Run} (hr : s.shot.run = some r) (hc : 0 < r.committed) :
    s.swapMarked.dueSwap = s.swapMarked ∧ s.swapMarked.shot = { s.shot with
      swap := s.shot.swap.map (fun w => { w with due := true }), next := 0, resumeAt := none, delayDue := false } := by
  have running : (r.committed == 0) = false := beq_false_of_ne (Nat.ne_of_gt hc)
  have shot : s.swapMarked.shot = { s.shot with
      swap := s.shot.swap.map (fun w => { w with due := true }), next := 0, resumeAt := none, delayDue := false } := by
    rw [State.swapMarked, State.dropStarted_of_not_started (by rw [hr]; exact running)]
    rfl
  refine ⟨State.dueSwap_waits ?_, shot⟩
  rw [State.noEntry_of_run_some (r := r) (by rw [shot, hr]), running]

section
variable (hn : s.noEntry = true) (hw : s.shot.swap = some w)
include hn hw

theorem evolves_swapTaken_of_banksExchanged : Evolves [.host] s.swapMarked.banksExchanged s.swapTaken :=
  evolves_doSwap_of_banksExchanged (by rw [State.shot_swapMarked hn hw])

theorem State.shot_swapTaken : s.swapTaken.shot
    = { s.shot with run := none, swap := none, next := 0, resumeAt := none, delayDue := false } := by
  rw [(evolves_swapTaken_of_banksExchanged hn hw).1 .shot (by decide), State.shot_banksExchanged, State.shot_swapMarked hn hw]

theorem State.actBank_swapTaken : s.swapTaken.flag SHT_STATUS_act_bank = !s.flag SHT_STATUS_act_bank := by
  rw [(evolves_swapTaken_of_banksExchanged hn hw).1.flag (by decide), State.banksExchanged_shows.1, State.actBank_swapMarked]

theorem State.epoch_swapTaken : s.swapTaken.rd GLB_EPOCH_epoch
    = (s.rd GLB_EPOCH_epoch + 1) % 2 ^ GLB_EPOCH_epoch.width := by
  rw [(evolves_swapTaken_of_banksExchanged hn hw).1.rd (by decide), State.banksExchanged_shows.2, regs_swapMarked.rd (by decide)]

theorem State.clk_swapTaken : s.swapTaken.clk = s.clk :=
  (ev_trans (ev_mono evolves_swapMarked (by decide)) (ev_trans evolves_banksExchanged
    (ev_mono (evolves_swapTaken_of_banksExchanged hn hw) (by decide)))).1 .clk (by decide)

/-- Entry 0 of the staged bank is the next one (R154). -/
theorem State.nextEntry_swapTaken : s.swapTaken.nextEntry = s.stagedBank[0]? := by
  have shot := State.shot_swapTaken hn hw
  have bank : s.swapTaken.activeBank = s.stagedBank :=
    State.activeBank_exchanged (State.actBank_swapTaken hn hw) (by rw [shot]) (by rw [shot])
  rw [State.nextEntry, State.nextBank, bank, shot]
  rfl

end

/-- An engine with no entry started keeps its state. -/
theorem State.engine_swapMarked (hr : s.shot.run = none) : s.swapMarked.engine = s.engine := by
  rw [State.swapMarked, State.dropStarted_of_not_started (by rw [hr]; rfl)]
  rfl

/-! ## What follows the swap (R132, R154) -/

/-- A due swap at its boundary, with no entry running and no snapshot waiting. -/
theorem State.swapMarked_dueSwap (hl : s.timingLive = true) (hs : s.host.snaps = []) (hn : s.noEntry = true)
    (hw : s.shot.swap = some w) :
    s.swapMarked.dueSwap = doIf (s.swapMarked.engine == 1) (fun t => t.chainNow) s.swapTaken := by
  have live : s.swapMarked.timingLive = true :=
    (State.timingLive_congr (evolves_swapMarked.1 .clk (by decide)) (regs_swapMarked _ (by decide))).trans hl
  have shot := State.shot_swapMarked hn hw
  refine State.dueSwap_takes (w := { w with due := true }) live ?_ (State.noEntry_of_run_none ?_) ?_ rfl
  · rw [evolves_swapMarked.1 .host (by decide), hs]
  · rw [shot]
  · rw [shot]

theorem State.chainNow_of_no_chain (h : s.nextEntry.all (fun e => e.trig != 2) = true) : s.chainNow = s := by
  have no : s.nextEntry.any (fun e => e.trig == 2) = false := by
    revert h
    cases s.nextEntry <;> simp
  rw [State.chainNow, no, Bool.and_false, doIf_false]

theorem State.chainNow_of_chain {e : Entry} (hr : s.shot.run = none) (h : s.nextEntry = some e) (ht : e.trig = 2) :
    s.chainNow = s.startEntry s.nowLsb := by
  simp only [State.chainNow, hr, h, ht, Option.isNone_none, Option.any_some, beq_self_eq_true, Bool.and_self, doIf_true]

/-- A CHAIN entry 0 does not start with the swap: the engine is not in WAIT, or the new bank does not begin with one. -/
theorem State.dueSwap_swapMarked_of_no_chain (hl : s.timingLive = true) (hs : s.host.snaps = []) (hn : s.noEntry = true)
    (hw : s.shot.swap = some w) (hc : s.swapMarked.engine = 1 → (s.stagedBank[0]?).all (fun e => e.trig != 2) = true) :
    s.swapMarked.dueSwap = s.swapTaken := by
  rw [State.swapMarked_dueSwap hl hs hn hw]
  by_cases wait : s.swapMarked.engine = 1
  · rw [beq_iff_eq.2 wait, doIf_true, State.chainNow_of_no_chain (by rw [State.nextEntry_swapTaken hn hw]; exact hc wait)]
  · rw [beq_false_of_ne wait, doIf_false]

/-- A CHAIN entry 0 starts with the swap in an engine that waits (R132). -/
theorem State.dueSwap_swapMarked_of_chain {e : Entry} (hl : s.timingLive = true) (hs : s.host.snaps = [])
    (he : s.engine = 1) (hr : s.shot.run = none) (hw : s.shot.swap = some w) (h0 : s.stagedBank[0]? = some e)
    (ht : e.trig = 2) : s.swapMarked.dueSwap = s.swapTaken.startEntry s.nowLsb := by
  have hn := State.noEntry_of_run_none hr
  have wait : (s.swapMarked.engine == 1) = true := by rw [State.engine_swapMarked hr, he]; rfl
  rw [State.swapMarked_dueSwap hl hs hn hw, wait, doIf_true, State.chainNow_of_chain (e := e) (by rw [State.shot_swapTaken hn hw])
    ((State.nextEntry_swapTaken hn hw).trans h0) ht, State.nowLsb_congr (State.clk_swapTaken hn hw)]

/-- The entry that starts: the next one, at the instant, with no repeat committed. -/
theorem State.startEntry_shows {e : Entry} {n : Nat} (h : s.nextEntry = some e) :
    (s.startEntry n).shot.run = some ⟨s.shot.next, e, n, 0, 0, 0, 0, 0, 0, n, [], false⟩
    ∧ (s.startEntry n).shot.swap = s.shot.swap ∧ (s.startEntry n).engine = 2
    ∧ (s.startEntry n).flag SHT_STATUS_act_bank = s.flag SHT_STATUS_act_bank := by
  have shown : ∀ f : Shot → Shot, ((s.modShot f).setEngine 2).shot = f s.shot := fun f =>
    (ev_setEngine (L := [.regs]) (s := s.modShot f) (by decide) ev_refl).1 .shot (by decide)
  unfold State.startEntry
  rw [h]
  dsimp only
  rw [shown]
  exact ⟨rfl, rfl, State.engine_setEngine (by decide), State.actBank_setEngine⟩

/-! ## Sync pulses and sweeps (R149, R511) -/

/-- A sync pulse from an instant on. -/
def Shot.pulsed (h : Shot) (now pw : Nat) : Shot :=
  { h with syncPulses := h.syncPulses + 1, syncPulse := some (now, now + lsbCoarse * pw) }

/-- The engine without its sync pulses. -/
def Shot.unsynced (h : Shot) : Shot := { h with syncPulses := 0, syncPulse := none }

theorem State.shot_syncPulse {mode : Nat} : (s.syncPulse mode).shot
    = if s.rd SHT_SYNC_mode = mode then s.shot.pulsed s.nowLsb (s.rd SHT_SYNC_pw) else s.shot := by
  by_cases h : s.rd SHT_SYNC_mode = mode
  · rw [if_pos h, State.syncPulse, beq_iff_eq.2 h]
    rfl
  · rw [if_neg h, State.syncPulse, beq_false_of_ne h]
    rfl

theorem evolves_syncPulse {mode : Nat} : Evolves [.shot] s (s.syncPulse mode) := ev_syncPulse (by decide) ev_refl

theorem State.unsynced_syncPulse {mode : Nat} : (s.syncPulse mode).shot.unsynced = s.shot.unsynced := by
  rw [State.shot_syncPulse]
  split <;> rfl

theorem evolves_sweepBoundary : Evolves [.shot, .motor, .saf] s s.sweepBoundary :=
  ev_sweepBoundary (by decide) (by decide) (by decide) ev_refl

/-- A sweep boundary ends a zone sweep and begins the next (R511). -/
theorem State.sweepBoundary_shows :
    s.sweepBoundary.saf = { s.saf with closing := s.saf.closing ++ [s.saf.sweepSeq], sweepSeq := (s.saf.sweepSeq + 1) % 256 }
    ∧ s.sweepBoundary.motor = { s.motor with sweepTick := some s.clk.tick }
    ∧ s.sweepBoundary.shot = (s.syncPulse 2).shot := by
  have pulsed : Evolves [.shot] (s.modMotor (fun m => { m with sweepTick := some s.clk.tick }))
      ((s.modMotor (fun m => { m with sweepTick := some s.clk.tick })).syncPulse 2) := evolves_syncPulse
  refine ⟨?saf, pulsed.1 .motor (by decide), ?shot⟩
  case saf =>
    have saf : ((s.modMotor (fun m => { m with sweepTick := some s.clk.tick })).syncPulse 2).saf = s.saf :=
      pulsed.1 .saf (by decide)
    rw [State.sweepBoundary, State.modSaf, saf]
  case shot =>
    have shot : s.sweepBoundary.shot = ((s.modMotor (fun m => { m with sweepTick := some s.clk.tick })).syncPulse 2).shot := rfl
    rw [shot, State.shot_syncPulse, State.shot_syncPulse]
    rfl

/-! ## A round boundary (R154, R235, R433) -/

/-- The round counted, and the pass noted. -/
def State.roundCounted (s : State) : State :=
  (s.wrapInc MOT_ROUND_round).modMotor (fun m => { m with passTick := some s.clk.tick })

/-- A round boundary before its swap: the sync pulse of a round is placed too. -/
def State.roundTurned (s : State) : State := s.roundCounted.syncPulse 1

theorem State.roundBoundary_eq : s.roundBoundary = doIf (decide (s.motor.sweepTick ≠ some s.clk.tick))
    (fun t => t.sweepBoundary) s.roundTurned.swapAtRound.txnsAtRound := rfl

theorem exec_roundBoundary (h : s.roundDue = true) : exec .roundBoundary s = .next s.roundBoundary := by
  simp only [exec, execRoundBoundary, h, doIf_true]

theorem exec_sweepBoundary (h : s.sweepDue = true) : exec .sweepBoundary s = .next s.sweepBoundary := by
  simp only [exec, execSweepBoundary, h, doIf_true]

theorem State.timingLive_of_roundDue (h : s.roundDue = true) : s.timingLive = true := by
  simp only [State.roundDue, Bool.and_eq_true] at h
  exact h.1.1

theorem evolves_roundTurned : Evolves [.regs, .shot, .motor] s s.roundTurned :=
  ev_syncPulse (by decide) (ev_modMotor (by decide) (ev_wrapInc (by decide) ev_refl))

theorem regs_roundCounted : OnlyRegs [MOT_ROUND] s s.roundCounted :=
  regs_modMotor (regs_wrapInc (List.mem_singleton.2 rfl) onlyRegs_refl)

theorem regs_roundTurned : OnlyRegs [MOT_ROUND] s s.roundTurned :=
  onlyRegs_trans regs_roundCounted (evolves_syncPulse.1.onlyRegs (by decide))

theorem State.round_roundTurned :
    s.roundTurned.rd MOT_ROUND_round = (s.rd MOT_ROUND_round + 1) % 2 ^ MOT_ROUND_round.width :=
  (evolves_syncPulse.1.rd (by decide) _).trans (State.rd_wrapInc_same (by decide))

theorem State.unsynced_roundTurned : s.roundTurned.shot.unsynced = s.shot.unsynced := State.unsynced_syncPulse

theorem State.engine_roundTurned : s.roundTurned.engine = s.engine := regs_roundTurned.rd (by decide)

theorem State.run_roundTurned : s.roundTurned.shot.run = s.shot.run := (congrArg Shot.run State.unsynced_roundTurned :)

theorem State.swap_roundTurned : s.roundTurned.shot.swap = s.shot.swap := (congrArg Shot.swap State.unsynced_roundTurned :)

theorem State.noEntry_roundTurned : s.roundTurned.noEntry = s.noEntry :=
  State.noEntry_congr State.run_roundTurned

theorem State.stagedBank_roundTurned : s.roundTurned.stagedBank = s.stagedBank :=
  State.stagedBank_congr (regs_roundTurned.flag (by decide)) (congrArg Shot.bank0 State.unsynced_roundTurned :)
    (congrArg Shot.bank1 State.unsynced_roundTurned :)

theorem State.timingLive_roundTurned : s.roundTurned.timingLive = s.timingLive :=
  State.timingLive_congr (evolves_roundTurned.1 .clk (by decide)) (regs_roundTurned _ (by decide))

theorem State.snaps_roundTurned : s.roundTurned.host.snaps = s.host.snaps :=
  congrArg HostIf.snaps (evolves_roundTurned.1 .host (by decide))

theorem State.motor_roundTurned : s.roundTurned.motor = { s.motor with passTick := some s.clk.tick } :=
  evolves_syncPulse.1 .motor (by decide)

theorem State.shot_roundTurned : s.roundTurned.shot
    = if s.rd SHT_SYNC_mode = 1 then s.shot.pulsed s.nowLsb (s.rd SHT_SYNC_pw) else s.shot := by
  rw [State.roundTurned, State.shot_syncPulse, regs_roundCounted.rd (by decide), regs_roundCounted.rd (by decide)]
  rfl

theorem evolves_txnsAtRound : Evolves [.host] s s.txnsAtRound := ev_txnsAtRound (by decide) ev_refl

/-- After its swap a round boundary writes no register. -/
theorem evolves_roundBoundary_of_swapAtRound :
    Evolves [.shot, .motor, .host, .saf] s.roundTurned.swapAtRound s.roundBoundary :=
  ev_doIf (fun _ h => ev_sweepBoundary (by decide) (by decide) (by decide) h) (ev_mono evolves_txnsAtRound (by decide))

/-- After its swap a round boundary writes nothing of the engine but its sync pulses. -/
theorem State.unsynced_roundBoundary : s.roundBoundary.shot.unsynced = s.roundTurned.swapAtRound.shot.unsynced := by
  have kept : s.roundTurned.swapAtRound.txnsAtRound.shot = s.roundTurned.swapAtRound.shot :=
    evolves_txnsAtRound.1 .shot (by decide)
  rw [State.roundBoundary_eq]
  refine doIf_induction (P := fun v => v.shot.unsynced = s.roundTurned.swapAtRound.shot.unsynced) (by rw [kept]) (fun h => ?_)
  rw [State.sweepBoundary_shows.2.2, State.unsynced_syncPulse, h]

/-- A swap that waits for the next round waits for the round once it is counted. -/
theorem State.SwapWaits.roundTurned (h : s.SwapWaits w (BitVec.ofNat 16 (s.rd MOT_ROUND_round + 1))) :
    s.roundTurned.SwapWaits w (BitVec.ofNat 16 (s.roundTurned.rd MOT_ROUND_round)) where
  busy := by
    rw [State.engine_roundTurned]
    exact h.busy
  swap := State.swap_roundTurned.trans h.swap
  pending := h.pending
  atRound := by
    have round : BitVec.ofNat 16 (s.roundTurned.rd MOT_ROUND_round) = BitVec.ofNat 16 (s.rd MOT_ROUND_round + 1) := by
      rw [State.round_roundTurned]
      exact BitVec.eq_of_toNat_eq (by simp [MOT_ROUND_round])
    rw [round]
    exact h.atRound

/-- What a round boundary leaves of the engine where its swap leads to x: showing the shot and loading targets changes nothing
of what x holds. -/
theorem State.roundBoundary_shows {x : State} (h : s.SwapWaits w (BitVec.ofNat 16 (s.rd MOT_ROUND_round + 1)))
    (hx : s.roundTurned.swapMarked.dueSwap = x) : s.roundBoundary.shot.unsynced = x.shot.unsynced
    ∧ s.roundBoundary.flag SHT_STATUS_act_bank = x.flag SHT_STATUS_act_bank ∧ s.roundBoundary.engine = x.engine
    ∧ s.roundBoundary.rd GLB_EPOCH_epoch = x.rd GLB_EPOCH_epoch := by
  have taken : s.roundTurned.swapAtRound = x.showShot.holdNext := by rw [State.swapAtRound_of_waits h.roundTurned, hx]
  have shown : Evolves [.regs, .chgs, .hk] x s.roundTurned.swapAtRound := by
    rw [taken]
    exact ev_holdNext (by decide) (by decide) (by decide) (ev_showShot (by decide) ev_refl)
  have held : OnlyRegs chargerRegs x.showShot s.roundTurned.swapAtRound := by
    rw [taken]
    exact regs_holdNext (fun _ hb => hb) onlyRegs_refl
  have after := evolves_roundBoundary_of_swapAtRound (s := s)
  refine ⟨?_, ?_, ?_, ?_⟩
  · rw [State.unsynced_roundBoundary, shown.1 .shot (by decide)]
  · exact (after.1.flag (by decide) _).trans ((held.flag (by decide)).trans State.actBank_showShot)
  · exact (after.1.rd (by decide) _).trans ((held.rd (by decide)).trans State.engine_showShot)
  · exact (after.1.rd (by decide) _).trans ((held.rd (by decide)).trans
      ((regs_showShot (fun _ hb => hb) onlyRegs_refl).rd (by decide)))

/-! ## The boundaries without a swap, and with one -/

theorem State.roundBoundary_of_no_swap (hs : s.motor.sweepTick ≠ some s.clk.tick) (hw : s.shot.swap = none) :
    s.roundBoundary = s.roundTurned.txnsAtRound.sweepBoundary := by
  have idle : s.roundTurned.shot.swap = none := State.swap_roundTurned.trans hw
  rw [State.roundBoundary_eq, decide_eq_true hs, doIf_true, State.swapAtRound_of_none idle]

/-- One sync pulse, whether it is that of a round or that of a sweep (R149). -/
theorem State.shot_roundBoundary_of_no_swap (hs : s.motor.sweepTick ≠ some s.clk.tick) (hw : s.shot.swap = none) :
    s.roundBoundary.shot = if s.rd SHT_SYNC_mode = 1 ∨ s.rd SHT_SYNC_mode = 2
      then s.shot.pulsed s.nowLsb (s.rd SHT_SYNC_pw) else s.shot := by
  have waited : Evolves [.host] s.roundTurned s.roundTurned.txnsAtRound := evolves_txnsAtRound
  have now : s.roundTurned.txnsAtRound.nowLsb = s.nowLsb := State.nowLsb_congr
    ((waited.1 .clk (by decide)).trans (evolves_roundTurned.1 .clk (by decide)))
  rw [State.roundBoundary_of_no_swap hs hw, State.sweepBoundary_shows.2.2, State.shot_syncPulse, waited.1.rd (by decide),
    waited.1.rd (by decide), waited.1 .shot (by decide), regs_roundTurned.rd (by decide), regs_roundTurned.rd (by decide),
    State.shot_roundTurned, now]
  by_cases one : s.rd SHT_SYNC_mode = 1
  · simp [one]
  · simp [one]

/-- Where the engine runs an entry the swap waits for its end, and entry 0 of the new bank is next (R154). -/
theorem State.roundBoundary_marks {r : Run} (h : s.SwapWaits w (BitVec.ofNat 16 (s.rd MOT_ROUND_round + 1)))
    (hr : s.shot.run = some r) (hc : 0 < r.committed) :
    s.roundBoundary.shot.swap = some { w with due := true } ∧ s.roundBoundary.shot.next = 0
    ∧ s.roundBoundary.shot.run = some r ∧ s.roundBoundary.flag SHT_STATUS_act_bank = s.flag SHT_STATUS_act_bank := by
  have run : s.roundTurned.shot.run = some r := State.run_roundTurned.trans hr
  obtain ⟨waits, marked⟩ := State.swapMarked_of_running run hc
  obtain ⟨shot, bank, -, -⟩ := State.roundBoundary_shows h waits
  rw [marked] at shot
  refine ⟨(congrArg Shot.swap shot).trans ?_, congrArg Shot.next shot, (congrArg Shot.run shot).trans run, ?_⟩
  · exact congrArg (Option.map (fun w : Swap => { w with due := true })) h.roundTurned.swap
  · exact bank.trans (State.actBank_swapMarked.trans (regs_roundTurned.flag (by decide)))

section
variable (hd : s.roundDue = true) (h : s.SwapWaits w (BitVec.ofNat 16 (s.rd MOT_ROUND_round + 1))) (hs : s.host.snaps = [])
include hd h hs

/-- The swap takes place with the boundary, and no entry starts with it. -/
theorem State.roundBoundary_swaps (hn : s.noEntry = true)
    (hc : s.roundTurned.swapMarked.engine = 1 → (s.stagedBank[0]?).all (fun e => e.trig != 2) = true) :
    s.roundBoundary.shot.swap = none ∧ s.roundBoundary.shot.run = none ∧ s.roundBoundary.shot.next = 0
    ∧ s.roundBoundary.flag SHT_STATUS_act_bank = !s.flag SHT_STATUS_act_bank
    ∧ s.roundBoundary.rd GLB_EPOCH_epoch = (s.rd GLB_EPOCH_epoch + 1) % 2 ^ GLB_EPOCH_epoch.width := by
  have idle : s.roundTurned.noEntry = true := State.noEntry_roundTurned.trans hn
  have swap := h.roundTurned.swap
  obtain ⟨shot, bank, -, epoch⟩ := State.roundBoundary_shows h (State.dueSwap_swapMarked_of_no_chain
    (State.timingLive_roundTurned.trans (State.timingLive_of_roundDue hd)) (State.snaps_roundTurned.trans hs) idle swap
    (by rw [State.stagedBank_roundTurned]; exact hc))
  rw [State.shot_swapTaken idle swap] at shot
  refine ⟨congrArg Shot.swap shot, congrArg Shot.run shot, congrArg Shot.next shot, ?_, ?_⟩
  · rw [bank, State.actBank_swapTaken idle swap, regs_roundTurned.flag (by decide)]
  · rw [epoch, State.epoch_swapTaken idle swap, regs_roundTurned.rd (by decide)]

/-- In an engine that waits a CHAIN entry 0 of the new bank starts with the swap (R132, R154). -/
theorem State.roundBoundary_chains {e : Entry} (he : s.engine = 1) (hr : s.shot.run = none) (h0 : s.stagedBank[0]? = some e)
    (ht : e.trig = 2) : s.roundBoundary.engine = 2
    ∧ s.roundBoundary.shot.run = some ⟨0, e, s.nowLsb, 0, 0, 0, 0, 0, 0, s.nowLsb, [], false⟩
    ∧ s.roundBoundary.shot.swap = none ∧ s.roundBoundary.flag SHT_STATUS_act_bank = !s.flag SHT_STATUS_act_bank := by
  have run : s.roundTurned.shot.run = none := State.run_roundTurned.trans hr
  have idle := State.noEntry_of_run_none run
  have swap := h.roundTurned.swap
  have first : s.roundTurned.stagedBank[0]? = some e := by rw [State.stagedBank_roundTurned]; exact h0
  have now : s.roundTurned.nowLsb = s.nowLsb := State.nowLsb_congr (evolves_roundTurned.1 .clk (by decide))
  obtain ⟨shot, bank, engine, -⟩ := State.roundBoundary_shows h (State.dueSwap_swapMarked_of_chain
    (State.timingLive_roundTurned.trans (State.timingLive_of_roundDue hd)) (State.snaps_roundTurned.trans hs)
    (State.engine_roundTurned.trans he) run swap first ht)
  obtain ⟨started, kept, running, same⟩ := State.startEntry_shows (n := s.roundTurned.nowLsb)
    ((State.nextEntry_swapTaken idle swap).trans first)
  rw [State.shot_swapTaken idle swap] at started kept
  refine ⟨engine.trans running, (congrArg Shot.run shot).trans (started.trans ?_), (congrArg Shot.swap shot).trans kept, ?_⟩
  · rw [now]
  · rw [bank, same, State.actBank_swapTaken idle swap, regs_roundTurned.flag (by decide)]

end

/-- Settles O26: a boundary without a swap writes its parts one by one; with one, the entry that runs, the swap and the entry that
follows it are those of `State.roundBoundary_marks`, `State.roundBoundary_swaps` and `State.roundBoundary_chains`. -/
theorem boundaries : Obligations.Boundaries := by
  unfold Obligations.Boundaries
  refine ⟨?plain, ?runs, ?swaps, ?sweep, ?noRound, ?noSweep, ?chains, ?givesWay⟩
  case plain =>
    intro s h hs hw
    have eq := State.roundBoundary_of_no_swap hs hw
    have waited : Evolves [.regs, .shot, .motor, .host] s s.roundTurned.txnsAtRound :=
      ev_trans (ev_mono evolves_roundTurned (by decide)) (ev_mono evolves_txnsAtRound (by decide))
    have after : Evolves [.host, .shot, .motor, .saf] s.roundTurned s.roundBoundary := by
      rw [eq]
      exact ev_trans (ev_mono evolves_txnsAtRound (by decide)) (ev_mono evolves_sweepBoundary (by decide))
    obtain ⟨saf, motor, -⟩ := State.sweepBoundary_shows (s := s.roundTurned.txnsAtRound)
    refine ⟨_, exec_roundBoundary h, (after.1.rd (by decide) _).trans State.round_roundTurned,
      State.shot_roundBoundary_of_no_swap hs hw, ?host, ?saf, ?motor,
      onlyRegs_trans regs_roundTurned (after.1.onlyRegs (by decide)),
      (ev_trans (ev_mono evolves_roundTurned (by decide)) (ev_mono after (by decide))).1⟩
    case host =>
      have host : s.roundTurned.host = s.host := evolves_roundTurned.1 .host (by decide)
      have kept : s.roundBoundary.host = s.roundTurned.txnsAtRound.host := by
        rw [eq]
        exact evolves_sweepBoundary.1 .host (by decide)
      rw [kept, State.txnsAtRound, State.modHost, host, after.1.rd (by decide)]
    case saf =>
      rw [eq, saf, waited.1 .saf (by decide)]
    case motor =>
      have kept : s.roundTurned.txnsAtRound.motor = s.roundTurned.motor := evolves_txnsAtRound.1 .motor (by decide)
      rw [eq, motor, waited.1 .clk (by decide), kept, State.motor_roundTurned]
  case runs =>
    intro w r s h he hw hd hr hrun hc
    exact ⟨_, exec_roundBoundary h, State.roundBoundary_marks ⟨he, hw, hd, .inl hr⟩ hrun hc⟩
  case swaps =>
    intro w s h he hw hd hr hrun hs hc
    have engine : s.roundTurned.swapMarked.engine = s.engine :=
      (State.engine_swapMarked (State.run_roundTurned.trans hrun)).trans State.engine_roundTurned
    obtain ⟨swap, -, first, bank, epoch⟩ := State.roundBoundary_swaps h ⟨he, hw, hd, .inr hr⟩ hs
      (State.noEntry_of_run_none hrun) (fun wait => hc (engine.symm.trans wait))
    exact ⟨_, exec_roundBoundary h, swap, first, bank, epoch⟩
  case sweep =>
    intro s h
    obtain ⟨saf, motor, -⟩ := State.sweepBoundary_shows (s := s)
    exact ⟨_, exec_sweepBoundary h, saf, motor, evolves_sweepBoundary.1⟩
  case noRound =>
    intro s h
    simp only [exec, execRoundBoundary, h, doIf_false]
  case noSweep =>
    intro s h
    simp only [exec, execSweepBoundary, h, doIf_false]
  case chains =>
    intro w e s h he hw hd hr hrun hs h0 ht
    obtain ⟨engine, run, swap, bank⟩ := State.roundBoundary_chains h ⟨by rw [he]; decide, hw, hd, .inl hr⟩ hs he hrun h0 ht
    exact ⟨_, _, exec_roundBoundary h, engine, run, rfl, rfl, rfl, rfl, swap, bank⟩
  case givesWay =>
    intro w r s h he hw hd hr hrun hc hs h0
    have idle : s.noEntry = true := (State.noEntry_of_run_some hrun).trans (beq_iff_eq.2 hc)
    exact ⟨_, exec_roundBoundary h, State.roundBoundary_swaps h ⟨by rw [he]; decide, hw, hd, .inl hr⟩ hs idle (fun _ => h0)⟩

end Sys2Proof.Machine
end

section
/-! PROOFS. The lock of the eye-safety set (spec/05 R195, R646, spec/14 R598): one equation for each way a key write goes, the end of
the burn, and the obligation `Obligations.EyeSafetyLock`. -/

namespace Sys2Proof.Machine

variable {s : State} {q : Src} {v : Word}

theorem State.onlyChanges_modEye {f : EyeLock → EyeLock} : OnlyChanges [.eye] s (s.modEye f) := (ev_modEye (by decide) ev_refl).1

/-! ## Keys (R195) -/

/-- A requester that is served, may write the set and finds no burn under way has its keys taken. -/
structure State.TakesKeys (s : State) (q : Src) : Prop where
  served : s.serves q = true
  writable : s.eyeWritable q = true
  idle : s.eye.burning = false

theorem exec_eyeLockKey (h : s.serves q = true) : exec (.eyeLockKey q v) s = .next (s.eyeKey q v) := by
  simp only [exec, execEyeLockKey, h, doIf_true]

theorem State.TakesKeys.arms (h : s.TakesKeys q) (hk : EYE_LOCK_key.get v = 0x4B) :
    exec (.eyeLockKey q v) s = .next (s.modEye (fun x => { x with armed := true })) := by
  rw [exec_eyeLockKey h.served, State.eyeKey]
  simp [h.writable, h.idle, hk]

theorem State.TakesKeys.burns (h : s.TakesKeys q) (hk : EYE_LOCK_key.get v = 0xB4) (ha : s.eye.armed = true) :
    exec (.eyeLockKey q v) s
      = .next (s.modEye (fun x => { x with armed := false, burning := true, burnSet := s.eyeWords })) := by
  rw [exec_eyeLockKey h.served, State.eyeKey]
  simp [h.writable, h.idle, hk, ha]

theorem State.TakesKeys.breaks (h : s.TakesKeys q) (hk : EYE_LOCK_key.get v ≠ 0x4B)
    (ha : EYE_LOCK_key.get v = 0xB4 → s.eye.armed = false) :
    exec (.eyeLockKey q v) s = .next (s.modEye (fun x => { x with armed := false })) := by
  have unarmed : ¬(EYE_LOCK_key.get v = 0xB4 ∧ s.eye.armed = true) := fun hb => by simp [ha hb.1] at hb
  rw [exec_eyeLockKey h.served, State.eyeKey]
  simp only [h.writable, h.idle, Bool.not_false, Bool.and_true, if_true, if_neg hk, if_neg unarmed]

theorem exec_eyeLockKey_refused (h : s.serves q = true) (hr : s.eyeWritable q = false ∨ s.eye.burning = true) :
    exec (.eyeLockKey q v) s = .next (s.refuseWrite q EYE_LOCK) := by
  have refused : (s.eyeWritable q && !s.eye.burning) = false := by
    obtain hw | hb := hr
    · rw [hw, Bool.false_and]
    · rw [hb, Bool.not_true, Bool.and_false]
  rw [exec_eyeLockKey h, State.eyeKey, refused]
  rfl

/-! ## The timeout and the end of the burn (R195, R646) -/

/-- The words that the burn took, with their CRC, stand in the one-time-programmable memory, and the set is LOADED. -/
def State.burned (s : State) : State :=
  ((((s.modEye (fun x => { x with burning := false })).modOtp (fun x =>
    { x with eye := some (s.eye.burnSet, eyeCrc s.eye.burnSet) })).put EYE_LOCK_crc (eyeCrc s.eye.burnSet).toNat).put
      EYE_LOCK_state 1)

theorem exec_eyeLockKeyTimeout (h : s.fabricLive = true) :
    exec .eyeLockKeyTimeout s = .next (s.modEye (fun x => { x with armed := false })) := by
  simp only [exec, execEyeLockKeyTimeout, h, doIf_true]

theorem exec_eyeLockBurnDone (h : s.fabricLive = true) (hb : s.eye.burning = true) :
    exec .eyeLockBurnDone s = .next s.burned := by
  simp only [exec, execEyeLockBurnDone, h, hb, Bool.and_self, doIf_true]
  rfl

theorem exec_eyeLock_stopped (h : s.fabricLive = false) :
    exec .eyeLockKeyTimeout s = .next s ∧ exec .eyeLockBurnDone s = .next s := by
  simp only [exec, execEyeLockKeyTimeout, execEyeLockBurnDone, h, Bool.false_and, doIf_false, and_self]

theorem State.burned_shows : s.burned.rd EYE_LOCK_state = 1 ∧ s.burned.rd EYE_LOCK_crc = (eyeCrc s.eye.burnSet).toNat :=
  ⟨State.rd_put_of_lt (by decide) (by decide),
    (State.rd_put_beside (by rfl)).trans (State.rd_put_of_lt (by decide) (eyeCrc s.eye.burnSet).isLt)⟩

theorem regs_burned : OnlyRegs [EYE_LOCK] s s.burned :=
  regs_put (List.mem_singleton.2 rfl) (regs_put (List.mem_singleton.2 rfl) (regs_modOtp (regs_modEye onlyRegs_refl)))

/-- Settles O21: each clause is one way of a key write, the timeout, or the end of the burn. -/
theorem eyeSafetyLock : Obligations.EyeSafetyLock := by
  unfold Obligations.EyeSafetyLock
  refine ⟨?first, ?second, ?broken, ?refused, ?timeout, ?stopped, ?done⟩
  case first =>
    intro q v s hq hw hb hk
    exact ⟨_, State.TakesKeys.arms ⟨hq, hw, hb⟩ hk, rfl, State.onlyChanges_modEye⟩
  case second =>
    intro q v s hq hw hb hk ha
    exact ⟨_, State.TakesKeys.burns ⟨hq, hw, hb⟩ hk ha, rfl, State.onlyChanges_modEye⟩
  case broken =>
    intro q v s hq hw hb hk ha
    exact ⟨_, State.TakesKeys.breaks ⟨hq, hw, hb⟩ hk ha, rfl, State.onlyChanges_modEye⟩
  case refused =>
    intro q v s hq hr
    exact ⟨_, exec_eyeLockKey_refused hq hr, State.onlyChanges_refuseWrite .eye (by decide),
      regs_refuseWrite (fun _ hb => hb) onlyRegs_refl⟩
  case timeout =>
    intro s h
    exact ⟨_, exec_eyeLockKeyTimeout h, rfl, State.onlyChanges_modEye⟩
  case stopped =>
    intro s h
    exact exec_eyeLock_stopped h
  case done =>
    intro s h hb
    exact ⟨_, exec_eyeLockBurnDone h hb, rfl, rfl, State.burned_shows.1, State.burned_shows.2, regs_burned⟩

end Sys2Proof.Machine
end

section
/-! PROOFS. The release of RESET_N (spec/13 R570, spec/14 R598, spec/05 R195, R646): the check of the fault log, the registers that a
burned eye-safety set is loaded into, and the obligation `Obligations.ResetRelease`. -/

namespace Sys2Proof.Machine

variable {s t : State} {ws : List Word} {crc : BitVec 16} {a : Nat}

/-! ## The fault log (R570) -/

/-- The device runs, with its fault log checked. -/
def State.released (s : State) : State := (s.modClk (fun x => { x with phase := .running })).checkLog

theorem State.released_intact (h : s.flt.logIntact = true) :
    s.released = (s.modClk (fun x => { x with phase := .running })).wrapInc FLT_LOG_STAT_boot := if_pos h

theorem State.released_lost (h : s.flt.logIntact = false) : s.released
    = ((((s.modClk (fun x => { x with phase := .running })).setReg FLT_LOG_STAT 0x800000).setReg FLT_LOG_TOTAL 0).modFlt
      (fun x => { x with log := [], logIntact := true })) := if_neg (Bool.eq_false_iff.1 h)

theorem evolves_released : Evolves [.regs, .clk, .flt] s s.released :=
  ev_checkLog (by decide) (by decide) (ev_modClk (by decide) ev_refl)

theorem regs_released : OnlyRegs [FLT_LOG_STAT, FLT_LOG_TOTAL] s s.released := by
  cases h : s.flt.logIntact
  · rw [State.released_lost h]
    exact regs_modFlt (regs_setReg (by decide) (regs_setReg (by decide) (regs_modClk onlyRegs_refl)))
  · rw [State.released_intact h]
    exact regs_wrapInc (by decide) (regs_modClk onlyRegs_refl)

theorem State.released_lost_shows (h : s.flt.logIntact = false) : s.released.flt = { s.flt with log := [], logIntact := true }
    ∧ s.released.clk = { s.clk with phase := .running } ∧ s.released.reg FLT_LOG_TOTAL = 0
    ∧ s.released.rd FLT_LOG_STAT_boot = 0 := by
  rw [State.released_lost h]
  refine ⟨rfl, rfl, by simp, ?_⟩
  have stat : ∀ u : State, ((u.setReg FLT_LOG_STAT 0x800000).setReg FLT_LOG_TOTAL 0).reg FLT_LOG_STAT = 0x800000 :=
    fun u => (State.reg_setReg_ne (by decide)).trans State.reg_setReg_same
  exact congrArg FLT_LOG_STAT_boot.get (stat _)

/-! ## The burned eye-safety set (R195, R646) -/

/-- The addresses of the 37 registers of the locked set. -/
def eyeAddrs : List Nat := (List.range 37).map (fun i => 0x7800 + 4 * i)

/-- Words written from the set's first register up. -/
def State.eyeStored (s : State) (ws : List Word) : State := forAll ws.zipIdx (fun t p => t.setReg (0x7800 + 4 * p.2) p.1) s

theorem State.loadEye_blank (h : s.otp.eye = none) : s.loadEye = s := by
  rw [State.loadEye, h]

theorem State.loadEye_burned (h : s.otp.eye = some (ws, crc)) : s.loadEye
    = ((s.eyeStored ws).put EYE_LOCK_crc crc.toNat).put EYE_LOCK_state (if eyeCrc ws = crc then 1 else 2) := by
  rw [State.loadEye, h]
  rfl

theorem regs_eyeStored (h : ws.length = 37) : OnlyRegs eyeAddrs s (s.eyeStored ws) := by
  refine forAll_induction onlyRegs_refl (fun u p hp hu => regs_setReg ?_ hu)
  have hi : p.2 < 37 := h ▸ (List.snd_lt_of_mem_zipIdx hp)
  exact List.mem_map.2 ⟨p.2, List.mem_range.2 hi, rfl⟩

/-- The set lies above the registers of the fault log, however many words were burned. -/
theorem State.reg_eyeStored_below (ha : a < 0x7800) : (s.eyeStored ws).reg a = s.reg a :=
  forAll_induction (P := fun u => u.reg a = s.reg a) rfl (fun _ _ _ hu => (State.reg_setReg_ne (by omega)).trans hu)

theorem State.reg_eyeStored {i : Nat} (hi : i < ws.length) : (s.eyeStored ws).reg (0x7800 + 4 * i) = ws[i] := by
  have nd : ws.zipIdx.Nodup := List.Nodup.of_map Prod.snd (by rw [List.zipIdx_map_snd]; exact List.nodup_range')
  have hx : (ws[i], i) ∈ ws.zipIdx := by
    rw [List.mem_zipIdx_iff_getElem?]
    exact List.getElem?_eq_getElem hi
  have other : ∀ (u : State) (p : Word × Nat), p ∈ ws.zipIdx → p ≠ (ws[i], i) →
      (u.setReg (0x7800 + 4 * p.2) p.1).reg (0x7800 + 4 * i) = u.reg (0x7800 + 4 * i) := by
    intro u p hp hne
    refine State.reg_setReg_ne (fun h => hne ?_)
    have hpi : p.2 = i := by omega
    rw [List.mem_zipIdx_iff_getElem?, hpi, List.getElem?_eq_getElem hi, Option.some.injEq] at hp
    exact Prod.ext hp.symm hpi
  obtain ⟨u, -, last⟩ := forAll_turn (R := fun u v : State => v.reg (0x7800 + 4 * i) = u.reg (0x7800 + 4 * i)) (s := s)
    (fun _ => rfl) (fun _ _ _ h g => g.trans h) nd hx other
  exact last.trans State.reg_setReg_same

theorem State.eyeWords_eyeStored (h : ws.length = 37) : (s.eyeStored ws).eyeWords = ws := by
  refine List.ext_getElem (by simp [State.eyeWords, h]) (fun i _ hi => ?_)
  simp only [State.eyeWords, List.getElem_map, List.getElem_range]
  exact State.reg_eyeStored hi

theorem State.eyeWords_congr (h : ∀ b ∈ eyeAddrs, t.reg b = s.reg b) : t.eyeWords = s.eyeWords :=
  List.map_congr_left (fun _ hi => h _ (List.mem_map_of_mem hi))

theorem regs_loadEye (h : s.otp.eye = some (ws, crc)) (hw : ws.length = 37) : OnlyRegs (EYE_LOCK :: eyeAddrs) s s.loadEye := by
  rw [State.loadEye_burned h]
  exact regs_put (List.mem_cons_self ..) (regs_put (List.mem_cons_self ..)
    (onlyRegs_mono (fun _ hb => List.mem_cons_of_mem _ hb) (regs_eyeStored hw)))

theorem State.reg_loadEye_below (ha : a < 0x7800) : s.loadEye.reg a = s.reg a := by
  cases h : s.otp.eye with
  | none => rw [State.loadEye_blank h]
  | some p =>
    obtain ⟨ws, crc⟩ := p
    have apart : EYE_LOCK ≠ a := by simp only [EYE_LOCK]; omega
    rw [State.loadEye_burned h, State.reg_put_ne apart, State.reg_put_ne apart, State.reg_eyeStored_below ha]

/-- A burned set stands in its registers, and EYE_LOCK shows its CRC and whether it fits (R195). -/
theorem State.loadEye_shows (h : s.otp.eye = some (ws, crc)) (hw : ws.length = 37) :
    s.loadEye.rd EYE_LOCK_state = (if eyeCrc ws = crc then 1 else 2) ∧ s.loadEye.rd EYE_LOCK_crc = crc.toNat
    ∧ s.loadEye.eyeWords = ws := by
  rw [State.loadEye_burned h]
  refine ⟨State.rd_put_of_lt (by decide) (by split <;> decide),
    (State.rd_put_beside (by rfl)).trans (State.rd_put_of_lt (by decide) crc.isLt), ?_⟩
  refine (State.eyeWords_congr (s := s.eyeStored ws) (fun b hb => ?_)).trans (State.eyeWords_eyeStored hw)
  have apart : EYE_LOCK ≠ b := fun he => absurd (he ▸ hb) (by decide)
  rw [State.reg_put_ne apart, State.reg_put_ne apart]

/-! ## The release (R598) -/

theorem regs_showOtp : OnlyRegs [SAF_CTL] s s.showOtp := regs_put (List.mem_singleton.2 rfl) onlyRegs_refl

theorem evolves_loadEye_showOtp : Evolves [.regs] s s.loadEye.showOtp := ev_showOtp (by decide) (ev_loadEye (by decide) ev_refl)

theorem exec_resetNRelease (h : s.clk.phase = .inReset) : exec .resetNRelease s = .next s.released.loadEye.showOtp := by
  simp only [exec, execResetNRelease, h, decide_true, doIf_true]
  rfl

theorem State.otp_released : s.released.otp = s.otp := evolves_released.1 .otp (by decide)

/-- Without a burned set only the log's registers and the state of the one-time-programmable memory are written. -/
theorem State.loadEye_released (h : s.otp.eye = none) : s.released.loadEye = s.released :=
  State.loadEye_blank ((congrArg Otp.eye State.otp_released).trans h)

/-- Settles O2: the release is `State.released`, then the load of a burned set. -/
theorem resetRelease : Obligations.ResetRelease := by
  unfold Obligations.ResetRelease
  refine ⟨?intact, ?lost, ?burned⟩
  case intact =>
    intro s hp hi he
    have log : OnlyRegs [FLT_LOG_STAT] s s.released := by
      rw [State.released_intact hi]
      exact regs_wrapInc (by decide) (regs_modClk onlyRegs_refl)
    refine ⟨_, exec_resetNRelease hp, ?_, ?_, ?_, ?_⟩
    · rw [evolves_loadEye_showOtp.1 .clk (by decide), State.released_intact hi]
      rfl
    · rw [State.loadEye_released he, regs_showOtp.rd (by decide), State.released_intact hi, State.rd_wrapInc_same (by decide)]
      rfl
    · rw [State.loadEye_released he]
      exact onlyRegs_trans (onlyRegs_mono (by decide) log) (onlyRegs_mono (by decide) regs_showOtp)
    · rw [evolves_loadEye_showOtp.1 .flt (by decide), State.released_intact hi]
      rfl
  case lost =>
    intro s hp hi
    obtain ⟨flt, clk, total, boot⟩ := State.released_lost_shows hi
    have fltEq := (evolves_loadEye_showOtp (s := s.released)).1 .flt (by decide)
    refine ⟨_, exec_resetNRelease hp, ?_, ?_, ?_, ?_, ?_, ?_, ?_⟩
    · exact (evolves_loadEye_showOtp.1 .clk (by decide)).trans clk
    · rw [fltEq, flt]
    · rw [fltEq, flt]
    · rw [regs_showOtp _ (by decide), State.reg_loadEye_below (by decide), total]
    · rw [regs_showOtp.rd (by decide), State.rd_congr (State.reg_loadEye_below (by decide)), boot]
    · intro he
      rw [State.loadEye_released he]
      exact onlyRegs_trans (onlyRegs_mono (by decide) regs_released) (onlyRegs_mono (by decide) regs_showOtp)
    · rw [fltEq, flt]
  case burned =>
    intro s ws crc hp he hw
    have heye : s.released.otp.eye = some (ws, crc) := (congrArg Otp.eye State.otp_released).trans he
    obtain ⟨state, code, words⟩ := State.loadEye_shows heye hw
    have all : Evolves [.regs, .clk, .flt] s s.released.loadEye.showOtp :=
      ev_showOtp (by decide) (ev_loadEye (by decide) evolves_released)
    refine ⟨_, exec_resetNRelease hp, ?_, ?_, ?_, ?_, all.1, all.1 .otp (by decide)⟩
    · rw [regs_showOtp.rd (by decide), state]
    · rw [regs_showOtp.rd (by decide), code]
    · intro _
      have kept : ∀ b ∈ eyeAddrs, b ∉ [SAF_CTL] := by decide
      rw [State.eyeWords_congr (fun b hb => regs_showOtp b (kept b hb)), words]
    · have loaded : OnlyRegs (EYE_LOCK :: FLT_LOG_STAT :: FLT_LOG_TOTAL :: SAF_CTL :: eyeAddrs) s.released s.released.loadEye :=
        onlyRegs_mono (by decide) (regs_loadEye heye hw)
      exact onlyRegs_trans (onlyRegs_trans (onlyRegs_mono (by decide) regs_released) loaded)
        (onlyRegs_mono (by decide) regs_showOtp)

end Sys2Proof.Machine
end

section
/-! PROOFS. Posting after a write of registers (spec/10 R428, spec/14 R588): that the fabric domain runs on, and that the event is posted
in the sense of the statements. -/

namespace Sys2Proof.Machine

variable {s t u : State}

theorem State.fabricLive_congr (hc : t.clk = s.clk) (hr : t.reg CLK_STAT = s.reg CLK_STAT) : t.fabricLive = s.fabricLive := by
  unfold State.fabricLive State.running
  rw [hc, State.flag_congr (f := CLK_STAT_fpll) hr]

/-- The registers that decide where an event goes and what its first words say. -/
def postReads : List Nat := [CLK_STAT, GLB_EPOCH, HIF_SPI_CFG, HIF_FN_CFG 0, HIF_FN_CFG 1]

/-- An event posted after writes of registers that posting does not read. -/
theorem posted_post_after {l : List Nat} {typ kind index : Nat} {data : List Word} (g : OnlyRegs l s u) (e : Evolves [.regs] s u)
    (hl : s.fabricLive = true) (hr : ∀ a ∈ postReads, a ∉ l) :
    Posted s (u.post typ kind index data) (s.eventWords typ kind index data) := by
  have clk : u.clk = s.clk := e.1 .clk (by decide)
  have live : u.fabricLive = true := (State.fabricLive_congr clk (g _ (hr _ (by decide)))).trans hl
  rw [← State.eventWords_congr clk (g _ (hr _ (by decide)))]
  exact (posted_post live).after g e (hr _ (by decide)) (fun f => by cases f <;> exact hr _ (by decide))

end Sys2Proof.Machine
end

section
/-! PROOFS. Comparators and window monitors (spec/05 R182 to R185, spec/13 R555, spec/10 R428): the self-test slots of a charge
controller and of a monitor, and a monitor's changes of state. -/

namespace Sys2Proof.Machine

variable {s : State} {e : Nat} {m : Nat} {x y : CmpSlot}

/-! ## Self-test slots of a charge controller (R182 to R184) -/

/-- Both comparators of a controller have become valid, and it charges. -/
def State.settled (s : State) (e : Nat) : State :=
  ((s.bump (CHG_ST_st_pass e) 1).modChg e (fun g => { g with cmpValid := true })).startCharging e

theorem exec_comparatorSettleEnd_chg {e : EmitId} (hl : s.timingLive = true) (hw : s.chgState e = 1) (hp : slotPasses x y = true) :
    exec (.comparatorSettleEnd (.chg e) x y) s = .next (s.settled e) := by
  simp only [exec, execComparatorSettleEnd, State.awaitsCmp, hl, hw, hp, BEq.rfl, Bool.and_self, doIf_true, if_true]
  rfl

theorem State.chgState_settled : (s.settled e).chgState e = 2 := by
  have kept : Evolves [.chgs] (((s.bump (CHG_ST_st_pass e) 1).modChg e (fun g => { g with cmpValid := true })).setChgState e 2)
      (s.settled e) := ev_modChg (by decide) ev_refl
  exact (kept.1.rd (by decide) _).trans (State.chgState_setChgState (by decide))

theorem State.chg_settled : (s.settled e).chg e = { s.chg e with cmpValid := true, timedOut := false } := by
  have bumped : Evolves [.regs] s (s.bump (CHG_ST_st_pass e) 1) := ev_bump (by decide) ev_refl
  have shown : ∀ u : State, Evolves [.regs] u (u.setChgState e 2) := fun _ => ev_setChgState (by decide) ev_refl
  rw [State.settled, State.startCharging, State.chg_modChg_same, (shown _).1.chg (by decide), State.chg_modChg_same,
    bumped.1.chg (by decide)]

theorem OnlyChgs.trans {l : List Nat} {t u : State} (h : OnlyChgs l s t) (g : OnlyChgs l t u) : OnlyChgs l s u :=
  fun d hd => (g d hd).trans (h d hd)

theorem onlyChgs_of_regs {l : List Nat} {t : State} (h : Evolves [.regs] s t) : OnlyChgs l s t := fun d _ => h.1.chg (by decide) d

theorem onlyChgs_settled : OnlyChgs [e] s (s.settled e) :=
  (((onlyChgs_of_regs (ev_bump (by decide) ev_refl)).trans onlyChgs_modChg).trans
    (onlyChgs_of_regs (ev_setChgState (by decide) ev_refl))).trans onlyChgs_modChg

theorem regs_settled : OnlyRegs [CHG_ST e, CHG_STAT e] s (s.settled e) :=
  regs_modChg (regs_setChgState (List.mem_cons_of_mem _ (List.mem_cons_self ..))
    (regs_modChg (regs_bump (List.mem_cons_self ..) onlyRegs_refl)))

theorem evolves_settled : Evolves [.regs, .chgs] s (s.settled e) :=
  ev_startCharging (by decide) (by decide) (ev_modChg (by decide) (ev_bump (by decide) ev_refl))

/-- The periodic slot of a controller is no longer due. -/
def State.slotTaken (s : State) (e : Nat) : State := s.modChg e (fun g => { g with stDue := false })

theorem State.slotDue_chg {e : EmitId} (hr : s.chgState e = 4) (hd : (s.chg e).stDue = true) : s.slotDue (.chg e) = true := by
  simp only [State.slotDue, hr, hd, BEq.rfl, Bool.and_self]

theorem exec_comparatorSelfTest_passed {e : EmitId} (hl : s.timingLive = true) (hr : s.chgState e = 4)
    (hd : (s.chg e).stDue = true) (hp : slotPasses x y = true) :
    exec (.comparatorSelfTest (.chg e) x y) s = .next ((s.slotTaken e).bump (CHG_ST_st_pass e) 1) := by
  simp only [exec, execComparatorSelfTest, hl, State.slotDue_chg hr hd, hp, Bool.and_self, doIf_true, if_true]
  rfl

/-- A slot whose first comparator fails at step n and whose second passes (R183). -/
theorem exec_comparatorSelfTest_failed {e : EmitId} {n : Nat} (hl : s.timingLive = true) (hr : s.chgState e = 4)
    (hd : (s.chg e).stDue = true) (hx : CmpSlotFails x = some n) (hy : CmpSlotFails y = none) :
    exec (.comparatorSelfTest (.chg e) x y) s
      = .next (((s.slotTaken e).bump (CHG_ST_st_fail e) 1).detect 0x0C 3 e 0 n (elemChg e)) := by
  have failed : slotPasses x y = false := by simp [slotPasses, hx]
  simp only [exec, execComparatorSelfTest, hl, State.slotDue_chg hr hd, failed, Bool.and_self, doIf_true, Bool.false_eq_true,
    if_false, State.slotFailed, hx, hy, Option.toList_some, Option.toList_none, List.append_nil, forAll_cons, forAll_nil]
  rfl

/-- What a counted slot leaves of its controller, whichever of its two counters it counts in. -/
theorem State.slotTaken_bump {f : FRef} (hf : f.addr = CHG_ST e) (hfit : f.fits) :
    (((s.slotTaken e).bump f 1).chg e).stDue = false ∧ ((s.slotTaken e).bump f 1).chgState e = s.chgState e
    ∧ ((s.slotTaken e).bump f 1).rd f = min (s.rd f + 1) (2 ^ f.width - 1)
    ∧ OnlyRegs [CHG_ST e] s ((s.slotTaken e).bump f 1) ∧ OnlyChgs [e] s ((s.slotTaken e).bump f 1) := by
  have bumped : Evolves [.regs] (s.slotTaken e) ((s.slotTaken e).bump f 1) := ev_bump (by decide) ev_refl
  have taken : Evolves [.chgs] s (s.slotTaken e) := ev_modChg (by decide) ev_refl
  have regs : OnlyRegs [CHG_ST e] s ((s.slotTaken e).bump f 1) :=
    regs_bump (List.mem_singleton.2 hf) (regs_modChg onlyRegs_refl)
  have apart : (CHG_STAT_state e).addr ∉ [CHG_ST e] := by
    simp only [List.mem_singleton, CHG_STAT_state, CHG_STAT, CHG_ST]
    omega
  refine ⟨?_, regs.rd apart, ?_, regs, onlyChgs_modChg.trans (onlyChgs_of_regs bumped)⟩
  · rw [bumped.1.chg (by decide), State.slotTaken, State.chg_modChg_same]
  · rw [State.rd_bump_same hfit, taken.1.rd (by decide)]

/-! ## Window monitors (R182, R185) -/

theorem exec_comparatorSettleEnd_wmn {m : MonId} (hl : s.timingLive = true) (he : s.flag (WMN_CFG_en m) = true)
    (hv : (s.mon m).cmpValid = false) (hs : s.rd (WMN_STAT_state m) ≠ 3) (hp : slotPasses x y = true) :
    exec (.comparatorSettleEnd (.wmn m) x y) s = .next (s.modMon m (fun g => { g with cmpValid := true })) := by
  have awaits : s.awaitsCmp (.wmn m) = true := by simp [State.awaitsCmp, he, hv, hs]
  simp only [exec, execComparatorSettleEnd, awaits, hl, hp, Bool.and_self, doIf_true, if_true]

/-- A monitor in a state, with an exit counted where it leaves its window. -/
def State.monExited (s : State) (m st : Nat) : State := (s.put (WMN_STAT_state m) st).bump (WMN_STAT_exits m) 1

theorem State.monState_exit {st mv : Nat} (h : s.rd (WMN_STAT_state m) = 0) (hst : st ≠ 0) :
    s.monState m st mv = (s.monExited m st).post 0x31 4 m [w32 st, w32 mv] := by
  have leaves : (s.rd (WMN_STAT_state m) == 0 && st != 0) = true := by simp [h, hst]
  rw [State.monState, leaves, doIf_true, State.monExited]

theorem State.monState_return {mv : Nat} : s.monState m 0 mv = s.put (WMN_STAT_state m) 0 := by
  rw [State.monState, bne_self_eq_false, Bool.and_false, doIf_false]

/-- A level that has held for the filter time of a monitor that is on and valid changes its state (R185). -/
theorem exec_windowMonitorChange {m : MonId} {l : MonLevel} {n : Nat} {mv : BitVec 16} (hl : s.timingLive = true)
    (he : s.flag (WMN_CFG_en m) = true) (hv : (s.mon m).cmpValid = true) (h3 : s.rd (WMN_STAT_state m) ≠ 3)
    (hne : s.rd (WMN_STAT_state m) ≠ MonLevelCode l) (hn : s.rd (WMN_CFG_filt m) ≤ n) :
    exec (.windowMonitorChange m l n mv) s = .next (s.monState m (MonLevelCode l) mv.toNat) := by
  simp only [exec, execWindowMonitorChange, hl, he, hv, bne_iff_ne.2 h3, bne_iff_ne.2 hne, decide_eq_true hn, Bool.and_self,
    doIf_true]

theorem exec_windowMonitorChange_short {m : MonId} {l : MonLevel} {n : Nat} {mv : BitVec 16} (hn : n < s.rd (WMN_CFG_filt m)) :
    exec (.windowMonitorChange m l n mv) s = .next s := by
  simp only [exec, execWindowMonitorChange, decide_eq_false (Nat.not_le.2 hn), Bool.and_false, doIf_false]

theorem WMN_STAT_not_mem_eventRegs : WMN_STAT m ∉ eventRegs := by
  simp only [eventRegs, List.mem_cons, List.not_mem_nil, or_false, WMN_STAT, HIF_FN_ERR, HIF_EVQ_STAT, HIF_IRQ_STAT]
  omega

theorem WMN_STAT_not_mem_postReads {a : Nat} (ha : a ∈ postReads) : a ∉ [WMN_STAT m] := by
  have below : ∀ b ∈ postReads, b < 0x6808 := by decide
  have hb := below a ha
  simp only [List.mem_singleton, WMN_STAT]
  omega

theorem regs_monExited {st : Nat} : OnlyRegs [WMN_STAT m] s (s.monExited m st) :=
  regs_bump (List.mem_singleton.2 rfl) (regs_put (List.mem_singleton.2 rfl) onlyRegs_refl)

theorem evolves_monExited {st : Nat} : Evolves [.regs] s (s.monExited m st) := ev_bump (by decide) (ev_put (by decide) ev_refl)

theorem State.monExited_shows {st : Nat} (hst : st < 8) : (s.monExited m st).rd (WMN_STAT_state m) = st
    ∧ (s.monExited m st).rd (WMN_STAT_exits m)
      = min (s.rd (WMN_STAT_exits m) + 1) (2 ^ (WMN_STAT_exits m).width - 1) := by
  refine ⟨(State.rd_put_beside (by rfl)).trans (State.rd_put_of_lt (by simp [WMN_STAT_state]) hst), ?_⟩
  rw [State.monExited, State.rd_bump_same (by simp [WMN_STAT_exits]), State.rd_put_beside (by rfl)]

theorem MonLevelCode_lt (l : MonLevel) : MonLevelCode l < 3 := by cases l <;> decide

theorem MonLevelCode_ne_zero {l : MonLevel} (h : l ≠ .inside) : MonLevelCode l ≠ 0 := by
  cases l <;> simp [MonLevelCode] at h ⊢

end Sys2Proof.Machine
end

section
/-! PROOFS. The bins of the eye-safety accountant (spec/05 R191): the roll of the emitters' bins and of the direction classes' bins, and
the obligation `Obligations.Comparators`. -/

namespace Sys2Proof.Machine

variable {s : State}

/-! ## Tables as lists of indices -/

/-- The indices of a canonical table rise. -/
theorem sparseRising_indices {α : Type} {b : Option Nat} {m : Sparse α} (h : sparseRising b m = true) :
    (m.map Prod.fst).Pairwise (· < ·) ∧ ∀ n, b = some n → ∀ i ∈ m.map Prod.fst, n < i := by
  induction m generalizing b with
  | nil => exact ⟨List.Pairwise.nil, by simp⟩
  | cons p r ih =>
    obtain ⟨j, v⟩ := p
    rw [sparseRising_cons] at h
    obtain ⟨above, rest⟩ := h
    obtain ⟨rising, beyond⟩ := ih rest
    refine ⟨List.pairwise_cons.2 ⟨beyond j rfl, rising⟩, fun n hn i hi => ?_⟩
    obtain rfl | hi := List.mem_cons.1 hi
    · exact above n hn
    · exact (above n hn).trans (beyond j rfl i hi)

theorem sparseGet_of_unlisted {α : Type} {dflt : Nat → α} {m : Sparse α} {i : Nat} (h : i ∉ m.map Prod.fst) :
    sparseGet dflt m i = dflt i := by
  induction m with
  | nil => rfl
  | cons p r ih =>
    obtain ⟨j, v⟩ := p
    simp only [List.map_cons, List.mem_cons, not_or] at h
    rw [sparseGet, if_neg (Ne.symm h.1), ih h.2]

/-! ## The roll of the classes (R191) -/

/-- The classes that hold energy. -/
def State.classNos (s : State) : List Nat := s.classes.map Prod.fst

/-- The bins of every class that holds energy roll. -/
def State.classesRolled (s : State) (l : List Nat) : State := forAll l (fun u q => u.setClass q (rollBins (u.classBins q))) s

theorem State.classBins_setClass_same {q : Nat} {bins : List Nat} : (s.setClass q bins).classBins q = bins := sparseGet_set_same ..

theorem State.classBins_setClass_ne {p q : Nat} {bins : List Nat} (h : p ≠ q) : (s.setClass p bins).classBins q = s.classBins q :=
  sparseGet_set_ne _ _ h

theorem State.classBins_of_unlisted {q : Nat} (h : q ∉ s.classNos) : s.classBins q = List.replicate 17 0 := sparseGet_of_unlisted h

theorem State.classNos_nodup (h : s.wf = true) : s.classNos.Nodup := by
  obtain ⟨-, -, -, -, -, -, -, classes, -⟩ := State.wf_iff.1 h
  exact (sparseRising_indices (sparseWf_iff.1 classes).1).1.imp Nat.ne_of_lt

theorem State.classBins_classesRolled {l : List Nat} {q : Nat} (nd : l.Nodup) (h : q ∉ l → s.classBins q = List.replicate 17 0) :
    (s.classesRolled l).classBins q = rollBins (s.classBins q) := by
  have other : ∀ (u : State) (p : Nat), p ≠ q → (u.setClass p (rollBins (u.classBins p))).classBins q = u.classBins q :=
    fun _ _ hp => State.classBins_setClass_ne hp
  by_cases hq : q ∈ l
  · obtain ⟨u, first, last⟩ := forAll_turn (R := fun u v : State => v.classBins q = u.classBins q) (s := s) (fun _ => rfl)
      (fun _ _ _ h g => g.trans h) nd hq (fun u p _ hp => other u p hp)
    exact last.trans (State.classBins_setClass_same.trans (congrArg rollBins first))
  · have kept : (s.classesRolled l).classBins q = s.classBins q := forAll_induction (P := fun u => u.classBins q = s.classBins q)
      rfl (fun u p hp hu => (other u p (fun he => hq (he ▸ hp))).trans hu)
    rw [kept, h hq]
    rfl

/-! ## The rolls (R191) -/

/-- The short bins of every emitter roll. -/
def State.shortRolled (s : State) : State :=
  forAll emitterNos (fun u e => u.modEmit e (fun m => { m with bins1 := rollBins m.bins1 }))
    (s.modEye (fun y => { y with roll1 := s.clk.tick }))

/-- The long bins of every emitter roll. -/
def State.longRolled (s : State) : State :=
  forAll emitterNos (fun u e => u.modEmit e (fun m => { m with bins100 := rollBins m.bins100 }))
    (s.modEye (fun y => { y with roll100 := s.clk.tick }))

theorem State.binEnds_true {length last : Nat} (hl : s.timingLive = true) (hm : s.clk.tick % length = 0) (h : last < s.clk.tick) :
    s.binEnds length last = true := by
  simp only [State.binEnds, hl, hm, h, decide_true, Bool.and_self]

theorem State.binEnds_false {length last : Nat} (h : s.clk.tick % length ≠ 0 ∨ s.clk.tick ≤ last) :
    s.binEnds length last = false := by
  unfold State.binEnds
  obtain h | h := h
  · rw [decide_eq_false h, Bool.and_false, Bool.false_and]
  · rw [decide_eq_false (Nat.not_lt.2 h), Bool.and_false]

theorem exec_accountantBinRoll_short (h : s.binEnds 6250 s.eye.roll1 = true) :
    exec (.accountantBinRoll false) s = .next s.shortRolled := by
  simp only [exec, execAccountantBinRoll, State.rollShort, h, doIf_true, Bool.false_eq_true, if_false]
  rfl

theorem exec_accountantBinRoll_long (h : s.binEnds 625000 s.eye.roll100 = true) :
    exec (.accountantBinRoll true) s = .next (s.longRolled.classesRolled s.classNos) := by
  simp only [exec, execAccountantBinRoll, State.rollLong, h, doIf_true, if_true]
  rfl

theorem exec_accountantBinRoll_short_early (h : s.binEnds 6250 s.eye.roll1 = false) :
    exec (.accountantBinRoll false) s = .next s := by
  simp only [exec, execAccountantBinRoll, State.rollShort, h, doIf_false, Bool.false_eq_true, if_false]

theorem exec_accountantBinRoll_long_early (h : s.binEnds 625000 s.eye.roll100 = false) :
    exec (.accountantBinRoll true) s = .next s := by
  simp only [exec, execAccountantBinRoll, State.rollLong, h, doIf_false, if_true]

theorem evolves_shortRolled : Evolves [.emits, .eye] s s.shortRolled :=
  ev_forAll (fun _ _ h => ev_modEmit (by decide) h) (ev_modEye (by decide) ev_refl)

theorem evolves_longRolled : Evolves [.emits, .eye] s s.longRolled :=
  ev_forAll (fun _ _ h => ev_modEmit (by decide) h) (ev_modEye (by decide) ev_refl)

theorem evolves_classesRolled {l : List Nat} : Evolves [.classes] s (s.classesRolled l) :=
  ev_forAll (fun _ _ h => ev_setClass (by decide) h) ev_refl

theorem State.eye_forAll_modEmit {f : Emit → Emit} : (forAll emitterNos (fun u e => u.modEmit e f) s).eye = s.eye :=
  (ev_forAll (L := [.emits]) (fun _ _ h => ev_modEmit (by decide) h) ev_refl).1 .eye (by decide)

/-- Settles O19: each clause is one outcome of a slot, of a monitor's change, or of a roll. -/
theorem comparators : Obligations.Comparators := by
  unfold Obligations.Comparators
  refine ⟨?settled, ?valid, ?failed, ?passed, ?exits, ?returns, ?held, ?short, ?long, ?shortEarly, ?longEarly⟩
  case settled =>
    intro e x y s hl hw hp
    exact ⟨_, exec_comparatorSettleEnd_chg hl hw hp, State.chgState_settled, State.chg_settled, onlyChgs_settled, regs_settled,
      evolves_settled.1⟩
  case valid =>
    intro m x y s hl he hv hs hp
    exact ⟨_, exec_comparatorSettleEnd_wmn hl he hv hs hp, State.mon_modMon_same, (ev_modMon (by decide) ev_refl).1⟩
  case failed =>
    intro e y s hl hr hd hy
    obtain ⟨due, state, count, regs, chgs⟩ := State.slotTaken_bump (s := s) (f := CHG_ST_st_fail e) rfl (by simp [CHG_ST_st_fail])
    exact ⟨_, exec_comparatorSelfTest_failed hl hr hd rfl hy, due, state.trans hr, count, rfl, regs, chgs⟩
  case passed =>
    intro e x y s hl hr hd hp
    obtain ⟨due, -, count, regs, -⟩ := State.slotTaken_bump (s := s) (f := CHG_ST_st_pass e) rfl (by simp [CHG_ST_st_pass])
    exact ⟨_, exec_comparatorSelfTest_passed hl hr hd hp, due, count, rfl, regs⟩
  case exits =>
    intro m l n mv s hl he hv hs hin hn
    have code := MonLevelCode_lt l
    have out := MonLevelCode_ne_zero hin
    obtain ⟨state, count⟩ := State.monExited_shows (s := s) (m := m) (st := MonLevelCode l) (by omega)
    have posted : ∀ d, OnlyRegs eventRegs (s.monExited m (MonLevelCode l)) ((s.monExited m (MonLevelCode l)).post 0x31 4 m d) :=
      fun d => regs_post (fun _ h => h) onlyRegs_refl
    refine ⟨_, exec_windowMonitorChange hl he hv (by omega) (by omega) hn, ?_⟩
    rw [State.monState_exit hs out]
    refine ⟨?_, ?_, ?_, ?_, ?_⟩
    · rw [(posted _).rd WMN_STAT_not_mem_eventRegs, state]
    · rw [(posted _).rd WMN_STAT_not_mem_eventRegs, count]
    · exact fun hf => posted_post_after regs_monExited evolves_monExited hf (fun _ => WMN_STAT_not_mem_postReads)
    · exact onlyRegs_trans (onlyRegs_mono (by simp) regs_monExited) (onlyRegs_mono (fun _ h => List.mem_cons_of_mem _ h) (posted _))
    · exact (ev_post (L := [.regs, .host]) (by decide) (by decide) (ev_mono evolves_monExited (by decide))).1 .mons (by decide)
  case returns =>
    intro m n mv s hl he hv hs hn
    have out : s.rd (WMN_STAT_state m) ≠ 3 ∧ s.rd (WMN_STAT_state m) ≠ MonLevelCode .inside := by
      simp only [MonLevelCode]
      omega
    refine ⟨_, exec_windowMonitorChange hl he hv out.1 out.2 hn, ?_⟩
    rw [show MonLevelCode .inside = 0 from rfl, State.monState_return]
    exact ⟨State.rd_put_of_lt (by simp [WMN_STAT_state]) (by simp [WMN_STAT_state]), State.rd_put_beside (by rfl),
      regs_put (List.mem_singleton.2 rfl) onlyRegs_refl, (ev_put (by decide) ev_refl).1⟩
  case held =>
    intro m l n mv s hn
    exact exec_windowMonitorChange_short hn
  case short =>
    intro s hl hm hr
    exact ⟨_, exec_accountantBinRoll_short (State.binEnds_true hl hm hr), fun e he => State.emit_forAll_modEmit he,
      State.eye_forAll_modEmit, evolves_shortRolled.1⟩
  case long =>
    intro s hwf hl hm hr
    refine ⟨_, exec_accountantBinRoll_long (State.binEnds_true hl hm hr), ?_, ?_, ?_, ?_⟩
    · intro e he
      rw [evolves_classesRolled.1.emit (by decide)]
      exact State.emit_forAll_modEmit he
    · intro q
      have kept : s.longRolled.classBins q = s.classBins q :=
        congrArg (fun m => sparseGet (fun _ => List.replicate 17 0) m q) (evolves_longRolled.1 .classes (by decide))
      rw [State.classBins_classesRolled (State.classNos_nodup hwf) (fun h => kept.trans (State.classBins_of_unlisted h)), kept]
      rfl
    · rw [evolves_classesRolled.1 .eye (by decide)]
      exact State.eye_forAll_modEmit
    · exact (ev_trans (ev_mono evolves_longRolled (by decide)) (ev_mono evolves_classesRolled (by decide))).1
  case shortEarly =>
    intro s h
    exact exec_accountantBinRoll_short_early (State.binEnds_false h)
  case longEarly =>
    intro s h
    exact exec_accountantBinRoll_long_early (State.binEnds_false h)

end Sys2Proof.Machine
end

section
/-! PROOFS. The sequencer of the housekeeping bank (spec/11 R464, R466, R467, R468): what its own steps leave of the urgent requests and of
the registers, and an urgent request that an idle sequencer takes at once. -/

namespace Sys2Proof.Machine

variable {s t u : State} {k : Nat}

/-! ## Steps of the sequencer (R464) -/

/-- From s to t the sequencer went on: of the registers it wrote HK_STAT alone, and the urgent requests are as they were. -/
structure Sequences (s t : State) : Prop where
  regs : OnlyRegs [HK_STAT] s t
  now : t.hk.urgNow = s.hk.urgNow
  held : t.hk.urgQ = s.hk.urgQ
  nextDac : t.hk.rbNext = s.hk.rbNext

theorem sequences_refl : Sequences s s := ⟨onlyRegs_refl, rfl, rfl, rfl⟩

theorem sequences_put {f : FRef} {v : Nat} (hf : f.addr = HK_STAT) (h : Sequences s t) : Sequences s (t.put f v) :=
  ⟨regs_put (List.mem_singleton.2 hf) h.regs, h.now, h.held, h.nextDac⟩

theorem sequences_modHk {f : Hk → Hk} (hf : (f t.hk).urgNow = t.hk.urgNow ∧ (f t.hk).urgQ = t.hk.urgQ
    ∧ (f t.hk).rbNext = t.hk.rbNext) (h : Sequences s t) : Sequences s (t.modHk f) := by
  obtain ⟨now, held, nextDac⟩ := hf
  exact ⟨regs_modHk h.regs, now.trans h.now, held.trans h.held, nextDac.trans h.nextDac⟩

theorem sequences_hkBoundary (h : Sequences s t) : Sequences s t.hkBoundary := sequences_modHk ⟨rfl, rfl, rfl⟩ h

theorem sequences_hkShow {st entry : Nat} (h : Sequences s t) : Sequences s (t.hkShow st entry) :=
  sequences_put rfl (sequences_put rfl h)

theorem sequences_hkBegin (h : Sequences s t) : Sequences s t.hkBegin :=
  sequences_put rfl (sequences_modHk ⟨rfl, rfl, rfl⟩ (sequences_hkBoundary h))

theorem sequences_hkLead (h : Sequences s t) : Sequences s t.hkLead := by
  unfold State.hkLead
  dsimp only
  split
  · exact sequences_hkBegin (sequences_put rfl (sequences_modHk ⟨rfl, rfl, rfl⟩ h))
  · exact sequences_put rfl (sequences_modHk ⟨rfl, rfl, rfl⟩ h)

theorem sequences_hkSelect {j : Nat} (h : Sequences s t) : Sequences s (t.hkSelect j) := by
  unfold State.hkSelect
  dsimp only
  split
  · exact sequences_put rfl (sequences_hkShow (sequences_modHk ⟨rfl, rfl, rfl⟩ h))
  · exact sequences_hkLead (sequences_hkShow (sequences_modHk ⟨rfl, rfl, rfl⟩ h))

theorem sequences_hkIdle (h : Sequences s t) : Sequences s t.hkIdle :=
  sequences_put rfl (sequences_modHk ⟨rfl, rfl, rfl⟩ (sequences_hkBoundary h))

theorem sequences_hkFrom {j : Nat} (h : Sequences s t) : Sequences s (t.hkFrom j) := by
  have wrapped : Sequences s (t.wrapInc HK_STAT_pass) := sequences_put rfl h
  unfold State.hkFrom
  dsimp only
  split
  · exact sequences_hkSelect h
  · split
    · exact sequences_hkIdle h
    · exact sequences_hkSelect wrapped

theorem sequences_hkRestart (h : Sequences s t) : Sequences s t.hkRestart := by
  have counted : Sequences s ((t.modHk (fun x => { x with restart := false, exc := 0 })).wrapInc HK_STAT_pass) :=
    sequences_put rfl (sequences_modHk ⟨rfl, rfl, rfl⟩ h)
  unfold State.hkRestart
  dsimp only
  split
  · exact sequences_hkIdle counted
  · exact sequences_hkFrom counted

theorem sequences_hkResume {r : HkResume} (h : Sequences s t) : Sequences s (t.hkResume r) := by
  cases r with
  | idle => exact sequences_hkFrom h
  | next => exact sequences_hkFrom h
  | select => exact sequences_hkFrom h
  | lead =>
    unfold State.hkResume
    dsimp only
    split
    · exact sequences_hkFrom h
    · exact sequences_hkLead (sequences_put rfl h)
  | conv =>
    unfold State.hkResume
    dsimp only
    split
    · exact sequences_hkFrom h
    · exact sequences_hkShow (sequences_modHk ⟨rfl, rfl, rfl⟩ h)

/-- No urgent request runs. -/
def State.urgentOver (s : State) : State := s.modHk (fun g => { g with urgNow := none, urgConverted := false })

theorem sequences_hkUrgentEnd : Sequences s.urgentOver s.hkUrgentEnd := by
  unfold State.hkUrgentEnd
  dsimp only
  split
  · exact sequences_hkRestart sequences_refl
  · split
    · exact sequences_hkResume sequences_refl
    · exact sequences_hkResume sequences_refl

/-! ## The lead time of an urgent pass (R464, R468) -/

theorem State.hkBegin_urgent (h : s.hk.urgNow.isSome = true) : s.hkBegin.rd HK_STAT_state = 5
    ∧ s.hkBegin.rd HK_STAT_entry = s.rd HK_STAT_entry ∧ s.hkBegin.hk.entry = s.hk.entry := by
  have state : (if s.hk.urgNow.isSome then 5 else 4) = 5 := if_pos h
  refine ⟨?_, State.rd_put_beside (by rfl), rfl⟩
  rw [State.hkBegin, state]
  exact State.rd_put_of_lt (by decide) (by decide)

theorem State.hkLead_urgent (h : s.hk.urgNow.isSome = true) : s.hkLead.rd HK_STAT_state = 5
    ∧ s.hkLead.rd HK_STAT_entry = s.rd HK_STAT_entry ∧ s.hkLead.hk.entry = s.hk.entry := by
  have state : (if s.hk.urgNow.isSome then 5 else 3) = 5 := if_pos h
  have beside : ∀ u : State, (u.put HK_STAT_state 5).rd HK_STAT_entry = u.rd HK_STAT_entry := fun _ => State.rd_put_beside (by rfl)
  unfold State.hkLead
  dsimp only
  rw [state]
  split
  · obtain ⟨begun, entry, word⟩ := State.hkBegin_urgent (s := (s.modHk (fun x => { x with
      exc := if entRes s.hk.entry then (HK_ENT_exc 0).get s.hk.entry else 0
      second := false
      inConv := false })).put HK_STAT_state 5) h
    exact ⟨begun, entry.trans (beside _), word⟩
  · exact ⟨State.rd_put_of_lt (by decide) (by decide), beside _, rfl⟩

/-! ## A request in an idle sequencer (R464, R467, R468) -/

theorem regs_hkSetQ {l : List Nat} {q : List Urgent} (hl : HK_URG ∈ l) (h : OnlyRegs l s t) : OnlyRegs l s (t.hkSetQ q) :=
  regs_put hl (regs_modHk h)

/-- A request has been taken off the idle sequencer's queue again, to run. -/
def State.taken (s : State) (u : Urgent) : State := ((s.hkSetQ [u]).modHk (fun h => { h with resume := .idle })).hkSetQ []

theorem regs_taken {u : Urgent} : OnlyRegs [HK_URG] s (s.taken u) :=
  regs_hkSetQ (List.mem_singleton.2 rfl) (regs_modHk (regs_hkSetQ (List.mem_singleton.2 rfl) onlyRegs_refl))

theorem State.hkRequest_idle {u : Urgent} (hs : s.rd HK_STAT_state = 0) (hq : s.hk.urgQ = []) :
    s.hkRequest u = State.hkRun [u] ((s.hkSetQ [u]).modHk (fun h => { h with resume := .idle })) := by
  have queue : (s.hkSetQ [u]).hk.urgQ = [u] := rfl
  unfold State.hkRequest
  dsimp only
  rw [if_pos hs, hq, List.nil_append, State.hkThen, queue, if_pos (List.cons_ne_nil u [])]

/-- The readback of DAC d has begun. -/
def State.readbackBegun (s : State) (d : Nat) : State :=
  ((s.taken (.readback d)).modHk (fun h => { h with
    urgNow := some (.readback d), rbCode := s.dacCode d, rbChanged := false, inConv := false })).put HK_STAT_state 5

theorem State.dacCode_congr {d : Nat} (hr : OnlyRegs [HK_URG] s t) (hc : t.chgs = s.chgs) : t.dacCode d = s.dacCode d := by
  have chg : t.chg d = s.chg d := congrArg (fun m => sparseGet (fun _ => Chg.reset) m d) hc
  have limit : ∀ m, 0x6804 + 0x10 * m ∉ [HK_URG] := fun m => by simp only [List.mem_singleton, HK_URG]; omega
  have low : t.rd (WMN_LIM_lo ((d - 32) / 2)) = s.rd (WMN_LIM_lo ((d - 32) / 2)) := hr.rd (limit _)
  have high : t.rd (WMN_LIM_hi ((d - 32) / 2)) = s.rd (WMN_LIM_hi ((d - 32) / 2)) := hr.rd (limit _)
  unfold State.dacCode
  rw [chg, low, high]

theorem State.hkRequest_readback {d : Nat} (hs : s.rd HK_STAT_state = 0) (hq : s.hk.urgQ = []) :
    s.hkRequest (.readback d) = s.readbackBegun d := by
  have queued : OnlyRegs [HK_URG] s ((s.hkSetQ [.readback d]).modHk (fun h => { h with resume := .idle })) :=
    regs_modHk (regs_hkSetQ (List.mem_singleton.2 rfl) onlyRegs_refl)
  rw [State.hkRequest_idle hs hq, State.hkRun, State.dacCode_congr queued (by rfl)]
  rfl

theorem regs_readbackBegun {d : Nat} : OnlyRegs [HK_STAT, HK_URG] s (s.readbackBegun d) :=
  regs_put (List.mem_cons_self ..) (regs_modHk (onlyRegs_mono (by decide) regs_taken))

/-- The pass of a convert request for entry k has been set up, up to its lead time. -/
def State.convertBegun (s : State) (k : Nat) (cmd : Option CmdRef) : State :=
  ((s.taken (.convert k cmd)).modHk (fun h => { h with
    urgNow := some (.convert k cmd), urgConverted := true, entry := s.reg (HK_ENT k), exc := 0, dirty := false })).hkShow 5 k

theorem HK_ENT_not_mem {l : List Nat} (h : ∀ a ∈ l, a < 0x8100) : HK_ENT k ∉ l := by
  intro hm
  have below := h _ hm
  simp only [HK_ENT] at below
  omega

theorem State.hkRun_convert {cmd : Option CmdRef} {q : List Urgent} (hm : entMode (s.reg (HK_ENT k)) ≠ 0) :
    State.hkRun (.convert k cmd :: q) s = (((s.hkSetQ q).modHk (fun h => { h with
      urgNow := some (.convert k cmd), urgConverted := true, entry := s.reg (HK_ENT k), exc := 0, dirty := false })).hkShow
        5 k).hkLead := by
  rw [State.hkRun.eq_def]
  exact if_neg hm

theorem State.hkRequest_convert {cmd : Option CmdRef} (hs : s.rd HK_STAT_state = 0) (hq : s.hk.urgQ = [])
    (hm : entMode (s.reg (HK_ENT k)) ≠ 0) : s.hkRequest (.convert k cmd) = (s.convertBegun k cmd).hkLead := by
  have queued : OnlyRegs [HK_URG] s ((s.hkSetQ [.convert k cmd]).modHk (fun h => { h with resume := .idle })) :=
    regs_modHk (regs_hkSetQ (List.mem_singleton.2 rfl) onlyRegs_refl)
  have word := queued (HK_ENT k) (HK_ENT_not_mem (by decide))
  rw [State.hkRequest_idle hs hq, State.hkRun_convert (by rw [word]; exact hm), word]
  rfl

theorem regs_convertBegun {cmd : Option CmdRef} : OnlyRegs [HK_STAT, HK_URG] s (s.convertBegun k cmd) :=
  regs_put (List.mem_cons_self ..) (regs_put (List.mem_cons_self ..) (regs_modHk (onlyRegs_mono (by decide) regs_taken)))

/-- An idle sequencer takes a convert request at once (R464, R467). -/
theorem State.hkRequest_convert_shows {cmd : Option CmdRef} (hs : s.rd HK_STAT_state = 0) (hq : s.hk.urgQ = [])
    (hm : entMode (s.reg (HK_ENT k)) ≠ 0) (hk : k < 32) :
    (s.hkRequest (.convert k cmd)).hk.urgNow = some (.convert k cmd) ∧ (s.hkRequest (.convert k cmd)).hk.entry = s.reg (HK_ENT k)
    ∧ (s.hkRequest (.convert k cmd)).hk.urgQ = [] ∧ (s.hkRequest (.convert k cmd)).rd HK_STAT_state = 5
    ∧ (s.hkRequest (.convert k cmd)).rd HK_STAT_entry = k
    ∧ OnlyRegs [HK_STAT, HK_URG] s (s.hkRequest (.convert k cmd)) ∧ (s.hkRequest (.convert k cmd)).host = s.host := by
  have lead : Sequences (s.convertBegun k cmd) (s.convertBegun k cmd).hkLead := sequences_hkLead sequences_refl
  obtain ⟨state, entry, word⟩ := State.hkLead_urgent (s := s.convertBegun k cmd) rfl
  have shown : (s.convertBegun k cmd).rd HK_STAT_entry = k := State.rd_put_of_lt (by decide) hk
  have host : Evolves [.regs, .hk] (s.convertBegun k cmd) (s.convertBegun k cmd).hkLead := ev_hkLead (by decide) (by decide) ev_refl
  rw [State.hkRequest_convert hs hq hm]
  exact ⟨lead.now, word, lead.held, state, entry.trans shown,
    onlyRegs_trans regs_convertBegun (onlyRegs_mono (by decide) lead.regs), host.1 .host (by decide)⟩

end Sys2Proof.Machine
end

section
/-! PROOFS. Urgent requests of the housekeeping bank (spec/11 R467, R471, spec/05 R187, R188, spec/09 R387): convert requests of a command
and of HK_CNOW, readbacks of the DACs, and the obligation `Obligations.HousekeepingUrgent`. -/

namespace Sys2Proof.Machine

variable {s : State} {ref : CmdRef} {c : Cmd} {v : Word}

/-! ## Commands that wait for their block (R383, R384) -/

theorem State.cmd?_of_waits {op : Nat} (h : s.waits ref op = some c) :
    s.cmd? ref = some c ∧ c.ref = ref ∧ opcodeOf c.words = op := by
  obtain ⟨found, ready⟩ := Option.filter_eq_some_iff.1 h
  rw [Bool.and_eq_true, beq_iff_eq] at ready
  exact ⟨found, of_decide_eq_true (List.find?_some found :), ready.2⟩

/-- A command other than CFG_TXN that fails completes with its status and with zeros (R384, R390). -/
theorem completed_fail {op st : Nat} (h : s.waits ref op = some c) (hop : op ≠ 0x04) : Completed s (s.fail ref st) c st 0 0 := by
  obtain ⟨found, rfl, opcode⟩ := State.cmd?_of_waits h
  have dwells : ((s.cmd? c.ref).any (fun d => opcodeOf d.words == 0x04)) = false := by
    rw [found, Option.any_some, opcode, beq_eq_false_iff_ne]
    exact hop
  rw [State.fail, dwells, State.complete, found]
  exact ⟨rfl, rfl⟩

theorem evolves_fail {st : Nat} : Evolves [.host] s (s.fail ref st) := ev_fail (by decide) ev_refl

/-! ## Convert requests of a command (R387, R467) -/

theorem exec_hkConvert_not_ready (hf : s.fabricReady = true) (hw : s.waits ref 0x08 = some c) (hr : s.hkReady = false) :
    exec (.hkConvert ref) s = .next (s.fail ref stNOT_READY) := by
  simp only [exec, execHkConvert, hw, hf, doIf_true, hr, Bool.not_false, if_true]

theorem exec_hkConvert_full (hf : s.fabricReady = true) (hw : s.waits ref 0x08 = some c) (hr : s.hkReady = true)
    (h4 : 4 ≤ s.hkFill) : exec (.hkConvert ref) s = .next (s.fail ref stBUSY) := by
  simp only [exec, execHkConvert, hw, hf, doIf_true, hr, Bool.not_true, Bool.false_eq_true, if_false, if_pos h4]

theorem State.hkFill_of_empty (h : s.hk.urgQ = []) : s.hkFill = 0 := by
  rw [State.hkFill, h, List.countP_nil]

theorem exec_hkConvert_accepted (hf : s.fabricReady = true) (hw : s.waits ref 0x08 = some c) (hr : s.hkReady = true)
    (hq : s.hk.urgQ = []) (hm : entMode (s.reg (HK_ENT (bitsOf (wordAt c.words 1) 0 5))) ≠ 0) :
    exec (.hkConvert ref) s
      = .next ((s.openCmd ref).hkRequest (.convert (bitsOf (wordAt c.words 1) 0 5) (some ref))) := by
  have room : ¬4 ≤ s.hkFill := by rw [State.hkFill_of_empty hq]; decide
  simp only [exec, execHkConvert, hw, hf, doIf_true, hr, Bool.not_true, Bool.false_eq_true, if_false, if_neg room, if_neg hm]

/-! ## HK_CNOW (R471) -/

theorem exec_hkCnowGo {q : Src} (hq : s.serves q = true) : exec (.hkCnowGo q v) s = .next (s.cnowWrite q v) := by
  simp only [exec, execHkCnowGo, hq, doIf_true]

theorem State.cnowWrite_refused {q : Src} (hq : q ≠ .spi) (hg : HK_CNOW_go.get v = 1) :
    s.cnowWrite q v = s.refuseWrite q HK_CNOW := by
  have refused : ((HK_CNOW_go.get v == 1) = true) ∧ q ≠ .spi := ⟨beq_iff_eq.2 hg, hq⟩
  unfold State.cnowWrite
  exact if_pos refused

/-- HK_CNOW with the entry that is asked for, busy. -/
def State.cnowAsked (s : State) (v : Word) : State := (s.put HK_CNOW_entry (HK_CNOW_entry.get v)).putB HK_CNOW_busy true

theorem regs_cnowAsked : OnlyRegs [HK_CNOW] s (s.cnowAsked v) :=
  regs_putB (List.mem_singleton.2 rfl) (regs_put (List.mem_singleton.2 rfl) onlyRegs_refl)

theorem State.cnowAsked_shows : (s.cnowAsked v).flag HK_CNOW_busy = true ∧ (s.cnowAsked v).rd HK_CNOW_entry = HK_CNOW_entry.get v :=
  ⟨State.flag_putB_same (by decide) rfl, (State.rd_putB_beside (by rfl)).trans (State.rd_put_of_lt (by decide) FRef.get_lt)⟩

theorem State.hkReady_congr {t : State} {l : List Nat} (hr : OnlyRegs l s t) (hc : t.clk = s.clk) (h1 : CLK_STAT ∉ l)
    (h2 : GLB_READY ∉ l) : t.hkReady = s.hkReady := by
  unfold State.hkReady
  rw [State.fabricLive_congr hc (hr _ h1), hr.flag (f := GLB_READY_hk) h2]

/-- A go that clears neither done nor aborted, for the bank that has room for it (R471). -/
theorem State.cnowWrite_asks (hr : s.hkReady = true) (hg : HK_CNOW_go.get v = 1) (hd : HK_CNOW_done.get v = 0)
    (ha : HK_CNOW_aborted.get v = 0) (hb : s.flag HK_CNOW_busy = false) (hq : s.hk.urgQ = [])
    (hm : entMode (s.reg (HK_ENT (HK_CNOW_entry.get v))) ≠ 0) :
    s.cnowWrite .spi v = (s.cnowAsked v).hkRequest (.convert (HK_CNOW_entry.get v) none) := by
  have named : OnlyRegs [HK_CNOW] s (s.put HK_CNOW_entry (HK_CNOW_entry.get v)) := regs_put (List.mem_singleton.2 rfl) onlyRegs_refl
  have ready : (s.put HK_CNOW_entry (HK_CNOW_entry.get v)).hkReady = true :=
    (State.hkReady_congr named rfl (by decide) (by decide)).trans hr
  have busy : (s.put HK_CNOW_entry (HK_CNOW_entry.get v)).flag HK_CNOW_busy = false :=
    (State.flag_put_beside (by rfl)).trans hb
  have fill : (s.put HK_CNOW_entry (HK_CNOW_entry.get v)).hkFill = 0 := State.hkFill_of_empty hq
  have mode : (s.put HK_CNOW_entry (HK_CNOW_entry.get v)).reg (HK_ENT (HK_CNOW_entry.get v))
      = s.reg (HK_ENT (HK_CNOW_entry.get v)) := named _ (HK_ENT_not_mem (by decide))
  unfold State.cnowWrite
  simp only [hg, hd, ha, BEq.rfl, ne_eq, not_true_eq_false, and_false, if_false, Nat.reduceBEq, doIf_false, ready, busy, fill,
    mode, bne_iff_ne.2 hm, Bool.not_false, Nat.ofNat_pos, decide_true, Bool.and_self, doIf_true]
  rfl

/-! ## Readbacks of the DACs (R187, R188) -/

theorem exec_dacReadbackDue (hr : s.hkReady = true) (he : s.flag CHG_RB_CFG_rb_en = true) (hn : s.hk.urgNow = none)
    (hq : s.hk.urgQ = []) : exec .dacReadbackDue s = .next (s.hkRequest (.readback s.hk.rbNext)) := by
  simp only [exec, execDacReadbackDue, hr, he, hn, hq, Option.toList_none, List.append_nil, List.any_nil, Bool.not_false,
    Bool.and_self, doIf_true]

/-- The result of a readback of the target DAC of controller n, judged, in CHG_RB (R188, R200). -/
def State.readbackShown (s : State) (n code : Nat) (d : Int) : State :=
  (((s.putB (CHG_RB_valid n) true).putB (CHG_RB_mism n) (!readbackPasses d code)).put (CHG_RB_code n) code).put (CHG_RB_meas n)
    (readbackMeas d)

/-- A mismatch is a detection, and the next DAC follows. -/
def State.readbackJudged (s : State) (n code : Nat) (d : Int) : State :=
  (doIf (!readbackPasses d code) (fun t => t.detect 0x06 3 n 0 code (elemChg n)) (s.readbackShown n code d)).modHk
    (fun h => { h with rbNext := (n + 1) % 40 })

theorem State.judgeReadback_chg {n code : Nat} {d : Int} (hn : n < 32) : s.judgeReadback n code d = s.readbackJudged n code d := by
  unfold State.judgeReadback
  simp only [if_pos hn]
  rfl

theorem readbackMeas_lt {d : Int} : readbackMeas d < 2 ^ 12 := by
  unfold readbackMeas clampInt
  omega

theorem regs_readbackShown {n code : Nat} {d : Int} : OnlyRegs [CHG_RB n] s (s.readbackShown n code d) :=
  regs_put (List.mem_singleton.2 rfl) (regs_put (List.mem_singleton.2 rfl) (regs_putB (List.mem_singleton.2 rfl)
    (regs_putB (List.mem_singleton.2 rfl) onlyRegs_refl)))

theorem State.readbackShown_shows {n code : Nat} {d : Int} : (s.readbackShown n code d).flag (CHG_RB_valid n) = true
    ∧ (s.readbackShown n code d).flag (CHG_RB_mism n) = !readbackPasses d code
    ∧ (s.readbackShown n code d).rd (CHG_RB_meas n) = readbackMeas d := by
  refine ⟨?_, ?_, State.rd_put_of_lt (by simp [CHG_RB_meas]) readbackMeas_lt⟩
  · rw [State.readbackShown, State.flag_put_beside (by rfl), State.flag_put_beside (by rfl), State.flag_putB_beside (by rfl)]
    exact State.flag_putB_same (by simp [CHG_RB_valid]) rfl
  · rw [State.readbackShown, State.flag_put_beside (by rfl), State.flag_put_beside (by rfl)]
    exact State.flag_putB_same (by simp [CHG_RB_mism]) rfl

theorem evolves_readbackJudged {n code : Nat} {d : Int} : Evolves [.hk, .flt] (s.readbackShown n code d) (s.readbackJudged n code d) :=
  ev_modHk (by decide) (fun _ w => w) (ev_doIf (fun _ h => ev_detect (by decide) h) ev_refl)

theorem State.hk_readbackJudged {n code : Nat} {d : Int} :
    (s.readbackJudged n code d).hk = { s.hk with rbNext := (n + 1) % 40 } := by
  have detected : Evolves [.flt] (s.readbackShown n code d)
      (doIf (!readbackPasses d code) (fun t => t.detect 0x06 3 n 0 code (elemChg n)) (s.readbackShown n code d)) :=
    ev_doIf (fun _ h => ev_detect (by decide) h) ev_refl
  exact congrArg (fun h : Hk => { h with rbNext := (n + 1) % 40 }) (detected.1 .hk (by decide))

theorem State.detq_readbackJudged {n code : Nat} {d : Int} : (s.readbackJudged n code d).flt.detq
    = s.flt.detq ++ (if readbackPasses d code then [] else [⟨0x06, 3, n, 0, code, elemChg n⟩]) := by
  unfold State.readbackJudged
  cases readbackPasses d code
  · rfl
  · exact (List.append_nil _).symm

/-- A readback judged and counted, before the sequencer goes on. -/
def State.readbackOver (s : State) (n : Nat) (d : Int) : State :=
  (s.hkBoundary.readbackJudged n s.hk.rbCode d).bump HK_URG_rb_ct 1

theorem evolves_readbackOver {n : Nat} {d : Int} :
    Evolves [.regs] (s.hkBoundary.readbackJudged n s.hk.rbCode d) (s.readbackOver n d) := ev_bump (by decide) ev_refl

theorem State.hk_readbackOver {n : Nat} {d : Int} :
    (s.readbackOver n d).hk = { s.hkBoundary.hk with rbNext := (n + 1) % 40 } :=
  (evolves_readbackOver.1 .hk (by decide)).trans State.hk_readbackJudged

theorem exec_dacReadbackDone {n : Nat} {d : Int} (hr : s.hkReady = true) (hn : s.hk.urgNow = some (.readback n)) (h32 : n < 32)
    (hs : s.rd HK_STAT_state = 5) (hc : s.hk.rbChanged = false) (hq : s.hk.urgQ = []) :
    exec (.dacReadbackDone d) s = .next (s.readbackOver n (clampInt (-8388607) 8388607 d)).hkUrgentEnd := by
  have changed : s.hkBoundary.hk.rbChanged = false := hc
  have queue : (s.readbackOver n (clampInt (-8388607) 8388607 d)).hk.urgQ = [] := by
    rw [State.hk_readbackOver]
    exact hq
  simp only [exec, execDacReadbackDone, hn, hr, hs, BEq.rfl, Bool.and_self, doIf_true, changed, Bool.false_eq_true, if_false,
    State.judgeReadback_chg h32]
  exact congrArg (fun q => Host.Outcome.next (State.hkRun q (s.readbackOver n (clampInt (-8388607) 8388607 d)))) queue

/-- What the end of a readback writes, and what the sequencer's next step leaves of it. -/
theorem State.readbackEnd_shows {n : Nat} {d : Int} (hn : n < 32) :
    (s.readbackOver n d).hkUrgentEnd.flag (CHG_RB_valid n) = true
    ∧ (s.readbackOver n d).hkUrgentEnd.flag (CHG_RB_mism n) = !readbackPasses d s.hk.rbCode
    ∧ (s.readbackOver n d).hkUrgentEnd.rd (CHG_RB_meas n) = readbackMeas d
    ∧ (s.readbackOver n d).hkUrgentEnd.hk.rbNext = (n + 1) % 40 ∧ (s.readbackOver n d).hkUrgentEnd.hk.urgNow = none
    ∧ (s.readbackOver n d).hkUrgentEnd.flt.detq
      = s.flt.detq ++ (if readbackPasses d s.hk.rbCode then [] else [⟨0x06, 3, n, 0, s.hk.rbCode, elemChg n⟩])
    ∧ OnlyRegs [CHG_RB n, HK_STAT, HK_URG] s (s.readbackOver n d).hkUrgentEnd := by
  have ended : Sequences (s.readbackOver n d).urgentOver (s.readbackOver n d).hkUrgentEnd := sequences_hkUrgentEnd
  have judged := evolves_readbackJudged (s := s.hkBoundary) (n := n) (code := s.hk.rbCode) (d := d)
  have after : OnlyRegs [HK_STAT, HK_URG] (s.hkBoundary.readbackShown n s.hk.rbCode d) (s.readbackOver n d).hkUrgentEnd :=
    onlyRegs_trans (regs_bump (by decide) (judged.1.onlyRegs (by decide))) (onlyRegs_mono (by decide) (ended.regs :))
  have apart : CHG_RB n ∉ [HK_STAT, HK_URG] := by
    simp only [List.mem_cons, List.not_mem_nil, or_false, CHG_RB, HK_STAT, HK_URG]
    omega
  have flt : (s.readbackOver n d).hkUrgentEnd.flt = (s.hkBoundary.readbackJudged n s.hk.rbCode d).flt :=
    (ev_hkUrgentEnd (L := [.regs, .hk]) (by decide) (by decide) (ev_mono evolves_readbackOver (by decide))).1 .flt (by decide)
  obtain ⟨valid, mism, meas⟩ := State.readbackShown_shows (s := s.hkBoundary) (n := n) (code := s.hk.rbCode) (d := d)
  refine ⟨(after.flag apart).trans valid, (after.flag apart).trans mism, (after.rd apart).trans meas, ?_, ended.now, ?_, ?_⟩
  · exact ended.nextDac.trans (congrArg Hk.rbNext (State.hk_readbackOver (s := s) (d := d)))
  · rw [flt, State.detq_readbackJudged]
    rfl
  · exact onlyRegs_trans (onlyRegs_mono (fun _ h => List.mem_singleton.1 h ▸ List.mem_cons_self ..)
      (regs_readbackShown (s := s.hkBoundary) :)) (onlyRegs_mono (fun _ h => List.mem_cons_of_mem _ h) after)

/-- Settles O47: a refused request is a failed command or a refused write, an accepted one `State.hkRequest` in an idle sequencer, and
the end of a readback `State.readbackOver`. -/
theorem housekeepingUrgent : Obligations.HousekeepingUrgent := by
  unfold Obligations.HousekeepingUrgent
  refine ⟨?notReady, ?full, ?convert, ?cnow, ?refused, ?due, ?passes, ?mismatch⟩
  case notReady =>
    intro ref c s hf hw hr
    exact ⟨_, exec_hkConvert_not_ready hf hw hr, completed_fail hw (by decide), evolves_fail.1⟩
  case full =>
    intro ref c s hf hw hr h4
    exact ⟨_, exec_hkConvert_full hf hw hr h4, completed_fail hw (by decide), evolves_fail.1⟩
  case convert =>
    intro ref c k s hf hw hr hq hk hm hs
    subst hk
    have below : bitsOf (wordAt c.words 1) 0 5 < 32 := Nat.mod_lt _ (by decide)
    obtain ⟨now, word, held, state, entry, regs, host⟩ :=
      State.hkRequest_convert_shows (s := s.openCmd ref) (cmd := some ref) hs hq hm below
    exact ⟨_, exec_hkConvert_accepted hf hw hr hq hm, now, word, held, state, entry, (congrArg HostIf.cpls host :), regs⟩
  case cnow =>
    intro v s hf hr hg hd ha hb hq hm hs
    have word : (s.cnowAsked v).reg (HK_ENT (HK_CNOW_entry.get v)) = s.reg (HK_ENT (HK_CNOW_entry.get v)) :=
      regs_cnowAsked _ (HK_ENT_not_mem (by decide))
    obtain ⟨now, -, -, -, -, regs, -⟩ := State.hkRequest_convert_shows (s := s.cnowAsked v) (cmd := none)
      ((regs_cnowAsked.rd (by decide)).trans hs) hq (by rw [word]; exact hm) (FRef.get_lt (f := HK_CNOW_entry))
    obtain ⟨busy, entry⟩ := State.cnowAsked_shows (s := s) (v := v)
    refine ⟨_, (exec_hkCnowGo (q := .spi) hf).trans (congrArg _ (State.cnowWrite_asks hr hg hd ha hb hq hm)), ?_, ?_, now, ?_⟩
    · exact (regs.flag (by decide)).trans busy
    · exact (regs.rd (by decide)).trans entry
    · exact onlyRegs_trans (onlyRegs_mono (by decide) regs_cnowAsked) (onlyRegs_mono (by decide) regs)
  case refused =>
    intro q v s hq hspi hg
    exact ⟨_, (exec_hkCnowGo hq).trans (congrArg _ (State.cnowWrite_refused hspi hg)),
      State.onlyChanges_refuseWrite .hk (by decide), regs_refuseWrite (fun _ h => h) onlyRegs_refl⟩
  case due =>
    intro s hr he hn hq hs
    exact ⟨_, (exec_dacReadbackDue hr he hn hq).trans (congrArg _ (State.hkRequest_readback hs hq)), rfl, rfl, rfl,
      State.rd_put_of_lt (by decide) (by decide), regs_readbackBegun⟩
  case passes =>
    intro d n s hr hn h32 hs hc hq hp
    obtain ⟨valid, mism, meas, next, now, detq, regs⟩ :=
      State.readbackEnd_shows (s := s) (d := clampInt (-8388607) 8388607 d) h32
    rw [hp] at mism detq
    exact ⟨_, exec_dacReadbackDone hr hn h32 hs hc hq, valid, mism, meas, next, now, detq.trans (List.append_nil _), regs⟩
  case mismatch =>
    intro d n s hr hn h32 hs hc hq hp
    obtain ⟨-, mism, -, -, -, detq, -⟩ := State.readbackEnd_shows (s := s) (d := clampInt (-8388607) 8388607 d) h32
    rw [hp] at mism detq
    exact ⟨_, exec_dacReadbackDone hr hn h32 hs hc hq, mism, detq⟩

end Sys2Proof.Machine
end

section
/-! PROOFS. What reports through the fabric domain (spec/12 R524, R525, spec/13 R551, R553, R570 to R572, spec/14 R586, R588, R590): the
items that wait in the safety FIFO, the words of a log entry, the ready flag, the start of the domain. -/

namespace Sys2Proof.Machine

variable {s t u : State} {l : List Nat} {code cls kind index sub strikes value : Nat}

/-! ## The safety FIFO (R524, R525, R590) -/

theorem State.pushRec_of_room {r : Rec} (h : s.host.recs.length < 1024) :
    s.pushRec r = s.modHost (fun x => { x with recs := x.recs ++ [r] }) := by
  have room : s.host.recs.length < recFifoSize := h
  simp only [State.pushRec, State.modHost, if_pos room]

/-- The record of a safety report. -/
def State.reportRec (s : State) (ws : List Word) : Rec := ⟨.pf1, s.safRing, 6, ws, none, 0, false⟩

/-- Safety reports that leave add their records in order, where the record FIFO has room for all of them. -/
theorem State.sendReports {ls : List (List Word)} (h : s.host.recs.length + ls.length ≤ 1024) :
    forAll (ls.map SafItem.report) (fun u i => u.sendItem i) s
      = s.modHost (fun x => { x with recs := x.recs ++ ls.map s.reportRec }) := by
  induction ls generalizing s with
  | nil => simp [State.modHost]
  | cons ws ls ih =>
    rw [List.length_cons] at h
    have first : s.sendItem (.report ws) = s.modHost (fun x => { x with recs := x.recs ++ [s.reportRec ws] }) :=
      State.pushRec_of_room (by omega)
    have room : (s.host.recs ++ [s.reportRec ws]).length + ls.length ≤ 1024 := by
      rw [List.length_append, List.length_singleton]
      omega
    rw [List.map_cons, forAll_cons, first, ih room]
    simp only [State.modHost, List.map_cons, List.append_assoc, List.singleton_append]
    rfl

theorem State.recs_queueEvent {ws : List Word} : (s.queueEvent ws).host.recs = s.host.recs := by
  unfold State.queueEvent
  split
  · split <;> rfl
  · rfl

theorem State.evtRing_eventTo {f g : Func} {ws : List Word} :
    (s.eventTo f ws).evtRing g = s.evtRing g := by
  have kept : HIF_FN_CFG (fnIdx g) ∉ eventRegs := by cases g <;> decide
  unfold State.evtRing
  rw [(regs_eventTo_refl (f := f)).rd kept]

/-- An event adds a record for each function, where both event rings are enabled and the record FIFO has room (R404, R428). -/
theorem State.recs_postWords {ws : List Word} (h : s.host.recs.length + 2 ≤ 1024) (h0 : (s.ring (s.evtRing .pf0)).st = .enabled)
    (h1 : (s.ring (s.evtRing .pf1)).st = .enabled) : (s.postWords ws).host.recs
      = s.host.recs ++ [⟨.pf0, s.evtRing .pf0, 3, ws, none, 0, false⟩, ⟨.pf1, s.evtRing .pf1, 3, ws, none, 0, false⟩] := by
  have first : s.eventTo .pf0 ws
      = s.modHost (fun x => { x with recs := x.recs ++ [⟨.pf0, s.evtRing .pf0, 3, ws, none, 0, false⟩] }) :=
    (State.eventTo_enabled h0).trans (State.pushRec_of_room (by omega))
  have ring : (((s.eventTo .pf0 ws)).ring ((s.eventTo .pf0 ws).evtRing .pf1)).st = .enabled := by
    rw [State.evtRing_eventTo, first]
    exact h1
  have room : (s.eventTo .pf0 ws).host.recs.length < 1024 := by
    rw [first]
    simp only [State.modHost, List.length_append, List.length_singleton]
    omega
  rw [State.postWords, State.recs_queueEvent, State.eventTo_enabled ring, State.pushRec_of_room room,
    State.evtRing_eventTo, first]
  simp only [State.modHost, List.append_assoc, List.singleton_append]

theorem State.flushItems_live (h : s.fabricLive = true) : s.flushItems
    = (forAll s.saf.reps (fun u i => u.sendItem i) s).modSaf (fun x => { x with reps := [] }) := by
  rw [State.flushItems, h, doIf_true]

theorem evolves_sendItems {items : List SafItem} : Evolves [.regs, .host] s (forAll items (fun u i => u.sendItem i) s) :=
  ev_forAll (fun _ _ h => ev_sendItem (by decide) (by decide) h) ev_refl

theorem State.saf_flushItems (h : s.fabricLive = true) : s.flushItems.saf = { s.saf with reps := [] } := by
  rw [State.flushItems_live h]
  exact congrArg (fun x : Saf => { x with reps := [] }) (evolves_sendItems.1 .saf (by decide))

theorem regs_sendItem {i : SafItem} (hl : ∀ b ∈ eventRegs, b ∈ l) (h : OnlyRegs l s t) : OnlyRegs l s (t.sendItem i) := by
  cases i with
  | report ws => exact regs_pushRec h
  | event typ index data => exact regs_queueEvent hl (regs_eventTo hl (regs_eventTo hl h))

theorem regs_flushItems (hl : ∀ b ∈ eventRegs, b ∈ l) (h : OnlyRegs l s t) : OnlyRegs l s t.flushItems :=
  regs_doIf (fun _ hu => regs_modSaf (regs_forAll (fun _ _ hv => regs_sendItem hl hv) hu)) h

theorem State.flt_flushItems : s.flushItems.flt = s.flt :=
  (ev_flushItems (L := [.regs, .host, .saf]) (by decide) (by decide) (by decide) ev_refl).1 .flt (by decide)

/-! ## Log entries (R571, R572) -/

theorem State.logWords_cls (hc : code < 256) (hk : cls < 8) :
    (s.logWords code cls kind index sub strikes value).cls = cls := by
  simp only [State.logWords, LogEntry.cls, bitsOf, BitVec.toNat_ofNat]
  omega

theorem State.logWords_value : (s.logWords code cls kind index sub strikes value).w2.toNat / 512 = value % 2 ^ 23 := by
  simp only [State.logWords, BitVec.toNat_ofNat]
  omega

theorem logRoom_of_lt {es : List LogEntry} (h : es.length < 256) : logRoom es = es := if_pos h

theorem regs_log_refl : OnlyRegs logRegs s (s.log code cls kind index sub strikes value) :=
  regs_log (fun _ hb => hb) onlyRegs_refl

theorem evolves_log : Evolves [.regs, .host, .flt] s (s.log code cls kind index sub strikes value) :=
  ev_log (by decide) (by decide) (by decide) ev_refl

theorem State.fabricLive_log : (s.log code cls kind index sub strikes value).fabricLive = s.fabricLive :=
  State.fabricLive_congr (evolves_log.1 .clk (by decide)) (regs_log_refl _ (by decide))

theorem State.log_stopped (h : s.fabricLive = false) : s.log code cls kind index sub strikes value = s :=
  if_neg (Bool.eq_false_iff.1 h)

/-- A log entry of class 5 with its code behind the log as it was (R571, R572). -/
theorem State.log_appends {v : Nat} (hl : s.fabricLive = true) (hc : code < 256) :
    ∃ e : LogEntry, (s.log code 5 kind 0 0 0 v).flt.log = logRoom s.flt.log ++ [e] ∧ e.w0.toNat % 256 = code ∧ e.cls = 5
      ∧ e.w2.toNat / 512 = v % 2 ^ 23 :=
  ⟨_, State.faultLog_log hl, State.logWords_code hc, State.logWords_cls hc (by decide), State.logWords_value⟩

/-! ## The ready flag (R553) -/

/-- A change of ready bits does not take the flag of READY back. -/
theorem irq_setReady_of_set {f : FRef} {v : Bool} (hf : f.addr = GLB_READY) (h : s.flag HIF_IRQ_STAT_ready = true) :
    (s.setReady f v).flag HIF_IRQ_STAT_ready = true := by
  have shown : ((s.putB f v).showCrateReady).flag HIF_IRQ_STAT_ready = true := by
    rw [State.flag_showCrateReady (.inl (by decide)) (.inl (by decide)), State.flag_congr (State.reg_putB_ne (by rw [hf]; decide)), h]
  unfold State.setReady State.changeReady
  split
  · exact shown
  · exact doIf_induction (P := fun t : State => t.flag HIF_IRQ_STAT_ready = true) shown (fun _ => irq_postReady)

theorem evolves_setReady {f : FRef} {v : Bool} : Evolves [.regs, .host] s (s.setReady f v) :=
  ev_setReady (by decide) (by decide) ev_refl

theorem regs_setReady_refl {f : FRef} {v : Bool} (hf : f.addr = GLB_READY) : OnlyRegs readyRegs s (s.setReady f v) :=
  regs_setReady (fun _ hb => hb) (by rw [hf]; decide) onlyRegs_refl

/-! ## The start of the fabric domain (R586) -/

/-- The fabric domain's PLL has locked on the crystal. -/
def State.fabricStarted (s : State) : State := (s.putB CLK_STAT_fpll true).putB CLK_STAT_xtal true

theorem regs_fabricStarted : OnlyRegs [CLK_STAT] s s.fabricStarted :=
  regs_putB (List.mem_singleton.2 rfl) (regs_putB (List.mem_singleton.2 rfl) onlyRegs_refl)

theorem State.fabricLive_fabricStarted (hr : s.running = true) (hx : s.clk.xtalLost = false) : s.fabricStarted.fabricLive = true := by
  have running : s.fabricStarted.running = true := hr
  have crystal : s.fabricStarted.clk.xtalLost = false := hx
  have locked : s.fabricStarted.flag CLK_STAT_fpll = true :=
    (State.flag_putB_beside (by rfl)).trans (State.flag_putB_same (by decide) rfl)
  rw [State.fabricLive, running, crystal, locked]
  rfl

theorem State.xtal_fabricStarted : s.fabricStarted.flag CLK_STAT_xtal = true := State.flag_putB_same (by decide) rfl

theorem exec_fabricPllLock (hr : s.running = true) (hx : s.clk.xtalLost = false) : exec .fabricPllLock s
    = .next (doIf (!s.flag CLK_STAT_fpll) (fun u => u.owedLogs) s.fabricStarted).flushItems := by
  simp only [exec, execFabricPllLock, hr, hx, Bool.not_false, Bool.and_self, doIf_true]
  rfl

theorem exec_fabricPllLock_first (hr : s.running = true) (hx : s.clk.xtalLost = false) (hf : s.flag CLK_STAT_fpll = false) :
    exec .fabricPllLock s = .next s.fabricStarted.owedLogs.flushItems := by
  rw [exec_fabricPllLock hr hx, hf, Bool.not_false, doIf_true]

/-- What the lock logs of the eye-safety set, the burned safety set and an internal fault, each where it was found before. -/
theorem State.owedLogs_fabricStarted : s.fabricStarted.owedLogs
    = doIf (s.rd EYE_LOCK_state == 2) (fun t => t.log 0x52 5 0 0 0 0 0)
      (doIf (s.rd SAF_CTL_otp_state == 2) (fun t => t.log 0x51 5 7 0 0 0 0)
        (doIf (s.rd SAF_STAT_ifault != 0) (fun t => t.log 0x50 5 7 0 0 0 (t.rd SAF_STAT_ifault)) s.fabricStarted)) := by
  rw [State.owedLogs, regs_fabricStarted.rd (by decide), regs_fabricStarted.rd (by decide), regs_fabricStarted.rd (by decide)]

/-- Without anything to log the lock sends what waits, whether the PLL locks for the first time or not. -/
theorem exec_fabricPllLock_clean (hr : s.running = true) (hx : s.clk.xtalLost = false) (he : s.rd EYE_LOCK_state ≠ 2)
    (ho : s.rd SAF_CTL_otp_state ≠ 2) (hi : s.rd SAF_STAT_ifault = 0) :
    exec .fabricPllLock s = .next s.fabricStarted.flushItems := by
  have none : s.fabricStarted.owedLogs = s.fabricStarted := by
    rw [State.owedLogs_fabricStarted, beq_false_of_ne he, beq_false_of_ne ho, hi]
    rfl
  rw [exec_fabricPllLock hr hx]
  cases s.flag CLK_STAT_fpll
  · rw [Bool.not_false, doIf_true, none]
  · rfl

/-- The state after a lock without anything to log (R524, R586). -/
theorem State.fabricStarted_flushItems_shows (hr : s.running = true) (hx : s.clk.xtalLost = false) :
    s.fabricStarted.flushItems.fabricLive = true ∧ s.fabricStarted.flushItems.flag CLK_STAT_xtal = true
    ∧ s.fabricStarted.flushItems.saf = { s.saf with reps := [] } := by
  have live := State.fabricLive_fabricStarted hr hx
  have sent : OnlyRegs eventRegs s.fabricStarted s.fabricStarted.flushItems := regs_flushItems (fun _ h => h) onlyRegs_refl
  have clk : s.fabricStarted.flushItems.clk = s.fabricStarted.clk :=
    (ev_flushItems (L := [.regs, .host, .saf]) (by decide) (by decide) (by decide) ev_refl).1 .clk (by decide)
  exact ⟨(State.fabricLive_congr clk (sent _ (by decide))).trans live, (sent.flag (by decide)).trans State.xtal_fabricStarted,
    State.saf_flushItems live⟩

/-- Reports that waited leave in order at the lock (R524, R590). -/
theorem State.fabricStarted_sendsReports {ls : List (List Word)} (hr : s.running = true) (hx : s.clk.xtalLost = false)
    (hw : s.saf.reps = ls.map SafItem.report) (h : s.host.recs.length + ls.length ≤ 1024) :
    OnlyRegs [CLK_STAT] s s.fabricStarted.flushItems
    ∧ s.fabricStarted.flushItems.host = { s.host with recs := s.host.recs ++ ls.map s.reportRec } := by
  have waits : s.fabricStarted.saf.reps = ls.map SafItem.report := hw
  rw [State.flushItems_live (State.fabricLive_fabricStarted hr hx), waits, State.sendReports (s := s.fabricStarted) h]
  exact ⟨regs_modSaf (regs_modHost regs_fabricStarted), rfl⟩

/-- An event that waited takes its device time at the lock and goes to both event rings (R525). -/
theorem State.fabricStarted_sendsEvent {typ index : Nat} {ws : List Word} (hr : s.running = true) (hx : s.clk.xtalLost = false)
    (hw : s.saf.reps = [.event typ index ws]) (h : s.host.recs.length + 2 ≤ 1024)
    (h0 : (s.ring (s.evtRing .pf0)).st = .enabled) (h1 : (s.ring (s.evtRing .pf1)).st = .enabled) :
    s.fabricStarted.flushItems.host.recs = s.host.recs ++ [⟨.pf0, s.evtRing .pf0, 3, s.eventWords typ 7 index ws, none, 0, false⟩,
      ⟨.pf1, s.evtRing .pf1, 3, s.eventWords typ 7 index ws, none, 0, false⟩] := by
  have waits : s.fabricStarted.saf.reps = [.event typ index ws] := hw
  have words : s.fabricStarted.eventWords typ 7 index ws = s.eventWords typ 7 index ws :=
    State.eventWords_congr rfl (regs_fabricStarted _ (by decide))
  have ring : ∀ f, s.fabricStarted.evtRing f = s.evtRing f := by
    intro f
    have kept : HIF_FN_CFG (fnIdx f) ∉ [CLK_STAT] := by cases f <;> decide
    unfold State.evtRing
    rw [regs_fabricStarted.rd kept]
  have sent := State.recs_postWords (s := s.fabricStarted) (ws := s.eventWords typ 7 index ws) h ((ring .pf0).symm ▸ h0)
    ((ring .pf1).symm ▸ h1)
  rw [ring, ring] at sent
  rw [State.flushItems_live (State.fabricLive_fabricStarted hr hx), waits, forAll_cons, forAll_nil, State.sendItem, words]
  exact sent

end Sys2Proof.Machine
end

section
/-! PROOFS. Blocks that become ready (spec/05 R195, spec/11 R472, spec/12 R518, R523, spec/13 R551, spec/14 R586, R598): the register
fabric with its link, the safety block with its burned set, the housekeeping bank, and the obligation `Obligations.StartUp`. -/

namespace Sys2Proof.Machine

variable {s t u : State} {ws : List (Nat × Word)} {crc : Word} {l : List Nat}

/-! ## The register fabric and the link (R355, R551) -/

theorem regs_showFn {f : Func} (hf : HIF_FN_STAT (fnIdx f) ∈ l) (h : OnlyRegs l s t) : OnlyRegs l s (t.showFn f) :=
  regs_putB hf (regs_putB hf (regs_putB hf h))

/-- HIF_FN_STAT of both functions follows configuration space. -/
def State.showFns (s : State) : State := (s.showFn .pf0).showFn .pf1

theorem regs_showFns : OnlyRegs [HIF_FN_STAT 0, HIF_FN_STAT 1] s s.showFns :=
  regs_showFn (List.mem_cons_of_mem _ (List.mem_cons_self ..)) (regs_showFn (List.mem_cons_self ..) onlyRegs_refl)

theorem State.linkReady_up (h : s.flag HIF_LINK_up = true) : s.linkReady = (s.setReady GLB_READY_link true).showFns := by
  rw [State.linkReady, h, doIf_true]
  rfl

theorem State.linkReady_down (h : s.flag HIF_LINK_up = false) : s.linkReady = s := by
  rw [State.linkReady, h, doIf_false]

theorem exec_registerFabricReady (h : s.fabricLive = true) :
    exec .registerFabricReady s = .next (s.setReady GLB_READY_fabric true).linkReady := by
  simp only [exec, execRegisterFabricReady, h, doIf_true]

/-- The link becoming ready leaves the fabric's ready bit and a raised ready flag. -/
theorem State.linkReady_keeps (hf : s.flag GLB_READY_fabric = true) : s.linkReady.flag GLB_READY_fabric = true
    ∧ (s.flag HIF_IRQ_STAT_ready = true → s.linkReady.flag HIF_IRQ_STAT_ready = true)
    ∧ OnlyRegs (HIF_FN_STAT 0 :: HIF_FN_STAT 1 :: readyRegs) s s.linkReady := by
  cases h : s.flag HIF_LINK_up
  · rw [State.linkReady_down h]
    exact ⟨hf, id, onlyRegs_refl⟩
  · rw [State.linkReady_up h]
    refine ⟨?_, fun hi => ?_, ?_⟩
    · rw [regs_showFns.flag (by decide), flag_setReady_other rfl (by decide) (by decide) (by decide), hf]
    · rw [regs_showFns.flag (by decide), irq_setReady_of_set rfl hi]
    · exact onlyRegs_trans (onlyRegs_mono (by decide) (regs_setReady_refl rfl)) (onlyRegs_mono (by decide) regs_showFns)

theorem State.flag_linkReady_link (h : s.flag HIF_LINK_up = true) : s.linkReady.flag GLB_READY_link = true := by
  rw [State.linkReady_up h, regs_showFns.flag (by decide)]
  exact flag_setReady rfl (by decide) rfl (by decide) (by decide)

/-! ## Churn (R551) -/

theorem exec_churnReady (h : s.fabricReady = true) (hc : s.flag GLB_READY_churn = false) :
    exec .churnReady s = .next (s.clearBanks.setReady GLB_READY_churn true) := by
  simp only [exec, execChurnReady, h, hc, Bool.not_false, Bool.and_self, doIf_true]

theorem State.fabricLive_of_fabricReady (h : s.fabricReady = true) : s.fabricLive = true := by
  simp only [State.fabricReady, Bool.and_eq_true] at h
  exact h.1

/-! ## Start-up of pairs and zones (R499, R512, R514) -/

/-- The status registers of the pairs and zones. -/
def startUpRegs : List Nat := SAF_ZN_SUM :: (pairNos.map SAF_PAIR_STAT ++ zoneNos.map SAF_ZN_STAT)

/-- Start-up of pair i. -/
def State.startPair (s : State) (i : Nat) : State :=
  ((s.put (SAF_PAIR_STAT_state i) 0).modPair i (fun p =>
    { a := { p.a with sawTest := false, missed := false, crossed := false, lowAt := none, sinceTp := 0 }
      b := { p.b with sawTest := false, missed := false, crossed := false, lowAt := none, sinceTp := 0 }
      closedTicks := none, dis := none, recover := 0 })).showPair i

/-- The pairs' own record starts anew. -/
def State.pairsForgotten (s : State) : State :=
  s.modSaf (fun x => { x with srstArmed := false, srstHit := false, srstHigh := 0, cmdReset := 0, stos := [], frame := 0 })

theorem State.startPairs_eq : s.startPairs = forAll pairNos (fun t i => t.startPair i) s.pairsForgotten := rfl

theorem regs_startPair {i : Nat} (hi : SAF_PAIR_STAT i ∈ l) (h : OnlyRegs l s t) : OnlyRegs l s (t.startPair i) :=
  regs_putB hi (regs_putB hi (regs_putB hi (regs_modPair (regs_put hi h))))

theorem State.startPair_state {i : Nat} : (s.startPair i).rd (SAF_PAIR_STAT_state i) = 0 := by
  have fits : (SAF_PAIR_STAT_state i).fits := show 0 + 3 ≤ 32 by decide
  unfold State.startPair State.showPair
  rw [State.rd_putB_beside (by rfl), State.rd_putB_beside (by rfl), State.rd_putB_beside (by rfl)]
  exact State.rd_put_of_lt fits (Nat.two_pow_pos _)

theorem SAF_PAIR_STAT_not_mem {i j : Nat} (h : i ≠ j) : SAF_PAIR_STAT i ∉ [SAF_PAIR_STAT j] := by
  simp only [List.mem_singleton, SAF_PAIR_STAT]
  omega

theorem State.startPairs_state {i : Nat} (hi : i < 8) : s.startPairs.rd (SAF_PAIR_STAT_state i) = 0 := by
  rw [State.startPairs_eq]
  obtain ⟨v, -, last⟩ := forAll_turn (R := fun v w : State => w.rd (SAF_PAIR_STAT_state i) = v.rd (SAF_PAIR_STAT_state i))
    (s := s.pairsForgotten) (f := fun t j => t.startPair j) (fun _ => rfl) (fun _ _ _ h g => g.trans h)
    (List.nodup_range (n := 8)) (List.mem_range.2 hi)
    (fun _ j _ hj => (regs_startPair (List.mem_singleton.2 rfl) onlyRegs_refl).rd (SAF_PAIR_STAT_not_mem (Ne.symm hj)))
  exact last.trans State.startPair_state

/-- Start-up of zone z. -/
def State.startZone (s : State) (z : Nat) : State := (s.setReg (SAF_ZN_STAT z) 0).modZone z (fun _ => Zone.reset)

/-- The zones' own record starts anew. -/
def State.zonesForgotten (s : State) : State :=
  s.modSaf (fun x => { x with lastSeq := none, chkLast := none, sinceSum := 0, arrived := false, timeout := false })

theorem State.startZones_eq : s.startZones = (forAll zoneNos (fun t z => t.startZone z) s.zonesForgotten).showZones := rfl

theorem regs_startZones : OnlyRegs (SAF_ZN_SUM :: zoneNos.map SAF_ZN_STAT) s s.startZones := by
  rw [State.startZones_eq]
  refine regs_put (List.mem_cons_self ..) (regs_put (List.mem_cons_self ..) ?_)
  exact forAll_induction (P := OnlyRegs _ s) (regs_modSaf onlyRegs_refl) (fun _ _ hz hu =>
    regs_modZone (regs_setReg (List.mem_cons_of_mem _ (List.mem_map_of_mem hz)) hu))

theorem regs_startUp : OnlyRegs startUpRegs s s.startUp := by
  have pairs : OnlyRegs startUpRegs s s.startPairs := by
    rw [State.startPairs_eq]
    exact forAll_induction (P := OnlyRegs startUpRegs s) (regs_modSaf onlyRegs_refl) (fun _ _ hi hu =>
      regs_startPair (List.mem_cons_of_mem _ (List.mem_append_left _ (List.mem_map_of_mem hi))) hu)
  exact onlyRegs_trans pairs (onlyRegs_mono (by decide) regs_startZones)

theorem State.startUp_pair {i : Nat} (hi : i < 8) : s.startUp.rd (SAF_PAIR_STAT_state i) = 0 := by
  have apart : SAF_PAIR_STAT i ∉ SAF_ZN_SUM :: zoneNos.map SAF_ZN_STAT := by
    simp only [List.mem_cons, List.mem_map, SAF_PAIR_STAT, SAF_ZN_SUM, SAF_ZN_STAT, not_or, not_exists, not_and]
    exact ⟨by omega, fun z _ => by omega⟩
  exact (regs_startZones.rd apart).trans (State.startPairs_state hi)

theorem State.active_startPair {i : Nat} : (s.startPair i).saf.active = s.saf.active := rfl

theorem State.active_startPairs : s.startPairs.saf.active = s.saf.active := by
  rw [State.startPairs_eq]
  exact forAll_induction (P := fun t : State => t.saf.active = s.saf.active) rfl (fun _ _ _ h => State.active_startPair.trans h)

theorem State.active_startZones : s.startZones.saf.active = s.saf.active := by
  have zones : (forAll zoneNos (fun t z => t.startZone z) s.zonesForgotten).saf.active = s.saf.active :=
    forAll_induction (P := fun t : State => t.saf.active = s.saf.active) rfl (fun _ _ _ h => h)
  rw [State.startZones_eq]
  exact zones

theorem State.active_startUp : s.startUp.saf.active = s.saf.active := State.active_startZones.trans State.active_startPairs

/-! ## The safety block (R518, R523) -/

/-- The burned set has been loaded, where no internal fault came before. -/
def State.setLoaded (s : State) : State := doIf (s.rd SAF_STAT_state == 0) (fun u => u.loadSet) s

/-- The states of the safety block have been noted as shown. -/
def State.statesNoted (s : State) : State := s.modSaf (fun x => { x with shown := s.safStates })

/-- The safety block is ready. -/
def State.safetyStarted (s : State) : State := s.setLoaded.statesNoted.setReady GLB_READY_safety true

theorem exec_safetyBlockReady (hr : s.running = true) (hf : s.flag GLB_READY_safety = false) :
    exec .safetyBlockReady s = .next s.safetyStarted := by
  simp only [exec, execSafetyBlockReady, hr, hf, Bool.not_false, Bool.and_self, doIf_true]
  rfl

theorem State.flag_safetyStarted : s.safetyStarted.flag GLB_READY_safety = true :=
  flag_setReady rfl (by decide) rfl (by decide) (by decide)

/-- After the load the ready bit alone is written, and the states shown are noted. -/
theorem State.safetyStarted_shows : OnlyRegs readyRegs s.setLoaded s.safetyStarted
    ∧ s.safetyStarted.saf.active = s.setLoaded.saf.active ∧ s.safetyStarted.flt = s.setLoaded.flt := by
  have ready : Evolves [.regs, .host] s.setLoaded.statesNoted s.safetyStarted := evolves_setReady
  have saf : s.safetyStarted.saf = s.setLoaded.statesNoted.saf := ready.1 .saf (by decide)
  exact ⟨onlyRegs_trans (regs_modSaf onlyRegs_refl) (regs_setReady_refl rfl), (congrArg Saf.active saf :), ready.1 .flt (by decide)⟩

theorem State.setLoaded_blank (hs : s.rd SAF_STAT_state = 0) (ho : s.otp.saf = none) : s.setLoaded = s.put SAF_STAT_state 1 := by
  rw [State.setLoaded, hs, beq_self_eq_true, doIf_true, State.loadSet, ho]

/-- A burned set is in force, before the start-up of pairs and zones. -/
def State.setInForce (s : State) (ws : List (Nat × Word)) (crc : Word) : State :=
  ((s.activate (setTable ws) crc false).put SAF_CTL_otp_state 1).put SAF_STAT_state 2

theorem State.setLoaded_good (hs : s.rd SAF_STAT_state = 0) (ho : s.otp.saf = some (ws, crc)) (hc : setCrc (setTable ws) = crc) :
    s.setLoaded = (s.setInForce ws crc).startUp := by
  rw [State.setLoaded, hs, beq_self_eq_true, doIf_true, State.loadSet, ho]
  exact if_pos hc

/-- The CRC of a burned set has failed. -/
def State.setBad (s : State) : State := (s.put SAF_CTL_otp_state 2).put SAF_STAT_state 1

theorem State.setLoaded_bad (hs : s.rd SAF_STAT_state = 0) (ho : s.otp.saf = some (ws, crc)) (hc : setCrc (setTable ws) ≠ crc) :
    s.setLoaded = s.setBad.log 0x51 5 7 0 0 0 0 := by
  rw [State.setLoaded, hs, beq_self_eq_true, doIf_true, State.loadSet, ho]
  exact if_neg hc

theorem State.setInForce_shows : (s.setInForce ws crc).rd SAF_STAT_state = 2
    ∧ (s.setInForce ws crc).flag SAF_STAT_cfg_valid = true ∧ (s.setInForce ws crc).rd SAF_CTL_otp_state = 1
    ∧ (s.setInForce ws crc).reg SAF_CRC = crc := by
  refine ⟨State.rd_put_of_lt (by decide) (by decide), ?_, ?_, ?_⟩
  · rw [State.setInForce, State.flag_put_beside (by rfl), State.flag_put_apart (.inl (by decide)), State.activate,
      State.flag_putB_beside (by rfl), State.flag_putB_same (by decide) rfl]
  · rw [State.setInForce, State.rd_put_apart (.inl (by decide)), State.rd_put_of_lt (by decide) (by decide)]
  · rw [State.setInForce, State.reg_put_ne (by decide), State.reg_put_ne (by decide), State.activate, State.reg_putB_ne (by decide),
      State.reg_putB_ne (by decide), State.reg_setReg_same]

theorem State.setBad_shows : s.setBad.rd SAF_STAT_state = 1 ∧ s.setBad.rd SAF_CTL_otp_state = 2
    ∧ OnlyRegs [SAF_STAT, SAF_CTL] s s.setBad ∧ s.setBad.fabricLive = s.fabricLive := by
  have regs : OnlyRegs [SAF_STAT, SAF_CTL] s s.setBad :=
    regs_put (List.mem_cons_self ..) (regs_put (List.mem_cons_of_mem _ (List.mem_cons_self ..)) onlyRegs_refl)
  refine ⟨State.rd_put_of_lt (by decide) (by decide), ?_, regs, State.fabricLive_congr rfl (regs _ (by decide))⟩
  rw [State.setBad, State.rd_put_apart (.inl (by decide)), State.rd_put_of_lt (by decide) (by decide)]

/-! ## The housekeeping bank (R464, R472) -/

/-- The housekeeping bank is ready, before its sequencer starts. -/
def State.hkReadied (s : State) : State := (s.hkBoundary.modHk (fun h => { h with resetting := false })).setReady GLB_READY_hk true

theorem exec_housekeepingReady (hf : s.fabricReady = true) (hr : s.flag GLB_READY_hk = false) (hn : s.hk.resetting = false) :
    exec .housekeepingReady s = .next (s.hkReadied.hkFrom 0) := by
  simp only [exec, execHousekeepingReady, hf, hr, hn, Bool.not_false, Bool.and_self, doIf_true]
  rfl

theorem regs_hkReadied : OnlyRegs readyRegs s s.hkReadied :=
  onlyRegs_trans (regs_modHk (regs_modHk onlyRegs_refl)) (regs_setReady_refl rfl)

/-- With every entry off the sequencer rests (R464). -/
theorem State.hkFrom_off {j : Nat} (h : ∀ i, i < 32 → entMode (s.reg (HK_ENT i)) = 0) : s.hkFrom j = s.hkIdle := by
  have off : (List.range 32).filter (fun i => entMode (s.reg (HK_ENT i)) != 0) = [] := by
    refine List.filter_eq_nil_iff.2 (fun i hi => ?_)
    rw [h i (List.mem_range.1 hi)]
    decide
  unfold State.hkFrom
  rw [off]
  rfl

theorem State.hkIdle_state : s.hkIdle.rd HK_STAT_state = 0 := State.rd_put_of_lt (by decide) (by decide)

/-! ## The obligation -/

/-- The fabric domain has started and an internal fault found before has been logged (R518). -/
def State.faultLogged (s : State) : State := s.fabricStarted.log 0x50 5 7 0 0 0 (s.fabricStarted.rd SAF_STAT_ifault)

/-- Settles O3: each clause is the state that the command's `exec_` lemma names, read off by the lemmas about that state. -/
theorem startUp : Obligations.StartUp := by
  unfold Obligations.StartUp
  refine ⟨?clean, ?eyeLog, ?fabric, ?churn, ?blank, ?housekeeping, ?goodSet, ?badSet, ?badSetStopped, ?setLog, ?faultLog, ?allLogs⟩
  case clean =>
    intro s hr hx he ho hi
    obtain ⟨live, crystal, saf⟩ := State.fabricStarted_flushItems_shows hr hx
    have changes : Evolves [.regs, .host, .saf] s s.fabricStarted.flushItems :=
      ev_flushItems (by decide) (by decide) (by decide) (ev_putB (by decide) (ev_putB (by decide) ev_refl))
    refine ⟨_, exec_fabricPllLock_clean hr hx he ho hi, live, crystal, changes.1, saf, fun hw => ?_, fun ls hw hn => ?_,
      fun typ index ws hw hn h0 h1 => State.fabricStarted_sendsEvent hr hx hw hn h0 h1⟩
    · rw [State.flushItems_live (State.fabricLive_fabricStarted hr hx), show s.fabricStarted.saf.reps = [] from hw, forAll_nil]
      exact ⟨regs_modSaf regs_fabricStarted, rfl⟩
    · exact State.fabricStarted_sendsReports hr hx hw hn
  case eyeLog =>
    intro s hr hx hf he ho hi
    obtain ⟨e, log, code, cls, -⟩ := State.log_appends (s := s.fabricStarted) (code := 0x52) (kind := 0) (v := 0)
      (State.fabricLive_fabricStarted hr hx) (by decide)
    have owed : s.fabricStarted.owedLogs = s.fabricStarted.log 0x52 5 0 0 0 0 0 := by
      rw [State.owedLogs_fabricStarted, he, beq_false_of_ne ho, hi]
      rfl
    refine ⟨_, e, exec_fabricPllLock_first hr hx hf, ?_, code, cls, ?_⟩
    · rw [State.flt_flushItems, owed, log]
      rfl
    · rw [owed]
      exact regs_flushItems (by decide) (regs_log (by decide) (onlyRegs_mono (by decide) regs_fabricStarted))
  case fabric =>
    intro s hl
    have ready : (s.setReady GLB_READY_fabric true).flag GLB_READY_fabric = true :=
      flag_setReady rfl (by decide) rfl (by decide) (by decide)
    have regs : OnlyRegs readyRegs s (s.setReady GLB_READY_fabric true) := regs_setReady_refl rfl
    have up : (s.setReady GLB_READY_fabric true).flag HIF_LINK_up = s.flag HIF_LINK_up := regs.flag (by decide)
    obtain ⟨kept, irq, rest⟩ := State.linkReady_keeps ready
    refine ⟨_, exec_registerFabricReady hl, kept, fun hf => irq ?_, fun h => State.flag_linkReady_link (up.trans h), fun h => ?_, ?_⟩
    · exact irq_setReady rfl (by decide) rfl (by decide) (by decide) (by rw [hf]; decide) hl
    · rw [State.linkReady_down (up.trans h)]
      exact regs
    · exact onlyRegs_trans (onlyRegs_mono (by decide) regs) rest
  case churn =>
    intro s hf hc
    have live : s.clearBanks.fabricLive = true := State.fabricLive_of_fabricReady hf
    have low : s.clearBanks.flag GLB_READY_churn = false := hc
    refine ⟨_, exec_churnReady hf hc, flag_setReady rfl (by decide) rfl (by decide) (by decide), fun c b => ?_, ?_, ?_⟩
    · exact evolves_setReady.1.bankByte (by decide) c b
    · exact irq_setReady rfl (by decide) rfl (by decide) (by decide) (by rw [low]; decide) live
    · exact onlyRegs_trans (regs_clearBanks onlyRegs_refl) (regs_setReady_refl rfl)
  case blank =>
    intro s hr hf
    obtain ⟨regs, -, -⟩ := State.safetyStarted_shows (s := s)
    refine ⟨_, exec_safetyBlockReady hr hf, State.flag_safetyStarted, fun hs ho => ?_, fun hs ho => ?_⟩
    · rw [regs.rd (by decide), State.setLoaded_blank hs ho]
      exact State.rd_put_of_lt (by decide) (by decide)
    · rw [State.setLoaded_blank hs ho] at regs
      exact onlyRegs_trans (regs_put (List.mem_cons_self ..) onlyRegs_refl) (onlyRegs_mono (by decide) regs)
  case housekeeping =>
    intro s hf hr hn
    have steps : Sequences s.hkReadied (s.hkReadied.hkFrom 0) := sequences_hkFrom sequences_refl
    have ready : s.hkReadied.flag GLB_READY_hk = true := flag_setReady rfl (by decide) rfl (by decide) (by decide)
    refine ⟨_, exec_housekeepingReady hf hr hn, (steps.regs.flag (by decide)).trans ready, ?_, fun off => ?_⟩
    · exact onlyRegs_trans (onlyRegs_mono (by decide) regs_hkReadied) (onlyRegs_mono (by decide) steps.regs)
    · have entry : ∀ i, s.hkReadied.reg (HK_ENT i) = s.reg (HK_ENT i) := fun i => regs_hkReadied _ (HK_ENT_not_mem (by decide))
      rw [State.hkFrom_off (fun i hi => by rw [entry, off i hi]), State.hkIdle_state]
  case goodSet =>
    intro ws crc s hr hf hs ho hc
    obtain ⟨regs, active, flt⟩ := State.safetyStarted_shows (s := s)
    obtain ⟨state, valid, otp, code⟩ := State.setInForce_shows (s := s) (ws := ws) (crc := crc)
    have kept : OnlyRegs startUpRegs (s.setInForce ws crc) (s.setInForce ws crc).startUp := regs_startUp
    rw [State.setLoaded_good hs ho hc] at regs active flt
    refine ⟨_, exec_safetyBlockReady hr hf, State.flag_safetyStarted, ?_, ?_, ?_, ?_, active.trans State.active_startUp,
      fun i hi => ?_, ?_⟩
    · rw [regs.rd (by decide), kept.rd (by decide), state]
    · rw [regs.flag (by decide), kept.flag (by decide), valid]
    · rw [regs.rd (by decide), kept.rd (by decide), otp]
    · rw [regs _ (by decide), kept _ (by decide), code]
    · have apart : SAF_PAIR_STAT i ∉ readyRegs := by
        intro hm
        have below : ∀ a ∈ readyRegs, a < 0xa100 := by decide
        have := below _ hm
        simp only [SAF_PAIR_STAT] at this
        omega
      rw [regs.rd apart, State.startUp_pair hi]
    · exact flt.trans ((ev_startUp (L := [.regs, .saf]) (by decide) (by decide) ev_refl).1 .flt (by decide))
  case badSet =>
    intro ws crc s hr hf hl hs ho hc
    obtain ⟨regs, active, flt⟩ := State.safetyStarted_shows (s := s)
    obtain ⟨state, otp, bad, live⟩ := State.setBad_shows (s := s)
    obtain ⟨e, log, code, cls, -⟩ := State.log_appends (s := s.setBad) (code := 0x51) (kind := 7) (v := 0) (live.trans hl) (by decide)
    rw [State.setLoaded_bad hs ho hc] at regs active flt
    refine ⟨_, e, exec_safetyBlockReady hr hf, State.flag_safetyStarted, ?_, ?_, ?_, code, cls, ?_, ?_⟩
    · rw [regs.rd (by decide), regs_log_refl.rd (by decide), state]
    · rw [regs.rd (by decide), regs_log_refl.rd (by decide), otp]
    · rw [flt, log]
      rfl
    · exact onlyRegs_trans (onlyRegs_mono (by decide) bad)
        (onlyRegs_trans (onlyRegs_mono (by decide) regs_log_refl) (onlyRegs_mono (by decide) regs))
    · exact active.trans (congrArg Saf.active (evolves_log.1 .saf (by decide)))
  case badSetStopped =>
    intro ws crc s hr hf hl hs ho hc
    obtain ⟨regs, active, flt⟩ := State.safetyStarted_shows (s := s)
    obtain ⟨state, otp, -, live⟩ := State.setBad_shows (s := s)
    rw [State.setLoaded_bad hs ho hc, State.log_stopped (live.trans hl)] at regs active flt
    exact ⟨_, exec_safetyBlockReady hr hf, (regs.rd (by decide)).trans state, (regs.rd (by decide)).trans otp, flt, active⟩
  case setLog =>
    intro s hr hx hf he ho hi
    obtain ⟨e, log, code, cls, -⟩ := State.log_appends (s := s.fabricStarted) (code := 0x51) (kind := 7) (v := 0)
      (State.fabricLive_fabricStarted hr hx) (by decide)
    have owed : s.fabricStarted.owedLogs = s.fabricStarted.log 0x51 5 7 0 0 0 0 := by
      rw [State.owedLogs_fabricStarted, beq_false_of_ne he, ho, hi]
      rfl
    refine ⟨_, e, exec_fabricPllLock_first hr hx hf, ?_, code, cls⟩
    rw [State.flt_flushItems, owed, log]
    rfl
  case faultLog =>
    intro s hr hx hf he ho hi
    obtain ⟨e, log, code, cls, value⟩ := State.log_appends (s := s.fabricStarted) (code := 0x50) (kind := 7)
      (v := s.fabricStarted.rd SAF_STAT_ifault) (State.fabricLive_fabricStarted hr hx) (by decide)
    have owed : s.fabricStarted.owedLogs = s.fabricStarted.log 0x50 5 7 0 0 0 (s.fabricStarted.rd SAF_STAT_ifault) := by
      rw [State.owedLogs_fabricStarted, beq_false_of_ne he, beq_false_of_ne ho, bne_iff_ne.2 hi]
      rfl
    refine ⟨_, e, exec_fabricPllLock_first hr hx hf, ?_, code, cls, ?_⟩
    · rw [State.flt_flushItems, owed, log]
      rfl
    · have small : s.rd SAF_STAT_ifault < 2 ^ 8 := State.rd_lt
      rw [value, regs_fabricStarted.rd (by decide), Nat.mod_eq_of_lt (by omega)]
  case allLogs =>
    intro s hr hx hf he ho hi hn
    have live := State.fabricLive_fabricStarted hr hx
    obtain ⟨e, first, code, -, -⟩ := State.log_appends (s := s.fabricStarted) (code := 0x50) (kind := 7)
      (v := s.fabricStarted.rd SAF_STAT_ifault) live (by decide)
    obtain ⟨f, second, codeSet, -, -⟩ := State.log_appends (s := s.faultLogged) (code := 0x51) (kind := 7) (v := 0)
      (State.fabricLive_log.trans live) (by decide)
    obtain ⟨g, third, codeEye, -, -⟩ := State.log_appends (s := s.faultLogged.log 0x51 5 7 0 0 0 0) (code := 0x52) (kind := 0) (v := 0)
      (State.fabricLive_log.trans (State.fabricLive_log.trans live)) (by decide)
    have owed : s.fabricStarted.owedLogs = (s.faultLogged.log 0x51 5 7 0 0 0 0).log 0x52 5 0 0 0 0 0 := by
      rw [State.owedLogs_fabricStarted, he, ho, bne_iff_ne.2 hi]
      rfl
    have one : s.faultLogged.flt.log = s.flt.log ++ [e] :=
      first.trans (congrArg (· ++ [e]) (logRoom_of_lt (show s.flt.log.length < 256 by omega)))
    have two : (s.faultLogged.log 0x51 5 7 0 0 0 0).flt.log = s.flt.log ++ [e] ++ [f] := by
      rw [second, one, logRoom_of_lt (by rw [List.length_append, List.length_singleton]; omega)]
    refine ⟨_, e, f, g, exec_fabricPllLock_first hr hx hf, ?_, code, codeSet, codeEye⟩
    rw [State.flt_flushItems, owed, third, two, logRoom_of_lt (by simp only [List.length_append, List.length_singleton]; omega),
      List.append_assoc, List.append_assoc]
    rfl

end Sys2Proof.Machine
end

section
/-! PROOFS. What the motor interface shows (spec/06 R222, R223, R227 to R229, R235, spec/10 R428): which fields the showing of a tick
leaves as they are, what speed and angle depend on, and the events that follow. -/

namespace Sys2Proof.Machine

variable {s t u : State} {f : FRef} {kinds : List Nat}

/-! ## Signed and counted fields -/

theorem clampInt_mem {lo hi i : Int} (h : lo ≤ hi) : lo ≤ clampInt lo hi i ∧ clampInt lo hi i ≤ hi := by
  unfold clampInt
  omega

/-- A two's complement field written with a value that fits it reads that value. -/
theorem State.rdInt_putInt {i : Int} (hf : f.fits) (hw : 0 < f.width) (h1 : -2 ^ (f.width - 1) ≤ i) (h2 : i < 2 ^ (f.width - 1)) :
    (s.putInt f i).rdInt f = i := by
  have double : (2 : Int) ^ f.width = 2 * 2 ^ (f.width - 1) := by
    rw [← pow_succ', Nat.sub_add_cancel hw]
  have half : ((2 ^ (f.width - 1) : Nat) : Int) = 2 ^ (f.width - 1) := by push_cast; rfl
  have full : ((2 ^ f.width : Nat) : Int) = 2 ^ f.width := by push_cast; rfl
  have read : (((s.putInt f i).rd f : Nat) : Int) = i % 2 ^ f.width := by
    have fits : (i % 2 ^ f.width).toNat < 2 ^ f.width := by omega
    rw [State.putInt, State.rd_put_of_lt hf fits]
    omega
  unfold State.rdInt
  rcases lt_or_ge i 0 with neg | pos
  · have : i % 2 ^ f.width = i + 2 ^ f.width := by
      rw [← Int.add_emod_right, Int.emod_eq_of_lt (by omega) (by omega)]
    rw [if_neg (by omega), read]
    omega
  · have : i % 2 ^ f.width = i := Int.emod_eq_of_lt pos (by omega)
    rw [if_pos (by omega), read, this]

theorem State.rd_bump_apart {g : FRef} {n : Nat} (h : g.addr ≠ f.addr ∨ f.apart g) : (s.bump g n).rd f = s.rd f :=
  State.rd_put_apart h

theorem State.flag_putB_apart {g : FRef} {b : Bool} (h : g.addr ≠ f.addr ∨ f.apart g) : (s.putB g b).flag f = s.flag f :=
  State.flag_put_apart h

theorem State.rd_doIf {c : Bool} {g : State → State} : (doIf c g s).rd f = if c then (g s).rd f else s.rd f := by
  cases c <;> rfl

theorem State.flag_doIf {c : Bool} {g : State → State} : (doIf c g s).flag f = if c then (g s).flag f else s.flag f := by
  cases c <;> rfl

/-! ## What a tick writes (R223, R225, R228, R235, R239) -/

theorem State.reversePass_cases : s.reversePass = s ∨ ∃ v p, s.reversePass
    = (s.put MOT_ROUND_round v).modMotor (fun m => { m with passTick := p }) := by
  unfold State.reversePass doIf
  split
  · exact .inl rfl
  · split
    · exact .inr ⟨_, _, rfl⟩
    · exact .inl rfl

theorem regs_reversePass : OnlyRegs [MOT_ROUND] s s.reversePass := by
  obtain h | ⟨v, p, h⟩ := s.reversePass_cases
  · rw [h]
    exact onlyRegs_refl
  · rw [h]
    exact regs_modMotor (regs_put (by decide) onlyRegs_refl)

/-- The registers with given values of what a tick shows. -/
def State.showing (s : State) (angle : Nat) (valid : Bool) (speed : Int) (permit : Bool) (err : Int) : State :=
  (((((s.put MOT_ANGLE_angle angle).putB MOT_ANGLE_valid valid).putB MOT_STATUS_ang_valid valid).putInt MOT_SPEED_spd speed).putB
    MOT_STATUS_permit permit).putInt MOT_SERR_err err

/-- The reported speed with the sign of the direction (R223). -/
def State.signedSpeed (s : State) : Int := if s.flag MOT_STATUS_dir then -(s.speed : Int) else s.speed

theorem State.showMotor_eq : s.showMotor = (s.showing s.reportedAngle s.angleValid (clampInt (-2147483648) 2147483647 s.signedSpeed)
    s.speedPermit s.speedError).modMotor (fun m => { m with
      hold := if s.speedValid && decide (s.reportedAngle ≠ s.alignedAngle) then m.hold else none }) := rfl

section Showing

variable {angle : Nat} {valid permit : Bool} {speed err : Int}

theorem regs_showing : OnlyRegs [MOT_STATUS, MOT_SPEED, MOT_ANGLE, MOT_SERR] s (s.showing angle valid speed permit err) :=
  regs_putInt (by decide) (regs_putB (by decide) (regs_putInt (by decide) (regs_putB (by decide)
    (regs_putB (by decide) (regs_put (by decide) onlyRegs_refl)))))

theorem State.rd_showing (hs : f.addr = MOT_STATUS) (hv : f.beside MOT_STATUS_ang_valid = true)
    (hp : f.beside MOT_STATUS_permit = true) : (s.showing angle valid speed permit err).rd f = s.rd f := by
  have other : ∀ a, a ≠ MOT_STATUS → a ≠ f.addr := fun a ha => by rw [hs]; exact ha
  rw [State.showing, State.putInt, State.rd_put_apart (.inl (other MOT_SERR (by decide))), State.rd_putB_beside hp, State.putInt,
    State.rd_put_apart (.inl (other MOT_SPEED (by decide))), State.rd_putB_beside hv,
    State.rd_putB_apart (.inl (other MOT_ANGLE (by decide))), State.rd_put_apart (.inl (other MOT_ANGLE (by decide)))]

theorem State.showing_shows (h1 : -2 ^ 31 ≤ speed) (h2 : speed < 2 ^ 31) :
    (s.showing angle valid speed permit err).rdInt MOT_SPEED_spd = speed
    ∧ (s.showing angle valid speed permit err).rd MOT_ANGLE_angle = angle % 2 ^ 24
    ∧ (s.showing angle valid speed permit err).flag MOT_ANGLE_valid = valid := by
  have afterSpeed : ∀ v : State, OnlyRegs [MOT_STATUS, MOT_SERR] v ((v.putB MOT_STATUS_permit permit).putInt MOT_SERR_err err) :=
    fun v => regs_putInt (by decide) (regs_putB (by decide) onlyRegs_refl)
  have afterAngle : ∀ v : State, OnlyRegs [MOT_STATUS, MOT_SPEED, MOT_SERR] v ((((v.putB MOT_STATUS_ang_valid valid).putInt
      MOT_SPEED_spd speed).putB MOT_STATUS_permit permit).putInt MOT_SERR_err err) := fun v =>
    regs_putInt (by decide) (regs_putB (by decide) (regs_putInt (by decide) (regs_putB (by decide) onlyRegs_refl)))
  refine ⟨?_, ?_, ?_⟩
  · rw [State.showing, State.rdInt, (afterSpeed _).rd (by decide)]
    exact State.rdInt_putInt (by decide) (by decide) h1 h2
  · rw [State.showing, (afterAngle _).rd (by decide), State.rd_putB_beside (by rfl), State.rd_put_same (by decide)]
    rfl
  · rw [State.showing, (afterAngle _).flag (by decide), State.flag_putB_same (by decide) rfl]

end Showing

theorem regs_showMotor : OnlyRegs [MOT_STATUS, MOT_SPEED, MOT_ANGLE, MOT_SERR] s s.showMotor := by
  rw [State.showMotor_eq]
  exact regs_modMotor regs_showing

/-- A field that neither the showing of a tick nor an event writes. -/
def FRef.unshown (f : FRef) : Bool := decide (f.addr ∉ motorShown ++ eventRegs)
  || (f.addr == MOT_STATUS && f.beside MOT_STATUS_ang_valid && f.beside MOT_STATUS_permit)

theorem State.rd_showMotor (h : f.unshown = true) : s.showMotor.rd f = s.rd f := by
  rw [FRef.unshown, Bool.or_eq_true, Bool.and_eq_true, Bool.and_eq_true, decide_eq_true_eq, beq_iff_eq] at h
  obtain away | ⟨⟨status, valid⟩, permit⟩ := h
  · exact regs_showMotor.rd (fun hm => away (by
      simp only [motorShown, List.mem_append, List.mem_cons, List.not_mem_nil, or_false] at hm ⊢
      tauto))
  · rw [State.showMotor_eq]
    simp only [State.modMotor_keeps]
    exact State.rd_showing status valid permit

theorem State.rd_refreshMotor (h : f.unshown = true) : s.refreshMotor.rd f = s.rd f := by
  refine (State.rd_showMotor h).trans (regs_reversePass.rd (fun hm => ?_))
  have round : f.addr = MOT_ROUND := List.mem_singleton.1 hm
  simp [FRef.unshown, round, motorShown, MOT_ROUND, MOT_STATUS] at h

theorem State.motor_refreshMotor : s.refreshMotor.motor
    = { s.motor with passTick := s.refreshMotor.motor.passTick, hold := s.refreshMotor.motor.hold } := by
  obtain h | ⟨v, p, h⟩ := s.reversePass_cases
  · rw [State.refreshMotor, h]
    rfl
  · rw [State.refreshMotor, h]
    rfl

theorem regs_refreshMotor : OnlyRegs motorShown s s.refreshMotor :=
  onlyRegs_trans (onlyRegs_mono (by decide) regs_reversePass) (onlyRegs_mono (by decide) regs_showMotor)

/-! ## What speed and angle depend on (R218, R222, R223, R226 to R229) -/

/-- The registers that speed and angle are formed from. -/
def motorReads : List Nat := [MOT_CFG, MOT_STATUS, MOT_PERIOD, MOT_IDX_CFG, MOT_FSYNC]

/-- Two states in which speed and angle are formed from the same values. -/
structure SameEstimate (s t : State) : Prop where
  clk : t.clk = s.clk
  edgeTime : t.motor.edgeTime = s.motor.edgeTime
  sEdge : t.motor.sEdge = s.motor.sEdge
  rawBase : t.motor.rawBase = s.motor.rawBase
  offset : t.motor.offset = s.motor.offset
  hold : t.motor.hold = s.motor.hold
  regs : ∀ a ∈ motorReads, t.reg a = s.reg a

namespace SameEstimate

theorem rd (h : SameEstimate s t) (hf : f.addr ∈ motorReads) : t.rd f = s.rd f := State.rd_congr (h.regs _ hf)

theorem flag (h : SameEstimate s t) (hf : f.addr ∈ motorReads) : t.flag f = s.flag f := State.flag_congr (h.regs _ hf)

theorem segments (h : SameEstimate s t) : t.segments = s.segments := by
  rw [State.segments, State.segments, h.rd (by decide)]

theorem theta (h : SameEstimate s t) (j : Nat) : t.theta j = s.theta j := by
  rw [State.theta, State.theta, h.segments]

theorem speedValid (h : SameEstimate s t) : t.speedValid = s.speedValid := by
  rw [State.speedValid, State.speedValid, h.rd (by decide)]

theorem advance (h : SameEstimate s t) (j : Nat) : t.advance j = s.advance j := by
  rw [State.advance, State.advance, h.theta, h.theta, h.clk, h.edgeTime, h.rd (by decide)]

theorem rawAngle (h : SameEstimate s t) : t.rawAngle = s.rawAngle := by
  simp only [State.rawAngle, h.speedValid, h.theta, h.advance, h.rawBase, h.rd (f := MOT_STATUS_seg) (by decide),
    h.flag (f := MOT_STATUS_dir) (by decide)]

theorem alignedAngle (h : SameEstimate s t) : t.alignedAngle = s.alignedAngle := by
  rw [State.alignedAngle, State.alignedAngle, h.rawAngle, h.offset]

theorem reportedAngle (h : SameEstimate s t) : t.reportedAngle = s.reportedAngle := by
  rw [State.reportedAngle, State.reportedAngle, h.alignedAngle, h.hold]

theorem angleValid (h : SameEstimate s t) : t.angleValid = s.angleValid := by
  rw [State.angleValid, State.angleValid, h.speedValid, h.flag (by decide), h.flag (by decide), h.flag (by decide)]

theorem speed (h : SameEstimate s t) : t.speed = s.speed := by
  rw [State.speed, State.speed, h.speedValid, h.clk, h.edgeTime, h.sEdge, h.segments]

end SameEstimate

theorem sameEstimate_of_regs {l : List Nat} (hr : OnlyRegs l s t) (hl : ∀ a ∈ motorReads, a ∉ l) (hc : t.clk = s.clk)
    (hm : t.motor = s.motor) : SameEstimate s t where
  clk := hc
  edgeTime := by rw [hm]
  sEdge := by rw [hm]
  rawBase := by rw [hm]
  offset := by rw [hm]
  hold := by rw [hm]
  regs a ha := hr a (hl a ha)

theorem sameEstimate_reversePass : SameEstimate s s.reversePass := by
  obtain h | ⟨v, p, h⟩ := s.reversePass_cases
  · rw [h]
    exact sameEstimate_of_regs (l := []) onlyRegs_refl (by decide) rfl rfl
  · have regs : OnlyRegs [MOT_ROUND] s s.reversePass := regs_reversePass
    rw [h] at regs ⊢
    exact ⟨rfl, rfl, rfl, rfl, rfl, rfl, fun a ha => regs a ((by decide : ∀ b ∈ motorReads, b ∉ [MOT_ROUND]) a ha)⟩

/-! ## What speed and angle show (R223, R228) -/

theorem State.showMotor_shows : s.showMotor.rdInt MOT_SPEED_spd = clampInt (-2147483648) 2147483647 s.signedSpeed
    ∧ s.showMotor.rd MOT_ANGLE_angle = s.reportedAngle % 2 ^ 24 ∧ s.showMotor.flag MOT_ANGLE_valid = s.angleValid := by
  obtain ⟨low, high⟩ := clampInt_mem (lo := -2147483648) (hi := 2147483647) (i := s.signedSpeed) (by decide)
  rw [State.showMotor_eq]
  simp only [State.modMotor_keeps]
  exact State.showing_shows low (Int.lt_of_le_of_lt high (by decide))

theorem State.spd_refreshMotor : s.refreshMotor.rdInt MOT_SPEED_spd = clampInt (-2147483648) 2147483647 s.signedSpeed := by
  rw [State.refreshMotor, State.showMotor_shows.1, State.signedSpeed, sameEstimate_reversePass.speed,
    sameEstimate_reversePass.flag (by decide), ← State.signedSpeed]

theorem State.angle_refreshMotor : s.refreshMotor.rd MOT_ANGLE_angle = s.reportedAngle % 2 ^ 24
    ∧ s.refreshMotor.flag MOT_ANGLE_valid = s.angleValid := by
  rw [← sameEstimate_reversePass.reportedAngle, ← sameEstimate_reversePass.angleValid]
  exact State.showMotor_shows.2

/-- In every state but VALID the speed is 0 (R219). -/
theorem State.speed_of_not_valid (h : s.rd MOT_STATUS_state ≠ 3) : s.speed = 0 := by
  simp [State.speed, State.speedValid, h]

theorem State.spd_refreshMotor_of_not_valid (h : s.rd MOT_STATUS_state ≠ 3) : s.refreshMotor.rd MOT_SPEED_spd = 0 := by
  have zero : s.refreshMotor.rdInt MOT_SPEED_spd = 0 := by
    rw [State.spd_refreshMotor, State.signedSpeed, State.speed_of_not_valid h]
    cases s.flag MOT_STATUS_dir <;> rfl
  have bound : s.refreshMotor.rd MOT_SPEED_spd < 2 ^ 32 := State.rd_lt
  have width : MOT_SPEED_spd.width = 32 := rfl
  rw [State.rdInt, width] at zero
  split at zero <;> omega

/-! ## The events (R428) -/

/-- The end of an input of the interface: what it shows follows, then its events are posted. -/
def State.refreshed (s : State) (kinds : List Nat) : State := s.refreshMotor.motorEvents kinds

theorem regs_motorEvents : OnlyRegs eventRegs s (s.motorEvents kinds) :=
  regs_forAll (fun _ _ hu => regs_post (fun _ hb => hb) hu) onlyRegs_refl

theorem evolves_motorEvents : Evolves [.regs, .host] s (s.motorEvents kinds) := ev_motorEvents (by decide) (by decide) ev_refl

theorem evolves_refreshMotor : Evolves [.regs, .motor] s s.refreshMotor := ev_refreshMotor (by decide) (by decide) ev_refl

theorem State.rd_refreshed (h : f.unshown = true) : (s.refreshed kinds).rd f = s.rd f := by
  refine (regs_motorEvents.rd (fun hm => ?_)).trans (State.rd_refreshMotor h)
  rw [FRef.unshown, Bool.or_eq_true, Bool.and_eq_true, Bool.and_eq_true, decide_eq_true_eq, beq_iff_eq] at h
  obtain away | ⟨⟨status, -⟩, -⟩ := h
  · exact away (List.mem_append_right _ hm)
  · rw [status] at hm
    exact absurd hm (by decide)

theorem State.flag_refreshed (h : f.unshown = true) : (s.refreshed kinds).flag f = s.flag f := by
  rw [State.flag, State.flag, State.rd_refreshed h]

theorem State.motor_refreshed : (s.refreshed kinds).motor
    = { s.motor with passTick := (s.refreshed kinds).motor.passTick, hold := (s.refreshed kinds).motor.hold } := by
  have same : (s.refreshed kinds).motor = s.refreshMotor.motor := evolves_motorEvents.1 .motor (by decide)
  rw [same]
  exact State.motor_refreshMotor

theorem evolves_refreshed : Evolves [.regs, .motor, .host] s (s.refreshed kinds) :=
  ev_motorEvents (by decide) (by decide) (ev_refreshMotor (by decide) (by decide) ev_refl)

/-- What an input writes, with the tick's showing and its events. -/
theorem regs_refreshed {l : List Nat} (hl : ∀ b ∈ motorRegs, b ∈ l) (h : OnlyRegs l s t) : OnlyRegs l s (t.refreshed kinds) :=
  onlyRegs_trans h (onlyRegs_trans (onlyRegs_mono (fun b hb => hl b (by simp [motorRegs, hb])) regs_refreshMotor)
    (onlyRegs_mono (fun b hb => hl b (by simp [motorRegs, hb])) regs_motorEvents))

/-- Without events an input writes what it shows. -/
theorem regs_refreshed_nil {l : List Nat} (hl : ∀ b ∈ motorShown, b ∈ l) (h : OnlyRegs l s t) : OnlyRegs l s (t.refreshed []) :=
  onlyRegs_trans h (onlyRegs_mono hl regs_refreshMotor)

theorem State.spd_refreshed : (s.refreshed kinds).rdInt MOT_SPEED_spd = clampInt (-2147483648) 2147483647 s.signedSpeed := by
  rw [← State.spd_refreshMotor, State.refreshed, State.rdInt, State.rdInt, regs_motorEvents.rd (by decide)]

/-- The event of an input carries MOT_STATUS and MOT_PERIOD as the tick leaves them. -/
theorem posted_refreshed {k : Nat} (g : OnlyRegs motorRegs s u) (e : Evolves [.regs, .motor] s u) (hl : s.fabricLive = true) :
    Posted s (u.refreshed [k])
      (s.eventWords 0x40 5 0 [w32 k, (u.refreshed [k]).reg MOT_STATUS, (u.refreshed [k]).reg MOT_PERIOD]) := by
  have shown : OnlyRegs motorRegs s u.refreshMotor := onlyRegs_trans g (onlyRegs_mono (by decide) regs_refreshMotor)
  have kept : Evolves [.regs, .motor] s u.refreshMotor := ev_trans e evolves_refreshMotor
  have regsOnly : Evolves [.regs] (s.modMotor (fun _ => u.refreshMotor.motor)) u.refreshMotor := by
    refine ⟨fun p hp => ?_, kept.2⟩
    have same := kept.1 p
    cases p with
    | regs => exact absurd (by decide) hp
    | motor => rfl
    | _ => exact same (by decide)
  rw [State.refreshed, regs_motorEvents MOT_STATUS (by decide), regs_motorEvents MOT_PERIOD (by decide)]
  exact posted_post_after (s := s.modMotor (fun _ => u.refreshMotor.motor)) shown regsOnly hl (by decide)

end Sys2Proof.Machine
end

section
/-! PROOFS. Hall codes (spec/06 R216 to R219, R221 to R224, spec/10 R428): what an accepted code is, how it is taken, how the count is
lost, and what an edge writes. -/

namespace Sys2Proof.Machine

variable {s u : State} {code old : BitVec 3} {held n a b : Nat} {kinds : List Nat}

/-! ## The speed that a tick shows (R223) -/

theorem State.signedSpeed_eq : s.signedSpeed = if s.rd MOT_STATUS_state = 3 then
    (if s.flag MOT_STATUS_dir then -1 else 1) * ((if s.clk.tick ≤ s.motor.edgeTime then s.motor.sEdge
      else min s.motor.sEdge (60000000000 / (s.segments * (s.clk.tick - s.motor.edgeTime))) : Nat) : Int) else 0 := by
  by_cases hv : s.rd MOT_STATUS_state = 3
  · have valid : s.speedValid = true := by simp [State.speedValid, hv]
    rw [State.signedSpeed, State.speed, if_pos valid, if_pos hv]
    cases s.flag MOT_STATUS_dir
    · exact (one_mul _).symm
    · exact (neg_one_mul _).symm
  · rw [State.signedSpeed, State.speed_of_not_valid hv, if_neg hv]
    cases s.flag MOT_STATUS_dir <;> rfl

/-- The speed is that of the time since the last edge, in state VALID alone. -/
theorem State.spd_refreshMotor_eq : s.refreshMotor.rdInt MOT_SPEED_spd = if s.rd MOT_STATUS_state = 3 then
    clampInt (-2 ^ 31) (2 ^ 31 - 1) ((if s.flag MOT_STATUS_dir then -1 else 1) * ((if s.clk.tick ≤ s.motor.edgeTime
      then s.motor.sEdge else min s.motor.sEdge (60000000000 / (s.segments * (s.clk.tick - s.motor.edgeTime))) : Nat) : Int))
    else 0 := by
  rw [State.spd_refreshMotor, State.signedSpeed_eq]
  split <;> rfl

theorem State.spd_refreshed_eq : (s.refreshed kinds).rdInt MOT_SPEED_spd = if s.rd MOT_STATUS_state = 3 then
    clampInt (-2 ^ 31) (2 ^ 31 - 1) ((if s.flag MOT_STATUS_dir then -1 else 1) * ((if s.clk.tick ≤ s.motor.edgeTime
      then s.motor.sEdge else min s.motor.sEdge (60000000000 / (s.segments * (s.clk.tick - s.motor.edgeTime))) : Nat) : Int))
    else 0 := by
  rw [State.spd_refreshed, ← State.spd_refreshMotor, State.spd_refreshMotor_eq]

/-! ## What a code is (R216, R217) -/

theorem hallPos_lt (h : hallPos code = some a) : a < 6 := by
  revert h a
  revert code
  decide

theorem State.hallStepNow_held (h : s.motor.code = some old) : s.hallStepNow code = s.hallStep old code := by
  rw [State.hallStepNow, h]

theorem State.hallStepNow_free (h : s.motor.code = none) : s.hallStepNow code = s.hallStepFree code := by
  rw [State.hallStepNow, h]

theorem State.hallStep_same : s.hallStep code code = .none := by
  rw [State.hallStep, if_pos (by simp [linesChanged])]

theorem State.hallStep_illegal (h : 1 < linesChanged old code) : s.hallStep old code = .illegal := by
  rw [State.hallStep, if_neg (by omega), if_pos h]

theorem State.hallStep_invalid (h : linesChanged old code = 1) (hp : hallPos code = none) : s.hallStep old code = .invalid := by
  rw [State.hallStep, if_neg (by omega), if_neg (by omega), hp]
  cases hallPos old <;> rfl

theorem State.hallStep_edge (h : linesChanged old code = 1) (ha : hallPos old = some a) (hb : hallPos code = some b) :
    s.hallStep old code = .edge (((a + 1) % 6 != b) != s.flag MOT_CFG_rev) := by
  rw [State.hallStep, if_neg (by omega), if_neg (by omega), ha, hb]

theorem State.hallStepFree_valid (h : s.motor.lines.all (fun o => decide (linesChanged o code ≤ 1)) = true)
    (hp : hallPos code = some a) : s.hallStepFree code = .none := by
  unfold State.hallStepFree
  cases hl : s.motor.lines with
  | none => rfl
  | some o =>
    have one : linesChanged o code ≤ 1 := by simpa [hl] using h
    simp [hp, one]

theorem State.hallStepFree_illegal (hl : s.motor.lines = some old) (h : 1 < linesChanged old code) :
    s.hallStepFree code = .illegal := by
  simp [State.hallStepFree, hl, h]

theorem State.hallStepFree_invalid (hl : s.motor.lines = some old) (h : linesChanged old code = 1) (hp : hallPos code = none) :
    s.hallStepFree code = .invalid := by
  simp [State.hallStepFree, hl, h, hp]

/-! ## The accepted code (R215, R217) -/

theorem exec_hallCodeChange (hl : s.timingLive = true) (hn : s.rd MOT_FILT_n_hall ≤ held) :
    exec (.hallCodeChange code held) s = .next ((s.hallAccept code).refreshed (s.hallKinds code)) := by
  simp [exec, execHallCodeChange, hl, hn, State.refreshed]

/-- A code that the filter has not held long enough changes nothing (R215). -/
theorem exec_hallCodeChange_short (hn : held < s.rd MOT_FILT_n_hall) : exec (.hallCodeChange code held) s = .next s := by
  simp [exec, execHallCodeChange, Nat.not_le.2 hn]

/-- The code stands in MOT_STATUS, and the filter holds its lines. -/
def State.filtered (s : State) (code : BitVec 3) : State :=
  (s.put MOT_STATUS_code code.toNat).modMotor (fun m => { m with lines := some code })

theorem State.hallAccept_held (h : s.motor.code = some old) :
    s.hallAccept code = (s.filtered code).hallChange (s.rd MOT_FILT_n_hall) (s.hallStep old code) code := by
  rw [← State.hallStepNow_held h]
  exact if_pos (by rw [h]; rfl)

theorem State.hallAccept_free (h : s.motor.code = none) :
    s.hallAccept code = ((s.filtered code).countStep (s.hallStepFree code)).takeValid code := by
  rw [← State.hallStepNow_free h]
  exact if_neg (by rw [h]; exact Bool.false_ne_true)

theorem regs_filtered : OnlyRegs [MOT_STATUS] s (s.filtered code) := regs_modMotor (regs_put (by decide) onlyRegs_refl)

theorem evolves_filtered : Evolves [.regs, .motor] s (s.filtered code) :=
  ev_modMotor (by decide) (ev_put (by decide) ev_refl)

theorem State.rd_filtered_code : (s.filtered code).rd MOT_STATUS_code = code.toNat :=
  State.rd_put_of_lt (f := MOT_STATUS_code) (by decide) code.isLt

theorem State.rd_filtered {f : FRef} (h : f.beside MOT_STATUS_code = true) : (s.filtered code).rd f = s.rd f :=
  State.rd_put_beside (g := MOT_STATUS_code) h

theorem State.flag_filtered {f : FRef} (h : f.beside MOT_STATUS_code = true) : (s.filtered code).flag f = s.flag f := by
  rw [State.flag, State.flag, State.rd_filtered h]

/-! ## A change that is no edge (R217) -/

theorem regs_countStep {k : HallStep} : OnlyRegs [MOT_ERR_A] s (s.countStep k) := by
  unfold State.countStep
  cases k with
  | illegal => exact regs_bump (by decide) onlyRegs_refl
  | invalid => exact regs_bump (by decide) onlyRegs_refl
  | none => exact onlyRegs_refl
  | edge reverse => exact onlyRegs_refl

theorem State.motor_countStep {k : HallStep} : (s.countStep k).motor = s.motor :=
  (ev_countStep (L := [.regs]) (by decide) ev_refl).1 .motor (by decide)

theorem State.countStep_illegal : (s.countStep .illegal).rd MOT_ERR_A_illegal = min (s.rd MOT_ERR_A_illegal + 1) 255 :=
  State.rd_bump_same (by decide)

theorem State.countStep_invalid : (s.countStep .invalid).rd MOT_ERR_A_inv_code = min (s.rd MOT_ERR_A_inv_code + 1) 255 :=
  State.rd_bump_same (by decide)

theorem regs_filtered_countStep {k : HallStep} : OnlyRegs [MOT_STATUS, MOT_ERR_A] s ((s.filtered code).countStep k) :=
  onlyRegs_trans (onlyRegs_mono (by decide) regs_filtered) (onlyRegs_mono (by decide) regs_countStep)

/-! ## The count is lost (R219) -/

/-- The code with which the count is lost, none where it is invalid. -/
def validCode (code : BitVec 3) : Option (BitVec 3) := if (hallPos code).isSome then some code else none

theorem isSome_validCode : (validCode code).isSome = (hallPos code).isSome := by
  unfold validCode
  split <;> simp_all

/-- The state after a change that loses the count. -/
def State.lost (s : State) (code : BitVec 3) (k : HallStep) : State := ((s.filtered code).loseCount (validCode code)).countStep k

theorem State.hallAccept_illegal (h : s.motor.code = some old) (hl : 1 < linesChanged old code) :
    s.hallAccept code = s.lost code .illegal := by
  rw [State.hallAccept_held h, State.hallStep_illegal hl]
  rfl

theorem State.hallAccept_invalid (h : s.motor.code = some old) (hl : linesChanged old code = 1) (hp : hallPos code = none) :
    s.hallAccept code = s.lost code .invalid := by
  rw [State.hallAccept_held h, State.hallStep_invalid hl hp]
  rfl

theorem regs_loseCount {c : Option (BitVec 3)} : OnlyRegs [MOT_STATUS] s (s.loseCount c) :=
  regs_modMotor (regs_putB (by decide) (regs_put (by decide) onlyRegs_refl))

theorem State.loseCount_shows {c : Option (BitVec 3)} : (s.loseCount c).rd MOT_STATUS_state = (if c.isSome then 4 else 0)
    ∧ (s.loseCount c).flag MOT_STATUS_aligned = false ∧ (s.loseCount c).rd MOT_STATUS_seg = s.rd MOT_STATUS_seg
    ∧ (s.loseCount c).motor.code = c := by
  rw [State.loseCount]
  simp only [State.modMotor_keeps, and_true]
  refine ⟨?_, State.flag_putB_same (by decide) rfl, ?_⟩
  · rw [State.rd_putB_beside (by rfl)]
    exact State.rd_put_of_lt (by decide) (by split <;> decide)
  · rw [State.rd_putB_beside (by rfl), State.rd_put_beside (by rfl)]

theorem regs_lost {k : HallStep} : OnlyRegs [MOT_STATUS, MOT_ERR_A] s (s.lost code k) :=
  onlyRegs_trans (onlyRegs_mono (by decide) (onlyRegs_trans regs_filtered regs_loseCount)) (onlyRegs_mono (by decide) regs_countStep)

theorem evolves_lost {k : HallStep} : Evolves [.regs, .motor] s (s.lost code k) :=
  ev_countStep (by decide) (ev_loseCount (by decide) (by decide) evolves_filtered)

theorem State.lost_shows {k : HallStep} : (s.lost code k).rd MOT_STATUS_state = (if (hallPos code).isSome then 4 else 0)
    ∧ (s.lost code k).flag MOT_STATUS_aligned = false ∧ (s.lost code k).rd MOT_STATUS_seg = s.rd MOT_STATUS_seg
    ∧ (s.lost code k).motor.code = validCode code := by
  obtain ⟨state, aligned, seg, held⟩ := State.loseCount_shows (s := s.filtered code) (c := validCode code)
  rw [isSome_validCode] at state
  exact ⟨(regs_countStep.rd (by decide)).trans state, (regs_countStep.flag (by decide)).trans aligned,
    (regs_countStep.rd (by decide)).trans (seg.trans (State.rd_filtered (by rfl))),
    (congrArg Motor.code State.motor_countStep).trans held⟩

theorem State.lost_counts : (s.lost code .illegal).rd MOT_ERR_A_illegal = min (s.rd MOT_ERR_A_illegal + 1) 255
    ∧ (s.lost code .invalid).rd MOT_ERR_A_inv_code = min (s.rd MOT_ERR_A_inv_code + 1) 255 := by
  have before : OnlyRegs [MOT_STATUS] s ((s.filtered code).loseCount (validCode code)) := onlyRegs_trans regs_filtered regs_loseCount
  constructor
  · rw [State.lost, State.countStep_illegal, before.rd (by decide)]
  · rw [State.lost, State.countStep_invalid, before.rd (by decide)]

/-! ## A code is taken (R217 to R219) -/

/-- The first code of an acquisition, its ready bit still to be set. -/
def State.firstCode (s : State) (code : BitVec 3) (pos : Nat) : State :=
  ((s.put MOT_STATUS_seg pos).put MOT_STATUS_state 1).modMotor (fun m => { m with
    code := some code, everCode := true, rawBase := s.theta pos, standFrom := s.clk.tick })

/-- A code after a loss. -/
def State.laterCode (s : State) (code : BitVec 3) : State :=
  (s.put MOT_STATUS_state 4).modMotor (fun m => { m with
    code := some code, rawBase := s.theta (s.rd MOT_STATUS_seg), standFrom := s.clk.tick })

theorem State.takeCode_first (h : s.motor.everCode = false) : s.takeCode code a = (s.firstCode code a).setReady GLB_READY_motor true :=
  if_neg (by rw [h]; exact Bool.false_ne_true)

theorem State.takeCode_later (h : s.motor.everCode = true) : s.takeCode code a = s.laterCode code := if_pos h

theorem State.takeValid_valid (h : hallPos code = some a) : s.takeValid code = s.takeCode code a := by
  rw [State.takeValid, h]

theorem State.takeValid_invalid (h : hallPos code = none) : s.takeValid code = s := by
  rw [State.takeValid, h]

theorem regs_firstCode : OnlyRegs [MOT_STATUS] s (s.firstCode code a) :=
  regs_modMotor (regs_put (by decide) (regs_put (by decide) onlyRegs_refl))

theorem regs_laterCode : OnlyRegs [MOT_STATUS] s (s.laterCode code) := regs_modMotor (regs_put (by decide) onlyRegs_refl)

theorem State.firstCode_shows (ha : a < 6) : (s.firstCode code a).rd MOT_STATUS_state = 1
    ∧ (s.firstCode code a).rd MOT_STATUS_seg = a ∧ (s.firstCode code a).rd MOT_STATUS_code = s.rd MOT_STATUS_code := by
  have small : a < 2 ^ MOT_STATUS_seg.width := lt_trans ha (by decide)
  rw [State.firstCode]
  simp only [State.modMotor_keeps]
  refine ⟨State.rd_put_of_lt (by decide) (by decide), ?_, ?_⟩
  · rw [State.rd_put_beside (by rfl), State.rd_put_of_lt (by decide) small]
  · rw [State.rd_put_beside (by rfl), State.rd_put_beside (by rfl)]

theorem State.laterCode_shows : (s.laterCode code).rd MOT_STATUS_state = 4
    ∧ (s.laterCode code).rd MOT_STATUS_seg = s.rd MOT_STATUS_seg := by
  rw [State.laterCode]
  simp only [State.modMotor_keeps]
  exact ⟨State.rd_put_of_lt (by decide) (by decide), State.rd_put_beside (by rfl)⟩

/-- The ready bit is set after the code is taken: nothing of the interface changes with it. -/
theorem State.motor_setReady {f : FRef} {v : Bool} : (s.setReady f v).motor = s.motor := evolves_setReady.1 .motor (by decide)

theorem regs_takeCode : OnlyRegs (MOT_STATUS :: readyRegs) s (s.takeCode code a) := by
  by_cases h : s.motor.everCode = true
  · rw [State.takeCode_later h]
    exact onlyRegs_mono (by decide) regs_laterCode
  · rw [State.takeCode_first (Bool.eq_false_of_not_eq_true h)]
    exact onlyRegs_trans (onlyRegs_mono (by decide) regs_firstCode) (onlyRegs_mono (by decide) (regs_setReady_refl rfl))

theorem State.motor_takeCode : (s.takeCode code a).motor.code = some code ∧ (s.takeCode code a).motor.lines = s.motor.lines := by
  by_cases h : s.motor.everCode = true
  · rw [State.takeCode_later h]
    exact ⟨rfl, rfl⟩
  · rw [State.takeCode_first (Bool.eq_false_of_not_eq_true h), State.motor_setReady]
    exact ⟨rfl, rfl⟩

theorem regs_takeValid : OnlyRegs (MOT_STATUS :: readyRegs) s (s.takeValid code) := by
  cases hp : hallPos code with
  | none =>
    rw [State.takeValid_invalid hp]
    exact onlyRegs_refl
  | some p =>
    rw [State.takeValid_valid hp]
    exact regs_takeCode

theorem State.motor_takeValid (h : s.motor.code = none) : ((s.takeValid code).motor.code.isSome = (hallPos code).isSome)
    ∧ (s.takeValid code).motor.lines = s.motor.lines := by
  cases hp : hallPos code with
  | none =>
    rw [State.takeValid_invalid hp, h]
    exact ⟨rfl, rfl⟩
  | some p =>
    rw [State.takeValid_valid hp, State.motor_takeCode.1, State.motor_takeCode.2]
    exact ⟨rfl, rfl⟩

/-! ## An edge (R217 to R224) -/

/-- The interface after an edge that leads to the segment j' and the state st'. -/
def State.motorAtEdge (s : State) (n : Nat) (code : BitVec 3) (reverse : Bool) (j' st' : Nat) : Motor :=
  { s.motor with
    code := some code, edgeTime := s.clk.tick + 1 - n, edgeAccept := s.clk.tick, edgeN := n, hasEdge := true, standFrom := s.clk.tick
    sEdge := if st' = 3 then 60000000000 / (s.segments * s.periodOf n) else 0
    rawBase := if reverse then s.theta (j' + 1) else s.theta j'
    hold := if st' = 3 then s.motor.hold else none
    fwdCount := if reverse then s.motor.fwdCount else s.motor.fwdCount + 1 }

/-- Segment, direction and state after an edge. -/
def State.stepped (s : State) (j' st' : Nat) (reverse : Bool) (m : Motor) : State :=
  (((s.put MOT_STATUS_seg j').putB MOT_STATUS_dir reverse).put MOT_STATUS_state st').modMotor (fun _ => m)

/-- The period of an edge, a reversal and a jump are noted. -/
def State.noted (s : State) (period : Option Nat) (turned jumped : Bool) : State :=
  doIf jumped (fun t => t.bump MOT_ERR_B_jump_ct 1) (doIf turned (fun t => (t.putB MOT_STATUS_dir_chg true).bump MOT_ERR_B_rev_ct 1)
    (doIf period.isSome (fun t => t.put MOT_PERIOD_period (period.getD 0)) s))

/-- The segment that an edge leads to (R218). -/
def State.nextSeg (s : State) (reverse : Bool) : Nat :=
  if reverse then (s.rd MOT_STATUS_seg + s.segments - 1) % s.segments else (s.rd MOT_STATUS_seg + 1) % s.segments

/-- The state that an edge leads to (R219). -/
def State.nextState (s : State) (reverse : Bool) : Nat := edgeState (s.rd MOT_STATUS_state) (!s.turns reverse)

theorem State.hallEdge_eq {reverse : Bool} : s.hallEdge n code reverse
    = (s.stepped (s.nextSeg reverse) (s.nextState reverse) reverse
        (s.motorAtEdge n code reverse (s.nextSeg reverse) (s.nextState reverse))).noted
      (if s.motor.hasEdge then some (s.periodOf n) else none) (s.turns reverse) (s.jumps n) := by
  rw [State.noted]
  cases he : s.motor.hasEdge <;> rw [State.hallEdge, he] <;> rfl

section Noted

variable {p : Option Nat} {x y : Bool}

theorem regs_noted : OnlyRegs [MOT_STATUS, MOT_PERIOD, MOT_ERR_B] s (s.noted p x y) :=
  regs_doIf (fun _ hu => regs_bump (by decide) hu) (regs_doIf (fun _ hu => regs_bump (by decide) (regs_putB (by decide) hu))
    (regs_doIf (fun _ hu => regs_put (by decide) hu) onlyRegs_refl))

theorem evolves_noted : Evolves [.regs] s (s.noted p x y) :=
  ev_doIf (fun _ hu => ev_bump (by decide) hu) (ev_doIf (fun _ hu => ev_bump (by decide) (ev_putB (by decide) hu))
    (ev_doIf (fun _ hu => ev_put (by decide) hu) ev_refl))

/-- Of MOT_STATUS only the reversal is noted. -/
theorem State.rd_noted {f : FRef} (ha : f.addr = MOT_STATUS) (hb : f.beside MOT_STATUS_dir_chg = true) :
    (s.noted p x y).rd f = s.rd f := by
  have other : ∀ c, c ≠ MOT_STATUS → c ≠ f.addr := fun c hc => by rw [ha]; exact hc
  have errB := other MOT_ERR_B (by decide)
  rw [State.noted, State.rd_doIf, State.rd_bump_apart (.inl errB), ite_self, State.rd_doIf, State.rd_bump_apart (.inl errB),
    State.rd_putB_beside hb, ite_self, State.rd_doIf, State.rd_put_apart (.inl (other MOT_PERIOD (by decide))), ite_self]

theorem State.flag_noted_dir_chg : (s.noted p x y).flag MOT_STATUS_dir_chg = (x || s.flag MOT_STATUS_dir_chg) := by
  have status : ∀ v : State, (v.bump MOT_ERR_B_rev_ct 1).flag MOT_STATUS_dir_chg = v.flag MOT_STATUS_dir_chg
      ∧ (v.bump MOT_ERR_B_jump_ct 1).flag MOT_STATUS_dir_chg = v.flag MOT_STATUS_dir_chg := fun v =>
    ⟨State.flag_put_apart (.inl (by decide)), State.flag_put_apart (.inl (by decide))⟩
  rw [State.noted, State.flag_doIf, (status _).2, ite_self, State.flag_doIf, (status _).1, State.flag_putB_same (by decide) rfl,
    State.flag_doIf, State.flag_put_apart (.inl (by decide)), ite_self]
  cases x <;> rfl

theorem State.noted_counts : (s.noted p x y).rd MOT_ERR_B_rev_ct
      = (if x then min (s.rd MOT_ERR_B_rev_ct + 1) (2 ^ MOT_ERR_B_rev_ct.width - 1) else s.rd MOT_ERR_B_rev_ct)
    ∧ (s.noted p x y).rd MOT_ERR_B_jump_ct
      = (if y then min (s.rd MOT_ERR_B_jump_ct + 1) (2 ^ MOT_ERR_B_jump_ct.width - 1) else s.rd MOT_ERR_B_jump_ct) := by
  have first : ∀ f : FRef, f.addr = MOT_ERR_B → (doIf p.isSome (fun t => t.put MOT_PERIOD_period (p.getD 0)) s).rd f = s.rd f :=
    fun f hf => by rw [State.rd_doIf, State.rd_put_apart (.inl (by rw [hf]; decide)), ite_self]
  constructor
  · rw [State.noted, State.rd_doIf, State.rd_bump_apart (.inr (by decide)), ite_self, State.rd_doIf, State.rd_bump_same (by decide),
      State.rd_putB_apart (.inl (by decide)), first _ rfl]
  · have second : (doIf x (fun t => (t.putB MOT_STATUS_dir_chg true).bump MOT_ERR_B_rev_ct 1)
        (doIf p.isSome (fun t => t.put MOT_PERIOD_period (p.getD 0)) s)).rd MOT_ERR_B_jump_ct = s.rd MOT_ERR_B_jump_ct := by
      rw [State.rd_doIf, State.rd_bump_apart (.inr (by decide)), State.rd_putB_apart (.inl (by decide)), first _ rfl, ite_self]
    rw [State.noted, State.rd_doIf, State.rd_bump_same (by decide), second]

theorem State.noted_period {q : Nat} (hq : q < 2 ^ 32) : (s.noted (some q) x y).rd MOT_PERIOD_period = q := by
  rw [State.noted, State.rd_doIf, State.rd_bump_apart (.inl (by decide)), ite_self, State.rd_doIf,
    State.rd_bump_apart (.inl (by decide)), State.rd_putB_apart (.inl (by decide)), ite_self]
  exact State.rd_put_of_lt (by decide) hq

end Noted

theorem regs_stepped {j' st' : Nat} {reverse : Bool} {m : Motor} : OnlyRegs [MOT_STATUS] s (s.stepped j' st' reverse m) :=
  regs_modMotor (regs_put (by decide) (regs_putB (by decide) (regs_put (by decide) onlyRegs_refl)))

theorem State.stepped_shows {j' st' : Nat} {reverse : Bool} {m : Motor} (hj : j' < 128) (hst : st' < 8) :
    (s.stepped j' st' reverse m).rd MOT_STATUS_seg = j' ∧ (s.stepped j' st' reverse m).flag MOT_STATUS_dir = reverse
    ∧ (s.stepped j' st' reverse m).rd MOT_STATUS_state = st'
    ∧ (s.stepped j' st' reverse m).flag MOT_STATUS_dir_chg = s.flag MOT_STATUS_dir_chg := by
  rw [State.stepped]
  simp only [State.modMotor_keeps]
  refine ⟨?_, ?_, State.rd_put_of_lt (by decide) hst, ?_⟩
  · rw [State.rd_put_beside (by rfl), State.rd_putB_beside (by rfl), State.rd_put_of_lt (by decide) hj]
  · rw [State.flag_put_beside (by rfl), State.flag_putB_same (by decide) rfl]
  · rw [State.flag_put_beside (by rfl), State.flag_putB_beside (by rfl), State.flag_put_beside (by rfl)]

theorem State.nextSeg_lt {reverse : Bool} : s.nextSeg reverse < 128 := by
  have pp : s.rd MOT_CFG_pp < 2 ^ 4 := State.rd_lt
  have pos : 0 < s.segments := by unfold State.segments; omega
  have small : s.segments ≤ 128 := by unfold State.segments; omega
  unfold State.nextSeg
  split
  · exact lt_of_lt_of_le (Nat.mod_lt _ pos) small
  · exact lt_of_lt_of_le (Nat.mod_lt _ pos) small

theorem State.nextState_eq {reverse : Bool} : s.nextState reverse
    = if (s.rd MOT_STATUS_state = 2 ∨ s.rd MOT_STATUS_state = 3) ∧ s.flag MOT_STATUS_dir = reverse then 3 else 2 := by
  simp [State.nextState, edgeState, State.turns]

theorem State.nextState_lt {reverse : Bool} : s.nextState reverse < 8 := by
  rw [State.nextState_eq]
  split <;> decide

theorem State.periodOf_lt : s.periodOf n < 2 ^ 32 := by
  unfold State.periodOf
  omega

theorem regs_hallEdge {reverse : Bool} : OnlyRegs [MOT_STATUS, MOT_PERIOD, MOT_ERR_B] s (s.hallEdge n code reverse) := by
  rw [State.hallEdge_eq]
  exact onlyRegs_trans (onlyRegs_mono (by decide) regs_stepped) regs_noted

theorem State.motor_hallEdge {reverse : Bool} : (s.hallEdge n code reverse).motor
    = s.motorAtEdge n code reverse (s.nextSeg reverse) (s.nextState reverse) := by
  rw [State.hallEdge_eq]
  exact evolves_noted.1 .motor (by decide)

theorem State.hallEdge_shows {reverse : Bool} : (s.hallEdge n code reverse).rd MOT_STATUS_seg = s.nextSeg reverse
    ∧ (s.hallEdge n code reverse).flag MOT_STATUS_dir = reverse
    ∧ (s.hallEdge n code reverse).rd MOT_STATUS_state = s.nextState reverse := by
  obtain ⟨seg, dir, state, -⟩ := State.stepped_shows (s := s) (reverse := reverse) (m := s.motorAtEdge n code reverse
    (s.nextSeg reverse) (s.nextState reverse)) s.nextSeg_lt s.nextState_lt
  rw [State.hallEdge_eq]
  refine ⟨(State.rd_noted rfl (by rfl)).trans seg, ?_, (State.rd_noted rfl (by rfl)).trans state⟩
  rw [State.flag, State.rd_noted rfl (by rfl)]
  exact dir

/-- A reversal is noted and counted, a jump is counted (R221, R224). -/
theorem State.hallEdge_notes {reverse : Bool} :
    (s.hallEdge n code reverse).flag MOT_STATUS_dir_chg = (s.turns reverse || s.flag MOT_STATUS_dir_chg)
    ∧ (s.hallEdge n code reverse).rd MOT_ERR_B_rev_ct = (if s.turns reverse then
        min (s.rd MOT_ERR_B_rev_ct + 1) (2 ^ MOT_ERR_B_rev_ct.width - 1) else s.rd MOT_ERR_B_rev_ct)
    ∧ (s.hallEdge n code reverse).rd MOT_ERR_B_jump_ct = (if s.jumps n then
        min (s.rd MOT_ERR_B_jump_ct + 1) (2 ^ MOT_ERR_B_jump_ct.width - 1) else s.rd MOT_ERR_B_jump_ct) := by
  obtain ⟨-, -, -, note⟩ := State.stepped_shows (s := s) (reverse := reverse) (m := s.motorAtEdge n code reverse
    (s.nextSeg reverse) (s.nextState reverse)) s.nextSeg_lt s.nextState_lt
  rw [State.hallEdge_eq, State.flag_noted_dir_chg, State.noted_counts.1, State.noted_counts.2, note, regs_stepped.rd (by decide),
    regs_stepped.rd (by decide)]
  exact ⟨rfl, rfl, rfl⟩

/-- An edge after another stores its period (R222). -/
theorem State.hallEdge_period {reverse : Bool} (h : s.motor.hasEdge = true) :
    (s.hallEdge n code reverse).rd MOT_PERIOD_period = s.periodOf n := by
  rw [State.hallEdge_eq, h]
  exact State.noted_period State.periodOf_lt

end Sys2Proof.Machine
end

section
/-! PROOFS. The Hall obligations (spec/06 R216 to R219, R221 to R224, spec/10 R428): what HALL_CODE_CHANGE gives in each case, and
`Obligations.HallCodes` and `Obligations.HallPositions`. -/

namespace Sys2Proof.Machine

variable {s : State} {code old : BitVec 3} {held n a b : Nat} {reverse : Bool}

/-! ## The command while a code is held (R217) -/

/-- The direction of an edge between two positions, as MOT_STATUS.dir shows it (R216). -/
def State.edgeReverse (s : State) (a b : Nat) : Bool := ((a + 1) % 6 != b) != s.flag MOT_CFG_rev

/-- The events of an edge (R428). -/
def State.edgeKinds (s : State) (reverse : Bool) : List Nat :=
  (if s.turns reverse then [3] else []) ++ (if s.jumps (s.rd MOT_FILT_n_hall) then [4] else [])

/-- The state after an edge, before the tick shows it. -/
def State.edged (s : State) (code : BitVec 3) (reverse : Bool) : State :=
  (s.filtered code).hallEdge (s.rd MOT_FILT_n_hall) code reverse

section Held

variable (hl : s.timingLive = true) (hn : s.rd MOT_FILT_n_hall ≤ held) (hc : s.motor.code = some old)
include hl hn hc

theorem exec_hallCodeChange_illegal (h : 1 < linesChanged old code) :
    exec (.hallCodeChange code held) s = .next ((s.lost code .illegal).refreshed [1]) := by
  rw [exec_hallCodeChange hl hn, State.hallAccept_illegal hc h, State.hallKinds, State.hallStepNow_held hc,
    State.hallStep_illegal h]

theorem exec_hallCodeChange_invalid (h : linesChanged old code = 1) (hp : hallPos code = none) :
    exec (.hallCodeChange code held) s = .next ((s.lost code .invalid).refreshed [0]) := by
  rw [exec_hallCodeChange hl hn, State.hallAccept_invalid hc h hp, State.hallKinds, State.hallStepNow_held hc,
    State.hallStep_invalid h hp]

theorem exec_hallCodeChange_edge (h : linesChanged old code = 1) (ha : hallPos old = some a) (hb : hallPos code = some b) :
    exec (.hallCodeChange code held) s
      = .next ((s.edged code (s.edgeReverse a b)).refreshed (s.edgeKinds (s.edgeReverse a b))) := by
  rw [exec_hallCodeChange hl hn, State.hallAccept_held hc, State.hallKinds, State.hallStepNow_held hc,
    State.hallStep_edge h ha hb]
  rfl

end Held

theorem exec_hallCodeChange_same (hl : s.timingLive = true) (hn : s.rd MOT_FILT_n_hall ≤ held) (hc : s.motor.code = some code) :
    exec (.hallCodeChange code held) s = .next ((s.filtered code).refreshed []) := by
  rw [exec_hallCodeChange hl hn, State.hallAccept_held hc, State.hallKinds, State.hallStepNow_held hc, State.hallStep_same]
  rfl

/-! ## The command while no code is held (R217 to R219) -/

section Free

variable (hl : s.timingLive = true) (hn : s.rd MOT_FILT_n_hall ≤ held) (hc : s.motor.code = none)
include hl hn hc

theorem exec_hallCodeChange_taken (h : s.motor.lines.all (fun o => decide (linesChanged o code ≤ 1)) = true)
    (hp : hallPos code = some a) :
    exec (.hallCodeChange code held) s = .next (((s.filtered code).takeCode code a).refreshed []) := by
  rw [exec_hallCodeChange hl hn, State.hallAccept_free hc, State.hallKinds, State.hallStepNow_free hc,
    State.hallStepFree_valid h hp, State.takeValid_valid hp]
  rfl

theorem exec_hallCodeChange_free_illegal (hlines : s.motor.lines = some old) (h : 1 < linesChanged old code) :
    exec (.hallCodeChange code held) s
      = .next ((((s.filtered code).countStep .illegal).takeValid code).refreshed [1]) := by
  rw [exec_hallCodeChange hl hn, State.hallAccept_free hc, State.hallKinds, State.hallStepNow_free hc,
    State.hallStepFree_illegal hlines h]

theorem exec_hallCodeChange_free_invalid (hlines : s.motor.lines = some old) (h : linesChanged old code = 1)
    (hp : hallPos code = none) :
    exec (.hallCodeChange code held) s = .next (((s.filtered code).countStep .invalid).refreshed [0]) := by
  rw [exec_hallCodeChange hl hn, State.hallAccept_free hc, State.hallKinds, State.hallStepNow_free hc,
    State.hallStepFree_invalid hlines h hp, State.takeValid_invalid hp]

end Free

/-! ## The edge as seen from the state before the command -/

/-- The code in MOT_STATUS and the lines do not enter the edge's arithmetic. -/
theorem State.filtered_alike : (s.filtered code).segments = s.segments ∧ (s.filtered code).turns reverse = s.turns reverse
    ∧ (s.filtered code).jumps n = s.jumps n ∧ (s.filtered code).nextSeg reverse = s.nextSeg reverse
    ∧ (s.filtered code).nextState reverse = s.nextState reverse := by
  have seg : (s.filtered code).rd MOT_STATUS_seg = s.rd MOT_STATUS_seg := State.rd_filtered (by rfl)
  have state : (s.filtered code).rd MOT_STATUS_state = s.rd MOT_STATUS_state := State.rd_filtered (by rfl)
  have dir : (s.filtered code).flag MOT_STATUS_dir = s.flag MOT_STATUS_dir := State.flag_filtered (by rfl)
  have segments : (s.filtered code).segments = s.segments := by
    rw [State.segments, State.segments, regs_filtered.rd (by decide)]
  have turns : (s.filtered code).turns reverse = s.turns reverse := by rw [State.turns, State.turns, dir]
  refine ⟨segments, turns, ?_, ?_, ?_⟩
  · rw [State.jumps, State.jumps, State.speedValid, State.speedValid, state, regs_filtered.rd (by decide),
      regs_filtered.rd (by decide)]
    rfl
  · rw [State.nextSeg, State.nextSeg, seg, segments]
  · rw [State.nextState, State.nextState, state, turns]

theorem regs_edged : OnlyRegs [MOT_STATUS, MOT_PERIOD, MOT_ERR_B] s (s.edged code reverse) :=
  onlyRegs_trans (onlyRegs_mono (by decide) regs_filtered) regs_hallEdge

theorem evolves_edged : Evolves [.regs, .motor] s (s.edged code reverse) :=
  ev_hallEdge (by decide) (by decide) evolves_filtered

theorem State.edged_shows : (s.edged code reverse).rd MOT_STATUS_seg = s.nextSeg reverse
    ∧ (s.edged code reverse).flag MOT_STATUS_dir = reverse ∧ (s.edged code reverse).rd MOT_STATUS_state = s.nextState reverse := by
  obtain ⟨-, -, -, seg, state⟩ := State.filtered_alike (s := s) (code := code) (n := 0) (reverse := reverse)
  rw [← seg, ← state]
  exact State.hallEdge_shows

theorem State.motor_edged : (s.edged code reverse).motor.code = some code ∧ (s.edged code reverse).motor.edgeAccept = s.clk.tick
    ∧ (s.edged code reverse).motor.edgeTime = s.clk.tick + 1 - s.rd MOT_FILT_n_hall
    ∧ (s.edged code reverse).motor.sEdge = (if s.nextState reverse = 3 then
        60000000000 / (s.segments * s.periodOf (s.rd MOT_FILT_n_hall)) else 0) := by
  obtain ⟨segments, -, -, -, state⟩ := State.filtered_alike (s := s) (code := code) (n := 0) (reverse := reverse)
  rw [← state, ← segments, State.edged, State.motor_hallEdge]
  exact ⟨rfl, rfl, rfl, rfl⟩

theorem State.edged_notes : (s.edged code reverse).flag MOT_STATUS_dir_chg = (s.turns reverse || s.flag MOT_STATUS_dir_chg)
    ∧ (s.edged code reverse).rd MOT_ERR_B_rev_ct = (if s.turns reverse then
        min (s.rd MOT_ERR_B_rev_ct + 1) (2 ^ MOT_ERR_B_rev_ct.width - 1) else s.rd MOT_ERR_B_rev_ct)
    ∧ (s.edged code reverse).rd MOT_ERR_B_jump_ct = (if s.jumps (s.rd MOT_FILT_n_hall) then
        min (s.rd MOT_ERR_B_jump_ct + 1) (2 ^ MOT_ERR_B_jump_ct.width - 1) else s.rd MOT_ERR_B_jump_ct) := by
  obtain ⟨-, turns, jumps, -, -⟩ := State.filtered_alike (s := s) (code := code) (n := s.rd MOT_FILT_n_hall) (reverse := reverse)
  have note : (s.filtered code).flag MOT_STATUS_dir_chg = s.flag MOT_STATUS_dir_chg := State.flag_filtered (by rfl)
  have regs := regs_filtered (s := s) (code := code)
  rw [← turns, ← jumps, ← note, ← regs.rd (f := MOT_ERR_B_rev_ct) (by decide), ← regs.rd (f := MOT_ERR_B_jump_ct) (by decide)]
  exact State.hallEdge_notes

theorem State.edged_period (h : s.motor.hasEdge = true) :
    (s.edged code reverse).rd MOT_PERIOD_period = s.periodOf (s.rd MOT_FILT_n_hall) :=
  State.hallEdge_period (s := s.filtered code) h

/-- The speed after an edge (R223): that of its period, or less by the time that n_hall has kept it back. -/
theorem State.edged_speed {kinds : List Nat} : ((s.edged code reverse).refreshed kinds).rdInt MOT_SPEED_spd
    = if s.nextState reverse = 3 then clampInt (-2 ^ 31) (2 ^ 31 - 1) ((if reverse then -1 else 1)
        * ((if s.clk.tick ≤ (s.edged code reverse).motor.edgeTime
          then 60000000000 / (s.segments * s.periodOf (s.rd MOT_FILT_n_hall))
          else min (60000000000 / (s.segments * s.periodOf (s.rd MOT_FILT_n_hall)))
            (60000000000 / (s.segments * (s.clk.tick - (s.edged code reverse).motor.edgeTime))) : Nat) : Int)) else 0 := by
  obtain ⟨-, dir, state⟩ := State.edged_shows (s := s) (code := code) (reverse := reverse)
  obtain ⟨-, -, -, sEdge⟩ := State.motor_edged (s := s) (code := code) (reverse := reverse)
  have segments : (s.edged code reverse).segments = s.segments := by
    rw [State.segments, State.segments, regs_edged.rd (by decide)]
  have clk : (s.edged code reverse).clk = s.clk := evolves_edged.1 .clk (by decide)
  rw [State.spd_refreshed_eq, state, dir, segments, clk, sEdge]
  by_cases valid : s.nextState reverse = 3
  · rw [if_pos valid, if_pos valid, if_pos valid]
  · rw [if_neg valid, if_neg valid]

/-- An edge that is neither a reversal nor a jump posts nothing; one that is only one of them posts that event (R428). -/
theorem State.edgeKinds_eq {x y : Bool} (hx : s.turns reverse = x) (hy : s.jumps (s.rd MOT_FILT_n_hall) = y) :
    s.edgeKinds reverse = (if x then [3] else []) ++ (if y then [4] else []) := by
  rw [State.edgeKinds, hx, hy]

theorem State.turns_eq_false (h : reverse = s.flag MOT_STATUS_dir) : s.turns reverse = false := by
  rw [State.turns, h, bne_self_eq_false]

theorem State.turns_eq_true (h : reverse ≠ s.flag MOT_STATUS_dir) : s.turns reverse = true := bne_iff_ne.2 h.symm

/-- Codes of neighbouring positions differ in one line (R216). -/
theorem linesChanged_of_neighbours (ha : hallPos old = some a) (hb : hallPos code = some b)
    (h : b = (a + 1) % 6 ∨ a = (b + 1) % 6) : linesChanged old code = 1 := by
  have all : ∀ x y : BitVec 3, (hallPos x).all (fun i => (hallPos y).all (fun j =>
      !(decide (j = (i + 1) % 6) || decide (i = (j + 1) % 6)) || decide (linesChanged x y = 1))) = true := by decide
  have given : ¬b = (a + 1) % 6 ∧ ¬a = (b + 1) % 6 ∨ linesChanged old code = 1 := by simpa [ha, hb] using all old code
  exact given.resolve_left (fun apart => h.elim apart.1 apart.2)

/-! ## The tick of an empty queue (R217, R223) -/

/-- Between ticks of the timing domain the interface is shown once, whatever the tick has done before (R217, R223). -/
theorem State.timingTick_shows (s : State) : ∃ u : State, s.timingTick = u.refreshMotor ∧ u.clk.tick = s.clk.tick + 1 :=
  ⟨_, rfl, congrArg Clk.tick ((ev_takeHeldCode (L := [.regs, .motor, .host]) (by decide) (by decide) (by decide) ev_refl).1 .clk
    (by decide))⟩

theorem State.idleTick_live (hl : s.timingLive = true) : ∃ u : State, s.idleTick = u.refreshMotor ∧ u.clk.tick = s.clk.tick + 1 := by
  have fabric : (doIf s.fabricLive (fun t => t.fabricTick) s).clk.tick = s.clk.tick := by
    refine doIf_induction (P := fun t => t.clk.tick = s.clk.tick) rfl (fun _ => ?_)
    simp only [State.fabricTick, State.modClk_keeps, Clk.copyTick]
    repeat' split
    all_goals rfl
  obtain ⟨u, shown, tick⟩ := State.timingTick_shows (doIf s.fabricLive (fun t => t.fabricTick) s)
  exact ⟨u, by rw [State.idleTick, hl, doIf_true, shown], by rw [tick, fabric]⟩

/-! ## The obligations -/

/-- Settles O27: each clause is one case of HALL_CODE_CHANGE; the last is the tick of an empty queue. -/
theorem hallCodes : Obligations.HallCodes := by
  unfold Obligations.HallCodes
  refine ⟨?first, ?freeIllegal, ?freeInvalid, ?edge, ?illegal, ?invalid, ?same, ?short, ?later, ?speed, ?between⟩
  case first =>
    intro code held p s hl hn hc hfirst hlines hp
    have fresh : (s.filtered code).motor.everCode = false := hfirst
    have ran := exec_hallCodeChange_taken hl hn hc hlines hp
    rw [State.takeCode_first fresh] at ran
    obtain ⟨state, seg, shown⟩ := State.firstCode_shows (s := s.filtered code) (code := code) (hallPos_lt hp)
    have ready := regs_setReady_refl (s := (s.filtered code).firstCode code p) (f := GLB_READY_motor) (v := true) rfl
    refine ⟨_, ran, ?_, ?_, ?_, ?_, ?_, ?_, ?_⟩
    · rw [State.rd_refreshed (by decide), ready.rd (by decide), state]
    · rw [State.rd_refreshed (by decide), ready.rd (by decide), seg]
    · rw [State.rd_refreshed (by decide), ready.rd (by decide), shown, State.rd_filtered_code]
    · exact (congrArg Motor.code State.motor_refreshed).trans (congrArg Motor.code State.motor_setReady)
    · exact (congrArg Motor.everCode State.motor_refreshed).trans (congrArg Motor.everCode State.motor_setReady)
    · rw [State.flag_refreshed (by decide)]
      exact flag_setReady rfl (by decide) rfl (by decide) (by decide)
    · exact regs_refreshed_nil (by decide) (onlyRegs_trans (onlyRegs_mono (by decide) regs_filtered)
        (onlyRegs_trans (onlyRegs_mono (by decide) regs_firstCode) (onlyRegs_mono (by decide) ready)))
  case freeIllegal =>
    intro old code held s hl hn hc hlines h
    have free : ((s.filtered code).countStep .illegal).motor.code = none := (congrArg Motor.code State.motor_countStep).trans hc
    obtain ⟨taken, lines⟩ := State.motor_takeValid (code := code) free
    refine ⟨_, exec_hallCodeChange_free_illegal hl hn hc hlines h, ?_, ?_, ?_, ?_⟩
    · rw [State.rd_refreshed (by decide), regs_takeValid.rd (by decide), State.countStep_illegal, regs_filtered.rd (by decide)]
    · exact (congrArg Motor.lines State.motor_refreshed).trans (lines.trans (congrArg Motor.lines State.motor_countStep))
    · exact (congrArg (fun m => m.code.isSome) State.motor_refreshed).trans taken
    · exact regs_refreshed (by decide) (onlyRegs_trans (onlyRegs_mono (by decide) regs_filtered_countStep)
        (onlyRegs_mono (by decide) regs_takeValid))
  case freeInvalid =>
    intro old code held s hl hn hc hlines h hp
    have regs : OnlyRegs motorRegs s ((s.filtered code).countStep .invalid) := onlyRegs_mono (by decide) regs_filtered_countStep
    refine ⟨_, exec_hallCodeChange_free_invalid hl hn hc hlines h hp, ?_, ?_, ?_, regs_refreshed (fun _ hb => hb) regs,
      posted_refreshed regs (ev_countStep (by decide) evolves_filtered)⟩
    · rw [State.rd_refreshed (by decide), State.countStep_invalid, regs_filtered.rd (by decide)]
    · exact (congrArg Motor.lines State.motor_refreshed).trans (congrArg Motor.lines State.motor_countStep)
    · exact (congrArg Motor.code State.motor_refreshed).trans ((congrArg Motor.code State.motor_countStep).trans hc)
  case edge =>
    intro old code held a b s hl hn hc h ha hb
    obtain ⟨seg, dir, state⟩ := State.edged_shows (s := s) (code := code) (reverse := s.edgeReverse a b)
    obtain ⟨taken, accepted, -, -⟩ := State.motor_edged (s := s) (code := code) (reverse := s.edgeReverse a b)
    refine ⟨_, _, exec_hallCodeChange_edge hl hn hc h ha hb, rfl, ?_, ?_, ?_, ?_, ?_, ?_, ?_⟩
    · rw [State.rd_refreshed (by decide), seg]
      rfl
    · rw [State.flag_refreshed (by decide), dir]
      rfl
    · exact (congrArg Motor.code State.motor_refreshed).trans taken
    · exact (congrArg Motor.edgeAccept State.motor_refreshed).trans accepted
    · rw [State.rd_refreshed (by decide), state, State.nextState_eq]
      rfl
    · exact regs_refreshed (fun _ hb => hb) (onlyRegs_mono (by decide) regs_edged)
    · exact (ev_trans (ev_mono evolves_edged (by decide)) (ev_mono evolves_refreshed (by decide))).1
  case illegal =>
    intro old code held s hl hn hc h
    obtain ⟨state, aligned, seg, taken⟩ := State.lost_shows (s := s) (code := code) (k := .illegal)
    have regs : OnlyRegs motorRegs s (s.lost code .illegal) := onlyRegs_mono (by decide) regs_lost
    refine ⟨_, exec_hallCodeChange_illegal hl hn hc h, ?_, ?_, ?_, ?_, ?_, regs_refreshed (fun _ hb => hb) regs,
      posted_refreshed regs evolves_lost⟩
    · rw [State.rd_refreshed (by decide), state]
    · rw [State.flag_refreshed (by decide), aligned]
    · exact (congrArg Motor.code State.motor_refreshed).trans taken
    · rw [State.rd_refreshed (by decide), seg]
    · rw [State.rd_refreshed (by decide), State.lost_counts.1]
  case invalid =>
    intro old code held s hl hn hc h hp
    obtain ⟨state, aligned, -, taken⟩ := State.lost_shows (s := s) (code := code) (k := .invalid)
    have regs : OnlyRegs motorRegs s (s.lost code .invalid) := onlyRegs_mono (by decide) regs_lost
    rw [hp] at state
    refine ⟨_, exec_hallCodeChange_invalid hl hn hc h hp, ?_, ?_, ?_, ?_, regs_refreshed (fun _ hb => hb) regs,
      posted_refreshed regs evolves_lost⟩
    · rw [State.rd_refreshed (by decide), state]
      rfl
    · rw [State.flag_refreshed (by decide), aligned]
    · rw [validCode, hp] at taken
      exact (congrArg Motor.code State.motor_refreshed).trans taken
    · rw [State.rd_refreshed (by decide), State.lost_counts.2]
  case same =>
    intro code held s hl hn hc
    refine ⟨_, exec_hallCodeChange_same hl hn hc, ?_, ?_, (congrArg Motor.code State.motor_refreshed).trans hc,
      regs_refreshed_nil (fun _ hb => hb) (onlyRegs_mono (by decide) regs_filtered)⟩
    · rw [State.rd_refreshed (by decide), State.rd_filtered (by rfl)]
    · rw [State.rd_refreshed (by decide), State.rd_filtered (by rfl)]
  case short =>
    intro code held s hn
    exact exec_hallCodeChange_short hn
  case later =>
    intro code held p s hl hn hc hlater hlines hp
    have known : (s.filtered code).motor.everCode = true := hlater
    have ran := exec_hallCodeChange_taken hl hn hc hlines hp
    rw [State.takeCode_later known] at ran
    obtain ⟨state, seg⟩ := State.laterCode_shows (s := s.filtered code) (code := code)
    refine ⟨_, ran, ?_, ?_, congrArg Motor.code State.motor_refreshed, ?_, ?_⟩
    · rw [State.rd_refreshed (by decide), state]
    · rw [State.rd_refreshed (by decide), seg, State.rd_filtered (by rfl)]
    · exact State.spd_refreshMotor_of_not_valid (by rw [state]; decide)
    · exact regs_refreshed_nil (fun _ hb => hb) (onlyRegs_mono (by decide) (onlyRegs_trans regs_filtered regs_laterCode))
  case speed =>
    intro old code held a b n p m rev jump s hl hn hle hc h ha hb hrev hedge hp hm hjump
    subst hn
    have period : s.periodOf (s.rd MOT_FILT_n_hall) = p := hp.symm
    have direction : s.edgeReverse a b = rev := hrev.symm
    have jumps : s.jumps (s.rd MOT_FILT_n_hall) = jump := by
      rw [State.jumps, hedge, Bool.and_true, period, hjump]
      rfl
    obtain ⟨-, dir, state⟩ := State.edged_shows (s := s) (code := code) (reverse := rev)
    obtain ⟨-, -, edgeTime, -⟩ := State.motor_edged (s := s) (code := code) (reverse := rev)
    obtain ⟨note, revCt, jumpCt⟩ := State.edged_notes (s := s) (code := code) (reverse := rev)
    have regs : OnlyRegs motorRegs s (s.edged code rev) := onlyRegs_mono (by decide) regs_edged
    have ran := exec_hallCodeChange_edge hl hle hc h ha hb
    rw [direction] at ran
    have time : ((s.edged code rev).refreshed (s.edgeKinds rev)).motor.edgeTime = (s.edged code rev).motor.edgeTime := by
      rw [State.motor_refreshed]
    refine ⟨_, ran, ?_, time.trans edgeTime, ?_, ?_, ?_, ?_, ?_, ?_, ?_⟩
    · rw [State.rd_refreshed (by decide), State.edged_period hedge, period]
    · rw [State.rd_refreshed (by decide), state, time, State.edged_speed, period, ← hm]
    · intro straight
      rw [State.turns_eq_false straight] at note revCt
      exact ⟨(State.flag_refreshed (by decide)).trans note, (State.rd_refreshed (by decide)).trans revCt⟩
    · intro turned
      rw [State.turns_eq_true turned] at note revCt
      exact ⟨(State.flag_refreshed (by decide)).trans note, (State.rd_refreshed (by decide)).trans revCt⟩
    · rw [State.rd_refreshed (by decide), jumpCt, jumps]
    · intro straight smooth
      rw [State.edgeKinds_eq (State.turns_eq_false straight) (jumps.trans smooth)]
      exact (ev_trans evolves_edged evolves_refreshMotor).1 .host (by decide)
    · intro turned smooth live
      rw [State.edgeKinds_eq (State.turns_eq_true turned) (jumps.trans smooth)]
      exact posted_refreshed regs evolves_edged live
    · intro straight jumped live
      rw [State.edgeKinds_eq (State.turns_eq_false straight) (jumps.trans jumped)]
      exact posted_refreshed regs evolves_edged live
  case between =>
    intro s hq hl
    obtain ⟨u, shown, tick⟩ := State.idleTick_live hl
    have clk : u.refreshMotor.clk = u.clk := evolves_refreshMotor.1 .clk (by decide)
    have segments : u.refreshMotor.segments = u.segments := by
      rw [State.segments, State.segments, State.rd_refreshMotor (by decide)]
    have dir : u.refreshMotor.flag MOT_STATUS_dir = u.flag MOT_STATUS_dir := by
      rw [State.flag, State.flag, State.rd_refreshMotor (by decide)]
    refine ⟨u.refreshMotor, by rw [step, hq, shown], by rw [clk, tick], ?_⟩
    rw [State.rd_refreshMotor (by decide), dir, segments, clk, State.motor_refreshMotor]
    exact State.spd_refreshMotor_eq

/-- Settles O56: the table of positions by computation, the direction as the edge of O27 shows it. -/
theorem hallPositions : Obligations.HallPositions := by
  unfold Obligations.HallPositions
  refine ⟨by decide, by decide, by decide, by decide, by decide, by decide, by decide, by decide, ?_⟩
  intro old code held a b s hl hn hc ha hb h
  obtain ⟨-, dir, -⟩ := State.edged_shows (s := s) (code := code) (reverse := s.edgeReverse a b)
  refine ⟨_, exec_hallCodeChange_edge hl hn hc (linesChanged_of_neighbours ha hb h) ha hb, ?_⟩
  rw [State.flag_refreshed (by decide), dir, State.edgeReverse]
  by_cases up : b = (a + 1) % 6
  · rw [if_pos up, up, bne_self_eq_false, Bool.false_bne]
  · rw [if_neg up, bne_iff_ne.2 (Ne.symm up), Bool.true_bne]

end Sys2Proof.Machine
end

section
/-! PROOFS. Index and frame sync, a missing index, stand-still (spec/06 R219, R220, R229 to R233): what an alignment leaves, what each
command gives, and the obligation `Obligations.IndexAndStandstill`. -/

namespace Sys2Proof.Machine

variable {s : State} {level : Bool} {held target dist : Nat} {kinds : List Nat}

/-! ## What a tick shows, with the events that follow -/

theorem State.angle_refreshed : (s.refreshed kinds).rd MOT_ANGLE_angle = s.reportedAngle % 2 ^ 24
    ∧ (s.refreshed kinds).flag MOT_ANGLE_valid = s.angleValid := by
  rw [State.refreshed, regs_motorEvents.rd (by decide), regs_motorEvents.flag (by decide)]
  exact State.angle_refreshMotor

/-- In every state but VALID there is no speed, no valid angle and no held angle (R219, R228). -/
theorem State.refreshed_of_not_valid (h : s.rd MOT_STATUS_state ≠ 3) : (s.refreshed kinds).rd MOT_SPEED_spd = 0
    ∧ (s.refreshed kinds).flag MOT_ANGLE_valid = false ∧ (s.refreshed kinds).motor.hold = none := by
  have invalid : s.speedValid = false := by simp [State.speedValid, h]
  have events : (s.refreshed kinds).motor = s.refreshMotor.motor := evolves_motorEvents.1 .motor (by decide)
  refine ⟨?_, ?_, ?_⟩
  · rw [State.refreshed, regs_motorEvents.rd (by decide)]
    exact State.spd_refreshMotor_of_not_valid h
  · rw [State.angle_refreshed.2, State.angleValid, invalid, Bool.false_and]
  · rw [events, State.refreshMotor, State.showMotor_eq, sameEstimate_reversePass.speedValid, invalid]
    rfl

/-! ## Alignment (R229 to R231) -/

/-- The interface after an alignment: its offset, and the angle that is held. -/
def Motor.aligned (m : Motor) (offset : Nat) (hold : Option Nat) : Motor := { m with offset, hold, fwdCount := 0 }

/-- The angle that an alignment holds, so that the reported one does not move back (R229). -/
def State.heldAngle (s : State) (target : Nat) : Option Nat :=
  if s.flag MOT_STATUS_aligned && decide (1 ≤ ahead s.reportedAngle target) && decide (ahead s.reportedAngle target < halfAngle)
  then some s.reportedAngle else none

theorem State.alignTo_eq : s.alignTo target
    = (s.putB MOT_STATUS_aligned true).modMotor (fun m => m.aligned (ahead target s.rawAngle) (s.heldAngle target)) := rfl

theorem regs_alignTo : OnlyRegs [MOT_STATUS] s (s.alignTo target) := by
  rw [State.alignTo_eq]
  exact regs_modMotor (regs_putB (by decide) onlyRegs_refl)

theorem State.rd_alignTo {f : FRef} (h : f.beside MOT_STATUS_aligned = true) : (s.alignTo target).rd f = s.rd f := by
  rw [State.alignTo_eq]
  simp only [State.modMotor_keeps]
  exact State.rd_putB_beside h

theorem State.motor_alignTo : (s.alignTo target).motor = s.motor.aligned (ahead target s.rawAngle) (s.heldAngle target) := by
  rw [State.alignTo_eq]
  simp only [State.modMotor_keeps, State.putB_keeps]

theorem Motor.aligned_shows {m : Motor} {offset : Nat} {hold : Option Nat} : (m.aligned offset hold).fwdCount = 0
    ∧ (m.aligned offset hold).offset = offset ∧ (m.aligned offset hold).hold = hold
    ∧ (m.aligned offset hold).idxLevel = m.idxLevel ∧ (m.aligned offset hold).edgeTime = m.edgeTime
    ∧ (m.aligned offset hold).rawBase = m.rawBase := ⟨rfl, rfl, rfl, rfl, rfl, rfl⟩

theorem State.alignTo_shows : (s.alignTo target).flag MOT_STATUS_aligned = true ∧ (s.alignTo target).motor.fwdCount = 0
    ∧ (s.alignTo target).motor.offset = ahead target s.rawAngle ∧ (s.alignTo target).motor.idxLevel = s.motor.idxLevel := by
  obtain ⟨count, offset, -, idx, -, -⟩ := Motor.aligned_shows (m := s.motor) (offset := ahead target s.rawAngle)
    (hold := s.heldAngle target)
  rw [State.motor_alignTo]
  refine ⟨?_, count, offset, idx⟩
  rw [State.alignTo_eq]
  simp only [State.modMotor_keeps]
  exact State.flag_putB_same (by decide) rfl

/-- Alignment leaves the raw angle as it is. -/
theorem State.rawAngle_alignTo : (s.alignTo target).rawAngle = s.rawAngle := by
  have seg : (s.alignTo target).rd MOT_STATUS_seg = s.rd MOT_STATUS_seg := State.rd_alignTo (by rfl)
  have valid : (s.alignTo target).speedValid = s.speedValid := by
    rw [State.speedValid, State.speedValid, State.rd_alignTo (by rfl)]
  have dir : (s.alignTo target).flag MOT_STATUS_dir = s.flag MOT_STATUS_dir := by
    rw [State.flag, State.flag, State.rd_alignTo (by rfl)]
  have theta : ∀ j, (s.alignTo target).theta j = s.theta j := fun j => by
    rw [State.theta, State.theta, State.segments, State.segments, regs_alignTo.rd (by decide)]
  have clk : (s.alignTo target).clk = s.clk := by
    rw [State.alignTo_eq]
    simp only [State.modMotor_keeps, State.putB_keeps]
  have edge : (s.alignTo target).motor.edgeTime = s.motor.edgeTime := by
    rw [State.motor_alignTo, Motor.aligned_shows.2.2.2.2.1]
  have base : (s.alignTo target).motor.rawBase = s.motor.rawBase := by
    rw [State.motor_alignTo, Motor.aligned_shows.2.2.2.2.2]
  have advance : ∀ j, (s.alignTo target).advance j = s.advance j := fun j => by
    rw [State.advance, State.advance, theta, theta, regs_alignTo.rd (by decide), clk, edge]
  simp only [State.rawAngle, seg, valid, dir, theta, advance, base]

theorem ahead_reaches {x y : Nat} (h : x < fullAngle) : (y + ahead x y) % fullAngle = x := by
  unfold ahead fullAngle at *
  omega

/-- The first alignment makes the reported angle the target, and valid (R228, R230). -/
theorem State.alignTo_first (ha : s.flag MOT_STATUS_aligned = false) (hv : s.speedValid = true) (ht : target < fullAngle) :
    (s.alignTo target).reportedAngle = target ∧ (s.alignTo target).angleValid = true := by
  have hold : (s.alignTo target).motor.hold = none := by
    rw [State.motor_alignTo, Motor.aligned_shows.2.2.1, State.heldAngle, ha, Bool.false_and, Bool.false_and,
      if_neg Bool.false_ne_true]
  have valid : (s.alignTo target).speedValid = true := by
    rw [← hv, State.speedValid, State.speedValid, State.rd_alignTo (by rfl)]
  constructor
  · rw [State.reportedAngle, hold, State.alignedAngle, State.rawAngle_alignTo, State.alignTo_shows.2.2.1]
    exact ahead_reaches ht
  · rw [State.angleValid, valid, State.alignTo_shows.1]
    rfl

theorem regs_slip : OnlyRegs [MOT_ERR_A] s (s.slip dist) := regs_doIf (fun _ hu => regs_bump (by decide) hu) onlyRegs_refl

theorem evolves_slip : Evolves [.regs] s (s.slip dist) := ev_slip (by decide) ev_refl

theorem sameEstimate_slip : SameEstimate s (s.slip dist) :=
  sameEstimate_of_regs regs_slip (by decide) (evolves_slip.1 .clk (by decide)) (evolves_slip.1 .motor (by decide))

theorem State.slip_counts : (s.slip dist).rd MOT_ERR_A_slip
    = if s.flag MOT_STATUS_aligned = true ∧ s.rd MOT_IDX_CFG_tol * 256 < dist then min (s.rd MOT_ERR_A_slip + 1) 255
      else s.rd MOT_ERR_A_slip := by
  rw [State.slip, State.rd_doIf, State.rd_bump_same (by decide)]
  simp [State.slips, MOT_ERR_A_slip]

/-! ## The edges (R230, R233) -/

/-- The filter of HALL_IDX holds the level. -/
def State.levelHeld (s : State) (level : Bool) : State := s.modMotor (fun m => { m with idxLevel := some level })

theorem sameEstimate_levelHeld : SameEstimate s (s.levelHeld level) := ⟨rfl, rfl, rfl, rfl, rfl, rfl, fun _ _ => rfl⟩

theorem State.idxAccept_edge (he : s.motor.idxLevel = some (!level)) (hp : level = !s.flag MOT_IDX_CFG_pol) :
    (s.idxAccept level).1 = true := by
  simp [State.idxAccept, he, ← hp]

/-- How far the reported angle is from what an index edge marks (R231). -/
def State.indexDist (s : State) : Nat := circDist fullAngle s.reportedAngle (s.rd MOT_IDX_CFG_ofs * 256)

/-- The state after an index edge that acts, before the tick shows it. -/
def State.indexed (s : State) (level : Bool) : State :=
  ((s.levelHeld level).slip s.indexDist).alignTo (s.rd MOT_IDX_CFG_ofs * 256)

theorem State.indexAlign_levelHeld : (s.levelHeld level).indexAlign = s.indexed level := by
  rw [State.indexAlign, State.indexOff, sameEstimate_levelHeld.reportedAngle, sameEstimate_levelHeld.rd (by decide), State.indexed,
    State.indexDist]

/-- A level that is no edge, or an edge that may not act. -/
def State.edgeRests (s : State) (level : Bool) : Prop := s.motor.idxLevel = some level ∨ s.idxActs = false

/-- It is only noted. -/
theorem State.idxAccept_rests {en : Bool} (h : s.edgeRests level) : ((s.idxAccept level).1 && en && s.idxActs) = false := by
  obtain same | stopped := h
  · simp [State.idxAccept, same]
  · rw [stopped, Bool.and_false]

theorem doIf_of_eq_true {c : Bool} {f : State → State} (h : c = true) : doIf c f s = f s := by
  rw [h, doIf_true]

theorem doIf_of_eq_false {c : Bool} {f : State → State} (h : c = false) : doIf c f s = s := by
  rw [h, doIf_false]

/-- An index edge acts where it is one, the index is enabled, and the speed is valid and forward (R230). -/
def State.indexActs (s : State) (level : Bool) : Bool := (s.idxAccept level).1 && s.flag MOT_IDX_CFG_idx_en && s.idxActs

/-- A frame-sync edge acts under the like conditions (R233). -/
def State.frameActs (s : State) (level : Bool) : Bool := (s.idxAccept level).1 && s.flag MOT_FSYNC_en && s.idxActs

section Edges

variable (hl : s.timingLive = true) (hn : s.rd MOT_FILT_n_idx ≤ held)
include hl hn

/-- The filter of HALL_IDX takes the level. -/
theorem idxFilter_passes : (s.timingLive && decide (s.rd MOT_FILT_n_idx ≤ held)) = true := by
  rw [hl, decide_eq_true hn, Bool.and_true]

theorem exec_indexEdge : exec (.indexEdge level held) s
    = .next ((doIf (s.indexActs level) (fun u => u.indexAlign) (s.levelHeld level)).refreshed
      (if s.indexActs level then s.slipKinds s.indexOff else [])) := by
  rw [exec, execIndexEdge, doIf_of_eq_true (idxFilter_passes hl hn)]
  rfl

theorem exec_frameSyncEdge : exec (.frameSyncEdge level held) s
    = .next ((doIf (s.frameActs level) (fun u => u.fsyncAlign) (s.levelHeld level)).refreshed
      (if s.frameActs level then s.slipKinds s.fsyncOff else [])) := by
  rw [exec, execFrameSyncEdge, doIf_of_eq_true (idxFilter_passes hl hn)]
  rfl

theorem exec_indexEdge_acts (he : s.motor.idxLevel = some (!level)) (hp : level = !s.flag MOT_IDX_CFG_pol)
    (hi : s.flag MOT_IDX_CFG_idx_en = true) (ha : s.idxActs = true) :
    exec (.indexEdge level held) s = .next ((s.indexed level).refreshed (s.slipKinds s.indexOff)) := by
  have acts : s.indexActs level = true := by rw [State.indexActs, State.idxAccept_edge he hp, hi, ha, Bool.and_true, Bool.and_true]
  rw [exec_indexEdge hl hn, doIf_of_eq_true acts, if_pos acts, State.indexAlign_levelHeld]

theorem exec_frameSyncEdge_acts (he : s.motor.idxLevel = some (!level)) (hp : level = !s.flag MOT_IDX_CFG_pol)
    (hf : s.flag MOT_FSYNC_en = true) (ha : s.idxActs = true) :
    exec (.frameSyncEdge level held) s = .next ((s.levelHeld level).fsyncAlign.refreshed (s.slipKinds s.fsyncOff)) := by
  have acts : s.frameActs level = true := by rw [State.frameActs, State.idxAccept_edge he hp, hf, ha, Bool.and_true, Bool.and_true]
  rw [exec_frameSyncEdge hl hn, doIf_of_eq_true acts, if_pos acts]

theorem exec_edge_rests (h : s.edgeRests level) :
    exec (.indexEdge level held) s = .next ((s.levelHeld level).refreshed [])
    ∧ exec (.frameSyncEdge level held) s = .next ((s.levelHeld level).refreshed []) := by
  have index : s.indexActs level = false := State.idxAccept_rests h
  have frame : s.frameActs level = false := State.idxAccept_rests h
  rw [exec_indexEdge hl hn, exec_frameSyncEdge hl hn, doIf_of_eq_false index, doIf_of_eq_false frame, index, frame]
  exact ⟨rfl, rfl⟩

end Edges

/-- An alignment of an angle that is not aligned is no slip (R231). -/
theorem State.slipKinds_first (ha : s.flag MOT_STATUS_aligned = false) : s.slipKinds dist = [] := by
  simp [State.slipKinds, State.slips, ha]

theorem State.fsyncAlign_first (ha : s.flag MOT_STATUS_aligned = false) : s.fsyncAlign = s.alignTo s.fsyncTarget := by
  simp [State.fsyncAlign, ha]

theorem State.fsyncTarget_lt : s.fsyncTarget < fullAngle := by
  have facet : 0 < s.facet := Nat.two_pow_pos _
  have full : s.facet ≤ fullAngle := Nat.pow_le_pow_right (n := 2) (by decide) (Nat.sub_le 24 _)
  exact lt_of_lt_of_le (Nat.mod_lt _ facet) full

theorem State.indexTarget_lt : s.rd MOT_IDX_CFG_ofs * 256 < fullAngle := by
  have ofs : s.rd MOT_IDX_CFG_ofs < 2 ^ 16 := State.rd_lt
  unfold fullAngle
  omega

theorem State.speedValid_of_idxActs (h : s.idxActs = true) : s.speedValid = true := by
  rw [State.idxActs, Bool.and_eq_true] at h
  exact h.1

theorem regs_indexed : OnlyRegs [MOT_STATUS, MOT_ERR_A] s (s.indexed level) :=
  onlyRegs_trans (onlyRegs_mono (by decide) (regs_slip (s := s.levelHeld level))) (onlyRegs_mono (by decide) regs_alignTo)

theorem sameEstimate_levelHeld_slip : SameEstimate s ((s.levelHeld level).slip dist) := by
  have slip := sameEstimate_slip (s := s.levelHeld level) (dist := dist)
  exact ⟨slip.clk, slip.edgeTime, slip.sEdge, slip.rawBase, slip.offset, slip.hold, slip.regs⟩

theorem State.indexed_shows (s : State) (level : Bool) : (s.indexed level).flag MOT_STATUS_aligned = true
    ∧ (s.indexed level).motor.fwdCount = 0
    ∧ (s.indexed level).motor.offset = ahead (s.rd MOT_IDX_CFG_ofs * 256) s.rawAngle
    ∧ (s.indexed level).motor.idxLevel = some level := by
  have heldLevel : ((s.levelHeld level).slip s.indexDist).motor.idxLevel = some level :=
    congrArg Motor.idxLevel (evolves_slip.1 .motor (by decide))
  rw [← heldLevel, ← (sameEstimate_levelHeld_slip (s := s) (level := level) (dist := s.indexDist)).rawAngle]
  exact State.alignTo_shows

theorem State.indexed_first (ha : s.flag MOT_STATUS_aligned = false) (hv : s.speedValid = true) :
    (s.indexed level).reportedAngle = s.rd MOT_IDX_CFG_ofs * 256 ∧ (s.indexed level).angleValid = true :=
  State.alignTo_first ((sameEstimate_levelHeld_slip.flag (by decide)).trans ha) (sameEstimate_levelHeld_slip.speedValid.trans hv)
    s.indexTarget_lt

theorem State.indexed_counts : (s.indexed level).rd MOT_ERR_A_slip
    = if s.flag MOT_STATUS_aligned = true ∧ s.rd MOT_IDX_CFG_tol * 256 < s.indexDist then min (s.rd MOT_ERR_A_slip + 1) 255
      else s.rd MOT_ERR_A_slip := by
  rw [State.indexed, regs_alignTo.rd (by decide), State.slip_counts]
  rfl

/-! ## A missing index, stand-still (R219, R220, R232) -/

theorem exec_indexMissing (hl : s.timingLive = true) (hc : 2 * s.segments ≤ s.motor.fwdCount)
    (ha : s.flag MOT_STATUS_aligned = true) : exec .indexMissing s
      = .next (((s.modMotor (fun m => { m with fwdCount := 0 })).bump MOT_ERR_A_idx_miss 1).motorEvents [6]) := by
  simp [exec, execIndexMissing, hl, hc, ha]

theorem exec_indexMissing_early (h : s.motor.fwdCount < 2 * s.segments) : exec .indexMissing s = .next s := by
  simp [exec, execIndexMissing, Nat.not_le.2 h]

/-- The state at the end of the stand-still time, before the tick shows it. -/
def State.stoodStill (s : State) : State :=
  ((s.put MOT_STATUS_state 1).modMotor (fun m => { m with hold := none, sEdge := 0 })).bump MOT_ERR_B_stand_ct 1

theorem exec_standstillTimeout (hl : s.timingLive = true)
    (hs : s.rd MOT_STATUS_state = 2 ∨ s.rd MOT_STATUS_state = 3 ∨ s.rd MOT_STATUS_state = 4)
    (hd : 100000 * s.rd MOT_TMO_stand_ms ≤ s.clk.tick - s.motor.standFrom) :
    exec .standstillTimeout s = .next (s.stoodStill.refreshed [2]) := by
  have due : s.standstillDue = true := decide_eq_true hd
  have moving : (s.rd MOT_STATUS_state == 2 || s.rd MOT_STATUS_state == 3 || s.rd MOT_STATUS_state == 4) = true := by
    simpa [or_assoc] using hs
  simp only [exec, execStandstillTimeout, hl, due, moving, Bool.and_true, doIf_true]
  rfl

theorem exec_standstillTimeout_early (h : s.clk.tick - s.motor.standFrom < 100000 * s.rd MOT_TMO_stand_ms) :
    exec .standstillTimeout s = .next s := by
  simp [exec, execStandstillTimeout, State.standstillDue, Nat.not_le.2 h]

theorem regs_stoodStill : OnlyRegs [MOT_STATUS, MOT_ERR_B] s s.stoodStill :=
  regs_bump (by decide) (regs_modMotor (regs_put (by decide) onlyRegs_refl))

theorem evolves_stoodStill : Evolves [.regs, .motor] s s.stoodStill :=
  ev_bump (by decide) (ev_modMotor (by decide) (ev_put (by decide) ev_refl))

theorem State.stoodStill_shows : s.stoodStill.rd MOT_STATUS_state = 1
    ∧ s.stoodStill.rd MOT_ERR_B_stand_ct = min (s.rd MOT_ERR_B_stand_ct + 1) 65535 := by
  rw [State.stoodStill]
  constructor
  · rw [State.rd_bump_apart (.inl (by decide))]
    simp only [State.modMotor_keeps]
    exact State.rd_put_of_lt (by decide) (by decide)
  · rw [State.rd_bump_same (by decide)]
    simp only [State.modMotor_keeps]
    rw [State.rd_put_apart (.inl (by decide))]
    rfl

/-- Settles O28: the edges by what an alignment leaves, the rest by the state that the tick then shows. -/
theorem indexAndStandstill : Obligations.IndexAndStandstill := by
  unfold Obligations.IndexAndStandstill
  refine ⟨?index, ?frame, ?level, ?missing, ?counting, ?still, ?moving⟩
  case index =>
    intro level held s hl hn he hp hi ha
    obtain ⟨aligned, count, offset, idx⟩ := s.indexed_shows level
    refine ⟨_, exec_indexEdge_acts hl hn he hp hi ha, (State.flag_refreshed (by decide)).trans aligned, ?_, ?_, ?_, ?_, ?_,
      regs_refreshed (fun _ hb => hb) (onlyRegs_mono (by decide) regs_indexed)⟩
    · rw [State.motor_refreshed, count]
    · rw [State.motor_refreshed, idx]
    · rw [State.motor_refreshed, offset]
    · intro first
      obtain ⟨angle, valid⟩ := State.indexed_first (level := level) first (State.speedValid_of_idxActs ha)
      have small : s.rd MOT_IDX_CFG_ofs * 256 < 2 ^ 24 := s.indexTarget_lt
      exact ⟨by rw [State.angle_refreshed.1, angle, Nat.mod_eq_of_lt small], State.angle_refreshed.2.trans valid⟩
    · exact (State.rd_refreshed (by decide)).trans State.indexed_counts
  case frame =>
    intro level held s hl hn he hp hf ha first
    have ran := exec_frameSyncEdge_acts hl hn he hp hf ha
    have unaligned : (s.levelHeld level).flag MOT_STATUS_aligned = false := first
    rw [State.slipKinds_first first, State.fsyncAlign_first unaligned] at ran
    obtain ⟨aligned, -, -, idx⟩ := State.alignTo_shows (s := s.levelHeld level) (target := (s.levelHeld level).fsyncTarget)
    obtain ⟨angle, -⟩ := State.alignTo_first unaligned (sameEstimate_levelHeld.speedValid.trans (State.speedValid_of_idxActs ha))
      (s.levelHeld level).fsyncTarget_lt
    have target : (s.levelHeld level).fsyncTarget = s.fsyncTarget := rfl
    refine ⟨_, ran, (State.flag_refreshed (by decide)).trans aligned, ?_, ?_,
      regs_refreshed_nil (fun _ hb => hb) (onlyRegs_mono (by decide) (regs_alignTo (s := s.levelHeld level)))⟩
    · rw [State.motor_refreshed, idx]
      rfl
    · have small : s.fsyncTarget < 2 ^ 24 := s.fsyncTarget_lt
      rw [State.angle_refreshed.1, angle, target, Nat.mod_eq_of_lt small, State.fsyncTarget, State.facet]
  case level =>
    intro level held s hl hn h
    obtain ⟨index, frame⟩ := exec_edge_rests hl hn h
    refine ⟨_, _, index, frame, rfl, ?_, ?_, ?_, regs_refreshed_nil (fun _ hb => hb) (regs_modMotor onlyRegs_refl)⟩
    · rw [State.motor_refreshed]
      rfl
    · rw [State.motor_refreshed]
      rfl
    · exact State.flag_refreshed (s := s.levelHeld level) (by decide)
  case missing =>
    intro s hl hc ha
    refine ⟨_, exec_indexMissing hl hc ha, evolves_motorEvents.1 .motor (by decide), ?_, ?_⟩
    · rw [regs_motorEvents.rd (by decide), State.rd_bump_same (by decide)]
      rfl
    · exact onlyRegs_trans (regs_bump (t := s.modMotor (fun m => { m with fwdCount := 0 })) (by decide) onlyRegs_refl)
        (onlyRegs_mono (by decide) regs_motorEvents)
  case counting =>
    intro s h
    exact exec_indexMissing_early h
  case still =>
    intro s hl hs hd
    obtain ⟨state, count⟩ := s.stoodStill_shows
    obtain ⟨speed, angle, hold⟩ := State.refreshed_of_not_valid (s := s.stoodStill) (kinds := [2]) (by rw [state]; decide)
    have regs : OnlyRegs motorRegs s s.stoodStill := onlyRegs_mono (by decide) regs_stoodStill
    exact ⟨_, exec_standstillTimeout hl hs hd, (State.rd_refreshed (by decide)).trans state, speed, angle, hold,
      (State.rd_refreshed (by decide)).trans count, posted_refreshed regs evolves_stoodStill, regs_refreshed (fun _ hb => hb) regs,
      (ev_trans (ev_mono evolves_stoodStill (by decide)) (ev_mono evolves_refreshed (by decide))).1⟩
  case moving =>
    intro s h
    exact exec_standstillTimeout_early h

end Sys2Proof.Machine
end

section
/-! PROOFS. The read of MOT_STATUS (spec/06 R246, spec/09 R358): a read that is answered ends the Unsupported Request of the
requester's last read, against the last clause of `Obligations.MotorRegisters`. -/

namespace Sys2Proof.Machine

variable {s : State} {q : Src}

theorem exec_motStatusRead (hq : s.serves q = true) : exec (.motStatusRead q) s = .next (s.motStatusRead q) := by
  simp [exec, execMotStatusRead, hq]

/-- A served read of MOT_STATUS is answered, whatever the last read of the requester has ended with. -/
theorem State.ur_motStatusRead : ((s.motStatusRead q).req q).ur = false := by
  rw [State.motStatusRead, State.req_modReq_same]
  rfl

/-- The fabric domain runs, and the link is up. -/
def State.linkRuns : State := ((State.reset.putB CLK_STAT_fpll true).putB GLB_READY_fabric true).putB HIF_LINK_up true

/-- A state in which PF0 is served: the fabric runs, the link is up, and Memory Space Enable is set (R355, R356). -/
def State.pf0Served : State := State.linkRuns.modHost (fun h => { h with pf0 := { h.pf0 with mse := true } })

/-- PF0 has read two bytes over BAR0: the read has ended with Unsupported Request (R358). -/
def State.pf0Refused : State := (State.pf0Served.modReq .pf0 (fun r => { r with ur := true })).noteUnsupported .pf0

theorem State.serves_linkRuns : State.linkRuns.fabricReady = true ∧ State.linkRuns.flag HIF_LINK_up = true := by
  have pll : State.linkRuns.flag CLK_STAT_fpll = true := by
    rw [State.linkRuns, State.flag_putB_apart (.inl (by decide)), State.flag_putB_apart (.inl (by decide)),
      State.flag_putB_same (by decide) rfl]
  have fabric : State.linkRuns.flag GLB_READY_fabric = true := by
    rw [State.linkRuns, State.flag_putB_apart (.inl (by decide)), State.flag_putB_same (by decide) rfl]
  refine ⟨?_, State.flag_putB_same (by decide) rfl⟩
  rw [State.fabricReady, State.fabricLive, pll, fabric]
  rfl

theorem State.serves_pf0Served : State.pf0Served.serves .pf0 = true := by
  obtain ⟨ready, up⟩ := State.serves_linkRuns
  have served : State.pf0Served.serves .pf0 = (State.linkRuns.fabricReady && State.linkRuns.flag HIF_LINK_up && true) := rfl
  rw [served, ready, up]
  rfl

/-- The state of the counterexample is one that a command leaves. -/
theorem exec_loRegisterRead_pf0Served : exec (.loRegisterRead .pf0 ⟨0, 2, .clean⟩) State.pf0Served = .next State.pf0Refused := by
  simp [exec, execLoRegisterRead, State.serves_pf0Served, State.sizedRead, State.pf0Refused]

theorem State.serves_pf0Refused : State.pf0Refused.serves .pf0 = true := State.serves_pf0Served

theorem State.ur_pf0Refused : (State.pf0Refused.req .pf0).ur = true := by
  have kept : State.pf0Refused.req .pf0 = (State.pf0Served.modReq .pf0 (fun r => { r with ur := true })).req .pf0 := rfl
  rw [kept, State.req_modReq_same]

/-- Refutes O29: its last clause lets a read of MOT_STATUS change only the answer and the words held, but the read is answered, and so
ends the Unsupported Request of the read before it; the counterexample is PF0 after a malformed read. -/
theorem not_motorRegisters : ¬ Obligations.MotorRegisters := by
  unfold Obligations.MotorRegisters
  rintro ⟨-, -, -, -, -, -, read⟩
  obtain ⟨t, ran, answer, -⟩ := read .pf0 State.pf0Refused State.serves_pf0Refused
  rw [exec_motStatusRead State.serves_pf0Refused] at ran
  cases ran
  have kept : ((State.pf0Refused.motStatusRead .pf0).req .pf0).ur = (State.pf0Refused.req .pf0).ur := by rw [answer]
  rw [State.ur_motStatusRead, State.ur_pf0Refused] at kept
  exact Bool.false_ne_true kept

end Sys2Proof.Machine
end

section
/-! PROOFS. Returns as records (spec/07 R281, R282, spec/10 R419, R420): the numbers of a return's record, where the record goes,
and the obligation `Obligations.ReturnValues`. -/

namespace Sys2Proof.Machine

variable {s t u : State} {c k : Nat} {x : Bool} {b : Buf} {d : Descr} {m : CloseMark} {y : Cand}

/-! ## The numbers of a return (R281, R282, R420) -/

theorem rangeOf_eq {tau ofs : Int} {range : Nat}
    (h : (range : Int) = max 0 ((2 * ((tau - ofs) * 1534937) + 1048576) / 2097152)) : rangeOf tau ofs = range := by
  unfold rangeOf roundDiv
  rw [show (2 * ((1048576 : Nat) : Int)) = 2097152 from rfl, Nat.cast_ofNat]
  omega

theorem Acc.intensity_eq (a : Acc) : a.intensity = if 0 < a.overs then 4095 else if a.usable = 0 then 0
    else max 1 (min 4095 ((2 * a.sum + 16 * a.usable) / (32 * a.usable))) := by
  have mean : roundDiv a.sum (16 * a.usable) = (((2 * a.sum + 16 * a.usable) / (32 * a.usable) : Nat) : Int) := by
    unfold roundDiv
    rw [show 32 * a.usable = 2 * (16 * a.usable) by omega]
    push_cast
    rfl
  unfold Acc.intensity clampInt
  rw [mean]
  refine ite_congr rfl (fun _ => rfl) (fun _ => ite_congr rfl (fun _ => rfl) (fun _ => ?_))
  omega

/-- The thirteen flags of a return as a number, the first in bit 0 (R420). -/
theorem Cand.bitsNat_flags {a : Acc} : bitsNat (y.flags b d m k a)
    = (decide (m.fired < d.reps) || decide (0 < m.noStart) || m.early.isSome).toNat + 2 * b.lost.toNat
      + 4 * (decide (0 < a.overs)).toNat + 8 * (d.subst.getLsbD k).toNat + 16 * (decide (0 < a.settle)).toNat
      + 32 * y.foreign.toNat + 64 * y.weather.toNat + 128 * b.dirtyAt.toNat + 256 * y.win.isSome.toNat + 512 * b.sunAt.toNat
      + 1024 * d.degraded.toNat + 2048 * d.safety.toNat
      + 4096 * (b.nearBlank.any (fun j => decide (((y.b : Int) - 1) * d.wc - 4096 ≤ j))).toNat := by
  simp only [bitsNat, Cand.flags, partialDwell, List.zipIdx_cons, List.zipIdx_nil, List.map_cons, List.map_nil, List.sum_cons,
    List.sum_nil]
  omega

/-! ## Records on their way (R284, R590) -/

/-- From s to t no record on its way is lost. -/
def KeepsRecs (s t : State) : Prop := ∀ r ∈ s.host.allRecs, r ∈ t.host.allRecs

theorem keepsRecs_of_allRecs (h : t.host.allRecs = s.host.allRecs) : KeepsRecs s t := fun _ hr => h ▸ hr

theorem keepsRecs_refl : KeepsRecs s s := fun _ hr => hr

theorem KeepsRecs.trans (h : KeepsRecs s t) (g : KeepsRecs t u) : KeepsRecs s u := fun r hr => g r (h r hr)

theorem OnlyChanges.keepsRecs {L : List Part} (h : OnlyChanges L s t) (hp : Part.host ∉ L) : KeepsRecs s t :=
  keepsRecs_of_allRecs (congrArg HostIf.allRecs (h .host hp))

theorem keepsRecs_ite {p : Prop} [Decidable p] (ht : KeepsRecs s t) (hu : KeepsRecs s u) :
    KeepsRecs s (if p then t else u) := by
  split
  · exact ht
  · exact hu

/-- A pushed record is on its way, in the FIFO or at its source (R590). -/
theorem State.mem_allRecs_pushRec {r q : Rec} : q ∈ (s.pushRec r).host.allRecs ↔ q ∈ s.host.allRecs ∨ q = r := by
  unfold State.pushRec State.modHost HostIf.allRecs
  dsimp only
  split
  · simp only [List.mem_append, List.mem_singleton]
    tauto
  · simp only [List.mem_append, List.mem_singleton, or_assoc]

theorem keepsRecs_pushRec {r : Rec} : KeepsRecs s (s.pushRec r) := fun _ hq => State.mem_allRecs_pushRec.2 (Or.inl hq)

theorem keepsRecs_pushRecs {α : Type} {l : List α} {g : α → Rec} : KeepsRecs s (forAll l (fun t p => t.pushRec (g p)) s) :=
  forAll_induction (P := KeepsRecs s) keepsRecs_refl (fun _ _ _ h => h.trans keepsRecs_pushRec)

/-- A run of pushes puts each of its records on the way. -/
theorem State.mem_allRecs_pushRecs {α : Type} {l : List α} {g : α → Rec} {p : α} (hp : p ∈ l) :
    g p ∈ (forAll l (fun t p => t.pushRec (g p)) s).host.allRecs := by
  induction l generalizing s with
  | nil => exact absurd hp (List.not_mem_nil)
  | cons q l ih =>
    rw [forAll_cons]
    obtain rfl | hl := List.mem_cons.1 hp
    · exact keepsRecs_pushRecs (l := l) (g := g) _ (State.mem_allRecs_pushRec.2 (Or.inr rfl))
    · exact ih hl

theorem keepsRecs_post {typ kind index : Nat} {data : List Word} (h : KeepsRecs s t) :
    KeepsRecs s (t.post typ kind index data) := by
  have sent : ∀ (v : State) (f : Func) (ws : List Word), KeepsRecs v (v.eventTo f ws) := fun v f ws =>
    keepsRecs_ite keepsRecs_pushRec (keepsRecs_of_allRecs rfl)
  exact keepsRecs_ite (((h.trans (sent _ _ _)).trans (sent _ _ _)).trans (keepsRecs_of_allRecs State.allRecs_queueEvent)) h

theorem keepsRecs_weather {wet : Nat} : KeepsRecs s (s.weather c wet d) :=
  keepsRecs_ite (keepsRecs_post (keepsRecs_of_allRecs rfl))
    (keepsRecs_ite (keepsRecs_post (keepsRecs_of_allRecs rfl)) (keepsRecs_of_allRecs rfl))

theorem keepsRecs_xDone {id clocks : Nat} {wet : Bool} : KeepsRecs s (s.xDone c k id wet clocks d) := by
  obtain h | ⟨f, h⟩ | ⟨n, f, w, e, h⟩ := s.xDone_cases c k id wet clocks d
  · rw [h]; exact keepsRecs_refl
  · rw [h]; exact keepsRecs_of_allRecs rfl
  · rw [h]
    have weathered : KeepsRecs s (((s.skipFree n).modCrate c f).weather c w d) :=
      keepsRecs_weather (s := (s.skipFree n).modCrate c f)
    exact weathered

theorem State.allRecs_completeOpt {ref : Option CmdRef} {status : Nat} {shots : DWord} {dwells : Word} :
    (s.completeOpt ref status shots dwells).host.allRecs = s.host.allRecs := by
  unfold State.completeOpt State.complete
  split
  · rfl
  · split <;> rfl

theorem keepsRecs_freeBuf : KeepsRecs s (s.freeBuf c k x) :=
  (ev_freeBuf (L := [.bank, .chans]) (by decide) (by decide) ev_refl).1.keepsRecs (by decide)

theorem keepsRecs_endDump {status : Nat} : KeepsRecs s (s.endDump c status) :=
  endDump_induction (P := KeepsRecs s) keepsRecs_refl (fun _ _ _ _ => keepsRecs_of_allRecs State.allRecs_completeOpt)
    (fun _ _ _ h => h.trans keepsRecs_freeBuf) (fun _ _ _ _ h => h)

theorem keepsRecs_dumpLess {id : Nat} : KeepsRecs s (s.dumpLess c k id) :=
  finishDump_induction (P := KeepsRecs s) keepsRecs_refl (keepsRecs_endDump (s := s.modCrate c _))

theorem keepsRecs_leaveBuf : KeepsRecs s (s.leaveBuf c k x b) :=
  leaveBuf_induction (P := KeepsRecs s) keepsRecs_freeBuf (keepsRecs_freeBuf.trans keepsRecs_dumpLess)
    ((ev_keepForDump (L := [.bank, .chans]) (by decide) (by decide) ev_refl).1.keepsRecs (by decide))

theorem keepsRecs_endExtraction : KeepsRecs (s.recordsSent c k x b d m) (s.endExtraction c k x b d m) := by
  obtain ⟨wet, clocks, h⟩ := s.endExtraction_eq c k x b d m
  have sent : Evolves [.chans, .saf] (s.recordsSent c k x b d m) (s.resultsSent c k x b d m) :=
    ev_modChan (by decide) (ev_doIf (fun _ h => ev_zoneDeliver (by decide) h) ev_refl)
  rw [h]
  exact ((sent.1.keepsRecs (by decide)).trans keepsRecs_xDone).trans
    (keepsRecs_leaveBuf.trans (evolves_nextExtract.1.keepsRecs (by decide)))

/-- The record of a return is on its way once the extraction has ended (R284). -/
theorem State.record_mem_endExtraction {i : Nat} (hi : (s.extract c k x b d m).returns[i]? = some y) :
    y.record b d m c k i ∈ (s.endExtraction c k x b d m).host.allRecs := by
  have sent : y.record b d m c k i ∈ (s.recordsSent c k x b d m).host.allRecs := by
    unfold State.recordsSent
    exact State.mem_allRecs_pushRecs (g := fun p : Cand × Nat => p.1.record b d m c k p.2) (p := (y, i))
      (List.mk_mem_zipIdx_iff_getElem?.2 hi)
  exact keepsRecs_endExtraction _ sent

/-- Without a probe it stands in the FIFO behind those that wait and those of the returns before it (R284). -/
theorem State.record_at_endExtraction {i : Nat} (hi : (s.extract c k x b d m).returns[i]? = some y) (hp : b.probe = false)
    (hroom : s.host.recs.length + (s.extract c k x b d m).returns.length ≤ 1024) :
    (s.endExtraction c k x b d m).host.recs[s.host.recs.length + i]? = some (y.record b d m c k i) := by
  obtain ⟨l, hl, -⟩ := addsEvents_endExtraction (s := s) (c := c) (k := k) (x := x) (b := b) (d := d) (m := m)
  obtain ⟨hlt, -⟩ := List.getElem?_eq_some_iff.1 hi
  rw [hl, State.recs_resultsSent hp hroom, List.append_assoc, List.getElem?_append_right (Nat.le_add_right _ _),
    Nat.add_sub_cancel_left, List.getElem?_append_left (by simpa using hlt), List.getElem?_map, List.getElem?_zipIdx, hi]
  simp

/-- Settles O55: the record of the return is `Cand.record`, whose numbers are those of R281, R282 and R420. -/
theorem returnValues : Obligations.ReturnValues := by
  unfold Obligations.ReturnValues
  intro c k x b d m y i range intensity flags ofs a s hlive hx hb hd hm hroom hi hofs hrange ha hint hflags
  have hrange' : rangeOf y.tau (d.rdInt (CHU_OFS_ofs c k)) = range := rangeOf_eq (hofs ▸ hrange)
  have hacc : y.acc b = a := ha.symm
  have hbits : bitsNat (y.flags b d m k a) = flags := Cand.bitsNat_flags.trans hflags.symm
  refine ⟨_, y.record b d m c k i, exec_channelExtractionDone_room hlive hx hb hd hm hroom, State.record_mem_endExtraction hi,
    fun hp => State.record_at_endExtraction hi hp hroom, ?_, hrange'⟩
  simp only [Cand.record, pointWords, hacc, hbits, hrange', Acc.intensity_eq, ← hint]

end Sys2Proof.Machine
end

section
/-! PROOFS. Reads and the event queue (spec/07 R257, spec/09 R402, R403, spec/10 R437, R441, spec/15 R606, R611, R618): what each
kind of read answers and changes, where an event goes in the queue, and the obligation `Obligations.RegisterReads`. -/

namespace Sys2Proof.Machine

variable {s t : State} {q : Src} {a n : Nat} {ecc : Ecc} {x : ReadAccess} {e : List Word} {l : List (List Word)}

/-! ## The commands (R358) -/

theorem State.onlyChanges_modReq {f : Req → Req} : OnlyChanges [.reqs] s (s.modReq q f) :=
  (ev_modReq (by decide) ev_refl).1

theorem State.regs_noteUnsupported : (s.noteUnsupported q).regs = s.regs := by cases q <;> rfl

theorem State.reqs_noteUnsupported : (s.noteUnsupported q).reqs = s.reqs := by cases q <;> rfl

/-- An aligned read of four bytes reads. -/
theorem State.sizedRead_aligned {f : State → State} (hn : x.size = 4) (ha : x.addr.toNat % 4 = 0) :
    s.sizedRead q x f = f s := by
  simp [State.sizedRead, hn, ha]

/-- A read over BAR0 of another size or alignment ends with Unsupported Request. -/
theorem State.sizedRead_malformed {f : State → State} (hq : q ≠ .spi) (h : x.size ≠ 4 ∨ x.addr.toNat % 4 ≠ 0) :
    s.sizedRead q x f = (s.modReq q (fun r => { r with ur := true })).noteUnsupported q := by
  rw [State.sizedRead, if_pos ⟨hq, h⟩]

theorem State.req_answer {w : Word} : (s.answer q w).req q = { s.req q with rdata := w, ur := false } :=
  State.req_modReq_same

theorem exec_diagWindowRead (hq : s.serves q = true) (ha : 0x80000 ≤ x.addr.toNat) :
    exec (.diagWindowRead q x) s = .next (s.sizedRead q x (fun u => u.diagRead q x.addr.toNat x.ecc)) := by
  simp [exec, execDiagWindowRead, hq, ha]

theorem exec_loRegisterRead (hq : s.serves q = true) :
    exec (.loRegisterRead q x) s = .next (s.sizedRead q x (fun u => u.busRead q x.addr.toNat x.ecc)) := by
  simp [exec, execLoRegisterRead, hq]

theorem exec_rcFieldRead (hq : s.serves q = true) :
    exec (.rcFieldRead q x) s = .next (s.sizedRead q x (fun u => u.busRead q x.addr.toNat x.ecc)) := by
  simp [exec, execRcFieldRead, hq]

/-- A read of a register at its address, over whichever of the two commands. -/
theorem exec_reads_at (hq : s.serves q = true) (ha : a < 2 ^ 20) (h4 : a % 4 = 0) :
    exec (.loRegisterRead q ⟨BitVec.ofNat 20 a, 4, ecc⟩) s = .next (s.busRead q a ecc)
      ∧ exec (.rcFieldRead q ⟨BitVec.ofNat 20 a, 4, ecc⟩) s = .next (s.busRead q a ecc) := by
  have at_a : (BitVec.ofNat 20 a).toNat = a := by rw [BitVec.toNat_ofNat, Nat.mod_eq_of_lt ha]
  rw [exec_loRegisterRead hq, exec_rcFieldRead hq, State.sizedRead_aligned rfl (by rwa [at_a]), at_a]
  exact ⟨rfl, rfl⟩

theorem exec_eventQueueRead (hq : s.serves q = true) : exec (.eventQueueRead q) s = .next (s.evqRead q) := by
  simp [exec, execEventQueueRead, hq]

theorem onlyRegs_of_regs {L : List Nat} (h : t.regs = s.regs) : OnlyRegs L s t :=
  fun a _ => congrArg (fun m => sparseGet resetWord m a) h

/-- Who is served follows from the clock, the registers and Memory Space Enable (R355, R356, R551). -/
theorem State.serves_congr (hc : t.clk = s.clk) (hr : OnlyRegs [] s t) (h0 : t.host.pf0 = s.host.pf0)
    (h1 : t.host.pf1 = s.host.pf1) : t.serves q = s.serves q := by
  have ready : t.fabricReady = s.fabricReady := by
    unfold State.fabricReady
    rw [State.fabricLive_congr hc (hr _ List.not_mem_nil), hr.flag List.not_mem_nil]
  unfold State.serves
  rw [ready, hr.flag List.not_mem_nil, h0, h1]

/-! ## The diagnostic window (R257, R285, R618) -/

/-- Without an error the lower half answers and latches the upper half of the same bank word. -/
theorem State.diagRead_lower (h : a % 8 = 0) : s.diagRead q a .clean
    = s.modReq q (fun r => { r.got (s.diagWord q a) with diagHi := s.diagWord q (a + 4) }) := by
  have clean : ∀ (b : Bool) (f : Req → Req) (c k : Nat) (y : Bool),
      doIf b (fun t => t.eccRead c k y .clean) (s.modReq q f) = s.modReq q f := fun b _ _ _ _ => by cases b <;> rfl
  rw [State.diagRead, if_pos h, clean]

theorem State.diagRead_upper (h : a % 8 = 4) : s.diagRead q a ecc = s.answer q (s.req q).diagHi := by
  simp [State.diagRead, h]

/-- Both halves of a bank word lie in one bank. -/
theorem State.diagWord_upper (ha : 0x80000 ≤ a) (h : a % 8 = 0) : s.diagWord q (a + 4)
    = s.bankWord (8 * (s.req q).page + (a - 0x80000) / 0x10000) (a % 0x10000 + 4) := by
  unfold State.diagWord
  rw [show (a + 4 - 0x80000) / 0x10000 = (a - 0x80000) / 0x10000 by omega,
    show (a + 4) % 0x10000 = a % 0x10000 + 4 by omega]

/-! ## The queue of events as it is read (R402) -/

theorem State.evqRead_before_last (h : s.host.evq = e :: l) (hn : s.host.evqRead < 7) : s.evqRead q
    = (s.answer q (wordAt e s.host.evqRead)).modHost (fun h => { h with evqRead := h.evqRead + 1 }) := by
  simp [State.evqRead, State.evqWord, h, hn]

theorem State.evqRead_last (h : s.host.evq = e :: l) (hn : s.host.evqRead = 7) : s.evqRead q
    = ((s.answer q (wordAt e 7)).modHost (fun h => { h with evq := l, evqRead := 0 })).showEvq := by
  simp [State.evqRead, State.evqWord, State.modHost, State.answer, State.modReq, h, hn]

/-- The state after n reads of HIF_EVQ_DATA. -/
def State.evqReads (s : State) (q : Src) (n : Nat) : State := (fun t => t.evqRead q)^[n] s

theorem State.evqReads_succ : s.evqReads q (n + 1) = (s.evqReads q n).evqRead q := Function.iterate_succ_apply' ..

/-- Before the eighth read only the requester's answer and the place in the event change. -/
theorem State.evqReads_before_last (h : s.host.evq = e :: l) (h0 : s.host.evqRead = 0) (hn : n < 8) :
    (s.evqReads q n).host = { s.host with evqRead := n } ∧ (s.evqReads q n).clk = s.clk ∧ (s.evqReads q n).regs = s.regs := by
  induction n with
  | zero =>
    have same : { s.host with evqRead := s.host.evqRead } = s.host := rfl
    rw [h0] at same
    exact ⟨same.symm, rfl, rfl⟩
  | succ n ih =>
    obtain ⟨host, clk, regs⟩ := ih (by omega)
    have read := State.evqRead_before_last (s := s.evqReads q n) (q := q) (e := e) (l := l) (by rw [host, ← h])
      (by rw [host]; exact Nat.lt_of_succ_lt_succ hn)
    rw [State.evqReads_succ, read]
    exact ⟨congrArg (fun h : HostIf => { h with evqRead := h.evqRead + 1 }) host, clk, regs⟩

/-- Each of the eight reads answers with its word, and the eighth removes the event. -/
theorem State.evqReads_spec (h : s.host.evq = e :: l) (h0 : s.host.evqRead = 0) (hn : n < 8) :
    (s.evqReads q n).host.evq = e :: l ∧ (s.evqReads q n).host.evqRead = n
      ∧ (s.evqReads q n).serves q = s.serves q ∧ ((s.evqReads q (n + 1)).req q).rdata = wordAt e n := by
  obtain ⟨host, clk, regs⟩ := State.evqReads_before_last (q := q) h h0 hn
  have evq : (s.evqReads q n).host.evq = e :: l := by rw [host, ← h]
  have place : (s.evqReads q n).host.evqRead = n := by rw [host]
  refine ⟨evq, place, State.serves_congr clk (onlyRegs_of_regs regs) (by rw [host]) (by rw [host]), ?_⟩
  have answered : ∀ w, (((s.evqReads q n).answer q w).req q).rdata = w := fun _ => congrArg Req.rdata State.req_answer
  rw [State.evqReads_succ]
  by_cases hlast : n = 7
  · rw [State.evqRead_last evq (place.trans hlast), hlast]
    exact hlast ▸ answered _
  · rw [State.evqRead_before_last evq (by omega), place]
    exact answered _

/-! ## Plain registers, LO and HI registers, RC fields (R441, R606) -/

/-- A crate's register is read as it stands, its RC fields with it. -/
theorem State.busRead_crate (h : 0x10000 ≤ a) (hlt : a < 0x80000) :
    s.busRead q a ecc = s.rcRead q a ∧ s.live q a = s.reg a := by
  have apart : ∀ b, b < 0x10000 → a ≠ b := fun b hb => by omega
  have saf : isSafCfg a = false := by
    have far : ¬ (a - 0xA000 < 0x400) ∧ ¬ (a - 0xA000 ≤ 0x9C) ∧ ¬ (a - 0xA000 ≤ 0x30) := by omega
    simp [isSafCfg, safCfgOffset, far]
  have lo : hiOf a = none := by
    simp (disch := decide) [hiOf, apart]
  have hi : isHi a = false := by
    simp (disch := decide) [isHi, apart]
  have res : inFamily a (HK_RES_V 0) 8 32 = none ∧ inFamily a (HK_RES_S 0) 8 32 = none := by
    simp only [inFamily, HK_RES_V, HK_RES_S]
    constructor <;> exact if_neg (by omega)
  have mot : ¬ (a ≤ MOT_ROUND) ∧ ¬ (a ≤ FLT_LOG_DATA3) := by
    simp only [MOT_ROUND, FLT_LOG_DATA3]
    omega
  constructor
  · simp (disch := decide) [State.busRead, Nat.not_le.2 hlt, apart, lo, hi, res, mot]
  · simp (disch := decide) [State.live, saf, apart]

/-- The pairs of a LO register and its HI register, but for device time (R441). -/
def loHiPairs : List (Nat × Nat) := [(SHT_SHOTS_LO, SHT_SHOTS_HI), (GLB_UID_LO, GLB_UID_HI),
  (HIF_CTX_BASE_LO 0, HIF_CTX_BASE_HI 0), (HIF_CTX_BASE_LO 1, HIF_CTX_BASE_HI 1)]

/-- The read of a LO register answers with its word and latches that of its HI register, which a read of that one answers. -/
theorem State.busRead_loHi {lo hi : Nat} (h : (lo, hi) ∈ loHiPairs) :
    s.busRead q lo ecc = s.modReq q (fun r => { r.got (s.reg lo) with hi := s.reg hi })
      ∧ s.busRead q hi ecc = s.answer q (s.req q).hi := by
  simp only [loHiPairs, List.mem_cons, Prod.mk.injEq, List.not_mem_nil, or_false] at h
  obtain ⟨rfl, rfl⟩ | ⟨rfl, rfl⟩ | ⟨rfl, rfl⟩ | ⟨rfl, rfl⟩ := h <;> exact ⟨rfl, rfl⟩

theorem loHiPairs_addresses {lo hi : Nat} (h : (lo, hi) ∈ loHiPairs) :
    (lo < 2 ^ 20 ∧ lo % 4 = 0) ∧ hi < 2 ^ 20 ∧ hi % 4 = 0 := by
  have all : ∀ p ∈ loHiPairs, (p.1 < 2 ^ 20 ∧ p.1 % 4 = 0) ∧ p.2 < 2 ^ 20 ∧ p.2 % 4 = 0 := by decide
  exact all _ h

/-- A read of a register with a clock clears its RC fields (R606). -/
theorem State.rcRead_clears {d : RegDesc} (hd : regDescAt a = some d) (hrc : d.rcBits ≠ 0) (hc : s.clockless a = false) :
    s.rcRead q a = (s.answer q (s.live q a)).setReg a (s.reg a &&& ~~~ d.rcBits) := by
  simp only [State.rcRead, hd, hrc, hc, or_self, if_false, Bool.false_eq_true]
  rfl

/-- A register without a clock holds what it holds (log 45). -/
theorem State.rcRead_clockless (hc : s.clockless a = true) : s.rcRead q a = s.answer q (s.live q a) := by
  unfold State.rcRead
  cases regDescAt a <;> simp [hc]

/-- Every bit of HIF_SPI_STAT is of a counter that its read clears. -/
theorem rcBits_HIF_SPI_STAT : (regDescAt HIF_SPI_STAT).map RegDesc.rcBits = some (BitVec.allOnes 32) := by decide +kernel

theorem rcBits_CHU_ECC (c : CrateId) : (regDescAt (CHU_ECC c)).map RegDesc.rcBits = some 0xFFFFFF10 := by
  revert c
  decide +kernel

/-- CHU_ECC is a register of Churn, whose clock is its crate's (R437, R611). -/
theorem State.clockless_CHU_ECC (c : CrateId) : s.clockless (CHU_ECC c) = !s.cratePowered c := by
  have crate : crateOf (CHU_ECC c) = c := by
    simp only [crateOf, CHU_ECC]
    omega
  have timing : timingReg (CHU_ECC c) = false := by
    have off : ¬ crateOff (CHU_ECC c) < 0x800 := by
      simp only [crateOff, CHU_ECC]
      omega
    simp [timingReg, off]
  have high : 0x10000 ≤ CHU_ECC c := by
    simp only [CHU_ECC]
    omega
  rw [State.clockless, if_pos high, crate, timing, Bool.and_false, Bool.or_false]

/-- A read of CHU_ECC reads it as it stands. -/
theorem exec_rcFieldRead_CHU_ECC (c : CrateId) (hq : s.serves q = true) :
    exec (.rcFieldRead q ⟨BitVec.ofNat 20 (CHU_ECC c), 4, ecc⟩) s = .next (s.rcRead q (CHU_ECC c))
      ∧ s.live q (CHU_ECC c) = s.reg (CHU_ECC c) := by
  have place : 0x10000 ≤ CHU_ECC c ∧ CHU_ECC c < 0x80000 ∧ CHU_ECC c % 4 = 0 := by
    simp only [CHU_ECC]
    omega
  obtain ⟨low, high, aligned⟩ := place
  obtain ⟨read, live⟩ := State.busRead_crate (s := s) (q := q) (ecc := ecc) low high
  rw [(exec_reads_at hq (by omega) aligned).2, read]
  exact ⟨rfl, live⟩

/-! ## Events in the queue, and IRQ_N (R402, R403, R404) -/

theorem regs_eventTo_dropped {f : Func} {ws : List Word} : OnlyRegs [HIF_FN_ERR 0, HIF_FN_ERR 1] s (s.eventTo f ws) := by
  refine regs_ite (regs_pushRec onlyRegs_refl) (regs_bump ?_ onlyRegs_refl)
  cases f <;> decide

/-- A full queue discards the event and counts it. -/
theorem State.queueEvent_full {ws : List Word} (hf : s.flag HIF_SPI_CFG_evq_en = true) (hl : 32 ≤ s.host.evq.length) :
    s.queueEvent ws = s.bump HIF_EVQ_STAT_lost 1 := by
  rw [State.queueEvent, if_pos hf, if_neg (Nat.not_lt.2 hl)]

/-- A queue with room takes the event and shows that it holds one. -/
theorem State.flag_queueEvent {ws : List Word} (hf : s.flag HIF_SPI_CFG_evq_en = true) (hl : s.host.evq.length < 32) :
    (s.queueEvent ws).flag HIF_IRQ_STAT_evq = true := by
  rw [State.queueEvent, if_pos hf, if_pos hl, State.showEvq, State.flag_putB_same (by decide) rfl]
  simp [State.modHost]

theorem State.getLsbD_of_flag {f : FRef} (h : s.flag f = true) (hw : f.width = 1) : (s.reg f.addr).getLsbD f.lsb = true := by
  have bit : (s.rd f).testBit 0 = (s.reg f.addr).getLsbD f.lsb := by
    rw [State.rd, FRef.testBit_get, hw]
    simp
  have one : s.rd f = 1 := by
    have pos : s.rd f ≠ 0 := by simpa [State.flag] using h
    have lt : s.rd f < 2 ^ f.width := State.rd_lt
    rw [hw] at lt
    omega
  rw [← bit, one]
  rfl

/-- IRQ_N is low while the queue holds an event and its interrupt is enabled (R403). -/
theorem State.irqLevel_of_evq (h : s.flag HIF_IRQ_STAT_evq = true) (he : s.flag HIF_IRQ_EN_evq = true) : s.irqLevel = .low := by
  have stat := State.getLsbD_of_flag h rfl
  have enabled := State.getLsbD_of_flag he rfl
  refine if_neg (fun zero => ?_)
  have both : (s.reg HIF_IRQ_STAT &&& s.reg HIF_IRQ_EN).getLsbD HIF_IRQ_EN_evq.lsb = true := by
    rw [BitVec.getLsbD_and]
    exact Bool.and_eq_true_iff.2 ⟨stat, enabled⟩
  rw [zero] at both
  simp at both

/-- What an event meets on its way into the queue: the states before and after it is sent to the functions. -/
structure Sent (s u : State) : Prop where
  evq : u.host.evq = s.host.evq
  regs : OnlyRegs [HIF_FN_ERR 0, HIF_FN_ERR 1] s u

theorem sent_eventTo {f : Func} {ws : List Word} (h : Sent s t) : Sent s (t.eventTo f ws) :=
  ⟨State.evq_eventTo.trans h.evq, onlyRegs_trans h.regs regs_eventTo_dropped⟩

/-- Where the queue has room, the event is its last, and IRQ_N is low where it is enabled. -/
theorem Sent.queued {u : State} {ws : List Word} (h : Sent s u) (hf : s.flag HIF_SPI_CFG_evq_en = true)
    (hl : s.host.evq.length < 32) : (u.queueEvent ws).host.evq = s.host.evq ++ [ws]
      ∧ (s.flag HIF_IRQ_EN_evq = true → (u.queueEvent ws).irqLevel = .low) := by
  have on : u.flag HIF_SPI_CFG_evq_en = true := (h.regs.flag (by decide)).trans hf
  have room : u.host.evq.length < 32 := by rw [h.evq]; exact hl
  refine ⟨by rw [State.evq_queueEvent on room, h.evq], fun he => State.irqLevel_of_evq (State.flag_queueEvent on room) ?_⟩
  have kept : OnlyRegs eventRegs s (u.queueEvent ws) := regs_queueEvent (fun _ hb => hb) (onlyRegs_mono (by decide) h.regs)
  exact (kept.flag (by decide)).trans he

/-- Where it is full, the event is counted as lost. -/
theorem Sent.lost {u : State} {ws : List Word} (h : Sent s u) (hf : s.flag HIF_SPI_CFG_evq_en = true)
    (hl : 32 ≤ s.host.evq.length) : (u.queueEvent ws).host.evq = s.host.evq ∧ (u.queueEvent ws).rd HIF_EVQ_STAT_lost
      = min (s.rd HIF_EVQ_STAT_lost + 1) (2 ^ HIF_EVQ_STAT_lost.width - 1) := by
  rw [State.queueEvent_full ((h.regs.flag (by decide)).trans hf) (by rw [h.evq]; exact hl)]
  exact ⟨h.evq, by rw [State.rd_bump_same (by decide), h.regs.rd (by decide)]⟩

/-- An event is sent to both functions, one of a ring to the ring's, and then queued. -/
theorem State.post_eq {ty k i : Nat} {d : List Word} (h : s.fabricLive = true) :
    ∃ u, Sent s u ∧ s.post ty k i d = u.queueEvent (s.eventWords ty k i d) :=
  ⟨_, sent_eventTo (sent_eventTo ⟨rfl, onlyRegs_refl⟩), if_pos h⟩

theorem State.postRing_eq {ty : Nat} {r : RingId} {d : List Word} (h : s.fabricLive = true) :
    ∃ u, Sent s u ∧ s.postRing ty r d
      = u.queueEvent (s.eventWords ty 6 (fnIdx (ringOwner r)) (BitVec.ofNat 32 r.toNat :: d)) :=
  ⟨_, sent_eventTo ⟨rfl, onlyRegs_refl⟩, if_pos h⟩

/-- Settles O44: each read by the form that `busRead` takes at its address, each event by what it meets on its way. -/
theorem registerReads : Obligations.RegisterReads := by
  unfold Obligations.RegisterReads
  refine ⟨?lower, ?upper, ?malformed, ?evq, ?evqLast, ?loHi, ?spi, ?ecc, ?eccOff, ?skip, ?queued, ?full, ?eight⟩
  case lower =>
    intro q a s hq ha h8
    have read : s.sizedRead q ⟨a, 4, .clean⟩ (fun u => u.diagRead q a.toNat .clean) = _ :=
      (State.sizedRead_aligned rfl (show a.toNat % 4 = 0 by omega)).trans (State.diagRead_lower h8)
    rw [State.diagWord_upper ha h8] at read
    exact ⟨_, _, (exec_diagWindowRead hq ha).trans (congrArg _ read), rfl, State.req_modReq_same, State.onlyChanges_modReq⟩
  case upper =>
    intro q a e s hq ha h8
    have read : s.sizedRead q ⟨a, 4, e⟩ (fun u => u.diagRead q a.toNat e) = _ :=
      (State.sizedRead_aligned rfl (show a.toNat % 4 = 0 by omega)).trans (State.diagRead_upper h8)
    exact ⟨_, (exec_diagWindowRead hq ha).trans (congrArg _ read), State.req_answer, State.onlyChanges_modReq⟩
  case malformed =>
    intro q a n e s hq hspi hbad
    have ends : ∀ f, s.sizedRead q ⟨a, n, e⟩ f = (s.modReq q (fun r => { r with ur := true })).noteUnsupported q :=
      fun _ => State.sizedRead_malformed hspi hbad
    refine ⟨_, (exec_loRegisterRead hq).trans (congrArg _ (ends _)), (exec_rcFieldRead hq).trans (congrArg _ (ends _)),
      fun ha => (exec_diagWindowRead hq ha).trans (congrArg _ (ends _)), ?_, State.regs_noteUnsupported⟩
    rw [State.req, State.reqs_noteUnsupported]
    exact State.req_modReq_same
  case evq =>
    intro q e l s hq he hn
    exact ⟨_, (exec_eventQueueRead hq).trans (congrArg _ (State.evqRead_before_last he hn)), State.req_answer, rfl,
      onlyRegs_of_regs rfl⟩
  case evqLast =>
    intro q e l s hq he hn hl
    refine ⟨_, (exec_eventQueueRead hq).trans (congrArg _ (State.evqRead_last he hn)), State.req_answer, rfl, ?_,
      State.flag_putB_same (by decide) rfl,
      regs_putB (by decide) (regs_put (by decide) (onlyRegs_of_regs rfl))⟩
    rw [State.showEvq, State.rd_putB_apart (.inl (by decide))]
    exact State.rd_put_of_lt (by decide) (show l.length < 2 ^ 6 by omega)
  case loHi =>
    intro q lo hi s hq hp
    obtain ⟨⟨hlo, alo⟩, hhi, ahi⟩ := loHiPairs_addresses hp
    obtain ⟨low, high⟩ := State.busRead_loHi (s := s) (q := q) (ecc := .clean) hp
    exact ⟨_, _, (exec_reads_at hq hlo alo).1.trans (congrArg _ low), State.req_modReq_same, State.onlyChanges_modReq,
      (exec_reads_at hq hhi ahi).1.trans (congrArg _ high), State.req_answer, State.onlyChanges_modReq⟩
  case spi =>
    intro q s hq
    obtain ⟨d, hd, hrc⟩ := Option.map_eq_some_iff.1 rcBits_HIF_SPI_STAT
    have read : s.rcRead q HIF_SPI_STAT = _ := State.rcRead_clears hd (by rw [hrc]; decide) rfl
    rw [hrc, BitVec.not_allOnes, BitVec.and_zero] at read
    exact ⟨_, (exec_reads_at (a := HIF_SPI_STAT) hq (by decide) (by decide)).2.trans (congrArg _ read), State.req_answer,
      State.reg_setReg_same,
      State.onlyRegs_setReg (s := s.answer q _), (ev_setReg (by decide) (ev_answer (by decide) ev_refl)).1⟩
  case ecc =>
    intro q c s hq hp
    obtain ⟨ran, live⟩ := exec_rcFieldRead_CHU_ECC (ecc := .clean) c hq
    obtain ⟨d, hd, hrc⟩ := Option.map_eq_some_iff.1 (rcBits_CHU_ECC c)
    have clears : s.rcRead q (CHU_ECC c) = _ := State.rcRead_clears hd (by rw [hrc]; decide)
      (by rw [State.clockless_CHU_ECC, hp]; rfl)
    rw [hrc, live] at clears
    exact ⟨_, ran.trans (congrArg _ clears), State.req_answer, State.reg_setReg_same, State.onlyRegs_setReg (s := s.answer q _)⟩
  case eccOff =>
    intro q c s hq hp
    obtain ⟨ran, live⟩ := exec_rcFieldRead_CHU_ECC (ecc := .clean) c hq
    have holds : s.rcRead q (CHU_ECC c) = _ := State.rcRead_clockless (by rw [State.clockless_CHU_ECC, hp]; rfl)
    rw [live] at holds
    exact ⟨_, ran.trans (congrArg _ holds), State.req_answer, State.onlyChanges_modReq⟩
  case skip =>
    intro q s hq ht
    have stopped : s.clockless SHT_SKIP = true := by
      rw [State.clockless, ht]
      rfl
    exact ⟨_, (exec_reads_at (a := SHT_SKIP) hq (by decide) (by decide)).2.trans (congrArg _ (State.rcRead_clockless stopped)),
      State.req_answer, State.onlyChanges_modReq⟩
  case queued =>
    intro ty k i r d s hlive hf hl
    obtain ⟨u, hu, posted⟩ := State.post_eq (ty := ty) (k := k) (i := i) (d := d) hlive
    obtain ⟨v, hv, ringPosted⟩ := State.postRing_eq (ty := ty) (r := r) (d := d) hlive
    obtain ⟨evq, irq⟩ := hu.queued hf hl
    obtain ⟨evqRing, irqRing⟩ := hv.queued hf hl
    rw [posted, ringPosted]
    exact ⟨evq, evqRing, fun he => ⟨irq he, irqRing he⟩⟩
  case full =>
    intro ty k i r d s t hlive hf hl ht
    obtain rfl | rfl := ht
    · obtain ⟨u, hu, posted⟩ := State.post_eq (ty := ty) (k := k) (i := i) (d := d) hlive
      exact posted ▸ hu.lost hf hl
    · obtain ⟨u, hu, posted⟩ := State.postRing_eq (ty := ty) (r := r) (d := d) hlive
      exact posted ▸ hu.lost hf hl
  case eight =>
    intro q e l s hq he h0
    obtain ⟨evq, place, -, -⟩ := State.evqReads_spec (q := q) he h0 (show 7 < 8 by decide)
    have last : s.evqReads q 8 = _ := State.evqReads_succ.trans (State.evqRead_last evq place)
    refine ⟨s.evqReads q, rfl, by rw [last]; rfl, by rw [last]; rfl, fun i hi => ?_⟩
    obtain ⟨queue, -, serves, answer⟩ := State.evqReads_spec (q := q) he h0 hi
    exact ⟨by rw [exec_eventQueueRead (serves.trans hq), State.evqReads_succ], queue, answer⟩

end Sys2Proof.Machine
end

section
/-! PROOFS. The bytes of a Churn bank (spec/07 R252, R256 to R258, R293): what reads of bins and words give after writes of them. -/

namespace Sys2Proof.Machine

variable {s : State} {c b v e a n : Nat} {w z : Word}

/-! ## Bytes and bins -/

theorem State.bankByte_setBankByte {y : Byte} (hb : b < 65536) (ha : a < 65536) :
    (s.setBankByte c b y).bankByte e a = if e = c ∧ a = b then y else s.bankByte e a := by
  unfold State.setBankByte State.bankByte
  rw [Nat.mod_eq_of_lt hb, Nat.mod_eq_of_lt ha]
  split
  · rename_i h
    rw [h.1, h.2, sparseGet_set_same]
  · exact sparseGet_set_ne _ _ (by omega)

/-- A write to a bank changes no byte of another one. -/
theorem State.bankByte_setBankByte_bank {y : Byte} (h : e ≠ c) : (s.setBankByte c b y).bankByte e a = s.bankByte e a :=
  sparseGet_set_ne _ _ (by omega)

/-- The bytes of a bin, after a write of it. -/
theorem State.bankByte_setBankHalf (hb : b + 1 < 65536) (ha : a < 65536) : (s.setBankHalf c b v).bankByte e a
    = if e = c ∧ a = b then BitVec.ofNat 8 v else if e = c ∧ a = b + 1 then BitVec.ofNat 8 (v / 256) else s.bankByte e a := by
  unfold State.setBankHalf
  rw [State.bankByte_setBankByte hb ha, State.bankByte_setBankByte (by omega) ha]
  by_cases h : e = c ∧ a = b
  · have apart : ¬ (e = c ∧ a = b + 1) := by omega
    rw [if_neg apart]
    simp only [h, and_self, if_true]
  · simp only [h, if_false]

theorem State.bankByte_setBankHalf_bank (h : e ≠ c) : (s.setBankHalf c b v).bankByte e a = s.bankByte e a :=
  (State.bankByte_setBankByte_bank h).trans (State.bankByte_setBankByte_bank h)

/-- A bin reads as it was written, within its 16 bits. -/
theorem State.bankHalf_setBankHalf_same (hb : b + 1 < 65536) : (s.setBankHalf c b v).bankHalf c b = v % 65536 := by
  unfold State.bankHalf
  rw [State.bankByte_setBankHalf hb (by omega), State.bankByte_setBankHalf hb hb, if_pos ⟨rfl, rfl⟩, if_neg (by omega),
    if_pos ⟨rfl, rfl⟩, BitVec.toNat_ofNat, BitVec.toNat_ofNat]
  omega

theorem State.bankHalf_setBankHalf_apart (hb : b + 1 < 65536) (ha : a + 1 < 65536) (h : a + 2 ≤ b ∨ b + 2 ≤ a) :
    (s.setBankHalf c b v).bankHalf c a = s.bankHalf c a := by
  have kept : ∀ i, i < 65536 → i ≠ b → i ≠ b + 1 → (s.setBankHalf c b v).bankByte c i = s.bankByte c i := by
    intro i hi h0 h1
    rw [State.bankByte_setBankHalf hb hi, if_neg (fun h => h0 h.2), if_neg (fun h => h1 h.2)]
  unfold State.bankHalf
  rw [kept a (by omega) (by omega) (by omega), kept (a + 1) ha (by omega) (by omega)]

/-! ## Words -/

/-- A word reads as it was written. -/
theorem State.bankWord_setBankWord_same (hb : b + 3 < 65536) : (s.setBankWord c b w).bankWord c b = w := by
  unfold State.bankWord State.setBankWord
  rw [State.bankHalf_setBankHalf_same (b := b + 2) (by omega), State.bankHalf_setBankHalf_apart (by omega) (by omega) (by omega),
    State.bankHalf_setBankHalf_same (by omega)]
  refine BitVec.eq_of_toNat_eq ?_
  rw [BitVec.toNat_ofNat]
  omega

theorem State.bankWord_setBankWord_apart (hb : b + 3 < 65536) (ha : a + 3 < 65536) (h : a + 4 ≤ b ∨ b + 4 ≤ a) :
    (s.setBankWord c b w).bankWord c a = s.bankWord c a := by
  unfold State.bankWord State.setBankWord
  rw [State.bankHalf_setBankHalf_apart (b := b + 2) (by omega) (by omega) (by omega),
    State.bankHalf_setBankHalf_apart (b := b) (by omega) (by omega) (by omega),
    State.bankHalf_setBankHalf_apart (b := b + 2) (by omega) (by omega) (by omega),
    State.bankHalf_setBankHalf_apart (b := b) (by omega) (by omega) (by omega)]

/-- A write of a word leaves the bytes outside it. -/
theorem State.bankByte_setBankWord_apart (hb : b + 3 < 65536) (ha : a < 65536) (h : a < b ∨ b + 4 ≤ a) :
    (s.setBankWord c b w).bankByte e a = s.bankByte e a := by
  unfold State.setBankWord
  rw [State.bankByte_setBankHalf (by omega) ha, if_neg (by omega), if_neg (by omega),
    State.bankByte_setBankHalf (by omega) ha, if_neg (by omega), if_neg (by omega)]

theorem State.bankByte_setBankWord_bank (h : e ≠ c) : (s.setBankWord c b w).bankByte e a = s.bankByte e a :=
  (State.bankByte_setBankHalf_bank h).trans (State.bankByte_setBankHalf_bank h)

/-- What leaves the banks leaves their bins and words. -/
theorem OnlyChanges.bankHalf {t : State} {L : List Part} (h : OnlyChanges L s t) (hp : Part.bank ∉ L) :
    t.bankHalf c a = s.bankHalf c a := by
  rw [State.bankHalf, State.bankHalf, h.bankByte hp, h.bankByte hp]

theorem OnlyChanges.bankWord {t : State} {L : List Part} (h : OnlyChanges L s t) (hp : Part.bank ∉ L) :
    t.bankWord c a = s.bankWord c a := by
  rw [State.bankWord, State.bankWord, h.bankHalf hp, h.bankHalf hp]

/-! ## Units of a capture (R256, R293) -/

/-- The state with a unit written at byte a of a bank. -/
def State.unitWritten (s : State) (c a : Nat) (u : Word × Word) : State :=
  (s.setBankWord c a u.1).setBankWord c (a + 4) u.2

/-- Both words of a unit read as they were written, and no other byte changes. -/
theorem State.unitWritten_spec {u : Word × Word} (ha : a + 8 ≤ 65536) : (s.unitWritten c a u).bankWord c a = u.1
    ∧ (s.unitWritten c a u).bankWord c (a + 4) = u.2
    ∧ (∀ i, i < 65536 → i < a ∨ a + 8 ≤ i → (s.unitWritten c a u).bankByte c i = s.bankByte c i)
    ∧ (∀ g i, g ≠ c → (s.unitWritten c a u).bankByte g i = s.bankByte g i) := by
  unfold State.unitWritten
  refine ⟨?_, State.bankWord_setBankWord_same (by omega), fun i hi h => ?_, fun g i h => ?_⟩
  · rw [State.bankWord_setBankWord_apart (by omega) (by omega) (by omega), State.bankWord_setBankWord_same (by omega)]
  · rw [State.bankByte_setBankWord_apart (by omega) hi (by omega), State.bankByte_setBankWord_apart (by omega) hi (by omega)]
  · rw [State.bankByte_setBankWord_bank h, State.bankByte_setBankWord_bank h]

/-- The units of a capture follow one another in the upper halves of the buffers (R256). -/
theorem rawAt_eq : rawAt n = 2048 * (n / 128) + 1024 + 8 * (n % 128) := by
  have odd : (n / 128 % 2 == 1).toNat = n / 128 % 2 := by
    obtain h | h := Nat.mod_two_eq_zero_or_one (n / 128) <;> rw [h] <;> rfl
  unfold rawAt bufBase
  rw [odd]
  omega

theorem rawAt_lt (h : n < rawRoom) : rawAt n + 8 ≤ 65536 := by
  rw [rawAt_eq]
  unfold rawRoom at h
  omega

end Sys2Proof.Machine
end

section
/-! PROOFS. Accumulation and scrubbing (spec/07 R258 to R262, R270, R271, R285, R286, R293, R294): what an event leaves in its
buffer, in the bank and in a capture, how errors count, and the obligation `Obligations.AccumulationAndScrubbing`. -/

namespace Sys2Proof.Machine

variable {s t : State} {c k i b n : Nat} {x : Bool} {d : Descr} {e : Evt} {r : Raw} {q : List FifoItem} {ecc : List Ecc}

/-! ## The event leaves the FIFO (R261) -/

/-- The state once the oldest entry has left the event FIFO. -/
def State.fifoTaken (s : State) (c : Nat) : State := s.modCrate c (fun g => { g with fifo := g.fifo.tail })

theorem exec_eventAccumulate {c : CrateId} (hlive : s.churnLive = true) (hf : (s.crate c).fifo = .event e :: q)
    (hc : (s.crate c).cur = some d) : exec (.eventAccumulate c ecc) s = .next (s.takeEvent c d e ecc) := by
  simp [exec, execEventAccumulate, hf, hc, hlive]

theorem State.crate_fifoTaken {p : FifoItem} (hf : (s.crate c).fifo = p :: q) :
    (s.fifoTaken c).crate c = { s.crate c with fifo := q } := by
  rw [State.fifoTaken, State.crate_modCrate_same, hf]
  rfl

theorem evolves_fifoTaken : Evolves [.crates] s (s.fifoTaken c) := ev_modCrate (by decide) ev_refl

/-- A channel accumulates or not by what takes part and what is late. -/
theorem State.accumulates_congr (h : (t.crate c).late = (s.crate c).late) : t.accumulates c k d = s.accumulates c k d := by
  rw [State.accumulates, State.accumulates, h]

theorem State.rawEvent_of_none (h : (s.crate c).raw = none) : s.rawEvent c e = s := by simp [State.rawEvent, h]

/-- Without a capture, the event of a channel that does not accumulate only leaves the FIFO. -/
theorem State.takeEvent_passes (hr : (s.crate c).raw = none) (ha : s.accumulates c e.chan d = false) :
    s.takeEvent c d e ecc = s.fifoTaken c := by
  have raw : (s.fifoTaken c).rawEvent c e = s.fifoTaken c := State.rawEvent_of_none (by simp [State.fifoTaken, hr])
  have passes : (s.fifoTaken c).accumulates c e.chan d = false :=
    (State.accumulates_congr (by simp [State.fifoTaken])).trans ha
  unfold State.takeEvent
  rw [show s.modCrate c _ = s.fifoTaken c from rfl, raw]
  exact doIf_of_eq_false passes

/-- That of a channel that accumulates enters its buffer, with the errors of its reads counted before. -/
theorem State.takeEvent_enters (hr : (s.crate c).raw = none) (ha : s.accumulates c e.chan d = true)
    (hx : x = (s.chan c e.chan).accBuf) :
    s.takeEvent c d e ecc = ((s.fifoTaken c).eccReads c e.chan x ecc).bufEvent c e.chan x d e := by
  have raw : (s.fifoTaken c).rawEvent c e = s.fifoTaken c := State.rawEvent_of_none (by simp [State.fifoTaken, hr])
  have enters : (s.fifoTaken c).accumulates c e.chan d = true :=
    (State.accumulates_congr (by simp [State.fifoTaken])).trans ha
  unfold State.takeEvent
  rw [show s.modCrate c _ = s.fifoTaken c from rfl, raw, hx]
  exact doIf_of_eq_true enters

/-! ## The event in its buffer (R258, R261, R262, R270, R271) -/

/-- Before the window the event is only counted in its buffer. -/
theorem State.bufEvent_before (h : e.interval < 0) :
    s.bufEvent c k x d e = s.modBuf c k x (fun b => { b with preCount := b.preCount + 1 }) := if_pos h

/-- An event that blanking follows is noted in its buffer. -/
def State.blankNoted (s : State) (c k : Nat) (x : Bool) (e : Evt) : State :=
  doIf e.nearBlank (fun t => t.modBuf c k x (fun b => { b with nearBlank := some (max e.interval.toNat (b.nearBlank.getD 0)) })) s

theorem evolves_blankNoted : Evolves [.chans] s (s.blankNoted c k x e) :=
  ev_doIf (fun _ h => ev_modBuf (by decide) h) ev_refl

theorem State.buf_blankNoted : ((s.blankNoted c k x e).chan c k).buf x = (s.chan c k).buf x
    ∨ ∃ v, ((s.blankNoted c k x e).chan c k).buf x = { (s.chan c k).buf x with nearBlank := v } :=
  doIf_induction (P := fun t => (t.chan c k).buf x = (s.chan c k).buf x
    ∨ ∃ v, (t.chan c k).buf x = { (s.chan c k).buf x with nearBlank := v }) (.inl rfl)
    (fun _ => .inr ⟨_, State.buf_modBuf_same⟩)

/-- Beyond the coverage it is only counted. -/
theorem State.bufEvent_beyond (h0 : 0 ≤ e.interval) (h : 512 ≤ (e.interval.toNat + 4096) / d.wc) :
    s.bufEvent c k x d e = (s.blankNoted c k x e).bump (CHU_STAT_beyond c) 1 := by
  rw [State.bufEvent, if_neg (Int.not_lt.2 h0)]
  exact if_pos h

theorem State.bufEvent_within (h0 : 0 ≤ e.interval) (hb : b = (e.interval.toNat + 4096) / d.wc) (h : b < 512) :
    s.bufEvent c k x d e = (s.blankNoted c k x e).histEvent c k x d e e.interval.toNat b := by
  subst hb
  rw [State.bufEvent, if_neg (Int.not_lt.2 h0)]
  exact if_neg (Nat.not_le.2 h)

theorem Buf.acc_charge_same {u : Buf} {a : Nat} : (u.charge i e a).acc i = (u.acc i).take e a := sparseGet_set_same ..

/-- Where no fine window holds the event, it adds to its coarse bin alone, and to the accumulator of the bin's block. -/
theorem State.histEvent_coarse (hf : fineOf ((s.chan c k).buf x).fine d.wf i = none) : ∃ f,
    s.histEvent c k x d e i b = (s.binInc c (coarseAt k x b)).modBuf c k x f
      ∧ ∀ u, (f u).events = u.events + 1
        ∧ (f u).acc (b / 32) = (u.acc (b / 32)).take e (e.charge (d.rd (CRT_FE_fe_mode c) == 1)) := by
  unfold State.histEvent
  rw [hf]
  exact ⟨_, rfl, fun u => ⟨rfl, Buf.acc_charge_same⟩⟩

/-- A bin counts by 1 and saturates; no other byte changes (R258). -/
theorem State.binInc_spec (hb : b + 1 < 65536) :
    (s.binInc c b).bankHalf c b = min 65535 (s.bankHalf c b + 1)
      ∧ (∀ a, a < 65536 → a ≠ b → a ≠ b + 1 → (s.binInc c b).bankByte c a = s.bankByte c a)
      ∧ (∀ g a, g ≠ c → (s.binInc c b).bankByte g a = s.bankByte g a) := by
  unfold State.binInc
  refine ⟨?_, fun a ha h0 h1 => ?_, fun g a h => State.bankByte_setBankHalf_bank h⟩
  · rw [State.bankHalf_setBankHalf_same hb]
    omega
  · rw [State.bankByte_setBankHalf hb ha, if_neg (fun h => h0 h.2), if_neg (fun h => h1 h.2)]

theorem coarseAt_lt (hk : k < 16) (hb : b < 512) : coarseAt k x b + 1 < 65536 := by
  have base := bufBase_le (x := x) hk
  unfold coarseAt
  omega

/-- What an event within the coverage, but in no fine window, leaves of its bin, the bank and its buffer. -/
structure CoarseCounted (s t : State) (c k : Nat) (x : Bool) (b : Nat) (d : Descr) (e : Evt) : Prop where
  bin : t.bankHalf c (coarseAt k x b) = min 65535 (s.bankHalf c (coarseAt k x b) + 1)
  bytes : ∀ a, a < 65536 → a ≠ coarseAt k x b → a ≠ coarseAt k x b + 1 → t.bankByte c a = s.bankByte c a
  banks : ∀ g a, g ≠ c → t.bankByte g a = s.bankByte g a
  events : ((t.chan c k).buf x).events = ((s.chan c k).buf x).events + 1
  acc : ((t.chan c k).buf x).acc (b / 32) = (((s.chan c k).buf x).acc (b / 32)).take e (e.charge (d.rd (CRT_FE_fe_mode c) == 1))
  chans : OnlyChans [(c, k)] s t
  kept : OnlyChanges [.bank, .chans] s t

theorem State.coarseCounted_bufEvent (hk : k < 16) (h0 : 0 ≤ e.interval) (hb : b = (e.interval.toNat + 4096) / d.wc)
    (hlt : b < 512) (hf : fineOf ((s.chan c k).buf x).fine d.wf e.interval.toNat = none) :
    CoarseCounted s (s.bufEvent c k x d e) c k x b d e := by
  have noted : Evolves [.chans] s (s.blankNoted c k x e) := evolves_blankNoted
  have counted : Evolves [.bank] (s.blankNoted c k x e) ((s.blankNoted c k x e).binInc c (coarseAt k x b)) :=
    ev_binInc (by decide) ev_refl
  have fine : ((s.blankNoted c k x e).chan c k |>.buf x).fine = ((s.chan c k).buf x).fine := by
    obtain kept | ⟨v, kept⟩ := State.buf_blankNoted (s := s) (c := c) (k := k) (x := x) (e := e)
    all_goals rw [kept]
  obtain ⟨v, buffer⟩ : ∃ v, (((s.blankNoted c k x e).binInc c (coarseAt k x b)).chan c k).buf x
      = { (s.chan c k).buf x with nearBlank := v } := by
    rw [counted.1.chan (by decide)]
    obtain kept | kept := State.buf_blankNoted (s := s) (c := c) (k := k) (x := x) (e := e)
    · exact ⟨_, kept⟩
    · exact kept
  obtain ⟨f, entered, added⟩ := State.histEvent_coarse (s := s.blankNoted c k x e) (e := e) (b := b) (fine ▸ hf)
  have last : Evolves [.chans] ((s.blankNoted c k x e).binInc c (coarseAt k x b)) _ :=
    ev_modBuf (c := c) (k := k) (x := x) (f := f) (by decide) ev_refl
  obtain ⟨bin, bytes, banks⟩ := State.binInc_spec (s := s.blankNoted c k x e) (c := c) (coarseAt_lt (x := x) hk hlt)
  rw [State.bufEvent_within h0 hb hlt, entered]
  constructor
  · rw [last.1.bankHalf (by decide), bin, noted.1.bankHalf (by decide)]
  · intro a ha h1 h2
    rw [last.1.bankByte (by decide), bytes a ha h1 h2, noted.1.bankByte (by decide)]
  · intro g a hg
    rw [last.1.bankByte (by decide), banks g a hg, noted.1.bankByte (by decide)]
  · rw [State.buf_modBuf_same, (added _).1, buffer]
  · rw [State.buf_modBuf_same, (added _).2, buffer]
    rfl
  · have before : OnlyChans [(c, k)] s (s.blankNoted c k x e) :=
      doIf_induction (P := OnlyChans [(c, k)] s) onlyChans_refl (fun _ => onlyChans_modChan hk (List.mem_singleton.2 rfl))
    exact ((before.evolves counted (by decide))).modChan hk (List.mem_singleton.2 rfl)
  · exact (ev_trans (ev_mono noted (by decide)) (ev_trans (ev_mono counted (by decide)) (ev_mono last (by decide)))).1

/-! ## The event in a capture (R293, R294) -/

theorem State.putUnit_room {u : Word × Word} (hr : (s.crate c).raw = some r) (hn : r.count < 4096) : s.putUnit c u
    = (s.unitWritten c (rawAt r.count) u).modCrate c (fun g => { g with raw := some { r with count := r.count + 1 } }) := by
  simp only [State.putUnit, hr]
  exact if_pos hn

/-- An event that a capture takes: of a masked channel, with its interval within the window unless pre is set. -/
def Raw.takes (r : Raw) (e : Evt) : Prop :=
  r.stage = .capturing ∧ r.mask.getLsbD e.chan = true ∧ (r.pre = true ∨ 0 ≤ e.interval)

/-- Below the limit it becomes the capture's next unit. -/
theorem State.rawEvent_written (hr : (s.crate c).raw = some r) (ht : r.takes e) (hl : r.written < r.limit) : s.rawEvent c e
    = (s.modCrate c (fun g => { g with raw := some { r with written := r.written + 1 } })).putUnit c (e.rawWords c) := by
  simp only [State.rawEvent, hr]
  exact (if_pos ht).trans (if_pos hl)

/-- Beyond it is only counted. -/
theorem State.rawEvent_beyond (hr : (s.crate c).raw = some r) (ht : r.takes e) (hl : r.limit ≤ r.written) :
    s.rawEvent c e = s.modCrate c (fun g => { g with raw := some { r with beyond := r.beyond + 1 } }) := by
  simp only [State.rawEvent, hr]
  exact (if_pos ht).trans (if_neg (Nat.not_lt.2 hl))

/-- An event of a channel that does not accumulate enters the capture at most. -/
theorem State.takeEvent_captured (h : ((s.fifoTaken c).rawEvent c e).accumulates c e.chan d = false) :
    s.takeEvent c d e ecc = (s.fifoTaken c).rawEvent c e := by
  unfold State.takeEvent
  exact doIf_of_eq_false h

theorem evolves_unitWritten {a : Nat} {u : Word × Word} : Evolves [.bank] s (s.unitWritten c a u) :=
  ev_setBankWord (by decide) (ev_setBankWord (by decide) ev_refl)

/-- The crate once a capture with room has taken the event, and the bank (R293). -/
theorem State.takeEvent_unit {p : FifoItem} (hf : (s.crate c).fifo = p :: q) (hr : (s.crate c).raw = some r) (ht : r.takes e)
    (hl : r.written < r.limit) (hn : r.count < 4096) (ha : s.accumulates c e.chan d = false) :
    (s.takeEvent c d e ecc).crate c = { s.crate c with
        fifo := q, raw := some { r with written := r.written + 1, count := r.count + 1 } }
      ∧ OnlyCrates [c] s (s.takeEvent c d e ecc) ∧ OnlyChanges [.crates, .bank] s (s.takeEvent c d e ecc)
      ∧ ∃ u : State, OnlyChanges [.crates] s u
        ∧ OnlyChanges [.crates] (u.unitWritten c (rawAt r.count) (e.rawWords c)) (s.takeEvent c d e ecc) := by
  have taken := State.crate_fifoTaken hf
  have raw : ((s.fifoTaken c).crate c).raw = some r := by rw [taken, ← hr]
  have counted := State.crate_modCrate_same (s := s.fifoTaken c) (c := c)
    (f := fun g => { g with raw := some { r with written := r.written + 1 } })
  have unit := State.putUnit_room (u := e.rawWords c) (congrArg Crate.raw counted) hn
  rw [← State.rawEvent_written raw ht hl] at unit
  have crate : ((s.fifoTaken c).rawEvent c e).crate c = { s.crate c with
      fifo := q, raw := some { r with written := r.written + 1, count := r.count + 1 } } := by
    rw [unit, State.crate_modCrate_same, evolves_unitWritten.1.crate (by decide), counted, taken]
  have passes : ((s.fifoTaken c).rawEvent c e).accumulates c e.chan d = false :=
    (State.accumulates_congr (by rw [crate])).trans ha
  rw [State.takeEvent_captured passes]
  rw [unit]
  refine ⟨unit ▸ crate, ?_, ?_, _, (ev_modCrate (by decide) evolves_fifoTaken).1, (ev_modCrate (by decide) ev_refl).1⟩
  · exact ((onlyCrates_modCrate.trans onlyCrates_modCrate).trans (evolves_unitWritten.1.onlyCrates (by decide))).trans
      onlyCrates_modCrate
  · exact (ev_modCrate (by decide) (ev_trans (ev_modCrate (by decide) (ev_mono evolves_fifoTaken (by decide)))
      (ev_mono evolves_unitWritten (by decide)))).1

/-- The crate once a capture has counted the event beyond its limit (R294). -/
theorem State.takeEvent_beyond {p : FifoItem} (hf : (s.crate c).fifo = p :: q) (hr : (s.crate c).raw = some r) (ht : r.takes e)
    (hl : r.limit ≤ r.written) (ha : s.accumulates c e.chan d = false) :
    (s.takeEvent c d e ecc).crate c = { s.crate c with fifo := q, raw := some { r with beyond := r.beyond + 1 } }
      ∧ OnlyChanges [.crates] s (s.takeEvent c d e ecc) := by
  have taken := State.crate_fifoTaken hf
  have raw : ((s.fifoTaken c).crate c).raw = some r := by rw [taken, ← hr]
  have beyond := State.rawEvent_beyond raw ht hl
  have crate : ((s.fifoTaken c).rawEvent c e).crate c
      = { s.crate c with fifo := q, raw := some { r with beyond := r.beyond + 1 } } := by
    rw [beyond, State.crate_modCrate_same, taken]
  have passes : ((s.fifoTaken c).rawEvent c e).accumulates c e.chan d = false :=
    (State.accumulates_congr (by rw [crate])).trans ha
  rw [State.takeEvent_captured passes]
  refine ⟨crate, ?_⟩
  rw [beyond]
  exact (ev_modCrate (by decide) (ev_modCrate (by decide) ev_refl)).1

/-! ## Errors (R285, R286) -/

/-- A corrected error is counted, and nothing else (R285). -/
theorem State.eccRead_corrected : s.eccRead c k x .corrected = s.bump (CHU_ECC_ce_ct c) 1 := rfl

/-- CHU_ECC with an uncorrectable error of channel k counted (R285). -/
def State.errorNoted (s : State) (c k : Nat) : State :=
  ((s.bump (CHU_ECC_ue_ct c) 1).putB (CHU_ECC_ue_seen c) true).put (CHU_ECC_ue_chan c) k

/-- An uncorrectable one makes the dwell of its buffer corrupt, too. -/
theorem State.eccRead_uncorrectable {v : BitVec 8} : s.eccRead c k x (.uncorrectable v)
    = ((s.errorNoted c k).detect 0x09 2 (16 * c + k) 0 v.toNat (elemArea (16 * c + k))).modBuf c k x
        (fun b => { b with corrupt := true }) := rfl

theorem State.errorNoted_shows (hk : k < 16) : (s.errorNoted c k).rd (CHU_ECC_ue_ct c) = min (s.rd (CHU_ECC_ue_ct c) + 1) 255
    ∧ (s.errorNoted c k).flag (CHU_ECC_ue_seen c) = true ∧ (s.errorNoted c k).rd (CHU_ECC_ue_chan c) = k := by
  unfold State.errorNoted
  refine ⟨?_, ?_, State.rd_put_of_lt (by simp [FRef.fits, CHU_ECC_ue_chan]) hk⟩
  · rw [State.rd_put_beside (by rfl), State.rd_putB_beside (by rfl), State.rd_bump_same (by simp [FRef.fits, CHU_ECC_ue_ct])]
    rfl
  · rw [State.flag_put_beside (by rfl), State.flag_putB_same (by simp [FRef.fits, CHU_ECC_ue_seen]) rfl]

theorem regs_errorNoted : OnlyRegs [CHU_ECC c] s (s.errorNoted c k) :=
  have here : CHU_ECC c ∈ [CHU_ECC c] := List.mem_singleton.2 rfl
  regs_put here (regs_putB here (regs_bump here onlyRegs_refl))

/-- What an uncorrectable error leaves (R285, R298). -/
theorem State.eccRead_uncorrectable_shows {v : BitVec 8} (hk : k < 16) (ht : t = s.eccRead c k x (.uncorrectable v)) :
    t.rd (CHU_ECC_ue_ct c) = min (s.rd (CHU_ECC_ue_ct c) + 1) 255 ∧ t.flag (CHU_ECC_ue_seen c) = true
      ∧ t.rd (CHU_ECC_ue_chan c) = k ∧ ((t.chan c k).buf x).corrupt = true
      ∧ t.flt.detq = s.flt.detq ++ [⟨0x09, 2, 16 * c + k, 0, v.toNat, elemArea (16 * c + k)⟩]
      ∧ OnlyRegs [CHU_ECC c] s t ∧ OnlyChans [(c, k)] s t := by
  rw [State.eccRead_uncorrectable] at ht
  obtain ⟨count, seen, channel⟩ := State.errorNoted_shows (s := s) (c := c) hk
  have regs : t.regs = (s.errorNoted c k).regs := by rw [ht]; rfl
  have reg : ∀ a, t.reg a = (s.errorNoted c k).reg a := fun a => congrArg (fun m => sparseGet resetWord m a) regs
  have noted : OnlyChans [(c, k)] s ((s.errorNoted c k).detect 0x09 2 (16 * c + k) 0 v.toNat (elemArea (16 * c + k))) :=
    fun _ _ _ _ => rfl
  refine ⟨(State.rd_congr (reg _)).trans count, (State.flag_congr (reg _)).trans seen, (State.rd_congr (reg _)).trans channel,
    ?_, ?_, fun a ha => (reg a).trans (regs_errorNoted a ha), ?_⟩
  · rw [ht, State.buf_modBuf_same]
  · rw [ht]
    rfl
  · rw [ht]
    exact noted.modChan hk (List.mem_singleton.2 rfl)

/-- Each corrected error of a pass is counted (R285). -/
theorem State.eccReads_corrected :
    (s.eccReads c k x (List.replicate n .corrected)).rd (CHU_ECC_ce_ct c) = min (s.rd (CHU_ECC_ce_ct c) + n) 65535
      ∧ OnlyRegs [CHU_ECC c] s (s.eccReads c k x (List.replicate n .corrected)) := by
  induction n generalizing s with
  | zero =>
    have lt : s.rd (CHU_ECC_ce_ct c) < 2 ^ 16 := State.rd_lt
    refine ⟨?_, onlyRegs_refl⟩
    show s.rd (CHU_ECC_ce_ct c) = _
    omega
  | succ n ih =>
    obtain ⟨count, regs⟩ := ih (s := s.bump (CHU_ECC_ce_ct c) 1)
    have step : s.eccReads c k x (List.replicate (n + 1) .corrected)
        = (s.bump (CHU_ECC_ce_ct c) 1).eccReads c k x (List.replicate n .corrected) := rfl
    have one : (s.bump (CHU_ECC_ce_ct c) 1).rd (CHU_ECC_ce_ct c) = min (s.rd (CHU_ECC_ce_ct c) + 1) 65535 :=
      State.rd_bump_same (by simp [FRef.fits, CHU_ECC_ce_ct])
    rw [step]
    refine ⟨?_, onlyRegs_trans (regs_bump (List.mem_singleton.2 rfl) onlyRegs_refl) regs⟩
    rw [count, one]
    omega

/-! ## Scrubbing (R286) -/

theorem State.eccReads_nil : s.eccReads c k x [] = s := rfl

theorem exec_scrub_powered {c : CrateId} {w : BitVec 13} {v : Ecc} (hlive : s.churnLive = true) (hp : s.cratePwr c ≠ 0) :
    exec (.scrub c w v) s = .next (s.eccRead c (w.toNat / 512) (w.getLsbD 8) v) := by
  have powered : s.cratePowered c = true := bne_iff_ne.2 hp
  simp [exec, execScrub, hlive, powered]

theorem exec_scrub_off {c : CrateId} {w : BitVec 13} {v : Ecc} (hp : s.cratePwr c = 0) : exec (.scrub c w v) s = .next s := by
  have off : s.cratePowered c = false := bne_eq_false_iff_eq.2 hp
  simp [exec, execScrub, off]

theorem exec_scrub_clean {c : CrateId} {w : BitVec 13} : exec (.scrub c w .clean) s = .next s := by
  have read : s.eccRead c (w.toNat / 512) (w.getLsbD 8) .clean = s := rfl
  simp only [exec, execScrub]
  cases s.churnLive && s.cratePowered c
  · rfl
  · rw [doIf_true, read]

/-- Settles O32: an event by the three ways that its interval takes it, a capture by the unit it writes, an error by its kind. -/
theorem accumulationAndScrubbing : Obligations.AccumulationAndScrubbing := by
  unfold Obligations.AccumulationAndScrubbing
  refine ⟨?coarse, ?beyond, ?before, ?passes, ?unit, ?limit, ?corrected, ?clean, ?off, ?scrubbed, ?uncorrectable⟩
  case coarse =>
    intro c e q d s x b hlive hf hc hr hk ha hx h0 hb hlt hfine
    have enters := State.takeEvent_enters (ecc := []) hr ha hx
    have counted := State.coarseCounted_bufEvent (s := s.fifoTaken c) (c := c) (x := x) hk h0 hb hlt
      (by rw [evolves_fifoTaken.1.chan (by decide)]; exact hfine)
    have taken : OnlyChanges [.crates] s (s.fifoTaken c) := evolves_fifoTaken.1
    have chan := taken.chan (by decide) c e.chan
    obtain ⟨bin, bytes, banks, events, acc, chans, kept⟩ := counted
    rw [chan] at events acc
    rw [taken.bankHalf (by decide)] at bin
    refine ⟨_, (exec_eventAccumulate hlive hf hc).trans (congrArg _ enters), bin,
      fun a ha h1 h2 => (bytes a ha h1 h2).trans (taken.bankByte (by decide) _ _),
      fun g a hg => (banks g a hg).trans (taken.bankByte (by decide) _ _), events, acc, ?_,
      onlyCrates_modCrate.trans (kept.onlyCrates (by decide)), ?_, ?_⟩
    · rw [State.eccReads_nil, kept.crate (by decide), State.crate_fifoTaken hf]
    · exact (taken.onlyChans (by decide)).trans chans
    · exact onlyRegs_trans (taken.onlyRegs (by decide)) (kept.onlyRegs (by decide))
  case beyond =>
    intro c e q d s hlive hf hc hr ha h0 hover
    have enters := State.takeEvent_enters (ecc := []) hr ha rfl
    rw [State.eccReads_nil, State.bufEvent_beyond h0 hover] at enters
    have noted : Evolves [.crates, .chans] s ((s.fifoTaken c).blankNoted c e.chan (s.chan c e.chan).accBuf e) :=
      ev_trans (ev_mono evolves_fifoTaken (by decide)) (ev_mono evolves_blankNoted (by decide))
    refine ⟨_, (exec_eventAccumulate hlive hf hc).trans (congrArg _ enters), ?_, noted.1 .bank (by decide), ?_, ?_⟩
    · rw [State.rd_bump_same (by simp [FRef.fits, CHU_STAT_beyond]), noted.1.rd (by decide)]
      rfl
    · rw [(ev_bump (L := [.regs]) (by decide) ev_refl).1.crate (by decide), evolves_blankNoted.1.crate (by decide),
        State.crate_fifoTaken hf]
    · exact regs_bump (List.mem_singleton.2 rfl) (noted.1.onlyRegs (by decide))
  case before =>
    intro c e q d s x hlive hf hc hr ha hneg hx
    have enters := State.takeEvent_enters (ecc := []) hr ha hx
    rw [State.eccReads_nil, State.bufEvent_before hneg] at enters
    refine ⟨_, (exec_eventAccumulate hlive hf hc).trans (congrArg _ enters), rfl, onlyRegs_of_regs rfl, ?_⟩
    rw [State.buf_modBuf_same, evolves_fifoTaken.1.chan (by decide)]
  case passes =>
    intro c ecc e q d s hlive hf hc hr ha
    have passes := State.takeEvent_passes (ecc := ecc) hr ha
    refine ⟨_, (exec_eventAccumulate hlive hf hc).trans (congrArg _ passes), State.crate_fifoTaken hf, onlyCrates_modCrate,
      evolves_fifoTaken.1⟩
  case unit =>
    intro c e q d r s hlive hf hc hr ha hs hm hp hl hn
    obtain ⟨crate, others, kept, u, hu, bank⟩ := State.takeEvent_unit (ecc := []) hf hr ⟨hs, hm, hp⟩ hl hn ha
    obtain ⟨first, second, same, banks⟩ := State.unitWritten_spec (s := u) (c := c) (u := e.rawWords c) (rawAt_lt hn)
    refine ⟨_, _, exec_eventAccumulate hlive hf hc, rawAt_eq, ?_, ?_, fun b hb hout => ?_, fun g b hg => ?_, crate, others, kept⟩
    · rw [bank.bankWord (by decide), first]
    · rw [bank.bankWord (by decide), second]
    · rw [bank.bankByte (by decide), same b hb hout, hu.bankByte (by decide)]
    · rw [bank.bankByte (by decide), banks g b hg, hu.bankByte (by decide)]
  case limit =>
    intro c e q d r s hlive hf hc hr ha hs hm hp hl
    obtain ⟨crate, kept⟩ := State.takeEvent_beyond (ecc := []) hf hr ⟨hs, hm, hp⟩ hl ha
    exact ⟨_, exec_eventAccumulate hlive hf hc, crate, kept⟩
  case corrected =>
    intro c n e q d s hlive hf hc hr ha hneg
    have enters := State.takeEvent_enters (ecc := List.replicate n .corrected) hr ha rfl
    rw [State.bufEvent_before hneg] at enters
    obtain ⟨count, regs⟩ := State.eccReads_corrected (s := s.fifoTaken c) (c := c) (k := e.chan)
      (x := (s.chan c e.chan).accBuf) (n := n)
    have taken : OnlyChanges [.crates] s (s.fifoTaken c) := evolves_fifoTaken.1
    rw [taken.rd (by decide)] at count
    refine ⟨_, (exec_eventAccumulate hlive hf hc).trans (congrArg _ enters), ?_, count, ?_⟩
    · exact (ev_eccReads (L := [.regs, .chans, .flt, .crates]) (by decide) (by decide) (by decide)
        (ev_mono evolves_fifoTaken (by decide))).1 .bank (by decide)
    · exact onlyRegs_trans (taken.onlyRegs (by decide)) regs
  case clean => exact fun c w s _ => exec_scrub_clean
  case off => exact fun c w v s hp => exec_scrub_off hp
  case scrubbed =>
    intro c w s hlive hp
    exact ⟨_, exec_scrub_powered hlive hp, State.rd_bump_same (by simp [FRef.fits, CHU_ECC_ce_ct]),
      regs_bump (List.mem_singleton.2 rfl) onlyRegs_refl, (ev_bump (by decide) ev_refl).1⟩
  case uncorrectable =>
    intro c w v s hlive hp
    have hk : w.toNat / 512 < 16 := by omega
    exact ⟨_, exec_scrub_powered hlive hp, State.eccRead_uncorrectable_shows hk rfl⟩

end Sys2Proof.Machine
end

section
/-! PROOFS. The next descriptor (spec/07 R260, R272, R273, R301): which channels of a dwell take their buffers, which are late, and
what else the reading of a descriptor changes. -/

namespace Sys2Proof.Machine

variable {s t : State} {c k j id fmode : Nat} {x probe : Bool} {d : Descr} {p : Nat → Bool}

/-! ## Masks of channels -/

theorem testBit_sum_two_pow {n i : Nat} : (((List.range n).filter p).map (fun k => 2 ^ k)).sum < 2 ^ n
    ∧ (((List.range n).filter p).map (fun k => 2 ^ k)).sum.testBit i = (decide (i < n) && p i) := by
  induction n with
  | zero => simp
  | succ n ih =>
    obtain ⟨lt, bits⟩ := ih
    rw [List.range_succ, List.filter_append, List.map_append, List.sum_append]
    cases hp : p n
    case false =>
      refine ⟨by simp [hp]; omega, ?_⟩
      simp only [hp, List.filter_cons_of_neg, Bool.false_eq_true, not_false_eq_true, List.filter_nil, List.map_nil, List.sum_nil,
        Nat.add_zero, bits]
      by_cases hi : i = n
      · simp [hi, hp]
      · have same : (i < n + 1) = (i < n) := by simp only [eq_iff_iff]; omega
        simp only [same]
    case true =>
      refine ⟨by simp [hp]; omega, ?_⟩
      have joined := Nat.two_pow_add_eq_or_of_lt lt 1
      rw [Nat.mul_one] at joined
      simp only [hp, List.filter_cons_of_pos, List.filter_nil, List.map_cons, List.map_nil, List.sum_cons, List.sum_nil,
        Nat.add_zero]
      rw [Nat.add_comm, joined, Nat.testBit_or, bits, Nat.testBit_two_pow]
      by_cases hi : n = i
      · simp [← hi, hp]
      · have same : (i < n + 1) = (i < n) := by simp only [eq_iff_iff]; omega
        simp only [same, hi, decide_false, Bool.false_or]

/-- A channel is in the mask of those with a property where it has the property. -/
theorem getLsbD_maskOf (hk : k < 16) : (maskOf p).getLsbD k = p k := by
  rw [maskOf, BitVec.getLsbD_ofNat, chanNos, testBit_sum_two_pow.2]
  simp [hk]

/-- The mask of one channel. -/
theorem getLsbD_one_shiftLeft (hj : j < 16) : (1#16 <<< j).getLsbD k = decide (j = k) := by
  have bit := BitVec.getLsbD_twoPow (w := 16) j k
  rwa [decide_eq_true hj, Bool.true_and] at bit

/-! ## A channel takes its buffer, or is late (R272, R273) -/

theorem State.accBuf_modBuf {f : Buf → Buf} : ((s.modBuf c k x f).chan c k).accBuf = (s.chan c k).accBuf := by
  rw [State.modBuf, State.chan_modChan_same]
  cases x <;> rfl

theorem evolves_showFine {l : List (Option Nat)} : Evolves [.regs] s (s.showFine c k l) := ev_showFine (by decide) ev_refl

/-- Placing windows replaces those of one buffer; a dwell without a reference counts before that (R264, R265). -/
theorem State.placeFine_cases : ∃ u l, Evolves [.regs] s u ∧ OnlyRegs [CHU_STAT c] s u ∧ s.placeFine c k x fmode d
    = u.setFine c k x l := by
  have counted : OnlyRegs [CHU_STAT c] s (s.bump (CHU_STAT_zoom_miss c) 1) :=
    regs_bump (List.mem_singleton.2 rfl) onlyRegs_refl
  unfold State.placeFine
  split
  · split
    · exact ⟨_, _, ev_bump (by decide) ev_refl, counted, rfl⟩
    · exact ⟨_, _, ev_refl, onlyRegs_refl, rfl⟩
  · split
    · exact ⟨_, _, ev_refl, onlyRegs_refl, rfl⟩
    · exact ⟨_, _, ev_refl, onlyRegs_refl, rfl⟩

/-- The registers in which a channel shows that it has taken its buffer, or is late (R303, R304). -/
def takeBufRegs (c k : Nat) : List Nat := CHU_STAT c :: (List.range 4).map (CHU_FPOS c k)

theorem regs_placeFine : OnlyRegs (takeBufRegs c k) s (s.placeFine c k x fmode d) := by
  obtain ⟨u, l, -, regs, placed⟩ := State.placeFine_cases (s := s) (c := c) (k := k) (x := x) (fmode := fmode) (d := d)
  rw [placed]
  refine forAll_induction (P := OnlyRegs (takeBufRegs c k) s)
    (regs_modChan (onlyRegs_mono (fun a ha => List.mem_singleton.1 ha ▸ List.mem_cons_self ..) regs)) (fun v n hn h => ?_)
  have shown : CHU_FPOS c k n ∈ takeBufRegs c k := List.mem_cons_of_mem _ (List.mem_map_of_mem hn)
  exact regs_put shown (regs_putB shown h)

/-- The dwell is a new reference of the channel (R265). -/
def State.refNoted (s : State) (c k id : Nat) : State := s.modChan c k (fun h => { h with refs := ((id, none) :: h.refs).take 3 })

/-- The channel with its accumulating buffer taken for the dwell (R272). -/
def State.bufTaken (s : State) (c k id fmode : Nat) (probe : Bool) (d : Descr) : State :=
  ((s.placeFine c k (s.chan c k).accBuf fmode d).refNoted c k id).modBuf c k (s.chan c k).accBuf (fun b =>
    { b with st := .accum, dwell := some d, fmode := fmode, probe := probe, dwellId := id })

/-- The channel with its dwell late (R273). -/
def State.bufLate (s : State) (c k id : Nat) : State :=
  ((s.refNoted c k id).bump (CHU_STAT_late_ct c) 1).modCrate c (fun g => { g with late := g.late ||| (1#16 <<< k) })

theorem State.takeBuf_of_free (hf : ((s.chan c k).buf (s.chan c k).accBuf).st = .free) :
    s.takeBuf c k id fmode probe d = s.bufTaken c k id fmode probe d := if_pos hf

theorem State.takeBuf_of_late (hf : ((s.chan c k).buf (s.chan c k).accBuf).st ≠ .free) :
    s.takeBuf c k id fmode probe d = s.bufLate c k id := if_neg hf

theorem takeBuf_induction {P : State → Prop} (taken : P (s.bufTaken c k id fmode probe d)) (late : P (s.bufLate c k id)) :
    P (s.takeBuf c k id fmode probe d) := by
  by_cases hf : ((s.chan c k).buf (s.chan c k).accBuf).st = .free
  · rw [State.takeBuf_of_free hf]
    exact taken
  · rw [State.takeBuf_of_late hf]
    exact late

theorem evolves_bufTaken : Evolves [.regs, .chans] s (s.bufTaken c k id fmode probe d) :=
  ev_modBuf (by decide) (ev_modChan (by decide) (ev_placeFine (by decide) (by decide) ev_refl))

theorem regs_takeBuf : OnlyRegs (takeBufRegs c k) s (s.takeBuf c k id fmode probe d) :=
  takeBuf_induction (P := OnlyRegs (takeBufRegs c k) s) (regs_modChan (regs_modChan regs_placeFine))
    (regs_modCrate (regs_bump (List.mem_cons_self ..) (regs_modChan onlyRegs_refl)))

theorem onlyChans_takeBuf (hk : k < 16) : OnlyChans [(c, k)] s (s.takeBuf c k id fmode probe d) := by
  have here : (c, k) ∈ [(c, k)] := List.mem_singleton.2 rfl
  refine takeBuf_induction (P := OnlyChans [(c, k)] s) (OnlyChans.modChan (OnlyChans.modChan ?_ hk here) hk here)
    ((onlyChans_modChan (f := fun h => { h with refs := ((id, none) :: h.refs).take 3 }) hk here).trans
      (u := s.bufLate c k id) (fun _ _ _ _ => rfl))
  obtain ⟨u, l, kept, -, placed⟩ := State.placeFine_cases (s := s) (c := c) (k := k) (x := (s.chan c k).accBuf)
      (fmode := fmode) (d := d)
  rw [placed]
  exact (((kept.1.onlyChans (by decide)).modChan hk here)).evolves evolves_showFine (by decide)

/-- From s to t a crate stayed but for which of its channels are late. -/
def OnlyLate (c : Nat) (s t : State) : Prop := OnlyCrates [c] s t ∧ ∃ l, t.crate c = { s.crate c with late := l }

theorem onlyLate_refl : OnlyLate c s s := ⟨fun _ _ => rfl, _, rfl⟩

theorem OnlyLate.trans {u : State} (h : OnlyLate c s t) (g : OnlyLate c t u) : OnlyLate c s u := by
  obtain ⟨hs, l, hl⟩ := h
  obtain ⟨gs, n, gn⟩ := g
  exact ⟨hs.trans gs, n, by rw [gn, hl]⟩

theorem OnlyChanges.onlyLate {L : List Part} (h : OnlyChanges L s t) (hp : Part.crates ∉ L) : OnlyLate c s t :=
  ⟨h.onlyCrates hp, _, h.crate hp c⟩

theorem onlyLate_takeBuf : OnlyLate c s (s.takeBuf c k id fmode probe d) :=
  takeBuf_induction (P := OnlyLate c s) (evolves_bufTaken.1.onlyLate (by decide))
    ⟨onlyCrates_modCrate, _, State.crate_modCrate_same⟩

/-- The turn of another channel leaves a channel, and whether it is late. -/
theorem State.late_takeBuf_other (hk : k < 16) (hj : j < 16) (h : j ≠ k) :
    (s.takeBuf c j id fmode probe d).chan c k = s.chan c k
      ∧ ((s.takeBuf c j id fmode probe d).crate c).late.getLsbD k = (s.crate c).late.getLsbD k := by
  refine ⟨onlyChans_takeBuf hj c k hk (by simpa using fun e => h e.symm), takeBuf_induction
    (P := fun t => (t.crate c).late.getLsbD k = (s.crate c).late.getLsbD k) ?_ ?_⟩
  · rw [evolves_bufTaken.1.crate (by decide)]
  · have kept : ((s.refNoted c j id).bump (CHU_STAT_late_ct c) 1).crate c = s.crate c := rfl
    rw [State.bufLate, State.crate_modCrate_same, kept, BitVec.getLsbD_or, getLsbD_one_shiftLeft hj, decide_eq_false h,
      Bool.or_false]

/-- With its accumulating buffer free, the channel takes it. -/
theorem State.takeBuf_free (hx : x = (s.chan c k).accBuf) (hf : ((s.chan c k).buf x).st = .free) :
    (((s.takeBuf c k id fmode probe d).chan c k).buf x).st = .accum
      ∧ (((s.takeBuf c k id fmode probe d).chan c k).buf x).dwell = some d
      ∧ ((s.takeBuf c k id fmode probe d).chan c k).accBuf = x
      ∧ (s.takeBuf c k id fmode probe d).crate c = s.crate c := by
  subst hx
  have accBuf : ((s.placeFine c k (s.chan c k).accBuf fmode d).chan c k).accBuf = (s.chan c k).accBuf := by
    obtain ⟨u, l, kept, -, placed⟩ := State.placeFine_cases (s := s) (c := c) (k := k) (x := (s.chan c k).accBuf)
      (fmode := fmode) (d := d)
    rw [placed, State.setFine, evolves_showFine.1.chan (by decide), State.accBuf_modBuf, kept.1.chan (by decide)]
  rw [State.takeBuf_of_free hf, evolves_bufTaken.1.crate (by decide), State.bufTaken, State.buf_modBuf_same, State.accBuf_modBuf,
    State.refNoted, State.chan_modChan_same]
  exact ⟨rfl, rfl, accBuf, rfl⟩

/-- Otherwise it is late, and keeps its buffers. -/
theorem State.takeBuf_late (hk : k < 16) (hf : ((s.chan c k).buf (s.chan c k).accBuf).st ≠ .free) :
    ((s.takeBuf c k id fmode probe d).crate c).late.getLsbD k = true
      ∧ ((s.takeBuf c k id fmode probe d).chan c k).buf0 = (s.chan c k).buf0
      ∧ ((s.takeBuf c k id fmode probe d).chan c k).buf1 = (s.chan c k).buf1 := by
  have chan : (s.bufLate c k id).chan c k = (s.refNoted c k id).chan c k := rfl
  rw [State.takeBuf_of_late hf, chan, State.refNoted, State.chan_modChan_same, State.bufLate, State.crate_modCrate_same,
    BitVec.getLsbD_or, getLsbD_one_shiftLeft hk, decide_eq_true rfl, Bool.or_true]
  exact ⟨rfl, rfl, rfl⟩

/-! ## The descriptor is read (R260, R301, R320) -/

/-- A probe dwell (R320). -/
def Descr.isProbe (d : Descr) : Bool := !d.safety && d.rd STR_WIN_every != 0 && d.number % d.rd STR_WIN_every == 0

/-- The crate with its next descriptor in hand. -/
def State.descrHeld (s : State) (c : Nat) (d : Descr) : State :=
  s.modCrate c (fun g => { g with
    descQ := g.descQ.tail, cur := some d, curProbe := d.isProbe, curWindows := 0, curLost := 0, late := 0, nextId := g.nextId + 1 })

/-- What shows that. -/
def State.descrTaken (s : State) (c : Nat) (d : Descr) : State :=
  doIf d.isProbe (fun t => t.bump (STR_CRT_probes c) 1) ((s.descrHeld c d).showDescQ c)

/-- Its channels have taken their buffers, too. -/
def State.bufsTaken (s : State) (c : Nat) (d : Descr) : State :=
  forAll chanNos (fun t k => doIf (d.part.getLsbD k) (fun u => u.takeBuf c k ((s.crate c).nextId + 1)
    (if (s.crate c).rawBlocksFine then 0 else d.fmode) d.isProbe d) t) (s.descrTaken c d)

/-- An event for the channels that are late follows (R273). -/
theorem State.readDescr_eq (s : State) (c : Nat) (d : Descr) : s.readDescr c d
    = doIf (((s.bufsTaken c d).crate c).late != 0) (fun t => t.post 0x26 1 c [w32 (t.crate c).late.toNat]) (s.bufsTaken c d) := rfl

theorem State.crate_descrHeld : (s.descrHeld c d).crate c = { s.crate c with
    descQ := (s.crate c).descQ.tail, cur := some d, curProbe := d.isProbe, curWindows := 0, curLost := 0, late := 0
    nextId := (s.crate c).nextId + 1 } := State.crate_modCrate_same

/-- Showing it writes registers. -/
theorem evolves_descrShown : Evolves [.regs] (s.descrHeld c d) (s.descrTaken c d) :=
  ev_doIf (fun _ h => ev_bump (by decide) h) (ev_put (by decide) ev_refl)

theorem evolves_descrTaken : Evolves [.regs, .crates] s (s.descrTaken c d) :=
  ev_trans (ev_modCrate (by decide) ev_refl) (ev_mono evolves_descrShown (by decide))

theorem onlyCrates_descrTaken : OnlyCrates [c] s (s.descrTaken c d) :=
  OnlyCrates.trans (t := s.descrHeld c d) onlyCrates_modCrate (evolves_descrShown.1.onlyCrates (by decide))

/-- The queue's fill is shown (R301). -/
theorem State.fill_descrTaken : (s.descrTaken c d).rd (CHU_DESC_STAT_fill c) = (s.crate c).descQ.tail.length % 16 := by
  have shown : ∀ t : State, (t.showDescQ c).rd (CHU_DESC_STAT_fill c) = (t.crate c).descQ.length % 16 := fun t =>
    State.rd_put_same (by simp [FRef.fits, CHU_DESC_STAT_fill])
  have apart : STR_CRT c ≠ CHU_DESC_STAT c := by simp [STR_CRT, CHU_DESC_STAT]
  refine doIf_induction (P := fun t => t.rd (CHU_DESC_STAT_fill c) = _) ?_ (fun h => (State.rd_put_apart (.inl apart)).trans h)
  rw [shown, State.crate_descrHeld]

/-- The pass of the channels changes which are late, and the registers of the channels. -/
theorem State.bufsTaken_keeps : OnlyLate c (s.descrTaken c d) (s.bufsTaken c d)
    ∧ OnlyChans (chanNos.map (fun k => (c, k))) s (s.bufsTaken c d)
    ∧ (s.bufsTaken c d).reg (CHU_DESC_STAT c) = (s.descrTaken c d).reg (CHU_DESC_STAT c) := by
  refine ⟨forAll_induction (P := OnlyLate c (s.descrTaken c d)) onlyLate_refl (fun _ _ _ h =>
    doIf_induction (P := OnlyLate c (s.descrTaken c d)) h (fun h => h.trans onlyLate_takeBuf)), ?_, ?_⟩
  · exact (evolves_descrTaken.1.onlyChans (by decide)).trans (onlyChans_forAll_chanNos (fun u j hj =>
      doIf_induction (P := OnlyChans [(c, j)] u) onlyChans_refl (fun _ => onlyChans_takeBuf hj)))
  · have apart : ∀ k, k < 16 → CHU_DESC_STAT c ∉ takeBufRegs c k := fun k hk h => by
      simp only [takeBufRegs, List.mem_cons, List.mem_map, List.mem_range, CHU_DESC_STAT, CHU_STAT, CHU_FPOS] at h
      obtain h | ⟨n, hn, h⟩ := h <;> omega
    exact forAll_induction (P := fun t => t.reg (CHU_DESC_STAT c) = _) rfl (fun u j hj h =>
      doIf_induction (P := fun t => t.reg (CHU_DESC_STAT c) = _) h
        (fun h => (regs_takeBuf _ (apart j (List.mem_range.1 hj))).trans h))

/-- From s to t channel k of crate c stayed, and whether it is late. -/
structure KeepsLate (c k : Nat) (s t : State) : Prop where
  chan : t.chan c k = s.chan c k
  late : (t.crate c).late.getLsbD k = (s.crate c).late.getLsbD k

/-- Channel k finds at its turn what the crate had, and what its turn leaves stays. -/
theorem State.bufsTaken_turn (hk : k < 16) : ∃ u id fmode, KeepsLate c k (s.descrTaken c d) u
    ∧ KeepsLate c k (doIf (d.part.getLsbD k) (fun v => v.takeBuf c k id fmode d.isProbe d) u) (s.bufsTaken c d) := by
  obtain ⟨u, before, after⟩ := forAll_turn (s := s.descrTaken c d) (R := KeepsLate c k) (l := chanNos) (x := k)
    (f := fun t k => doIf (d.part.getLsbD k) (fun u => u.takeBuf c k ((s.crate c).nextId + 1)
      (if (s.crate c).rawBlocksFine then 0 else d.fmode) d.isProbe d) t)
    (fun _ => ⟨rfl, rfl⟩) (fun _ _ _ h g => ⟨g.chan.trans h.chan, g.late.trans h.late⟩) List.nodup_range (List.mem_range.2 hk)
    (fun v j hj hne => doIf_induction (P := KeepsLate c k v) ⟨rfl, rfl⟩ (fun _ => by
      obtain ⟨chan, late⟩ := State.late_takeBuf_other (s := v) hk (List.mem_range.1 hj) hne
      exact ⟨chan, late⟩))
  exact ⟨u, _, _, before, after⟩

theorem exec_descriptorRead {c : CrateId} {q : List Descr} (hlive : s.churnLive = true) (hc : (s.crate c).cur = none)
    (hq : (s.crate c).descQ = d :: q) : exec (.descriptorRead c) s = .next (s.readDescr c d) := by
  simp [exec, execDescriptorRead, hc, hq, hlive]

/-- The event at the end leaves the crates, the channels and Churn's registers. -/
theorem State.readDescr_keeps : OnlyChanges [.regs, .host] (s.bufsTaken c d) (s.readDescr c d)
    ∧ OnlyRegs eventRegs (s.bufsTaken c d) (s.readDescr c d) := by
  rw [State.readDescr_eq]
  exact ⟨(ev_doIf (fun _ h => ev_post (by decide) (by decide) h) ev_refl).1,
    doIf_induction (P := OnlyRegs eventRegs (s.bufsTaken c d)) onlyRegs_refl (fun h => regs_post (fun _ hb => hb) h)⟩

end Sys2Proof.Machine
end

section
/-! PROOFS. The dwell boundary (spec/07 R272, R273, R275, R290 to R295, spec/08 R318, R326 to R328): its parts in order, what each
leaves of the crate, of the channels' buffers and of the commands. -/

namespace Sys2Proof.Machine

variable {s t u : State} {c k j : Nat} {x y : Bool} {d : Descr} {m : CloseMark} {p : FifoItem} {q : List FifoItem}

/-! ## The parts (R272, R318, R326) -/

/-- The channels that accumulate in the dwell, as a mask (R273). -/
def State.usedMask (s : State) (c : Nat) (d : Descr) : BitVec 16 := maskOf (fun k => s.accumulates c k d)

/-- The marker has left the FIFO, and the Separator has updated each channel that takes part (R326). -/
def State.separated (s : State) (c : Nat) (d : Descr) (m : CloseMark) : State :=
  forAll chanNos (fun t k => doIf (d.part.getLsbD k)
    (fun u => u.separate c k (u.preCounted c k d + m.crossings.getD k 0) m.accepting d) t) (s.fifoTaken c)

/-- The channels that accumulated have exchanged their buffers; of a safety-class dwell the others have no result (R272, R287). -/
def State.exchanged (s : State) (c : Nat) (d : Descr) (m : CloseMark) : State :=
  forAll chanNos (fun t k => if (s.usedMask c d).getLsbD k then t.exchange c k m
    else doIf d.safety (fun u => u.zoneDeliver c k d.angle d.sweep none) t) (s.separated c d m)

/-- The crate has no dwell, and the extractors have the channels that accumulated to do (R275). -/
def State.dwellLeft (s : State) (c : Nat) (d : Descr) (m : CloseMark) : State :=
  (s.exchanged c d m).modCrate c (fun g => { g with
    cur := none, xq := if s.usedMask c d = 0 then g.xq
      else g.xq ++ [⟨(s.crate c).nextId, s.usedMask c d, 0, 4, 4, g.xq.any (fun w => w.shares (s.usedMask c d))⟩] })

/-- With every channel late the weather follows at once (R318). -/
def State.dwellEnded (s : State) (c : Nat) (d : Descr) (m : CloseMark) : State :=
  doIf (s.usedMask c d == 0 && d.part != 0) (fun t => t.weather c 0 d) (s.dwellLeft c d m)

/-- Then the dump, the capture and the extractors see the boundary. -/
theorem State.dwellBoundary_eq (s : State) (c : Nat) (d : Descr) (m : CloseMark) : s.dwellBoundary c d m
    = (((s.dwellEnded c d m).dumpBoundary c (s.crate c).nextId (s.usedMask c d)).rawBoundary c d m.fired).nextExtract c := rfl

theorem exec_churnDwellBoundary {c : CrateId} (hlive : s.churnLive = true) (hf : (s.crate c).fifo = .dwellClose m :: q)
    (hc : (s.crate c).cur = some d) : exec (.churnDwellBoundary c) s = .next (s.dwellBoundary c d m) := by
  simp [exec, execChurnDwellBoundary, hf, hc, hlive]

theorem State.getLsbD_usedMask (hk : k < 16) : (s.usedMask c d).getLsbD k = s.accumulates c k d := getLsbD_maskOf hk

theorem evolves_separated : Evolves [.regs, .shot, .host] (s.fifoTaken c) (s.separated c d m) :=
  ev_forAll (fun _ _ h => ev_doIf (fun _ h => ev_separate (by decide) (by decide) (by decide) h) h) ev_refl

theorem evolves_exchanged : Evolves [.chans, .saf] (s.separated c d m) (s.exchanged c d m) :=
  ev_forAll (fun _ _ h => ev_ite (ev_exchange (by decide) h) (ev_doIf (fun _ h => ev_zoneDeliver (by decide) h) h)) ev_refl

theorem evolves_dwellEnded_dwellLeft : Evolves [.regs, .host] (s.dwellLeft c d m) (s.dwellEnded c d m) :=
  ev_doIf (fun _ h => ev_weather (by decide) (by decide) h) ev_refl

theorem evolves_dwellEnded : Evolves [.regs, .shot, .host, .chans, .saf, .crates] s (s.dwellEnded c d m) :=
  ev_trans (ev_modCrate (by decide) (ev_trans (ev_trans (ev_mono evolves_fifoTaken (by decide))
    (ev_mono evolves_separated (by decide))) (ev_mono evolves_exchanged (by decide))))
    (ev_mono evolves_dwellEnded_dwellLeft (by decide))

/-! ## The crate -/

theorem State.crate_exchanged (hf : (s.crate c).fifo = p :: q) :
    (s.exchanged c d m).crate c = { s.crate c with fifo := q } := by
  rw [evolves_exchanged.1.crate (by decide), evolves_separated.1.crate (by decide), State.crate_fifoTaken hf]

/-- The crate without its dwell: the rest of the FIFO, and what the extractors have to do. -/
theorem State.crate_dwellEnded (hf : (s.crate c).fifo = p :: q) :
    ∃ w, (s.dwellEnded c d m).crate c = { s.crate c with fifo := q, cur := none, xq := w } := by
  rw [evolves_dwellEnded_dwellLeft.1.crate (by decide), State.dwellLeft, State.crate_modCrate_same, State.crate_exchanged hf]
  exact ⟨_, rfl⟩

theorem onlyCrates_dwellEnded : OnlyCrates [c] s (s.dwellEnded c d m) := by
  have before : OnlyCrates [c] s (s.exchanged c d m) := (OnlyCrates.trans (t := s.fifoTaken c) onlyCrates_modCrate
    (evolves_separated.1.onlyCrates (by decide))).trans (evolves_exchanged.1.onlyCrates (by decide))
  have left : OnlyCrates [c] (s.exchanged c d m) (s.dwellLeft c d m) := onlyCrates_modCrate
  exact (before.trans left).trans (evolves_dwellEnded_dwellLeft.1.onlyCrates (by decide))

/-! ## The buffers (R272) -/

/-- An exchanged channel accumulates into its other buffer; the one that accumulated is FULL, with its marker. -/
theorem State.exchange_spec (hx : x = (s.chan c k).accBuf) : ((s.exchange c k m).chan c k).accBuf = !x
    ∧ (((s.exchange c k m).chan c k).buf x).st = .full ∧ (((s.exchange c k m).chan c k).buf x).mark = some m := by
  have other : ∀ (h : Chan) (a : Bool), ({ h with accBuf := a } : Chan).buf x = h.buf x := fun h a => by cases x <;> rfl
  unfold State.exchange
  rw [← hx]
  dsimp only
  rw [State.chan_modChan_same, other, State.buf_modBuf_same]
  exact ⟨rfl, rfl, rfl⟩

theorem onlyChans_exchange (hk : k < 16) : OnlyChans [(c, k)] s (s.exchange c k m) :=
  OnlyChans.modChan (onlyChans_modChan hk (List.mem_singleton.2 rfl)) hk (List.mem_singleton.2 rfl)

/-- A channel's turn in the exchange. -/
theorem onlyChans_exchange_turn {b : Bool} (hk : k < 16) : OnlyChans [(c, k)] s (if b then s.exchange c k m
    else doIf d.safety (fun u => u.zoneDeliver c k d.angle d.sweep none) s) := by
  cases b
  · exact (ev_doIf (L := [.saf]) (fun _ h => ev_zoneDeliver (by decide) h) ev_refl).1.onlyChans (by decide)
  · exact onlyChans_exchange hk

theorem State.chan_separated : (s.separated c d m).chan c k = s.chan c k :=
  (evolves_separated.1.chan (by decide) c k).trans (evolves_fifoTaken.1.chan (by decide) c k)

theorem onlyChans_dwellEnded : OnlyChans (chanNos.map (fun k => (c, k))) s (s.dwellEnded c d m) := by
  have before : OnlyChans (chanNos.map (fun k => (c, k))) s (s.separated c d m) :=
    (evolves_fifoTaken.1.onlyChans (by decide)).trans (evolves_separated.1.onlyChans (by decide))
  have exchange : OnlyChans (chanNos.map (fun k => (c, k))) (s.separated c d m) (s.exchanged c d m) :=
    onlyChans_forAll_chanNos (fun _ _ hj => onlyChans_exchange_turn hj)
  exact ((before.trans exchange).trans (u := s.dwellLeft c d m) (fun _ _ _ _ => rfl)).evolves evolves_dwellEnded_dwellLeft (by decide)

/-- What a channel has of its buffers after its turn in the exchange. -/
theorem State.chan_dwellEnded (hk : k < 16) : ∃ u : State, u.chan c k = s.chan c k
    ∧ (s.dwellEnded c d m).chan c k = (if s.accumulates c k d then u.exchange c k m
        else doIf d.safety (fun u => u.zoneDeliver c k d.angle d.sweep none) u).chan c k := by
  obtain ⟨u, before, after⟩ := forAll_turn (s := s.separated c d m) (R := fun v w => w.chan c k = v.chan c k) (l := chanNos)
    (x := k)
    (f := fun t k => if (s.usedMask c d).getLsbD k then t.exchange c k m
      else doIf d.safety (fun u => u.zoneDeliver c k d.angle d.sweep none) t)
    (fun _ => rfl) (fun _ _ _ h g => g.trans h) List.nodup_range (List.mem_range.2 hk)
    (fun v j hj hne => onlyChans_exchange_turn (List.mem_range.1 hj) c k hk (by simpa using fun e => hne e.symm))
  rw [State.getLsbD_usedMask hk] at after
  exact ⟨u, before.trans State.chan_separated, (evolves_dwellEnded_dwellLeft.1.chan (by decide) c k).trans after⟩

/-- A channel that accumulated has exchanged its buffers (R272). -/
theorem State.dwellEnded_accumulated (hk : k < 16) (ha : s.accumulates c k d = true) (hx : x = (s.chan c k).accBuf) :
    ((s.dwellEnded c d m).chan c k).accBuf = !x ∧ (((s.dwellEnded c d m).chan c k).buf x).st = .full
      ∧ (((s.dwellEnded c d m).chan c k).buf x).mark = some m := by
  obtain ⟨u, before, after⟩ := State.chan_dwellEnded (s := s) (c := c) (d := d) (m := m) hk
  rw [after, ha, if_pos rfl]
  exact State.exchange_spec (hx.trans (congrArg Chan.accBuf before.symm))

/-- Another one stays (R273). -/
theorem State.dwellEnded_not_accumulated (hk : k < 16) (ha : s.accumulates c k d = false) :
    (s.dwellEnded c d m).chan c k = s.chan c k := by
  obtain ⟨u, before, after⟩ := State.chan_dwellEnded (s := s) (c := c) (d := d) (m := m) hk
  have turn : (doIf d.safety (fun u => u.zoneDeliver c k d.angle d.sweep none) u).chan c k = u.chan c k :=
    (ev_doIf (L := [.saf]) (fun _ h => ev_zoneDeliver (by decide) h) ev_refl).1.chan (by decide) c k
  rw [after, ha, if_neg Bool.false_ne_true, turn, before]

/-! ## Commands and what a dump shows (R292, R388) -/

/-- From s to t no command ended, and neither the epoch nor what a crate shows of its dump and its capture changed. -/
structure KeepsCmds (s t : State) : Prop where
  cmds : t.host.cmds = s.host.cmds
  cpls : t.host.cpls = s.host.cpls
  epoch : t.reg GLB_EPOCH = s.reg GLB_EPOCH
  shown : ∀ g, t.reg (CHU_DUMP_STAT g) = s.reg (CHU_DUMP_STAT g)

theorem keepsCmds_refl : KeepsCmds s s := ⟨rfl, rfl, rfl, fun _ => rfl⟩

theorem KeepsCmds.trans (h : KeepsCmds s t) (g : KeepsCmds t u) : KeepsCmds s u :=
  ⟨g.cmds.trans h.cmds, g.cpls.trans h.cpls, g.epoch.trans h.epoch, fun a => (g.shown a).trans (h.shown a)⟩

theorem OnlyChanges.keepsCmds {L : List Part} (h : OnlyChanges L s t) (hh : Part.host ∉ L) (hr : Part.regs ∉ L) :
    KeepsCmds s t :=
  ⟨congrArg HostIf.cmds (h .host hh), congrArg HostIf.cpls (h .host hh), h.reg hr _, fun _ => h.reg hr _⟩

theorem keepsCmds_ite {b : Prop} [Decidable b] {v : State} (ht : KeepsCmds s t) (hv : KeepsCmds s v) :
    KeepsCmds s (if b then t else v) := by
  split
  · exact ht
  · exact hv

/-- Registers that show neither the epoch nor a dump. -/
theorem keepsCmds_of_regs {l : List Nat} (hr : OnlyRegs l s t) (hc : t.host.cmds = s.host.cmds) (hp : t.host.cpls = s.host.cpls)
    (he : GLB_EPOCH ∉ l) (hd : ∀ g, CHU_DUMP_STAT g ∉ l) : KeepsCmds s t := ⟨hc, hp, hr _ he, fun g => hr _ (hd g)⟩

theorem keepsCmds_post {typ kind index : Nat} {data : List Word} (h : KeepsCmds s t) :
    KeepsCmds s (t.post typ kind index data) := by
  have sent : ∀ (v : State) (f : Func) (ws : List Word), (v.eventTo f ws).host.cmds = v.host.cmds
      ∧ (v.eventTo f ws).host.cpls = v.host.cpls := fun v f ws => by
    unfold State.eventTo State.pushRec State.modHost
    split
    · dsimp only
      split <;> exact ⟨rfl, rfl⟩
    · exact ⟨rfl, rfl⟩
  have queued : ∀ (v : State) (ws : List Word), (v.queueEvent ws).host.cmds = v.host.cmds
      ∧ (v.queueEvent ws).host.cpls = v.host.cpls := fun v ws => by
    unfold State.queueEvent
    split
    · split <;> exact ⟨rfl, rfl⟩
    · exact ⟨rfl, rfl⟩
  have posted : (t.post typ kind index data).host.cmds = t.host.cmds
      ∧ (t.post typ kind index data).host.cpls = t.host.cpls := by
    unfold State.post
    split
    · exact ⟨((queued _ _).1.trans (sent _ _ _).1).trans (sent _ _ _).1,
        ((queued _ _).2.trans (sent _ _ _).2).trans (sent _ _ _).2⟩
    · exact ⟨rfl, rfl⟩
  refine h.trans (keepsCmds_of_regs (regs_post (fun _ hb => hb) onlyRegs_refl) posted.1 posted.2 (by decide)
    (fun g => not_mem_eventRegs ?_))
  unfold CHU_DUMP_STAT
  omega

/-- A write of a field of another register. -/
theorem keepsCmds_put {f : FRef} {v : Nat} (h : KeepsCmds s t) (he : GLB_EPOCH ≠ f.addr) (hd : ∀ g, CHU_DUMP_STAT g ≠ f.addr) :
    KeepsCmds s (t.put f v) :=
  h.trans (keepsCmds_of_regs (regs_put (List.mem_singleton.2 rfl) onlyRegs_refl) rfl rfl (by simpa using he) (by simpa using hd))

theorem keepsCmds_putB {f : FRef} {b : Bool} (h : KeepsCmds s t) (he : GLB_EPOCH ≠ f.addr)
    (hd : ∀ g, CHU_DUMP_STAT g ≠ f.addr) :
    KeepsCmds s (t.putB f b) := keepsCmds_put h he hd

theorem keepsCmds_weather {wet : Nat} : KeepsCmds s (s.weather c wet d) := by
  have epoch : GLB_EPOCH ≠ STR_CRT c := by unfold GLB_EPOCH STR_CRT; omega
  have shown : ∀ g, CHU_DUMP_STAT g ≠ STR_CRT c := fun g => by unfold CHU_DUMP_STAT STR_CRT; omega
  have dens : ∀ v, KeepsCmds s (s.put (STR_CRT_dens c) v) := fun _ => keepsCmds_put keepsCmds_refl epoch shown
  unfold State.weather
  exact keepsCmds_ite (keepsCmds_post (keepsCmds_putB (dens _) epoch shown))
    (keepsCmds_ite (keepsCmds_post (keepsCmds_putB (dens _) epoch shown)) (dens _))

theorem keepsCmds_hopRequest (h : KeepsCmds s t) : KeepsCmds s (t.hopRequest c k d) := by
  have shown : ∀ g, CHU_DUMP_STAT g ≠ SEP_STAT := fun g => by unfold CHU_DUMP_STAT SEP_STAT; omega
  have asked : KeepsCmds s ((t.bump SEP_STAT_req 1).put SEP_STAT_chan (16 * c + k)) :=
    keepsCmds_put (keepsCmds_put h (by decide) shown) (by decide) shown
  unfold State.hopRequest
  exact keepsCmds_ite (keepsCmds_post (asked.trans ⟨rfl, rfl, rfl, fun _ => rfl⟩)) h

theorem keepsCmds_separate {count time : Nat} (hk : k < 16) : KeepsCmds s (s.separate c k count time d) := by
  have epoch : GLB_EPOCH ≠ SEP_CH c k := by unfold GLB_EPOCH SEP_CH; omega
  have shown : ∀ g, CHU_DUMP_STAT g ≠ SEP_CH c k := fun g => by unfold CHU_DUMP_STAT SEP_CH; omega
  have rate : ∀ v, KeepsCmds s (s.put (SEP_CH_fr c k) v) := fun _ => keepsCmds_put keepsCmds_refl epoch shown
  unfold State.separate
  exact keepsCmds_ite keepsCmds_refl (keepsCmds_hopRequest (keepsCmds_ite (keepsCmds_post (keepsCmds_putB (rate _) epoch shown))
    (keepsCmds_ite (keepsCmds_post (keepsCmds_putB (rate _) epoch shown)) (rate _))))

/-- Up to the dump no command ends at a boundary. -/
theorem keepsCmds_dwellEnded : KeepsCmds s (s.dwellEnded c d m) := by
  have taken : KeepsCmds s (s.fifoTaken c) := evolves_fifoTaken.1.keepsCmds (by decide) (by decide)
  have separated : KeepsCmds (s.fifoTaken c) (s.separated c d m) :=
    forAll_induction (P := KeepsCmds (s.fifoTaken c)) keepsCmds_refl (fun _ j hj h =>
      doIf_induction (P := KeepsCmds (s.fifoTaken c)) h (fun h => h.trans (keepsCmds_separate (List.mem_range.1 hj))))
  have left : KeepsCmds (s.separated c d m) (s.dwellLeft c d m) :=
    (ev_modCrate (L := [.chans, .saf, .crates]) (by decide) (ev_mono evolves_exchanged (by decide))).1.keepsCmds (by decide)
      (by decide)
  exact doIf_induction (P := KeepsCmds s) ((taken.trans separated).trans left) (fun h => h.trans keepsCmds_weather)

/-! ## The dump (R290, R292, R394) -/

/-- The state with the crate's dump replaced. -/
def State.dumpSet (s : State) (c : Nat) (v : Option Dump) : State := s.modCrate c (fun g => { g with dump := v })

/-- The buffers that the channels of a mask have just filled wait for the dump. -/
def State.dumpMarked (s : State) (c : Nat) (w : BitVec 16) : State :=
  forAll chanNos (fun t k => doIf (w.getLsbD k) (fun u => u.modBuf c k (!(u.chan c k).accBuf) (fun b => { b with
    dumpDue := true })) t) s

/-- A dump with one more dwell seen: its channels w are due, or with none the dwell is full at once. -/
def Dump.counted (v : Dump) (id : Nat) (w : BitVec 16) : Dump :=
  if w = 0 then { v with seen := v.seen + 1, full := v.full + 1 } else { v with seen := v.seen + 1, due := v.due ++ [(id, w)] }

section DumpBoundary

variable {v : Dump} {id : Nat} {used : BitVec 16}

theorem State.dumpBoundary_none (h : (s.crate c).dump = none) : s.dumpBoundary c id used = s := by
  simp [State.dumpBoundary, h]

theorem State.dumpBoundary_abandoned (h : (s.crate c).dump = some v) (hc : v.cmd.isNone = true) :
    s.dumpBoundary c id used = s.endDump c stABORTED := by
  simp [State.dumpBoundary, h, hc]

/-- The first boundary starts the dump. -/
theorem State.dumpBoundary_starts (h : (s.crate c).dump = some v) (hc : v.cmd.isNone = false) (hs : v.started = false) :
    s.dumpBoundary c id used = s.dumpSet c (some { v with started := true }) := by
  simp [State.dumpBoundary, h, hc, hs, State.dumpSet]

theorem State.dumpBoundary_over (h : (s.crate c).dump = some v) (hc : v.cmd.isNone = false) (hs : v.started = true)
    (hn : v.dwells ≤ v.seen) : s.dumpBoundary c id used = s := by
  simp [State.dumpBoundary, h, hc, hs, hn]

/-- Each dwell that follows is counted, with the channels that the dump wants of it. -/
theorem State.dumpBoundary_counts (h : (s.crate c).dump = some v) (hc : v.cmd.isNone = false) (hs : v.started = true)
    (hn : v.seen < v.dwells) : s.dumpBoundary c id used
      = ((s.dumpSet c (some (v.counted id (used &&& v.mask)))).dumpMarked c (used &&& v.mask)).finishDump c := by
  unfold State.dumpBoundary
  rw [h]
  exact (if_neg (by simp [hc])).trans ((if_neg (by simp [hs])).trans (if_neg (Nat.not_le.2 hn)))

/-- What a change of the crate's dump, the end of a dump and a mark of a buffer keep, a boundary of the dump keeps. -/
theorem dumpBoundary_induction {P : State → Prop} (h : P s) (hdump : ∀ v, P (s.dumpSet c v))
    (hend : ∀ t st, P t → P (t.endDump c st))
    (hmark : ∀ t j y, j < 16 → P t → P (t.modBuf c j y (fun b => { b with dumpDue := true }))) :
    P (s.dumpBoundary c id used) := by
  cases hv : (s.crate c).dump with
  | none => rwa [State.dumpBoundary_none hv]
  | some v =>
    cases hc : v.cmd.isNone
    case true =>
      rw [State.dumpBoundary_abandoned hv hc]
      exact hend s _ h
    case false =>
      cases hs : v.started
      case false =>
        rw [State.dumpBoundary_starts hv hc hs]
        exact hdump _
      case true =>
        by_cases hn : v.dwells ≤ v.seen
        · rwa [State.dumpBoundary_over hv hc hs hn]
        · rw [State.dumpBoundary_counts hv hc hs (Nat.not_le.1 hn)]
          have marked : ∀ w, P ((s.dumpSet c (some (v.counted id w))).dumpMarked c w) := fun w =>
            forAll_induction (hdump _) (fun t j hj ht => doIf_induction ht (fun ht => hmark t j _ (List.mem_range.1 hj) ht))
          exact finishDump_induction (marked _) (hend _ _ (marked _))

end DumpBoundary

/-- From s to t a crate stayed but for its dump. -/
def OnlyDump (c : Nat) (s t : State) : Prop := OnlyCrates [c] s t ∧ ∃ u, t.crate c = { s.crate c with dump := u }

theorem onlyDump_refl : OnlyDump c s s := ⟨fun _ _ => rfl, _, rfl⟩

theorem OnlyDump.trans (h : OnlyDump c s t) (g : OnlyDump c t u) : OnlyDump c s u := by
  obtain ⟨hs, l, hl⟩ := h
  obtain ⟨gs, n, gn⟩ := g
  exact ⟨hs.trans gs, n, by rw [gn, hl]⟩

theorem OnlyChanges.onlyDump {L : List Part} (h : OnlyChanges L s t) (hp : Part.crates ∉ L) : OnlyDump c s t :=
  ⟨h.onlyCrates hp, _, h.crate hp c⟩

theorem onlyDump_endDump {st : Nat} : OnlyDump c s (s.endDump c st) := by
  refine endDump_induction (P := OnlyDump c s) onlyDump_refl (fun ref st n w => ?_) (fun t j y h => h.trans ?_) (fun _ _ _ _ h => h)
  · have ended : OnlyDump c s (s.modCrate c (fun g => { g with dump := none })) :=
      ⟨onlyCrates_modCrate, _, State.crate_modCrate_same⟩
    exact ended.trans ((ev_completeOpt (L := [.regs, .host]) (by decide) (ev_putB (by decide) ev_refl)).1.onlyDump (by decide))
  · exact (ev_freeBuf (L := [.bank, .chans]) (by decide) (by decide) ev_refl).1.onlyDump (by decide)

theorem onlyDump_dumpBoundary {id : Nat} {used : BitVec 16} : OnlyDump c s (s.dumpBoundary c id used) :=
  dumpBoundary_induction (P := OnlyDump c s) onlyDump_refl (fun _ => ⟨onlyCrates_modCrate, _, State.crate_modCrate_same⟩)
    (fun _ _ h => h.trans onlyDump_endDump) (fun _ _ _ _ h => h)

/-- From s to t channel k accumulates into the same buffer, and its buffers in state z stayed so, with their markers. -/
structure KeepsIn (z : BufState) (c k : Nat) (s t : State) : Prop where
  accBuf : (t.chan c k).accBuf = (s.chan c k).accBuf
  bufs : ∀ x, ((s.chan c k).buf x).st = z →
    ((t.chan c k).buf x).st = z ∧ ((t.chan c k).buf x).mark = ((s.chan c k).buf x).mark

section KeepsIn

variable {z : BufState}

theorem keepsIn_of_chan (h : t.chan c k = s.chan c k) : KeepsIn z c k s t := by
  constructor
  · rw [h]
  · intro x hx
    rw [h]
    exact ⟨hx, rfl⟩

theorem KeepsIn.trans (h : KeepsIn z c k s t) (g : KeepsIn z c k t u) : KeepsIn z c k s u :=
  ⟨g.accBuf.trans h.accBuf, fun x hx => ⟨(g.bufs x (h.bufs x hx).1).1, ((g.bufs x (h.bufs x hx).1).2).trans (h.bufs x hx).2⟩⟩

/-- A change of another channel's buffer, of one in another state, or of neither state nor marker. -/
theorem keepsIn_modBuf {f : Buf → Buf} (h : ((s.chan c j).buf y).st ≠ z ∨ ∀ b, (f b).st = b.st ∧ (f b).mark = b.mark) :
    KeepsIn z c k s (s.modBuf c j y f) := by
  by_cases hj : j = k
  · subst hj
    refine ⟨State.accBuf_modBuf, fun x hx => ?_⟩
    by_cases hy : y = x
    · subst hy
      obtain ⟨st, mark⟩ := h.resolve_left (fun hn => hn hx) ((s.chan c j).buf y)
      rw [State.buf_modBuf_same, st, mark]
      exact ⟨hx, rfl⟩
    · rw [State.buf_modBuf_ne (by simpa using hy)]
      exact ⟨hx, rfl⟩
  · exact keepsIn_of_chan (State.chan_modChan_ne (by omega))

theorem keepsIn_freeBuf (h : ((s.chan c j).buf y).st ≠ z) : KeepsIn z c k s (s.freeBuf c j y) := by
  have cleared : Evolves [.bank] s ((s.clearBank c (bufBase j y) 1024).clearFine c j y) :=
    ev_clearFine (by decide) (ev_clearBank (by decide) ev_refl)
  refine (keepsIn_of_chan (cleared.1.chan (by decide) c k)).trans (keepsIn_modBuf (Or.inl ?_))
  rw [cleared.1.chan (by decide)]
  exact h

/-- The end of a dump frees the buffers that waited for it alone. -/
theorem keepsIn_endDump {st : Nat} (hz : z ≠ .dump) : KeepsIn z c k s (s.endDump c st) := by
  unfold State.endDump
  split
  · exact keepsIn_of_chan rfl
  · refine forAll_induction (P := KeepsIn z c k s) (keepsIn_of_chan ?_) (fun t j _ ht =>
      forAll_induction (P := KeepsIn z c k s) ht (fun v y _ hv => ?_))
    · exact (ev_completeOpt (L := [.regs, .host, .crates]) (by decide)
        (ev_putB (by decide) (ev_modCrate (by decide) ev_refl))).1.chan (by decide) c k
    · split
      · rename_i hd
        exact hv.trans (keepsIn_freeBuf (by rw [hd]; exact hz.symm))
      · exact hv.trans (keepsIn_modBuf (Or.inr fun _ => ⟨rfl, rfl⟩))

theorem keepsIn_dumpBoundary {id : Nat} {used : BitVec 16} (hz : z ≠ .dump) : KeepsIn z c k s (s.dumpBoundary c id used) :=
  dumpBoundary_induction (P := KeepsIn z c k s) (keepsIn_of_chan rfl) (fun _ => keepsIn_of_chan rfl)
    (fun _ _ h => h.trans (keepsIn_endDump hz)) (fun _ _ _ _ h => h.trans (keepsIn_modBuf (Or.inr fun _ => ⟨rfl, rfl⟩)))

end KeepsIn

theorem onlyChans_freeBuf (hk : k < 16) {l : List (Nat × Nat)} (hl : (c, k) ∈ l) : OnlyChans l s (s.freeBuf c k x) := by
  have cleared : Evolves [.bank] s ((s.clearBank c (bufBase k x) 1024).clearFine c k x) :=
    ev_clearFine (by decide) (ev_clearBank (by decide) ev_refl)
  exact (cleared.1.onlyChans (by decide)).modChan hk hl

theorem onlyChans_endDump {st : Nat} : OnlyChans (chanNos.map (fun k => (c, k))) s (s.endDump c st) := by
  unfold State.endDump
  split
  · exact onlyChans_refl
  · refine forAll_induction (P := OnlyChans (chanNos.map (fun k => (c, k))) s) ?_ (fun t j hj ht =>
      forAll_induction (P := OnlyChans (chanNos.map (fun k => (c, k))) s) ht (fun v y _ hv => ?_))
    · exact (ev_completeOpt (L := [.regs, .host, .crates]) (by decide)
        (ev_putB (by decide) (ev_modCrate (by decide) ev_refl))).1.onlyChans (by decide)
    · have here : (c, j) ∈ chanNos.map (fun k => (c, k)) := List.mem_map_of_mem hj
      split
      · exact hv.trans (onlyChans_freeBuf (List.mem_range.1 hj) here)
      · exact hv.modChan (List.mem_range.1 hj) here

theorem onlyChans_dumpBoundary {id : Nat} {used : BitVec 16} :
    OnlyChans (chanNos.map (fun k => (c, k))) s (s.dumpBoundary c id used) :=
  dumpBoundary_induction (P := OnlyChans (chanNos.map (fun k => (c, k))) s) onlyChans_refl (fun _ => fun _ _ _ _ => rfl)
    (fun _ _ h => h.trans onlyChans_endDump) (fun _ _ _ hj h => h.modChan hj (List.mem_map_of_mem (List.mem_range.2 hj)))

/-! ## The capture (R293, R294, R425) -/

/-- From s to t a crate stayed but for its capture. -/
def OnlyRaw (c : Nat) (s t : State) : Prop :=
  OnlyCrates [c] s t ∧ ∃ r b, t.crate c = { s.crate c with raw := r, rawBlocksFine := b }

theorem onlyRaw_refl : OnlyRaw c s s := ⟨fun _ _ => rfl, _, _, rfl⟩

theorem OnlyRaw.trans (h : OnlyRaw c s t) (g : OnlyRaw c t u) : OnlyRaw c s u := by
  obtain ⟨hs, l, a, hl⟩ := h
  obtain ⟨gs, n, b, gn⟩ := g
  exact ⟨hs.trans gs, n, b, by rw [gn, hl]⟩

theorem OnlyChanges.onlyRaw {L : List Part} (h : OnlyChanges L s t) (hp : Part.crates ∉ L) : OnlyRaw c s t :=
  ⟨h.onlyCrates hp, _, _, h.crate hp c⟩

theorem onlyRaw_modCrate {r : Crate → Option Raw} {b : Crate → Bool} :
    OnlyRaw c s (s.modCrate c (fun g => { g with raw := r g, rawBlocksFine := b g })) :=
  ⟨onlyCrates_modCrate, _, _, State.crate_modCrate_same⟩

theorem onlyRaw_putUnit {w : Word × Word} : OnlyRaw c s (s.putUnit c w) := by
  have written : ∀ a, OnlyRaw c s (s.unitWritten c a w) := fun _ => evolves_unitWritten.1.onlyRaw (by decide)
  unfold State.putUnit
  split
  · exact onlyRaw_refl
  · split
    · exact (written _).trans (onlyRaw_modCrate (b := Crate.rawBlocksFine))
    · exact onlyRaw_modCrate (b := Crate.rawBlocksFine)

theorem onlyRaw_leaveRaw {r : Raw} : OnlyRaw c s (s.leaveRaw c r) := by
  have cleared : OnlyRaw c s (s.clearRaw c r) := (ev_clearRaw (L := [.bank]) (by decide) ev_refl).1.onlyRaw (by decide)
  exact cleared.trans (onlyRaw_modCrate (r := fun _ => none) (b := fun _ => false))

theorem onlyRaw_rawBoundary {fired : Nat} : OnlyRaw c s (s.rawBoundary c d fired) := by
  have kept : ∀ (v : State) (r : Option Raw), OnlyRaw c v (v.modCrate c (fun g => { g with raw := r })) := fun _ _ =>
    onlyRaw_modCrate (b := Crate.rawBlocksFine)
  unfold State.rawBoundary
  split
  · exact onlyRaw_refl
  · split
    · exact onlyRaw_leaveRaw
    · split
      · exact onlyRaw_modCrate (r := fun _ => _) (b := fun _ => true)
      · exact doIf_induction (P := OnlyRaw c s) onlyRaw_refl (fun _ => kept _ _)
      · exact (kept _ _).trans onlyRaw_putUnit
      · exact onlyRaw_refl

theorem evolves_rawBoundary {fired : Nat} : Evolves [.regs, .bank, .crates] s (s.rawBoundary c d fired) :=
  ev_rawBoundary (by decide) (by decide) (by decide) ev_refl

/-! ## The extractors (R275) -/

/-- Extractors take buffers; what they leave of each is its state at most, and from FULL to EXTRACT alone. -/
theorem State.nextExtract_spec : ((s.nextExtract c).chan c k).accBuf = (s.chan c k).accBuf
    ∧ ∀ x, ∃ st, ((s.nextExtract c).chan c k).buf x = { (s.chan c k).buf x with st := st }
      ∧ (st = ((s.chan c k).buf x).st ∨ st = .extract) := by
  refine forAll_induction (P := fun t => (t.chan c k).accBuf = (s.chan c k).accBuf
    ∧ ∀ x, ∃ st, (t.chan c k).buf x = { (s.chan c k).buf x with st := st } ∧ (st = ((s.chan c k).buf x).st ∨ st = .extract))
    ⟨rfl, fun x => ⟨_, rfl, .inl rfl⟩⟩ (fun t e _ ht => ?_)
  split
  · exact ht
  · split
    · exact ht
    · rename_i p _
      obtain ⟨accBuf, bufs⟩ := ht
      by_cases hj : p.2.1 = k
      · refine ⟨by rw [hj, State.accBuf_modBuf, accBuf], fun x => ?_⟩
        obtain ⟨st, kept, hst⟩ := bufs x
        by_cases hx : p.2.2 = x
        · exact ⟨.extract, by rw [hj, hx, State.buf_modBuf_same, kept], .inr rfl⟩
        · exact ⟨st, by rw [State.buf_modBuf_ne (fun h => hx (Prod.mk.inj h).2), kept], hst⟩
      · have same : (t.modBuf c p.2.1 p.2.2 (fun b => { b with st := .extract })).chan c k = t.chan c k :=
          State.chan_modChan_ne (by omega)
        rw [same]
        exact ⟨accBuf, bufs⟩

theorem State.channel_of_mem_fullBufs {e : Nat} {w : Nat × Nat × Bool} (he : e ∈ [0, 1]) (h : w ∈ s.fullBufs c e) :
    w.2.1 < 16 := by
  obtain ⟨j, hj, hw⟩ := List.mem_flatMap.1 h
  obtain ⟨i, hi, rfl⟩ := List.mem_map.1 hj
  obtain ⟨y, -, rfl⟩ := List.mem_map.1 hw
  have lt := List.mem_range.1 hi
  simp only [List.mem_cons, List.not_mem_nil, or_false] at he
  dsimp only
  omega

theorem onlyChans_nextExtract : OnlyChans (chanNos.map (fun k => (c, k))) s (s.nextExtract c) := by
  refine forAll_induction (P := OnlyChans (chanNos.map (fun k => (c, k))) s) onlyChans_refl (fun t e he ht => ?_)
  split
  · exact ht
  · split
    · exact ht
    · rename_i w hw
      have lt := State.channel_of_mem_fullBufs he (mem_of_firstFull hw)
      exact ht.modChan lt (List.mem_map_of_mem (List.mem_range.2 lt))

/-! ## The boundary as a whole -/

/-- The crate after the boundary: without its dwell, with the rest of the FIFO (R272). -/
theorem State.crate_dwellBoundary (hf : (s.crate c).fifo = p :: q) : OnlyCrates [c] s (s.dwellBoundary c d m)
    ∧ ((s.dwellBoundary c d m).crate c).fifo = q ∧ ((s.dwellBoundary c d m).crate c).cur = none := by
  obtain ⟨w, ended⟩ := State.crate_dwellEnded (d := d) (m := m) hf
  obtain ⟨dumpOthers, v, dump⟩ := onlyDump_dumpBoundary (s := s.dwellEnded c d m) (c := c) (id := (s.crate c).nextId)
    (used := s.usedMask c d)
  obtain ⟨rawOthers, r, b, raw⟩ := onlyRaw_rawBoundary (c := c) (d := d) (fired := m.fired)
    (s := (s.dwellEnded c d m).dumpBoundary c (s.crate c).nextId (s.usedMask c d))
  rw [State.dwellBoundary_eq, evolves_nextExtract.1.crate (by decide), raw, dump, ended]
  exact ⟨((onlyCrates_dwellEnded.trans dumpOthers).trans rawOthers).trans (evolves_nextExtract.1.onlyCrates (by decide)),
    rfl, rfl⟩

/-- Up to the extractors a FULL buffer stays. -/
theorem State.chan_dwellBoundary :
    ∃ t, KeepsIn .full c k (s.dwellEnded c d m) t ∧ s.dwellBoundary c d m = t.nextExtract c :=
  ⟨_, (keepsIn_dumpBoundary (by decide)).trans (keepsIn_of_chan (evolves_rawBoundary.1.chan (by decide) c k)),
    s.dwellBoundary_eq c d m⟩

theorem onlyChans_dwellBoundary : OnlyChans (chanNos.map (fun k => (c, k))) s (s.dwellBoundary c d m) := by
  rw [State.dwellBoundary_eq]
  exact ((onlyChans_dwellEnded.trans onlyChans_dumpBoundary).evolves evolves_rawBoundary (by decide)).trans onlyChans_nextExtract

end Sys2Proof.Machine
end

section
/-! PROOFS. The obligation `Obligations.ChurnDwells` (spec/07 R260, R272, R273), from what a descriptor and a boundary leave. -/

namespace Sys2Proof.Machine

variable {s : State} {d : Descr} {lost : BitVec 16} {q : List FifoItem}

/-- A window-close marker before the split_n-th is counted (R260). -/
theorem exec_windowCloseRead {c : CrateId} {e : Bool} (hlive : s.churnLive = true)
    (hf : (s.crate c).fifo = .windowClose lost e :: q) (hc : (s.crate c).cur = some d)
    (hn : (s.crate c).curWindows + 1 ≠ d.splitN) : exec (.windowCloseRead c) s = .next (s.modCrate c (fun g => { g with
      fifo := g.fifo.tail, curWindows := g.curWindows + 1, curLost := g.curLost ||| lost })) := by
  have early : ((s.crate c).curWindows + 1 == d.splitN) = false := beq_eq_false_iff_ne.2 hn
  simp [exec, execWindowCloseRead, hf, hc, hlive, State.readWindowClose, early]

/-- Settles O31: the channels of a descriptor by their turns, a boundary by what its parts keep of the buffers. -/
theorem churnDwells : Obligations.ChurnDwells := by
  unfold Obligations.ChurnDwells
  refine ⟨?descriptor, ?window, ?boundary⟩
  case descriptor =>
    intro c d q s hlive hc hq
    obtain ⟨⟨others, l, crate⟩, chans, shown⟩ := State.bufsTaken_keeps (s := s) (c := c) (d := d)
    obtain ⟨after, events⟩ := State.readDescr_keeps (s := s) (c := c) (d := d)
    have tail : (s.crate c).descQ.tail = q := by rw [hq]; rfl
    have held : (s.readDescr c d).crate c = { (s.descrHeld c d).crate c with late := l } := by
      rw [after.crate (by decide), crate, evolves_descrShown.1.crate (by decide)]
    rw [State.crate_descrHeld, tail] at held
    have turns : ∀ k, k < 16 → ∃ u id fmode, (u.chan c k = s.chan c k ∧ (u.crate c).late.getLsbD k = false)
        ∧ KeepsLate c k (doIf (d.part.getLsbD k) (fun v => v.takeBuf c k id fmode d.isProbe d) u) (s.readDescr c d) := by
      intro k hk
      obtain ⟨u, id, fmode, before, turn⟩ := State.bufsTaken_turn (s := s) (c := c) (d := d) hk
      refine ⟨u, id, fmode, ⟨before.chan.trans (evolves_descrTaken.1.chan (by decide) c k), ?_⟩,
        (after.chan (by decide) c k).trans turn.chan, ?_⟩
      · rw [before.late, evolves_descrShown.1.crate (by decide), State.crate_descrHeld]
        simp
      · rw [after.crate (by decide), turn.late]
    refine ⟨_, exec_descriptorRead hlive hc hq, by rw [held], by rw [held], by rw [held], by rw [held], ?_, ?_, ?_, ?_, ?_, ?_⟩
    · have apart : CHU_DESC_STAT c ∉ eventRegs := not_mem_eventRegs (by simp only [CHU_DESC_STAT]; omega)
      rw [events.rd apart, State.rd_congr (f := CHU_DESC_STAT_fill c) shown, State.fill_descrTaken, tail]
    · intro k hk hp hfree
      obtain ⟨u, id, fmode, ⟨chan, late⟩, turn⟩ := turns k hk
      rw [← chan] at hfree
      obtain ⟨st, dwell, accBuf, crate⟩ := State.takeBuf_free (id := id) (fmode := fmode) (probe := d.isProbe) (d := d) rfl hfree
      rw [hp, doIf_true] at turn
      rw [turn.chan, turn.late, ← chan, crate]
      exact ⟨st, dwell, accBuf, late⟩
    · intro k hk hp hbusy
      obtain ⟨u, id, fmode, ⟨chan, -⟩, turn⟩ := turns k hk
      rw [← chan] at hbusy
      rw [hp, doIf_true] at turn
      rw [turn.chan, turn.late, ← chan]
      exact State.takeBuf_late hk hbusy
    · intro k hk hp
      obtain ⟨u, id, fmode, ⟨chan, -⟩, turn⟩ := turns k hk
      rw [hp, doIf_false] at turn
      exact turn.chan.trans chan
    · exact (onlyCrates_descrTaken.trans others).trans (after.onlyCrates (by decide))
    · exact chans.trans (after.onlyChans (by decide))
  case window =>
    intro c lost e q d s hlive hf hc hn
    refine ⟨_, exec_windowCloseRead hlive hf hc hn, ?_, onlyCrates_modCrate, (ev_modCrate (by decide) ev_refl).1⟩
    rw [State.crate_modCrate_same, hf]
    rfl
  case boundary =>
    intro c m q d s hlive hf hc
    obtain ⟨others, fifo, cur⟩ := State.crate_dwellBoundary (d := d) (m := m) hf
    refine ⟨_, exec_churnDwellBoundary hlive hf hc, fifo, cur, fun k hk ha => ?_, fun k hk ha => ?_, others,
      onlyChans_dwellBoundary⟩
    · obtain ⟨t, kept, ended⟩ := State.chan_dwellBoundary (s := s) (c := c) (k := k) (d := d) (m := m)
      obtain ⟨flipped, full, marked⟩ := State.dwellEnded_accumulated (m := m) hk ha rfl
      obtain ⟨accBuf, bufs⟩ := t.nextExtract_spec (c := c) (k := k)
      obtain ⟨st, buf, hst⟩ := bufs (s.chan c k).accBuf
      obtain ⟨stayed, mark⟩ := kept.bufs _ full
      rw [ended, accBuf, kept.accBuf, flipped, buf]
      exact ⟨rfl, hst.imp (fun h => h.trans stayed) (fun h => h), mark.trans marked⟩
    · obtain ⟨t, kept, ended⟩ := State.chan_dwellBoundary (s := s) (c := c) (k := k) (d := d) (m := m)
      rw [ended, (t.nextExtract_spec).1, kept.accBuf, State.dwellEnded_not_accumulated hk ha]

end Sys2Proof.Machine
end

section
/-! PROOFS. The ends of dumps and captures (spec/07 R290 to R295): what the acceptance of their commands opens, what the end of a dump
completes, what the dump of a channel leaves. -/

namespace Sys2Proof.Machine

variable {s t u : State} {c k : Nat} {x : Bool} {b : Buf} {d : Descr} {m : CloseMark} {v : Dump} {ref : CmdRef} {e : Cmd}

/-! ## The commands (R290, R292, R293, R295, R552) -/

theorem exec_histDump_refused {st : Nat} (hf : s.fabricReady = true) (hw : s.waits ref 0x06 = some e)
    (hc : c = bitsOf (wordAt e.words 1) 0 5) (hst : s.captureStatus c (s.crate c).dump.isSome = some st) :
    exec (.histDump ref) s = .next (s.fail ref st) := by
  obtain ⟨-, same, -⟩ := State.cmd?_of_waits hw
  subst hc
  simp only [exec, execHistDump, hw, hf, doIf_true, State.histDump, hst, same]

theorem exec_rawCapture_refused {st : Nat} (hf : s.fabricReady = true) (hw : s.waits ref 0x07 = some e)
    (hc : c = bitsOf (wordAt e.words 1) 0 5) (hst : s.captureStatus c (s.crate c).raw.isSome = some st) :
    exec (.rawCapture ref) s = .next (s.fail ref st) := by
  obtain ⟨-, same, -⟩ := State.cmd?_of_waits hw
  subst hc
  simp only [exec, execRawCapture, hw, hf, doIf_true, State.rawCapture, hst, same]

/-- The dump that a HIST_DUMP asks for (R290). -/
def Cmd.asDump (e : Cmd) (ref : CmdRef) : Dump :=
  ⟨some ref, bitsOf (wordAt e.words 1) 8 1 == 1, (wordAt e.words 1).extractLsb' 16 16, bitsOf (wordAt e.words 2) 0 16,
    (wordAt e.words 2).extractLsb' 16 16, false, 0, 0, 0, []⟩

/-- The capture that a RAW_CAPTURE asks for (R293). -/
def Cmd.asRaw (e : Cmd) (ref : CmdRef) : Raw :=
  ⟨some ref, bitsOf (wordAt e.words 1) 8 1 == 1, (wordAt e.words 1).extractLsb' 16 16, bitsOf (wordAt e.words 2) 0 13,
    (wordAt e.words 2).extractLsb' 16 16, .waiting, 0, [], 0, 0, none⟩

theorem exec_histDump_accepted (hf : s.fabricReady = true) (hw : s.waits ref 0x06 = some e)
    (hc : c = bitsOf (wordAt e.words 1) 0 5) (hst : s.captureStatus c (s.crate c).dump.isSome = none) :
    exec (.histDump ref) s
      = .next (((s.openCmd ref).dumpSet c (some (e.asDump ref))).putB (CHU_DUMP_STAT_dump_active c) true) := by
  obtain ⟨-, same, -⟩ := State.cmd?_of_waits hw
  subst hc
  simp only [exec, execHistDump, hw, hf, doIf_true, State.histDump, hst, same]
  rfl

theorem exec_rawCapture_accepted (hf : s.fabricReady = true) (hw : s.waits ref 0x07 = some e)
    (hc : c = bitsOf (wordAt e.words 1) 0 5) (hst : s.captureStatus c (s.crate c).raw.isSome = none) :
    exec (.rawCapture ref) s = .next ((s.openCmd ref).modCrate c (fun g => { g with raw := some (e.asRaw ref) })) := by
  obtain ⟨-, same, -⟩ := State.cmd?_of_waits hw
  subst hc
  simp only [exec, execRawCapture, hw, hf, doIf_true, State.rawCapture, hst, same]
  rfl

/-! ## Completion (R388, R390) -/

theorem completed_completeOpt {r : Option CmdRef} {st : Nat} {shots : DWord} {dwells : Word} (hr : r = some ref)
    (he : s.cmd? ref = some e) : Completed s (s.completeOpt r st shots dwells) e st shots dwells := by
  have same : e.ref = ref := of_decide_eq_true (List.find?_some he :)
  rw [hr, State.completeOpt, State.complete, he, ← same]
  exact ⟨rfl, rfl⟩

/-- What ends no command before a completion, and leaves the epoch. -/
theorem Completed.after {st : Nat} {shots : DWord} {dwells : Word} (h : Completed u t e st shots dwells)
    (hc : u.host.cmds = s.host.cmds) (hp : u.host.cpls = s.host.cpls) (he : u.reg GLB_EPOCH = s.reg GLB_EPOCH) :
    Completed s t e st shots dwells := by
  have epoch : u.epoch = s.epoch := he
  rwa [Completed, hc, hp, epoch] at h

/-- What leaves the host interface after it. -/
theorem Completed.before {L : List Part} {st : Nat} {shots : DWord} {dwells : Word} (h : Completed s t e st shots dwells)
    (g : OnlyChanges L t u) (hp : Part.host ∉ L) : Completed s u e st shots dwells := by
  rwa [Completed, ← g .host hp] at h

theorem KeepsCmds.cmd? (h : KeepsCmds s t) : t.cmd? ref = s.cmd? ref := by
  rw [State.cmd?, State.cmd?, h.cmds]

/-! ## The end of a dump (R292) -/

/-- The dump has left the crate, and its command has completed. -/
def State.dumpDone (s : State) (c status : Nat) (v : Dump) : State :=
  ((s.dumpSet c none).putB (CHU_DUMP_STAT_dump_active c) false).completeOpt v.cmd status (BitVec.ofNat 64 v.channels)
    (w32 v.full)

/-- Its buffers are cleared after that. -/
theorem evolves_dumpDone_endDump {st : Nat} (h : (s.crate c).dump = some v) :
    Evolves [.bank, .chans] (s.dumpDone c st v) (s.endDump c st) := by
  unfold State.endDump
  rw [h]
  exact ev_forAll (fun _ _ hu => ev_forAll (fun _ _ hw => ev_ite (ev_freeBuf (by decide) (by decide) hw)
    (ev_modBuf (by decide) hw)) hu) ev_refl

theorem evolves_dumpDone {st : Nat} : Evolves [.regs, .crates, .host] s (s.dumpDone c st v) :=
  ev_completeOpt (by decide) (ev_putB (by decide) (ev_modCrate (by decide) ev_refl))

theorem CHU_DUMP_STAT_ne_GLB_EPOCH : CHU_DUMP_STAT c ≠ GLB_EPOCH := by
  unfold CHU_DUMP_STAT GLB_EPOCH
  omega

/-- A dump that ends leaves the crate without one, shows that, and completes its command (R292). -/
theorem State.endDump_spec {st : Nat} (h : (s.crate c).dump = some v) :
    ((s.endDump c st).crate c).dump = none ∧ (s.endDump c st).flag (CHU_DUMP_STAT_dump_active c) = false
      ∧ (∀ ref e, v.cmd = some ref → s.cmd? ref = some e →
          Completed s (s.endDump c st) e st (BitVec.ofNat 64 v.channels) (w32 v.full)) := by
  have left := (evolves_dumpDone_endDump (st := st) h).1
  have shown : Evolves [.regs] (s.dumpSet c none) ((s.dumpSet c none).putB (CHU_DUMP_STAT_dump_active c) false) :=
    ev_putB (by decide) ev_refl
  have host : Evolves [.host] ((s.dumpSet c none).putB (CHU_DUMP_STAT_dump_active c) false) (s.dumpDone c st v) :=
    ev_completeOpt (by decide) ev_refl
  refine ⟨?_, ?_, fun ref e hr he => ?_⟩
  · rw [left.crate (by decide), host.1.crate (by decide), shown.1.crate (by decide), State.dumpSet, State.crate_modCrate_same]
  · rw [left.flag (by decide), host.1.flag (by decide)]
    exact State.flag_putB_same (by simp [FRef.fits, CHU_DUMP_STAT_dump_active]) rfl
  · have done : Completed ((s.dumpSet c none).putB (CHU_DUMP_STAT_dump_active c) false) (s.dumpDone c st v) e st
        (BitVec.ofNat 64 v.channels) (w32 v.full) := completed_completeOpt hr he
    exact (done.after (s := s) rfl rfl (State.reg_putB_ne CHU_DUMP_STAT_ne_GLB_EPOCH)).before left (by decide)

/-- A dump with its dwells seen and no channel due completes (R292). -/
theorem State.finishDump_ends (h : (s.crate c).dump = some v) (hs : v.started = true) (hn : v.dwells ≤ v.seen)
    (hd : v.due = []) : s.finishDump c = s.endDump c stOK := by
  simp [State.finishDump, h, hs, hn, hd]

/-- With channels due it goes on. -/
theorem State.finishDump_goes (h : (s.crate c).dump = some v) (hd : v.due ≠ []) : s.finishDump c = s := by
  simp [State.finishDump, h, hd]

/-! ## A channel of a dump (R290, R291) -/

/-- The record of a channel of a dump (R422). -/
def State.dumpRec (s : State) (c k : Nat) (x : Bool) (v : Dump) (b : Buf) (d : Descr) (m : CloseMark) : Rec :=
  ⟨ringOwner v.ring, v.ring, 2, s.dumpWords c k x v.fine b d m, v.cmd, 0, false⟩

/-- The record has gone and is counted. -/
def State.dumpSent (s : State) (c k : Nat) (x : Bool) (v : Dump) (b : Buf) (d : Descr) (m : CloseMark) : State :=
  ((s.pushRec (s.dumpRec c k x v b d m)).bump (CHU_DUMP_STAT_dumped c) 1).modCrate c (fun g => { g with
    dump := g.dump.map (fun w => { w with channels := w.channels + 1 }) })

/-- Then the buffer is cleared, and the dump waits for one channel less. -/
theorem exec_dumpChannel {c : CrateId} {k : ChanId} (hlive : s.churnLive = true) (hx : (s.chan c k).bufIn .dump = some x)
    (hv : (s.crate c).dump = some v) (hb : b = (s.chan c k).buf x) (hd : b.dwell = some d) (hm : b.mark = some m)
    (hcorrupt : b.corrupt = false) (hreach : v.reaches b.dwellId k = true) : exec (.dumpChannel c k []) s
      = .next (((s.dumpSent c k x v b d m).freeBuf c k x).dumpLess c k b.dwellId) := by
  subst hb
  simp only [exec, execDumpChannel, hx, hv, hd, hm, hlive, hreach, Bool.and_self, doIf_true, State.eccReads_nil, State.dumpBuf,
    hcorrupt, Bool.false_eq_true, if_false]
  rfl

section DumpSent

variable {y : Bool}

theorem evolves_dumpSent : Evolves [.regs, .host, .crates] s (s.dumpSent c k x v b d m) :=
  ev_modCrate (by decide) (ev_bump (by decide) (ev_pushRec (by decide) ev_refl))

theorem State.recs_dumpSent (h : s.host.recs.length < 1024) :
    (s.dumpSent c k x v b d m).host.recs = s.host.recs ++ [s.dumpRec c k x v b d m] := by
  have sent : (s.dumpSent c k x v b d m).host = (s.pushRec (s.dumpRec c k x v b d m)).host := rfl
  rw [sent, State.pushRec_of_room h]
  rfl

theorem State.crate_dumpSent (h : (s.crate c).dump = some v) :
    ((s.dumpSent c k x v b d m).crate c).dump = some { v with channels := v.channels + 1 } := by
  have kept : Evolves [.regs, .host] s ((s.pushRec (s.dumpRec c k x v b d m)).bump (CHU_DUMP_STAT_dumped c) 1) :=
    ev_bump (by decide) (ev_pushRec (by decide) ev_refl)
  rw [State.dumpSent, State.crate_modCrate_same, kept.1.crate (by decide), h]
  rfl

theorem State.dumped_dumpSent : (s.dumpSent c k x v b d m).rd (CHU_DUMP_STAT_dumped c)
    = min (s.rd (CHU_DUMP_STAT_dumped c) + 1) 65535 :=
  State.rd_bump_same (s := s.pushRec (s.dumpRec c k x v b d m)) (by simp [FRef.fits, CHU_DUMP_STAT_dumped])

theorem regs_dumpSent : OnlyRegs [CHU_DUMP_STAT c] s (s.dumpSent c k x v b d m) :=
  regs_modCrate (regs_bump (List.mem_singleton.2 rfl) (regs_pushRec onlyRegs_refl))

/-- A pushed record ends no command. -/
theorem State.commands_dumpSent : (s.dumpSent c k x v b d m).host.cmds = s.host.cmds
    ∧ (s.dumpSent c k x v b d m).host.cpls = s.host.cpls := by
  have sent : (s.dumpSent c k x v b d m).host = (s.pushRec (s.dumpRec c k x v b d m)).host := rfl
  rw [sent, State.pushRec, State.modHost]
  dsimp only
  split <;> exact ⟨rfl, rfl⟩

end DumpSent

/-- The end of a dump leaves the count of channels, and writes no register but CHU_DUMP_STAT. -/
theorem regs_dumpLess_dump {id : Nat} : OnlyRegs [CHU_DUMP_STAT c] s (s.dumpLess c k id)
    ∧ (s.dumpLess c k id).rd (CHU_DUMP_STAT_dumped c) = s.rd (CHU_DUMP_STAT_dumped c) := by
  have kept : ∀ (w t : State), OnlyChanges [.bank, .chans, .host, .crates] w t →
      (OnlyRegs [CHU_DUMP_STAT c] s w ∧ w.rd (CHU_DUMP_STAT_dumped c) = s.rd (CHU_DUMP_STAT_dumped c)) →
      OnlyRegs [CHU_DUMP_STAT c] s t ∧ t.rd (CHU_DUMP_STAT_dumped c) = s.rd (CHU_DUMP_STAT_dumped c) :=
    fun w t h ⟨hr, hd⟩ => ⟨onlyRegs_trans hr (h.onlyRegs (by decide)), (h.rd (by decide) _).trans hd⟩
  refine finishDump_induction (P := fun t => OnlyRegs [CHU_DUMP_STAT c] s t
    ∧ t.rd (CHU_DUMP_STAT_dumped c) = s.rd (CHU_DUMP_STAT_dumped c)) ⟨regs_modCrate onlyRegs_refl, rfl⟩
    (endDump_induction (P := fun t => OnlyRegs [CHU_DUMP_STAT c] s t
      ∧ t.rd (CHU_DUMP_STAT_dumped c) = s.rd (CHU_DUMP_STAT_dumped c)) ⟨regs_modCrate onlyRegs_refl, rfl⟩
      (fun ref st n w => ?_) (fun t j y ht => ?_) (fun t j y f ht => ?_))
  · refine kept _ _ (ev_completeOpt (by decide) ev_refl).1 ⟨regs_putB (List.mem_singleton.2 rfl)
      (regs_modCrate (regs_modCrate onlyRegs_refl)), ?_⟩
    rw [State.rd_putB_beside (by rfl)]
    rfl
  · exact kept _ _ (ev_freeBuf (by decide) (by decide) ev_refl).1 ht
  · exact kept _ _ (ev_modBuf (by decide) ev_refl).1 ht

/-- A dump that no longer waits for channel k of dwell id (R290, R292). -/
def Dump.less (v : Dump) (k id : Nat) : Dump :=
  let due := v.due.map (fun p => if p.1 = id then (p.1, p.2 &&& ~~~(1#16 <<< k)) else p)
  { v with full := v.full + due.countP (fun p => decide (p.2 = 0)), due := due.filter (fun p => decide (p.2 ≠ 0)) }

theorem State.dumpLess_eq {id : Nat} : s.dumpLess c k id
    = (s.modCrate c (fun g => { g with dump := g.dump.map (fun w => w.less k id) })).finishDump c := rfl

/-- The last channel of the last dwell leaves nothing due, and the dwell is full. -/
theorem Dump.less_last {id : Nat} (hd : v.due = [(id, BitVec.twoPow 16 k)]) :
    v.less k id = { v with full := v.full + 1, due := [] } := by
  have cleared : BitVec.twoPow 16 k &&& ~~~(1#16 <<< k) = 0 := BitVec.and_not_self ..
  simp [Dump.less, hd, cleared]

/-- A buffer that is free stays so when the dump waits for one channel less. -/
theorem keepsIn_dumpLess {id j : Nat} {z : BufState} (hz : z ≠ .dump) : KeepsIn z c j s (s.dumpLess c k id) := by
  have less : KeepsIn z c j s (s.modCrate c (fun g => { g with dump := g.dump.map (fun w => w.less k id) })) :=
    keepsIn_of_chan rfl
  rw [State.dumpLess_eq]
  exact finishDump_induction (P := KeepsIn z c j s) less (less.trans (keepsIn_endDump hz))

/-- The last channel that a dump waits for ends it (R292). -/
theorem State.dumpLess_ends {id : Nat} (h : (s.crate c).dump = some v) (hs : v.started = true) (hn : v.dwells ≤ v.seen)
    (hd : v.due = [(id, BitVec.twoPow 16 k)]) : ((s.dumpLess c k id).crate c).dump = none
      ∧ (s.dumpLess c k id).flag (CHU_DUMP_STAT_dump_active c) = false
      ∧ (∀ ref e, v.cmd = some ref → s.cmd? ref = some e →
          Completed s (s.dumpLess c k id) e stOK (BitVec.ofNat 64 v.channels) (w32 (v.full + 1))) := by
  have less : ((s.modCrate c (fun g => { g with dump := g.dump.map (fun w => w.less k id) })).crate c).dump
      = some { v with full := v.full + 1, due := [] } := by
    rw [State.crate_modCrate_same, h, Option.map_some, Dump.less_last hd]
  rw [State.dumpLess_eq, State.finishDump_ends less hs hn rfl]
  obtain ⟨dump, flag, done⟩ := State.endDump_spec (st := stOK) less
  exact ⟨dump, flag, fun ref e hr he => (done ref e hr he).after (s := s) rfl rfl rfl⟩

end Sys2Proof.Machine
end

section
/-! PROOFS. A capture drains (spec/07 R294, R295, R425): its units as records in order, its words cleared, its command completed. -/

namespace Sys2Proof.Machine

variable {s t : State} {c k : Nat} {x : Bool} {r : Raw} {ref : CmdRef} {e : Cmd}

/-- The record of a unit (R425). -/
def Raw.unitRec (r : Raw) (u : Word × Word) : Rec := ⟨ringOwner r.ring, r.ring, 4, [u.1, u.2], r.cmd, 0, false⟩

/-- A run of pushes puts its records behind those on their way (R590). -/
theorem State.allRecs_pushRecs {α : Type} {l : List α} {g : α → Rec} (h : s.host.inOrder) :
    (forAll l (fun t p => t.pushRec (g p)) s).host.allRecs = s.host.allRecs ++ l.map g := by
  induction l generalizing s with
  | nil => simp
  | cons p l ih =>
    obtain ⟨pushed, order⟩ := State.allRecs_pushRec (r := g p) h
    rw [forAll_cons, ih order, pushed, List.map_cons, List.append_assoc, List.singleton_append]

/-- The units have gone as records. -/
def State.unitsSent (s : State) (c : Nat) (r : Raw) : State := forAll (s.rawUnits c r) (fun t u => t.pushRec (r.unitRec u)) s

/-- Then the capture has left the crate. -/
def State.rawLeft (s : State) (c : Nat) (r : Raw) : State := (s.unitsSent c r).leaveRaw c r

theorem exec_rawDrain {c : CrateId} (hlive : s.churnLive = true) (hr : (s.crate c).raw = some r) (hs : r.stage = .draining) :
    exec (.rawDrain ⟨c, []⟩) s = .next ((s.rawLeft c r).completeOpt r.cmd (r.stopWith.getD stOK) (BitVec.ofNat 64 r.written)
      (w32 r.beyond)) := by
  have reads : s.drainReads c [] = s := rfl
  simp only [exec, execRawDrain, hr, hlive, hs, decide_true, Bool.and_self, doIf_true, reads]
  rfl

theorem evolves_unitsSent : Evolves [.host] s (s.unitsSent c r) := ev_forAll (fun _ _ h => ev_pushRec (by decide) h) ev_refl

theorem evolves_clearRaw : Evolves [.bank] s (s.clearRaw c r) := ev_clearRaw (by decide) ev_refl

/-- Leaving changes neither records nor commands. -/
theorem State.host_rawLeft : (s.rawLeft c r).host = (s.unitsSent c r).host :=
  (ev_leaveRaw (L := [.regs, .bank, .crates]) (by decide) (by decide) (by decide) ev_refl).1 .host (by decide)

theorem State.commands_unitsSent : (s.unitsSent c r).host.cmds = s.host.cmds ∧ (s.unitsSent c r).host.cpls = s.host.cpls := by
  refine forAll_induction (P := fun t => t.host.cmds = s.host.cmds ∧ t.host.cpls = s.host.cpls) ⟨rfl, rfl⟩ (fun t u _ h => ?_)
  have pushed : (t.pushRec (r.unitRec u)).host.cmds = t.host.cmds ∧ (t.pushRec (r.unitRec u)).host.cpls = t.host.cpls := by
    rw [State.pushRec, State.modHost]
    dsimp only
    split <;> exact ⟨rfl, rfl⟩
  exact ⟨pushed.1.trans h.1, pushed.2.trans h.2⟩

/-- The crate has no capture, and windows may be placed again (R294). -/
theorem State.crate_rawLeft : (s.rawLeft c r).crate c = { s.crate c with raw := none, rawBlocksFine := false } := by
  have kept : ((s.unitsSent c r).clearRaw c r).crate c = s.crate c :=
    (evolves_clearRaw.1.crate (by decide) c).trans (evolves_unitsSent.1.crate (by decide) c)
  have left : (s.rawLeft c r).crate c = (((s.unitsSent c r).clearRaw c r).modCrate c (fun g => { g with
      raw := none, rawBlocksFine := false })).crate c := rfl
  rw [left, State.crate_modCrate_same, kept]

theorem onlyCrates_rawLeft : OnlyCrates [c] s (s.rawLeft c r) :=
  (evolves_unitsSent.1.onlyCrates (by decide)).trans onlyRaw_leaveRaw.1

theorem regs_rawLeft : OnlyRegs [CHU_DUMP_STAT c] s (s.rawLeft c r) := by
  have cleared : OnlyRegs [CHU_DUMP_STAT c] s ((s.unitsSent c r).clearRaw c r) :=
    onlyRegs_trans (evolves_unitsSent.1.onlyRegs (by decide)) (evolves_clearRaw.1.onlyRegs (by decide))
  exact regs_putB (List.mem_singleton.2 rfl) (regs_modCrate cleared)

/-- The bytes of its units are cleared, and no others (R294). -/
theorem State.bankByte_rawLeft {g a : Nat} : (s.rawLeft c r).bankByte g a
    = if (List.range r.count).any (fun n => bankCovers c (rawAt n) 8 g a) then 0 else s.bankByte g a := by
  have left : (s.rawLeft c r).bankByte g a = ((s.unitsSent c r).clearRaw c r).bankByte g a := rfl
  rw [left, State.clearRaw, State.bankByte_forAll_clearBank, evolves_unitsSent.1.bankByte (by decide)]

/-- A byte that no unit covers stays. -/
theorem State.bankByte_rawLeft_apart {g a : Nat} (h : ∀ n, n < r.count → bankCovers c (rawAt n) 8 g a = false) :
    (s.rawLeft c r).bankByte g a = s.bankByte g a := by
  rw [State.bankByte_rawLeft, if_neg]
  simpa using h

/-- A unit's words lie in the bank, above the coarse words of each buffer (R256). -/
theorem rawAt_coarse_apart {n a : Nat} (hk : k < 16) (ha : a < 1024) :
    bankCovers c (rawAt n) 8 c (bufBase k x + a) = false := by
  have base := bufBase_le (x := x) hk
  refine Bool.eq_false_iff.2 (fun h => ?_)
  rw [bankCovers_iff, Nat.mod_eq_of_lt (by omega), rawAt_eq] at h
  unfold bufBase at h
  cases x <;> simp only [Bool.toNat_false, Bool.toNat_true] at h <;> omega

theorem rawAt_bank_apart {n g a : Nat} (hn : n < rawRoom) (hg : g ≠ c) : bankCovers c (rawAt n) 8 g a = false := by
  have room := rawAt_lt hn
  have small := Nat.mod_lt a (show 0 < 65536 by decide)
  refine Bool.eq_false_iff.2 (fun h => ?_)
  rw [bankCovers_iff] at h
  omega

theorem rawAt_covers {n i : Nat} (hn : n < rawRoom) (hi : i < 8) : bankCovers c (rawAt n) 8 c (rawAt n + i) = true := by
  have room := rawAt_lt hn
  rw [bankCovers_iff, Nat.mod_eq_of_lt (by omega)]
  omega

end Sys2Proof.Machine
end

section
/-! PROOFS. A dwell boundary for a crate with a dump or a capture (spec/07 R290, R292, R293, R425). -/

namespace Sys2Proof.Machine

variable {s t : State} {c k : Nat} {d : Descr} {m : CloseMark} {p : FifoItem} {q : List FifoItem} {v : Dump} {r : Raw}
  {ref : CmdRef} {e : Cmd} {w : BitVec 16}

/-! ## The capture (R293, R425) -/

theorem State.rawBoundary_none {fired : Nat} (h : (s.crate c).raw = none) : s.rawBoundary c d fired = s := by
  simp [State.rawBoundary, h]

/-- A capture at a boundary drains once its limit is reached. -/
def Raw.staged (r : Raw) : Raw := { r with stage := if r.limit ≤ r.written then .draining else .capturing }

/-- While it captures, a boundary adds its marker. -/
theorem State.rawBoundary_capturing {fired : Nat} (hr : (s.crate c).raw = some r) (hc : r.cmd.isSome = true)
    (hs : r.stage = .capturing) (hn : r.count < 4096) :
    ((s.rawBoundary c d fired).crate c).raw = some { r.staged with count := r.count + 1 }
      ∧ (s.rawBoundary c d fired).bankWord c (rawAt r.count) = (rawMarker c d fired).1
      ∧ (s.rawBoundary c d fired).bankWord c (rawAt r.count + 4) = (rawMarker c d fired).2 := by
  have marked : s.rawBoundary c d fired
      = (s.modCrate c (fun g => { g with raw := some r.staged })).putUnit c (rawMarker c d fired) := by
    simp [State.rawBoundary, Raw.staged, hr, hs, Option.isNone_eq_false_iff.2 hc]
  have count : r.staged.count = r.count := rfl
  have held : ((s.modCrate c (fun g => { g with raw := some r.staged })).crate c).raw = some r.staged := by
    rw [State.crate_modCrate_same]
  rw [marked, State.putUnit_room held (by rwa [count]), count]
  obtain ⟨low, high, -, -⟩ := State.unitWritten_spec (c := c) (u := rawMarker c d fired) (rawAt_lt hn)
    (s := s.modCrate c (fun g => { g with raw := some r.staged }))
  refine ⟨by rw [State.crate_modCrate_same], ?_, ?_⟩
  · rw [(ev_modCrate (L := [.crates]) (by decide) ev_refl).1.bankWord (by decide), low]
  · rw [(ev_modCrate (L := [.crates]) (by decide) ev_refl).1.bankWord (by decide), high]

/-- Before the capture's turn a boundary leaves the capture. -/
theorem State.raw_dumpBoundary (hf : (s.crate c).fifo = p :: q) :
    (((s.dwellEnded c d m).dumpBoundary c (s.crate c).nextId (s.usedMask c d)).crate c).raw = (s.crate c).raw := by
  obtain ⟨l, ended⟩ := State.crate_dwellEnded (d := d) (m := m) hf
  obtain ⟨-, u, dump⟩ := onlyDump_dumpBoundary (s := s.dwellEnded c d m) (c := c) (id := (s.crate c).nextId)
    (used := s.usedMask c d)
  rw [dump, ended]

/-- Without a capture the boundary is the dump's and the extractors'. -/
theorem State.dwellBoundary_of_no_raw (hf : (s.crate c).fifo = p :: q) (hr : (s.crate c).raw = none) : s.dwellBoundary c d m
    = ((s.dwellEnded c d m).dumpBoundary c (s.crate c).nextId (s.usedMask c d)).nextExtract c := by
  rw [State.dwellBoundary_eq, State.rawBoundary_none ((State.raw_dumpBoundary hf).trans hr)]

/-! ## The dump (R290, R292) -/

/-- Before the dump's turn a boundary leaves the dump. -/
theorem State.dump_dwellEnded (hf : (s.crate c).fifo = p :: q) :
    ((s.dwellEnded c d m).crate c).dump = (s.crate c).dump := by
  obtain ⟨l, ended⟩ := State.crate_dwellEnded (d := d) (m := m) hf
  rw [ended]

theorem keepsCmds_dumpSet {u : Option Dump} : KeepsCmds s (s.dumpSet c u) := ⟨rfl, rfl, rfl, fun _ => rfl⟩

/-- The channels of a dwell that a dump wants. -/
theorem State.usedMask_and_eq (h : ∀ k, k < 16 → w.getLsbD k = (s.accumulates c k d && v.mask.getLsbD k)) :
    s.usedMask c d &&& v.mask = w := by
  refine BitVec.eq_of_getLsbD_eq (fun k hk => ?_)
  rw [BitVec.getLsbD_and, State.getLsbD_usedMask hk, h k hk]

theorem evolves_dumpMarked : Evolves [.chans] s (s.dumpMarked c w) :=
  ev_forAll (fun _ _ h => ev_doIf (fun _ h => ev_modBuf (by decide) h) h) ev_refl

theorem State.dumpMarked_zero : s.dumpMarked c 0 = s := by
  refine forAll_induction (P := fun t => t = s) rfl (fun t k _ ht => ?_)
  rw [BitVec.ofNat_eq_ofNat, BitVec.getLsbD_zero]
  exact ht

/-- The buffer that a wanted channel has just filled waits for the dump. -/
theorem State.dumpMarked_due (hk : k < 16) (hw : w.getLsbD k = true) :
    (((s.dumpMarked c w).chan c k).buf (!(s.chan c k).accBuf)).dumpDue = true := by
  obtain ⟨u, before, after⟩ := forAll_turn (s := s) (R := fun v w => w.chan c k = v.chan c k) (l := chanNos) (x := k)
    (f := fun t k => doIf (w.getLsbD k) (fun u => u.modBuf c k (!(u.chan c k).accBuf) (fun b => { b with dumpDue := true })) t)
    (fun _ => rfl) (fun _ _ _ h g => g.trans h) List.nodup_range (List.mem_range.2 hk) (fun v j _ hne =>
      doIf_induction (P := fun t => t.chan c k = v.chan c k) rfl (fun _ => State.chan_modChan_ne (by omega)))
  rw [hw, doIf_true, before] at after
  rw [State.dumpMarked, after, State.buf_modBuf_same]

/-- The first boundary starts the dump and does nothing else of it. -/
theorem State.dwellBoundary_starts (hf : (s.crate c).fifo = p :: q) (hv : (s.crate c).dump = some v)
    (hc : v.cmd.isSome = true) (hs : v.started = false) (hr : (s.crate c).raw = none) :
    ((s.dwellBoundary c d m).crate c).dump = some { v with started := true }
      ∧ KeepsCmds s (s.dwellBoundary c d m) := by
  have left : OnlyChanges [.chans] _ (s.dwellBoundary c d m) := State.dwellBoundary_of_no_raw hf hr ▸ evolves_nextExtract.1
  rw [State.dumpBoundary_starts ((State.dump_dwellEnded hf).trans hv) (Option.isNone_eq_false_iff.2 hc) hs] at left
  refine ⟨?_, (keepsCmds_dwellEnded.trans keepsCmds_dumpSet).trans (left.keepsCmds (by decide) (by decide))⟩
  rw [left.crate (by decide), State.dumpSet, State.crate_modCrate_same]

/-- A dump that has seen one more dwell, and waits for its channels w. -/
def Dump.awaiting (v : Dump) (id : Nat) (w : BitVec 16) : Dump := { v with seen := v.seen + 1, due := v.due ++ [(id, w)] }

/-- A dump that has seen one more dwell, which was full at once. -/
def Dump.filled (v : Dump) : Dump := { v with seen := v.seen + 1, full := v.full + 1 }

/-- A later one with wanted channels makes them due. -/
theorem State.dwellBoundary_counts (hf : (s.crate c).fifo = p :: q) (hv : (s.crate c).dump = some v)
    (hc : v.cmd.isSome = true) (hs : v.started = true) (hn : v.seen < v.dwells)
    (hw : s.usedMask c d &&& v.mask = w) (hw0 : w ≠ 0) (hr : (s.crate c).raw = none) :
    s.dwellBoundary c d m
      = (((s.dwellEnded c d m).dumpSet c (some (v.awaiting (s.crate c).nextId w))).dumpMarked c w).nextExtract c := by
  have counted : v.counted (s.crate c).nextId w = v.awaiting (s.crate c).nextId w := if_neg hw0
  have dump : ((((s.dwellEnded c d m).dumpSet c (some (v.awaiting (s.crate c).nextId w))).dumpMarked c w).crate c).dump
      = some (v.awaiting (s.crate c).nextId w) := by
    rw [evolves_dumpMarked.1.crate (by decide), State.dumpSet, State.crate_modCrate_same]
  rw [State.dwellBoundary_of_no_raw hf hr, State.dumpBoundary_counts ((State.dump_dwellEnded hf).trans hv)
    (Option.isNone_eq_false_iff.2 hc) hs hn, hw, counted, State.finishDump_goes dump (by simp [Dump.awaiting])]

/-- Each wanted channel's buffer, just filled, waits for the dump. -/
theorem State.dumpDue_dwellBoundary (hk : k < 16) (ha : s.accumulates c k d = true) (hset : w.getLsbD k = true)
    {u : Option Dump} : ((((((s.dwellEnded c d m).dumpSet c u).dumpMarked c w).nextExtract c).chan c k).buf
      (s.chan c k).accBuf).dumpDue = true := by
  have flipped : (!((((s.dwellEnded c d m).dumpSet c u).chan c k).accBuf)) = (s.chan c k).accBuf := by
    have exchanged : (!((s.dwellEnded c d m).chan c k).accBuf) = (s.chan c k).accBuf := by
      rw [(State.dwellEnded_accumulated hk ha rfl).1, Bool.not_not]
    exact exchanged
  have marked := State.dumpMarked_due (c := c) (s := (s.dwellEnded c d m).dumpSet c u) hk hset
  rw [flipped] at marked
  obtain ⟨st, buf, -⟩ := (State.nextExtract_spec (c := c) (k := k)
    (s := ((s.dwellEnded c d m).dumpSet c u).dumpMarked c w)).2 (s.chan c k).accBuf
  rw [buf]
  exact marked

/-- The last one without a wanted channel, with none due, ends it (R292). -/
theorem State.dwellBoundary_ends (hf : (s.crate c).fifo = p :: q) (hv : (s.crate c).dump = some v)
    (hc : v.cmd.isSome = true) (hs : v.started = true) (hn : v.seen + 1 = v.dwells) (hd : v.due = [])
    (hw : s.usedMask c d &&& v.mask = 0) (hr : (s.crate c).raw = none) :
    s.dwellBoundary c d m = (((s.dwellEnded c d m).dumpSet c (some v.filled)).endDump c stOK).nextExtract c := by
  have counted : v.counted (s.crate c).nextId 0 = v.filled := if_pos rfl
  have dump : (((s.dwellEnded c d m).dumpSet c (some v.filled)).crate c).dump = some v.filled := by
    rw [State.dumpSet, State.crate_modCrate_same]
  rw [State.dwellBoundary_of_no_raw hf hr, State.dumpBoundary_counts ((State.dump_dwellEnded hf).trans hv)
    (Option.isNone_eq_false_iff.2 hc) hs (by omega), hw, counted, State.dumpMarked_zero,
    State.finishDump_ends dump hs (Nat.le_of_eq hn.symm) hd]

end Sys2Proof.Machine
end

section
/-! PROOFS. The obligation `Obligations.DumpsAndCaptures` (spec/07 R256, R290 to R295, R425): each of its clauses from what the
acceptance, the boundary and the end of a dump or capture leave. -/

namespace Sys2Proof.Machine

variable {s : State} {c k : Nat} {x : Bool} {b : Buf} {d : Descr} {m : CloseMark} {v : Dump} {r : Raw} {ref : CmdRef} {e : Cmd}

/-! ## A channel that the dump has reached (R290, R292) -/

/-- The state after the dump of a channel: its record sent, its buffer cleared, one channel less due. -/
def State.channelDumped (s : State) (c k : Nat) (x : Bool) (v : Dump) (b : Buf) (d : Descr) (m : CloseMark) : State :=
  ((s.dumpSent c k x v b d m).freeBuf c k x).dumpLess c k b.dwellId

theorem evolves_freeBuf : Evolves [.bank, .chans] s (s.freeBuf c k x) := ev_freeBuf (by decide) (by decide) ev_refl

theorem State.buf_dumpSent : ((s.dumpSent c k x v b d m).chan c k).buf x = (s.chan c k).buf x := by
  rw [evolves_dumpSent.1.chan (by decide)]

theorem State.recs_channelDumped (h : s.host.recs.length < 1024) :
    (s.channelDumped c k x v b d m).host.recs = s.host.recs ++ [s.dumpRec c k x v b d m] := by
  rw [State.channelDumped, State.recs_dumpLess, evolves_freeBuf.1 .host (by decide), State.recs_dumpSent h]

theorem State.st_channelDumped : (((s.channelDumped c k x v b d m).chan c k).buf x).st = .free :=
  ((keepsIn_dumpLess (z := .free) (by decide)).bufs x State.st_freeBuf).1

/-- The bytes that belong to the buffer are cleared. -/
theorem State.bankByte_channelDumped {a : Nat} (h : ((s.chan c k).buf x).clears c k x c a = true) :
    (s.channelDumped c k x v b d m).bankByte c a = 0 := by
  refine State.bankByte_dumpLess_zero ?_
  rw [State.bankByte_freeBuf, State.buf_dumpSent, if_pos h]

theorem regs_channelDumped : OnlyRegs [CHU_DUMP_STAT c] s (s.channelDumped c k x v b d m) :=
  onlyRegs_trans (onlyRegs_trans regs_dumpSent (evolves_freeBuf.1.onlyRegs (by decide))) regs_dumpLess_dump.1

theorem State.dumped_channelDumped : (s.channelDumped c k x v b d m).rd (CHU_DUMP_STAT_dumped c)
    = min (s.rd (CHU_DUMP_STAT_dumped c) + 1) 65535 := by
  rw [State.channelDumped, regs_dumpLess_dump.2, evolves_freeBuf.1.rd (by decide), State.dumped_dumpSent]

/-- The last channel of the last dwell ends the dump with the channels dumped and the dwells that were full (R292). -/
theorem State.channelDumped_ends (h : (s.crate c).dump = some v) (hs : v.started = true) (hn : v.dwells ≤ v.seen)
    (hd : v.due = [(b.dwellId, BitVec.twoPow 16 k)]) (hr : v.cmd = some ref) (he : s.cmd? ref = some e) :
    ((s.channelDumped c k x v b d m).crate c).dump = none
      ∧ (s.channelDumped c k x v b d m).flag (CHU_DUMP_STAT_dump_active c) = false
      ∧ Completed s (s.channelDumped c k x v b d m) e stOK (BitVec.ofNat 64 (v.channels + 1)) (w32 (v.full + 1)) := by
  obtain ⟨cmds, cpls⟩ := State.commands_dumpSent (s := s) (c := c) (k := k) (x := x) (v := v) (b := b) (d := d) (m := m)
  have freed : OnlyChanges [.bank, .chans] _ ((s.dumpSent c k x v b d m).freeBuf c k x) := evolves_freeBuf.1
  have host := freed .host (by decide)
  have epoch : (s.dumpSent c k x v b d m).reg GLB_EPOCH = s.reg GLB_EPOCH :=
    regs_dumpSent _ (by simpa using CHU_DUMP_STAT_ne_GLB_EPOCH.symm)
  have dump : (((s.dumpSent c k x v b d m).freeBuf c k x).crate c).dump = some { v with channels := v.channels + 1 } := by
    rw [freed.crate (by decide), State.crate_dumpSent h]
  obtain ⟨left, flag, done⟩ := State.dumpLess_ends (v := { v with channels := v.channels + 1 }) dump hs hn hd
  refine ⟨left, flag, (done ref e hr ?_).after ?_ ?_ ((freed.reg (by decide) _).trans epoch)⟩
  · rw [State.cmd?, host, cmds]
    exact he
  · rw [host, cmds]
  · rw [host, cpls]

/-- A dump that waits for one channel alone has reached it. -/
theorem Dump.reaches_last {id : Nat} (hk : k < 16) (hd : v.due = [(id, BitVec.twoPow 16 k)]) : v.reaches id k = true := by
  have first : (List.range k).all (fun j => !(BitVec.twoPow 16 k).getLsbD j) = true :=
    List.all_eq_true.2 (fun j hj => by
      have lt := List.mem_range.1 hj
      rw [BitVec.getLsbD_twoPow, decide_eq_false (p := k = j) (by omega), Bool.and_false, Bool.not_false])
  rw [Dump.reaches, hd, List.head?_cons, Option.any_some, first, BitVec.getLsbD_twoPow]
  simp [hk]

/-! ## A drained capture (R294, R295, R425) -/

/-- The state after a capture has drained. -/
def State.rawDrained (s : State) (c : Nat) (r : Raw) : State :=
  (s.rawLeft c r).completeOpt r.cmd (r.stopWith.getD stOK) (BitVec.ofNat 64 r.written) (w32 r.beyond)

theorem evolves_rawDrained : Evolves [.host] (s.rawLeft c r) (s.rawDrained c r) := ev_completeOpt (by decide) ev_refl

/-- A completion pushes no record. -/
theorem State.records_rawDrained : (s.rawDrained c r).host.recs = (s.unitsSent c r).host.recs
    ∧ (s.rawDrained c r).host.allRecs = (s.unitsSent c r).host.allRecs := by
  have left := State.host_rawLeft (s := s) (c := c) (r := r)
  have ended : (s.rawDrained c r).host.recs = (s.rawLeft c r).host.recs
      ∧ (s.rawDrained c r).host.allRecs = (s.rawLeft c r).host.allRecs := by
    unfold State.rawDrained State.completeOpt State.complete
    split
    · exact ⟨rfl, rfl⟩
    · split <;> exact ⟨rfl, rfl⟩
  rwa [left] at ended

theorem completed_rawDrained (hr : r.cmd = some ref) (he : s.cmd? ref = some e) : Completed s (s.rawDrained c r) e
    (r.stopWith.getD stOK) (BitVec.ofNat 64 r.written) (w32 r.beyond) := by
  obtain ⟨cmds, cpls⟩ := State.commands_unitsSent (s := s) (c := c) (r := r)
  have host := State.host_rawLeft (s := s) (c := c) (r := r)
  have found : (s.rawLeft c r).cmd? ref = some e := by
    rw [State.cmd?, host, cmds]
    exact he
  exact (completed_completeOpt hr found).after (by rw [host, cmds]) (by rw [host, cpls])
    (regs_rawLeft _ (by simpa using CHU_DUMP_STAT_ne_GLB_EPOCH.symm))

/-- Settles O34: the commands by what they open, a channel of a dump and a drained capture by what they send and clear, a boundary by
its equation for the dump and the capture it finds. -/
theorem dumpsAndCaptures : Obligations.DumpsAndCaptures := by
  unfold Obligations.DumpsAndCaptures
  refine ⟨?dumpRefused, ?dumpAccepted, ?rawRefused, ?rawAccepted, ?dumped, ?captured, ?drained, ?starts, ?counts, ?ends, ?last⟩
  case dumpRefused =>
    intro ref m c st s hf hw hc hst
    exact ⟨_, exec_histDump_refused hf hw hc hst, completed_fail hw (by decide), evolves_fail.1⟩
  case dumpAccepted =>
    intro ref m c s hf hw hc hst
    have shown : Evolves [.regs] ((s.openCmd ref).dumpSet c (some (m.asDump ref))) (((s.openCmd ref).dumpSet c
        (some (m.asDump ref))).putB (CHU_DUMP_STAT_dump_active c) true) := ev_putB (by decide) ev_refl
    have others : OnlyCrates [c] s ((s.openCmd ref).dumpSet c (some (m.asDump ref))) := onlyCrates_modCrate
    refine ⟨_, exec_histDump_accepted hf hw hc hst, State.flag_putB_same (by simp [FRef.fits, CHU_DUMP_STAT_dump_active]) rfl,
      ?_, others.trans (shown.1.onlyCrates (by decide)), regs_putB (List.mem_singleton.2 rfl) onlyRegs_refl, rfl⟩
    rw [shown.1.crate (by decide), State.dumpSet, State.crate_modCrate_same]
    rfl
  case rawRefused =>
    intro ref m c st s hf hw hc hst
    exact ⟨_, exec_rawCapture_refused hf hw hc hst, completed_fail hw (by decide), evolves_fail.1⟩
  case rawAccepted =>
    intro ref m c s hf hw hc hst
    refine ⟨_, exec_rawCapture_accepted hf hw hc hst, ?_, onlyCrates_modCrate, onlyRegs_refl, rfl⟩
    rw [State.crate_modCrate_same]
    rfl
  case dumped =>
    intro c k x u b d m s hlive hx hv hb hd hm hcorrupt hreach hroom
    refine ⟨s.channelDumped c k x u b d m, exec_dumpChannel hlive hx hv hb hd hm hcorrupt hreach, State.recs_channelDumped hroom,
      State.st_channelDumped, fun a ha => ?_, fun n a hn hp ha => ?_, State.dumped_channelDumped, regs_channelDumped⟩
    · exact State.bankByte_channelDumped (Buf.clears_coarse k.isLt ha)
    · subst hb
      exact State.bankByte_channelDumped (Buf.clears_fine k.isLt hn ha hp)
  case captured =>
    intro c m q d r s hlive hf hc hr hcmd hstage hn
    obtain ⟨raw, low, high⟩ := State.rawBoundary_capturing (d := d) (fired := m.fired)
      ((State.raw_dumpBoundary (d := d) (m := m) hf).trans hr) hcmd hstage hn
    refine ⟨_, exec_churnDwellBoundary hlive hf hc, ?_, ?_, ?_⟩
    · rw [State.dwellBoundary_eq, evolves_nextExtract.1.crate (by decide), raw]
      rfl
    · rw [State.dwellBoundary_eq, evolves_nextExtract.1.bankWord (by decide), low]
    · rw [State.dwellBoundary_eq, evolves_nextExtract.1.bankWord (by decide), high]
  case drained =>
    intro c r s hlive hr hs hn
    obtain ⟨recs, allRecs⟩ := State.records_rawDrained (s := s) (c := c) (r := r)
    have bytes : ∀ g a, (s.rawDrained c r).bankByte g a = (s.rawLeft c r).bankByte g a := fun g a =>
      evolves_rawDrained.1.bankByte (by decide) g a
    refine ⟨s.rawDrained c r, exec_rawDrain hlive hr hs, fun hw => ?_, fun hroom => ?_, ?_, fun n i hlt hi => ?_, fun g a hg => ?_,
      fun k x a hk ha => ?_, fun ref m hcmd he => completed_rawDrained hcmd he,
      onlyCrates_rawLeft.trans (evolves_rawDrained.1.onlyCrates (by decide)),
      onlyRegs_trans regs_rawLeft (evolves_rawDrained.1.onlyRegs (by decide))⟩
    · rw [allRecs]
      exact State.allRecs_pushRecs (g := r.unitRec) (fun _ => hw)
    · rw [recs]
      exact State.recs_pushRecs (g := r.unitRec) hroom
    · rw [evolves_rawDrained.1.crate (by decide), State.crate_rawLeft]
    · have covered : (List.range r.count).any (fun j => bankCovers c (rawAt j) 8 c (rawAt n + i)) = true :=
        List.any_eq_true.2 ⟨n, List.mem_range.2 hlt, rawAt_covers (Nat.lt_of_lt_of_le hlt hn) hi⟩
      rw [bytes, State.bankByte_rawLeft, if_pos covered]
    · rw [bytes, State.bankByte_rawLeft_apart (fun n hlt => rawAt_bank_apart (Nat.lt_of_lt_of_le hlt hn) hg)]
    · rw [bytes, State.bankByte_rawLeft_apart (fun n _ => rawAt_coarse_apart hk ha)]
  case starts =>
    intro c m q d u s hlive hf hc hv hcmd hs hr
    obtain ⟨dump, kept⟩ := State.dwellBoundary_starts (d := d) (m := m) hf hv hcmd hs hr
    exact ⟨_, exec_churnDwellBoundary hlive hf hc, dump, kept.cpls, State.flag_congr (kept.shown c)⟩
  case counts =>
    intro c m q d u w s hlive hf hc hv hcmd hs hn hw hw0 hr
    have counted := State.dwellBoundary_counts (m := m) hf hv hcmd hs hn (State.usedMask_and_eq hw) hw0 hr
    refine ⟨_, exec_churnDwellBoundary hlive hf hc, ?_, fun k hk hset => ?_, ?_⟩
    · rw [counted, evolves_nextExtract.1.crate (by decide), evolves_dumpMarked.1.crate (by decide), State.dumpSet,
        State.crate_modCrate_same]
      rfl
    · have acc : s.accumulates c k d = true := by
        have both := hw k hk
        rw [hset] at both
        exact (Bool.and_eq_true_iff.1 both.symm).1
      rw [counted]
      exact State.dumpDue_dwellBoundary hk acc hset
    · rw [counted, evolves_nextExtract.1 .host (by decide), evolves_dumpMarked.1 .host (by decide)]
      exact keepsCmds_dwellEnded.cpls
  case ends =>
    intro c m q d u ref e s hlive hf hc hv hcmd he hs hn hdue hnone hr
    have empty : s.usedMask c d &&& u.mask = 0 := State.usedMask_and_eq (fun k hk => by
      cases ha : s.accumulates c k d
      · simp
      · simp [hnone k hk ha])
    have ended := State.dwellBoundary_ends (m := m) hf hv (by simp [hcmd]) hs hn hdue empty hr
    have dump : (((s.dwellEnded c d m).dumpSet c (some u.filled)).crate c).dump = some u.filled := by
      rw [State.dumpSet, State.crate_modCrate_same]
    obtain ⟨left, flag, done⟩ := State.endDump_spec (st := stOK) dump
    have kept : KeepsCmds s ((s.dwellEnded c d m).dumpSet c (some u.filled)) := keepsCmds_dwellEnded.trans keepsCmds_dumpSet
    refine ⟨_, exec_churnDwellBoundary hlive hf hc, ?_, ?_, ?_⟩
    · rw [ended, evolves_nextExtract.1.crate (by decide), left]
    · rw [ended, evolves_nextExtract.1.flag (by decide), flag]
    · rw [ended]
      exact ((done ref e hcmd (kept.cmd?.trans he)).after kept.cmds kept.cpls kept.epoch).before evolves_nextExtract.1
        (by decide)
  case last =>
    intro c k x u b d m ref e s hlive hx hv hb hd hm hcorrupt hroom hs hn hdue hcmd he
    obtain ⟨left, flag, done⟩ := State.channelDumped_ends (x := x) (d := d) (m := m) hv hs hn hdue hcmd he
    exact ⟨s.channelDumped c k x u b d m, exec_dumpChannel hlive hx hv hb hd hm hcorrupt (Dump.reaches_last k.isLt hdue), left,
      flag, done, State.recs_channelDumped hroom⟩

end Sys2Proof.Machine
end

section
/-! PROOFS. The obligation `Obligations.StepKeepsInvariant` (spec/09 R402, spec/13 R570): what each command may change, once for all
commands, and a step by its two cases. -/

namespace Sys2Proof.Machine

variable {s t : State}

/-- A command changes at most its footprint, and keeps the invariant: the law of each command, in the table's order. -/
theorem evolves_exec {c : Instr} (hx : exec c s = .next t) : Evolves (footprint c) s t := by
  have mem {p : Part} {l : List Part} : l.elem p = true → p ∈ l := List.mem_of_elem_eq_true
  cases c with
  | powerOn => apply ev_execPowerOn (hx := hx) <;> exact mem rfl
  | resetNAssert => apply ev_execResetNAssert (hx := hx) <;> exact mem rfl
  | resetNRelease => apply ev_execResetNRelease (hx := hx) <;> exact mem rfl
  | fabricPllLock => apply ev_execFabricPllLock (hx := hx) <;> exact mem rfl
  | registerFabricReady => apply ev_execRegisterFabricReady (hx := hx) <;> exact mem rfl
  | safetyBlockReady => apply ev_execSafetyBlockReady (hx := hx) <;> exact mem rfl
  | churnReady => apply ev_execChurnReady (hx := hx) <;> exact mem rfl
  | housekeepingReady => apply ev_execHousekeepingReady (hx := hx) <;> exact mem rfl
  | refclkGateEnd => apply ev_execRefclkGateEnd (hx := hx) <;> exact mem rfl
  | refclkLost => apply ev_execRefclkLost (hx := hx) <;> exact mem rfl
  | earlyDwellClose => apply ev_execEarlyDwellClose (hx := hx) <;> exact mem rfl
  | timingPllLock => apply ev_execTimingPllLock (hx := hx) <;> exact mem rfl
  | xtalLost => apply ev_execXtalLost (hx := hx) <;> exact mem rfl
  | deviceTimeSync => exact ev_execDeviceTimeSync (mem rfl) hx
  | cratePowerRequest => apply ev_execCratePowerRequest (hx := hx) <;> exact mem rfl
  | cratePowerUpStart => apply ev_execCratePowerUpStart (hx := hx) <;> exact mem rfl
  | crateStartingDone => apply ev_execCrateStartingDone (hx := hx) <;> exact mem rfl
  | crateStoppingDone => apply ev_execCrateStoppingDone (hx := hx) <;> exact mem rfl
  | tapReset => exact ev_execTapReset (mem rfl) hx
  | jtagExtest => exact ev_execJtagExtest (mem rfl) hx
  | jtagSamplePreload => exact ev_execJtagSamplePreload (mem rfl) hx
  | jtagIdcode => exact ev_execJtagIdcode (mem rfl) hx
  | jtagBypass => exact ev_execJtagBypass (mem rfl) hx
  | feModeWrite => apply ev_execFeModeWrite (hx := hx) <;> exact mem rfl
  | crateSettleEnd => exact ev_execCrateSettleEnd (mem rfl) hx
  | channelSettleEnd => exact ev_execChannelSettleEnd (mem rfl) hx
  | preWindowOpen => apply ev_execPreWindowOpen (hx := hx) <;> exact mem rfl
  | startEdge => apply ev_execStartEdge (hx := hx) <;> exact mem rfl
  | startTimeout => apply ev_execStartTimeout (hx := hx) <;> exact mem rfl
  | blankingEnd => apply ev_execBlankingEnd (hx := hx) <;> exact mem rfl
  | discriminatorCrossing => apply ev_execDiscriminatorCrossing (hx := hx) <;> exact mem rfl
  | rangeSelect => exact ev_execRangeSelect (mem rfl) hx
  | chargeGateEnd => exact ev_execChargeGateEnd (mem rfl) hx
  | chargeConversionDone => apply ev_execChargeConversionDone (hx := hx) <;> exact mem rfl
  | chargePathReady => apply ev_execChargePathReady (hx := hx) <;> exact mem rfl
  | mainWindowClose => apply ev_execMainWindowClose (hx := hx) <;> exact mem rfl
  | dwellClose => apply ev_execDwellClose (hx := hx) <;> exact mem rfl
  | chargeCalDue => exact ev_execChargeCalDue (mem rfl) hx
  | chargeCalDone => apply ev_execChargeCalDone (hx := hx) <;> exact mem rfl
  | cdBatchEnd => apply ev_execCdBatchEnd (hx := hx) <;> exact mem rfl
  | tieBreakEnd => apply ev_execTieBreakEnd (hx := hx) <;> exact mem rfl
  | ambientFrameEnd => apply ev_execAmbientFrameEnd (hx := hx) <;> exact mem rfl
  | skimmerFrameProcess => apply ev_execSkimmerFrameProcess (hx := hx) <;> exact mem rfl
  | toneStart => apply ev_execToneStart (hx := hx) <;> exact mem rfl
  | toneCheckEnd => apply ev_execToneCheckEnd (hx := hx) <;> exact mem rfl
  | loadShotTable => apply ev_execLoadShotTable (hx := hx) <;> exact mem rfl
  | start => apply ev_execStart (hx := hx) <;> exact mem rfl
  | stop => apply ev_execStop (hx := hx) <;> exact mem rfl
  | angleTrigger => apply ev_execAngleTrigger (hx := hx) <;> exact mem rfl
  | delayTrigger => apply ev_execDelayTrigger (hx := hx) <;> exact mem rfl
  | shotCommit => apply ev_execShotCommit (hx := hx) <;> exact mem rfl
  | emitterFire => apply ev_execEmitterFire (hx := hx) <;> exact mem rfl
  | creditRefill => apply ev_execCreditRefill (hx := hx) <;> exact mem rfl
  | chargeCycleStart => exact ev_execChargeCycleStart (mem rfl) hx
  | currentLimitTrip => exact ev_execCurrentLimitTrip (mem rfl) hx
  | cycleEndSwitchOff => exact ev_execCycleEndSwitchOff (mem rfl) hx
  | chargeDone => apply ev_execChargeDone (hx := hx) <;> exact mem rfl
  | topUp => apply ev_execTopUp (hx := hx) <;> exact mem rfl
  | restEnd => apply ev_execRestEnd (hx := hx) <;> exact mem rfl
  | comparatorSettleEnd => apply ev_execComparatorSettleEnd (hx := hx) <;> exact mem rfl
  | comparatorSelfTest => apply ev_execComparatorSelfTest (hx := hx) <;> exact mem rfl
  | chargeTimeout => apply ev_execChargeTimeout (hx := hx) <;> exact mem rfl
  | windowMonitorChange => apply ev_execWindowMonitorChange (hx := hx) <;> exact mem rfl
  | dacReadbackDue => apply ev_execDacReadbackDue (hx := hx) <;> exact mem rfl
  | dacReadbackDone => apply ev_execDacReadbackDone (hx := hx) <;> exact mem rfl
  | accountantBinRoll => apply ev_execAccountantBinRoll (hx := hx) <;> exact mem rfl
  | laserPermitChange => apply ev_execLaserPermitChange (hx := hx) <;> exact mem rfl
  | eyeLockKey => apply ev_execEyeLockKey (hx := hx) <;> exact mem rfl
  | eyeLockKeyTimeout => exact ev_execEyeLockKeyTimeout (mem rfl) hx
  | eyeLockBurnDone => apply ev_execEyeLockBurnDone (hx := hx) <;> exact mem rfl
  | hallCodeChange => apply ev_execHallCodeChange (hx := hx) <;> exact mem rfl
  | indexEdge => apply ev_execIndexEdge (hx := hx) <;> exact mem rfl
  | frameSyncEdge => apply ev_execFrameSyncEdge (hx := hx) <;> exact mem rfl
  | indexMissing => apply ev_execIndexMissing (hx := hx) <;> exact mem rfl
  | standstillTimeout => apply ev_execStandstillTimeout (hx := hx) <;> exact mem rfl
  | roundBoundary => apply ev_execRoundBoundary (hx := hx) <;> exact mem rfl
  | sweepBoundary => apply ev_execSweepBoundary (hx := hx) <;> exact mem rfl
  | serrPwmPeriod => exact ev_execSerrPwmPeriod (mem rfl) hx
  | motCfgWrite => apply ev_execMotCfgWrite (hx := hx) <;> exact mem rfl
  | motStatusRead => exact ev_execMotStatusRead (mem rfl) hx
  | descriptorRead => apply ev_execDescriptorRead (hx := hx) <;> exact mem rfl
  | eventAccumulate => apply ev_execEventAccumulate (hx := hx) <;> exact mem rfl
  | windowCloseRead => apply ev_execWindowCloseRead (hx := hx) <;> exact mem rfl
  | churnDwellBoundary => apply ev_execChurnDwellBoundary (hx := hx) <;> exact mem rfl
  | channelExtractionDone => apply ev_execChannelExtractionDone (hx := hx) <;> exact mem rfl
  | scrub => apply ev_execScrub (hx := hx) <;> exact mem rfl
  | histDump => apply ev_execHistDump (hx := hx) <;> exact mem rfl
  | dumpChannel => apply ev_execDumpChannel (hx := hx) <;> exact mem rfl
  | rawCapture => apply ev_execRawCapture (hx := hx) <;> exact mem rfl
  | rawDrain => apply ev_execRawDrain (hx := hx) <;> exact mem rfl
  | diagWindowRead => apply ev_execDiagWindowRead (hx := hx) <;> exact mem rfl
  | glbDiagPageWrite => exact ev_execGlbDiagPageWrite (mem rfl) hx
  | hostLinkUp => apply ev_execHostLinkUp (hx := hx) <;> exact mem rfl
  | perstN => apply ev_execPerstN (hx := hx) <;> exact mem rfl
  | functionLevelReset => apply ev_execFunctionLevelReset (hx := hx) <;> exact mem rfl
  | doorbellEnable => apply ev_execDoorbellEnable (hx := hx) <;> exact mem rfl
  | doorbellDisable => apply ev_execDoorbellDisable (hx := hx) <;> exact mem rfl
  | doorbellReload => apply ev_execDoorbellReload (hx := hx) <;> exact mem rfl
  | doorbellArm => apply ev_execDoorbellArm (hx := hx) <;> exact mem rfl
  | doorbellIndex => apply ev_execDoorbellIndex (hx := hx) <;> exact mem rfl
  | bar2BadWrite => exact ev_execBar2BadWrite (mem rfl) hx
  | contextFetchDone => apply ev_execContextFetchDone (hx := hx) <;> exact mem rfl
  | ringDrainDone => apply ev_execRingDrainDone (hx := hx) <;> exact mem rfl
  | recordWrite => apply ev_execRecordWrite (hx := hx) <;> exact mem rfl
  | ringLoss => apply ev_execRingLoss (hx := hx) <;> exact mem rfl
  | writeBack => apply ev_execWriteBack (hx := hx) <;> exact mem rfl
  | interruptSend => apply ev_execInterruptSend (hx := hx) <;> exact mem rfl
  | descriptorFetch => apply ev_execDescriptorFetch (hx := hx) <;> exact mem rfl
  | completionWrite => apply ev_execCompletionWrite (hx := hx) <;> exact mem rfl
  | hostReadCompletion => apply ev_execHostReadCompletion (hx := hx) <;> exact mem rfl
  | completionTimeout => apply ev_execCompletionTimeout (hx := hx) <;> exact mem rfl
  | nop => exact ev_execNop (mem rfl) hx
  | fence => apply ev_execFence (hx := hx) <;> exact mem rfl
  | cfgTxn => apply ev_execCfgTxn (hx := hx) <;> exact mem rfl
  | snapshot => exact ev_execSnapshot (mem rfl) hx
  | hkConvert => apply ev_execHkConvert (hx := hx) <;> exact mem rfl
  | spiWriteFrame => apply ev_execSpiWriteFrame (hx := hx) <;> exact mem rfl
  | spiReadFrame => apply ev_execSpiReadFrame (hx := hx) <;> exact mem rfl
  | spiFrameAbort => apply ev_execSpiFrameAbort (hx := hx) <;> exact mem rfl
  | spiTxnGo => apply ev_execSpiTxnGo (hx := hx) <;> exact mem rfl
  | eventQueueRead => apply ev_execEventQueueRead (hx := hx) <;> exact mem rfl
  | registerWrite => apply ev_execRegisterWrite (hx := hx) <;> exact mem rfl
  | loRegisterRead => apply ev_execLoRegisterRead (hx := hx) <;> exact mem rfl
  | rcFieldRead => apply ev_execRcFieldRead (hx := hx) <;> exact mem rfl
  | applyInstant => apply ev_execApplyInstant (hx := hx) <;> exact mem rfl
  | snapshotStrobe => exact ev_execSnapshotStrobe (mem rfl) hx
  | hkConversionEnd => apply ev_execHkConversionEnd (hx := hx) <;> exact mem rfl
  | hkLeadEnd => apply ev_execHkLeadEnd (hx := hx) <;> exact mem rfl
  | hkToneCheckEnd => apply ev_execHkToneCheckEnd (hx := hx) <;> exact mem rfl
  | itempConversionEnd => apply ev_execItempConversionEnd (hx := hx) <;> exact mem rfl
  | hkCnowGo => apply ev_execHkCnowGo (hx := hx) <;> exact mem rfl
  | hkRestart => apply ev_execHkRestart (hx := hx) <;> exact mem rfl
  | hkSyncEdge => apply ev_execHkSyncEdge (hx := hx) <;> exact mem rfl
  | hkReset => apply ev_execHkReset (hx := hx) <;> exact mem rfl
  | hkResetDone => apply ev_execHkResetDone (hx := hx) <;> exact mem rfl
  | hkResultRead => exact ev_execHkResultRead (mem rfl) hx
  | safetySample => apply ev_execSafetySample (hx := hx) <;> exact mem rfl
  | testPulse => apply ev_execTestPulse (hx := hx) <;> exact mem rfl
  | safetyTick => apply ev_execSafetyTick (hx := hx) <;> exact mem rfl
  | pairStartupDone => exact ev_execPairStartupDone (mem rfl) hx
  | discrepancyTimeout => apply ev_execDiscrepancyTimeout (hx := hx) <;> exact mem rfl
  | curtainIgnoreEnd => exact ev_execCurtainIgnoreEnd (mem rfl) hx
  | curtainPulseTimeout => exact ev_execCurtainPulseTimeout (mem rfl) hx
  | srstRelease => exact ev_execSrstRelease (mem rfl) hx
  | outputReadbackTimeout => apply ev_execOutputReadbackTimeout (hx := hx) <;> exact mem rfl
  | offPulseStart => apply ev_execOffPulseStart (hx := hx) <;> exact mem rfl
  | offPulseEnd => apply ev_execOffPulseEnd (hx := hx) <;> exact mem rfl
  | lenReadbackTimeout => apply ev_execLenReadbackTimeout (hx := hx) <;> exact mem rfl
  | lenProof => apply ev_execLenProof (hx := hx) <;> exact mem rfl
  | estopGateOpen => apply ev_execEstopGateOpen (hx := hx) <;> exact mem rfl
  | zoneSummaryClose => exact ev_execZoneSummaryClose (mem rfl) hx
  | zoneSummaryArrival => apply ev_execZoneSummaryArrival (hx := hx) <;> exact mem rfl
  | sweepTimeout => apply ev_execSweepTimeout (hx := hx) <;> exact mem rfl
  | safetyDiagnostic => apply ev_execSafetyDiagnostic (hx := hx) <;> exact mem rfl
  | safUnlockKey => apply ev_execSafUnlockKey (hx := hx) <;> exact mem rfl
  | safUnlockKeyTimeout => exact ev_execSafUnlockKeyTimeout (mem rfl) hx
  | safUnlockAbort => apply ev_execSafUnlockAbort (hx := hx) <;> exact mem rfl
  | configTimeout => apply ev_execConfigTimeout (hx := hx) <;> exact mem rfl
  | safCommit => apply ev_execSafCommit (hx := hx) <;> exact mem rfl
  | safOtpKey => apply ev_execSafOtpKey (hx := hx) <;> exact mem rfl
  | safOtpKeyTimeout => exact ev_execSafOtpKeyTimeout (mem rfl) hx
  | safOtpBurnDone => apply ev_execSafOtpBurnDone (hx := hx) <;> exact mem rfl
  | safPairReset => apply ev_execSafPairReset (hx := hx) <;> exact mem rfl
  | clrOut => apply ev_execClrOut (hx := hx) <;> exact mem rfl
  | clrZone => apply ev_execClrZone (hx := hx) <;> exact mem rfl
  | clrLen => apply ev_execClrLen (hx := hx) <;> exact mem rfl
  | safetyReport => apply ev_execSafetyReport (hx := hx) <;> exact mem rfl
  | strike => apply ev_execStrike (hx := hx) <;> exact mem rfl
  | fltLogClear => apply ev_execFltLogClear (hx := hx) <;> exact mem rfl
  | fltLogSelect => exact ev_execFltLogSelect (mem rfl) hx
  | fltLogRead => exact ev_execFltLogRead (mem rfl) hx
  | discriminatorFall => exact ev_execDiscriminatorFall (mem rfl) hx
  | linkDown => apply ev_execLinkDown (hx := hx) <;> exact mem rfl
  | configSpaceWrite => apply ev_execConfigSpaceWrite (hx := hx) <;> exact mem rfl
  | msixTableWrite => exact ev_execMsixTableWrite (mem rfl) hx
  | estopGateClose => apply ev_execEstopGateClose (hx := hx) <;> exact mem rfl
  | supplyFall => apply ev_execSupplyFall (hx := hx) <;> exact mem rfl

/-- A tick of 10 ns changes the clocks and the motor interface, and keeps the invariant. -/
theorem evolves_idleTick : Evolves [.regs, .clk, .motor, .host] s s.idleTick :=
  ev_idleTick (by decide) (by decide) (by decide) (by decide) ev_refl

/-- Settles O60: a step is a command with the queue's rest, or a tick. -/
theorem stepKeepsInvariant : Obligations.StepKeepsInvariant := by
  unfold Obligations.StepKeepsInvariant
  intro s t hwf hx
  unfold step at hx
  split at hx
  case h_1 =>
    obtain rfl := Host.Outcome.next.inj hx
    exact evolves_idleTick.2 hwf
  case h_2 c rest _ =>
    have queued : ({ s with pending := rest } : State).wf = true := hwf
    exact (evolves_exec hx).2 queued

end Sys2Proof.Machine
end

section
/-! PROOFS. The obligation `Obligations.TestAccessPort` (spec/09 R403, spec/14 R596, R597, spec/16 R631). -/

namespace Sys2Proof.Machine

variable {s : State} {b : Ball} {x : Int}

theorem State.powered_of_phase (h : s.clk.phase ≠ .unpowered) : s.powered = true := decide_eq_true h

/-- A powered port does what its instruction says. -/
theorem State.doIf_powered {f : State → State} (h : s.clk.phase ≠ .unpowered) : doIf s.powered f s = f s := by
  rw [State.powered_of_phase h, doIf_true]

theorem onlyChanges_modTap {f : Tap → Tap} : OnlyChanges [.tap] s (s.modTap f) := (ev_modTap (by decide) ev_refl).1

theorem onlyChanges_scanned {f : Tap → Tap} {y : BoundaryScan} : OnlyChanges [.tap] s ((s.modTap f).scanCells y) :=
  (ev_modTap (by decide) (ev_modTap (by decide) ev_refl)).1

/-! ## The cells -/

/-- What a cell captures of its ball: its level, or the board's where the device does not drive it (R631). -/
def Level.seen (l : Option Level) (board : Bool) : Bool :=
  match l with
  | some .high => true
  | some .low => false
  | some .floating | none => board

theorem State.captured_getD {pins : List Bool} {i : Nat} (hi : i < boundaryBalls.length) :
    (s.captured pins).getD i false = Level.seen (s.ballLevel boundaryBalls[i] s.nowLsb) (pins.getD i false) := by
  rw [State.captured, List.getD_eq_getElem _ _ (by simpa using hi)]
  simp only [List.getElem_map, List.getElem_zipIdx, Nat.zero_add]
  rfl

theorem Level.seen_levelOf {c board : Bool} : Level.seen (some (levelOf c)) board = c := by cases c <;> rfl

theorem boundaryBalls_nodup : boundaryBalls.Nodup := by decide +kernel

/-! ## Under EXTEST (R631) -/

theorem State.ballLevel_observesOnly (hir : s.tap.ir = 0b0000) (h : b.observesOnly = true) : s.ballLevel b x = b.resetLevel := by
  simp [State.ballLevel, hir, h]

theorem State.ballLevel_input (hir : s.tap.ir = 0b0000) (h : b.resetLevel = none) : s.ballLevel b x = none := by
  simp [State.ballLevel, hir, h]

theorem State.ballLevel_driven (hir : s.tap.ir = 0b0000) (h : b.observesOnly = false) (hr : b.resetLevel ≠ none)
    (hn : b ≠ .irqN) : s.ballLevel b x = some (levelOf (s.tap.driven.getD (boundaryBalls.idxOf b) false)) := by
  obtain ⟨l, hl⟩ := Option.ne_none_iff_exists'.1 hr
  simp [State.ballLevel, hir, h, hl, Ball.cellLevel, hn]

theorem State.ballLevel_irqN (hir : s.tap.ir = 0b0000) : s.ballLevel .irqN x
    = some (if s.tap.driven.getD (boundaryBalls.idxOf .irqN) false then .floating else .low) := by
  simp [State.ballLevel, hir, Ball.observesOnly, Ball.resetLevel, Ball.cellLevel]

/-- EXTEST selected: the cells drive the balls. -/
def State.extest (s : State) : State := s.modTap (fun x => { x with ir := 0b0000 })

theorem State.extest_captures_driven {pins : List Bool} {i : Nat} (hi : i < boundaryBalls.length)
    (h : boundaryBalls[i].observesOnly = false) (hr : boundaryBalls[i].resetLevel ≠ none) (hn : boundaryBalls[i] ≠ .irqN) :
    (s.extest.captured pins).getD i false = s.tap.driven.getD i false := by
  rw [State.captured_getD hi, State.ballLevel_driven rfl h hr hn, boundaryBalls_nodup.idxOf_getElem, Level.seen_levelOf]
  rfl

theorem State.extest_captures_input {pins : List Bool} {i : Nat} (hi : i < boundaryBalls.length)
    (hr : boundaryBalls[i].resetLevel = none) : (s.extest.captured pins).getD i false = pins.getD i false := by
  rw [State.captured_getD hi, State.ballLevel_input rfl hr]
  rfl

/-! ## The instructions -/

theorem exec_jtagExtest (h : s.powered = true) {scan : Option BoundaryScan} :
    exec (.jtagExtest scan) s = .next (scan.elim s.extest s.extest.scanCells) := by
  cases scan <;> simp [exec, execJtagExtest, h, State.extest]

/-- SAMPLE/PRELOAD selected: the device drives the balls. -/
def State.sampling (s : State) : State := s.modTap (fun x => { x with ir := 0b0001 })

theorem exec_jtagSamplePreload (h : s.powered = true) {pins pre : List Bool} :
    exec (.jtagSamplePreload pins pre) s = .next (s.sampling.scanCells ⟨pins, pre⟩) := by
  simp [exec, execJtagSamplePreload, h, State.sampling]

theorem State.ballLevel_sampling : s.sampling.ballLevel b x = if s.running then s.runLevel b x else b.resetLevel := by
  have runs : s.sampling.runLevel b x = s.runLevel b x := by cases b <;> rfl
  simp [State.ballLevel, ← runs, State.sampling]

/-- Settles O7: each instruction by what it writes into the port, a scan by what each kind of ball shows. -/
theorem testAccessPort : Obligations.TestAccessPort := by
  unfold Obligations.TestAccessPort
  refine ⟨?reset, ?extest, ?sample, ?idcode, ?bypass⟩
  case reset =>
    intro s h
    exact ⟨_, congrArg Host.Outcome.next (State.doIf_powered h), rfl, onlyChanges_modTap⟩
  case extest =>
    intro scan s h
    have selected : (scan.elim s.extest s.extest.scanCells).tap.ir = 0b0000 := by cases scan <;> rfl
    refine ⟨_, exec_jtagExtest (State.powered_of_phase h), selected, by cases scan <;> rfl, by cases scan <;> rfl, ?_,
      fun hn => by subst hn; rfl, fun x hx => ?_, fun b x hb => State.ballLevel_observesOnly selected hb,
      fun b x hb hr hn => State.ballLevel_driven selected hb hr hn, fun x => State.ballLevel_irqN selected⟩
    · cases scan
      · exact (onlyChanges_modTap : OnlyChanges [.tap] s s.extest)
      · exact onlyChanges_scanned
    · subst hx
      exact ⟨rfl, fun i hi ho hn hr => State.extest_captures_driven hi ho hr hn, fun i hi hr => State.extest_captures_input hi hr⟩
  case sample =>
    intro pins pre s h
    refine ⟨_, exec_jtagSamplePreload (State.powered_of_phase h), rfl, onlyChanges_scanned,
      fun hrun i hi => ?_, fun hrun i hi => ?_⟩
    · refine (State.captured_getD hi).trans ?_
      rw [State.ballLevel_sampling, hrun]
      rfl
    · refine (State.captured_getD hi).trans ?_
      rw [State.ballLevel_sampling, hrun]
      rfl
  case idcode =>
    intro s h
    exact ⟨_, congrArg Host.Outcome.next (State.doIf_powered h), rfl, onlyChanges_modTap⟩
  case bypass =>
    intro s h
    exact ⟨_, congrArg Host.Outcome.next (State.doIf_powered h), rfl, onlyChanges_modTap⟩

end Sys2Proof.Machine
end

section
/-! PROOFS. The obligation `Obligations.SpiFrames` (spec/09 R396 to R399): a frame by its command byte, its length, its CRC and its
address. -/

namespace Sys2Proof.Machine

variable {s : State} {q : Src} {a : Nat} {ecc : Ecc} {bs : List Byte} {x : FabricAnswer}

/-! ## A read leaves the port's settings (R411, R606) -/

theorem regs_eccRead {c k : Nat} {y : Bool} : OnlyRegs [CHU_ECC c] s (s.eccRead c k y ecc) := by
  cases ecc with
  | clean => exact onlyRegs_refl
  | corrected => exact regs_bump (List.mem_singleton.2 rfl) onlyRegs_refl
  | uncorrectable word =>
    rw [State.eccRead_uncorrectable]
    exact regs_modChan (regs_detect regs_errorNoted)

theorem State.reg_diagRead {b : Nat} (h : b < 0x10000) : (s.diagRead q a ecc).reg b = s.reg b := by
  have apart {c : Nat} : b ∉ [CHU_ECC c] := by
    rw [List.mem_singleton, CHU_ECC]
    omega
  unfold State.diagRead doIf
  split
  · dsimp only
    split
    · rw [regs_eccRead b apart]
      rfl
    · rfl
  · rfl

theorem State.reg_evqRead {b : Nat} (h1 : b ≠ HIF_EVQ_STAT) (h2 : b ≠ HIF_IRQ_STAT) : (s.evqRead q).reg b = s.reg b := by
  unfold State.evqRead
  dsimp only
  split
  · rfl
  · split
    · rfl
    · exact (State.reg_putB_ne h2.symm).trans (State.reg_put_ne h1.symm)

theorem rcBits_HIF_SPI_CFG : (regDescAt HIF_SPI_CFG).map RegDesc.rcBits = some 0 := by decide +kernel

theorem State.reg_rcRead_spiCfg : (s.rcRead q a).reg HIF_SPI_CFG = s.reg HIF_SPI_CFG := by
  unfold State.rcRead
  dsimp only
  split
  · rfl
  · next d hd =>
    split
    · rfl
    · next hrc =>
      refine State.reg_setReg_ne (fun ha => hrc (.inl ?_))
      have bits := rcBits_HIF_SPI_CFG
      rw [← ha, hd] at bits
      exact Option.some.inj bits

/-- No read changes HIF_SPI_CFG. -/
theorem State.reg_busRead_spiCfg : (s.busRead q a ecc).reg HIF_SPI_CFG = s.reg HIF_SPI_CFG := by
  unfold State.busRead
  split_ifs
  case pos => exact State.reg_diagRead (by decide)
  case pos => exact State.reg_evqRead (by decide) (by decide)
  case neg =>
    split
    · rfl
    · split
      · rfl
      · rfl
      · exact State.reg_rcRead_spiCfg
  all_goals rfl

/-! ## The frames (R397 to R399) -/

theorem exec_spiWriteFrame (h : s.fabricReady = true) (hb : bs.head? = some 0x02) :
    exec (.spiWriteFrame bs) s = .next (s.spiWrite bs) := by
  simp [exec, execSpiWriteFrame, h, hb]

theorem exec_spiReadFrame (h : s.fabricReady = true) (hb : bs.head? = some 0x03) :
    exec (.spiReadFrame bs x) s = .next (s.spiRead bs x) := by
  simp [exec, execSpiReadFrame, h, hb]

theorem exec_spiFrameAbort (h : s.fabricReady = true) : exec .spiFrameAbort s = .next s.spiAbort := by
  simp [exec, execSpiFrameAbort, h]

/-- A command byte that names no frame, in whichever of the two commands. -/
theorem exec_spi_unknown (h : s.fabricReady = true) (hw : bs.head? ≠ some 0x02) (hr : bs.head? ≠ some 0x03) :
    exec (.spiReadFrame bs x) s = .next (s.spiStatus 3) ∧ exec (.spiWriteFrame bs) s = .next (s.spiStatus 3) := by
  have unknown : spiUnknown bs = true := Bool.and_eq_true_iff.2 ⟨bne_iff_ne.2 hw, bne_iff_ne.2 hr⟩
  simp only [exec, execSpiReadFrame, execSpiWriteFrame, h, unknown, if_neg hw, if_neg hr, doIf_true, and_self]

theorem exec_spi_registerWrite (h : s.fabricReady = true) {w : Word} {n : Nat} (ha : a < 0x100000) :
    exec (.registerWrite .spi (BitVec.ofNat 20 a) n w) s = .next (s.busWrite .spi a w) := by
  have at_a : (BitVec.ofNat 20 a).toNat = a := by rw [BitVec.toNat_ofNat, Nat.mod_eq_of_lt ha]
  have serves : s.serves .spi = true := h
  simp [exec, execRegisterWrite, serves, at_a]

theorem State.spiWrite_short (hl : bs.length < 10) : s.spiWrite bs = s.spiAbort := by rw [State.spiWrite, if_pos hl]

theorem State.spiWrite_badCrc (hl : 10 ≤ bs.length) (hc : crc8 (bs.take 8) ≠ bs.getD 8 0) :
    s.spiWrite bs = (s.bump HIF_SPI_STAT_crc_err 1).spiStatus 1 := by
  rw [State.spiWrite, if_neg (Nat.not_lt.2 hl), if_pos hc]

theorem State.spiWrite_beyond (hl : 10 ≤ bs.length) (hc : crc8 (bs.take 8) = bs.getD 8 0) (ha : 0x100000 ≤ spiAddr bs) :
    s.spiWrite bs = s.spiStatus 4 := by
  rw [State.spiWrite, if_neg (Nat.not_lt.2 hl), if_neg (not_not.2 hc), if_pos ha]

theorem State.spiWrite_good (hl : 10 ≤ bs.length) (hc : crc8 (bs.take 8) = bs.getD 8 0) (ha : spiAddr bs < 0x100000) :
    s.spiWrite bs = (s.busWrite .spi (spiAddr bs) (BitVec.ofNat 32 (bytesToNat ((bs.drop 4).take 4)))).spiStatus 0 := by
  rw [State.spiWrite, if_neg (Nat.not_lt.2 hl), if_neg (not_not.2 hc), if_neg (Nat.not_le.2 ha)]

theorem State.spiRead_good {e : Ecc} (hl : 11 + s.turnaround ≤ bs.length) (hc : crc8 (bs.take 4) = bs.getD 4 0)
    (ha : spiAddr bs < 0x100000) : s.spiRead bs ⟨true, e⟩
      = (s.busRead .spi (spiAddr bs) e).spiData ((s.busRead .spi (spiAddr bs) e).req .spi).rdata 0 := by
  rw [State.spiRead, if_neg (Nat.not_lt.2 hl), if_neg (not_not.2 hc), if_neg (Nat.not_le.2 ha), if_pos rfl]

theorem evolves_drive : Evolves [.host] s (s.drive bs) := ev_modHost (by decide) (fun _ h => h) ev_refl

/-- A count of HIF_SPI_STAT with an answer on SPI_MISO. -/
theorem State.spiCounted {f : FRef} (hf : f.addr = HIF_SPI_STAT) (hfit : f.fits) (hw : f.width = 8) :
    ((s.bump f 1).drive bs).rd f = min (s.rd f + 1) 255 ∧ ((s.bump f 1).drive bs).host = { s.host with miso := bs }
      ∧ OnlyRegs [HIF_SPI_STAT] s ((s.bump f 1).drive bs) ∧ OnlyChanges [.regs, .host] s ((s.bump f 1).drive bs) := by
  refine ⟨?_, rfl, regs_modHost (regs_bump (by simp [hf]) onlyRegs_refl),
    (ev_trans (ev_bump (by decide) ev_refl) (ev_mono evolves_drive (by decide))).1⟩
  have counted := State.rd_bump_same (s := s) (n := 1) hfit
  rw [hw] at counted
  exact counted

/-- Settles O45: each frame by the first of the checks of R397 to R399 that it fails, a good one by the access it makes. -/
theorem spiFrames : Obligations.SpiFrames := by
  unfold Obligations.SpiFrames
  refine ⟨?write, ?badCrc, ?beyond, ?unknown, ?read, ?abort, ?short⟩
  case write =>
    intro bs s h hb hl hc ha
    exact ⟨_, _, exec_spiWriteFrame h hb, exec_spi_registerWrite h ha, State.spiWrite_good hl hc ha⟩
  case badCrc =>
    intro bs s h hb hl hc
    exact ⟨_, (exec_spiWriteFrame h hb).trans (congrArg _ (State.spiWrite_badCrc hl hc)), State.spiCounted rfl (by decide) rfl⟩
  case beyond =>
    intro bs s h hb hl hc ha
    exact ⟨_, (exec_spiWriteFrame h hb).trans (congrArg _ (State.spiWrite_beyond hl hc ha)), rfl, evolves_drive.1⟩
  case unknown =>
    intro bs b e s h hw hr
    obtain ⟨read, write⟩ := exec_spi_unknown (x := ⟨b, e⟩) h hw hr
    exact ⟨_, read, write, rfl, evolves_drive.1⟩
  case read =>
    intro bs e s h hb hl hc ha h4
    have settings : (s.busRead .spi (spiAddr bs) e).turnaround = s.turnaround :=
      congrArg (· + 1) (State.rd_congr State.reg_busRead_spiCfg)
    refine ⟨_, _, _, exec_spiReadFrame h hb, (exec_reads_at (q := .spi) h ha h4).2, rfl, ?_⟩
    rw [State.spiRead_good hl hc ha, State.spiData, settings]
    rfl
  case abort =>
    intro s h
    exact ⟨_, exec_spiFrameAbort h, State.spiCounted rfl (by decide) rfl⟩
  case short =>
    intro bs s h hb hl
    rw [exec_spiWriteFrame h hb, exec_spiFrameAbort h, State.spiWrite_short hl]

end Sys2Proof.Machine
end

section
/-! PROOFS. Rings (Machine/Rings.lean): what each operation does to the rings, to the registers, to the cache of contexts and to
the reads of host memory. -/

namespace Sys2Proof.Machine

variable {s t u : State} {L : List Part} {l : List Nat} {m : List RingId} {r e q : RingId} {f : Func}

/-! ## Rings that stay -/

theorem onlyRings_refl : OnlyRings m s s := fun _ _ => rfl

theorem onlyRings_trans (h : OnlyRings m s t) (g : OnlyRings m t u) : OnlyRings m s u :=
  fun r hr => (g r hr).trans (h r hr)

theorem OnlyChanges.ring (h : OnlyChanges L s t) (hp : Part.rings ∉ L) (r : RingId) : t.ring r = s.ring r := by
  unfold State.ring
  rw [show t.rings = s.rings from h .rings hp]

theorem OnlyChanges.onlyRings (h : OnlyChanges L s t) (hp : Part.rings ∉ L) : OnlyRings m s t := fun r _ => h.ring hp r

theorem onlyRings_modRing {g : Ring → Ring} : OnlyRings [r] s (s.modRing r g) :=
  fun _ hq => State.ring_modRing_ne (fun he => hq (by simp [he]))

theorem onlyRings_setRing {v : Ring} : OnlyRings [r] s (s.setRing r v) :=
  fun _ hq => State.ring_setRing_ne (fun he => hq (by simp [he]))

/-! ## What a function may do, and where a ring's context lies -/

/-- A function makes requests in t exactly where it does in s. -/
theorem State.master_congr (hl : t.flag HIF_LINK_up = s.flag HIF_LINK_up) (hf : (t.fn f).bme = (s.fn f).bme) :
    t.master f = s.master f := by
  unfold State.master
  rw [hl, hf]

theorem State.ctxAddr_congr (h : OnlyRegs l s t) (hlo : HIF_CTX_BASE_LO (fnIdx (ringOwner r)) ∉ l)
    (hhi : HIF_CTX_BASE_HI (fnIdx (ringOwner r)) ∉ l) : t.ctxAddr r = s.ctxAddr r := by
  unfold State.ctxAddr
  rw [h _ hlo, h _ hhi]

/-! ## The cache of contexts -/

/-- From s to t only the cache of contexts changed, with its counters and with host memory, where an evicted one is written. -/
def Recaches (s t : State) : Prop :=
  OnlyChanges [.regs, .hostMem, .host, .free] s t ∧ OnlyRegs [RNG_CACHE] s t ∧ ∃ x, t.host = { s.host with lru := x }

theorem recaches_refl : Recaches s s := ⟨fun p _ => ev_refl.1 p List.not_mem_nil, onlyRegs_refl, _, rfl⟩

theorem recaches_trans (h : Recaches s t) (g : Recaches t u) : Recaches s u := by
  obtain ⟨hp, hr, x, hx⟩ := h
  obtain ⟨gp, gr, y, hy⟩ := g
  exact ⟨fun p hn => by have := gp p hn; have := hp p hn; cases p <;> simp_all [Part.same], onlyRegs_trans hr gr, y, by rw [hy, hx]⟩

theorem Recaches.ring (h : Recaches s t) (r : RingId) : t.ring r = s.ring r := h.1.ring (by decide) r
theorem Recaches.onlyRings (h : Recaches s t) : OnlyRings m s t := h.1.onlyRings (by decide)

theorem Recaches.master (h : Recaches s t) : t.master f = s.master f := by
  obtain ⟨-, regs, x, hx⟩ := h
  refine State.master_congr (regs.flag (by decide)) ?_
  cases f <;> simp [State.fn, hx]

theorem Recaches.ctxAddr (h : Recaches s t) : t.ctxAddr r = s.ctxAddr r := by
  cases ho : ringOwner r <;> exact State.ctxAddr_congr h.2.1 (by rw [ho]; decide) (by rw [ho]; decide)

theorem recaches_countMiss : Recaches s (s.countMiss r) := by
  refine ⟨(ev_mono (ev_countMiss (L := [.regs]) (by decide) ev_refl) (by simp)).1,
    regs_doIf (fun _ h => regs_bump (by decide) h) onlyRegs_refl, s.host.lru, ?_⟩
  exact (ev_countMiss (L := [.regs]) (by decide) ev_refl).1 .host (by decide)

theorem recaches_evict {n : Nat} : Recaches s (s.evict n) :=
  ⟨(ev_evict (by decide) (by decide) (by decide) (by decide) ev_refl).1,
    regs_writeHost (regs_bump (by decide) onlyRegs_refl), _, rfl⟩

theorem recaches_lru {g : List Nat → List Nat} : Recaches s (s.modHost (fun h => { h with lru := g h.lru })) :=
  ⟨(ev_modHost (L := [.regs, .hostMem, .host, .free]) (f := fun h => { h with lru := g h.lru }) (by decide) (fun _ h => h) ev_refl).1, onlyRegs_refl, _, rfl⟩

theorem recaches_touch : Recaches s (s.touch r) := by
  unfold State.touch
  split
  · exact recaches_lru (g := fun l => l.filter (fun m => m != r.toNat) ++ [r.toNat])
  · refine recaches_trans (t := if s.host.lru.length < 512 then s else _) ?_
      (recaches_lru (g := fun l => if l.length < 512 then l ++ [r.toNat] else l))
    repeat' split
    · exact recaches_refl
    · exact recaches_evict
    · exact recaches_refl

theorem recaches_touchHit : Recaches s (s.touchHit r) := by
  unfold State.touchHit doIf
  split
  · exact recaches_touch
  · exact recaches_refl

/-- A use of a cached context makes it the newest and changes nothing else. -/
theorem State.touchHit_cached (h : s.cached r = true) : s.touchHit r
    = s.modHost (fun x => { x with lru := x.lru.filter (fun m => m != r.toNat) ++ [r.toNat] }) := by
  unfold State.touchHit State.touch
  rw [h, doIf_true, if_pos h]

theorem State.touchHit_uncached (h : s.cached r = false) : s.touchHit r = s := by
  unfold State.touchHit
  rw [h, doIf_false]

/-- What is cached stays so: a use of a cached context evicts none. -/
theorem State.cached_touchHit : (s.touchHit e).cached r = s.cached r := by
  cases h : s.cached e
  · rw [State.touchHit_uncached h]
  · rw [State.touchHit_cached h]
    by_cases he : r.toNat = e.toNat
    · have hr : s.cached r = true := by rw [← h]; simp [State.cached, he]
      simp [State.cached, he] at hr ⊢
      exact hr
    · simp [State.cached, he]

theorem State.touchHit_parts : OnlyChanges [.host] s (s.touchHit r) := by
  cases h : s.cached r
  · rw [State.touchHit_uncached h]
    exact ev_refl.1
  · rw [State.touchHit_cached h]
    exact (ev_modHost (L := [.host]) (f := fun x => { x with lru := x.lru.filter (fun m => m != r.toNat) ++ [r.toNat] })
      (by decide) (fun _ h => h) ev_refl).1

/-! ## Reads of host memory -/

/-- The reads that go out and those that stay are together those that waited. -/
theorem mem_splitReads {ok : HostRead → Bool} {n : Nat} {l : List HostRead} {x : HostRead} :
    x ∈ (splitReads ok n l).1 ++ (splitReads ok n l).2 ↔ x ∈ l := by
  induction l generalizing n with
  | nil => cases n <;> simp [splitReads]
  | cons y ys ih =>
    cases n with
    | zero => simp [splitReads]
    | succ n =>
      simp only [List.mem_append] at ih
      by_cases hy : ok y = true
      · simp [splitReads, hy, ih (n := n)]
      · simp [splitReads, hy, ← ih (n := n + 1), or_left_comm]

/-- A read that is asked for goes out or waits; with none before it and room it goes out at once. Nothing else changes. -/
theorem State.askRead_eq (x : HostRead) : ∃ a b, s.askRead x = s.modHost (fun h => { h with reads := h.reads ++ a, readQ := b })
    ∧ (∀ y, y ∈ a ++ b ↔ y ∈ s.host.readQ ++ [x])
    ∧ (s.host.readQ = [] → s.master x.func = true → s.host.reads.length < 128 → a = [x] ∧ b = []) := by
  refine ⟨_, _, rfl, fun y => mem_splitReads, fun hq hm hl => ?_⟩
  obtain ⟨n, hn⟩ : ∃ n, 128 - s.host.reads.length = n + 1 := ⟨127 - s.host.reads.length, by omega⟩
  have hm' : (s.modHost (fun h => { h with readQ := h.readQ ++ [x] })).master x.func = true := hm
  simp [hq, hn, splitReads, hm']

/-- From s to t the read x of host memory was asked for: it stands among the reads, at once where none waits before it. -/
def Asked (x : HostRead) (s t : State) : Prop :=
  x ∈ t.host.reads ++ t.host.readQ
    ∧ (s.host.readQ = [] → s.master x.func = true → s.host.reads.length < 128 →
        t.host.reads = s.host.reads ++ [x] ∧ t.host.readQ = [])

theorem State.modRing_host {g : Ring → Ring} : (s.modRing r g).host = s.host := rfl

theorem asked_askRead {x : HostRead} : Asked x s (s.askRead x) := by
  obtain ⟨a, b, heq, hmem, hone⟩ := s.askRead_eq x
  rw [heq]
  refine ⟨?_, fun hq hm hl => ?_⟩
  · have hx : x ∈ a ++ b := (hmem x).mpr (by simp)
    simp only [State.modHost, List.append_assoc, List.mem_append] at hx ⊢
    exact .inr hx
  · obtain ⟨rfl, rfl⟩ := hone hq hm hl
    exact ⟨rfl, rfl⟩

theorem Asked.after {x : HostRead} (h : Recaches s t) (g : Asked x t u) : Asked x s u := by
  have hm : t.master x.func = s.master x.func := h.master
  obtain ⟨-, -, y, hy⟩ := h
  obtain ⟨gmem, gone⟩ := g
  rw [hm, hy] at gone
  exact ⟨gmem, gone⟩

theorem Asked.after_modRing {x : HostRead} {g : Ring → Ring} (h : Asked x (s.modRing r g) t) : Asked x s t := by
  have hm : (s.modRing r g).master x.func = s.master x.func := State.master_congr (by simp) (by simp [State.fn])
  obtain ⟨hmem, hone⟩ := h
  rw [hm, State.modRing_host] at hone
  exact ⟨hmem, hone⟩

theorem State.askRead_parts {x : HostRead} : OnlyChanges [.host] s (s.askRead x) := (ev_askRead (by decide) ev_refl).1

/-- The read of a ring's context. -/
def State.ctxRead (s : State) (r : RingId) (why : ReadFor) : HostRead := ⟨ringOwner r, BitVec.ofNat 64 (s.ctxAddr r), 64, why⟩

theorem asked_fetchCtx {why : ReadFor} : Asked (s.ctxRead r why) s (s.fetchCtx r why) := asked_askRead

theorem State.rd_countMiss (h : s.cached r = false) :
    (s.countMiss r).rd RNG_CACHE_miss_ct = min (s.rd RNG_CACHE_miss_ct + 1) 65535 := by
  unfold State.countMiss
  rw [h]
  exact State.rd_bump_same (by decide)

/-- An evicted context that can be fetched is asked for, which is a miss. -/
theorem State.fetchAgain_eq (hb : s.ringBusy r.toNat = false) (hr : s.cacheRoom = true) :
    s.fetchAgain r = (s.countMiss r).askRead (s.ctxRead r (.again r (s.ring r).gen)) := by
  unfold State.fetchAgain State.mayRefetch
  rw [hb, hr]
  rfl

theorem State.asked_fetchAgain (hb : s.ringBusy r.toNat = false) (hr : s.cacheRoom = true) :
    Asked (s.ctxRead r (.again r (s.ring r).gen)) s (s.fetchAgain r) := by
  rw [State.fetchAgain_eq hb hr]
  exact asked_askRead.after recaches_countMiss

theorem State.rd_fetchAgain (hc : s.cached r = false) (hb : s.ringBusy r.toNat = false) (hr : s.cacheRoom = true) :
    (s.fetchAgain r).rd RNG_CACHE_miss_ct = min (s.rd RNG_CACHE_miss_ct + 1) 65535 := by
  rw [State.fetchAgain_eq hb hr]
  exact (State.askRead_parts.rd (by decide) _).trans (State.rd_countMiss hc)

theorem regs_askRead {x : HostRead} (h : OnlyRegs l s t) : OnlyRegs l s (t.askRead x) :=
  onlyRegs_trans h (State.askRead_parts.onlyRegs (by decide))

theorem regs_fetchAgain (hl : RNG_CACHE ∈ l) (h : OnlyRegs l s t) : OnlyRegs l s (t.fetchAgain r) := by
  unfold State.fetchAgain
  exact regs_ite h (regs_askRead (regs_doIf (fun _ hu => regs_bump hl hu) h))

theorem State.ring_fetchAgain : (s.fetchAgain r).ring q = s.ring q :=
  (ev_fetchAgain (L := [.regs, .host]) (by decide) (by decide) ev_refl).1.ring (by decide) q

/-- Asking for an evicted context changes of the host interface only the reads. -/
theorem State.host_fetchAgain : ∃ a b, (s.fetchAgain r).host = { s.host with reads := a, readQ := b } := by
  unfold State.fetchAgain
  split
  · exact ⟨_, _, rfl⟩
  · obtain ⟨a, b, heq, -, -⟩ := (s.countMiss r).askRead_eq (s.ctxRead r (.again r (s.ring r).gen))
    have hh : (s.countMiss r).host = s.host := (ev_countMiss (L := [.regs]) (by decide) ev_refl).1 .host (by decide)
    exact ⟨s.host.reads ++ a, b, (congrArg State.host heq).trans (by simp [hh])⟩

/-- Which context a full cache gives up does not depend on the rings' doorbells. -/
theorem State.victim_congr (hh : t.host = s.host) (hl : t.flag HIF_LINK_up = s.flag HIF_LINK_up)
    (hg : ∀ q, (t.ring q).fetched = (s.ring q).fetched ∧ (t.ring q).fetchFailed = (s.ring q).fetchFailed
      ∧ (t.ring q).descrHeld = (s.ring q).descrHeld ∧ (t.ring q).wbDue = (s.ring q).wbDue) : t.victim = s.victim := by
  have hm : ∀ g, t.master g = s.master g := fun g => State.master_congr hl (by cases g <;> simp [State.fn, hh])
  unfold State.victim State.ringBusy
  simp only [hh, hm, fun q => (hg q).1, fun q => (hg q).2.1, fun q => (hg q).2.2.1, fun q => (hg q).2.2.2]

/-! ## Write-back blocks, ERROR and DISABLED -/

/-- A write-back changes of a ring only what is due to be written. -/
theorem State.ring_writeBack : ∃ d b, (s.writeBack r).ring r = { s.ring r with wbDue := d, wbBytes := b } := by
  unfold State.writeBack
  split
  · exact ⟨false, 0, State.ring_modRing_same⟩
  · exact ⟨true, (s.ring r).wbBytes, State.ring_modRing_same⟩

theorem onlyRings_writeBack : OnlyRings [r] s (s.writeBack r) := by
  unfold State.writeBack
  split
  · exact fun q hq => onlyRings_modRing q hq
  · exact onlyRings_modRing

theorem State.writeBack_parts : OnlyChanges [.hostMem, .rings] s (s.writeBack r) := (ev_writeBack (by decide) (by decide) ev_refl).1

theorem regs_writeBack (h : OnlyRegs l s t) : OnlyRegs l s (t.writeBack r) :=
  onlyRegs_trans h (State.writeBack_parts.onlyRegs (by decide))

theorem State.ring_postRing {ty : Nat} {d : List Word} : (s.postRing ty e d).ring q = s.ring q :=
  (ev_postRing (L := [.regs, .host]) (by decide) (by decide) ev_refl).1.ring (by decide) q

theorem onlyRings_dropFence : OnlyRings [r] s (s.dropFence r) := fun _ hq => onlyRings_modRing _ hq

theorem regs_dropFence (h : OnlyRegs l s t) : OnlyRegs l s (t.dropFence r) := h

/-- A ring in ERROR, before its block is written and its event posted. -/
def State.ringFailed (s : State) (r : RingId) : State :=
  (s.dropFence r).modRing r (fun g => { g with st := .error, held := [], fetched := none, fetchFailed := false })

theorem State.ring_ringError : ∃ d b, (s.ringError r).ring r = { s.ring r with
    st := .error, held := [], fetched := none, fetchFailed := false, descrHeld := none, wbDue := d, wbBytes := b } := by
  have failed : (s.ringFailed r).ring r = { s.ring r with
      st := .error, held := [], fetched := none, fetchFailed := false, descrHeld := none } := by
    unfold State.ringFailed State.dropFence
    simp
  have eq : s.ringError r = (if (s.ring r).st = .enabled ∧ (s.ring r).hasCtx then (s.ringFailed r).writeBack r
      else s.ringFailed r).postRing 0x51 r [] := rfl
  rw [eq, State.ring_postRing]
  split
  · obtain ⟨d, b, h⟩ := (s.ringFailed r).ring_writeBack (r := r)
    exact ⟨d, b, by rw [h, failed]⟩
  · exact ⟨_, _, failed⟩

theorem State.st_ringError : ((s.ringError r).ring r).st = .error := by
  obtain ⟨d, b, h⟩ := s.ring_ringError (r := r)
  rw [h]

theorem onlyRings_ringError : OnlyRings [r] s (s.ringError r) := by
  have failed : OnlyRings [r] s (s.ringFailed r) := onlyRings_trans onlyRings_dropFence onlyRings_modRing
  intro q hq
  refine State.ring_postRing.trans ?_
  split
  · exact onlyRings_trans failed onlyRings_writeBack q hq
  · exact failed q hq

theorem regs_ringError (hl : ∀ b ∈ eventRegs, b ∈ l) (h : OnlyRegs l s t) : OnlyRegs l s (t.ringError r) := by
  unfold State.ringError
  exact regs_postRing hl (regs_ite (regs_writeBack (regs_modRing (regs_dropFence h))) (regs_modRing (regs_dropFence h)))

theorem State.ring_ringDisabled : ∃ d b, (s.ringDisabled r).ring r = { s.ring r with
    st := .disabled, armed := false, irqCount := 0, lossPending := false, wbDue := d, wbBytes := b } := by
  unfold State.ringDisabled
  dsimp only
  rw [State.ring_postRing]
  split
  · obtain ⟨d, b, h⟩ := State.ring_writeBack (r := r)
      (s := s.modRing r (fun g => { g with st := .disabled, armed := false, irqCount := 0, lossPending := false }))
    exact ⟨d, b, by rw [h, State.ring_modRing_same]⟩
  · exact ⟨_, _, State.ring_modRing_same⟩

theorem onlyRings_ringDisabled : OnlyRings [r] s (s.ringDisabled r) := by
  intro q hq
  refine State.ring_postRing.trans ?_
  split
  · exact onlyRings_trans onlyRings_modRing onlyRings_writeBack q hq
  · exact onlyRings_modRing q hq

theorem regs_ringDisabled (hl : ∀ b ∈ eventRegs, b ∈ l) (h : OnlyRegs l s t) : OnlyRegs l s (t.ringDisabled r) := by
  unfold State.ringDisabled
  exact regs_postRing hl (regs_ite (regs_writeBack (regs_modRing h)) (regs_modRing h))

/-! ## The host's index, the interrupt's arming -/

/-- A consistent index is taken, and so is any index of a ring that is not ENABLED. -/
theorem State.takeIndex_taken {x : Word}
    (h : (s.ring r).st ≠ .enabled ∨ ({ s.ring r with hostIdx := x } : Ring).inconsistent = false) :
    s.takeIndex r x = s.modRing r (fun g => { g with hostIdx := x }) := by
  unfold State.takeIndex
  refine if_neg ?_
  rw [State.ring_modRing_same]
  rintro ⟨hst, hi⟩
  rcases h with h | h
  · exact h hst
  · rw [h] at hi; cases hi

/-- An inconsistent one puts an ENABLED ring in ERROR. -/
theorem State.takeIndex_inconsistent {x : Word} (hst : (s.ring r).st = .enabled)
    (h : ({ s.ring r with hostIdx := x } : Ring).inconsistent = true) :
    s.takeIndex r x = (s.modRing r (fun g => { g with hostIdx := x })).ringError r := by
  unfold State.takeIndex
  refine if_pos ?_
  rw [State.ring_modRing_same]
  exact ⟨hst, h⟩

/-- A ring that has counted no record has no interrupt to send. -/
theorem State.arm_uncounted (h : (s.ring r).irqCount = 0) : s.arm r = s.modRing r (fun g => { g with armed := true }) := by
  unfold State.arm State.sendIrq State.irqDue
  simp [h]

/-! ## Doorbells as commands -/

variable {x : Word} {arm : Bool}

theorem exec_doorbellEnable (h : s.barLive f = true) :
    exec (.doorbellEnable f r x arm) s = .next (s.bell f r x true false false arm) := congrArg _ (if_pos h)
theorem exec_doorbellDisable (h : s.barLive f = true) :
    exec (.doorbellDisable f r x arm) s = .next (s.bell f r x false true false arm) := congrArg _ (if_pos h)
theorem exec_doorbellReload (h : s.barLive f = true) :
    exec (.doorbellReload f r x arm) s = .next (s.bell f r x false false true arm) := congrArg _ (if_pos h)
theorem exec_doorbellArm (h : s.barLive f = true) :
    exec (.doorbellArm f r x) s = .next (s.bell f r x false false false true) := congrArg _ (if_pos h)
theorem exec_doorbellIndex (h : s.barLive f = true) :
    exec (.doorbellIndex f r x) s = .next (s.bell f r x false false false false) := congrArg _ (if_pos h)
theorem exec_bar2BadWrite (h : s.barLive f = true) : exec (.bar2BadWrite f) s = .next (s.badBell f) := congrArg _ (if_pos h)

end Sys2Proof.Machine
end

section
/-! PROOFS. Doorbells (R359, R367 to R372): what each does in each state of its ring, and the statement about them. -/

namespace Sys2Proof.Machine

variable {s t : State} {r : RingId} {f : Func} {x : Word} {arm : Bool}

/-! ## A doorbell in each state of its ring -/

/-- A doorbell for a ring of the other function is discarded. -/
theorem State.bell_foreign {en di re : Bool} (ho : ringOwner r ≠ f) : s.bell f r x en di re arm = s.badBell f := by
  unfold State.bell
  exact if_pos (.inl ho)

theorem State.bell_disabled_enable (ho : ringOwner r = f) (hst : (s.ring r).st = .disabled) :
    s.bell f r x true false false arm = (((s.modRing r (fun g =>
      { Ring.reset with gen := g.gen, hostIdx := x, armed := g.armed || arm, st := .enabling })).countMiss r).touch r).fetchCtx r
        (.context r) := by
  unfold State.bell
  simp [ho, hst]

theorem State.bell_disabled_arm (ho : ringOwner r = f) (hst : (s.ring r).st = .disabled) :
    s.bell f r x false false false true = s.modRing r (fun g => { g with armed := true }) := by
  unfold State.bell
  simp [ho, hst]

/-- A DISABLED ring takes no index, no disable and no reload. -/
theorem State.bell_disabled_bad {di re : Bool} (hst : (s.ring r).st = .disabled) (h : di = true ∨ re = true ∨ arm = false) :
    s.bell f r x false di re arm = s.badBell f := by
  unfold State.bell
  split
  · rfl
  · rcases h with rfl | rfl | rfl
    · simp [hst]
    · simp [hst]
    · cases di <;> cases re <;> simp [hst]

/-- An enable is for a DISABLED ring alone. -/
theorem State.bell_enable_bad (h : (s.ring r).st ≠ .disabled) : s.bell f r x true false false arm = s.badBell f := by
  unfold State.bell
  split
  · rfl
  · cases hst : (s.ring r).st with
    | disabled => exact absurd hst h
    | enabling => simp
    | enabled => simp
    | draining => simp
    | error => simp

/-- One for an ENABLING ring is held, a reload excepted. -/
theorem State.bell_enabling {di : Bool} (ho : ringOwner r = f) (hst : (s.ring r).st = .enabling) :
    s.bell f r x false di false arm = s.holdBell r ⟨x, di, false, arm⟩ := by
  unfold State.bell
  simp [ho, hst]

theorem State.bell_enabling_reload (ho : ringOwner r = f) (hst : (s.ring r).st = .enabling) :
    s.bell f r x false false true arm = s.badBell f := by
  unfold State.bell
  simp [ho, hst]

/-- One for an ENABLED ring with its context: a disable, or else the index, then a reload and an arming. -/
theorem State.bell_enabled_disable (ho : ringOwner r = f) (hst : (s.ring r).st = .enabled) (hc : s.cached r = true) :
    s.bell f r x false true false arm = (s.touchHit r).bellDisable r x arm := by
  unfold State.bell
  simp [ho, hst, State.lacksCtx, hc]

/-- The state of an ENABLED ring after a consistent index. -/
def State.indexTaken (s : State) (r : RingId) (x : Word) : State := (s.touchHit r).modRing r (fun g => { g with hostIdx := x })

theorem State.ring_indexTaken : (s.indexTaken r x).ring r = { s.ring r with hostIdx := x } := by
  rw [State.indexTaken, State.ring_modRing_same, recaches_touchHit.ring]

theorem onlyRings_indexTaken : OnlyRings [r] s (s.indexTaken r x) := onlyRings_trans recaches_touchHit.onlyRings onlyRings_modRing

theorem State.indexTaken_parts : OnlyChanges [.rings, .host] s (s.indexTaken r x) := fun p hp =>
  Part.same_trans (State.touchHit_parts p (fun h => hp (by simp_all)))
    ((ev_modRing (L := [.rings, .host]) (by decide) ev_refl).1 p hp)

theorem State.host_indexTaken (hc : s.cached r = true) :
    (s.indexTaken r x).host = { s.host with lru := s.host.lru.filter (fun m => m != r.toNat) ++ [r.toNat] } := by
  rw [State.indexTaken, State.touchHit_cached hc]
  rfl

/-- An arming after the index of a ring that has counted no record. -/
theorem State.arm_indexTaken (h : (s.ring r).irqCount = 0) :
    (s.indexTaken r x).arm r = (s.indexTaken r x).modRing r (fun g => { g with armed := true }) :=
  State.arm_uncounted (by rw [State.ring_indexTaken]; exact h)

theorem State.ring_armed : ((s.indexTaken r x).modRing r (fun g => { g with armed := true })).ring r
    = { s.ring r with hostIdx := x, armed := true } := by
  rw [State.ring_modRing_same, State.ring_indexTaken]

theorem onlyRings_armed : OnlyRings [r] s ((s.indexTaken r x).modRing r (fun g => { g with armed := true })) :=
  onlyRings_trans onlyRings_indexTaken onlyRings_modRing

theorem State.host_armed (hc : s.cached r = true) : ((s.indexTaken r x).modRing r (fun g => { g with armed := true })).host
    = { s.host with lru := s.host.lru.filter (fun m => m != r.toNat) ++ [r.toNat] } := by
  rw [State.modRing_host, State.host_indexTaken hc]

theorem State.armed_parts : OnlyChanges [.rings, .host] s ((s.indexTaken r x).modRing r (fun g => { g with armed := true })) :=
  fun p hp => Part.same_trans (State.indexTaken_parts p hp) ((ev_modRing (L := [.rings, .host]) (by decide) ev_refl).1 p hp)

/-- A consistent index is taken, by an ENABLED and by a DRAINING ring. -/
theorem State.takeIndex_touchHit
    (h : (s.ring r).st ≠ .enabled ∨ ({ s.ring r with hostIdx := x } : Ring).inconsistent = false) :
    (s.touchHit r).takeIndex r x = s.indexTaken r x :=
  State.takeIndex_taken (by rw [recaches_touchHit.ring]; exact h)

theorem State.bell_enabled_index {re : Bool} (ho : ringOwner r = f) (hst : (s.ring r).st = .enabled) (hc : s.cached r = true)
    (hi : ({ s.ring r with hostIdx := x } : Ring).inconsistent = false) : s.bell f r x false false re arm
      = doIf arm (fun t => t.arm r) (doIf re (fun t => t.fetchCtx r (.reload r (t.ring r).gen)) (s.indexTaken r x)) := by
  unfold State.bell
  simp [ho, hst, State.lacksCtx, hc, State.takeIndex_touchHit (.inr hi), State.ring_indexTaken]

theorem State.bell_enabled_inconsistent (ho : ringOwner r = f) (hst : (s.ring r).st = .enabled) (hc : s.cached r = true)
    (hi : ({ s.ring r with hostIdx := x } : Ring).inconsistent = true) :
    s.bell f r x false false false false = (s.indexTaken r x).ringError r := by
  have taken : (s.touchHit r).takeIndex r x = (s.indexTaken r x).ringError r :=
    State.takeIndex_inconsistent (by rw [recaches_touchHit.ring]; exact hst) (by rw [recaches_touchHit.ring]; exact hi)
  unfold State.bell
  simp [ho, hst, State.lacksCtx, hc, taken]

theorem State.bell_draining (ho : ringOwner r = f) (hst : (s.ring r).st = .draining) (hc : s.cached r = true) :
    s.bell f r x false false false arm = doIf arm (fun t => t.arm r) (s.indexTaken r x) := by
  unfold State.bell
  simp [ho, hst, State.lacksCtx, hc, State.takeIndex_touchHit]

/-- A DRAINING ring takes neither a disable nor a reload. -/
theorem State.bell_draining_bad {di re : Bool} (hst : (s.ring r).st = .draining) (h : di = true ∨ re = true) :
    s.bell f r x false di re arm = s.badBell f := by
  unfold State.bell
  split
  · rfl
  · rcases h with rfl | rfl
    · simp [hst]
    · cases di <;> simp [hst]

/-- A ring in ERROR takes a disable alone. -/
theorem State.bell_error_bad {re : Bool} (hst : (s.ring r).st = .error) : s.bell f r x false false re arm = s.badBell f := by
  unfold State.bell
  split
  · rfl
  · simp [hst]

theorem State.bell_error_disable (ho : ringOwner r = f) (hst : (s.ring r).st = .error)
    (h : s.cached r = true ∨ wordAt (s.ring r).ctx 0 = 0) :
    s.bell f r x false true false arm = (s.touchHit r).ringDisabled r := by
  have herr : ((s.touchHit r).ring r).st = .error := by rw [recaches_touchHit.ring]; exact hst
  have hd : (s.touchHit r).bellDisable r x arm = (s.touchHit r).ringDisabled r := if_pos herr
  have hw : ((s.ring r).hasCtx && !s.cached r) = false := by
    rcases h with h | h <;> simp [h, Ring.hasCtx]
  unfold State.bell
  simp [ho, hst, hw, hd]

/-! ## A doorbell for a ring whose context has been evicted -/

/-- It is held, and the context asked for again. -/
theorem State.bell_evicted {di re : Bool} (ho : ringOwner r = f)
    (hst : (s.ring r).st = .enabled ∨ ((s.ring r).st = .draining ∧ di = false ∧ re = false)) (hc : s.cached r = false) :
    s.bell f r x false di re arm = (s.holdBell r ⟨x, di, re, arm⟩).fetchAgain r := by
  unfold State.bell
  rcases hst with hst | ⟨hst, rfl, rfl⟩ <;> simp [ho, hst, State.lacksCtx, hc]

theorem State.bell_error_evicted (ho : ringOwner r = f) (hst : (s.ring r).st = .error) (hx : wordAt (s.ring r).ctx 0 ≠ 0)
    (hc : s.cached r = false) :
    s.bell f r x false true false arm = (s.holdBell r ⟨x, true, false, arm⟩).fetchAgain r := by
  have hctx : (s.ring r).hasCtx = true := decide_eq_true hx
  unfold State.bell
  simp [ho, hst, hctx, hc]

variable {b : HeldBell}

theorem State.ring_holdBell : (s.holdBell r b).ring r = { s.ring r with held := (s.ring r).held ++ [b] } :=
  State.ring_modRing_same

theorem onlyRings_holdBell : OnlyRings [r] s (s.holdBell r b) := onlyRings_modRing

theorem State.holdBell_parts : OnlyChanges [.rings] s (s.holdBell r b) := (ev_holdBell (by decide) ev_refl).1

/-- A held doorbell does not take the room in the cache. -/
theorem State.cacheRoom_holdBell : (s.holdBell r b).cacheRoom = s.cacheRoom := by
  have hv : (s.holdBell r b).victim = s.victim := by
    refine State.victim_congr rfl rfl (fun q => ?_)
    by_cases hq : r = q
    · rw [← hq, State.ring_holdBell]
      exact ⟨rfl, rfl, rfl, rfl⟩
    · rw [onlyRings_holdBell q (by simpa using Ne.symm hq)]
      exact ⟨rfl, rfl, rfl, rfl⟩
  unfold State.cacheRoom
  rw [hv]
  rfl

/-- What a doorbell that is held for an evicted context does (R363, R370, R409). -/
theorem State.held_and_asked (hc : s.cached r = false) (hb : s.ringBusy r.toNat = false) (hr : s.cacheRoom = true) :
    ((s.holdBell r b).fetchAgain r).ring r = { s.ring r with held := (s.ring r).held ++ [b] }
    ∧ s.ctxRead r (.again r (s.ring r).gen) ∈ ((s.holdBell r b).fetchAgain r).host.reads ++ ((s.holdBell r b).fetchAgain r).host.readQ
    ∧ ((s.holdBell r b).fetchAgain r).rd RNG_CACHE_miss_ct = min (s.rd RNG_CACHE_miss_ct + 1) 65535
    ∧ OnlyRings [r] s ((s.holdBell r b).fetchAgain r) ∧ OnlyRegs [RNG_CACHE] s ((s.holdBell r b).fetchAgain r) := by
  have room : (s.holdBell r b).cacheRoom = true := State.cacheRoom_holdBell.trans hr
  have asked : Asked ((s.holdBell r b).ctxRead r _) _ _ := State.asked_fetchAgain (s := s.holdBell r b) hb room
  refine ⟨State.ring_fetchAgain.trans State.ring_holdBell, ?_, State.rd_fetchAgain (s := s.holdBell r b) hc hb room,
    onlyRings_trans onlyRings_holdBell (fun q _ => State.ring_fetchAgain), regs_fetchAgain (by simp) onlyRegs_refl⟩
  rw [State.ring_holdBell] at asked
  exact asked.1

/-! ## A disable of an ENABLED ring -/

/-- The state of an ENABLED ring after a disable with a consistent index, before its block is written. -/
def State.drains (s : State) (r : RingId) (x : Word) : State :=
  (((s.indexTaken r x).modRing r (fun g => { g with st := .draining })).dropFence r).modHost (fun h =>
    h.setRecs (h.allRecs.map (fun c => if c.ring = r then { c with kept := true } else c)))

theorem State.bellDisable_enabled (hst : (s.ring r).st = .enabled)
    (hi : ({ s.ring r with hostIdx := x } : Ring).inconsistent = false) :
    (s.touchHit r).bellDisable r x false = (s.drains r x).writeBack r := by
  have index : (s.touchHit r).takeIndex r x = s.indexTaken r x := State.takeIndex_touchHit (.inr hi)
  unfold State.bellDisable
  rw [if_neg (by rw [recaches_touchHit.ring, hst]; decide), index, if_neg (by rw [State.ring_indexTaken, hst]; decide), doIf_false]
  rfl

theorem State.ring_drains : (s.drains r x).ring r = { s.ring r with hostIdx := x, st := .draining, descrHeld := none } := by
  unfold State.drains State.dropFence
  simp [State.ring_indexTaken]

theorem onlyRings_drains : OnlyRings [r] s (s.drains r x) :=
  onlyRings_trans onlyRings_indexTaken (onlyRings_trans onlyRings_modRing (fun q hq => onlyRings_dropFence q hq))

theorem regs_drains : OnlyRegs [] s (s.drains r x) :=
  regs_modHost (regs_dropFence (regs_modRing (State.indexTaken_parts.onlyRegs (by decide))))

/-- Settles O36: each doorbell by the equation of its ring's state. -/
theorem doorbells : Obligations.Doorbells := by
  unfold Obligations.Doorbells
  refine ⟨?enable, ?index, ?inconsistent, ?arm, ?armDisabled, ?disabled, ?bad, ?dead, ?enabling, ?draining, ?error, ?evicted,
    ?errorEvicted⟩
  case enable =>
    intro f r x arm s hf ho hst
    have cache : Recaches (s.modRing r (fun g => { Ring.reset with
        gen := g.gen, hostIdx := x, armed := g.armed || arm, st := .enabling })) _ :=
      recaches_trans (recaches_countMiss (r := r)) (recaches_touch (r := r))
    have asked := (asked_fetchCtx (r := r) (why := .context r)).after cache
    rw [State.ctxRead, cache.ctxAddr, ho] at asked
    have asked' := asked.after_modRing
    have ring : ∀ q, (State.fetchCtx _ r (.context r)).ring q = _ := fun q => (State.askRead_parts.ring (by decide) q).trans (cache.ring q)
    refine ⟨_, (exec_doorbellEnable hf).trans (congrArg _ (State.bell_disabled_enable ho hst)), ?_, ?_, ?_, asked'.1, asked'.2,
      onlyRings_trans onlyRings_modRing (fun q _ => ring q), regs_askRead (onlyRegs_trans (regs_modRing onlyRegs_refl) cache.2.1)⟩
    · rw [ring, State.ring_modRing_same]
    · rw [ring, State.ring_modRing_same]
    · rw [ring, State.ring_modRing_same]
  case index =>
    intro f r x s hf ho hst hc hi
    obtain ⟨d, b, hback⟩ := (s.drains r x).ring_writeBack (r := r)
    have hgen : ((s.indexTaken r x).ring r).gen = (s.ring r).gen := by rw [State.ring_indexTaken]
    have ha : (s.indexTaken r x).ctxAddr r = s.ctxAddr r := (recaches_touchHit (s := s) (r := r)).ctxAddr
    have asked := (asked_fetchCtx (s := s.indexTaken r x) (r := r)
      (why := .reload r ((s.indexTaken r x).ring r).gen)).after_modRing.after recaches_touchHit
    rw [hgen, State.ctxRead, ha, ho] at asked
    refine ⟨_, _, _, (exec_doorbellIndex hf).trans (congrArg _ (State.bell_enabled_index ho hst hc hi)),
      (exec_doorbellDisable hf).trans (congrArg _ ((State.bell_enabled_disable ho hst hc).trans (State.bellDisable_enabled hst hi))),
      (exec_doorbellReload hf).trans (congrArg _ (State.bell_enabled_index ho hst hc hi)),
      State.ring_indexTaken, onlyRings_indexTaken, State.indexTaken_parts, State.host_indexTaken hc, ?_, ?_,
      onlyRings_trans onlyRings_drains onlyRings_writeBack, regs_writeBack regs_drains,
      (State.askRead_parts.ring (by decide) r).trans State.ring_indexTaken,
      onlyRings_trans onlyRings_indexTaken (State.askRead_parts.onlyRings (by decide)), ?_, ?_⟩
    · rw [hback, State.ring_drains]
    · rw [hback, State.ring_drains]
    · rw [doIf_false, doIf_true, hgen]
      exact asked.1
    · intro hq hm hl
      rw [doIf_false, doIf_true, hgen]
      exact (asked.2 hq hm hl).1
  case inconsistent =>
    intro f r x s hf ho hst hc hi
    exact ⟨_, (exec_doorbellIndex hf).trans (congrArg _ (State.bell_enabled_inconsistent ho hst hc hi)), State.st_ringError,
      onlyRings_trans onlyRings_indexTaken onlyRings_ringError,
      regs_ringError (fun _ h => h) (State.indexTaken_parts.onlyRegs (by decide))⟩
  case arm =>
    intro f r x s hf ho hst hc hi h0
    have bell : s.bell f r x false false false true = (s.indexTaken r x).modRing r (fun g => { g with armed := true }) := by
      rw [State.bell_enabled_index ho hst hc hi, doIf_false, doIf_true, State.arm_indexTaken h0]
    exact ⟨_, (exec_doorbellArm hf).trans (congrArg _ bell), State.ring_armed, onlyRings_armed, State.host_armed hc, State.armed_parts⟩
  case armDisabled =>
    intro f r x s hf ho hst
    exact ⟨_, (exec_doorbellArm hf).trans (congrArg _ (State.bell_disabled_arm ho hst)), State.ring_modRing_same,
      (ev_modRing (by decide) ev_refl).1⟩
  case disabled =>
    intro f r x arm s hf hst
    refine ⟨_, (exec_doorbellIndex hf).trans (congrArg _ (State.bell_disabled_bad hst (.inr (.inr rfl)))),
      (exec_doorbellDisable hf).trans (congrArg _ (State.bell_disabled_bad hst (.inl rfl))),
      (exec_doorbellReload hf).trans (congrArg _ (State.bell_disabled_bad hst (.inr (.inl rfl)))), exec_bar2BadWrite hf,
      State.rd_bump_same (by cases f <;> decide), regs_bump (by simp [HIF_FN_ERR_db_bad]) onlyRegs_refl,
      (ev_badBell (by decide) ev_refl).1⟩
  case bad =>
    intro f r x arm s hf h
    have enable : s.bell f r x true false false arm = s.badBell f := by
      rcases h with h | h
      · exact State.bell_foreign h
      · exact State.bell_enable_bad h
    exact ⟨_, (exec_doorbellEnable hf).trans (congrArg _ enable), exec_bar2BadWrite hf, fun ho =>
      ⟨(exec_doorbellIndex hf).trans (congrArg _ (State.bell_foreign ho)),
        (exec_doorbellArm hf).trans (congrArg _ (State.bell_foreign ho)),
        (exec_doorbellDisable hf).trans (congrArg _ (State.bell_foreign ho)),
        (exec_doorbellReload hf).trans (congrArg _ (State.bell_foreign ho))⟩⟩
  case dead =>
    intro f r x arm s hf
    have idle : ∀ g : State → State, doIf (s.barLive f) g s = s := fun g => by rw [hf, doIf_false]
    exact ⟨congrArg _ (idle _), congrArg _ (idle _)⟩
  case enabling =>
    intro f r x arm s hf ho hst
    refine ⟨_, _, _, (exec_doorbellIndex hf).trans (congrArg _ (State.bell_enabling ho hst)),
      (exec_doorbellArm hf).trans (congrArg _ (State.bell_enabling ho hst)),
      (exec_doorbellDisable hf).trans (congrArg _ (State.bell_enabling ho hst)), State.ring_holdBell, State.ring_holdBell,
      State.ring_holdBell, onlyRings_holdBell, onlyRings_holdBell, onlyRings_holdBell, State.holdBell_parts, State.holdBell_parts,
      State.holdBell_parts, ?_⟩
    rw [exec_doorbellReload hf, State.bell_enabling_reload ho hst, exec_bar2BadWrite hf]
  case draining =>
    intro f r x arm s hf ho hst hc
    refine ⟨_, (exec_doorbellIndex hf).trans (congrArg _ (State.bell_draining ho hst hc)), State.ring_indexTaken,
      onlyRings_indexTaken, State.host_indexTaken hc, State.indexTaken_parts, fun h0 => ?_, ?_, ?_⟩
    · have bell : s.bell f r x false false false true = (s.indexTaken r x).modRing r (fun g => { g with armed := true }) := by
        rw [State.bell_draining ho hst hc, doIf_true, State.arm_indexTaken h0]
      exact ⟨_, (exec_doorbellArm hf).trans (congrArg _ bell), State.ring_armed, onlyRings_armed, State.armed_parts⟩
    · rw [exec_doorbellDisable hf, State.bell_draining_bad hst (.inl rfl), exec_bar2BadWrite hf]
    · rw [exec_doorbellReload hf, State.bell_draining_bad hst (.inr rfl), exec_bar2BadWrite hf]
  case error =>
    intro f r x arm s hf ho hst h
    obtain ⟨d, b, hring⟩ := (s.touchHit r).ring_ringDisabled (r := r)
    rw [recaches_touchHit.ring] at hring
    refine ⟨_, (exec_doorbellDisable hf).trans (congrArg _ (State.bell_error_disable ho hst h)), ?_, ?_, ?_,
      onlyRings_trans recaches_touchHit.onlyRings onlyRings_ringDisabled,
      regs_ringDisabled (fun _ h => h) (State.touchHit_parts.onlyRegs (by decide)), ?_, ?_, ?_⟩
    · rw [hring]
    · rw [hring]
    · rw [hring]
    · rw [exec_doorbellIndex hf, State.bell_error_bad hst, exec_bar2BadWrite hf]
    · rw [exec_doorbellArm hf, State.bell_error_bad hst, exec_bar2BadWrite hf]
    · rw [exec_doorbellReload hf, State.bell_error_bad hst, exec_bar2BadWrite hf]
  case evicted =>
    rintro f r x arm s hf rfl hst hc hb hr
    obtain ⟨ring, asked, missed, rings, regs⟩ := State.held_and_asked (b := ⟨x, false, false, false⟩) hc hb hr
    have hst' := hst.imp_right (fun h => (⟨h, rfl, rfl⟩ : _ ∧ false = false ∧ false = false))
    refine ⟨_, (exec_doorbellIndex hf).trans (congrArg _ (State.bell_evicted rfl hst' hc)), ring, asked, missed, rings, regs,
      fun he => ?_⟩
    obtain ⟨ring, asked, -, -, -⟩ := State.held_and_asked (b := ⟨x, true, false, arm⟩) hc hb hr
    exact ⟨_, (exec_doorbellDisable hf).trans (congrArg _ (State.bell_evicted rfl (.inl he) hc)), ring, asked⟩
  case errorEvicted =>
    rintro f r x arm s hf rfl hst hx hc hb hr
    obtain ⟨ring, asked, missed, rings, regs⟩ := State.held_and_asked (b := ⟨x, true, false, arm⟩) hc hb hr
    exact ⟨_, (exec_doorbellDisable hf).trans (congrArg _ (State.bell_error_evicted rfl hst hx hc)), ring, asked, missed, rings,
      regs⟩

end Sys2Proof.Machine
end

section
/-! PROOFS. The states of a ring (R362, R363, R371, R374, R375): a context arrives, a ring is drained. -/

namespace Sys2Proof.Machine

variable {s t : State} {r e : RingId} {f : Func} {ws : List Word}

theorem exec_contextFetchDone (h : s.fabricReady = true) : exec (.contextFetchDone r) s = .next (s.ctxArrives r) :=
  congrArg _ (if_pos h)

/-- A doorbell's ring that nothing holds: a failed fetch gives ERROR and no more. -/
theorem State.releaseBells_failed (hst : (s.ring r).st ≠ .error) (hh : (s.ring r).held = []) :
    s.releaseBells r true = s.ringError r := by
  unfold State.releaseBells
  rw [hh, forAll_nil, if_pos ⟨rfl, hst⟩]

/-! ## A context arrives at an ENABLING ring -/

/-- The ring with its valid context, before its block is written. -/
def State.enables (s : State) (r : RingId) (ws : List Word) : State :=
  s.setRing r { s.ring r with st := .enabled, ctx := ws.take 8, gen := (s.ring r).gen + 1, fetched := none, held := [] }

theorem State.ctxArrives_valid (hst : (s.ring r).st = .enabling) (hf : (s.ring r).fetchFailed = false)
    (hw : (s.ring r).fetched = some ws) (hx : s.ctxWaits (ringOwner r) ws = false) (hv : s.ctxValid (ringOwner r) ws = true)
    (hh : (s.ring r).held = []) : s.ctxArrives r = ((s.enables r ws).writeBack r).takeIndex r (s.ring r).hostIdx := by
  unfold State.ctxArrives State.enables
  simp [hst, hf, hw, hx, hv, hh]

theorem State.ctxArrives_invalid (hst : (s.ring r).st = .enabling) (hw : (s.ring r).fetched = some ws)
    (hx : s.ctxWaits (ringOwner r) ws = false) (hv : s.ctxValid (ringOwner r) ws = false) :
    s.ctxArrives r = s.releaseBells r true := by
  unfold State.ctxArrives
  cases hf : (s.ring r).fetchFailed <;> simp [hst, hw, hx, hv]

/-- A CMD context whose completion ring's own context has been evicted waits for that. -/
theorem State.ctxArrives_waits (hst : (s.ring r).st = .enabling) (hf : (s.ring r).fetchFailed = false)
    (hw : (s.ring r).fetched = some ws) (hx : s.ctxWaits (ringOwner r) ws = true) :
    s.ctxArrives r = s.fetchAgain ((wordAt ws 1).extractLsb' 0 16) := by
  unfold State.ctxArrives
  simp [hst, hf, hw, hx]

/-! ## A ring that drains -/

theorem State.fetchAgain_parts : OnlyChanges [.regs, .host] s (s.fetchAgain r) :=
  (ev_fetchAgain (by decide) (by decide) ev_refl).1

theorem State.rings_fetchAgain : (s.fetchAgain r).rings = s.rings := State.fetchAgain_parts .rings (by decide)

/-- RING_DRAIN_DONE of a ring that is not drained, or of a device that is not ready, does nothing. -/
theorem exec_ringDrainDone_idle (h : (s.fabricReady && decide ((s.ring r).st = .draining) && s.drained r) = false) :
    exec (.ringDrainDone r) s = .next s := by
  show execRingDrainDone r s = .next s
  unfold execRingDrainDone
  rw [h, doIf_false]

theorem exec_ringDrainDone (hf : s.fabricReady = true) (hst : (s.ring r).st = .draining) (hd : s.drained r = true) :
    exec (.ringDrainDone r) s
      = .next (if s.lacksCtx r then s.fetchAgain r else (s.touchHit r).ringDisabled r) := by
  show execRingDrainDone r s = _
  unfold execRingDrainDone
  rw [hf, hst, hd]
  rfl

/-- A ring for which nothing waits and that owes no RING_LOSS is drained. -/
theorem State.drained_of_nothing (hl : (s.ring r).lossPending = false) (hr : ∀ c, c ∈ s.host.allRecs → c.ring ≠ r)
    (hc : ∀ c, c ∈ s.host.cpls → c.cplRing ≠ r ∧ c.cmd.ring ≠ r) (hm : ∀ c, c ∈ s.host.cmds → c.ref.ring ≠ r) :
    s.drained r = true := by
  have recs : s.host.allRecs.any (fun c => decide (c.ring = r) && c.kept) = false :=
    List.any_eq_false.mpr (fun c h => by simp [hr c h])
  have cpls : s.host.cpls.any (fun c => decide (c.cplRing = r)) = false :=
    List.any_eq_false.mpr (fun c h => by simp [(hc c h).1])
  have mine : s.host.cpls.any (fun c => decide (c.cmd.ring = r)) = false :=
    List.any_eq_false.mpr (fun c h => by simp [(hc c h).2])
  have cmds : s.host.cmds.any (fun c => decide (c.ref.ring = r)) = false :=
    List.any_eq_false.mpr (fun c h => by simp [hm c h])
  unfold State.drained State.owesLoss
  simp [hl, recs, cpls, mine, cmds]

/-- A CMD ring is not drained before the completions of its commands are written. -/
theorem State.drained_of_completion {c : Cpl} (hx : ctxClass (s.ring r).ctx = 0) (hc : c ∈ s.host.cpls) (hr : c.cmd.ring = r) :
    s.drained r = false := by
  have mine : s.host.cpls.any (fun c => decide (c.cmd.ring = r)) = true := List.any_eq_true.mpr ⟨c, hc, by simp [hr]⟩
  unfold State.drained
  simp [hx, mine]

/-- Nor is a ring that owes a RING_LOSS for which it has room. -/
theorem State.drained_of_loss (hst : (s.ring r).st = .draining) (hl : (s.ring r).lossPending = true)
    (he : s.evtRing (ringOwner r) ≠ r) (hu : leastUnits (ctxClass (s.ring r).ctx) ≤ s.freeUnits r)
    (hb : (s.fn (ringOwner r)).bme = true) : s.drained r = false := by
  have room : s.hasRoom r = true := decide_eq_true hu
  have owes : s.owesLoss r = true := by simp [State.owesLoss, hst, hl, he]
  unfold State.drained
  simp [room, owes, hb]

theorem State.fabricReady_of_xtalLost (h : s.clk.xtalLost = true) : s.fabricReady = false := by
  unfold State.fabricReady State.fabricLive
  simp [h]

/-- Settles O37: a context by what it is, a drained ring by what waits for it. -/
theorem ringStates : Obligations.RingStates := by
  unfold Obligations.RingStates
  refine ⟨?valid, ?invalid, ?drains, ?completion, ?other, ?xtal, ?loss, ?evicted, ?waits⟩
  case valid =>
    intro r ws s hf hst hff hw hx hv hh hi
    obtain ⟨d, b, hring⟩ := (s.enables r ws).ring_writeBack (r := r)
    rw [State.enables, State.ring_setRing_same, ← State.enables] at hring
    have taken := State.takeIndex_taken (s := (s.enables r ws).writeBack r) (r := r) (x := (s.ring r).hostIdx)
      (.inr (by rw [hring]; exact hi))
    refine ⟨_, (exec_contextFetchDone hf).trans (congrArg _ ((State.ctxArrives_valid hst hff hw hx hv hh).trans taken)),
      ?_, ?_, ?_, ?_, onlyRings_trans onlyRings_setRing (onlyRings_trans onlyRings_writeBack onlyRings_modRing),
      regs_modRing (regs_writeBack (regs_setRing onlyRegs_refl))⟩
    · rw [State.ring_modRing_same, hring]
    · rw [State.ring_modRing_same, hring]
    · rw [State.ring_modRing_same, hring]
    · rw [State.ring_modRing_same]
  case invalid =>
    intro r ws s hf hst hw hx hv hh
    have failed : s.ctxArrives r = s.ringError r :=
      (State.ctxArrives_invalid hst hw hx hv).trans (State.releaseBells_failed (by rw [hst]; decide) hh)
    exact ⟨_, (exec_contextFetchDone hf).trans (congrArg _ failed), State.st_ringError, onlyRings_ringError,
      regs_ringError (fun _ h => h) onlyRegs_refl⟩
  case drains =>
    intro r s hf hst hc hl hr hcpl hcmd
    have cached : s.lacksCtx r = false := by simp [State.lacksCtx, hc]
    have run := exec_ringDrainDone hf hst (State.drained_of_nothing hl hr hcpl hcmd)
    rw [cached] at run
    obtain ⟨d, b, hring⟩ := (s.touchHit r).ring_ringDisabled (r := r)
    refine ⟨_, run, ?_, ?_, onlyRings_trans recaches_touchHit.onlyRings onlyRings_ringDisabled,
      regs_ringDisabled (fun _ h => h) (State.touchHit_parts.onlyRegs (by decide))⟩
    · exact congrArg Ring.st hring
    · exact congrArg Ring.armed hring
  case completion =>
    intro r c s hst hx hc hr
    exact exec_ringDrainDone_idle (by rw [State.drained_of_completion hx hc hr, Bool.and_false])
  case other =>
    intro r s hst
    exact exec_ringDrainDone_idle (by simp [hst])
  case xtal =>
    intro r s hx
    have hf := State.fabricReady_of_xtalLost hx
    refine ⟨?_, exec_ringDrainDone_idle (by rw [hf, Bool.false_and, Bool.false_and])⟩
    show execContextFetchDone r s = .next s
    unfold execContextFetchDone
    rw [hf, doIf_false]
  case loss =>
    intro r s hst hl he hu hb
    exact exec_ringDrainDone_idle (by rw [State.drained_of_loss hst hl he hu hb, Bool.and_false])
  case evicted =>
    intro r s hf hst hc hb hroom hl hr hcpl hcmd
    have lacks : s.lacksCtx r = true := by simp [State.lacksCtx, hst, hc]
    have run := exec_ringDrainDone hf hst (State.drained_of_nothing hl hr hcpl hcmd)
    rw [lacks] at run
    exact ⟨_, run, State.rings_fetchAgain, (State.asked_fetchAgain hb hroom).1, regs_fetchAgain (by simp) onlyRegs_refl,
      State.fetchAgain_parts⟩
  case waits =>
    rintro r e ws s hf hst hff hw hx rfl ho he hc hb hroom
    have waits : s.ctxWaits (ringOwner r) ws = true := by simp [State.ctxWaits, State.evicted, hx, ho, he, hc]
    exact ⟨_, (exec_contextFetchDone hf).trans (congrArg _ (State.ctxArrives_waits hst hff hw waits)), State.rings_fetchAgain,
      (State.asked_fetchAgain hb hroom).1, State.rd_fetchAgain hc hb hroom, regs_fetchAgain (by simp) onlyRegs_refl,
      State.fetchAgain_parts⟩

end Sys2Proof.Machine
end

section
/-! PROOFS. DESCRIPTOR_CHECK (R384): which descriptors fail each of its checks, by the numbers of their words. -/

namespace Sys2Proof.Machine

variable {s : State} {f : Func} {ws : List Word} {w : Word} {lo n lo' n' : Nat}

/-! ## Reserved bits -/

/-- The word with n ones from bit lo up. -/
def blockOfOnes (lo n : Nat) : Word := (BitVec.allOnes n).setWidth 32 <<< lo

/-- A word has no bit in a block where the number that the block holds is 0. -/
theorem and_blockOfOnes (h : lo + n ≤ 32) : w &&& blockOfOnes lo n = 0 ↔ w.toNat / 2 ^ lo % 2 ^ n = 0 := by
  have number : (w.extractLsb' lo n).toNat = w.toNat / 2 ^ lo % 2 ^ n := by
    rw [BitVec.extractLsb'_toNat, Nat.shiftRight_eq_div_pow]
  have zero : w.toNat / 2 ^ lo % 2 ^ n = 0 ↔ w.extractLsb' lo n = 0 := by
    rw [← number, BitVec.toNat_eq]
    exact Iff.rfl
  rw [zero]
  constructor
  · intro hz
    refine BitVec.eq_of_getLsbD_eq (fun i hi => ?_)
    have bit := congrArg (fun v : Word => v.getLsbD (lo + i)) hz
    simp only [blockOfOnes, BitVec.getLsbD_and, BitVec.getLsbD_shiftLeft, BitVec.getLsbD_setWidth, BitVec.getLsbD_allOnes] at bit
    have h1 : lo + i < 32 := by omega
    have h2 : i < 32 := by omega
    simpa [hi, h1, h2] using bit
  · intro hz
    refine BitVec.eq_of_getLsbD_eq (fun i hi => ?_)
    simp only [blockOfOnes, BitVec.getLsbD_and, BitVec.getLsbD_shiftLeft, BitVec.getLsbD_setWidth, BitVec.getLsbD_allOnes]
    by_cases hlo : i < lo
    · simp [hlo]
    · by_cases hn : i - lo < n
      · have bit := congrArg (fun v => v.getLsbD (i - lo)) hz
        rw [BitVec.getLsbD_extractLsb'] at bit
        have hi' : lo + (i - lo) = i := by omega
        simp [hn, hi'] at bit
        simp [bit]
      · simp [hn]

/-- No bit is set outside a mask whose complement is one block. -/
theorem and_not_block {m : Word} (hm : ~~~ m = blockOfOnes lo n) (h : lo + n ≤ 32) :
    w &&& ~~~ m = 0 ↔ w.toNat / 2 ^ lo % 2 ^ n = 0 := by
  rw [hm]
  exact and_blockOfOnes h

/-- No bit is set outside a mask whose complement is two blocks. -/
theorem and_not_blocks {m : Word} (hm : ~~~ m = blockOfOnes lo n ||| blockOfOnes lo' n') (h : lo + n ≤ 32) (h' : lo' + n' ≤ 32) :
    w &&& ~~~ m = 0 ↔ w.toNat / 2 ^ lo % 2 ^ n = 0 ∧ w.toNat / 2 ^ lo' % 2 ^ n' = 0 := by
  rw [hm, BitVec.and_or_distrib_left]
  exact BitVec.or_eq_zero_iff.trans (and_congr (and_blockOfOnes h) (and_blockOfOnes h'))

/-- The bits of a descriptor's words that its opcode does not use are 0. -/
def reservedClear (op : Nat) (ws : List Word) : Bool := (List.range 8).all (fun i => wordAt ws i &&& ~~~ wordAt (usedBits op) i == 0)

theorem reservedClear_iff {op : Nat} {m0 m1 m2 m3 m4 m5 m6 m7 : Word} (h : usedBits op = [m0, m1, m2, m3, m4, m5, m6, m7]) :
    reservedClear op ws = true ↔ wordAt ws 0 &&& ~~~ m0 = 0 ∧ wordAt ws 1 &&& ~~~ m1 = 0 ∧ wordAt ws 2 &&& ~~~ m2 = 0
      ∧ wordAt ws 3 &&& ~~~ m3 = 0 ∧ wordAt ws 4 &&& ~~~ m4 = 0 ∧ wordAt ws 5 &&& ~~~ m5 = 0 ∧ wordAt ws 6 &&& ~~~ m6 = 0
      ∧ wordAt ws 7 &&& ~~~ m7 = 0 := by
  unfold reservedClear
  rw [h]
  simp [List.range_succ, wordAt]

theorem and_not_nothing : w &&& ~~~ (0 : Word) = 0 ↔ w.toNat = 0 := by
  rw [show ~~~ (0 : Word) = BitVec.allOnes 32 from by decide, BitVec.and_allOnes, BitVec.toNat_eq]
  exact Iff.rfl

theorem and_not_all : w &&& ~~~ (0xFFFFFFFF : Word) = 0 ↔ True := iff_true_intro (by simp)

theorem and_not_tagOpcode : w &&& ~~~ (0xFFFF00FF : Word) = 0 ↔ w.toNat / 2 ^ 8 % 2 ^ 8 = 0 := and_not_block (by decide) (by decide)

theorem and_not_low16 : w &&& ~~~ (0x0000FFFF : Word) = 0 ↔ w.toNat / 2 ^ 16 % 2 ^ 16 = 0 := and_not_block (by decide) (by decide)

theorem and_not_low9 : w &&& ~~~ (0x000001FF : Word) = 0 ↔ w.toNat / 2 ^ 9 % 2 ^ 23 = 0 := and_not_block (by decide) (by decide)

theorem and_not_low5 : w &&& ~~~ (0x0000001F : Word) = 0 ↔ w.toNat / 2 ^ 5 % 2 ^ 27 = 0 := and_not_block (by decide) (by decide)

theorem and_not_startWord : w &&& ~~~ (0x00033FFF : Word) = 0 ↔ w.toNat / 2 ^ 14 % 2 ^ 2 = 0 ∧ w.toNat / 2 ^ 18 % 2 ^ 14 = 0 :=
  and_not_blocks (by decide) (by decide) (by decide)

theorem and_not_txnWord : w &&& ~~~ (0x000301FF : Word) = 0 ↔ w.toNat / 2 ^ 9 % 2 ^ 7 = 0 ∧ w.toNat / 2 ^ 18 % 2 ^ 14 = 0 :=
  and_not_blocks (by decide) (by decide) (by decide)

theorem and_not_captureWord : w &&& ~~~ (0xFFFF011F : Word) = 0 ↔ w.toNat / 2 ^ 5 % 2 ^ 3 = 0 ∧ w.toNat / 2 ^ 9 % 2 ^ 7 = 0 :=
  and_not_blocks (by decide) (by decide) (by decide)

theorem and_not_countWord : w &&& ~~~ (0xFFFF1FFF : Word) = 0 ↔ w.toNat / 2 ^ 13 % 2 ^ 3 = 0 := and_not_block (by decide) (by decide)

theorem listAddr_eq : listAddr ws = (wordAt ws 4).toNat + 2 ^ 32 * (wordAt ws 5).toNat := by
  unfold listAddr joinWords
  rw [BitVec.toNat_append, ← Nat.shiftLeft_add_eq_or_of_lt (wordAt ws 4).isLt, Nat.shiftLeft_eq]
  omega

/-! ## The checks in their order -/

theorem wordsStatus_unknown (h : 9 < opcodeOf ws) : wordsStatus f ws = some stBAD_OPCODE := by
  have hk : opcodeKnown (opcodeOf ws) = false := decide_eq_false (by omega)
  simp [wordsStatus, hk]

theorem wordsStatus_denied (h : opcodeOf ws ≤ 9) (ha : opcodeAllowed f (opcodeOf ws) = false) :
    wordsStatus f ws = some stACCESS_DENIED := by
  have hk : opcodeKnown (opcodeOf ws) = true := decide_eq_true h
  simp [wordsStatus, hk, ha]

theorem wordsStatus_allowed (h : opcodeOf ws ≤ 9) (ha : opcodeAllowed f (opcodeOf ws) = true) :
    wordsStatus f ws = if reservedClear (opcodeOf ws) ws = true ∧ fieldsInRange ws = true then none else some stBAD_VALUE := by
  have hk : opcodeKnown (opcodeOf ws) = true := decide_eq_true h
  unfold wordsStatus reservedClear
  dsimp only
  rw [hk, ha]
  cases (List.range 8).all (fun i => wordAt ws i &&& ~~~ wordAt (usedBits (opcodeOf ws)) i == 0) <;> cases fieldsInRange ws <;> rfl

theorem State.descrStatus_of_words {st : Nat} (h : wordsStatus f ws = some st) : s.descrStatus f ws = some st := by
  simp [State.descrStatus, h]

/-- A descriptor that names no ring and passes the first three checks passes them all. -/
theorem State.descrStatus_unnamed (h : wordsStatus f ws = none) (hn : namedRing ws = none) : s.descrStatus f ws = none := by
  simp [State.descrStatus, h, hn]

/-- A descriptor that passes the first three checks is judged by the ring that it names. -/
theorem State.descrStatus_named {r : RingId} {cls : Nat} (h : wordsStatus f ws = none) (hn : namedRing ws = some (r, cls)) :
    s.descrStatus f ws
      = if ringOwner r = f ∧ (s.ring r).st = .enabled ∧ ctxClass (s.ring r).ctx = cls then none else some stBAD_RING := by
  simp [State.descrStatus, h, hn]

theorem State.descrStatus_ring_cases (h : wordsStatus f ws = none) :
    s.descrStatus f ws = none ∨ (s.descrStatus f ws = some stBAD_RING ∧ (namedRing ws).isSome = true) := by
  cases hn : namedRing ws with
  | none => exact .inl (State.descrStatus_unnamed h hn)
  | some p =>
    rw [State.descrStatus_named h hn]
    by_cases hr : ringOwner p.1 = f ∧ (s.ring p.1).st = .enabled ∧ ctxClass (s.ring p.1).ctx = p.2
    · exact .inl (if_pos hr)
    · exact .inr ⟨if_neg hr, rfl⟩

/-- A status of the first three checks is the descriptor's exactly where those give it. -/
theorem State.descrStatus_iff_words {st : Nat} (h : st ≠ stBAD_RING) :
    s.descrStatus f ws = some st ↔ wordsStatus f ws = some st := by
  cases hw : wordsStatus f ws with
  | some st' => rw [State.descrStatus_of_words hw]
  | none =>
    rcases State.descrStatus_ring_cases (s := s) hw with hd | ⟨hd, -⟩
    · simp [hd]
    · simp [hd, Ne.symm h]

theorem opcodeAllowed_pf1 : opcodeAllowed .pf1 (opcodeOf ws) = false ↔ opcodeOf ws ≠ 0 ∧ opcodeOf ws ≠ 9 ∧ opcodeOf ws ≠ 3
    ∧ opcodeOf ws ≠ 4 ∧ opcodeOf ws ≠ 5 ∧ opcodeOf ws ≠ 8 := by
  simp [opcodeAllowed, and_assoc]

theorem wordsStatus_eq_badOpcode : wordsStatus f ws = some stBAD_OPCODE ↔ 9 < opcodeOf ws := by
  refine ⟨fun h => ?_, wordsStatus_unknown⟩
  by_contra hle
  cases ha : opcodeAllowed f (opcodeOf ws) with
  | false => rw [wordsStatus_denied (by omega) ha] at h; exact absurd h (by decide)
  | true =>
    rw [wordsStatus_allowed (by omega) ha] at h
    split at h
    · exact absurd h (by decide)
    · exact absurd h (by decide)

theorem wordsStatus_eq_denied (hle : opcodeOf ws ≤ 9) :
    wordsStatus f ws = some stACCESS_DENIED ↔ opcodeAllowed f (opcodeOf ws) = false := by
  refine ⟨fun h => ?_, wordsStatus_denied hle⟩
  by_contra ha
  rw [wordsStatus_allowed hle (by simpa using ha)] at h
  split at h
  · exact absurd h (by decide)
  · exact absurd h (by decide)

theorem wordsStatus_eq_badValue (hle : opcodeOf ws ≤ 9) (ha : opcodeAllowed f (opcodeOf ws) = true) :
    wordsStatus f ws = some stBAD_VALUE ↔ ¬ (reservedClear (opcodeOf ws) ws = true ∧ fieldsInRange ws = true) := by
  rw [wordsStatus_allowed hle ha]
  split
  next h => simp [h]
  next h => simp [h]

/-! ## Reserved bits and ranges of each opcode (R380), by the numbers v i of the descriptor's words -/

/-- What the third check asks of every descriptor: bits 8 to 15 of word 0, and words 3, 6 and 7, are reserved. -/
def commonReserved (v : Nat → Nat) : Prop := v 0 / 2 ^ 8 % 2 ^ 8 = 0 ∧ v 3 = 0 ∧ v 6 = 0 ∧ v 7 = 0

/-- The third check passes. -/
def valuesPass (ws : List Word) : Prop := reservedClear (opcodeOf ws) ws = true ∧ fieldsInRange ws = true

section
variable {v : Nat → Nat} (hv : ∀ i, v i = (wordAt ws i).toNat)
include hv

theorem word_lt (i : Nat) : v i < 2 ^ 32 := by
  rw [hv]
  exact (wordAt ws i).isLt

theorem valuesPass_start (h : opcodeOf ws = 1) : valuesPass ws ↔ commonReserved v ∧ v 1 % 2 ^ 14 ≤ 8192 ∧ v 1 / 2 ^ 14 % 2 ^ 2 = 0
    ∧ v 1 / 2 ^ 16 % 2 ^ 2 ≠ 3 ∧ v 1 / 2 ^ 18 = 0 ∧ v 2 / 2 ^ 16 = 0 ∧ (v 4 + 2 ^ 32 * v 5) % 16 = 0 := by
  have b1 := word_lt hv 1
  have b2 := word_lt hv 2
  rw [valuesPass, h, reservedClear_iff rfl]
  simp only [and_not_tagOpcode, and_not_startWord, and_not_low16, and_not_nothing, and_not_all, fieldsInRange, h, listAddr_eq,
    bitsOf, commonReserved, ← hv, Bool.and_eq_true, decide_eq_true_eq, beq_iff_eq, true_and]
  omega

theorem valuesPass_txn (h : opcodeOf ws = 4) : valuesPass ws ↔ commonReserved v ∧ v 1 % 512 ≠ 0 ∧ v 1 % 512 ≤ 256
    ∧ v 1 / 2 ^ 9 % 2 ^ 7 = 0 ∧ v 1 / 2 ^ 16 % 2 ^ 2 ≠ 3 ∧ v 1 / 2 ^ 18 = 0 ∧ v 2 / 2 ^ 16 = 0
    ∧ (v 4 + 2 ^ 32 * v 5) % 16 = 0 := by
  have b1 := word_lt hv 1
  have b2 := word_lt hv 2
  rw [valuesPass, h, reservedClear_iff rfl]
  simp only [and_not_tagOpcode, and_not_txnWord, and_not_low16, and_not_nothing, and_not_all, fieldsInRange, h, listAddr_eq,
    bitsOf, commonReserved, ← hv, Bool.and_eq_true, decide_eq_true_eq, beq_iff_eq, true_and]
  omega

theorem valuesPass_snapshot (h : opcodeOf ws = 5) : valuesPass ws ↔ commonReserved v ∧ v 1 % 512 ≠ 0 ∧ v 1 % 512 ≤ 256
    ∧ v 1 / 2 ^ 9 = 0 ∧ v 2 / 2 ^ 16 = 0 ∧ (v 4 + 2 ^ 32 * v 5) % 4 = 0 := by
  have b1 := word_lt hv 1
  have b2 := word_lt hv 2
  rw [valuesPass, h, reservedClear_iff rfl]
  simp only [and_not_tagOpcode, and_not_low9, and_not_low16, and_not_nothing, and_not_all, fieldsInRange, h, listAddr_eq,
    bitsOf, commonReserved, ← hv, Bool.and_eq_true, decide_eq_true_eq, beq_iff_eq, true_and]
  omega

theorem valuesPass_dump (h : opcodeOf ws = 6) : valuesPass ws ↔ commonReserved v ∧ v 1 / 2 ^ 16 ≠ 0 ∧ v 1 / 2 ^ 5 % 2 ^ 3 = 0
    ∧ v 1 / 2 ^ 9 % 2 ^ 7 = 0 ∧ v 2 % 2 ^ 16 ≠ 0 ∧ v 4 = 0 ∧ v 5 = 0 := by
  have b1 := word_lt hv 1
  rw [valuesPass, h, reservedClear_iff rfl]
  simp only [and_not_tagOpcode, and_not_captureWord, and_not_nothing, and_not_all, fieldsInRange, h,
    bitsOf, commonReserved, ← hv, Bool.and_eq_true, bne_iff_ne, true_and]
  omega

theorem valuesPass_capture (h : opcodeOf ws = 7) : valuesPass ws ↔ commonReserved v ∧ v 1 / 2 ^ 16 ≠ 0
    ∧ v 1 / 2 ^ 5 % 2 ^ 3 = 0 ∧ v 1 / 2 ^ 9 % 2 ^ 7 = 0 ∧ v 2 % 2 ^ 13 ≠ 0 ∧ v 2 % 2 ^ 13 ≤ 4096 ∧ v 2 / 2 ^ 13 % 2 ^ 3 = 0
    ∧ v 4 = 0 ∧ v 5 = 0 := by
  have b1 := word_lt hv 1
  rw [valuesPass, h, reservedClear_iff rfl]
  simp only [and_not_tagOpcode, and_not_captureWord, and_not_countWord, and_not_nothing, fieldsInRange, h,
    bitsOf, commonReserved, ← hv, Bool.and_eq_true, bne_iff_ne, decide_eq_true_eq]
  omega

theorem valuesPass_convert (h : opcodeOf ws = 8) : valuesPass ws ↔ commonReserved v ∧ v 1 / 2 ^ 5 = 0 ∧ v 2 = 0 ∧ v 4 = 0
    ∧ v 5 = 0 := by
  have b1 := word_lt hv 1
  rw [valuesPass, h, reservedClear_iff rfl]
  simp only [and_not_tagOpcode, and_not_low5, and_not_nothing, fieldsInRange, h, commonReserved, ← hv, and_true]
  omega

/-- NOP, STOP, TRIGGER and FENCE use no word but the first. -/
theorem valuesPass_plain (h : opcodeOf ws = 0 ∨ opcodeOf ws = 2 ∨ opcodeOf ws = 3 ∨ opcodeOf ws = 9) :
    valuesPass ws ↔ commonReserved v ∧ v 1 = 0 ∧ v 2 = 0 ∧ v 4 = 0 ∧ v 5 = 0 := by
  have used : usedBits (opcodeOf ws) = [0xFFFF00FF, 0, 0, 0, 0, 0, 0, 0] := by rcases h with h | h | h | h <;> rw [h] <;> rfl
  have range : fieldsInRange ws = true := by rcases h with h | h | h | h <;> simp [fieldsInRange, h]
  rw [valuesPass, reservedClear_iff used, range]
  simp only [and_not_tagOpcode, and_not_nothing, commonReserved, ← hv, and_true]
  omega

end

/-- The third check fails exactly for a reserved field that is not 0 or a value out of its range. -/
theorem not_valuesPass_iff {v : Nat → Nat} (hv : ∀ i, v i = (wordAt ws i).toNat) (hop : opcodeOf ws ≤ 9) :
    ¬ valuesPass ws ↔ v 0 / 2 ^ 8 % 2 ^ 8 ≠ 0 ∨ v 3 ≠ 0 ∨ v 6 ≠ 0 ∨ v 7 ≠ 0
      ∨ (opcodeOf ws = 1 ∧ (8192 < v 1 % 2 ^ 14 ∨ v 1 / 2 ^ 14 % 2 ^ 2 ≠ 0 ∨ v 1 / 2 ^ 16 % 2 ^ 2 = 3 ∨ v 1 / 2 ^ 18 ≠ 0
          ∨ v 2 / 2 ^ 16 ≠ 0 ∨ (v 4 + 2 ^ 32 * v 5) % 16 ≠ 0))
      ∨ (opcodeOf ws = 4 ∧ (v 1 % 512 = 0 ∨ 256 < v 1 % 512 ∨ v 1 / 2 ^ 9 % 2 ^ 7 ≠ 0 ∨ v 1 / 2 ^ 16 % 2 ^ 2 = 3 ∨ v 1 / 2 ^ 18 ≠ 0
          ∨ v 2 / 2 ^ 16 ≠ 0 ∨ (v 4 + 2 ^ 32 * v 5) % 16 ≠ 0))
      ∨ (opcodeOf ws = 5 ∧ (v 1 % 512 = 0 ∨ 256 < v 1 % 512 ∨ v 1 / 2 ^ 9 ≠ 0 ∨ v 2 / 2 ^ 16 ≠ 0
          ∨ (v 4 + 2 ^ 32 * v 5) % 4 ≠ 0))
      ∨ (opcodeOf ws = 6 ∧ (v 1 / 2 ^ 16 = 0 ∨ v 1 / 2 ^ 5 % 2 ^ 3 ≠ 0 ∨ v 1 / 2 ^ 9 % 2 ^ 7 ≠ 0 ∨ v 2 % 2 ^ 16 = 0
          ∨ v 4 ≠ 0 ∨ v 5 ≠ 0))
      ∨ (opcodeOf ws = 7 ∧ (v 1 / 2 ^ 16 = 0 ∨ v 1 / 2 ^ 5 % 2 ^ 3 ≠ 0 ∨ v 1 / 2 ^ 9 % 2 ^ 7 ≠ 0 ∨ v 2 % 2 ^ 13 = 0
          ∨ 4096 < v 2 % 2 ^ 13 ∨ v 2 / 2 ^ 13 % 2 ^ 3 ≠ 0 ∨ v 4 ≠ 0 ∨ v 5 ≠ 0))
      ∨ (opcodeOf ws = 8 ∧ (v 1 / 2 ^ 5 ≠ 0 ∨ v 2 ≠ 0 ∨ v 4 ≠ 0 ∨ v 5 ≠ 0))
      ∨ ((opcodeOf ws = 0 ∨ opcodeOf ws = 2 ∨ opcodeOf ws = 3 ∨ opcodeOf ws = 9)
          ∧ (v 1 ≠ 0 ∨ v 2 ≠ 0 ∨ v 4 ≠ 0 ∨ v 5 ≠ 0)) := by
  have op : opcodeOf ws = 1 ∨ opcodeOf ws = 4 ∨ opcodeOf ws = 5 ∨ opcodeOf ws = 6 ∨ opcodeOf ws = 7 ∨ opcodeOf ws = 8
      ∨ (opcodeOf ws = 0 ∨ opcodeOf ws = 2 ∨ opcodeOf ws = 3 ∨ opcodeOf ws = 9) := by omega
  rcases op with h | h | h | h | h | h | h
  · rw [valuesPass_start hv h, commonReserved]
    simp only [h, Nat.reduceEqDiff, false_and, or_false, true_and, reduceCtorEq]
    omega
  · rw [valuesPass_txn hv h, commonReserved]
    simp only [h, Nat.reduceEqDiff, false_and, or_false, false_or, true_and, reduceCtorEq]
    omega
  · rw [valuesPass_snapshot hv h, commonReserved]
    simp only [h, Nat.reduceEqDiff, false_and, or_false, false_or, true_and, reduceCtorEq]
    omega
  · rw [valuesPass_dump hv h, commonReserved]
    simp only [h, Nat.reduceEqDiff, false_and, or_false, false_or, true_and, reduceCtorEq]
    omega
  · rw [valuesPass_capture hv h, commonReserved]
    simp only [h, Nat.reduceEqDiff, false_and, or_false, false_or, true_and, reduceCtorEq]
    omega
  · rw [valuesPass_convert hv h, commonReserved]
    simp only [h, Nat.reduceEqDiff, false_and, or_false, false_or, true_and, reduceCtorEq]
    omega
  · have others : opcodeOf ws ≠ 1 ∧ opcodeOf ws ≠ 4 ∧ opcodeOf ws ≠ 5 ∧ opcodeOf ws ≠ 6 ∧ opcodeOf ws ≠ 7 ∧ opcodeOf ws ≠ 8 := by
      omega
    rw [valuesPass_plain hv h, commonReserved]
    simp only [h, others, false_and, false_or, true_and]
    omega

end Sys2Proof.Machine
end

section
/-! PROOFS. Descriptors on their way (R363, R380 to R384, R392): the read that gives one, its acceptance, the fetch of an evicted
context and the doorbells that it releases. -/

namespace Sys2Proof.Machine

variable {s t u : State} {r e q : RingId} {f : Func} {ws : List Word} {ref : CmdRef} {c : Cmd} {st n : Nat}

/-! ## Parts that stay -/

theorem onlyChanges_modHost {g : HostIf → HostIf} : OnlyChanges [.host] s (s.modHost g) := by
  intro p hp
  cases p
  case host => exact absurd (List.mem_singleton.mpr rfl) hp
  all_goals rfl

theorem onlyChanges_modRing {g : Ring → Ring} : OnlyChanges [.rings] s (s.modRing r g) := by
  intro p hp
  cases p
  case rings => exact absurd (List.mem_singleton.mpr rfl) hp
  all_goals rfl

theorem onlyChanges_trans {L M : List Part} (h : OnlyChanges L s t) (g : OnlyChanges M t u) : OnlyChanges (L ++ M) s u :=
  fun p hp => Part.same_trans (h p (fun hl => hp (List.mem_append_left M hl))) (g p (fun hm => hp (List.mem_append_right L hm)))

/-! ## A command that makes no progress -/

/-- A command that fails completes with its status; a CFG_TXN gives the epoch. -/
theorem completed_failed (hc : s.cmd? ref = some c) :
    Completed s (s.fail ref st) c st 0 (if opcodeOf c.words = 0x04 then s.epoch else 0) := by
  have dwells : (if (s.cmd? ref).any (fun c => opcodeOf c.words == 0x04) then s.epoch else 0)
      = if opcodeOf c.words = 0x04 then s.epoch else 0 := by simp [hc]
  rw [State.fail, dwells]
  exact completed_completeOpt rfl hc

theorem State.fail_parts : OnlyChanges [.host] s (s.fail ref st) := (ev_fail (by decide) ev_refl).1

/-! ## Uses of cached contexts -/

/-- From s to t contexts were used: the order of the cache changed, and nothing else. -/
def Uses (s t : State) : Prop := OnlyChanges [.host] s t ∧ ∃ x, t.host = { s.host with lru := x }

theorem uses_refl : Uses s s := ⟨fun p _ => ev_refl.1 p List.not_mem_nil, _, rfl⟩

theorem uses_trans (h : Uses s t) (g : Uses t u) : Uses s u := by
  obtain ⟨hp, x, hx⟩ := h
  obtain ⟨gp, y, hy⟩ := g
  exact ⟨fun p hn => Part.same_trans (hp p hn) (gp p hn), y, by rw [hy, hx]⟩

theorem uses_touchHit : Uses s (s.touchHit r) := ⟨State.touchHit_parts, recaches_touchHit.2.2⟩

theorem Uses.ring (h : Uses s t) (r : RingId) : t.ring r = s.ring r := h.1.ring (by decide) r

theorem Uses.regs (h : Uses s t) {l : List Nat} : OnlyRegs l s t := h.1.onlyRegs (by decide)

theorem Uses.master (h : Uses s t) : t.master f = s.master f := by
  obtain ⟨parts, x, hx⟩ := h
  refine State.master_congr (parts.flag (by decide) _) ?_
  cases f <;> simp [State.fn, hx]

/-- A read asked for after such uses is asked for as before them. -/
theorem Asked.after_uses {x : HostRead} (h : Uses s t) (g : Asked x t u) : Asked x s u := by
  have hm : t.master x.func = s.master x.func := h.master
  obtain ⟨-, y, hy⟩ := h
  obtain ⟨gmem, gone⟩ := g
  rw [hm, hy] at gone
  exact ⟨gmem, gone⟩

/-! ## The acceptance of a descriptor (R383, R384) -/

/-- The command that the ring's next descriptor gives. -/
def State.newCmd (s : State) (r : RingId) (ws : List Word) : Cmd :=
  ⟨⟨r, (s.ring r).devIdx, (s.ring r).gen⟩, (s.ring r).cplRing, ringOwner r, ws, [], .reading, false, SeqTrack.none⟩

/-- The ring that a descriptor names is used. -/
def State.usesNamed (s : State) (ws : List Word) : State :=
  forAll ((namedRing ws).toList.map (fun p => p.1)) (fun t n => t.touchHit n) s

/-- The state that a descriptor is checked in: the ring that it names is used, its command stands last, its ring has moved on. -/
def State.admits (s : State) (r : RingId) (ws : List Word) : State :=
  ((s.usesNamed ws).modHost (fun h => { h with cmds := h.cmds ++ [s.newCmd r ws] })).takeDescr r

theorem State.acceptDescr_fails (hop : opcodeOf ws ≠ 0x09) (hs : s.descrStatus (ringOwner r) ws = some st) :
    s.acceptDescr r ws = (s.admits r ws).fail (s.newCmd r ws).ref st := by
  have fence : (opcodeOf ws == 0x09) = false := beq_eq_false_iff_ne.mpr hop
  unfold State.acceptDescr
  dsimp only
  rw [fence, hs]
  rfl

theorem State.acceptDescr_passes (hop : opcodeOf ws ≠ 0x09) (hs : s.descrStatus (ringOwner r) ws = none) :
    s.acceptDescr r ws = (s.admits r ws).readList (s.newCmd r ws) := by
  have fence : (opcodeOf ws == 0x09) = false := beq_eq_false_iff_ne.mpr hop
  unfold State.acceptDescr
  dsimp only
  rw [fence, hs]
  rfl

theorem uses_usesNamed : Uses s (s.usesNamed ws) :=
  forAll_induction (P := Uses s) uses_refl (fun _ _ _ h => uses_trans h uses_touchHit)

theorem State.admits_parts : OnlyChanges [.host, .host, .rings] s (s.admits r ws) :=
  onlyChanges_trans uses_usesNamed.1 (onlyChanges_trans onlyChanges_modHost onlyChanges_modRing)

theorem State.host_admits : (s.admits r ws).host.cmds = s.host.cmds ++ [s.newCmd r ws] ∧ (s.admits r ws).host.cpls = s.host.cpls := by
  obtain ⟨-, x, hx⟩ := uses_usesNamed (s := s) (ws := ws)
  simp [State.admits, State.takeDescr, hx]

theorem State.ring_admits : (s.admits r ws).ring r = { s.ring r with devIdx := (s.ring r).devIdx + 1, wbDue := true } := by
  simp [State.admits, State.takeDescr, uses_usesNamed.ring]

theorem onlyRings_admits : OnlyRings [r] s (s.admits r ws) :=
  onlyRings_trans (uses_usesNamed.1.onlyRings (by decide)) (fun q hq => onlyRings_modRing q hq)

/-- The new command is the one under its reference, where no other has it. -/
theorem State.cmd?_admits (hn : ∀ c, c ∈ s.host.cmds → c.ref ≠ (s.newCmd r ws).ref) :
    (s.admits r ws).cmd? (s.newCmd r ws).ref = some (s.newCmd r ws) := by
  have none : s.host.cmds.find? (fun c => decide (c.ref = (s.newCmd r ws).ref)) = none :=
    List.find?_eq_none.mpr (fun c h => by simp [hn c h])
  rw [State.cmd?, State.host_admits.1, List.find?_append, none]
  simp

/-- A descriptor that fails its checks is completed with the status; no command stays. -/
theorem State.host_acceptDescr_fails (hop : opcodeOf ws ≠ 0x09) (hs : s.descrStatus (ringOwner r) ws = some st)
    (hn : ∀ c, c ∈ s.host.cmds → c.ref ≠ (s.newCmd r ws).ref) : (s.acceptDescr r ws).host.cmds = s.host.cmds
    ∧ (s.acceptDescr r ws).host.cpls = s.host.cpls ++ [⟨(s.ring r).cplRing, st, ws, (s.newCmd r ws).ref, 0,
        if opcodeOf ws = 0x04 then s.epoch else 0, SeqTrack.none, s.epoch⟩] := by
  have epoch : (s.admits r ws).epoch = s.epoch := State.admits_parts.reg (by decide) GLB_EPOCH
  obtain ⟨cmds, cpls⟩ := completed_failed (st := st) (State.cmd?_admits hn)
  rw [State.acceptDescr_fails hop hs, cmds, cpls, State.host_admits.1, State.host_admits.2, epoch]
  refine ⟨?_, rfl⟩
  rw [List.filter_append, List.filter_eq_self.mpr (fun c h => decide_eq_true (hn c h))]
  simp

/-- One that passes them and names no list waits for its block. -/
theorem State.host_acceptDescr_ready (hop : opcodeOf ws ≠ 0x09) (hs : s.descrStatus (ringOwner r) ws = none) (hl : listWords ws = 0)
    (hn : ∀ c, c ∈ s.host.cmds → c.ref ≠ (s.newCmd r ws).ref) :
    (s.acceptDescr r ws).host.cmds = s.host.cmds ++ [{ s.newCmd r ws with stage := .readyList }]
    ∧ (s.acceptDescr r ws).host.cpls = s.host.cpls := by
  have ready : (s.admits r ws).readList (s.newCmd r ws) = (s.admits r ws).modHost (fun h => { h with
      cmds := h.cmds.map (fun d => if d.ref = (s.newCmd r ws).ref then { d with stage := .readyList } else d) }) :=
    if_pos (show listWords ws - 0 = 0 by rw [hl])
  rw [State.acceptDescr_passes hop hs, ready]
  refine ⟨?_, (State.host_admits (r := r) (ws := ws)).2⟩
  show (s.admits r ws).host.cmds.map _ = _
  rw [State.host_admits.1, List.map_append]
  refine congrArg₂ _ ?_ (by simp)
  exact (List.map_congr_left (fun d hd => if_neg (hn d hd))).trans (List.map_id' _)

theorem State.ring_acceptDescr (hop : opcodeOf ws ≠ 0x09) :
    (∀ q, (s.acceptDescr r ws).ring q = (s.admits r ws).ring q) ∧ OnlyRegs [] s (s.acceptDescr r ws) := by
  have regs : OnlyRegs [] s (s.admits r ws) := State.admits_parts.onlyRegs (by decide)
  cases hs : s.descrStatus (ringOwner r) ws with
  | some st =>
    rw [State.acceptDescr_fails hop hs]
    exact ⟨State.fail_parts.ring (by decide), regs_fail regs⟩
  | none =>
    have parts : OnlyChanges [.host] (s.admits r ws) ((s.admits r ws).readList (s.newCmd r ws)) :=
      (ev_readList (by decide) ev_refl).1
    rw [State.acceptDescr_passes hop hs]
    exact ⟨parts.ring (by decide), onlyRegs_trans regs (parts.onlyRegs (by decide))⟩

/-! ## The end of a read (R392) -/

theorem State.dropRead_eq : ∃ a b, s.dropRead = s.modHost (fun h => { h with reads := a, readQ := b }) := ⟨_, _, rfl⟩

theorem exec_hostRead_data {h : HostRead} {bs : List Byte} (hf : s.fabricReady = true) (ho : s.oldestRead = some h)
    (hl : s.flag HIF_LINK_up = true) (hb : bs.length = h.bytes) :
    exec (.hostReadCompletion (.data bs)) s = .next (s.dropRead.readData h.purpose (bytesWords bs)) := by
  show execHostReadCompletion (.data bs) s = _
  unfold execHostReadCompletion
  rw [ho]
  simp [hf, hl, hb]

/-- The state in which a failed read is counted. -/
def State.readFailed (s : State) (h : HostRead) (k : ReadFail) : State :=
  doIf (decide (k = .poisoned)) (fun u => u.noteAer h.func 12) s.dropRead

theorem exec_hostRead_failed {h : HostRead} {k : ReadFail} (hf : s.fabricReady = true) (ho : s.oldestRead = some h)
    (hl : s.flag HIF_LINK_up = true) : exec (.hostReadCompletion (.failed k)) s = .next ((s.readFailed h k).readFails h) := by
  show execHostReadCompletion (.failed k) s = _
  unfold execHostReadCompletion
  rw [ho]
  simp [hf, hl, State.readFailed]

theorem exec_completionTimeout {h : HostRead} (hf : s.fabricReady = true) (ho : s.oldestRead = some h) :
    exec .completionTimeout s = .next ((((s.dropRead.noteAer h.func 14).bump (HIF_FN_ERR_cpl_tmo (fnIdx h.func)) 1).readFails
      h).detect 0x0D 6 (fnIdx h.func) 0 0 (elemFn (fnIdx h.func))) := by
  show execCompletionTimeout s = _
  unfold execCompletionTimeout
  rw [ho]
  simp [hf]

/-- From s to t only reads and configuration space changed. -/
def ReadEnds (s t : State) : Prop :=
  OnlyChanges [.host] s t ∧ t.host.lru = s.host.lru ∧ t.host.cmds = s.host.cmds ∧ t.host.cpls = s.host.cpls

theorem readEnds_dropRead : ReadEnds s s.dropRead := by
  obtain ⟨a, b, hd⟩ := s.dropRead_eq
  rw [hd]
  exact ⟨onlyChanges_modHost, rfl, rfl, rfl⟩

theorem readEnds_noteAer {g : Func} {bit : Nat} (h : ReadEnds s t) : ReadEnds s (t.noteAer g bit) := by
  obtain ⟨parts, lru, cmds, cpls⟩ := h
  refine ⟨fun p hp => Part.same_trans (parts p hp) ((ev_noteAer (L := [.host]) (by decide) ev_refl).1 p hp), ?_⟩
  cases g
  · exact ⟨lru, cmds, cpls⟩
  · exact ⟨lru, cmds, cpls⟩

theorem readEnds_readFailed {h : HostRead} {k : ReadFail} : ReadEnds s (s.readFailed h k) :=
  doIf_induction (P := ReadEnds s) readEnds_dropRead (fun h => readEnds_noteAer h)

theorem ReadEnds.ring (h : ReadEnds s t) (r : RingId) : t.ring r = s.ring r := h.1.ring (by decide) r
theorem ReadEnds.regs (h : ReadEnds s t) {l : List Nat} : OnlyRegs l s t := h.1.onlyRegs (by decide)
theorem ReadEnds.cached (h : ReadEnds s t) (r : RingId) : t.cached r = s.cached r := by
  unfold State.cached
  rw [h.2.1]

theorem ReadEnds.descrStatus (h : ReadEnds s t) : t.descrStatus f ws = s.descrStatus f ws := by
  unfold State.descrStatus
  simp only [h.ring]

theorem ReadEnds.descrNeeds (h : ReadEnds s t) : t.descrNeeds f ws = s.descrNeeds f ws := by
  unfold State.descrNeeds State.evicted
  simp only [h.ring, h.cached]

theorem ReadEnds.newCmd (h : ReadEnds s t) : t.newCmd r ws = s.newCmd r ws := by
  unfold State.newCmd
  rw [h.ring]

theorem ReadEnds.epoch (h : ReadEnds s t) : t.epoch = s.epoch := h.1.reg (by decide) GLB_EPOCH

/-- The descriptor of a ring that is still as it was when the read was asked for. -/
theorem State.readData_descriptor {x : RingId} (hst : (s.ring r).st = .enabled) :
    s.readData (.descriptor r (s.ring r).gen x) ws = s.descrArrives r ws := by
  unfold State.readData
  simp [hst]

theorem State.descrArrives_accepts (h : s.descrNeeds (ringOwner r) ws = none) : s.descrArrives r ws = s.acceptDescr r ws := by
  unfold State.descrArrives
  rw [h]

theorem State.descrArrives_waits (h : s.descrNeeds (ringOwner r) ws = some e) :
    s.descrArrives r ws = (s.modRing r (fun g => { g with descrHeld := some ws })).fetchAgain e := by
  unfold State.descrArrives
  rw [h]

/-! ## The context of a ring that had been evicted arrives -/

/-- The ring's context is cached again, and no doorbell waits any more. -/
def State.refetched (s : State) (r : RingId) (ws : List Word) : State :=
  ((s.touch r).modRing r (fun g => { g with ctx := ws.take 8 })).modRing r (fun g => { g with held := [] })

theorem State.readData_again
    (hst : (s.ring r).st = .enabled ∨ (s.ring r).st = .draining ∨ (s.ring r).st = .error) :
    s.readData (.again r (s.ring r).gen) ws = forAll (s.ring r).held (fun t h => t.heldBell r h) (s.refetched r ws) := by
  have still : s.ringStill r (s.ring r).gen = true := by
    unfold State.ringStill
    rcases hst with h | h | h <;> simp [h]
  unfold State.readData State.releaseBells State.refetched
  simp [still, recaches_touch.ring]

/-- A context takes a free place of the cache. -/
theorem State.touch_free (hc : s.cached r = false) (hl : s.host.lru.length < 512) :
    s.touch r = s.modHost (fun h => { h with lru := h.lru ++ [r.toNat] }) := by
  unfold State.touch
  simp [hc, hl, State.modHost]

theorem State.ring_refetched : (s.refetched r ws).ring r = { s.ring r with ctx := ws.take 8, held := [] } := by
  rw [State.refetched, State.ring_modRing_same, State.ring_modRing_same, recaches_touch.ring]

theorem onlyRings_refetched : OnlyRings [r] s (s.refetched r ws) :=
  onlyRings_trans (recaches_touch.onlyRings) (onlyRings_trans onlyRings_modRing onlyRings_modRing)

theorem State.host_refetched (hc : s.cached r = false) (hl : s.host.lru.length < 512) :
    (s.refetched r ws).host = { s.host with lru := s.host.lru ++ [r.toNat] } := by
  rw [State.refetched, State.touch_free hc hl]
  rfl

theorem regs_refetched (hc : s.cached r = false) (hl : s.host.lru.length < 512) : OnlyRegs [] s (s.refetched r ws) := by
  rw [State.refetched, State.touch_free hc hl]
  exact regs_modRing (regs_modRing (regs_modHost onlyRegs_refl))

theorem State.cached_refetched (hc : s.cached r = false) (hl : s.host.lru.length < 512) : (s.refetched r ws).cached r = true := by
  unfold State.cached
  rw [State.host_refetched hc hl]
  simp

/-! ## A doorbell leaves the context that its ring has -/

variable {b : HeldBell} {x : Word} {di re arm : Bool}

/-- Ring r has its context ws in the cache. -/
def HoldsCtx (r : RingId) (ws : List Word) (s : State) : Prop := s.cached r = true ∧ (s.ring r).ctx = ws

theorem HoldsCtx.of_same (h : HoldsCtx r ws s) (hl : t.host.lru = s.host.lru) (hc : (t.ring r).ctx = (s.ring r).ctx) :
    HoldsCtx r ws t := by
  unfold HoldsCtx State.cached at *
  rw [hl, hc]
  exact h

theorem holdsCtx_modRing {g : Ring → Ring} (hg : ∀ v, (g v).ctx = v.ctx) (h : HoldsCtx r ws s) : HoldsCtx r ws (s.modRing r g) :=
  h.of_same rfl (by rw [State.ring_modRing_same, hg])

theorem holdsCtx_touchHit (h : HoldsCtx r ws s) : HoldsCtx r ws (s.touchHit r) :=
  ⟨State.cached_touchHit.trans h.1, by rw [recaches_touchHit.ring]; exact h.2⟩

theorem holdsCtx_modHost {g : HostIf → HostIf} (hg : ∀ v, (g v).lru = v.lru) (h : HoldsCtx r ws s) : HoldsCtx r ws (s.modHost g) :=
  h.of_same (hg s.host) rfl

theorem State.host_writeBack : (s.writeBack r).host = s.host := State.writeBack_parts .host (by decide)

theorem holdsCtx_writeBack (h : HoldsCtx r ws s) : HoldsCtx r ws (s.writeBack r) := by
  obtain ⟨d, b, hr⟩ := s.ring_writeBack (r := r)
  exact h.of_same (congrArg HostIf.lru State.host_writeBack) (by rw [hr])

theorem State.lru_eventTo {g : Func} {d : List Word} : (s.eventTo g d).host.lru = s.host.lru := by
  unfold State.eventTo State.pushRec
  split
  · simp only [State.modHost_keeps]
    split
    · rfl
    · rfl
  · rfl

theorem State.lru_queueEvent {d : List Word} : (s.queueEvent d).host.lru = s.host.lru := by
  unfold State.queueEvent
  repeat' split
  all_goals rfl

theorem State.lru_postRing {ty : Nat} {d : List Word} : (s.postRing ty r d).host.lru = s.host.lru := by
  unfold State.postRing
  split
  · rw [State.lru_queueEvent, State.lru_eventTo]
  · rfl

theorem holdsCtx_dropFence (h : HoldsCtx r ws s) : HoldsCtx r ws (s.dropFence r) := by
  unfold State.dropFence
  exact holdsCtx_modRing (fun _ => rfl) (holdsCtx_modHost (fun _ => rfl) h)

theorem holdsCtx_ringError (h : HoldsCtx r ws s) : HoldsCtx r ws (s.ringError r) := by
  obtain ⟨d, b, hr⟩ := s.ring_ringError (r := r)
  refine h.of_same (State.lru_postRing.trans ?_) (by rw [hr])
  split
  · exact (congrArg HostIf.lru State.host_writeBack).trans rfl
  · rfl

theorem holdsCtx_ringDisabled (h : HoldsCtx r ws s) : HoldsCtx r ws (s.ringDisabled r) := by
  obtain ⟨d, b, hr⟩ := s.ring_ringDisabled (r := r)
  refine h.of_same (State.lru_postRing.trans ?_) (by rw [hr])
  split
  · exact congrArg HostIf.lru State.host_writeBack
  · rfl

theorem holdsCtx_takeIndex (h : HoldsCtx r ws s) : HoldsCtx r ws (s.takeIndex r x) := by
  unfold State.takeIndex
  dsimp only
  split
  · exact holdsCtx_ringError (holdsCtx_modRing (fun _ => rfl) h)
  · exact holdsCtx_modRing (fun _ => rfl) h

theorem holdsCtx_askRead {y : HostRead} (h : HoldsCtx r ws s) : HoldsCtx r ws (s.askRead y) := by
  obtain ⟨a, b, heq, -, -⟩ := s.askRead_eq y
  rw [heq]
  exact h.of_same rfl rfl

theorem holdsCtx_sendVector {g : Func} {v : Nat} (h : HoldsCtx r ws s) : HoldsCtx r ws (s.sendVector g v) := by
  refine h.of_same ?_ (congrArg Ring.ctx ((ev_sendVector (L := [.host]) (by decide) ev_refl).1.ring (by decide) r))
  unfold State.sendVector State.setFn
  repeat' split
  all_goals rfl

theorem holdsCtx_arm (h : HoldsCtx r ws s) : HoldsCtx r ws (s.arm r) := by
  have armed : HoldsCtx r ws (s.modRing r (fun g => { g with armed := true })) := holdsCtx_modRing (fun _ => rfl) h
  unfold State.arm State.sendIrq
  split
  · split
    · obtain ⟨a, b, hh⟩ := (s.modRing r (fun g => { g with armed := true })).host_fetchAgain (r := r)
      exact armed.of_same (by rw [hh]) (by rw [State.ring_fetchAgain])
    · refine holdsCtx_modRing (fun _ => rfl) (holdsCtx_sendVector ?_)
      split
      · exact holdsCtx_writeBack (holdsCtx_touchHit armed)
      · exact holdsCtx_touchHit armed
  · exact armed

theorem holdsCtx_bellDisable (h : HoldsCtx r ws s) : HoldsCtx r ws (s.bellDisable r x arm) := by
  unfold State.bellDisable
  split
  · exact holdsCtx_ringDisabled h
  · split
    · exact holdsCtx_takeIndex h
    · have dropped : HoldsCtx r ws (((s.takeIndex r x).modRing r (fun g => { g with st := .draining })).dropFence r) :=
        holdsCtx_dropFence (holdsCtx_modRing (fun _ => rfl) (holdsCtx_takeIndex h))
      exact holdsCtx_writeBack (holdsCtx_modHost (fun _ => rfl) (doIf_induction (P := HoldsCtx r ws) dropped holdsCtx_arm))

theorem holdsCtx_badBell {g : Func} (h : HoldsCtx r ws s) : HoldsCtx r ws (s.badBell g) := h

/-- A doorbell that does not enable leaves its ring's context cached and as it is. -/
theorem holdsCtx_bell (h : HoldsCtx r ws s) : HoldsCtx r ws (s.bell (ringOwner r) r x false di re arm) := by
  have lacks : s.lacksCtx r = false := by simp [State.lacksCtx, h.1]
  have used : HoldsCtx r ws (s.touchHit r) := holdsCtx_touchHit h
  unfold State.bell
  rw [if_neg (by simp)]
  cases hst : (s.ring r).st with
  | disabled =>
    simp only [Bool.false_eq_true, if_false]
    split
    · exact holdsCtx_badBell h
    · split
      · exact holdsCtx_modRing (fun _ => rfl) h
      · exact holdsCtx_badBell h
  | enabling =>
    dsimp only
    split
    · exact holdsCtx_badBell h
    · exact holdsCtx_modRing (fun _ => rfl) h
  | enabled =>
    simp only [lacks, Bool.false_eq_true, if_false]
    split
    · exact holdsCtx_bellDisable used
    · split
      · exact doIf_induction (P := HoldsCtx r ws)
          (doIf_induction (P := HoldsCtx r ws) (holdsCtx_takeIndex used) (fun h => holdsCtx_askRead h)) holdsCtx_arm
      · exact holdsCtx_takeIndex used
  | draining =>
    simp only [lacks, Bool.false_eq_true, if_false]
    split
    · exact holdsCtx_badBell h
    · exact doIf_induction (P := HoldsCtx r ws) (holdsCtx_takeIndex used) holdsCtx_arm
  | error =>
    simp only [h.1, Bool.not_true, Bool.and_false, Bool.false_eq_true, if_false]
    split
    · exact holdsCtx_bellDisable used
    · exact holdsCtx_badBell h

end Sys2Proof.Machine
end

section
/-! PROOFS. The turns of the CMD ring (R383), the ends of reads (R392), and the statement about them. -/

namespace Sys2Proof.Machine

variable {s t u : State} {r e : RingId} {f : Func} {ws : List Word} {n : Nat}

/-! ## The turn of a CMD ring -/

/-- The ring whose turn it is can take it. -/
theorem State.fetchable_of_next (h : s.nextCmdRing = some n) : s.fetchable n = true := by
  have member : n ∈ (s.rings.map (fun p => p.1)).filter (fun n => s.fetchable n) := by
    unfold State.nextCmdRing at h
    dsimp only at h
    split at h
    next m hm =>
      rw [← Option.some.inj h]
      exact List.mem_of_find?_eq_some hm
    next => exact List.mem_of_mem_head? h
  exact (List.mem_filter.mp member).2

theorem exec_descriptorFetch (hf : s.fabricReady = true) (hn : s.nextCmdRing = some n) (hr : r = BitVec.ofNat 16 n) :
    exec .descriptorFetch s = .next (match s.turnNeeds r with
      | some e => s.fetchAgain e
      | none => match (s.ring r).descrHeld with
        | some ws => (s.modRing r (fun h => { h with descrHeld := none })).acceptDescr r ws
        | none => (((s.touchHit r).touchHit (s.ring r).cplRing).modHost (fun h => { h with rrLast := n + 1 })).askRead
          ⟨ringOwner r, BitVec.ofNat 64 (ctxBase (s.ring r).ctx + 32 * ((s.ring r).devIdx.toNat % ctxSize (s.ring r).ctx)), 32,
            .descriptor r (s.ring r).gen (s.ring r).cplRing⟩) := by
  show execDescriptorFetch s = _
  unfold execDescriptorFetch
  rw [hn, hf, hr]
  rfl

/-- What a turn has fetched first is a context that has been evicted. -/
theorem State.turnNeeds_evicted (h : s.turnNeeds r = some e) : s.cached e = false := by
  unfold State.turnNeeds at h
  split at h
  next hl =>
    rw [← Option.some.inj h]
    simpa using (Bool.and_eq_true_iff.mp hl).2
  next =>
    split at h
    next ws hd =>
      unfold State.descrNeeds at h
      split at h
      · cases h
      · have hp := (Option.filter_eq_some_iff.mp h).2
        rw [Bool.and_eq_true] at hp
        simpa using (Bool.and_eq_true_iff.mp hp.2).2
    next hd =>
      split at h
      next he =>
        rw [← Option.some.inj h]
        simpa using (Bool.and_eq_true_iff.mp he).2
      next => cases h

/-- A turn that a context is missing for is taken only where that can be fetched. -/
theorem State.mayRefetch_of_next (hn : s.nextCmdRing = some n) (hr : r = BitVec.ofNat 16 n) (ht : s.turnNeeds r = some e) :
    s.ringBusy e.toNat = false ∧ s.cacheRoom = true := by
  have fetchable := State.fetchable_of_next hn
  unfold State.fetchable at fetchable
  rw [← hr] at fetchable
  dsimp only at fetchable
  rw [ht] at fetchable
  have may : s.mayRefetch e = true := (Bool.and_eq_true_iff.mp fetchable).2
  unfold State.mayRefetch at may
  simpa using may

theorem State.turnNeeds_cached (hc : s.cached r = true) (he : s.cached (s.ring r).cplRing = true) (hd : (s.ring r).descrHeld = none) :
    s.turnNeeds r = none := by
  unfold State.turnNeeds
  simp [State.lacksCtx, State.evicted, hc, he, hd]

/-- A turn that fetches a descriptor: the function may make requests, and a read may go out. -/
theorem State.descrDue_of_next (hn : s.nextCmdRing = some n) (hr : r = BitVec.ofNat 16 n) (ht : s.turnNeeds r = none)
    (hd : (s.ring r).descrHeld = none) : s.descrDue r = true := by
  have fetchable := State.fetchable_of_next hn
  unfold State.fetchable at fetchable
  rw [← hr] at fetchable
  dsimp only at fetchable
  rw [ht] at fetchable
  simp only [hd, Option.isSome_none, Bool.false_or, Bool.and_eq_true] at fetchable
  exact fetchable.1.1

theorem State.master_of_descrDue (h : s.descrDue r = true) : s.master (ringOwner r) = true ∧ s.host.reads.length < 128 := by
  simp only [State.descrDue, Bool.and_eq_true, decide_eq_true_eq] at h
  obtain ⟨⟨⟨⟨⟨⟨-, hm⟩, -⟩, -⟩, -⟩, -⟩, hl⟩ := h
  exact ⟨hm, hl⟩

/-- Whose turn was last does not matter to a read that is asked for. -/
theorem Asked.after_turn {x : HostRead} (h : Asked x (s.modHost (fun h => { h with rrLast := n })) t) : Asked x s t := by
  have hm : (s.modHost (fun h => { h with rrLast := n })).master x.func = s.master x.func :=
    State.master_congr (by simp) (by cases x.func <;> simp [State.fn])
  obtain ⟨hmem, hone⟩ := h
  rw [hm] at hone
  exact ⟨hmem, hone⟩

theorem State.rrLast_askRead {x : HostRead} : (s.askRead x).host.rrLast = s.host.rrLast := rfl

theorem State.descrStatus_congr (h : ∀ q, (t.ring q).st = (s.ring q).st ∧ (t.ring q).ctx = (s.ring q).ctx) :
    t.descrStatus f ws = s.descrStatus f ws := by
  unfold State.descrStatus
  simp only [fun q => (h q).1, fun q => (h q).2]

theorem wordsStatus_cases : wordsStatus f ws = none ∨ wordsStatus f ws = some stBAD_OPCODE
    ∨ wordsStatus f ws = some stACCESS_DENIED ∨ wordsStatus f ws = some stBAD_VALUE := by
  by_cases hop : 9 < opcodeOf ws
  · exact .inr (.inl (wordsStatus_unknown hop))
  · cases ha : opcodeAllowed f (opcodeOf ws) with
    | false => exact .inr (.inr (.inl (wordsStatus_denied (by omega) ha)))
    | true =>
      rw [wordsStatus_allowed (by omega) ha]
      split
      · exact .inl rfl
      · exact .inr (.inr (.inr rfl))

/-! ## What a failed read does (R392) -/

variable {h : HostRead} {k : ReadFail}

/-- The field of HIF_FN_ERR that counts reads that failed. -/
theorem regs_countFailed {l : List Nat} (hl : HIF_FN_ERR (fnIdx h.func) ∈ l) (g : OnlyRegs l s t) :
    OnlyRegs l s (t.bump (HIF_FN_ERR_dma_err (fnIdx h.func)) 1) := regs_bump (by simpa [HIF_FN_ERR_dma_err] using hl) g

/-- A failed fetch of an evicted context puts its ring in ERROR. -/
theorem State.readFails_again (hp : h.purpose = .again r (s.ring r).gen)
    (hst : (s.ring r).st = .enabled ∨ (s.ring r).st = .draining) (hh : (s.ring r).held = []) :
    s.readFails h = ((s.bump (HIF_FN_ERR_dma_err (fnIdx h.func)) 1).modRing r (fun g =>
      { g with ctx := Ring.reset.ctx, wbDue := false })).ringError r := by
  have ring : ∀ q, (s.bump (HIF_FN_ERR_dma_err (fnIdx h.func)) 1).ring q = s.ring q := fun q => rfl
  have still : (s.bump (HIF_FN_ERR_dma_err (fnIdx h.func)) 1).ringStill r (s.ring r).gen = true := by
    unfold State.ringStill
    rw [ring]
    rcases hst with hst | hst <;> simp [hst]
  unfold State.readFails
  dsimp only
  rw [hp]
  dsimp only
  rw [still, doIf_true]
  refine State.releaseBells_failed ?_ ?_
  · rw [State.ring_modRing_same, ring]
    rcases hst with hst | hst <;> simp [hst]
  · rw [State.ring_modRing_same, ring]
    exact hh

theorem onlyChanges_detect {code kind index sub value elem : Nat} :
    OnlyChanges [.flt] s (s.detect code kind index sub value elem) := (ev_detect (by decide) ev_refl).1

theorem State.detq_detect {code kind index sub value elem : Nat} : (s.detect code kind index sub value elem).flt.detq
    = s.flt.detq ++ [⟨code, kind, index, sub, value, elem⟩] := rfl

/-- A timeout counts as one and as a read that failed; the two counters share a register. -/
theorem State.rd_countTimeout :
    ((s.bump (HIF_FN_ERR_cpl_tmo (fnIdx f)) 1).bump (HIF_FN_ERR_dma_err (fnIdx f)) 1).rd (HIF_FN_ERR_cpl_tmo (fnIdx f))
      = min (s.rd (HIF_FN_ERR_cpl_tmo (fnIdx f)) + 1) 255
    ∧ ((s.bump (HIF_FN_ERR_cpl_tmo (fnIdx f)) 1).bump (HIF_FN_ERR_dma_err (fnIdx f)) 1).rd (HIF_FN_ERR_dma_err (fnIdx f))
      = min (s.rd (HIF_FN_ERR_dma_err (fnIdx f)) + 1) 255 := by
  constructor
  · rw [State.rd_bump_apart (.inr (by cases f <;> decide)), State.rd_bump_same (by cases f <;> decide)]
    rfl
  · rw [State.rd_bump_same (by cases f <;> decide), State.rd_bump_apart (.inr (by cases f <;> decide))]
    rfl

theorem State.countTimeout_parts :
    OnlyChanges [.regs] s ((s.bump (HIF_FN_ERR_cpl_tmo (fnIdx f)) 1).bump (HIF_FN_ERR_dma_err (fnIdx f)) 1) :=
  (ev_bump (by decide) (ev_bump (by decide) ev_refl)).1

theorem regs_countTimeout : OnlyRegs [HIF_FN_ERR (fnIdx f)] s
    ((s.bump (HIF_FN_ERR_cpl_tmo (fnIdx f)) 1).bump (HIF_FN_ERR_dma_err (fnIdx f)) 1) :=
  regs_bump (by simp [HIF_FN_ERR_dma_err]) (regs_bump (by simp [HIF_FN_ERR_cpl_tmo]) onlyRegs_refl)

theorem State.readFails_context (hp : h.purpose = .context r) :
    s.readFails h = (s.bump (HIF_FN_ERR_dma_err (fnIdx h.func)) 1).modRing r (fun g => { g with fetchFailed := true }) := by
  unfold State.readFails
  rw [hp]

theorem State.readFails_list {ref : CmdRef} (hp : h.purpose = .list ref) :
    s.readFails h = (s.bump (HIF_FN_ERR_dma_err (fnIdx h.func)) 1).fail ref stDMA_ERROR := by
  unfold State.readFails
  rw [hp]

/-- Settles O39: a turn by what it needs, a read by what it was for and how it ended, a descriptor by its words. -/
theorem descriptorsAndReads : Obligations.DescriptorsAndReads := by
  unfold Obligations.DescriptorsAndReads
  refine ⟨?fetch, ?bad, ?ready, ?context, ?timeout, ?list, ?order, ?values, ?named, ?unnamed, ?idle, ?again, ?failed, ?turn,
    ?needs, ?waits, ?held, ?error⟩
  case fetch =>
    intro n r s hf hn hr hc he hd
    have ht := State.turnNeeds_cached hc he hd
    obtain ⟨master, room⟩ := State.master_of_descrDue (State.descrDue_of_next hn hr ht hd)
    have run := exec_descriptorFetch hf hn hr
    rw [ht, hd] at run
    have used : Uses s ((s.touchHit r).touchHit (s.ring r).cplRing) := uses_trans uses_touchHit uses_touchHit
    have asked := (Asked.after_turn (n := n) asked_askRead).after_uses used (x := ⟨ringOwner r, BitVec.ofNat 64 (ctxBase (s.ring r).ctx
      + 32 * ((s.ring r).devIdx.toNat % ctxSize (s.ring r).ctx)), 32, .descriptor r (s.ring r).gen (s.ring r).cplRing⟩)
    have turned := onlyChanges_modHost (s := (s.touchHit r).touchHit (s.ring r).cplRing) (g := fun h => { h with rrLast := n + 1 })
    refine ⟨_, _, run, rfl, asked.1, fun hq => asked.2 hq master room, ?_, ?_, ?_⟩
    · exact State.rrLast_askRead
    · exact regs_askRead (onlyRegs_trans used.regs (turned.onlyRegs (by decide)))
    · exact onlyRings_trans (used.1.onlyRings (by decide)) (onlyRings_trans (turned.onlyRings (by decide))
        (State.askRead_parts.onlyRings (by decide)))
  case bad =>
    rintro h r x bs ws st s hf ho hl hp hb hlen rfl hst hop hneeds hstat hfresh
    have ended : ReadEnds s s.dropRead := readEnds_dropRead
    have accept : s.dropRead.readData h.purpose (bytesWords bs) = s.dropRead.acceptDescr r (bytesWords bs) := by
      rw [hp, ← ended.ring r, State.readData_descriptor (by rw [ended.ring]; exact hst),
        State.descrArrives_accepts (by rw [ended.descrNeeds]; exact hneeds)]
    have fresh : ∀ c, c ∈ s.dropRead.host.cmds → c.ref ≠ (s.dropRead.newCmd r (bytesWords bs)).ref := by
      rw [ended.newCmd, ended.2.2.1]
      exact hfresh
    obtain ⟨cmds, cpls⟩ := State.host_acceptDescr_fails hop (by rw [ended.descrStatus]; exact hstat) fresh
    obtain ⟨ring, regs⟩ := State.ring_acceptDescr (s := s.dropRead) (r := r) hop
    refine ⟨_, (exec_hostRead_data hf ho hl (hlen.trans hb.symm)).trans (congrArg _ accept), ?_, ?_, ?_, onlyRegs_trans ended.regs regs⟩
    · rw [ring, State.ring_admits, ended.ring]
    · rw [cmds, ended.2.2.1]
    · rw [cpls, ended.2.2.2, ended.ring, ended.epoch, ended.newCmd]
      rfl
  case ready =>
    rintro h r x bs ws s hf ho hl hp hb hlen rfl hst hop hneeds hstat hlist hfresh
    have ended : ReadEnds s s.dropRead := readEnds_dropRead
    have accept : s.dropRead.readData h.purpose (bytesWords bs) = s.dropRead.acceptDescr r (bytesWords bs) := by
      rw [hp, ← ended.ring r, State.readData_descriptor (by rw [ended.ring]; exact hst),
        State.descrArrives_accepts (by rw [ended.descrNeeds]; exact hneeds)]
    have fresh : ∀ c, c ∈ s.dropRead.host.cmds → c.ref ≠ (s.dropRead.newCmd r (bytesWords bs)).ref := by
      rw [ended.newCmd, ended.2.2.1]
      exact hfresh
    obtain ⟨cmds, cpls⟩ := State.host_acceptDescr_ready hop (by rw [ended.descrStatus]; exact hstat) hlist fresh
    obtain ⟨ring, regs⟩ := State.ring_acceptDescr (s := s.dropRead) (r := r) hop
    refine ⟨_, (exec_hostRead_data hf ho hl (hlen.trans hb.symm)).trans (congrArg _ accept), ?_, ?_, ?_,
      fun q hq => ((ring q).trans (onlyRings_admits q hq)).trans (ended.ring q), onlyRegs_trans ended.regs regs⟩
    · rw [ring, State.ring_admits, ended.ring]
    · rw [cmds, ended.2.2.1, ended.newCmd]
      rfl
    · rw [cpls, ended.2.2.2]
  case context =>
    intro h r bs s hf ho hl hp hb
    have ended : ReadEnds s s.dropRead := readEnds_dropRead
    have fetched : s.dropRead.readData h.purpose (bytesWords bs)
        = s.dropRead.modRing r (fun g => { g with fetched := some (bytesWords bs) }) := by rw [hp]; rfl
    refine ⟨_, (exec_hostRead_data hf ho hl hb).trans (congrArg _ fetched), ?_,
      onlyRings_trans (ended.1.onlyRings (by decide)) onlyRings_modRing, regs_modRing ended.regs⟩
    rw [State.ring_modRing_same, ended.ring]
  case timeout =>
    intro h r s hf ho hp
    have ended : ReadEnds s (s.dropRead.noteAer h.func 14) := readEnds_noteAer readEnds_dropRead
    have run := exec_completionTimeout hf ho
    rw [State.readFails_context hp] at run
    obtain ⟨v, hv⟩ : ∃ v, v = ((s.dropRead.noteAer h.func 14).bump (HIF_FN_ERR_cpl_tmo (fnIdx h.func)) 1).bump
      (HIF_FN_ERR_dma_err (fnIdx h.func)) 1 := ⟨_, rfl⟩
    rw [← hv] at run
    have counted : OnlyChanges [.host, .regs] s v := hv ▸ onlyChanges_trans ended.1 State.countTimeout_parts
    have regs : OnlyRegs [HIF_FN_ERR (fnIdx h.func)] s v := hv ▸ onlyRegs_trans ended.regs regs_countTimeout
    obtain ⟨tmo, dma⟩ := State.rd_countTimeout (s := s.dropRead.noteAer h.func 14) (f := h.func)
    rw [← hv, ended.1.rd (by decide)] at tmo dma
    have rest : OnlyChanges [.rings, .flt] v _ :=
      onlyChanges_trans (onlyChanges_modRing (r := r) (g := fun g => { g with fetchFailed := true }))
        (onlyChanges_detect (code := 0x0D) (kind := 6) (index := fnIdx h.func) (sub := 0) (value := 0) (elem := elemFn (fnIdx h.func)))
    refine ⟨_, run, ?_, (rest.rd (by decide) _).trans tmo, (rest.rd (by decide) _).trans dma, ?_, ?_,
      onlyRegs_trans regs (rest.onlyRegs (by decide))⟩
    · rw [onlyChanges_detect.ring (by decide), State.ring_modRing_same, counted.ring (by decide)]
    · rw [State.detq_detect, onlyChanges_modRing .flt (by decide), counted .flt (by decide)]
    · exact onlyRings_trans (counted.onlyRings (by decide)) (onlyRings_trans onlyRings_modRing
        (onlyChanges_detect.onlyRings (by decide)))
  case list =>
    intro h ref c k s hf ho hl hp hc
    have ended : ReadEnds s (s.readFailed h k) := readEnds_readFailed
    have counted : OnlyRegs [HIF_FN_ERR (fnIdx h.func)] s ((s.readFailed h k).bump (HIF_FN_ERR_dma_err (fnIdx h.func)) 1) :=
      regs_countFailed (by simp) ended.regs
    have epoch : ((s.readFailed h k).bump (HIF_FN_ERR_dma_err (fnIdx h.func)) 1).reg GLB_EPOCH = s.reg GLB_EPOCH :=
      counted _ (by cases h.func <;> decide)
    have found : ((s.readFailed h k).bump (HIF_FN_ERR_dma_err (fnIdx h.func)) 1).cmd? ref = some c := by
      show (s.readFailed h k).host.cmds.find? _ = _
      rw [ended.2.2.1]
      exact hc
    have run := exec_hostRead_failed (k := k) hf ho hl
    rw [State.readFails_list hp] at run
    have done := (completed_failed (st := stDMA_ERROR) found).after ended.2.2.1 ended.2.2.2 epoch
    have same : ((s.readFailed h k).bump (HIF_FN_ERR_dma_err (fnIdx h.func)) 1).epoch = s.epoch := epoch
    rw [same] at done
    refine ⟨_, run, done, ?_, regs_fail counted⟩
    rw [State.fail_parts.rd (by decide), State.rd_bump_same (by cases h.func <;> decide), ended.1.rd (by decide)]
    rfl
  case order =>
    intro f ws s
    refine ⟨(State.descrStatus_iff_words (by decide)).trans wordsStatus_eq_badOpcode, fun hle =>
      (State.descrStatus_iff_words (by decide)).trans ((wordsStatus_eq_denied hle).trans ?_)⟩
    cases f with
    | pf0 => simp [opcodeAllowed]
    | pf1 =>
      rw [opcodeAllowed_pf1]
      simp only [true_and]
      omega
  case values =>
    rintro f ws n a v s hle hf hv rfl rfl
    have allowed : opcodeAllowed f (opcodeOf ws) = true := by
      cases f with
      | pf0 => rfl
      | pf1 =>
        by_contra hn
        have := opcodeAllowed_pf1.mp (by simpa using hn)
        simp only [reduceCtorEq, false_or] at hf
        omega
    exact (State.descrStatus_iff_words (by decide)).trans
      ((wordsStatus_eq_badValue hle allowed).trans (not_valuesPass_iff hv hle))
  case named =>
    intro f ws r k s hop hd hv
    have passes : wordsStatus f ws = none := by
      rcases wordsStatus_cases (f := f) (ws := ws) with h | h | h | h
      · exact h
      · have := wordsStatus_eq_badOpcode.mp h
        omega
      · exact absurd (State.descrStatus_of_words h) hd
      · exact absurd (State.descrStatus_of_words h) hv
    have named : namedRing ws = some (r, k) := by
      rcases hop with ⟨h, rfl, rfl⟩ | ⟨h, rfl, rfl⟩ | ⟨h, rfl, rfl⟩ <;> simp [namedRing, h]
    exact State.descrStatus_named passes named
  case unnamed =>
    intro f ws s h
    have passes : wordsStatus f ws = none := by
      rcases wordsStatus_cases (f := f) (ws := ws) with hw | hw | hw | hw
      · exact hw
      · rw [State.descrStatus_of_words hw] at h
        exact absurd h (by decide)
      · rw [State.descrStatus_of_words hw] at h
        exact absurd h (by decide)
      · rw [State.descrStatus_of_words hw] at h
        exact absurd h (by decide)
    rcases State.descrStatus_ring_cases (s := s) passes with hn | ⟨-, hn⟩
    · rw [hn] at h
      cases h
    · by_contra hop
      have none : namedRing ws = none := by
        unfold namedRing
        split
        · omega
        · omega
        · omega
        · rfl
      rw [none] at hn
      cases hn
  case idle =>
    intro s ho
    show execCompletionTimeout s = .next s
    unfold execCompletionTimeout
    rw [ho]
  case again =>
    rintro h r bs ws s hf ho hl hp hb rfl hst hc hroom
    have ended : ReadEnds s s.dropRead := readEnds_dropRead
    have hst' : (s.dropRead.ring r).st = .enabled ∨ (s.dropRead.ring r).st = .draining ∨ (s.dropRead.ring r).st = .error := by
      rw [ended.ring]
      exact hst.imp_right .inl
    have hc' : s.dropRead.cached r = false := by rw [ended.cached]; exact hc
    have hroom' : s.dropRead.host.lru.length < 512 := by rw [ended.2.1]; exact hroom
    have rest : s.dropRead.readData h.purpose (bytesWords bs) = forAll (s.ring r).held (fun t h => t.heldBell r h)
        (s.dropRead.refetched r (bytesWords bs)) := by
      rw [hp, ← ended.ring r, State.readData_again hst']
    have ring := State.ring_refetched (s := s.dropRead) (r := r) (ws := bytesWords bs)
    rw [ended.ring] at ring
    have cached := State.cached_refetched (ws := bytesWords bs) hc' hroom'
    have rings : OnlyRings [r] s (s.dropRead.refetched r (bytesWords bs)) :=
      onlyRings_trans (ended.1.onlyRings (by decide)) onlyRings_refetched
    have regs : OnlyRegs [] s (s.dropRead.refetched r (bytesWords bs)) := onlyRegs_trans ended.regs (regs_refetched hc' hroom')
    have holds : HoldsCtx r ((bytesWords bs).take 8) (forAll (s.ring r).held (fun t h => t.heldBell r h)
        (s.dropRead.refetched r (bytesWords bs))) :=
      forAll_induction (P := HoldsCtx r _) ⟨cached, by rw [ring]⟩ (fun u x _ hu => holdsCtx_bell hu)
    refine ⟨_, (exec_hostRead_data hf ho hl hb).trans (congrArg _ rest), holds.1, holds.2, fun hh => ?_, fun x hh hi => ?_⟩
    · rw [hh, forAll_nil]
      refine ⟨ring.trans (by simp [hh]), ?_, rings, regs⟩
      rw [State.host_refetched hc' hroom', ended.2.1]
    · have bell : (s.dropRead.refetched r (bytesWords bs)).heldBell r ⟨x, false, false, false⟩
          = (s.dropRead.refetched r (bytesWords bs)).indexTaken r x := by
        rcases hst with hst | hst
        · exact State.bell_enabled_index rfl (by rw [ring]; exact hst) cached (by rw [ring]; exact hi)
        · exact State.bell_draining rfl (by rw [ring]; exact hst) cached
      rw [hh, forAll_cons, forAll_nil, bell]
      refine ⟨?_, onlyRings_trans rings onlyRings_indexTaken, onlyRegs_trans regs (State.indexTaken_parts.onlyRegs (by decide))⟩
      rw [State.ring_indexTaken, ring]
  case failed =>
    intro h r k s hf ho hl hp hst hh
    have ended : ReadEnds s (s.readFailed h k) := readEnds_readFailed
    have run := exec_hostRead_failed (k := k) hf ho hl
    rw [State.readFails_again (by rw [ended.ring]; exact hp) (by rw [ended.ring]; exact hst) (by rw [ended.ring]; exact hh)] at run
    have counted : OnlyRings [r] s ((s.readFailed h k).bump (HIF_FN_ERR_dma_err (fnIdx h.func)) 1) := fun q _ => ended.ring q
    refine ⟨_, run, State.st_ringError, onlyRings_trans counted (onlyRings_trans onlyRings_modRing onlyRings_ringError), ?_⟩
    exact regs_ringError (fun _ hb => List.mem_cons_of_mem _ hb) (regs_modRing (regs_countFailed (by simp) ended.regs))
  case turn =>
    intro n r e s hf hn hr ht
    have run := exec_descriptorFetch hf hn hr
    rw [ht] at run
    obtain ⟨busy, room⟩ := State.mayRefetch_of_next hn hr ht
    exact ⟨_, run, State.rings_fetchAgain, (State.asked_fetchAgain busy room).1,
      State.rd_fetchAgain (State.turnNeeds_evicted ht) busy room, regs_fetchAgain (by simp) onlyRegs_refl, State.fetchAgain_parts⟩
  case needs =>
    intro r s
    refine ⟨fun hc hst => ?_, fun hc hd hst he => ?_⟩
    · simp [State.turnNeeds, State.lacksCtx, hc, hst]
    · simp [State.turnNeeds, State.lacksCtx, State.evicted, hc, hd, hst, he]
  case waits =>
    rintro h r x e k bs ws s hf ho hl hp hb hlen rfl hst hw hn hown he hc
    have ended : ReadEnds s s.dropRead := readEnds_dropRead
    have needs : s.descrNeeds (ringOwner r) (bytesWords bs) = some e := by
      simp [State.descrNeeds, hw, hn, hown, State.evicted, he, hc]
    have waits : s.dropRead.readData h.purpose (bytesWords bs)
        = (s.dropRead.modRing r (fun g => { g with descrHeld := some (bytesWords bs) })).fetchAgain e := by
      rw [hp, ← ended.ring r, State.readData_descriptor (by rw [ended.ring]; exact hst),
        State.descrArrives_waits (by rw [ended.descrNeeds]; exact needs)]
    obtain ⟨a, b, host⟩ := State.host_fetchAgain (r := e)
      (s := s.dropRead.modRing r (fun g => { g with descrHeld := some (bytesWords bs) }))
    refine ⟨_, (exec_hostRead_data hf ho hl (hlen.trans hb.symm)).trans (congrArg _ waits), ?_, ?_, ?_,
      onlyRings_trans (ended.1.onlyRings (by decide)) (onlyRings_trans onlyRings_modRing (fun q _ => State.ring_fetchAgain)),
      regs_fetchAgain (by simp) (regs_modRing ended.regs)⟩
    · rw [State.ring_fetchAgain, State.ring_modRing_same, ended.ring]
    · rw [host]
      exact ended.2.2.1
    · rw [host]
      exact ended.2.2.2
  case held =>
    intro n r ws s hf hn hr ht hd hop hstat hlist hfresh
    have run := exec_descriptorFetch hf hn hr
    rw [ht, hd] at run
    have same : (s.modRing r (fun h => { h with descrHeld := none })).newCmd r ws = s.newCmd r ws := by
      unfold State.newCmd
      rw [State.ring_modRing_same]
      rfl
    have stat : (s.modRing r (fun h => { h with descrHeld := none })).descrStatus (ringOwner r) ws = none := by
      rw [State.descrStatus_congr (fun q => ?_)]
      · exact hstat
      · by_cases hq : r = q
        · rw [← hq, State.ring_modRing_same]
          exact ⟨rfl, rfl⟩
        · rw [State.ring_modRing_ne hq]
          exact ⟨rfl, rfl⟩
    obtain ⟨cmds, cpls⟩ := State.host_acceptDescr_ready hop stat hlist (by rw [same]; exact hfresh)
    obtain ⟨ring, regs⟩ := State.ring_acceptDescr (s := s.modRing r (fun h => { h with descrHeld := none })) (r := r) hop
    refine ⟨_, run, ?_, ?_, ?_, cpls, fun q hq => ((ring q).trans (onlyRings_admits q hq)).trans (onlyRings_modRing q hq),
      onlyRegs_trans (regs_modRing onlyRegs_refl) regs⟩
    · rw [ring, State.ring_admits, State.ring_modRing_same]
    · rw [ring, State.ring_admits, State.ring_modRing_same]
    · rw [cmds, same]
      rfl
  case error =>
    intro h r x arm bs s hf ho hl hp hb hst hc hroom hh hbar
    have ended : ReadEnds s s.dropRead := readEnds_dropRead
    have hc' : s.dropRead.cached r = false := by rw [ended.cached]; exact hc
    have hroom' : s.dropRead.host.lru.length < 512 := by rw [ended.2.1]; exact hroom
    have ring := State.ring_refetched (s := s.dropRead) (r := r) (ws := bytesWords bs)
    rw [ended.ring] at ring
    have bell : (s.dropRead.refetched r (bytesWords bs)).heldBell r ⟨x, true, false, arm⟩
        = ((s.dropRead.refetched r (bytesWords bs)).touchHit r).ringDisabled r :=
      State.bell_error_disable rfl (by rw [ring]; exact hst) (.inl (State.cached_refetched hc' hroom'))
    have rest : s.dropRead.readData h.purpose (bytesWords bs)
        = ((s.dropRead.refetched r (bytesWords bs)).touchHit r).ringDisabled r := by
      rw [hp, ← ended.ring r, State.readData_again (by rw [ended.ring]; exact .inr (.inr hst)), ended.ring, hh, forAll_cons,
        forAll_nil, bell]
    obtain ⟨d, b, disabled⟩ := ((s.dropRead.refetched r (bytesWords bs)).touchHit r).ring_ringDisabled (r := r)
    rw [recaches_touchHit.ring, ring] at disabled
    refine ⟨_, (exec_hostRead_data hf ho hl hb).trans (congrArg _ rest), congrArg Ring.st disabled, congrArg Ring.held disabled,
      onlyRings_trans (ended.1.onlyRings (by decide)) (onlyRings_trans onlyRings_refetched
        (onlyRings_trans recaches_touchHit.onlyRings onlyRings_ringDisabled)), ?_⟩
    exact regs_ringDisabled (fun _ hb => hb) (onlyRegs_trans ended.regs (onlyRegs_trans (onlyRegs_mono (by simp)
      (regs_refetched hc' hroom')) (State.touchHit_parts.onlyRegs (by decide))))

end Sys2Proof.Machine
end

section
/-! PROOFS. NOP, FENCE and the writing of completions (R385, R388 to R390), and the statement about them. -/

namespace Sys2Proof.Machine

variable {s t : State} {ref : CmdRef} {c : Cmd} {e : RingId} {p : Cpl} {a : Nat} {bs : List Byte}

/-! ## Bytes of host memory -/

/-- Host memory after the bytes are written from an address up, the first of them k places on. -/
def bytesPut (a : Nat) (m : Sparse Byte) (bs : List Byte) (k : Nat) : Sparse Byte :=
  (bs.zipIdx k).foldl (fun m p => sparseSet (fun _ => 0) m ((a + p.2) % 2 ^ 64) p.1) m

theorem bytesPut_cons {m : Sparse Byte} {b : Byte} {k : Nat} :
    bytesPut a m (b :: bs) k = bytesPut a (sparseSet (fun _ => 0) m ((a + k) % 2 ^ 64) b) bs (k + 1) := rfl

theorem sparseGet_bytesPut_outside {m : Sparse Byte} {k x : Nat} (h : ∀ j, j < bs.length → x ≠ (a + (k + j)) % 2 ^ 64) :
    sparseGet (fun _ => 0) (bytesPut a m bs k) x = sparseGet (fun _ => 0) m x := by
  induction bs generalizing m k with
  | nil => rfl
  | cons b bs ih =>
    have first : (a + k) % 2 ^ 64 ≠ x := fun he => h 0 (by simp) (by rw [Nat.add_zero]; exact he.symm)
    rw [bytesPut_cons, ih (fun j hj => ?_), sparseGet_set_ne _ _ first]
    have := h (j + 1) (by simpa using hj)
    rwa [show k + (j + 1) = k + 1 + j by omega] at this

theorem sparseGet_bytesPut_inside {m : Sparse Byte} {k j : Nat} (hl : bs.length ≤ 2 ^ 64) (hj : j < bs.length) :
    sparseGet (fun _ => 0) (bytesPut a m bs k) ((a + (k + j)) % 2 ^ 64) = bs.getD j 0 := by
  induction bs generalizing m k j with
  | nil => simp at hj
  | cons b bs ih =>
    rw [List.length_cons] at hl hj
    rw [bytesPut_cons]
    cases j with
    | zero =>
      rw [show k + 0 = k from rfl, sparseGet_bytesPut_outside (fun i hi => by omega), sparseGet_set_same]
      rfl
    | succ j =>
      rw [show k + (j + 1) = k + 1 + j by omega, ih (by omega) (by omega)]
      rfl

theorem State.hostByte_writeHost_inside {j : Nat} (hl : bs.length ≤ 2 ^ 64) (hj : j < bs.length) :
    (s.writeHost a bs).hostByte ((a + j) % 2 ^ 64) = bs.getD j 0 := by
  have written := sparseGet_bytesPut_inside (a := a) (m := s.hostMem) (k := 0) hl hj
  rwa [Nat.zero_add] at written

theorem State.hostByte_writeHost_outside {x : Nat} (h : ∀ j, j < bs.length → x ≠ (a + j) % 2 ^ 64) :
    (s.writeHost a bs).hostByte x = s.hostByte x :=
  sparseGet_bytesPut_outside (m := s.hostMem) (k := 0) (fun j hj => by rw [Nat.zero_add]; exact h j hj)

/-! ## A FENCE -/

theorem exec_fence (hf : s.fabricReady = true) (hw : s.waits ref 0x09 = some c) (hc : s.fenceClear ref = true)
    (ho : s.openCmds c.func < 64) : exec (.fence ref) s = .next (
      if s.lacksCtx ref.ring then s.fetchAgain ref.ring
      else if s.evicted c.cplRing then s.fetchAgain c.cplRing
      else doIf (s.isEvtRing c.func c.cplRing && decide (1 ≤ s.freeUnits c.cplRing)) (fun u =>
        (((u.touchHit ref.ring).touchHit c.cplRing).takeDescr ref.ring).fail ref ((u.descrStatus c.func c.words).getD stOK)) s) := by
  show execFence ref s = _
  unfold execFence
  rw [hw]
  dsimp only
  rw [hf, hc, decide_eq_true ho]
  rfl

/-- A FENCE behind an earlier command waits. -/
theorem exec_fence_waits (hc : s.fenceClear ref = false) : exec (.fence ref) s = .next s := by
  show execFence ref s = _
  unfold execFence
  cases hw : s.waits ref 0x09 with
  | none => rfl
  | some c =>
    dsimp only
    rw [hc, Bool.and_false, Bool.false_and, doIf_false]

/-- So does one whose completion ring takes no completion. -/
theorem exec_fence_ringless (hw : s.waits ref 0x09 = some c) (hr : s.isEvtRing c.func c.cplRing = false)
    (hl : s.lacksCtx ref.ring = false) (he : s.evicted c.cplRing = false) : exec (.fence ref) s = .next s := by
  show execFence ref s = _
  unfold execFence
  rw [hw]
  dsimp only
  refine congrArg _ (doIf_induction (P := fun t => t = s) rfl (fun _ => ?_))
  simp [hl, he, hr]

/-- A FENCE that may be accepted completes; its ring has moved on by one descriptor. -/
theorem completed_fence {st : Nat} (hw : s.waits ref 0x09 = some c) :
    Completed s ((((s.touchHit ref.ring).touchHit c.cplRing).takeDescr ref.ring).fail ref st) c st 0 0
    ∧ (∀ q, ((((s.touchHit ref.ring).touchHit c.cplRing).takeDescr ref.ring).fail ref st).ring q
        = (s.takeDescr ref.ring).ring q)
    ∧ OnlyRegs [] s ((((s.touchHit ref.ring).touchHit c.cplRing).takeDescr ref.ring).fail ref st) := by
  obtain ⟨found, -, opcode⟩ := State.cmd?_of_waits hw
  have used : Uses s ((s.touchHit ref.ring).touchHit c.cplRing) := uses_trans uses_touchHit uses_touchHit
  obtain ⟨x, hx⟩ := used.2
  have found' : (((s.touchHit ref.ring).touchHit c.cplRing).takeDescr ref.ring).cmd? ref = some c := by
    show ((s.touchHit ref.ring).touchHit c.cplRing).host.cmds.find? _ = _
    rw [hx]
    exact found
  have epoch : (((s.touchHit ref.ring).touchHit c.cplRing).takeDescr ref.ring).reg GLB_EPOCH = s.reg GLB_EPOCH :=
    used.regs (l := []) _ (by simp)
  have done := completed_failed (st := st) found'
  rw [if_neg (by rw [opcode]; decide)] at done
  refine ⟨done.after ((congrArg HostIf.cmds hx).trans rfl) ((congrArg HostIf.cpls hx).trans rfl) epoch, fun q => ?_,
    regs_fail (regs_modRing used.regs)⟩
  rw [State.fail_parts.ring (by decide)]
  by_cases hq : ref.ring = q
  · rw [← hq, State.takeDescr, State.takeDescr, State.ring_modRing_same, State.ring_modRing_same, used.ring]
  · rw [State.takeDescr, State.takeDescr, State.ring_modRing_ne hq, State.ring_modRing_ne hq, used.ring]

/-! ## A completion is written -/

theorem Cpl.length_record : p.record.length = 8 := rfl

/-- The completion leaves those that wait, and its ring is used. -/
def State.takesCpl (s : State) (p : Cpl) : State :=
  (s.modHost (fun h => { h with cpls := eraseFirst (fun q => decide (q = p)) h.cpls })).touchHit p.cplRing

theorem exec_completionWrite (hf : s.fabricReady = true) (hp : s.host.cpls.find? (fun q => s.cplReady q) = some p)
    (hr : s.routed ⟨ringOwner p.cplRing, p.cplRing, 3, p.record, none, 0, true⟩ = true)
    (hb : (s.fn (ringOwner p.cplRing)).bme = true) (hc : s.cached p.cplRing = true) :
    exec .completionWrite s = .next ((s.takesCpl p).ringWrite p.cplRing p.record) := by
  have lacks : s.lacksCtx p.cplRing = false := by simp [State.lacksCtx, hc]
  have waits : s.recWaits (ringOwner p.cplRing) p.cplRing true = false := by simp [State.recWaits, lacks]
  obtain ⟨u, hu⟩ : ∃ u, u = s.modHost (fun h => { h with cpls := eraseFirst (fun q => decide (q = p)) h.cpls }) := ⟨_, rfl⟩
  have hr' : u.routed ⟨ringOwner p.cplRing, p.cplRing, 3, p.record, none, 0, true⟩ = true := by
    rw [hu]
    exact hr
  have hb' : (u.fn (ringOwner p.cplRing)).bme = true := by
    rw [hu]
    cases ho : ringOwner p.cplRing <;> rw [ho] at hb <;> exact hb
  show execCompletionWrite s = _
  unfold execCompletionWrite
  rw [hp]
  dsimp only
  rw [hf, doIf_true, ← hu, waits, hr', hb', State.takesCpl, ← hu]
  rfl

theorem State.takesCpl_parts : OnlyChanges [.host] s (s.takesCpl p) := fun q hq =>
  onlyChanges_trans onlyChanges_modHost State.touchHit_parts q (by simpa using hq)

theorem State.host_takesCpl : ∃ x, (s.takesCpl p).host
    = { s.host with cpls := eraseFirst (fun q => decide (q = p)) s.host.cpls, lru := x } := by
  obtain ⟨-, x, hx⟩ := uses_touchHit (r := p.cplRing)
    (s := s.modHost (fun h => { h with cpls := eraseFirst (fun q => decide (q = p)) h.cpls }))
  exact ⟨x, hx⟩

/-- A record in an event ring takes one unit where it has eight words. -/
theorem unitsOf_event {ws : List Word} (h : ws.length = 8) : unitsOf 3 ws = 1 := by
  rw [unitsOf, h]
  decide

section
variable {ws : List Word} (hcls : ctxClass (s.ring e).ctx = 3) (hws : ws.length = 8)
include hcls hws

/-- The one unit of such a record stands at the ring's base plus 32 times its place. -/
theorem State.writeUnits_event : s.writeUnits e ws = s.writeHost
    (ctxBase (s.ring e).ctx + 32 * ((s.ring e).devIdx.toNat % ctxSize (s.ring e).ctx)) (wordsBytes ws) := by
  have words : padWords 8 ws = ws := by
    rw [padWords, hws, Nat.sub_self, List.replicate_zero, List.append_nil]
    exact List.take_of_length_le (by omega)
  unfold State.writeUnits
  dsimp only
  rw [hcls, unitsOf_event hws]
  show s.writeHost (_ + 32 * ((_ + 0) % _)) (wordsBytes (padWords 8 ws)) = _
  rw [words, Nat.add_zero]

theorem State.ring_ringPut_event : ((s.ringPut e ws).ring e).devIdx = (s.ring e).devIdx + 1
    ∧ ((s.ringPut e ws).ring e).seq = (s.ring e).seq + 1 ∧ ((s.ringPut e ws).ring e).wbBytes = (s.ring e).wbBytes + 32 := by
  have same : (s.writeUnits e ws).ring e = s.ring e := by rw [State.writeUnits_event hcls hws]; rfl
  unfold State.ringPut
  rw [State.ring_modRing_same, same]
  dsimp only
  rw [hcls, unitsOf_event hws]
  exact ⟨rfl, rfl, rfl⟩

theorem State.ring_ringWrite_event : ((s.ringWrite e ws).ring e).devIdx = (s.ring e).devIdx + 1
    ∧ ((s.ringWrite e ws).ring e).seq = (s.ring e).seq + 1 := by
  obtain ⟨idx, seq, -⟩ := State.ring_ringPut_event hcls hws
  unfold State.ringWrite
  refine doIf_induction (P := fun t => (t.ring e).devIdx = (s.ring e).devIdx + 1 ∧ (t.ring e).seq = (s.ring e).seq + 1) ⟨idx, seq⟩
    (fun _ => ?_)
  obtain ⟨d, b, hr⟩ := (s.ringPut e ws).ring_writeBack (r := e)
  rw [hr]
  exact ⟨idx, seq⟩

/-- Below the payload limit no write-back block follows. -/
theorem State.ringWrite_below (h : (s.ring e).wbBytes + 32 < (s.fn (ringOwner e)).maxPayload) :
    s.ringWrite e ws = s.ringPut e ws := by
  obtain ⟨-, -, bytes⟩ := State.ring_ringPut_event hcls hws
  unfold State.ringWrite
  rw [bytes, decide_eq_false (by omega), doIf_false]

theorem State.hostMem_ringPut_event : (s.ringPut e ws).hostMem = (s.writeHost
    (ctxBase (s.ring e).ctx + 32 * ((s.ring e).devIdx.toNat % ctxSize (s.ring e).ctx)) (wordsBytes ws)).hostMem := by
  rw [← State.writeUnits_event hcls hws]
  rfl

end

theorem State.ringWrite_parts {ws : List Word} : OnlyChanges [.hostMem, .rings] s (s.ringWrite e ws) :=
  (ev_ringWrite (by decide) (by decide) ev_refl).1

theorem onlyRings_ringWrite {ws : List Word} : OnlyRings [e] s (s.ringWrite e ws) := by
  have units : OnlyChanges [.hostMem] s (s.writeUnits e ws) := (ev_writeUnits (by decide) ev_refl).1
  have put : OnlyRings [e] s (s.ringPut e ws) := onlyRings_trans (units.onlyRings (by decide)) onlyRings_modRing
  unfold State.ringWrite
  exact doIf_induction (P := OnlyRings [e] s) put (fun h => onlyRings_trans h onlyRings_writeBack)

theorem length_wordsBytes {ws : List Word} : (wordsBytes ws).length = 4 * ws.length := by
  induction ws with
  | nil => rfl
  | cons w ws ih =>
    rw [wordsBytes, List.flatMap_cons, List.length_append, ← wordsBytes, ih, List.length_cons]
    show 4 + _ = _
    omega

theorem State.class_of_routed {x : Rec} (h : s.routed x = true) : ctxClass (s.ring x.ring).ctx = x.cls := by
  unfold State.routed at h
  rw [Bool.and_eq_true, Bool.and_eq_true, beq_iff_eq] at h
  exact h.1.2

/-! ## No descriptor is read behind a FENCE that has not completed -/

theorem State.descrDue_of_fence (hp : p ∈ s.host.cpls) (hop : opcodeOf p.words = 0x09)
    (hg : p.cmd.gen = (s.ring p.cmd.ring).gen) : s.descrDue p.cmd.ring = false := by
  have waits : s.host.cpls.any (fun q => decide (q.cmd.ring = p.cmd.ring) && decide (q.cmd.gen = (s.ring p.cmd.ring).gen)
      && opcodeOf q.words == 0x09) = true := List.any_eq_true.mpr ⟨p, hp, by simp [hop, hg]⟩
  unfold State.descrDue
  dsimp only
  rw [waits]
  simp

theorem State.fetchable_due {n : Nat} (h : s.fetchable n = true) (hd : (s.ring (BitVec.ofNat 16 n)).descrHeld = none) :
    s.descrDue (BitVec.ofNat 16 n) = true := by
  unfold State.fetchable at h
  simp only [hd, Option.isSome_none, Bool.false_or] at h
  split at h
  · exact (Bool.and_eq_true_iff.mp h).1
  · exact (Bool.and_eq_true_iff.mp (Bool.and_eq_true_iff.mp h).1).1

/-- Settles O40: a FENCE by its guard, a completion by the one unit that it takes in its ring. -/
theorem completions : Obligations.Completions := by
  unfold Obligations.Completions
  refine ⟨?nop, ?fence, ?blocked, ?written, ?bytes, ?record, ?ringless, ?behind, ?evicted⟩
  case nop =>
    intro ref c s hf hw
    have done := completed_completeOpt (r := some ref) (st := stOK) (shots := 0) (dwells := 0) rfl (State.cmd?_of_waits hw).1
    refine ⟨s.complete ref stOK 0 0, ?_, done, (ev_complete (by decide) ev_refl).1⟩
    show execNop ref s = _
    unfold execNop
    rw [hw]
    exact congrArg _ (if_pos hf)
  case fence =>
    intro ref c s hf hw hc ho hl he hr hu
    have run := exec_fence hf hw hc ho
    rw [hl, he, hr, decide_eq_true hu] at run
    obtain ⟨done, ring, regs⟩ := completed_fence (st := (s.descrStatus c.func c.words).getD stOK) hw
    refine ⟨_, run, done, ?_, fun q hq => (ring q).trans (onlyRings_modRing q hq), regs⟩
    exact congrArg Ring.devIdx ((ring ref.ring).trans State.ring_modRing_same)
  case blocked =>
    intro ref s hc
    exact exec_fence_waits hc
  case written =>
    intro p s hf hp hr hb hc
    have hcls : ctxClass ((s.takesCpl p).ring p.cplRing).ctx = 3 := by
      rw [State.takesCpl_parts.ring (by decide)]
      exact State.class_of_routed hr
    obtain ⟨idx, seq⟩ := State.ring_ringWrite_event hcls (Cpl.length_record (p := p))
    obtain ⟨x, hx⟩ := s.host_takesCpl (p := p)
    rw [State.takesCpl_parts.ring (by decide)] at idx seq
    refine ⟨_, exec_completionWrite hf hp hr hb hc, ?_, idx, seq,
      onlyRings_trans (State.takesCpl_parts.onlyRings (by decide)) onlyRings_ringWrite,
      onlyRegs_trans (State.takesCpl_parts.onlyRegs (by decide)) (State.ringWrite_parts.onlyRegs (by decide))⟩
    rw [State.ringWrite_parts .host (by decide), hx]
  case bytes =>
    rintro p b s hf hp hr hb hc hbelow rfl
    have ring : (s.takesCpl p).ring p.cplRing = s.ring p.cplRing := State.takesCpl_parts.ring (by decide) _
    have hcls : ctxClass ((s.takesCpl p).ring p.cplRing).ctx = 3 := by
      rw [ring]
      exact State.class_of_routed hr
    obtain ⟨x, hx⟩ := s.host_takesCpl (p := p)
    have payload : ((s.takesCpl p).fn (ringOwner p.cplRing)).maxPayload = (s.fn (ringOwner p.cplRing)).maxPayload := by
      cases ringOwner p.cplRing <;> simp [State.fn, hx]
    have mem : ((s.takesCpl p).ringWrite p.cplRing p.record).hostMem = _ :=
      (congrArg State.hostMem (State.ringWrite_below hcls Cpl.length_record (by rw [ring, payload]; exact hbelow))).trans
        (State.hostMem_ringPut_event hcls Cpl.length_record)
    rw [ring] at mem
    have bytes : ∀ a, ((s.takesCpl p).ringWrite p.cplRing p.record).hostByte a = _ :=
      fun a => congrArg (fun m => sparseGet (fun _ => 0) m a) mem
    have length : (wordsBytes p.record).length = 32 := length_wordsBytes
    refine ⟨_, exec_completionWrite hf hp hr hb hc, fun j hj => ?_, fun a ha => ?_⟩
    · exact (bytes _).trans (State.hostByte_writeHost_inside (by rw [length]; decide) (by omega))
    · refine (bytes a).trans ((State.hostByte_writeHost_outside (fun j hj => ha j (by omega))).trans ?_)
      exact congrArg (fun m => sparseGet (fun _ => 0) m a) (State.takesCpl_parts .hostMem (by decide))
  case record =>
    intro p
    have tag : bitsOf (wordAt p.words 0) 16 16 = (wordAt p.words 0).toNat / 2 ^ 16 := by
      have := (wordAt p.words 0).isLt
      unfold bitsOf
      omega
    rw [Cpl.record, tag]
    rfl
  case ringless =>
    intro ref c s hw hr hl he
    exact exec_fence_ringless hw hr hl he
  case behind =>
    rintro p n s hp hop hg hn hd hr
    have due := State.fetchable_due (State.fetchable_of_next hn) (by rw [hr]; exact hd)
    rw [hr, State.descrDue_of_fence hp hop hg] at due
    cases due
  case evicted =>
    intro ref c e s hf hw hc ho he hb hroom
    have run := exec_fence hf hw hc ho
    have asks : exec (.fence ref) s = .next (s.fetchAgain e) := by
      rcases he with ⟨rfl, hl⟩ | ⟨rfl, hl, hv⟩
      · rw [run, hl]
        rfl
      · rw [run, hl, hv]
        rfl
    obtain ⟨a, b, host⟩ := s.host_fetchAgain (r := e)
    exact ⟨_, asks, State.rings_fetchAgain, (State.asked_fetchAgain hb hroom).1, by rw [host], by rw [host],
      regs_fetchAgain (by simp) onlyRegs_refl⟩

end Sys2Proof.Machine
end

section
/-! PROOFS. Resets of a function (R394, R395, R406): what each part of them leaves of the link, and what they drop. -/

namespace Sys2Proof.Machine

variable {s t u : State} {f g : Func} {ref : CmdRef} {c : Nat}

/-! ## What a running operation leaves of the link -/

/-- From s to t configuration space and the reads of host memory stay, and no command comes. -/
structure KeepsLink (s t : State) : Prop where
  fn : ∀ f, t.fn f = s.fn f
  reads : t.host.reads = s.host.reads
  readQ : t.host.readQ = s.host.readQ
  cmds : ∀ x, x ∈ t.host.cmds → x ∈ s.host.cmds

theorem keepsLink_refl : KeepsLink s s := ⟨fun _ => rfl, rfl, rfl, fun _ h => h⟩

theorem KeepsLink.trans (h : KeepsLink s t) (g : KeepsLink t u) : KeepsLink s u :=
  ⟨fun f => (g.fn f).trans (h.fn f), g.reads.trans h.reads, g.readQ.trans h.readQ, fun x hx => h.cmds x (g.cmds x hx)⟩

/-- What leaves the host interface as it is, or changes other things of it, is such an operation. -/
theorem keepsLink_of_host {x : HostIf} (hx : t.host = x) (h0 : x.pf0 = s.host.pf0) (h1 : x.pf1 = s.host.pf1)
    (hr : x.reads = s.host.reads) (hq : x.readQ = s.host.readQ) (hc : ∀ y, y ∈ x.cmds → y ∈ s.host.cmds) : KeepsLink s t := by
  subst hx
  exact ⟨fun f => by cases f <;> assumption, hr, hq, hc⟩

theorem OnlyChanges.keepsLink {L : List Part} (h : OnlyChanges L s t) (hp : Part.host ∉ L) : KeepsLink s t :=
  keepsLink_of_host (h .host hp) rfl rfl rfl rfl (fun _ hy => hy)

theorem keepsLink_complete {st : Nat} {n : DWord} {d : Word} (h : KeepsLink s t) : KeepsLink s (t.complete ref st n d) := by
  refine h.trans ?_
  unfold State.complete
  split
  · exact keepsLink_refl
  · exact keepsLink_of_host rfl rfl rfl rfl rfl (fun _ hy => List.mem_of_mem_filter hy)

theorem keepsLink_completeOpt {r : Option CmdRef} {st : Nat} {n : DWord} {d : Word} (h : KeepsLink s t) :
    KeepsLink s (t.completeOpt r st n d) := by
  cases r with
  | none => exact h
  | some ref => exact keepsLink_complete h

theorem keepsLink_pushRec {r : Rec} (h : KeepsLink s t) : KeepsLink s (t.pushRec r) := by
  refine h.trans ?_
  unfold State.pushRec
  by_cases hl : t.host.recs.length < recFifoSize
  · exact keepsLink_of_host (if_pos hl) rfl rfl rfl rfl (fun _ hy => hy)
  · exact keepsLink_of_host (if_neg hl) rfl rfl rfl rfl (fun _ hy => hy)

theorem keepsLink_eventTo {ws : List Word} (h : KeepsLink s t) : KeepsLink s (t.eventTo f ws) := by
  unfold State.eventTo
  split
  · exact keepsLink_pushRec h
  · exact h.trans (keepsLink_of_host rfl rfl rfl rfl rfl (fun _ hy => hy))

theorem keepsLink_queueEvent {ws : List Word} (h : KeepsLink s t) : KeepsLink s (t.queueEvent ws) := by
  refine h.trans ?_
  unfold State.queueEvent
  repeat' split
  · exact keepsLink_of_host rfl rfl rfl rfl rfl (fun _ hy => hy)
  · exact keepsLink_of_host rfl rfl rfl rfl rfl (fun _ hy => hy)
  · exact keepsLink_refl

theorem keepsLink_post {ty k i : Nat} {d : List Word} (h : KeepsLink s t) : KeepsLink s (t.post ty k i d) := by
  unfold State.post
  split
  · exact keepsLink_queueEvent (keepsLink_eventTo (keepsLink_eventTo h))
  · exact h

theorem keepsLink_log {code cls kind index sub strikes value : Nat} (h : KeepsLink s t) :
    KeepsLink s (t.log code cls kind index sub strikes value) := by
  unfold State.log
  split
  · exact keepsLink_post (h.trans (keepsLink_of_host rfl rfl rfl rfl rfl (fun _ hy => hy)))
  · exact h

theorem keepsLink_setReady {r : FRef} {v : Bool} (h : KeepsLink s t) : KeepsLink s (t.setReady r v) := by
  have shown : KeepsLink s (t.putB r v).showCrateReady := h.trans (keepsLink_of_host rfl rfl rfl rfl rfl (fun _ hy => hy))
  unfold State.setReady State.changeReady
  split
  · exact shown
  · exact doIf_induction (P := KeepsLink s) shown (fun hu => forAll_induction (P := KeepsLink s)
      (hu.trans (keepsLink_of_host rfl rfl rfl rfl rfl (fun _ hy => hy))) (fun _ _ _ hv => keepsLink_post hv))

theorem keepsLink_sendItem {i : SafItem} (h : KeepsLink s t) : KeepsLink s (t.sendItem i) := by
  cases i with
  | report ws => exact keepsLink_pushRec h
  | event typ index data => exact keepsLink_queueEvent (keepsLink_eventTo (keepsLink_eventTo h))

theorem keepsLink_modSaf {g : Saf → Saf} (h : KeepsLink s t) : KeepsLink s (t.modSaf g) :=
  h.trans (keepsLink_of_host rfl rfl rfl rfl rfl (fun _ hy => hy))

theorem keepsLink_sendFabric {i : SafItem} (h : KeepsLink s t) : KeepsLink s (t.sendFabric i) := by
  unfold State.sendFabric State.flushItems
  exact doIf_induction (P := KeepsLink s) (keepsLink_modSaf h) (fun hu => keepsLink_modSaf
    (forAll_induction (P := KeepsLink s) hu (fun _ _ _ hv => keepsLink_sendItem hv)))

theorem keepsLink_abandonConfig (h : KeepsLink s t) : KeepsLink s t.abandonConfig := by
  have left : KeepsLink t t.leaveConfig :=
    (ev_leaveConfig (L := [.regs, .saf]) (by decide) (by decide) ev_refl).1.keepsLink (by decide)
  unfold State.abandonConfig
  exact doIf_induction (P := KeepsLink s) h (fun hu => keepsLink_sendFabric (hu.trans left))

/-! ## The shot engine stops for a reset of PF0 -/

theorem keepsLink_showShot (h : KeepsLink s t) : KeepsLink s t.showShot :=
  h.trans ((ev_showShot (L := [.regs]) (by decide) ev_refl).1.keepsLink (by decide))

theorem keepsLink_modShot {g : Shot → Shot} (h : KeepsLink s t) : KeepsLink s (t.modShot g) :=
  h.trans (keepsLink_of_host rfl rfl rfl rfl rfl (fun _ hy => hy))

theorem keepsLink_setEngine {n : Nat} (h : KeepsLink s t) : KeepsLink s (t.setEngine n) :=
  keepsLink_showShot (h.trans (keepsLink_of_host rfl rfl rfl rfl rfl (fun _ hy => hy)))

theorem keepsLink_endCaptures {st : Nat} (h : KeepsLink s t) : KeepsLink s (t.endCaptures c st) := by
  have ended : KeepsLink t (t.endDump c st) := endDump_induction (P := KeepsLink t) keepsLink_refl
    (fun _ _ _ _ => keepsLink_completeOpt (keepsLink_of_host rfl rfl rfl rfl rfl (fun _ hy => hy)))
    (fun _ _ _ hu => hu.trans ((ev_freeBuf (L := [.bank, .chans]) (by decide) (by decide) ev_refl).1.keepsLink (by decide)))
    (fun _ _ _ _ hu => hu.trans ((ev_modBuf (L := [.chans]) (by decide) ev_refl).1.keepsLink (by decide)))
  exact (h.trans ended).trans (keepsLink_of_host rfl rfl rfl rfl rfl (fun _ hy => hy))

theorem keepsLink_cancelSwap (h : KeepsLink s t) : KeepsLink s t.cancelSwap := by
  unfold State.cancelSwap
  split
  · exact h
  · dsimp only
    split
    · exact keepsLink_showShot (keepsLink_modShot h)
    · exact keepsLink_complete (keepsLink_showShot (keepsLink_modShot h))

theorem keepsLink_toIdle {st : Nat} (h : KeepsLink s t) : KeepsLink s (t.toIdle st) := by
  have idled : KeepsLink s t.idled := keepsLink_cancelSwap (keepsLink_setEngine (keepsLink_modShot h))
  have stopped : KeepsLink s (forAll t.idled.shot.stopCmds (fun u ref => u.complete ref stOK 0 0) t.idled) :=
    forAll_induction (P := KeepsLink s) idled (fun _ _ _ hu => keepsLink_complete hu)
  unfold State.toIdle
  refine forAll_induction (P := KeepsLink s) (keepsLink_modShot ?_) (fun _ _ _ hu => keepsLink_endCaptures hu)
  split
  · exact stopped
  · exact keepsLink_complete stopped

theorem keepsLink_stopForReset (h : KeepsLink s t) : KeepsLink s t.stopForReset := by
  have shown : KeepsLink s (t.modShot (fun h => { h with swap := none, startCmd := none })).showShot :=
    keepsLink_showShot (keepsLink_modShot h)
  unfold State.stopForReset State.stopEngine
  dsimp only
  split
  · exact shown
  · split
    · exact keepsLink_setEngine (keepsLink_modShot shown)
    · exact keepsLink_toIdle (keepsLink_setEngine (keepsLink_modShot shown))

theorem regs_stopForReset : OnlyRegs (engineRegs ++ dumpRegs) s s.stopForReset := by
  have engine : ∀ b ∈ engineRegs, b ∈ engineRegs ++ dumpRegs := fun _ h => List.mem_append_left _ h
  have shown : OnlyRegs (engineRegs ++ dumpRegs) s (s.modShot (fun h => { h with swap := none, startCmd := none })).showShot :=
    regs_showShot engine (regs_modShot onlyRegs_refl)
  unfold State.stopForReset State.stopEngine
  dsimp only
  split
  · exact shown
  · split
    · exact regs_setEngine engine (regs_modShot shown)
    · exact onlyRegs_trans (regs_setEngine engine (regs_modShot shown)) regs_toIdle

/-- The registers that the end of CONFIG writes. -/
def configEndRegs : List Nat := SAF_STAT :: SAF_UNLOCK :: (startUpRegs ++ eventRegs)

theorem regs_sendFabric {i : SafItem} {l : List Nat} (hl : ∀ b ∈ eventRegs, b ∈ l) (h : OnlyRegs l s t) :
    OnlyRegs l s (t.sendFabric i) :=
  regs_doIf (fun _ hu => regs_modSaf (regs_forAll (fun _ _ hv => regs_sendItem hl hv) hu)) (regs_modSaf h)

theorem regs_abandonConfig : OnlyRegs configEndRegs s s.abandonConfig := by
  have start : ∀ b ∈ startUpRegs, b ∈ configEndRegs := fun b hb => by simp [configEndRegs, hb]
  have event : ∀ b ∈ eventRegs, b ∈ configEndRegs := fun b hb => by simp [configEndRegs, hb]
  have left : OnlyRegs configEndRegs s s.leaveConfig :=
    onlyRegs_trans (regs_put (by decide) (regs_put (by decide) onlyRegs_refl)) (onlyRegs_mono start regs_startUp)
  unfold State.abandonConfig
  exact doIf_induction (P := OnlyRegs configEndRegs s) onlyRegs_refl (fun _ => regs_sendFabric event left)

end Sys2Proof.Machine
end

section
/-! PROOFS. Function-level reset (R394, R406): what it drops, and what of the other function and of the link it leaves. -/

namespace Sys2Proof.Machine

variable {s t u : State} {f g : Func}

/-! ## The parts of a function-level reset (R394) -/

/-- What a function-level reset of f does to its link, its rings and its commands. -/
structure ResetsFn (f : Func) (s t : State) : Prop where
  fn : t.fn f = Fn.reset
  others : ∀ g, g ≠ f → t.fn g = s.fn g
  reads : t.host.reads = s.host.reads.filter (fun r => decide (r.func ≠ f))
  readQ : t.host.readQ = s.host.readQ.filter (fun r => decide (r.func ≠ f))
  cmds : ∀ x, x ∈ t.host.cmds → x ∈ s.host.cmds ∧ x.func ≠ f
  ring : ∀ r, ringOwner r = f → (t.ring r).st = .disabled ∧ (t.ring r).gen = (s.ring r).gen
  rings : ∀ r, ringOwner r ≠ f → t.ring r = s.ring r
  count : t.rd (HIF_FN_STAT_flr_ct (fnIdx f)) = s.rd (HIF_FN_STAT_flr_ct (fnIdx f))
  cfg : t.reg (HIF_FN_CFG (fnIdx f)) = resetWord (HIF_FN_CFG (fnIdx f))

/-- A ring keeps its generation alone, where it is one of those listed. -/
theorem State.ring_forAll_reset {l : List Nat} {r : RingId} :
    ((forAll l (fun t n => t.modRing (BitVec.ofNat 16 n) (fun g => { Ring.reset with gen := g.gen })) s).ring r
        = { Ring.reset with gen := (s.ring r).gen })
    ∨ ((∀ n, n ∈ l → BitVec.ofNat 16 n ≠ r)
      ∧ (forAll l (fun t n => t.modRing (BitVec.ofNat 16 n) (fun g => { Ring.reset with gen := g.gen })) s).ring r = s.ring r) := by
  induction l generalizing s with
  | nil => exact .inr ⟨by simp, rfl⟩
  | cons n l ih =>
    rw [forAll_cons]
    by_cases hn : BitVec.ofNat 16 n = r
    · refine .inl ?_
      rcases ih (s := s.modRing (BitVec.ofNat 16 n) (fun g => { Ring.reset with gen := g.gen })) with h | ⟨-, h⟩
      · rw [h, hn, State.ring_modRing_same]
      · rw [h, hn, State.ring_modRing_same]
    · rcases ih (s := s.modRing (BitVec.ofNat 16 n) (fun g => { Ring.reset with gen := g.gen })) with h | ⟨hl, h⟩
      · exact .inl (by rw [h, State.ring_modRing_ne hn])
      · refine .inr ⟨fun m hm => ?_, by rw [h, State.ring_modRing_ne hn]⟩
        rcases List.mem_cons.mp hm with rfl | hm
        · exact hn
        · exact hl m hm

/-- The rings of function f are DISABLED under their generations. -/
theorem State.ring_dropRings_mine {r : RingId} (ho : ringOwner r = f) :
    (s.dropRings f).ring r = { Ring.reset with gen := (s.ring r).gen } := by
  refine (State.ring_forAll_reset (s := s) (r := r)).elim id (fun ⟨hl, h⟩ => ?_)
  have unlisted : r.toNat ∉ s.rings.map Prod.fst := fun hr => hl r.toNat
    (List.mem_filter.mpr ⟨hr, by simp [ho]⟩) (by simp)
  have reset : s.ring r = Ring.reset := sparseGet_of_unlisted unlisted
  exact h.trans (by rw [reset])

theorem State.ring_dropRings_other {r : RingId} (ho : ringOwner r ≠ f) : (s.dropRings f).ring r = s.ring r :=
  forAll_induction (P := fun t => t.ring r = s.ring r) rfl (fun u n hn hu => by
    refine (State.ring_modRing_ne (fun he => ho ?_)).trans hu
    rw [← he]
    simpa using (List.mem_filter.mp hn).2)

theorem keepsLink_dropRings : KeepsLink s (s.dropRings f) :=
  (forAll_induction (P := KeepsLink s) keepsLink_refl
    (fun _ _ _ hu => hu.trans (onlyChanges_modRing.keepsLink (by decide)))).trans
    (keepsLink_of_host rfl rfl rfl rfl rfl (fun _ hy => hy))

theorem keepsLink_dropRecs : KeepsLink s (s.dropRecs f) := by
  unfold State.dropRecs
  exact doIf_induction (P := KeepsLink s) (keepsLink_of_host rfl rfl rfl rfl rfl (fun _ hy => hy)) (fun hu => keepsLink_log hu)

theorem regs_dropRecs : OnlyRegs logRegs s (s.dropRecs f) := by
  have filtered : OnlyRegs logRegs s (s.modHost (fun h => h.setRecs (h.allRecs.filter (fun c => !decide (ringOwner c.ring = f))))) :=
    regs_modHost onlyRegs_refl
  unfold State.dropRecs
  exact doIf_induction (P := OnlyRegs logRegs s) filtered (fun hu => regs_log (fun _ h => h) hu)

/-- Where a function's requests and commands have been dropped, its configuration and its registers are reset. -/
theorem State.resetFn_spec : (s.resetFn f).fn f = Fn.reset ∧ (∀ g, g ≠ f → (s.resetFn f).fn g = s.fn g)
    ∧ (s.resetFn f).host.reads = s.host.reads ∧ (s.resetFn f).host.readQ = s.host.readQ
    ∧ (s.resetFn f).host.cmds = s.host.cmds := by
  cases f with
  | pf0 => exact ⟨rfl, fun g hg => by cases g with | pf0 => exact absurd rfl hg | pf1 => rfl, rfl, rfl, rfl⟩
  | pf1 => exact ⟨rfl, fun g hg => by cases g with | pf0 => rfl | pf1 => exact absurd rfl hg, rfl, rfl, rfl⟩

theorem State.rd_resetFn : (s.resetFn f).rd (HIF_FN_STAT_flr_ct (fnIdx f)) = s.rd (HIF_FN_STAT_flr_ct (fnIdx f)) :=
  State.rd_put_of_lt (by cases f <;> decide) State.rd_lt

/-- The registers of a function that its reset writes after HIF_FN_CFG. -/
def fnResetRegs (f : Func) : List Nat :=
  [HIF_CTX_BASE_LO (fnIdx f), HIF_CTX_BASE_HI (fnIdx f), HIF_FN_ERR (fnIdx f), HIF_FN_STAT (fnIdx f)]

theorem State.reg_resetFn : (s.resetFn f).reg (HIF_FN_CFG (fnIdx f)) = resetWord (HIF_FN_CFG (fnIdx f)) := by
  have rest : OnlyRegs (fnResetRegs f) ((s.setFn f Fn.reset).setReg (HIF_FN_CFG (fnIdx f)) (resetWord (HIF_FN_CFG (fnIdx f))))
      (s.resetFn f) := by
    unfold State.resetFn
    refine regs_put ?_ (regs_setReg ?_ (regs_setReg ?_ (regs_setReg ?_ (regs_setReg ?_ onlyRegs_refl)))) <;> cases f <;> decide
  rw [rest _ (by cases f <;> decide), State.reg_setReg_same]

/-- The reset of a function before what it has under way is ended. -/
def State.fnReset (s : State) (f : Func) : State :=
  ((((s.dropRings f).dropRecs f).dropCmds f).resetFn f).modShot (fun h => { h with
    stopCmds := h.stopCmds.filter (fun r => decide (ringOwner r.ring ≠ f)) })

theorem ev_fnReset : Evolves [.regs, .host, .flt, .shot] (s.dropRings f) (s.fnReset f) :=
  ev_modShot (by decide) (ev_resetFn (by decide) (by decide) (ev_dropCmds (by decide) (by decide)
    (ev_dropRecs (by decide) (by decide) (by decide) ev_refl)))

theorem State.ring_fnReset {r : RingId} : (s.fnReset f).ring r = (s.dropRings f).ring r := ev_fnReset.1.ring (by decide) r

/-- What a reset of f did, running operations leave, where they write no register of the function. -/
theorem ResetsFn.trans (h : ResetsFn f s t) (kept : KeepsLink t u) (rings : ∀ r, u.ring r = t.ring r)
    (count : u.rd (HIF_FN_STAT_flr_ct (fnIdx f)) = t.rd (HIF_FN_STAT_flr_ct (fnIdx f)))
    (cfg : u.reg (HIF_FN_CFG (fnIdx f)) = t.reg (HIF_FN_CFG (fnIdx f))) : ResetsFn f s u where
  fn := (kept.fn f).trans h.fn
  others g hg := (kept.fn g).trans (h.others g hg)
  reads := kept.reads.trans h.reads
  readQ := kept.readQ.trans h.readQ
  cmds x hx := h.cmds x (kept.cmds x hx)
  ring r hr := by rw [rings]; exact h.ring r hr
  rings r hr := (rings r).trans (h.rings r hr)
  count := count.trans h.count
  cfg := cfg.trans h.cfg

theorem ResetsFn.reads_other (h : ResetsFn f s t) : ∀ x, x ∈ t.host.reads → x.func ≠ f := fun x hx => by
  rw [h.reads] at hx
  exact of_decide_eq_true (List.mem_filter.mp hx).2

theorem ResetsFn.readQ_other (h : ResetsFn f s t) : ∀ x, x ∈ t.host.readQ → x.func ≠ f := fun x hx => by
  rw [h.readQ] at hx
  exact of_decide_eq_true (List.mem_filter.mp hx).2

/-- The requests and the commands of f alone are dropped. -/
theorem State.dropCmds_spec : (∀ g, (s.dropCmds f).fn g = s.fn g)
    ∧ (s.dropCmds f).host.reads = s.host.reads.filter (fun r => decide (r.func ≠ f))
    ∧ (s.dropCmds f).host.readQ = s.host.readQ.filter (fun r => decide (r.func ≠ f))
    ∧ (s.dropCmds f).host.cmds = s.host.cmds.filter (fun c => decide (c.func ≠ f)) :=
  ⟨fun g => by cases g <;> rfl, rfl, rfl, rfl⟩

/-- Up to the drop of its commands a reset of f writes no register of a function. -/
theorem regs_drops : OnlyRegs (GLB_TXN_STAT :: logRegs) s (((s.dropRings f).dropRecs f).dropCmds f) := by
  have rings : OnlyRegs (GLB_TXN_STAT :: logRegs) s (s.dropRings f) :=
    (ev_dropRings (L := [.host, .rings]) (by decide) (by decide) ev_refl).1.onlyRegs (by decide)
  have recs : OnlyRegs (GLB_TXN_STAT :: logRegs) s ((s.dropRings f).dropRecs f) :=
    onlyRegs_trans rings (onlyRegs_mono (fun _ h => List.mem_cons_of_mem _ h) regs_dropRecs)
  unfold State.dropCmds
  exact regs_put (List.mem_cons_self ..) (regs_modHost recs)

theorem resetsFn_fnReset : ResetsFn f s (s.fnReset f) := by
  have dropped : KeepsLink s ((s.dropRings f).dropRecs f) := keepsLink_dropRings.trans keepsLink_dropRecs
  have ended : KeepsLink ((((s.dropRings f).dropRecs f).dropCmds f).resetFn f) (s.fnReset f) := keepsLink_modShot keepsLink_refl
  have regs : OnlyRegs [] ((((s.dropRings f).dropRecs f).dropCmds f).resetFn f) (s.fnReset f) := regs_modShot onlyRegs_refl
  obtain ⟨fn, others, reads, readQ, cmds⟩ := State.resetFn_spec (s := ((s.dropRings f).dropRecs f).dropCmds f) (f := f)
  obtain ⟨fnC, readsC, readQC, cmdsC⟩ := State.dropCmds_spec (s := (s.dropRings f).dropRecs f) (f := f)
  exact {
    fn := (ended.fn f).trans fn
    others := fun g hg => by rw [ended.fn, others g hg, fnC, dropped.fn]
    reads := by rw [ended.reads, reads, readsC, dropped.reads]
    readQ := by rw [ended.readQ, readQ, readQC, dropped.readQ]
    cmds := fun x hx => by
      have kept := ended.cmds x hx
      rw [cmds, cmdsC] at kept
      obtain ⟨hin, hne⟩ := List.mem_filter.mp kept
      exact ⟨dropped.cmds x hin, of_decide_eq_true hne⟩
    ring := fun r hr => by rw [State.ring_fnReset, State.ring_dropRings_mine hr]; exact ⟨rfl, rfl⟩
    rings := fun r hr => by rw [State.ring_fnReset, State.ring_dropRings_other hr]
    count := by rw [regs.rd List.not_mem_nil, State.rd_resetFn, regs_drops.rd (by cases f <;> decide)]
    cfg := by rw [regs _ List.not_mem_nil, State.reg_resetFn] }

end Sys2Proof.Machine
end

section
/-! PROOFS. FUNCTION_LEVEL_RESET and PERST_N (R394, R395, R406). -/

namespace Sys2Proof.Machine

variable {s t u : State} {f g : Func}

/-- What runs after a reset of f and changes none of its registers, nor a ring or a request, leaves what it did. -/
theorem ResetsFn.of_evolves {L : List Part} {regs : List Nat} (h : ResetsFn f s t) (kept : KeepsLink t u) (ev : Evolves L t u)
    (hr : OnlyRegs regs t u) (hp : Part.rings ∉ L) (hs : HIF_FN_STAT (fnIdx f) ∉ regs) (hc : HIF_FN_CFG (fnIdx f) ∉ regs) :
    ResetsFn f s u :=
  h.trans kept (fun r => ev.1.ring hp r) (hr.rd hs) (hr _ hc)

theorem State.functionReset_pf0 : s.functionReset .pf0 = (s.fnReset .pf0).orphanCrates.stopForReset := rfl

theorem State.functionReset_pf1 :
    s.functionReset .pf1 = ((s.fnReset .pf1).modSaf (fun x => { x with keyBy := none })).abandonConfig := rfl

/-- The crates lose PF0's commands, and the shot engine stops. -/
theorem resetsFn_functionReset_pf0 : ResetsFn .pf0 s (s.functionReset .pf0) := by
  have orphaned : Evolves [.crates, .chans] (s.fnReset .pf0) (s.fnReset .pf0).orphanCrates :=
    ev_orphanCrates (by decide) (by decide) ev_refl
  have stopped : Evolves [.regs, .bank, .crates, .chans, .shot, .host] (s.fnReset .pf0).orphanCrates
      (s.fnReset .pf0).orphanCrates.stopForReset :=
    ev_stopForReset (by decide) (by decide) (by decide) (by decide) (by decide) (by decide) ev_refl
  rw [State.functionReset_pf0]
  exact (resetsFn_fnReset.of_evolves (orphaned.1.keepsLink (by decide)) orphaned (orphaned.1.onlyRegs (by decide) (l := []))
    (by decide) List.not_mem_nil List.not_mem_nil).of_evolves (keepsLink_stopForReset keepsLink_refl) stopped
    regs_stopForReset (by decide) (by decide) (by decide)

/-- The safety configuration unlock is cleared, and CONFIG is left. -/
theorem resetsFn_functionReset_pf1 : ResetsFn .pf1 s (s.functionReset .pf1) := by
  have unlocked : Evolves [.saf] (s.fnReset .pf1) ((s.fnReset .pf1).modSaf (fun x => { x with keyBy := none })) :=
    ev_modSaf (by decide) (fun _ h => h) ev_refl
  have left : Evolves [.regs, .host, .saf] ((s.fnReset .pf1).modSaf (fun x => { x with keyBy := none }))
      ((s.fnReset .pf1).modSaf (fun x => { x with keyBy := none })).abandonConfig :=
    ev_abandonConfig (by decide) (by decide) (by decide) ev_refl
  rw [State.functionReset_pf1]
  exact (resetsFn_fnReset.of_evolves (keepsLink_modSaf keepsLink_refl) unlocked (unlocked.1.onlyRegs (by decide) (l := []))
    (by decide) List.not_mem_nil List.not_mem_nil).of_evolves (keepsLink_abandonConfig keepsLink_refl) left
    regs_abandonConfig (by decide) (by decide) (by decide)

theorem resetsFn_functionReset : ResetsFn f s (s.functionReset f) := by
  cases f with
  | pf0 => exact resetsFn_functionReset_pf0
  | pf1 => exact resetsFn_functionReset_pf1

theorem exec_functionLevelReset (hs : s.fabricReady = true) (hl : s.flag HIF_LINK_up = true) :
    exec (.functionLevelReset f) s = .next ((s.bump (HIF_FN_STAT_flr_ct (fnIdx f)) 1).functionReset f) := by
  show execFunctionLevelReset f s = _
  unfold execFunctionLevelReset
  rw [hs, hl]
  rfl

/-! ## PERST_N -/

/-- After both resets nothing is asked for or under way on the host interface. -/
theorem State.resets_both (h0 : ResetsFn .pf0 s t) (h1 : ResetsFn .pf1 t u) :
    (∀ f, u.fn f = Fn.reset) ∧ u.host.cmds = [] ∧ u.host.reads = [] ∧ u.host.readQ = [] ∧ ∀ r, (u.ring r).st = .disabled := by
  have either : ∀ g : Func, g = .pf0 ∨ g = .pf1 := fun g => by cases g <;> simp
  refine ⟨fun f => ?_, ?_, ?_, ?_, fun r => ?_⟩
  · cases f with
    | pf0 => exact (h1.others .pf0 (by decide)).trans h0.fn
    | pf1 => exact h1.fn
  · refine List.eq_nil_iff_forall_not_mem.mpr (fun x hx => ?_)
    obtain ⟨hin, hne⟩ := h1.cmds x hx
    exact (either x.func).elim (h0.cmds x hin).2 hne
  · rw [h1.reads, h0.reads, List.filter_filter]
    exact List.filter_eq_nil_iff.mpr (fun x _ => by rcases either x.func with h | h <;> simp [h])
  · rw [h1.readQ, h0.readQ, List.filter_filter]
    exact List.filter_eq_nil_iff.mpr (fun x _ => by rcases either x.func with h | h <;> simp [h])
  · by_cases h : ringOwner r = .pf1
    · exact (h1.ring r h).1
    · rw [h1.rings r h]
      exact (h0.ring r ((either _).resolve_right h)).1

/-- The registers of the link are cleared. -/
def State.linkCleared (s : State) : State :=
  ((s.setReg HIF_LINK 0).setReg (HIF_FN_STAT 0) 0).setReg (HIF_FN_STAT 1) 0

theorem State.linkReset_eq :
    s.linkReset = (((s.functionReset .pf0).functionReset .pf1).linkCleared).setReady GLB_READY_link false := rfl

theorem exec_perstN (h : s.running = true) : exec .perstN s = .next s.linkReset := by
  show execPerstN s = _
  unfold execPerstN
  rw [h, doIf_true]

/-- What the clearing of the link's registers does to them. -/
theorem State.reg_linkCleared : s.linkCleared.reg HIF_LINK = 0 ∧ s.linkCleared.reg (HIF_FN_STAT 0) = 0
    ∧ s.linkCleared.reg (HIF_FN_STAT 1) = 0 := by
  refine ⟨?_, ?_, State.reg_setReg_same⟩ <;> unfold State.linkCleared
  · rw [State.reg_setReg_ne (by decide), State.reg_setReg_ne (by decide), State.reg_setReg_same]
  · rw [State.reg_setReg_ne (by decide), State.reg_setReg_same]

end Sys2Proof.Machine
end

section
/-! PROOFS. The link, configuration space and the MSI-X table (R352, R355, R379, R393, R551). -/

namespace Sys2Proof.Machine

variable {s t : State} {f : Func} {w v : BitVec 4} {x : CfgSpace}

/-! ## Link up and down -/

/-- HIF_LINK as a link that trains sets it. -/
def State.linkUp (s : State) (w v : BitVec 4) : State :=
  ((s.putB HIF_LINK_up true).put HIF_LINK_width w.toNat).put HIF_LINK_speed v.toNat

theorem regs_linkUp : OnlyRegs [HIF_LINK] s (s.linkUp w v) :=
  regs_put (by decide) (regs_put (by decide) (regs_putB (by decide) onlyRegs_refl))

theorem State.linkUp_fields : (s.linkUp w v).flag HIF_LINK_up = true ∧ (s.linkUp w v).rd HIF_LINK_width = w.toNat
    ∧ (s.linkUp w v).rd HIF_LINK_speed = v.toNat := by
  refine ⟨?_, ?_, State.rd_put_of_lt (by decide) v.isLt⟩ <;> unfold State.linkUp
  · rw [State.flag_put_beside (by rfl), State.flag_put_beside (by rfl), State.flag_putB_same (by decide) rfl]
  · rw [State.rd_put_beside (by rfl), State.rd_put_of_lt (by decide) w.isLt]

/-- The register fabric serves accesses whatever HIF_LINK shows. -/
theorem State.fabricReady_linkUp : (s.linkUp w v).fabricReady = s.fabricReady := by
  unfold State.fabricReady
  have live : (s.linkUp w v).fabricLive = s.fabricLive := State.fabricLive_congr rfl (regs_linkUp _ (by decide))
  rw [live, (regs_linkUp (s := s) (w := w) (v := v)).flag (by decide)]

theorem regs_issueReads {l : List Nat} (h : OnlyRegs l s t) : OnlyRegs l s t.issueReads := regs_modHost h

theorem exec_hostLinkUp (hr : s.running = true) (hx : s.clk.xtalLost = false) (hf : s.fabricReady = true)
    (hl : s.flag HIF_LINK_up = false) :
    exec (.hostLinkUp w v) s = .next ((s.linkUp w v).setReady GLB_READY_link true).showFns.issueReads := by
  show execHostLinkUp w v s = _
  have ready : (((s.putB HIF_LINK_up true).put HIF_LINK_width w.toNat).put HIF_LINK_speed v.toNat).fabricReady = true :=
    State.fabricReady_linkUp.trans hf
  unfold execHostLinkUp
  rw [hr, hx, hl]
  refine (congrArg Host.Outcome.next (doIf_true ..)).trans ?_
  dsimp only
  rw [ready, doIf_true]
  rfl

/-- HIF_LINK of a link that is down. -/
def State.linkDown (s : State) : State :=
  ((s.putB HIF_LINK_up false).put HIF_LINK_width 0).put HIF_LINK_speed 0

theorem regs_linkDown : OnlyRegs [HIF_LINK] s s.linkDown :=
  regs_put (by decide) (regs_put (by decide) (regs_putB (by decide) onlyRegs_refl))

theorem State.linkDown_up : s.linkDown.flag HIF_LINK_up = false := by
  unfold State.linkDown
  rw [State.flag_put_beside (by rfl), State.flag_put_beside (by rfl), State.flag_putB_same (by decide) rfl]

theorem exec_linkDown (hl : s.flag HIF_LINK_up = true) (hx : s.clk.xtalLost = false) :
    exec .linkDown s = .next (s.linkDown.setReady GLB_READY_link false).showFns := by
  show execLinkDown s = _
  unfold execLinkDown
  rw [hl, hx]
  rfl

/-- The ready bit of the link shows what it is set to. -/
theorem State.flag_setReady_link {b : Bool} : (s.setReady GLB_READY_link b).flag GLB_READY_link = b :=
  flag_setReady rfl (by decide) rfl (by decide) (by decide)

/-- A change of the link writes HIF_LINK, the ready bit and HIF_FN_STAT. -/
theorem regs_linkShown {u : State} {b : Bool} (h : OnlyRegs [HIF_LINK] s u) :
    OnlyRegs (HIF_LINK :: HIF_FN_STAT 0 :: HIF_FN_STAT 1 :: readyRegs) s (u.setReady GLB_READY_link b).showFns := by
  have ready : ∀ a ∈ readyRegs, a ∈ HIF_LINK :: HIF_FN_STAT 0 :: HIF_FN_STAT 1 :: readyRegs := fun a ha => by simp [ha]
  refine onlyRegs_trans (onlyRegs_trans (onlyRegs_mono (by simp) h) (onlyRegs_mono ready (regs_setReady_refl rfl)))
    (onlyRegs_mono (by simp) regs_showFns)

/-- HIF_LINK stays while the ready bit changes and the functions follow. -/
theorem State.link_shown {b : Bool} : (s.setReady GLB_READY_link b).showFns.reg HIF_LINK = s.reg HIF_LINK := by
  rw [regs_showFns _ (by decide), regs_setReady_refl (s := s) rfl _ (by decide)]

theorem State.ready_shown {b : Bool} : (s.setReady GLB_READY_link b).showFns.flag GLB_READY_link = b := by
  rw [regs_showFns.flag (by decide), State.flag_setReady_link]

/-! ## Configuration space -/

@[simp] theorem State.fn_setFn_same {y : Fn} : (s.setFn f y).fn f = y := by cases f <;> rfl

theorem State.fn_setFn_other {g : Func} {y : Fn} (h : g ≠ f) : (s.setFn f y).fn g = s.fn g := by
  cases f <;> cases g
  case pf0.pf0 => exact absurd rfl h
  case pf1.pf1 => exact absurd rfl h
  case pf0.pf1 => rfl
  case pf1.pf0 => rfl

theorem regs_setFn {y : Fn} : OnlyRegs [] s (s.setFn f y) := by cases f <;> exact fun _ _ => rfl

theorem State.irqs_setFn {y : Fn} : (s.setFn f y).host.irqs = s.host.irqs := by cases f <;> rfl

/-- What HIF_FN_STAT shows of configuration space. -/
theorem State.flags_showFn : (s.showFn f).flag (HIF_FN_STAT_bme (fnIdx f)) = (s.fn f).bme
    ∧ (s.showFn f).flag (HIF_FN_STAT_msix_en (fnIdx f)) = (s.fn f).msixEn := by
  constructor <;> unfold State.showFn
  · rw [State.flag_putB_beside (by cases f <;> rfl), State.flag_putB_beside (by cases f <;> rfl),
      State.flag_putB_same (by cases f <;> decide) rfl]
  · rw [State.flag_putB_beside (by cases f <;> rfl), State.flag_putB_same (by cases f <;> decide) rfl]

/-- The vectors whose messages an unmasking releases (R379). -/
def State.unmaskedPending (s : State) (f : Func) : List Nat := (s.fn f).pba.filter (fun v => !s.vectorMasked f v)

/-- What a function that sends messages sends, and what stays pending. -/
theorem State.sendPending_open (hm : s.master f = true) (he : (s.fn f).msixEn = true) :
    (s.sendPending f).fn f = { s.fn f with pba := (s.fn f).pba.filter (fun v => !(s.unmaskedPending f).contains v) }
    ∧ (s.sendPending f).host.irqs = s.host.irqs ++ (s.unmaskedPending f).map (fun v => (f, v)) := by
  unfold State.sendPending
  rw [if_pos ⟨hm, he⟩]
  cases f <;> exact ⟨rfl, rfl⟩

theorem State.sendPending_closed (h : ¬ (s.master f = true ∧ (s.fn f).msixEn = true)) : s.sendPending f = s := if_neg h

theorem regs_sendPending : OnlyRegs [] s (s.sendPending f) := by
  unfold State.sendPending
  split
  · exact onlyRegs_trans regs_setFn (regs_modHost onlyRegs_refl)
  · exact onlyRegs_refl

/-- With nothing pending no message goes out. -/
theorem State.sendPending_none (h : (s.fn f).pba = []) : (s.sendPending f).fn f = s.fn f
    ∧ (s.sendPending f).host.irqs = s.host.irqs := by
  by_cases hs : s.master f = true ∧ (s.fn f).msixEn = true
  · obtain ⟨fn, irqs⟩ := State.sendPending_open hs.1 hs.2
    have none : s.unmaskedPending f = [] := by rw [State.unmaskedPending, h]; rfl
    rw [fn, irqs, none, h]
    exact ⟨congrArg (fun p => { s.fn f with pba := p }) h.symm, List.append_nil _⟩
  · rw [State.sendPending_closed hs]
    exact ⟨rfl, rfl⟩

/-- The one pending message goes out, once its vector is not masked (R379). -/
theorem State.sendPending_one {n : Nat} (hm : s.master f = true) (he : (s.fn f).msixEn = true) (hp : (s.fn f).pba = [n])
    (hv : s.vectorMasked f n = false) : ((s.sendPending f).fn f).pba = [] ∧ (s.sendPending f).host.irqs = s.host.irqs ++ [(f, n)] := by
  obtain ⟨fn, irqs⟩ := State.sendPending_open hm he
  have one : s.unmaskedPending f = [n] := by simp [State.unmaskedPending, hp, hv]
  rw [fn, irqs, one, hp]
  exact ⟨by simp, rfl⟩

/-- Sending messages leaves the table of the vectors. -/
theorem State.msix_sendPending : ((s.sendPending f).fn f).msix = (s.fn f).msix := by
  by_cases hs : s.master f = true ∧ (s.fn f).msixEn = true
  · rw [(State.sendPending_open hs.1 hs.2).1]
  · rw [State.sendPending_closed hs]

/-- Configuration space of f after a write (R352, R356). -/
def writtenFn (x : CfgSpace) (y : Fn) : Fn :=
  { y with
    bme := x.bme, mse := x.mse, msixEn := x.msixEn, cplTmoMs := x.cplTmoMs, maxPayload := min x.maxPayload 512
    maxRead := min x.maxRead 4096, msixMask := x.msixMask, bar0 := barValue 20 x.bar0, bar2 := barValue 19 x.bar2
    bar4 := barValue 16 x.bar4, aer := y.aer.write x.aer }

/-- A configuration write, shown in HIF_FN_STAT. -/
def State.writeCfg (s : State) (f : Func) (x : CfgSpace) : State := (s.setFn f (writtenFn x (s.fn f))).showFn f

theorem State.fn_writeCfg : (s.writeCfg f x).fn f = writtenFn x (s.fn f) := by cases f <;> rfl

theorem State.irqs_writeCfg : (s.writeCfg f x).host.irqs = s.host.irqs := by cases f <;> rfl

theorem regs_writeCfg : OnlyRegs [HIF_FN_STAT (fnIdx f)] s (s.writeCfg f x) :=
  onlyRegs_trans (onlyRegs_mono (by simp) regs_setFn) (regs_showFn (List.mem_cons_self ..) onlyRegs_refl)

theorem State.flags_writeCfg : (s.writeCfg f x).flag (HIF_FN_STAT_bme (fnIdx f)) = x.bme
    ∧ (s.writeCfg f x).flag (HIF_FN_STAT_msix_en (fnIdx f)) = x.msixEn := by
  obtain ⟨bme, msixEn⟩ := State.flags_showFn (s := s.setFn f (writtenFn x (s.fn f))) (f := f)
  unfold State.writeCfg
  rw [bme, msixEn, State.fn_setFn_same]
  exact ⟨rfl, rfl⟩

theorem exec_configSpaceWrite (hf : s.fabricReady = true) (hl : s.flag HIF_LINK_up = true) :
    exec (.configSpaceWrite f x) s = .next ((s.writeCfg f x).sendPending f).issueReads := by
  show execConfigSpaceWrite f x s = _
  unfold execConfigSpaceWrite
  rw [hf, hl]
  rfl

/-- A write of the MSI-X table. -/
def State.setVector (s : State) (f : Func) (n : Nat) (e : MsixEntry) : State :=
  s.setFn f { s.fn f with msix := sparseSet (fun _ => MsixEntry.reset) (s.fn f).msix n e }

theorem State.fn_setVector {n : Nat} {e : MsixEntry} : (s.setVector f n e).fn f
    = { s.fn f with msix := sparseSet (fun _ => MsixEntry.reset) (s.fn f).msix n e } := State.fn_setFn_same

theorem State.master_setVector {n : Nat} {e : MsixEntry} : (s.setVector f n e).master f = s.master f :=
  State.master_congr (regs_setFn.flag List.not_mem_nil) (by rw [State.fn_setVector])

/-- The vector written is masked by its entry and by the function's mask. -/
theorem State.vectorMasked_setVector {n : Nat} {e : MsixEntry} :
    (s.setVector f n e).vectorMasked f n = ((s.fn f).msixMask || e.masked) := by
  unfold State.vectorMasked
  rw [State.fn_setVector, sparseGet_set_same]

theorem exec_msixTableWrite {n : BitVec 11} {e : MsixEntry} (hb : s.barLive f = true) (hn : n.toNat < vectorCount f) :
    exec (.msixTableWrite f n e) s = .next ((s.setVector f n.toNat e).sendPending f) := by
  show execMsixTableWrite f n e s = _
  unfold execMsixTableWrite
  rw [hb, decide_eq_true hn]
  rfl

/-! ## The obligation -/

/-- Settles O35: the link's and the functions' registers by what each command sets, the resets by what they drop. -/
theorem linkAndFunctions : Obligations.LinkAndFunctions := by
  unfold Obligations.LinkAndFunctions
  refine ⟨?up, ?down, ?config, ?msix, ?flr, ?perst⟩
  case up =>
    intro w v s running crystal fabric link
    obtain ⟨up, width, speed⟩ := State.linkUp_fields (s := s) (w := w) (v := v)
    have issued : OnlyRegs [] ((s.linkUp w v).setReady GLB_READY_link true).showFns
        ((s.linkUp w v).setReady GLB_READY_link true).showFns.issueReads := regs_issueReads onlyRegs_refl
    have shown := (issued HIF_LINK List.not_mem_nil).trans State.link_shown
    refine ⟨_, exec_hostLinkUp running crystal fabric link, (State.flag_congr shown).trans up, (State.rd_congr shown).trans width,
      (State.rd_congr shown).trans speed, (issued.flag List.not_mem_nil).trans State.ready_shown,
      regs_issueReads (regs_linkShown regs_linkUp)⟩
  case down =>
    intro s link crystal
    exact ⟨_, exec_linkDown link crystal, (State.flag_congr State.link_shown).trans State.linkDown_up, State.ready_shown,
      regs_linkShown regs_linkDown⟩
  case config =>
    intro f x s fabric link pending
    have none : ((s.writeCfg f x).fn f).pba = [] := by rw [State.fn_writeCfg]; exact pending
    obtain ⟨fn, irqs⟩ := State.sendPending_none none
    obtain ⟨bme, msixEn⟩ := State.flags_writeCfg (s := s) (f := f) (x := x)
    have sent : OnlyRegs [] (s.writeCfg f x) ((s.writeCfg f x).sendPending f).issueReads := regs_issueReads regs_sendPending
    have issued : ((s.writeCfg f x).sendPending f).issueReads.fn f = ((s.writeCfg f x).sendPending f).fn f := by cases f <;> rfl
    exact ⟨_, exec_configSpaceWrite fabric link, issued.trans (fn.trans State.fn_writeCfg),
      (sent.flag List.not_mem_nil).trans bme, (sent.flag List.not_mem_nil).trans msixEn,
      onlyRegs_trans regs_writeCfg (onlyRegs_mono (by simp) sent), irqs.trans State.irqs_writeCfg⟩
  case msix =>
    intro f v e s live inTable
    have fn : (s.setVector f v.toNat e).fn f = _ := State.fn_setVector
    refine ⟨_, exec_msixTableWrite live inTable, ?_, fun u hu => ?_, onlyRegs_trans regs_setFn regs_sendPending,
      fun pending => ?_, fun unmasked open_ pending master enabled => ?_⟩
    · rw [State.msix_sendPending, fn, sparseGet_set_same]
    · rw [State.msix_sendPending, fn, sparseGet_set_ne _ _ (Ne.symm hu)]
    · exact (State.sendPending_none (by rw [fn]; exact pending)).2.trans State.irqs_setFn
    · obtain ⟨rest, irqs⟩ := State.sendPending_one (State.master_setVector.trans master) (by rw [fn]; exact enabled)
        (by rw [fn]; exact pending) (by rw [State.vectorMasked_setVector, open_, unmasked]; rfl)
      exact ⟨irqs.trans (congrArg (· ++ [(f, v.toNat)]) State.irqs_setFn), rest⟩
  case flr =>
    intro f s fabric link
    have done := resetsFn_functionReset (s := s.bump (HIF_FN_STAT_flr_ct (fnIdx f)) 1) (f := f)
    have counted := State.rd_bump_same (s := s) (f := HIF_FN_STAT_flr_ct (fnIdx f)) (n := 1) (by cases f <;> decide)
    have bumped : OnlyChanges [.regs] s (s.bump (HIF_FN_STAT_flr_ct (fnIdx f)) 1) := (ev_bump (by decide) ev_refl).1
    refine ⟨_, exec_functionLevelReset fabric link, done.fn, done.count.trans counted, done.cfg,
      fun r hr => ?_, fun r hr => ?_, fun x hx => (done.cmds x hx).2, done.reads_other, done.readQ_other, fun g hg => ?_⟩
    · rw [← bumped.ring (by decide) r]
      exact done.ring r hr
    · exact (done.rings r hr).trans (bumped.ring (by decide) r)
    · exact (done.others g hg).trans ((bumped.keepsLink (by decide)).fn g)
  case perst =>
    intro s running
    obtain ⟨fn, cmds, reads, readQ, rings⟩ := State.resets_both (resetsFn_functionReset (s := s) (f := .pf0))
      (resetsFn_functionReset (f := .pf1))
    obtain ⟨link, stat0, stat1⟩ := State.reg_linkCleared (s := (s.functionReset .pf0).functionReset .pf1)
    have cleared : Evolves [.regs, .host] ((s.functionReset .pf0).functionReset .pf1) s.linkReset := by
      rw [State.linkReset_eq]
      exact ev_setReady (by decide) (by decide) (ev_setReg (by decide) (ev_setReg (by decide) (ev_setReg (by decide) ev_refl)))
    have kept : KeepsLink ((s.functionReset .pf0).functionReset .pf1) s.linkReset := by
      rw [State.linkReset_eq]
      exact keepsLink_setReady (keepsLink_of_host rfl rfl rfl rfl rfl (fun _ hy => hy))
    have regs : OnlyRegs readyRegs ((s.functionReset .pf0).functionReset .pf1).linkCleared s.linkReset := by
      rw [State.linkReset_eq]
      exact regs_setReady_refl rfl
    refine ⟨_, exec_perstN running, ?_, State.flag_setReady_link, fun f => (kept.fn f).trans (fn f), ?_, kept.reads.trans reads,
      kept.readQ.trans readQ, (regs _ (by decide)).trans stat0, (regs _ (by decide)).trans stat1, fun r => ?_⟩
    · have zero : s.linkReset.reg HIF_LINK = 0 := (regs _ (by decide)).trans link
      simp [State.flag, State.rd, show HIF_LINK_up.addr = HIF_LINK from rfl, zero, FRef.get]
    · exact List.eq_nil_iff_forall_not_mem.mpr (fun x hx => by simpa [cmds] using kept.cmds x hx)
    · rw [cleared.1.ring (by decide) r]
      exact rings r

end Sys2Proof.Machine
end
